-- ==== Sys2Proof/Word.lean ====
section
/-! DEFINITION. The word types of the YLN-720 and the names that every chapter of the manual shares:
lanes, line ends, access paths, lane selectors. -/

namespace Sys2Proof

/-- An octet, as the frames, records and images of R10 carry it. -/
abbrev Byte := BitVec 8

/-- One of the two independent halves of the module (R2): lane A with line 1, lane B with line 2. -/
inductive LaneId where
  | A
  | B
deriving DecidableEq, Repr

/-- The other lane of the module. -/
def LaneId.peer : LaneId → LaneId
  | .A => .B
  | .B => .A

/-- A coupler end that a lane terminates on its line (00, Terms: end 1, end 2). -/
inductive EndId where
  | e1
  | e2
deriving DecidableEq, Repr

/-- The other end of the same lane. -/
def EndId.other : EndId → EndId
  | .e1 => .e2
  | .e2 => .e1

/-- The access path of a dictionary access (R472, table Role of each access path). -/
inductive Path where
  | host
  | service (session : Fin 4)
  | remote
  | image
deriving DecidableEq, Repr

/-- The lane selector of an access (R255, R471). -/
inductive Sel where
  | acting
  | lane (x : LaneId)
deriving DecidableEq, Repr

/-- By which path and with which lane selector an entry is accessed. -/
structure Acc where
  path : Path
  sel : Sel
deriving DecidableEq, Repr

/-- The collectors of R404: one in each lane and one in the host front. -/
inductive CollectorId where
  | lane (x : LaneId)
  | module
deriving DecidableEq, Repr

@[simp] theorem LaneId.peer_peer (x : LaneId) : x.peer.peer = x := by cases x <;> rfl

@[simp] theorem LaneId.peer_ne (x : LaneId) : x.peer ≠ x := by cases x <;> decide

@[simp] theorem EndId.other_other (e : EndId) : e.other.other = e := by cases e <;> rfl

end Sys2Proof
end

