-- ==== Sys2Proof/Syntax.lean ====
section
/-! DEFINITION. The commands of the YLN-720: one constructor of `Instr` per row of
spec/opcode_table.json, with the operands that the row's rule leaves to the world outside
(an access's path and value, a frame, a measurement). Events that the manual names by a time
limit ("50 us have passed") are delivered when that time has passed; see the assumption log. -/

namespace Sys2Proof

/-- The 32-byte train directory entry of R191, bytes 0 to 29; bytes 23, 30 and 31 are reserved. -/
structure DirEntry where
  pos : BitVec 16
  uid : BitVec 64
  vehicle : BitVec 32
  vpos : BitVec 16
  flags : Byte
  lines : Byte
  quality : Byte
  rate1 : Byte
  rate2 : Byte
  supp1 : Byte
  supp2 : Byte
  digest : BitVec 32
  rejected : BitVec 16
deriving DecidableEq, Repr

/-- One 8-byte entry of a publication list (R216). -/
structure PubEntry where
  number : BitVec 16
  period : BitVec 4
  priority : BitVec 2
  size : BitVec 16
  held : BitVec 16
deriving DecidableEq, Repr

/-- The close fields of R197, bytes 12 to 33. -/
structure CloseFields where
  members : BitVec 16
  vehicles : BitVec 16
  stamp : BitVec 32
  rate1 : Byte
  rate2 : Byte
  flags : BitVec 16
  switchBeat : BitVec 64
  master : BitVec 16
deriving DecidableEq, Repr

/-- What follows the Roll subheader (R178). `malformed` stands for a reserved kind, a length that
does not match the kind, or fields that contradict each other (R177). -/
inductive RollBody where
  | start (code : Byte)
  | discovery (total : Nat) (entries : List DirEntry)
  | want (stamp : BitVec 32) (positions : List Nat)
  | list (digest : BitVec 32) (total : Nat) (entries : List PubEntry)
  | close (fields : CloseFields) (first : Nat) (frames : Nat) (entries : List DirEntry)
  | malformed
deriving DecidableEq, Repr

/-- A Roll frame: epoch of the header, subheader of R177, body of R178. -/
structure RollFrame where
  epoch : BitVec 16
  last : Bool
  index : BitVec 16
  origin : BitVec 64
  body : RollBody
deriving DecidableEq, Repr

/-- A message frame (R249): the header fields that messages use, the subheader and the data.
`srcUid` is the node UID of the source (R143, R254). -/
structure MsgFrame where
  srcUid : BitVec 64
  srcPos : BitVec 16
  stamp : BitVec 32
  session : BitVec 16
  seq : BitVec 16
  lastSeg : Bool
  kind : Byte
  op : Byte
  selection : Byte
  attempt : Byte
  target : BitVec 64
  transaction : BitVec 32
  object : BitVec 32
  offset : BitVec 32
  length : BitVec 32
  status : BitVec 32
  data : List Byte
  /-- the payload is shorter than the subheader (p below 32), whose missing bytes read 0 here -/
  short : Bool := false
deriving DecidableEq, Repr

/-- The header fields of an IEEE 1588 message that R281 and R282 check. -/
structure PtpHead where
  messageType : BitVec 4
  majorSdoId : BitVec 4
  version : BitVec 4
  domainNumber : Byte
  minorSdoId : Byte
  twoStep : Bool
deriving DecidableEq, Repr

/-- A Pdelay_Req that a port receives (R281, R282, R286): header, the asking node and port, the sequence number. -/
structure PdelayRequest where
  head : PtpHead
  clock : BitVec 64
  port : BitVec 16
  seqId : BitVec 16
deriving DecidableEq, Repr

/-- A Pdelay_Resp that a port receives (R281, R282, R286): header, the responder's turnaround in ns, and the sequence
number of the request that it answers. -/
structure PdelayAnswer where
  head : PtpHead
  turnaround : Int
  seqId : BitVec 16
deriving DecidableEq, Repr

/-- What a channel probe found (R110, R114): for each rate code the estimated margin in 0.01 dB, and that at each step
of the transmit swing. -/
structure Probe where
  margins : List Int
  swings : List (List Int)
deriving DecidableEq, Repr

/-- A Sync of the profile (R281 to R283). `tlv` says that the profile TLV of R283 stands. -/
structure SyncMsg where
  head : PtpHead
  tlv : Bool
  clock : BitVec 64
  port : BitVec 16
  seqId : BitVec 16
  origin : BitVec 64
  correction : Int
  domain : BitVec 64
  quality : Byte
  candidate : Bool
  epoch : BitVec 16
  /-- reserved bits of the flags (byte 57, bits 6 to 0) -/
  reserved : BitVec 7
  /-- source address of the frame -/
  source : BitVec 48
deriving DecidableEq, Repr

/-- A frame of the car bus (R306, R307). -/
structure CanFrame where
  ide : Bool
  fdf : Bool
  brs : Bool
  esi : Bool
  rtr : Bool
  ident : BitVec 29
  dlc : BitVec 4
  data : List Byte
deriving DecidableEq, Repr

/-- How a frame's FCS reads at its end (R151, R157): right, wrong, the complement of the right
value, or a symbol or uncorrected RS-FEC error inside the frame. -/
inductive Fcs where
  | good
  | bad
  | stomped
  | lineError
deriving DecidableEq, Repr

/-- What the PCS and the RS-FEC of a port have counted since the frame before, inside and outside frames (R168): 80B/81B
blocks that do not decode, RS-FEC frames with corrected symbols, RS-FEC frames that were not correctable. -/
structure FecCount where
  symbols : Nat
  corrected : Nat
  uncorrected : Nat
deriving DecidableEq, Repr

/-- A frame on the train line: the octets from the destination address to the last octet before the
FCS (R134), the state of the FCS, and what the port's PCS and RS-FEC counted up to its end. -/
structure LineFrame where
  bytes : List Byte
  fcs : Fcs
  fec : FecCount := ⟨0, 0, 0⟩
deriving DecidableEq, Repr

/-- What the local port fills into a frame as it hands it to the egress ports (R137, R143, R149): destination address, the
sender's position and stamp in force, and the sequence number. -/
structure FrameHead where
  dest : BitVec 48
  pos : BitVec 16
  stamp : BitVec 32
  seq : BitVec 16
deriving DecidableEq, Repr

/-- A frame at an egress port, by kind: one that the lane itself sends (R149), a Sync that it forwards with the train time
of its ingress (R285), or another frame that it forwards. -/
inductive OutFrame where
  | roll (h : FrameHead) (f : RollFrame)
  | msg (dest : BitVec 48) (f : MsgFrame)
  | echo (h : FrameHead) (six : Bool) (ident : BitVec 16) (data : List Byte)
  | sync (f : SyncMsg)
  | syncOn (f : SyncMsg) (ingress : Int)
  | pdelayReq (port : BitVec 16) (seqId : BitVec 16)
  | pdelayOn (port : BitVec 16) (seqId : BitVec 16) (ingress : Int) (clock : BitVec 64) (asker : BitVec 16)
  | pdelayResp (port : BitVec 16) (seqId : BitVec 16) (turnaround : Nat) (clock : BitVec 64) (asker : BitVec 16)
  | pause (quanta : BitVec 16)
  | forwarded (f : LineFrame)
deriving DecidableEq, Repr

/-- A frame at a line port: its octets, the train time of its decision point, and whether the other port is idle when an
egress in cut-through would begin (R150). -/
structure Arrival where
  frame : LineFrame
  time : BitVec 64
  idle : Bool
deriving DecidableEq, Repr

/-- A Roll frame at a port, from its header's epoch on: the payload's octets (R177, R178). -/
structure RollOctets where
  epoch : BitVec 16
  payload : List Byte
deriving DecidableEq, Repr

/-- A frame that firmware gives the local port to send (R149): a Roll frame, a message frame, a diagnostic frame of
EtherType 88B5h or 88B6h. The local port fills in header, address and ports. -/
inductive LocalFrame where
  | roll (f : RollFrame)
  | msg (f : MsgFrame)
  | echo (six : Bool) (ident : BitVec 16) (data : List Byte)
deriving DecidableEq, Repr

/-- From where a Roll frame reaches a lane (R176). -/
inductive RollSrc where
  | port (e : EndId)
  | peer
deriving DecidableEq, Repr

/-- Errors of the car bus as entry 4406h:03h codes them (R330). -/
inductive CanErr where
  | stuff
  | form
  | ack
  | bit1
  | bit0
  | crc
deriving DecidableEq, Repr

/-- The rails of a dual-rail pair as the collector decided them (R405): 10b, or invalid for the
third consecutive sample. -/
structure SourceHit where
  source : Nat
  invalid : Bool
  /-- the domain whose switch or converter raised source 1 or 3 (R408): bit of entry 1204h -/
  domain : Nat
deriving DecidableEq, Repr

/-- What a start finds changed in the two copies of a persistent value (R473): the value's index and subindex in one number,
and for each copy the bits, those of its CRC-32C included, that no longer read as they were written. -/
structure NvDamage where
  entry : Nat
  first : Nat
  second : Nat
deriving DecidableEq, Repr

/-- Which check of R430, R435 and R473 a lane start found, as read from its memories. -/
structure StartScan where
  /-- copies of the control block, 0 to 2, whose check fails (R430) -/
  spoiled : List Nat
  /-- the slot directly before the end fails its check (R435) -/
  torn : Bool
  /-- persistent values neither copy of which can be read, each by its index and subindex in one number (R473) -/
  lostValues : List Nat
  /-- every dual-rail pair passed the check of R406 -/
  selfTest : Bool
  /-- plan history entries whose check fails (R449), by their place from the oldest -/
  badHistory : List Nat
  /-- copies of the lost count on the die of the final-record block, 0 to 2, whose check fails (R440) -/
  dieSpoiled : List Nat := []
  /-- slots before a valid record whose check fails (R435) -/
  badSlots : List Nat := []
  /-- the torn slot cannot be verified as erased (R433, R435) -/
  tornBad : Bool := false
  /-- persistent values whose copies have changed bits (R473) -/
  damaged : List NvDamage := []
deriving DecidableEq, Repr

/-- What a re-plan measures at its start: V_req in mV (R450). -/
structure PlanInputs where
  vreq : Nat
deriving DecidableEq, Repr

/-- The converter temperature rise as a lane reads it: core converter and inlet in 0.1 °C, and the lane's power in mW
(R456). -/
structure RiseReading where
  converter : Int
  inlet : Int
  power : Nat
deriving DecidableEq, Repr

/-- Why a service session ends (R498). -/
inductive SessionEnd where
  | idle
  | age
  | frames
deriving DecidableEq, Repr

/-- Which transmit buffer's frame is on the car bus of each lane, none where none is (R325). -/
structure OnCarBus where
  a : Option (Fin 32) := none
  b : Option (Fin 32) := none
deriving DecidableEq, Repr

/-- The commands: one constructor per row of spec/opcode_table.json, in its order. `close`'s operand says whether the
wait for lists is over (R196), `patternEnable`'s which transmit buffers' frames are on the car buses (R325),
`bitTimingWrite`'s which car buses are not idle (R309); unless given, none of it holds. -/
inductive Instr where
  -- 01 the module and its connectors
  | presSClose
  | mated (reads : List (BitVec 4)) (temp : Int)
  | presSOpen
  | withdrawalConfirmed
  | reinsertionAfterWithdrawal
  | locate (acc : Acc) (n : BitVec 16)
  | locateExpiry
  -- 02 supply, domains, wake
  | supplyGood (volts : BitVec 16) (temp : Int)
  | coldStartRecheck (temp : Int)
  | warmUpEnd
  | holdUpCharged
  | supplyLost (volts : BitVec 16)
  | interruptionBridged (micros : BitVec 32) (lowest : BitVec 16) (volts : BitVec 16)
  | powerFailSequence
  | knock (line : LaneId) (end1 : Bool) (end2 : Bool)
  | hwake
  | fieldWake (x : LaneId) (pin : Fin 24)
  | wakeFromStandby (temp : Int)
  | localSleep (acc : Acc)
  | trainSleep (acc : Acc)
  | sleepBeat
  | sleepDeferredEnd
  | sleepEntry
  | peerLaneSleep (acc : Acc)
  | peerLaneWake (acc : Acc)
  -- 03 lanes and possession
  | mirrorFrame (x : LaneId) (crcOk : Bool)
  | mirrorLost (x : LaneId)
  | mirrorCurrentAllowanceEnd (x : LaneId)
  | mirrorUp (x : LaneId)
  | resyncComplete (x : LaneId)
  | toss
  | tossBWindowExpiry
  | arbiterFrame (x : LaneId)
  | arbiterLinkLost (x : LaneId)
  | renewal (x : LaneId)
  | renewalAck (x : LaneId)
  | localLeaseEnd (x : LaneId)
  | leaseExpiry
  | grant (x : LaneId)
  | release (x : LaneId)
  | arbiterRestart
  | arbiterRenewalWaitEnd
  | interlockPairInvalid (x : LaneId)
  | interlockAcquisition (x : LaneId)
  | interlockConfirmEnd (x : LaneId)
  | interlockRecheck (x : LaneId)
  | peerActingSeen (x : LaneId)
  | freezeEnd (x : LaneId)
  | plannedChangeover (acc : Acc)
  | plannedChangeoverCheckEnd
  | laneReset (acc : Acc)
  | beginUpdate (acc : Acc) (length : BitVec 32) (protocol : Byte) (peerLow : Byte) (peerHigh : Byte)
  | beginUpdateEraseDone (x : LaneId)
  | firmwareChunk (acc : Acc) (data : List Byte)
  | activate (acc : Acc)
  | abandonUpdate (acc : Acc)
  | activationComplete (x : LaneId)
  -- 04 coupler lines
  | trainingBlock (x : LaneId) (e : EndId) (block : List Byte)
  | trainingStepTimeout (x : LaneId) (e : EndId)
  | beacon (x : LaneId) (e : EndId)
  | channelProbeDone (x : LaneId) (e : EndId) (probe : Probe)
  | pmaTrainingDone (x : LaneId) (e : EndId)
  | linkVerification (x : LaneId) (e : EndId) (snr : Int)
  | linkDown (x : LaneId) (e : EndId)
  | marginUpdate (x : LaneId) (e : EndId) (snr : Int) (returnLoss : Int) (faster : Option Int := none)
  | marginAlarm (x : LaneId) (e : EndId)
  | segmentTakedown (x : LaneId) (e : EndId)
  | takedownHoldEnd (x : LaneId) (e : EndId)
  | portQuarantined (x : LaneId) (e : EndId)
  | quarantineEnd (x : LaneId) (e : EndId)
  | runDiagnostics (acc : Acc) (v : Byte)
  | diagnosticsDone (x : LaneId) (e : EndId) (kind : BitVec 3) (reflection : Byte) (distance : BitVec 16)
      (insulation : BitVec 32) (limit : BitVec 32 := 0)
  | insulationTest (x : LaneId) (e : EndId) (insulation : BitVec 32) (limit : BitVec 32)
  | portEnable (acc : Acc) (e : EndId) (v : Byte)
  | insertion (x : LaneId)
  | laneBInsertionTimeout
  | orderedRetrainLate (x : LaneId) (e : EndId)
  | line2DeferredDue (x : LaneId)
  -- 05 train-line frames
  | frameDecisionPoint (x : LaneId) (e : EndId) (f : LineFrame) (time : BitVec 64) (idle : Bool)
  | stomp (x : LaneId) (e : EndId) (f : LineFrame)
  | localPortSend (x : LaneId) (f : LocalFrame) (node : Option (BitVec 64))
  | unscheduledEgressStart (x : LaneId) (e : EndId) (time : BitVec 64)
  | gateOverrun (x : LaneId) (e : EndId)
  | pauseReceived (x : LaneId) (e : EndId) (quanta : BitVec 16)
  | pauseExpiry (x : LaneId) (e : EndId)
  | pauseSend (x : LaneId)
  | pauseRepeat (x : LaneId) (e : EndId)
  | pauseRelease (x : LaneId)
  | receiveNoBuffer (x : LaneId) (e : EndId) (a : Arrival)
  | ringChainReturn (x : LaneId)
  -- 06 Roll
  | rollTrigger (x : LaneId) (code : Fin 10)
  | holdOffEnd (x : LaneId)
  | rollSpacingEnd (x : LaneId)
  | rollOriginate (x : LaneId)
  | rollFrame (x : LaneId) (src : RollSrc) (f : RollOctets)
  | phase1Limit (x : LaneId)
  | candidate (x : LaneId)
  | peerListWaitEnd (x : LaneId)
  | want (x : LaneId)
  | close (x : LaneId) (listLimit : Bool := false)
  | closeLimit (x : LaneId)
  | switchBeat (x : LaneId)
  | lateStartEnd (x : LaneId)
  | notNumberedRequest (x : LaneId)
  | rollRequest (acc : Acc) (v : Byte)
  | leadDeclaration (acc : Acc) (v : Byte)
  -- 07 flows and the wave
  | scheduleComputation (x : LaneId)
  | scheduleComputationDone (x : LaneId) (micros : BitVec 32)
  | flowConfigWrite (acc : Acc) (ctx : Fin 1024) (sub : Fin 9) (v : BitVec 64)
  | beatStart (x : LaneId)
  | samplePoint (x : LaneId)
  | waveLaunch (x : LaneId) (rising : Bool)
  | waveSlip (x : LaneId)
  | publicationCommit (acc : Acc) (ctx : Fin 1024)
  | fillIn (x : LaneId) (ctx : Fin 1024)
  -- 08 messages
  | sessionStart (acc : Acc) (s : Fin 128) (v : Byte)
  | messageRequest (x : LaneId) (m : MsgFrame)
  | messageResponse (x : LaneId) (m : MsgFrame)
  | segmentAck (x : LaneId) (m : MsgFrame)
  | segmentGapAck (x : LaneId) (uid : BitVec 64) (s : BitVec 16)
  | segmentedWriteExecute (x : LaneId) (uid : BitVec 64) (s : BitVec 16)
  | transferBufferTimeout (x : LaneId) (uid : BitVec 64) (s : BitVec 16)
  | sessionTimeout (s : Fin 128)
  | cancel (x : LaneId) (m : MsgFrame)
  | lockExpiry (x : LaneId) (entry : Bool) (granule : Nat)
  | mailboxMessage (x : LaneId) (m : MsgFrame)
  | mailboxRemoveHead (v : BitVec 32)
  | mailboxSourceUidRead
  | sleepAnnouncement (x : LaneId) (beat : BitVec 64)
  -- 09 train time
  | syncSend (x : LaneId)
  | syncReceived (x : LaneId) (e : EndId) (m : SyncMsg) (ingress : Int) (egress : Option Int)
  | pdelayReq (x : LaneId) (e : EndId)
  | pdelayResp (x : LaneId) (e : EndId) (m : PdelayRequest) (ingress : Nat)
  | pdelayMeasurement (x : LaneId) (e : EndId) (t1 : Int) (t4 : Int) (m : PdelayAnswer)
  | pdelayRespTimeout (x : LaneId) (e : EndId)
  | peerDelayFailure (x : LaneId) (e : EndId)
  | syncLoss (x : LaneId)
  | holdoverAlarm (x : LaneId)
  | lockAcquisitionStep (x : LaneId)
  | lateDomainStep (x : LaneId)
  | foundDomain (x : LaneId)
  | laneTimeCompare (t1 : Int) (t2 : Int) (t3 : Int) (t4 : Int)
  | fastTimebaseRead (high : Bool)
  | pulseModeWrite (acc : Acc) (u : Fin 8) (v : Byte)
  | pulseEdge (x : LaneId) (u : Fin 8)
  | baselineWrite (acc : Acc) (v : BitVec 32)
  | fieldMapUnmapped (x : LaneId)
  -- 10 car bus
  | bitTimingWrite (acc : Acc) (dataPhase : Bool) (v : BitVec 32) (busyA busyB : Bool := false)
  | integrationDone (x : LaneId)
  | canFrameReceived (x : LaneId) (f : CanFrame) (time : BitVec 64)
  | transmitCommit (acc : Acc) (t : Fin 32)
  | slotStart (x : LaneId) (col : Fin 8)
  | canFrameComplete (x : LaneId) (t : Fin 32) (time : BitVec 64)
  | canFrameLate (x : LaneId) (t : Fin 32)
  | patternApply (acc : Acc) (v : Byte)
  | patternSwitch (x : LaneId)
  | errorPassive (x : LaneId)
  | busOff (x : LaneId)
  | busOffRecoveryDone (x : LaneId)
  | identifierCollision (x : LaneId) (t : Fin 32) (time : BitVec 64)
  | listenOnlyChange (x : LaneId)
  | patternEnable (acc : Acc) (v : Byte) (sending : OnCarBus := ⟨none, none⟩)
  | gatewayRuleEnable (acc : Acc) (g : Fin 64) (v : Byte)
  -- 11 field
  | fieldRunCommand (x : LaneId) (volts : List Nat)
  | isolationFrame (x : LaneId) (toField : Bool) (ok : Bool) (counter : Nat)
  | fieldLinkFailed (x : LaneId)
  | fieldWatchdogExpiry (x : LaneId)
  | pinFunctionChange (acc : Acc) (pin : Fin 24) (v : Byte)
  | inputFilterTick (x : LaneId) (volts : List Nat) (edges : List Nat)
  | captureHeadRead (acc : Acc) (pin : Fin 24)
  | inputDisagreement (pin : Fin 24)
  | outputOverload (x : LaneId) (pin : Fin 24) (thermal : Bool)
  | groupOverload (x : LaneId) (group : Fin 3) (currents : List Nat)
  | driverStuckOn (x : LaneId) (pin : Fin 24)
  | lampSample (x : LaneId) (pin : Fin 24) (mA : BitVec 16)
  | pairedLampHoldOffEnd (x : LaneId)
  | openLoadTest (x : LaneId) (pin : Fin 24) (before : Nat) (during : Nat)
  | learn (acc : Acc) (pin : Fin 24) (v : Byte)
  | learnDone (x : LaneId) (pin : Fin 24) (mean : BitVec 16)
  | endRoleGateWrite (acc : Acc) (pin : Fin 24) (v : Byte)
  | fieldSupplyMeasure (x : LaneId) (v : BitVec 16)
  | outputImage (acc : Acc) (v : BitVec 32)
  | setOutputs (acc : Acc) (v : BitVec 32)
  | clearOutputs (acc : Acc) (v : BitVec 32)
  -- 12 host link
  | rd (op : Byte) (addr : BitVec 32) (count : Byte) (check : BitVec 16)
  | wr (addr : BitVec 32) (count : Byte) (data : List (BitVec 32)) (check : BitVec 16)
  | wrc (addr : BitVec 32) (count : Byte) (data : List (BitVec 32)) (check : BitVec 16)
  | wrm (addr : BitVec 32) (count : Byte) (data : BitVec 32) (check : BitVec 16)
  | lockrd (addr : BitVec 32) (count : Byte) (check : BitVec 16)
  | unlockwr (addr : BitVec 32) (count : Byte) (data : List (BitVec 32)) (check : BitVec 16)
  | unlock (addr : BitVec 32) (count : Byte) (check : BitVec 16)
  | sync (addr : BitVec 32) (count : Byte) (check : BitVec 16)
  | frameAbandoned
  | postedWriteExecute (path : Fin 17)
  | hostResponseReady
  | apertureCommit (acc : Acc) (c : Fin 16) (len : BitVec 32)
  | highWordLatch (addr : BitVec 32) (write : Option (BitVec 32))
  | remoteWindowAccess (w : Fin 16)
  | windowHoldTimeout (w : Fin 16)
  | prefetch (w : Fin 16)
  | prefetchBlockExpiry (w : Fin 16)
  | hrstN
  | hrstNRise (reads : List (BitVec 4))
  | endHostLinkSession (acc : Acc) (v : Byte)
  | hostLinkSessionExpiry
  -- 13 faults
  | faultReaction (c : CollectorId) (hits : List SourceHit)
  | blockResetDone (c : CollectorId) (source : Nat)
  | acknowledge (acc : Acc) (module : Bool) (v : BitVec 16) (hits : List SourceHit := [])
  | inject (acc : Acc) (module : Bool) (source : Byte)
  | fullReactionArm (acc : Acc) (module : Bool) (source : Byte)
  | fullReactionArmLapse (c : CollectorId)
  -- 14 recorder
  | recordWrite (x : LaneId) (first : Bool) (second : Bool) (closes : Bool := true) (later : List Bool := [])
  | eventLost (x : LaneId) (code : BitVec 16)
  | controlBlockRewrite (x : LaneId) (cut : Option (Fin 3) := none)
  | clear (acc : Acc) (v : Byte)
  | clearDone (x : LaneId) (badSlots : List Nat) (controlOk : Bool)
  | timeTagRestore (acc : Acc) (v : Byte)
  | recorderMemoryFailed (x : LaneId) (cause : Byte)
  -- 15 ageing
  | rePlan (x : LaneId) (p : PlanInputs)
  | dailyRePlanDue (x : LaneId)
  | rePlanNow (acc : Acc) (v : Byte)
  | deferredRePlanStart (x : LaneId)
  | guardStep (x : LaneId)
  | coreVoltageFault (x : LaneId)
  | onResistanceMeasure (x : LaneId) (pin : Fin 24) (drop : Nat) (mA : Nat)
  | scrub (x : LaneId) (corrected : Nat) (uncorrectable : Bool)
  | equivalentHoursTick (x : LaneId) (temp : Int) (rise : Option RiseReading := none)
  | planBoundWrite (acc : Acc) (row : Fin 11) (ceiling : Bool) (v : BitVec 32)
  -- 16 dictionary
  | registerWrite (acc : Acc) (index : BitVec 16) (sub : Byte) (v : BitVec 64)
  | restoreDefaults (acc : Acc) (v : Byte)
  | imageChunk (acc : Acc) (data : List Byte)
  | applyConfiguration (acc : Acc) (len : BitVec 32)
  | challenge (acc : Acc)
  | response (acc : Acc) (data : List Byte)
  | authenticationLockoutEnd (path : Path)
  | challengeExpiry (path : Path)
  | roleKey (acc : Acc) (slot : Fin 3) (key : List Byte)
  | servicePortFrame (bytes : List Byte)
  | serviceChallenge (session : Fin 4)
  | serviceAuthenticate (session : Fin 4) (data : List Byte)
  | serviceSessionEnd (session : Fin 4) (why : SessionEnd)
  -- rows listed last by the table
  | laneReady (x : LaneId) (scan : StartScan)
  | lockstepToggleStop (x : LaneId)
  | changeoverLimitPassed (x : LaneId)
  | readNoHolderTimeout
  | syncTimeout
  | sourceLeavesFault (c : CollectorId) (source : Nat)
  | inrushWindowEnd (x : LaneId) (pin : Fin 24) (atLimit : Bool)
  | canError (x : LaneId) (t : Option (Fin 32)) (kind : CanErr) (inData : Bool) (more : BitVec 16) (spared : Bool)
  | arbitrationLost (x : LaneId) (t : Fin 32)
  | overvoltage
  | hvioAbsent
  | hvioPresent
  | serviceLinkChange (up : Bool)
  | marginAlarmRequestDue (x : LaneId) (e : EndId)
  | lampTestEnd
deriving DecidableEq, Repr

end Sys2Proof
end

