-- ==== Sys2Proof/Decode.lean ====
section
/-! DEFINITION. The commands that words spell. Commands reach this block as events and accesses; its opcode table gives no
row any bits. -/

namespace Sys2Proof

/-- No row of the table has bits, so no word spells a command (log 5: DESIGN CHOICE). -/
def decodeTableWord (_nbits _w : Nat) : Option Instr := none

end Sys2Proof
end

