-- ==== Sys2Proof/Machine/Bits.lean ====
section
/-! DEFINITION. Bit fields of registers held as natural numbers, two's complement values, byte order
(R10: most significant byte first), and the sparse tables in canonical form that hold the dictionary's
registers and exchange memory. -/

namespace Sys2Proof.Machine

/-- Bit i of a register. -/
def bitAt (n i : Nat) : Bool := n.testBit i

/-- A register with bit i set to b. -/
def withBit (n i : Nat) (b : Bool) : Nat :=
  if n.testBit i = b then n else if b then n + 2 ^ i else n - 2 ^ i

/-- A register with the bits of mask m cleared. -/
def clearMask (n m : Nat) : Nat := n - (n &&& m)

/-- Bits [lo + w - 1 : lo] of a register. -/
def field (n lo w : Nat) : Nat := (n >>> lo) % 2 ^ w

/-- A register with bits [lo + w - 1 : lo] replaced by v. -/
def withField (n lo w v : Nat) : Nat := n - (field n lo w <<< lo) + ((v % 2 ^ w) <<< lo)

/-- 1 for true. -/
def b2n (b : Bool) : Nat := if b then 1 else 0

/-- The two's complement reading of a w-bit register. -/
def toSigned (w n : Nat) : Int := if n % 2 ^ w < 2 ^ (w - 1) then (n % 2 ^ w : Nat) else (n % 2 ^ w : Nat) - (2 ^ w : Nat)

/-- The w-bit two's complement register of an integer. -/
def ofSigned (w : Nat) (i : Int) : Nat := (i % (2 ^ w : Nat)).toNat

/-- The bytes of a number, most significant first (R10). -/
def toBytes : Nat → Nat → List Byte
  | 0, _ => []
  | k + 1, n => BitVec.ofNat 8 (n >>> (8 * k)) :: toBytes k n

/-- The number that bytes spell, most significant first (R10). -/
def fromBytes (l : List Byte) : Nat := l.foldl (fun a b => a * 256 + b.toNat) 0

/-- Bytes lo to lo + n - 1 of a byte string. -/
def slice (l : List Byte) (lo n : Nat) : List Byte := (l.drop lo).take n

/-- The number in bytes lo to lo + n - 1 of a byte string. -/
def numAt (l : List Byte) (lo n : Nat) : Nat := fromBytes (slice l lo n)

/-- The smaller of a number and a bound: a saturating count. -/
def satInc (top n : Nat) : Nat := if n < top then n + 1 else top

/-- A value limited to a range (R454). -/
def clampInt (v lo hi : Int) : Int := if v < lo then lo else if hi < v then hi else v

/-- The largest natural number whose square is at most n, by bisection on b bits (R453: isqrt rounds
down). -/
def isqrtFrom : Nat → Nat → Nat → Nat
  | 0, _, r => r
  | b + 1, n, r => if (r + 2 ^ b) * (r + 2 ^ b) ≤ n then isqrtFrom b n (r + 2 ^ b) else isqrtFrom b n r

/-- R453: the integer square root, rounded down, of numbers below 2^64. -/
def isqrt (n : Nat) : Nat := isqrtFrom 32 n 0

/-- R175: a 16-bit number is newer than another when its lead modulo 2^16 is 1 to 7FFFh. -/
def newer16 (a b : Nat) : Bool :=
  let d := (a + 65536 - b % 65536) % 65536
  (decide (1 ≤ d) && decide (d ≤ 32767)) || (decide (d = 32768) && decide (b < a))

/-- The mask with bits 0 to n - 1 set. -/
def ones (n : Nat) : Nat := 2 ^ n - 1

/-- The positions of the set bits below n, lowest first. -/
def bitsOf (n m : Nat) : List Nat := (List.range n).filter (fun i => m.testBit i)

/-- The number of set bits below n. -/
def popCount (n m : Nat) : Nat := (bitsOf n m).length

section tables

variable {α : Type} [DecidableEq α]

/-- The value at key k of a table whose unlisted keys read as d. -/
def tabGet (d : Nat → α) (k : Nat) : List (Nat × α) → α
  | [] => d k
  | (k', v) :: t => if k' = k then v else tabGet d k t

/-- A table with value v at key k. Keys rise strictly, and no listed value equals what its key reads as
when unlisted. -/
def tabSet (d : Nat → α) (k : Nat) (v : α) : List (Nat × α) → List (Nat × α)
  | [] => if v = d k then [] else [(k, v)]
  | (k', v') :: t =>
    if k < k' then (if v = d k then (k', v') :: t else (k, v) :: (k', v') :: t)
    else if k = k' then (if v = d k then t else (k, v) :: t)
    else (k', v') :: tabSet d k v t

/-- Every listed key is above b, keys rise strictly, and no listed value is what its key reads as when
unlisted. -/
def tabCanonFrom (d : Nat → α) : Nat → List (Nat × α) → Bool
  | _, [] => true
  | b, (k, v) :: t => decide (b ≤ k) && decide (v ≠ d k) && tabCanonFrom d (k + 1) t

/-- The canonical form of a table. -/
def tabCanon (d : Nat → α) (t : List (Nat × α)) : Bool := tabCanonFrom d 0 t

/-- A table with values at consecutive keys from k on. -/
def tabSetAll (d : Nat → α) : Nat → List α → List (Nat × α) → List (Nat × α)
  | _, [], t => t
  | k, v :: vs, t => tabSetAll d (k + 1) vs (tabSet d k v t)

/-- The values at n consecutive keys from k on. -/
def tabGetAll (d : Nat → α) (k : Nat) : Nat → List (Nat × α) → List α
  | 0, _ => []
  | n + 1, t => tabGet d k t :: tabGetAll d (k + 1) n t

end tables

end Sys2Proof.Machine
end

