-- ==== Sys2Proof/Machine/Crypto.lean ====
section
/-! DEFINITION. The two algorithms that chapter 16 names and does not itself write out: HMAC-SHA-256
(R481, R497) and Ed25519 (R484). Their text is that of FIPS 180-4, RFC 2104 and RFC 8032 (assumption
log, PRESUMED). -/

namespace Sys2Proof.Machine

/-- FIPS 180-4: the round constants of SHA-256. -/
def sha256Round : List Nat := [
  0x428A2F98, 0x71374491, 0xB5C0FBCF, 0xE9B5DBA5, 0x3956C25B, 0x59F111F1, 0x923F82A4, 0xAB1C5ED5,
  0xD807AA98, 0x12835B01, 0x243185BE, 0x550C7DC3, 0x72BE5D74, 0x80DEB1FE, 0x9BDC06A7, 0xC19BF174,
  0xE49B69C1, 0xEFBE4786, 0x0FC19DC6, 0x240CA1CC, 0x2DE92C6F, 0x4A7484AA, 0x5CB0A9DC, 0x76F988DA,
  0x983E5152, 0xA831C66D, 0xB00327C8, 0xBF597FC7, 0xC6E00BF3, 0xD5A79147, 0x06CA6351, 0x14292967,
  0x27B70A85, 0x2E1B2138, 0x4D2C6DFC, 0x53380D13, 0x650A7354, 0x766A0ABB, 0x81C2C92E, 0x92722C85,
  0xA2BFE8A1, 0xA81A664B, 0xC24B8B70, 0xC76C51A3, 0xD192E819, 0xD6990624, 0xF40E3585, 0x106AA070,
  0x19A4C116, 0x1E376C08, 0x2748774C, 0x34B0BCB5, 0x391C0CB3, 0x4ED8AA4A, 0x5B9CCA4F, 0x682E6FF3,
  0x748F82EE, 0x78A5636F, 0x84C87814, 0x8CC70208, 0x90BEFFFA, 0xA4506CEB, 0xBEF9A3F7, 0xC67178F2]

/-- FIPS 180-4: the start value of SHA-256. -/
def sha256Start : List Nat := [
  0x6A09E667, 0xBB67AE85, 0x3C6EF372, 0xA54FF53A, 0x510E527F, 0x9B05688C, 0x1F83D9AB, 0x5BE0CD19]

/-- FIPS 180-4: the round constants of SHA-512, the first 40. -/
def sha512RoundA : List Nat := [
  0x428A2F98D728AE22, 0x7137449123EF65CD, 0xB5C0FBCFEC4D3B2F, 0xE9B5DBA58189DBBC,
  0x3956C25BF348B538, 0x59F111F1B605D019, 0x923F82A4AF194F9B, 0xAB1C5ED5DA6D8118,
  0xD807AA98A3030242, 0x12835B0145706FBE, 0x243185BE4EE4B28C, 0x550C7DC3D5FFB4E2,
  0x72BE5D74F27B896F, 0x80DEB1FE3B1696B1, 0x9BDC06A725C71235, 0xC19BF174CF692694,
  0xE49B69C19EF14AD2, 0xEFBE4786384F25E3, 0x0FC19DC68B8CD5B5, 0x240CA1CC77AC9C65,
  0x2DE92C6F592B0275, 0x4A7484AA6EA6E483, 0x5CB0A9DCBD41FBD4, 0x76F988DA831153B5,
  0x983E5152EE66DFAB, 0xA831C66D2DB43210, 0xB00327C898FB213F, 0xBF597FC7BEEF0EE4,
  0xC6E00BF33DA88FC2, 0xD5A79147930AA725, 0x06CA6351E003826F, 0x142929670A0E6E70,
  0x27B70A8546D22FFC, 0x2E1B21385C26C926, 0x4D2C6DFC5AC42AED, 0x53380D139D95B3DF,
  0x650A73548BAF63DE, 0x766A0ABB3C77B2A8, 0x81C2C92E47EDAEE6, 0x92722C851482353B]

/-- FIPS 180-4: the round constants of SHA-512, the last 40. -/
def sha512RoundB : List Nat := [
  0xA2BFE8A14CF10364, 0xA81A664BBC423001, 0xC24B8B70D0F89791, 0xC76C51A30654BE30,
  0xD192E819D6EF5218, 0xD69906245565A910, 0xF40E35855771202A, 0x106AA07032BBD1B8,
  0x19A4C116B8D2D0C8, 0x1E376C085141AB53, 0x2748774CDF8EEB99, 0x34B0BCB5E19B48A8,
  0x391C0CB3C5C95A63, 0x4ED8AA4AE3418ACB, 0x5B9CCA4F7763E373, 0x682E6FF3D6B2B8A3,
  0x748F82EE5DEFB2FC, 0x78A5636F43172F60, 0x84C87814A1F0AB72, 0x8CC702081A6439EC,
  0x90BEFFFA23631E28, 0xA4506CEBDE82BDE9, 0xBEF9A3F7B2C67915, 0xC67178F2E372532B,
  0xCA273ECEEA26619C, 0xD186B8C721C0C207, 0xEADA7DD6CDE0EB1E, 0xF57D4F7FEE6ED178,
  0x06F067AA72176FBA, 0x0A637DC5A2C898A6, 0x113F9804BEF90DAE, 0x1B710B35131C471B,
  0x28DB77F523047D84, 0x32CAAB7B40C72493, 0x3C9EBE0A15C9BEBC, 0x431D67C49C100D4C,
  0x4CC5D4BECB3E42B6, 0x597F299CFC657E2A, 0x5FCB6FAB3AD6FAEC, 0x6C44198C4A475817]

/-- FIPS 180-4: the start value of SHA-512. -/
def sha512Start : List Nat := [
  0x6A09E667F3BCC908, 0xBB67AE8584CAA73B, 0x3C6EF372FE94F82B, 0xA54FF53A5F1D36F1,
  0x510E527FADE682D1, 0x9B05688C2B3E6C1F, 0x1F83D9ABFB41BD6B, 0x5BE0CD19137E2179]

/-! ### SHA-2 -/

/-- The widths and rotations that tell SHA-256 and SHA-512 apart. -/
structure Sha where
  w : Nat
  /-- rotations of Σ0 and Σ1 -/
  big0 : Nat × Nat × Nat
  big1 : Nat × Nat × Nat
  /-- two rotations and a shift of σ0 and σ1 -/
  small0 : Nat × Nat × Nat
  small1 : Nat × Nat × Nat
  round : List Nat
  start : List Nat

/-- SHA-256 (log 11: PRESUMED). -/
def sha256 : Sha := ⟨32, (2, 13, 22), (6, 11, 25), (7, 18, 3), (17, 19, 10), sha256Round, sha256Start⟩

/-- SHA-512 (log 11: PRESUMED). -/
def sha512 : Sha := ⟨64, (28, 34, 39), (14, 18, 41), (1, 8, 7), (19, 61, 6), sha512RoundA ++ sha512RoundB, sha512Start⟩

/-- A w-bit word rotated right by n. -/
def rotr (w n x : Nat) : Nat := (x >>> n) ||| ((x <<< (w - n)) % 2 ^ w)

/-- Σ: three rotations. -/
def Sha.big (h : Sha) (r : Nat × Nat × Nat) (x : Nat) : Nat := rotr h.w r.1 x ^^^ rotr h.w r.2.1 x ^^^ rotr h.w r.2.2 x

/-- σ: two rotations and a shift. -/
def Sha.small (h : Sha) (r : Nat × Nat × Nat) (x : Nat) : Nat := rotr h.w r.1 x ^^^ rotr h.w r.2.1 x ^^^ (x >>> r.2.2)

/-- One round: the eight working words, and the next 16 words of the message schedule. -/
def Sha.step (h : Sha) (st : List Nat × List Nat) (k : Nat) : List Nat × List Nat :=
  match st with
  | ([a, b, c, d, e, f, g, z], m :: ms) =>
    let t := (z + h.big h.big1 e + ((e &&& f) ^^^ ((2 ^ h.w - 1 - e) &&& g)) + k + m) % 2 ^ h.w
    let u := (h.big h.big0 a + ((a &&& b) ^^^ (a &&& c) ^^^ (b &&& c))) % 2 ^ h.w
    ([(t + u) % 2 ^ h.w, a, b, c, (d + t) % 2 ^ h.w, e, f, g],
      ms ++ [(h.small h.small1 (ms.getD 13 0) + ms.getD 8 0 + h.small h.small0 (ms.getD 0 0) + m) % 2 ^ h.w])
  | s => s

/-- The words of a block. -/
def Sha.words (h : Sha) (block : List Byte) : List Nat := (List.range 16).map (fun i => numAt block (i * (h.w / 8)) (h.w / 8))

/-- One block taken into the hash value. -/
def Sha.block (h : Sha) (v : List Nat) (block : List Byte) : List Nat :=
  List.zipWith (fun a b => (a + b) % 2 ^ h.w) v (h.round.foldl h.step (v, h.words block)).1

/-- The message with its padding: 80h, zeros, and its length in bits. -/
def Sha.pad (h : Sha) (m : List Byte) : List Byte :=
  let size := 2 * h.w
  m ++ [0x80] ++ List.replicate ((2 * size - 1 - h.w / 4 - m.length % size) % size) 0 ++ toBytes (h.w / 4) (8 * m.length)

/-- The hash of a message (log 11: PRESUMED). -/
def Sha.hash (h : Sha) (m : List Byte) : List Byte :=
  let p := h.pad m
  let size := 2 * h.w
  let v := (List.range (p.length / size)).foldl (fun v i => h.block v (slice p (i * size) size)) h.start
  v.flatMap (toBytes (h.w / 8))

/-! ### HMAC (RFC 2104) -/

/-- HMAC-SHA-256 of a message under a key (log 11: PRESUMED). -/
def hmacSha256 (key m : List Byte) : List Byte :=
  let k := if 64 < key.length then sha256.hash key else key
  let k := k ++ List.replicate (64 - k.length) 0
  sha256.hash (k.map (· ^^^ 0x5C) ++ sha256.hash (k.map (· ^^^ 0x36) ++ m))

/-- R481: HMAC-SHA-256 truncated to its first 128 bits (log 11: PRESUMED). -/
def hmac128 (key m : List Byte) : BitVec 128 := BitVec.ofNat 128 (numAt (hmacSha256 key m) 0 16)

/-! ### Ed25519 (RFC 8032) -/

/-- The field's prime. -/
def edP : Nat := 2 ^ 255 - 19

/-- The order of the base point. -/
def edL : Nat := 2 ^ 252 + 27742317777372353535851937790883648493

/-- x to the e in the field, over the low n bits of e, highest first. -/
def edPow (x e : Nat) : Nat → Nat
  | 0 => 1
  | n + 1 =>
    let y := edPow x (e / 2) n
    let z := y * y % edP
    if e % 2 = 1 then z * x % edP else z

/-- The inverse in the field. -/
def edInv (x : Nat) : Nat := edPow x (edP - 2) 255

/-- The curve's constant. -/
def edD : Nat := 37095705934669439343138083508754565189542113879843219016388785533085940283555

/-- A square root of -1. -/
def edI : Nat := 19681161376707505956807079304988542015446066515923890162744021073123829784752

/-- A point in extended coordinates. -/
structure EdPoint where
  x : Nat
  y : Nat
  z : Nat
  t : Nat
deriving DecidableEq, Repr

/-- The neutral point. -/
def EdPoint.zero : EdPoint := ⟨0, 1, 1, 0⟩

/-- The sum of two points (log 11: PRESUMED). -/
def EdPoint.add (p q : EdPoint) : EdPoint :=
  let a := (p.y + edP - p.x) * (q.y + edP - q.x) % edP
  let b := (p.y + p.x) * (q.y + q.x) % edP
  let c := 2 * p.t * q.t * edD % edP
  let d := 2 * p.z * q.z % edP
  let e := (b + edP - a) % edP
  let f := (d + edP - c) % edP
  let g := (d + c) % edP
  let h := (b + a) % edP
  ⟨e * f % edP, g * h % edP, f * g % edP, e * h % edP⟩

/-- A multiple of a point, over the low n bits of the factor (log 11: PRESUMED). -/
def EdPoint.mul (p : EdPoint) (k : Nat) : Nat → EdPoint
  | 0 => .zero
  | n + 1 =>
    let q := p.mul (k / 2) n
    let q := q.add q
    if k % 2 = 1 then q.add p else q

/-- Two points are the same. -/
def EdPoint.same (p q : EdPoint) : Bool :=
  decide (p.x * q.z % edP = q.x * p.z % edP ∧ p.y * q.z % edP = q.y * p.z % edP)

/-- The number that bytes spell, least significant first. -/
def fromLittle (l : List Byte) : Nat := fromBytes l.reverse

/-- A point from its 32 bytes: y, and the lowest bit of x at the top (log 11: PRESUMED). -/
def edDecode (l : List Byte) : Option EdPoint :=
  let n := fromLittle l
  let y := n % 2 ^ 255
  let sign := n / 2 ^ 255 % 2
  if l.length ≠ 32 ∨ edP ≤ y then none
  else
    let u := (y * y + edP - 1) % edP
    let v := (edD * y % edP * y + 1) % edP
    let v3 := v * v % edP * v % edP
    let x := u * v3 % edP * edPow (u * v3 % edP * (v3 * v % edP) % edP) ((edP - 5) / 8) 252 % edP
    let vxx := v * x % edP * x % edP
    let root := if vxx = u then some x else if vxx = (edP - u) % edP then some (x * edI % edP) else none
    match root with
    | none => none
    | some x =>
      if x = 0 ∧ sign = 1 then none
      else
        let x := if x % 2 = sign then x else edP - x
        some ⟨x, y, 1, x * y % edP⟩

/-- The base point. -/
def edBase : EdPoint :=
  let x := 15112221349535400772501151409588531511454012693041857206046113283949847762202
  let y := 46316835694926478169428394003475163141307993866256225615783033603165251855960
  ⟨x, y, 1, x * y % edP⟩

/-- R484: whether a 64-byte signature of a message verifies under a public key (log 11: PRESUMED). -/
def signatureOk (key m sig : List Byte) : Bool :=
  match edDecode key, edDecode (sig.take 32) with
  | some a, some r =>
    let s := fromLittle (sig.drop 32)
    let k := fromLittle (sha512.hash (sig.take 32 ++ key ++ m)) % edL
    decide (sig.length = 64 ∧ s < edL) && (edBase.mul s 253).same (r.add (a.mul k 253))
  | _, _ => false

end Sys2Proof.Machine
end

