-- ==== Sys2Proof/Config.lean ====
section
/-! DEFINITION. The constants that the manual leaves open. None has a body: a claim that holds, holds
whatever they are. `freeValue` is applied to a counter of the state, so that every use is a fresh
value (assumption log, entries on free values). -/

namespace Sys2Proof.Config

/-- A value the manual does not fix, of w bits; the argument is the state's counter of such values (log 6: DESIGN
CHOICE). -/
opaque freeValue (w : Nat) : Nat → BitVec w

/-- Whether the equivalent time that one minute at a board temperature in 0.01 °C adds is rounded up to a microhour
(R457): the manual gives the exponential, not its rounding (log 10: DESIGN CHOICE). -/
opaque ageingRoundsUp : Int → Bool

end Sys2Proof.Config
end

