-- ==== Sys2Proof/Machine/Dict.lean ====
section
/-! DEFINITION. The object dictionary's entry list (R467 to R471, R499): one row per entry, or per
span of entries, of the manual's entry tables, with the attributes that those tables and R467 give. -/

namespace Sys2Proof.Machine

/-- The types of R468. -/
inductive Ty where
  | bool
  | u8
  | u16
  | u32
  | i32
  | u64
  | time64
  | octets
deriving DecidableEq, Repr

/-- The access kinds of R469. -/
inductive Kind where
  | ro
  | rw
  | wo
  | cmd
deriving DecidableEq, Repr

/-- The scopes of R471. -/
inductive Scope where
  | module
  | node
  | lane
deriving DecidableEq, Repr

/-- One row of an entry table: the indices and subindices it spans, its type, access kind, default
(0 where the table has a dash: the value is measured), the lowest role that may write (R472: 0
Observer, 1 Operator, 2 Maintainer, 3 Vendor), its scope, whether a write through the acting selector
of a lane-specific entry reaches both lanes, persistence, the range of values, the reserved bits, the
bits cleared by writing 1, and the side-effect attribute (R476). -/
structure Row where
  lo : Nat
  hi : Nat
  slo : Nat
  shi : Nat
  ty : Ty
  kind : Kind
  dflt : Nat
  role : Nat
  scope : Scope
  fan : Bool
  pers : Bool
  min : Nat
  max : Nat
  resv : Nat
  w1c : Nat
  side : Bool
deriving DecidableEq, Repr

/-- The entries of the message sessions, which are module-wide and served by the lane in possession (R271). -/
def Row.isSession (r : Row) : Bool := decide (r.lo = 0x3800)

/-- Size in bits of a typed entry (R468); an OCTETS entry has no word. -/
def tyBits : Ty → Nat
  | .bool => 1
  | .u8 => 8
  | .u16 => 16
  | .u32 => 32
  | .i32 => 32
  | .u64 => 64
  | .time64 => 64
  | .octets => 0

/-- Size in bytes of a typed entry in a message (R251). -/
def tyBytes : Ty → Nat
  | .bool => 1
  | .u8 => 1
  | .u16 => 2
  | .u32 => 4
  | .i32 => 4
  | .u64 => 8
  | .time64 => 8
  | .octets => 0

/-- Entries from 1000h: Device type to Configuration label. -/
def rowsIdentity : List Row := [
  ⟨0x1000, 0x1000, 0, 0, .u32, .ro, 0x7200001, 1, .module, false, false, 0, 0xffffffff, 0, 0, false⟩,
  ⟨0x1002, 0x1002, 0, 0, .octets, .ro, 0, 1, .module, false, false, 0, 0, 0, 0, false⟩,
  ⟨0x1003, 0x1003, 0, 0, .u16, .ro, 0, 1, .module, false, false, 0, 0xffff, 0, 0, false⟩,
  ⟨0x1004, 0x1004, 0, 0, .u32, .ro, 0, 1, .lane, false, false, 0, 0xffffffff, 0, 0, false⟩,
  ⟨0x1005, 0x1005, 0, 0, .u64, .ro, 0, 1, .module, false, false, 0, 0xffffffffffffffff, 0, 0, false⟩,
  ⟨0x1008, 0x1008, 0, 0, .u8, .ro, 0, 1, .module, false, false, 0, 255, 0, 0, false⟩,
  ⟨0x1009, 0x1009, 0, 0, .u64, .ro, 0, 1, .module, false, false, 0, 0xffffffffffffffff, 0, 0, false⟩,
  ⟨0x100a, 0x100a, 0, 0, .u16, .cmd, 0, 1, .module, false, false, 0, 0xe10, 0, 0, false⟩,
  ⟨0x1010, 0x1010, 1, 1, .u16, .ro, 3, 1, .node, false, false, 0, 0xffff, 0, 0, false⟩,
  ⟨0x1010, 0x1010, 2, 2, .u8, .rw, 0, 1, .lane, false, false, 0, 255, 0xf9, 0x4, false⟩,
  ⟨0x1011, 0x1011, 0, 0, .u8, .cmd, 0, 1, .lane, true, false, 1, 1, 0, 0, false⟩,
  ⟨0x1012, 0x1012, 1, 1, .u32, .ro, 0, 1, .node, false, true, 0, 0xffffffff, 0, 0, false⟩,
  ⟨0x1012, 0x1012, 2, 2, .octets, .ro, 0, 1, .node, false, false, 0, 0, 0, 0, false⟩]

/-- Entries from 1100h: Lane state to Active firmware bank. -/
def rowsPossession : List Row := [
  ⟨0x1100, 0x1100, 0, 0, .u8, .ro, 0, 1, .lane, false, false, 0, 255, 0, 0, false⟩,
  ⟨0x1101, 0x1101, 0, 0, .u16, .ro, 0, 1, .node, false, false, 0, 0xffff, 0, 0, false⟩,
  ⟨0x1102, 0x1102, 0, 0, .u8, .rw, 0, 2, .node, false, true, 0, 1, 0, 0, false⟩,
  ⟨0x1103, 0x1103, 0, 0, .u8, .cmd, 0, 1, .node, false, false, 1, 1, 0, 0, false⟩,
  ⟨0x1104, 0x1104, 0, 0, .u8, .cmd, 0, 2, .lane, false, false, 1, 1, 0, 0, false⟩,
  ⟨0x1105, 0x1105, 0, 0, .u32, .ro, 0, 1, .node, false, true, 0, 0xffffffff, 0, 0, false⟩,
  ⟨0x1106, 0x1106, 1, 1, .u8, .ro, 0, 1, .node, false, false, 0, 255, 0, 0, false⟩,
  ⟨0x1106, 0x1106, 2, 2, .u32, .ro, 0, 1, .node, false, false, 0, 0xffffffff, 0, 0, false⟩,
  ⟨0x1107, 0x1107, 1, 1, .u8, .ro, 0, 1, .node, false, false, 0, 255, 0, 0, false⟩,
  ⟨0x1107, 0x1107, 2, 2, .u32, .ro, 0, 1, .node, false, false, 0, 0xffffffff, 0, 0, false⟩,
  ⟨0x1110, 0x1110, 0, 0, .u8, .ro, 0, 1, .lane, false, false, 0, 255, 0, 0, false⟩,
  ⟨0x1111, 0x1111, 0, 0, .u32, .ro, 0, 1, .lane, false, false, 0, 0xffffffff, 0, 0, false⟩,
  ⟨0x1112, 0x1112, 0, 0, .u32, .ro, 0, 1, .lane, false, true, 0, 0xffffffff, 0, 0, false⟩,
  ⟨0x1113, 0x1113, 0, 0, .u32, .ro, 0, 1, .lane, false, false, 0, 0xffffffff, 0, 0, false⟩,
  ⟨0x1120, 0x1120, 0, 0, .u8, .ro, 0, 1, .lane, false, false, 0, 255, 0, 0, false⟩,
  ⟨0x1121, 0x1121, 0, 0, .u8, .ro, 0, 1, .lane, false, false, 0, 255, 0, 0, false⟩]

/-- Entries from 1200h: Supply voltage to Knocks sent. -/
def rowsPower : List Row := [
  ⟨0x1200, 0x1200, 0, 0, .u16, .ro, 0, 1, .module, false, false, 0, 0xffff, 0, 0, false⟩,
  ⟨0x1201, 0x1201, 0, 0, .u8, .rw, 0, 1, .module, false, false, 0, 255, 0xe0, 0x12, false⟩,
  ⟨0x1202, 0x1202, 0, 0, .u8, .rw, 0, 2, .module, false, true, 0, 1, 0, 0, false⟩,
  ⟨0x1203, 0x1203, 0, 0, .u32, .ro, 0, 1, .module, false, true, 0, 0xffffffff, 0, 0, false⟩,
  ⟨0x1204, 0x1204, 0, 0, .u16, .ro, 0, 1, .module, false, false, 0, 0xffff, 0, 0, false⟩,
  ⟨0x1211, 0x1211, 0, 0, .u8, .cmd, 0, 1, .lane, false, false, 0, 1, 0, 0, false⟩,
  ⟨0x1220, 0x1220, 0, 0, .u8, .cmd, 0, 1, .module, false, false, 1, 2, 0, 0, false⟩,
  ⟨0x1221, 0x1221, 0, 0, .u16, .rw, 200, 1, .module, false, true, 128, 0x2710, 0, 0, false⟩,
  ⟨0x1222, 0x1222, 0, 0, .u32, .ro, 0, 1, .module, false, false, 0, 0xffffffff, 0, 0, false⟩,
  ⟨0x1230, 0x1230, 0, 0, .u16, .ro, 0, 1, .module, false, false, 0, 0xffff, 0, 0, false⟩,
  ⟨0x1231, 0x1231, 0, 0, .u8, .rw, 0, 2, .module, false, true, 0, 255, 0xfc, 0, false⟩,
  ⟨0x1232, 0x1232, 0, 0, .u32, .ro, 0, 1, .lane, false, false, 0, 0xffffffff, 0, 0, false⟩,
  ⟨0x1233, 0x1233, 0, 0, .u32, .ro, 0, 1, .lane, false, false, 0, 0xffffffff, 0, 0, false⟩]

/-- Entries from 1300h: Plan status to Pin current limit. -/
def rowsPlan : List Row := [
  ⟨0x1300, 0x1300, 0, 0, .u16, .ro, 0, 2, .lane, false, false, 0, 0xffff, 0, 0, false⟩,
  ⟨0x1301, 0x1301, 0, 0, .u64, .ro, 0, 2, .lane, false, false, 0, 0xffffffffffffffff, 0, 0, false⟩,
  ⟨0x1302, 0x1302, 0, 0, .u8, .cmd, 0, 2, .lane, false, false, 1, 1, 0, 0, false⟩,
  ⟨0x1303, 0x1303, 0, 0, .u32, .ro, 0, 2, .lane, false, true, 0, 0xffffffff, 0, 0, false⟩,
  ⟨0x1305, 0x1305, 0, 0, .u32, .ro, 0, 2, .lane, false, true, 0, 0xffffffff, 0, 0, false⟩,
  ⟨0x1306, 0x1306, 0, 0, .i32, .ro, 0, 2, .lane, false, false, 0, 0xffffffff, 0, 0, false⟩,
  ⟨0x1310, 0x131a, 1, 1, .i32, .ro, 0, 2, .lane, false, false, 0, 0xffffffff, 0, 0, false⟩,
  ⟨0x1310, 0x131a, 2, 2, .i32, .ro, 0, 2, .lane, false, false, 0, 0xffffffff, 0, 0, false⟩,
  ⟨0x1310, 0x131a, 3, 3, .u32, .ro, 0, 2, .lane, false, false, 0, 0xffffffff, 0, 0, false⟩,
  ⟨0x1310, 0x131a, 4, 4, .u32, .rw, 0, 2, .lane, false, true, 0, 0xffffffff, 0, 0, false⟩,
  ⟨0x1310, 0x131a, 5, 5, .u32, .rw, 0, 2, .lane, false, true, 0, 0xffffffff, 0, 0, false⟩,
  ⟨0x1310, 0x131a, 6, 6, .u16, .ro, 0xffff, 2, .lane, false, false, 0, 0xffff, 0, 0, false⟩,
  ⟨0x1310, 0x131a, 7, 7, .u8, .ro, 0, 2, .lane, false, false, 0, 255, 0, 0, false⟩,
  ⟨0x1330, 0x1330, 1, 24, .u16, .ro, 120, 2, .lane, false, false, 0, 0xffff, 0, 0, false⟩,
  ⟨0x1331, 0x1331, 1, 24, .u16, .ro, 0x6a4, 2, .lane, false, false, 0, 0xffff, 0, 0, false⟩]

/-- Entries from 1400h: Fault semantics to Reactions. -/
def rowsFault : List Row := [
  ⟨0x1400, 0x1400, 0, 0, .u8, .rw, 0, 2, .node, false, true, 0, 1, 0, 0, false⟩,
  ⟨0x1401, 0x1401, 1, 4, .u32, .rw, 0, 1, .lane, false, false, 0, 0xffffffff, 0, 0xffffffff, false⟩,
  ⟨0x1401, 0x1401, 5, 5, .u32, .rw, 0, 1, .module, false, false, 0, 0xffffffff, 0xffff0000, 0xffff, false⟩,
  ⟨0x1402, 0x1402, 1, 4, .u32, .rw, 0, 1, .lane, false, false, 0, 0xffffffff, 0, 0xffffffff, false⟩,
  ⟨0x1402, 0x1402, 5, 5, .u32, .rw, 0, 1, .module, false, false, 0, 0xffffffff, 0xffff0000, 0xffffffff, false⟩,
  ⟨0x1403, 0x1403, 1, 4, .u32, .rw, 0, 1, .lane, false, false, 0, 0xffffffff, 0, 0xffffffff, false⟩,
  ⟨0x1403, 0x1403, 5, 5, .u32, .rw, 0, 1, .module, false, false, 0, 0xffffffff, 0xffff0000, 0xffffffff, false⟩,
  ⟨0x1404, 0x1404, 1, 4, .u32, .ro, 0, 1, .lane, false, false, 0, 0xffffffff, 0, 0, false⟩,
  ⟨0x1404, 0x1404, 5, 5, .u32, .ro, 0, 1, .module, false, false, 0, 0xffffffff, 0, 0, false⟩,
  ⟨0x1405, 0x1405, 1, 1, .u16, .ro, 0, 1, .lane, false, false, 0, 0xffff, 0, 0, false⟩,
  ⟨0x1405, 0x1405, 2, 2, .u16, .ro, 0, 1, .module, false, false, 0, 0xffff, 0, 0, false⟩,
  ⟨0x1406, 0x1406, 1, 1, .u16, .cmd, 0, 1, .lane, false, false, 0, 0xffff, 0xe000, 0, false⟩,
  ⟨0x1406, 0x1406, 2, 2, .u16, .cmd, 0, 1, .module, false, false, 0, 0xffff, 0xe000, 0, false⟩,
  ⟨0x1407, 0x1407, 1, 13, .u8, .ro, 0, 1, .lane, false, false, 0, 255, 0, 0, false⟩,
  ⟨0x1408, 0x1408, 1, 13, .u32, .ro, 0, 1, .lane, false, false, 0, 0xffffffff, 0, 0, false⟩,
  ⟨0x1409, 0x1409, 1, 1, .u8, .cmd, 0, 2, .lane, false, false, 0, 255, 0, 0, false⟩,
  ⟨0x1409, 0x1409, 2, 2, .u8, .cmd, 0, 2, .module, false, false, 0, 255, 0, 0, false⟩,
  ⟨0x140a, 0x140a, 1, 1, .u8, .cmd, 0, 2, .lane, false, false, 0, 255, 0, 0, false⟩,
  ⟨0x140a, 0x140a, 2, 2, .u8, .cmd, 0, 2, .module, false, false, 0, 255, 0, 0, false⟩,
  ⟨0x140b, 0x140b, 1, 1, .u8, .ro, 0, 1, .lane, false, true, 0, 255, 0, 0, false⟩,
  ⟨0x140b, 0x140b, 2, 2, .u8, .ro, 255, 1, .lane, false, true, 0, 255, 0, 0, false⟩,
  ⟨0x140c, 0x140c, 1, 13, .u8, .ro, 0, 1, .module, false, false, 0, 255, 0, 0, false⟩,
  ⟨0x140d, 0x140d, 1, 13, .u32, .ro, 0, 1, .module, false, false, 0, 0xffffffff, 0, 0, false⟩,
  ⟨0x1410, 0x148f, 1, 1, .u8, .rw, 0, 2, .lane, true, true, 0, 5, 0, 0, false⟩,
  ⟨0x1410, 0x148f, 2, 2, .u8, .rw, 0, 2, .lane, true, true, 0, 5, 0, 0, false⟩,
  ⟨0x1410, 0x148f, 3, 3, .u32, .ro, 0, 1, .lane, false, true, 0, 0xffffffff, 0, 0, false⟩,
  ⟨0x1490, 0x149f, 1, 1, .u8, .rw, 0, 2, .module, false, true, 0, 5, 0, 0, false⟩,
  ⟨0x1490, 0x149f, 2, 2, .u8, .rw, 0, 2, .module, false, true, 0, 5, 0, 0, false⟩,
  ⟨0x1490, 0x149f, 3, 3, .u32, .ro, 0, 1, .module, false, true, 0, 0xffffffff, 0, 0, false⟩]

/-- Entries from 1500h: Recorder status to Final read data. -/
def rowsRecorder : List Row := [
  ⟨0x1500, 0x1500, 0, 0, .u16, .rw, 0, 1, .lane, false, false, 0, 0xffff, 0xff00, 0x2, false⟩,
  ⟨0x1501, 0x1501, 0, 0, .u32, .ro, 0, 1, .lane, false, false, 0, 0xffffffff, 0, 0, false⟩,
  ⟨0x1502, 0x1502, 0, 0, .u32, .ro, 0, 1, .lane, false, false, 0, 0xffffffff, 0, 0, false⟩,
  ⟨0x1503, 0x1503, 0, 0, .u32, .ro, 0, 1, .lane, false, true, 0, 0xffffffff, 0, 0, false⟩,
  ⟨0x1503, 0x1503, 1, 1, .u16, .ro, 0, 1, .lane, false, false, 0, 0xffff, 0, 0, false⟩,
  ⟨0x1505, 0x1505, 1, 1, .u32, .rw, 0, 1, .lane, false, false, 0, 0x1ffff, 0, 0, false⟩,
  ⟨0x1505, 0x1505, 2, 2, .u16, .rw, 1, 1, .lane, false, false, 1, 0x800, 0, 0, false⟩,
  ⟨0x1505, 0x1505, 3, 3, .u16, .ro, 0, 1, .lane, false, false, 0, 0xffff, 0, 0, false⟩,
  ⟨0x1505, 0x1505, 4, 4, .octets, .ro, 0, 1, .lane, false, false, 0, 0, 0, 0, false⟩,
  ⟨0x1506, 0x1506, 0, 0, .u8, .cmd, 0, 2, .lane, false, false, 1, 1, 0, 0, false⟩,
  ⟨0x1507, 0x1507, 0, 0, .u64, .ro, 0, 1, .lane, false, false, 0, 0xffffffffffffffff, 0, 0, false⟩,
  ⟨0x1508, 0x1508, 0, 0, .u32, .ro, 0, 1, .lane, false, false, 0, 0xffffffff, 0, 0, false⟩,
  ⟨0x1509, 0x1509, 0, 0, .u8, .cmd, 0, 2, .lane, false, false, 1, 1, 0, 0, false⟩,
  ⟨0x150a, 0x150a, 1, 1, .u8, .ro, 0, 1, .lane, false, true, 0, 255, 0, 0, false⟩,
  ⟨0x150a, 0x150a, 2, 2, .u32, .ro, 0, 1, .lane, false, true, 0, 0xffffffff, 0, 0, false⟩,
  ⟨0x150b, 0x150b, 0, 0, .u32, .ro, 0, 1, .lane, false, true, 0, 0xffffffff, 0, 0, false⟩,
  ⟨0x150c, 0x150c, 1, 1, .u8, .ro, 0, 1, .lane, false, false, 0, 255, 0, 0, false⟩,
  ⟨0x150c, 0x150c, 2, 2, .u32, .ro, 0, 1, .lane, false, true, 0, 0xffffffff, 0, 0, false⟩,
  ⟨0x150d, 0x150d, 1, 1, .u8, .rw, 0, 1, .lane, false, false, 0, 63, 0, 0, false⟩,
  ⟨0x150d, 0x150d, 2, 2, .octets, .ro, 0, 1, .lane, false, false, 0, 0, 0, 0, false⟩]

/-- Entries from 1600h: Security status to Abandon update. -/
def rowsSecurity : List Row := [
  ⟨0x1600, 0x1600, 0, 0, .u8, .ro, 0, 1, .module, false, false, 0, 255, 0, 0, false⟩,
  ⟨0x1601, 0x1601, 1, 3, .octets, .wo, 0, 3, .module, false, true, 0, 0, 0, 0, false⟩,
  ⟨0x1602, 0x1602, 0, 0, .u32, .ro, 0, 1, .module, false, true, 0, 0xffffffff, 0, 0, false⟩,
  ⟨0x1610, 0x1610, 1, 2, .octets, .ro, 0, 1, .module, false, false, 0, 0, 0, 0, false⟩,
  ⟨0x1610, 0x1610, 3, 3, .u8, .rw, 0, 3, .module, false, true, 0, 255, 0xfc, 0, false⟩,
  ⟨0x1611, 0x1611, 1, 4, .octets, .rw, 0, 2, .module, false, true, 0, 0, 0, 0, false⟩,
  ⟨0x1612, 0x1612, 0, 0, .u16, .ro, 0, 1, .lane, false, true, 0, 0xffff, 0, 0, false⟩,
  ⟨0x1620, 0x1620, 1, 1, .octets, .ro, 0, 1, .module, false, false, 0, 0, 0, 0, true⟩,
  ⟨0x1620, 0x1620, 2, 2, .octets, .wo, 0, 1, .module, false, false, 0, 0, 0, 0, false⟩,
  ⟨0x1620, 0x1620, 3, 3, .octets, .ro, 0, 1, .module, false, false, 0, 0, 0, 0, false⟩,
  ⟨0x1630, 0x1630, 1, 1, .u32, .rw, 0, 1, .node, false, false, 0, 0xfffff, 0, 0, false⟩,
  ⟨0x1630, 0x1630, 2, 2, .octets, .wo, 0, 2, .node, false, false, 0, 0, 0, 0, false⟩,
  ⟨0x1631, 0x1631, 0, 0, .u32, .cmd, 0, 2, .node, false, false, 0, 0xffffffff, 0, 0, false⟩,
  ⟨0x1640, 0x1640, 1, 1, .u32, .rw, 0, 1, .lane, false, false, 0, 0xffffffff, 0, 0, false⟩,
  ⟨0x1640, 0x1640, 2, 2, .octets, .wo, 0, 2, .lane, false, false, 0, 0, 0, 0, false⟩,
  ⟨0x1641, 0x1641, 0, 0, .u32, .cmd, 0, 2, .lane, false, false, 0, 0xffffffff, 0, 0, false⟩,
  ⟨0x1642, 0x1642, 0, 0, .u8, .cmd, 0, 1, .lane, false, false, 1, 1, 0, 0, false⟩,
  ⟨0x1643, 0x1643, 0, 0, .u8, .cmd, 0, 1, .lane, false, false, 1, 1, 0, 0, false⟩]

/-- Entries from 2000h: Port enable to Bypass state. -/
def rowsPort : List Row := [
  ⟨0x2000, 0x2000, 1, 2, .bool, .rw, 1, 2, .lane, false, true, 0, 1, 0, 0, false⟩,
  ⟨0x2001, 0x2001, 1, 2, .u16, .ro, 0, 1, .lane, false, false, 0, 0xffff, 0, 0, false⟩,
  ⟨0x2002, 0x2002, 0, 0, .u8, .rw, 3, 2, .lane, false, true, 0, 3, 0, 0, false⟩,
  ⟨0x2003, 0x2003, 0, 0, .u8, .rw, 0, 2, .lane, false, true, 0, 3, 0, 0, false⟩,
  ⟨0x2004, 0x2004, 0, 0, .u8, .ro, 0, 1, .lane, false, false, 0, 255, 0, 0, false⟩,
  ⟨0x2005, 0x2005, 0, 0, .u8, .ro, 255, 1, .lane, false, false, 0, 255, 0, 0, false⟩,
  ⟨0x2006, 0x2006, 1, 2, .u8, .ro, 255, 1, .lane, false, false, 0, 255, 0, 0, false⟩,
  ⟨0x2007, 0x2007, 1, 2, .u8, .ro, 255, 1, .lane, false, false, 0, 255, 0, 0, false⟩,
  ⟨0x2008, 0x2008, 1, 2, .i32, .ro, 0, 1, .lane, false, false, 0, 0xffffffff, 0, 0, false⟩,
  ⟨0x2009, 0x2009, 1, 2, .u16, .ro, 0, 1, .lane, false, false, 0, 0xffff, 0, 0, false⟩,
  ⟨0x200a, 0x200a, 1, 2, .u32, .ro, 0, 1, .lane, false, true, 0, 0xffffffff, 0, 0, false⟩,
  ⟨0x200b, 0x200b, 1, 2, .u32, .ro, 0, 1, .lane, false, true, 0, 0xffffffff, 0, 0, false⟩,
  ⟨0x200c, 0x200c, 1, 2, .u32, .ro, 0, 1, .lane, false, true, 0, 0xffffffff, 0, 0, false⟩,
  ⟨0x200d, 0x200d, 1, 2, .u64, .ro, 0, 1, .lane, false, false, 0, 0xffffffffffffffff, 0, 0, false⟩,
  ⟨0x2010, 0x2010, 0, 0, .u8, .cmd, 0, 1, .lane, false, false, 0, 255, 0x7c, 0, false⟩,
  ⟨0x2011, 0x2011, 1, 2, .u32, .ro, 0, 1, .lane, false, false, 0, 0xffffffff, 0, 0, false⟩,
  ⟨0x2012, 0x2012, 1, 2, .u32, .ro, 0, 1, .lane, false, false, 0, 0xffffffff, 0, 0, false⟩,
  ⟨0x2013, 0x2013, 1, 2, .i32, .ro, 0, 1, .lane, false, false, 0, 0xffffffff, 0, 0, false⟩,
  ⟨0x2014, 0x2014, 0, 0, .u16, .rw, 700, 1, .lane, false, true, 500, 900, 0, 0, false⟩,
  ⟨0x2015, 0x2015, 1, 2, .u16, .ro, 0, 1, .lane, false, false, 0, 0xffff, 0, 0, false⟩,
  ⟨0x2016, 0x2016, 0, 0, .u8, .ro, 0, 1, .lane, false, false, 0, 255, 0, 0, false⟩]

/-- Entries from 2100h: Frames received to Drops by reason. -/
def rowsMac : List Row := [
  ⟨0x2100, 0x2100, 1, 2, .u32, .ro, 0, 1, .lane, false, false, 0, 0xffffffff, 0, 0, false⟩,
  ⟨0x2101, 0x2101, 1, 2, .u32, .ro, 0, 1, .lane, false, false, 0, 0xffffffff, 0, 0, false⟩,
  ⟨0x2102, 0x2102, 1, 2, .u32, .ro, 0, 1, .lane, false, false, 0, 0xffffffff, 0, 0, false⟩,
  ⟨0x2103, 0x2103, 1, 2, .u32, .ro, 0, 1, .lane, false, false, 0, 0xffffffff, 0, 0, false⟩,
  ⟨0x2104, 0x2104, 1, 2, .u32, .ro, 0, 1, .lane, false, false, 0, 0xffffffff, 0, 0, false⟩,
  ⟨0x2105, 0x2105, 1, 2, .u32, .ro, 0, 1, .lane, false, false, 0, 0xffffffff, 0, 0, false⟩,
  ⟨0x2106, 0x2106, 1, 2, .u32, .ro, 0, 1, .lane, false, false, 0, 0xffffffff, 0, 0, false⟩,
  ⟨0x2107, 0x2107, 1, 2, .u32, .ro, 0, 1, .lane, false, false, 0, 0xffffffff, 0, 0, false⟩,
  ⟨0x2108, 0x2108, 1, 2, .u32, .ro, 0, 1, .lane, false, false, 0, 0xffffffff, 0, 0, false⟩,
  ⟨0x2109, 0x2109, 1, 2, .u32, .ro, 0, 1, .lane, false, false, 0, 0xffffffff, 0, 0, false⟩,
  ⟨0x210a, 0x210a, 1, 2, .u32, .ro, 0, 1, .lane, false, false, 0, 0xffffffff, 0, 0, false⟩,
  ⟨0x210b, 0x210b, 1, 2, .u32, .ro, 0, 1, .lane, false, false, 0, 0xffffffff, 0, 0, false⟩,
  ⟨0x210c, 0x210c, 1, 2, .u32, .ro, 0, 1, .lane, false, false, 0, 0xffffffff, 0, 0, false⟩,
  ⟨0x210d, 0x210d, 1, 2, .u32, .ro, 0, 1, .lane, false, false, 0, 0xffffffff, 0, 0, false⟩,
  ⟨0x210e, 0x210e, 1, 2, .u32, .ro, 0, 1, .lane, false, false, 0, 0xffffffff, 0, 0, false⟩,
  ⟨0x210f, 0x210f, 1, 2, .u32, .ro, 0, 1, .lane, false, false, 0, 0xffffffff, 0, 0, false⟩,
  ⟨0x2110, 0x2110, 1, 2, .u32, .ro, 0, 1, .lane, false, false, 0, 0xffffffff, 0, 0, false⟩,
  ⟨0x2111, 0x2111, 1, 2, .u32, .ro, 0, 1, .lane, false, false, 0, 0xffffffff, 0, 0, false⟩,
  ⟨0x2112, 0x2112, 1, 2, .u32, .ro, 0, 1, .lane, false, false, 0, 0xffffffff, 0, 0, false⟩,
  ⟨0x2113, 0x2113, 1, 2, .u32, .ro, 0, 1, .lane, false, false, 0, 0xffffffff, 0, 0, false⟩,
  ⟨0x2114, 0x2114, 1, 2, .u32, .ro, 0, 1, .lane, false, false, 0, 0xffffffff, 0, 0, false⟩,
  ⟨0x2115, 0x2115, 1, 2, .u32, .ro, 0, 1, .lane, false, false, 0, 0xffffffff, 0, 0, false⟩,
  ⟨0x2116, 0x2116, 1, 2, .u32, .ro, 0, 1, .lane, false, false, 0, 0xffffffff, 0, 0, false⟩,
  ⟨0x2117, 0x2117, 1, 2, .u32, .ro, 0, 1, .lane, false, false, 0, 0xffffffff, 0, 0, false⟩,
  ⟨0x2118, 0x2118, 1, 2, .u32, .ro, 0, 1, .lane, false, false, 0, 0xffffffff, 0, 0, false⟩,
  ⟨0x2119, 0x2119, 1, 2, .u32, .ro, 0, 1, .lane, false, false, 0, 0xffffffff, 0, 0, false⟩,
  ⟨0x211a, 0x211a, 1, 2, .u32, .ro, 0, 1, .lane, false, false, 0, 0xffffffff, 0, 0, false⟩,
  ⟨0x211b, 0x211b, 1, 2, .u32, .ro, 0, 1, .lane, false, false, 0, 0xffffffff, 0, 0, false⟩,
  ⟨0x211c, 0x211c, 1, 2, .u32, .ro, 0, 1, .lane, false, false, 0, 0xffffffff, 0, 0, false⟩,
  ⟨0x2120, 0x2135, 1, 2, .u32, .ro, 0, 1, .lane, false, false, 0, 0xffffffff, 0, 0, false⟩]

/-- Entries from 21F0h: Half-range status to Half-range interrupt enable. -/
def rowsMac2 : List Row := [
  ⟨0x21f0, 0x21f0, 1, 2, .u64, .rw, 0, 1, .lane, false, false, 0, 0xffffffffffffffff, 0xffc00000e0000000, 0xffffffffffffffff, false⟩,
  ⟨0x21f1, 0x21f1, 1, 2, .u64, .rw, 0, 1, .lane, false, true, 0, 0xffffffffffffffff, 0xffc00000e0000000, 0, false⟩]

/-- Entries from 2200h: Egress queue fill to Lane MAC address. -/
def rowsRing : List Row := [
  ⟨0x2200, 0x2200, 1, 2, .u32, .ro, 0, 1, .lane, false, false, 0, 0xffffffff, 0, 0, false⟩,
  ⟨0x2201, 0x2201, 1, 2, .u32, .ro, 0, 1, .lane, false, false, 0, 0xffffffff, 0, 0, true⟩,
  ⟨0x2202, 0x2202, 0, 0, .u16, .rw, 128, 2, .lane, false, true, 16, 512, 0, 0, false⟩,
  ⟨0x2203, 0x2203, 0, 0, .u16, .rw, 384, 2, .lane, false, true, 32, 1008, 0, 0, false⟩,
  ⟨0x2204, 0x2204, 0, 0, .u16, .rw, 0x1000, 2, .lane, false, true, 256, 0xffff, 0, 0, false⟩,
  ⟨0x2205, 0x2205, 0, 0, .bool, .rw, 1, 2, .lane, false, true, 0, 1, 0, 0, false⟩,
  ⟨0x2206, 0x2206, 0, 0, .u16, .ro, 0x400, 1, .lane, false, false, 0, 0xffff, 0, 0, false⟩,
  ⟨0x2207, 0x2207, 0, 0, .u16, .ro, 0x400, 1, .lane, false, false, 0, 0xffff, 0, 0, true⟩,
  ⟨0x2208, 0x2208, 0, 0, .u8, .ro, 0, 1, .lane, false, false, 0, 255, 0, 0, false⟩,
  ⟨0x2210, 0x2210, 1, 16, .u32, .ro, 0, 1, .lane, false, false, 0, 0xffffffff, 0, 0, false⟩,
  ⟨0x2211, 0x2211, 0, 0, .u64, .ro, 0, 1, .lane, false, false, 0, 0xffffffffffffffff, 0, 0, false⟩]

/-- Entries from 2400h: Roll state to Node UID. -/
def rowsRoll : List Row := [
  ⟨0x2400, 0x2400, 0, 0, .u8, .ro, 0, 1, .lane, false, false, 0, 255, 0, 0, false⟩,
  ⟨0x2401, 0x2401, 0, 0, .u16, .ro, 0, 1, .lane, false, false, 0, 0xffff, 0, 0, false⟩,
  ⟨0x2402, 0x2402, 0, 0, .u32, .ro, 0, 1, .node, false, false, 0, 0xffffffff, 0, 0, false⟩,
  ⟨0x2403, 0x2403, 0, 0, .u16, .ro, 0, 1, .node, false, false, 0, 0xffff, 0, 0, false⟩,
  ⟨0x2404, 0x2404, 0, 0, .u16, .ro, 0, 1, .node, false, false, 0, 0xffff, 0, 0, false⟩,
  ⟨0x2405, 0x2405, 0, 0, .u16, .ro, 0, 1, .node, false, false, 0, 0xffff, 0, 0, false⟩,
  ⟨0x2406, 0x2406, 0, 0, .time64, .ro, 0, 1, .node, false, false, 0, 0xffffffffffffffff, 0, 0, false⟩,
  ⟨0x2407, 0x2407, 0, 0, .u16, .ro, 0, 1, .node, false, false, 0, 0xffff, 0, 0, false⟩,
  ⟨0x2408, 0x2408, 0, 0, .u32, .ro, 0, 1, .node, false, true, 0, 0xffffffff, 0, 0, false⟩,
  ⟨0x2409, 0x2409, 0, 0, .u32, .ro, 0, 1, .lane, false, false, 0, 0xffffffff, 0, 0, false⟩,
  ⟨0x240a, 0x240a, 0, 0, .u8, .ro, 0, 1, .lane, false, false, 0, 255, 0, 0, false⟩,
  ⟨0x240b, 0x240b, 0, 0, .u16, .ro, 0xffff, 1, .node, false, false, 0, 0xffff, 0, 0, false⟩,
  ⟨0x2410, 0x2410, 1, 1, .u64, .ro, 0, 1, .node, false, false, 0, 0xffffffffffffffff, 0, 0, false⟩,
  ⟨0x2410, 0x2410, 2, 2, .u32, .rw, 0, 2, .node, false, true, 0, 0xffffffff, 0, 0, false⟩,
  ⟨0x2410, 0x2410, 3, 3, .u16, .ro, 0, 1, .node, false, false, 0, 0xffff, 0, 0, false⟩,
  ⟨0x2410, 0x2410, 4, 4, .u16, .ro, 0, 1, .node, false, false, 0, 0xffff, 0, 0, false⟩,
  ⟨0x2410, 0x2410, 5, 5, .u8, .rw, 0, 2, .node, false, true, 0, 1, 0, 0, false⟩,
  ⟨0x2410, 0x2410, 6, 6, .u8, .ro, 0, 1, .node, false, false, 0, 255, 0, 0, false⟩,
  ⟨0x2420, 0x2420, 0, 0, .u8, .cmd, 0, 1, .node, false, false, 1, 1, 0, 0, false⟩,
  ⟨0x2421, 0x2421, 0, 0, .u8, .rw, 0, 1, .node, false, false, 0, 1, 0, 0, false⟩,
  ⟨0x2431, 0x2431, 1, 1, .u32, .ro, 0, 1, .lane, false, false, 0, 0xffffffff, 0, 0, false⟩,
  ⟨0x2431, 0x2431, 2, 2, .u32, .ro, 0, 1, .lane, false, false, 0, 0xffffffff, 0, 0, false⟩,
  ⟨0x2431, 0x2431, 3, 3, .u32, .ro, 0, 1, .lane, false, false, 0, 0xffffffff, 0, 0, false⟩,
  ⟨0x2431, 0x2431, 4, 4, .u32, .ro, 0, 1, .lane, false, false, 0, 0xffffffff, 0, 0, false⟩,
  ⟨0x2431, 0x2431, 5, 5, .u32, .ro, 0, 1, .lane, false, false, 0, 0xffffffff, 0, 0, false⟩,
  ⟨0x2431, 0x2431, 6, 6, .u32, .ro, 0, 1, .lane, false, false, 0, 0xffffffff, 0, 0, false⟩,
  ⟨0x2431, 0x2431, 7, 7, .u32, .ro, 0, 1, .lane, false, false, 0, 0xffffffff, 0, 0, false⟩,
  ⟨0x2432, 0x2432, 0, 0, .u16, .ro, 0, 1, .node, false, false, 0, 0xffff, 0, 0, false⟩,
  ⟨0x2500, 0x26ff, 1, 1, .u16, .ro, 0, 1, .node, false, false, 0, 0xffff, 0, 0, false⟩,
  ⟨0x2500, 0x26ff, 2, 2, .u64, .ro, 0, 1, .node, false, false, 0, 0xffffffffffffffff, 0, 0, false⟩]

/-- Entries from 2500h: Vehicle UID to Rejected flows. -/
def rowsRoll2 : List Row := [
  ⟨0x2500, 0x26ff, 3, 3, .u32, .ro, 0, 1, .node, false, false, 0, 0xffffffff, 0, 0, false⟩,
  ⟨0x2500, 0x26ff, 4, 4, .u16, .ro, 0, 1, .node, false, false, 0, 0xffff, 0, 0, false⟩,
  ⟨0x2500, 0x26ff, 5, 5, .u8, .ro, 0, 1, .node, false, false, 0, 255, 0, 0, false⟩,
  ⟨0x2500, 0x26ff, 6, 6, .u8, .ro, 0, 1, .node, false, false, 0, 255, 0, 0, false⟩,
  ⟨0x2500, 0x26ff, 7, 7, .u8, .ro, 0, 1, .node, false, false, 0, 255, 0, 0, false⟩,
  ⟨0x2500, 0x26ff, 8, 8, .u16, .ro, 0, 1, .node, false, false, 0, 0xffff, 0, 0, false⟩,
  ⟨0x2500, 0x26ff, 9, 9, .u16, .ro, 0, 1, .node, false, false, 0, 0xffff, 0, 0, false⟩,
  ⟨0x2500, 0x26ff, 10, 10, .u32, .ro, 0, 1, .node, false, false, 0, 0xffffffff, 0, 0, false⟩,
  ⟨0x2500, 0x26ff, 11, 11, .u16, .ro, 0, 1, .node, false, false, 0, 0xffff, 0, 0, false⟩]

/-- Entries from 2800h: Schedule status to Stale events. -/
def rowsFlow : List Row := [
  ⟨0x2800, 0x2800, 0, 0, .u16, .ro, 0, 1, .node, false, false, 0, 0xffff, 0, 0, false⟩,
  ⟨0x2801, 0x2801, 0, 0, .u32, .ro, 0, 1, .node, false, false, 0, 0xffffffff, 0, 0, false⟩,
  ⟨0x2802, 0x2802, 0, 0, .u32, .ro, 0, 1, .node, false, false, 0, 0xffffffff, 0, 0, false⟩,
  ⟨0x2803, 0x2803, 0, 0, .u16, .ro, 0, 1, .node, false, false, 0, 0xffff, 0, 0, false⟩,
  ⟨0x2804, 0x2804, 0, 0, .u16, .ro, 0, 1, .node, false, false, 0, 0xffff, 0, 0, false⟩,
  ⟨0x2805, 0x2805, 0, 0, .u16, .ro, 0, 1, .node, false, false, 0, 0xffff, 0, 0, false⟩,
  ⟨0x2806, 0x2806, 0, 0, .u16, .ro, 0, 1, .lane, false, false, 0, 0xffff, 0, 0, false⟩,
  ⟨0x2807, 0x2807, 0, 0, .u32, .ro, 0, 1, .lane, false, false, 0, 0xffffffff, 0, 0, false⟩,
  ⟨0x2808, 0x2808, 0, 0, .u32, .ro, 0, 1, .node, false, false, 0, 0xffffffff, 0, 0, false⟩,
  ⟨0x2810, 0x2810, 0, 0, .u8, .rw, 0, 2, .node, false, true, 0, 10, 0, 0, false⟩,
  ⟨0x2811, 0x2811, 0, 0, .u32, .ro, 0, 1, .lane, false, false, 0, 0xffffffff, 0, 0, false⟩,
  ⟨0x2812, 0x2812, 0, 0, .u32, .ro, 0, 1, .lane, false, false, 0, 0xffffffff, 0, 0, false⟩,
  ⟨0x2813, 0x2813, 0, 0, .u32, .ro, 0, 1, .lane, false, false, 0, 0xffffffff, 0, 0, false⟩,
  ⟨0x2814, 0x2814, 0, 0, .u32, .ro, 0, 1, .lane, false, false, 0, 0xffffffff, 0, 0, false⟩,
  ⟨0x2815, 0x2815, 0, 0, .u32, .ro, 0, 1, .lane, false, false, 0, 0xffffffff, 0, 0, false⟩,
  ⟨0x2816, 0x2816, 0, 0, .u16, .ro, 0, 1, .lane, false, false, 0, 0xffff, 0, 0, false⟩,
  ⟨0x3000, 0x33ff, 1, 1, .u8, .rw, 0, 2, .node, false, true, 0, 2, 0, 0, false⟩,
  ⟨0x3000, 0x33ff, 2, 2, .u16, .rw, 0, 2, .node, false, true, 0, 1023, 0, 0, false⟩,
  ⟨0x3000, 0x33ff, 3, 3, .u8, .rw, 0, 2, .node, false, true, 0, 10, 0, 0, false⟩,
  ⟨0x3000, 0x33ff, 4, 4, .u8, .rw, 2, 2, .node, false, true, 0, 3, 0, 0, false⟩,
  ⟨0x3000, 0x33ff, 5, 5, .u16, .rw, 8, 2, .node, false, true, 1, 0x578, 0, 0, false⟩,
  ⟨0x3000, 0x33ff, 6, 6, .u64, .rw, 0, 2, .node, false, true, 0, 0xffffffffffffffff, 0, 0, false⟩,
  ⟨0x3000, 0x33ff, 7, 7, .u16, .rw, 0, 2, .node, false, true, 0, 512, 0, 0, false⟩,
  ⟨0x3000, 0x33ff, 8, 8, .u16, .rw, 0, 2, .node, false, true, 0, 0xffff, 0, 0, false⟩,
  ⟨0x3000, 0x33ff, 9, 9, .u32, .rw, 0, 1, .lane, true, false, 0, 0xffffffff, 0xff0000, 0x88000000, false⟩,
  ⟨0x3000, 0x33ff, 10, 10, .u16, .ro, 0xffff, 1, .lane, false, false, 0, 0xffff, 0, 0, false⟩,
  ⟨0x3000, 0x33ff, 11, 11, .u32, .ro, 0, 1, .lane, false, false, 0, 0xffffffff, 0, 0, false⟩,
  ⟨0x3000, 0x33ff, 12, 12, .u32, .ro, 0, 1, .lane, false, false, 0, 0xffffffff, 0, 0, false⟩,
  ⟨0x3000, 0x33ff, 13, 13, .u32, .ro, 0, 1, .lane, false, false, 0, 0xffffffff, 0, 0, false⟩,
  ⟨0x3000, 0x33ff, 14, 14, .u32, .ro, 0, 1, .lane, false, false, 0, 0xffffffff, 0, 0, false⟩]

/-- Entries from 3000h: Resolved position to Resolved position. -/
def rowsFlow2 : List Row := [
  ⟨0x3000, 0x33ff, 15, 15, .u16, .ro, 0, 1, .lane, false, false, 0, 0xffff, 0, 0, false⟩]

/-- Entries from 3800h: State to Locks held. -/
def rowsMessage : List Row := [
  ⟨0x3800, 0x387f, 1, 1, .u8, .ro, 0, 1, .node, false, false, 0, 255, 0, 0, false⟩,
  ⟨0x3800, 0x387f, 2, 2, .u8, .ro, 0, 1, .node, false, false, 0, 255, 0, 0, false⟩,
  ⟨0x3800, 0x387f, 3, 3, .u64, .rw, 0, 1, .node, false, false, 0, 0xffffffffffffffff, 0, 0, false⟩,
  ⟨0x3800, 0x387f, 4, 4, .u16, .rw, 0, 1, .node, false, false, 0, 512, 0, 0, false⟩,
  ⟨0x3800, 0x387f, 5, 5, .u8, .rw, 0, 1, .node, false, false, 0, 2, 0, 0, false⟩,
  ⟨0x3800, 0x387f, 6, 6, .u8, .rw, 1, 1, .node, false, false, 0, 255, 0, 0, false⟩,
  ⟨0x3800, 0x387f, 7, 7, .u32, .rw, 0, 1, .node, false, false, 0, 0xffffffff, 0, 0, false⟩,
  ⟨0x3800, 0x387f, 8, 8, .u32, .rw, 4, 1, .node, false, false, 1, 0x10000, 0, 0, false⟩,
  ⟨0x3800, 0x387f, 9, 9, .u16, .rw, 10, 1, .node, false, true, 1, 50, 0, 0, false⟩,
  ⟨0x3800, 0x387f, 10, 10, .u8, .rw, 2, 1, .node, false, true, 0, 7, 0, 0, false⟩,
  ⟨0x3800, 0x387f, 11, 11, .u8, .cmd, 0, 1, .node, false, false, 1, 1, 0, 0, false⟩,
  ⟨0x3800, 0x387f, 12, 12, .u32, .ro, 0, 1, .node, false, false, 0, 0xffffffff, 0, 0, false⟩,
  ⟨0x3800, 0x387f, 13, 13, .octets, .rw, 0, 1, .node, false, false, 0, 0, 0, 0, false⟩,
  ⟨0x3800, 0x387f, 14, 14, .u32, .ro, 0, 1, .node, false, false, 0, 0xffffffff, 0, 0, false⟩,
  ⟨0x3800, 0x387f, 15, 15, .u32, .ro, 0, 1, .node, false, false, 0, 0xffffffff, 0, 0, false⟩,
  ⟨0x3800, 0x387f, 16, 16, .u32, .ro, 0, 1, .node, false, false, 0, 0xffffffff, 0, 0, false⟩,
  ⟨0x3900, 0x3900, 0, 0, .u8, .ro, 0, 1, .node, false, false, 0, 255, 0, 0, false⟩,
  ⟨0x3901, 0x3901, 0, 0, .u32, .ro, 0, 1, .node, false, false, 0, 0xffffffff, 0, 0, false⟩,
  ⟨0x3902, 0x3902, 0, 0, .u32, .ro, 0, 1, .node, false, false, 0, 0xffffffff, 0, 0, false⟩,
  ⟨0x3904, 0x3904, 0, 0, .bool, .rw, 1, 1, .node, false, true, 0, 1, 0, 0, false⟩,
  ⟨0x3905, 0x3905, 0, 0, .u8, .rw, 1, 2, .node, false, true, 0, 2, 0, 0, false⟩,
  ⟨0x39f0, 0x39f0, 1, 1, .u32, .ro, 0, 1, .lane, false, false, 0, 0xffffffff, 0, 0, false⟩,
  ⟨0x39f0, 0x39f0, 2, 2, .u32, .ro, 0, 1, .lane, false, false, 0, 0xffffffff, 0, 0, false⟩,
  ⟨0x39f0, 0x39f0, 3, 3, .u32, .ro, 0, 1, .lane, false, false, 0, 0xffffffff, 0, 0, false⟩,
  ⟨0x39f0, 0x39f0, 4, 4, .u32, .ro, 0, 1, .lane, false, false, 0, 0xffffffff, 0, 0, false⟩,
  ⟨0x39f0, 0x39f0, 5, 5, .u32, .ro, 0, 1, .lane, false, false, 0, 0xffffffff, 0, 0, false⟩,
  ⟨0x39f0, 0x39f0, 6, 6, .u32, .ro, 0, 1, .lane, false, false, 0, 0xffffffff, 0, 0, false⟩,
  ⟨0x39f0, 0x39f0, 7, 7, .u32, .ro, 0, 1, .lane, false, false, 0, 0xffffffff, 0, 0, false⟩,
  ⟨0x39f0, 0x39f0, 8, 8, .u8, .ro, 0, 1, .lane, false, false, 0, 255, 0, 0, false⟩,
  ⟨0x39f0, 0x39f0, 9, 9, .u8, .ro, 0, 1, .lane, false, false, 0, 255, 0, 0, false⟩]

/-- Entries from 4000h: Train time to Pulses. -/
def rowsTime : List Row := [
  ⟨0x4000, 0x4000, 0, 0, .time64, .ro, 0, 1, .lane, false, false, 0, 0xffffffffffffffff, 0, 0, false⟩,
  ⟨0x4001, 0x4001, 0, 0, .u8, .ro, 0, 1, .lane, false, false, 0, 255, 0, 0, false⟩,
  ⟨0x4002, 0x4002, 0, 0, .u16, .rw, 0, 1, .lane, false, false, 0, 0xffff, 0xfe00, 0xd0, false⟩,
  ⟨0x4003, 0x4003, 0, 0, .u8, .ro, 0, 1, .lane, false, false, 0, 255, 0, 0, false⟩,
  ⟨0x4004, 0x4004, 1, 1, .time64, .ro, 0, 1, .lane, false, false, 0, 0xffffffffffffffff, 0, 0, false⟩,
  ⟨0x4004, 0x4004, 2, 2, .time64, .ro, 0, 1, .lane, false, false, 0, 0xffffffffffffffff, 0, 0, false⟩,
  ⟨0x4005, 0x4005, 0, 0, .i32, .ro, 0, 1, .lane, false, false, 0, 0xffffffff, 0, 0, false⟩,
  ⟨0x4006, 0x4006, 0, 0, .i32, .ro, 0, 1, .lane, false, false, 0, 0xffffffff, 0, 0, false⟩,
  ⟨0x4007, 0x4007, 0, 0, .u32, .ro, 0x8000000, 1, .lane, false, false, 0, 0xffffffff, 0, 0, false⟩,
  ⟨0x4008, 0x4008, 0, 0, .u32, .rw, 0x8000000, 2, .lane, false, true, 0x7fdf3b7, 0x8020c49, 0, 0, false⟩,
  ⟨0x4009, 0x4009, 0, 0, .u64, .ro, 0, 1, .lane, false, false, 0, 0xffffffffffffffff, 0, 0, false⟩,
  ⟨0x400a, 0x400a, 0, 0, .u64, .ro, 0, 1, .lane, false, false, 0, 0xffffffffffffffff, 0, 0, false⟩,
  ⟨0x400b, 0x400b, 0, 0, .u8, .rw, 8, 2, .module, false, true, 0, 15, 0, 0, false⟩,
  ⟨0x400c, 0x400c, 1, 2, .u32, .ro, 0, 1, .lane, false, false, 0, 0xffffffff, 0, 0, false⟩,
  ⟨0x400d, 0x400d, 1, 2, .u32, .ro, 0, 1, .lane, false, false, 0, 0xffffffff, 0, 0, false⟩,
  ⟨0x400e, 0x400e, 0, 0, .u32, .ro, 0, 1, .lane, false, false, 0, 0xffffffff, 0, 0, false⟩,
  ⟨0x400f, 0x400f, 0, 0, .u32, .ro, 0, 1, .lane, false, false, 0, 0xffffffff, 0, 0, false⟩,
  ⟨0x4010, 0x4010, 0, 0, .i32, .ro, 0, 1, .lane, false, false, 0, 0xffffffff, 0, 0, false⟩,
  ⟨0x4011, 0x4011, 0, 0, .u32, .ro, 0, 1, .lane, false, false, 0, 0xffffffff, 0, 0, false⟩,
  ⟨0x4012, 0x4012, 0, 0, .u32, .ro, 0, 1, .lane, false, false, 0, 0xffffffff, 0, 0, false⟩,
  ⟨0x4013, 0x4013, 0, 0, .u16, .ro, 0, 1, .module, false, true, 0, 0xffff, 0, 0, false⟩,
  ⟨0x4014, 0x4014, 0, 0, .u32, .ro, 0, 1, .lane, false, false, 0, 0xffffffff, 0, 0, false⟩,
  ⟨0x4020, 0x4027, 1, 1, .u8, .rw, 0, 1, .lane, true, false, 0, 2, 0, 0, false⟩,
  ⟨0x4020, 0x4027, 2, 2, .time64, .rw, 0, 1, .lane, true, false, 0, 0xffffffffffffffff, 0, 0, false⟩,
  ⟨0x4020, 0x4027, 3, 3, .u32, .rw, 0xf4240, 1, .lane, true, false, 0x2710, 0xee6b2800, 0, 0, false⟩,
  ⟨0x4020, 0x4027, 4, 4, .u32, .rw, 0x186a0, 1, .lane, true, false, 100, 0x3b9aca00, 0, 0, false⟩,
  ⟨0x4020, 0x4027, 5, 5, .bool, .rw, 0, 1, .lane, true, false, 0, 1, 0, 0, false⟩,
  ⟨0x4020, 0x4027, 6, 6, .u8, .rw, 0, 1, .lane, true, false, 0, 255, 0xf8, 0x4, false⟩,
  ⟨0x4020, 0x4027, 7, 7, .time64, .ro, 0, 1, .lane, false, false, 0, 0xffffffffffffffff, 0, 0, false⟩,
  ⟨0x4020, 0x4027, 8, 8, .u32, .ro, 0, 1, .lane, false, false, 0, 0xffffffff, 0, 0, false⟩]

/-- Entries from 4030h: Field time map to Field map correction. -/
def rowsTime2 : List Row := [
  ⟨0x4030, 0x4030, 0, 0, .u8, .ro, 0, 1, .lane, false, false, 0, 255, 0, 0, false⟩,
  ⟨0x4031, 0x4031, 0, 0, .i32, .ro, 0, 1, .lane, false, false, 0, 0xffffffff, 0, 0, false⟩]

/-- Entries from 4400h: Operation to Life timeout. -/
def rowsCarControl : List Row := [
  ⟨0x4400, 0x4400, 1, 1, .u8, .rw, 0, 2, .lane, true, true, 0, 1, 0, 0, false⟩,
  ⟨0x4400, 0x4400, 2, 2, .u8, .rw, 0, 2, .lane, true, true, 0, 1, 0, 0, false⟩,
  ⟨0x4400, 0x4400, 3, 3, .bool, .rw, 0, 2, .lane, true, true, 0, 1, 0, 0, false⟩,
  ⟨0x4401, 0x4401, 0, 0, .u32, .rw, 0x13e1e3c, 2, .lane, true, true, 0, 0xffffffff, 0x1, 0, false⟩,
  ⟨0x4402, 0x4402, 0, 0, .u32, .rw, 0x1c0909, 2, .lane, true, true, 0, 0xffffffff, 0xe0e0f0f0, 0, false⟩,
  ⟨0x4403, 0x4403, 1, 1, .u8, .rw, 0, 2, .lane, true, true, 0, 127, 0, 0, false⟩,
  ⟨0x4403, 0x4403, 2, 2, .bool, .rw, 1, 2, .lane, true, true, 0, 1, 0, 0, false⟩,
  ⟨0x4403, 0x4403, 3, 3, .u8, .ro, 0, 2, .lane, false, false, 0, 255, 0, 0, false⟩,
  ⟨0x4405, 0x4405, 0, 0, .u16, .rw, 0, 1, .lane, false, false, 0, 0xffff, 0xfc00, 0x300, false⟩,
  ⟨0x4406, 0x4406, 1, 1, .u16, .ro, 0, 2, .lane, false, false, 0, 0xffff, 0, 0, false⟩,
  ⟨0x4406, 0x4406, 2, 2, .u8, .ro, 0, 2, .lane, false, false, 0, 255, 0, 0, false⟩,
  ⟨0x4406, 0x4406, 3, 3, .u8, .ro, 0, 2, .lane, false, false, 0, 255, 0, 0, false⟩,
  ⟨0x4406, 0x4406, 4, 4, .u32, .ro, 0, 2, .lane, false, false, 0, 0xffffffff, 0, 0, false⟩,
  ⟨0x4406, 0x4406, 5, 5, .u32, .ro, 0, 2, .lane, false, false, 0, 0xffffffff, 0, 0, false⟩,
  ⟨0x4407, 0x4407, 1, 8, .u32, .ro, 0, 2, .lane, false, false, 0, 0xffffffff, 0, 0, false⟩,
  ⟨0x4408, 0x4408, 1, 1, .u8, .rw, 1, 2, .lane, true, true, 0, 255, 0, 0, false⟩,
  ⟨0x4408, 0x4408, 2, 2, .u8, .rw, 1, 2, .lane, true, true, 1, 8, 0, 0, false⟩,
  ⟨0x4408, 0x4408, 3, 3, .u8, .cmd, 0, 2, .lane, true, false, 1, 1, 0, 0, false⟩,
  ⟨0x4408, 0x4408, 4, 4, .bool, .ro, 0, 2, .lane, false, false, 0, 1, 0, 0, false⟩,
  ⟨0x4409, 0x4409, 1, 8, .u16, .rw, 0, 2, .lane, true, true, 0, 990, 0, 0, false⟩,
  ⟨0x440a, 0x440a, 1, 1, .u8, .ro, 255, 2, .lane, false, false, 0, 255, 0, 0, false⟩,
  ⟨0x440a, 0x440a, 2, 2, .u32, .ro, 0, 2, .lane, false, false, 0, 0xffffffff, 0, 0, false⟩,
  ⟨0x440a, 0x440a, 3, 3, .time64, .ro, 0, 2, .lane, false, false, 0, 0xffffffffffffffff, 0, 0, false⟩,
  ⟨0x440a, 0x440a, 4, 4, .u32, .ro, 0, 2, .lane, false, false, 0, 0xffffffff, 0, 0, false⟩,
  ⟨0x440b, 0x440b, 1, 1, .u8, .rw, 0, 2, .lane, true, true, 0, 255, 0xe0, 0, false⟩,
  ⟨0x440b, 0x440b, 2, 2, .u64, .rw, 0, 2, .lane, true, true, 0, 0xffffffffffffffff, 0, 0, false⟩,
  ⟨0x4410, 0x444f, 1, 8, .u8, .rw, 255, 2, .lane, true, true, 0, 255, 0, 0, false⟩,
  ⟨0x4480, 0x44fe, 1, 1, .bool, .rw, 0, 2, .lane, true, true, 0, 1, 0, 0, false⟩,
  ⟨0x4480, 0x44fe, 2, 3, .u32, .rw, 0, 2, .lane, true, true, 0, 0xffffffff, 0, 0, false⟩,
  ⟨0x4480, 0x44fe, 4, 4, .u16, .rw, 100, 2, .lane, true, true, 1, 0xffff, 0, 0, false⟩]

/-- Entries from 4480h: Station state to Missing events. -/
def rowsCarControl2 : List Row := [
  ⟨0x4480, 0x44fe, 5, 5, .u8, .ro, 0, 2, .lane, false, false, 0, 255, 0, 0, false⟩,
  ⟨0x4480, 0x44fe, 6, 6, .u16, .ro, 0, 2, .lane, false, false, 0, 0xffff, 0, 0, false⟩,
  ⟨0x4480, 0x44fe, 7, 7, .u32, .ro, 0, 2, .lane, false, false, 0, 0xffffffff, 0, 0, false⟩]

/-- Entries from 4500h: Transmit control to Latch age. -/
def rowsCarBuffer : List Row := [
  ⟨0x4500, 0x451f, 1, 1, .u32, .rw, 0x80000, 1, .lane, true, true, 0, 0xffffffff, 0xffff, 0, false⟩,
  ⟨0x4500, 0x451f, 2, 2, .u32, .rw, 0, 2, .lane, true, true, 0, 0xffffffff, 0xe0000000, 0, false⟩,
  ⟨0x4500, 0x451f, 3, 6, .u32, .ro, 0, 1, .lane, false, false, 0, 0xffffffff, 0, 0, false⟩,
  ⟨0x4500, 0x451f, 7, 7, .time64, .ro, 0, 1, .lane, false, false, 0, 0xffffffffffffffff, 0, 0, false⟩,
  ⟨0x4500, 0x451f, 16, 31, .u32, .rw, 0, 1, .lane, true, false, 0, 0xffffffff, 0, 0, false⟩,
  ⟨0x4500, 0x451f, 32, 47, .u32, .ro, 0, 1, .lane, false, false, 0, 0xffffffff, 0, 0, false⟩,
  ⟨0x4520, 0x455f, 1, 1, .u32, .rw, 0, 1, .lane, true, false, 0, 0xffffffff, 0x3070ff80, 0xc0000000, false⟩,
  ⟨0x4520, 0x455f, 2, 2, .u32, .ro, 0, 2, .lane, false, false, 0, 0xffffffff, 0, 0, false⟩,
  ⟨0x4520, 0x455f, 3, 3, .time64, .ro, 0, 2, .lane, false, false, 0, 0xffffffffffffffff, 0, 0, false⟩,
  ⟨0x4520, 0x455f, 4, 5, .u32, .ro, 0, 2, .lane, false, false, 0, 0xffffffff, 0, 0, false⟩,
  ⟨0x4520, 0x455f, 16, 31, .u32, .ro, 0, 2, .lane, false, false, 0, 0xffffffff, 0, 0, false⟩,
  ⟨0x4560, 0x4561, 1, 1, .u32, .rw, 0, 1, .lane, true, false, 0, 0xffffffff, 0x3070ff80, 0xc0000000, false⟩,
  ⟨0x4560, 0x4561, 2, 2, .u32, .ro, 0, 2, .lane, false, false, 0, 0xffffffff, 0, 0, false⟩,
  ⟨0x4560, 0x4561, 3, 3, .time64, .ro, 0, 2, .lane, false, false, 0, 0xffffffffffffffff, 0, 0, false⟩,
  ⟨0x4560, 0x4561, 4, 5, .u32, .ro, 0, 2, .lane, false, false, 0, 0xffffffff, 0, 0, false⟩,
  ⟨0x4560, 0x4561, 8, 9, .u32, .rw, 0, 2, .lane, true, true, 0, 0xffffffff, 0, 0, false⟩,
  ⟨0x4560, 0x4561, 10, 10, .bool, .rw, 0, 2, .lane, true, true, 0, 1, 0, 0, false⟩,
  ⟨0x4560, 0x4561, 16, 31, .u32, .ro, 0, 2, .lane, false, false, 0, 0xffffffff, 0, 0, false⟩,
  ⟨0x4570, 0x458f, 1, 2, .u32, .rw, 0, 2, .lane, true, true, 0, 0xffffffff, 0, 0, false⟩,
  ⟨0x4570, 0x458f, 3, 3, .u8, .rw, 255, 2, .lane, true, true, 0, 255, 0, 0, false⟩,
  ⟨0x4590, 0x45cf, 1, 1, .u8, .rw, 0, 2, .lane, true, true, 0, 2, 0, 0, false⟩,
  ⟨0x4590, 0x45cf, 2, 3, .u32, .rw, 0, 2, .lane, true, true, 0, 0xffffffff, 0, 0, false⟩,
  ⟨0x4590, 0x45cf, 4, 4, .u8, .rw, 0, 2, .lane, true, true, 0, 63, 0, 0, false⟩,
  ⟨0x4590, 0x45cf, 5, 5, .u8, .rw, 1, 2, .lane, true, true, 1, 64, 0, 0, false⟩,
  ⟨0x4590, 0x45cf, 6, 6, .u16, .rw, 0, 2, .lane, true, true, 0, 1023, 0, 0, false⟩,
  ⟨0x4590, 0x45cf, 7, 7, .u16, .rw, 0, 2, .lane, true, true, 0, 0x577, 0, 0, false⟩,
  ⟨0x4590, 0x45cf, 8, 8, .u8, .rw, 0, 2, .lane, true, true, 0, 31, 0, 0, false⟩,
  ⟨0x4590, 0x45cf, 9, 9, .u8, .rw, 0, 2, .lane, true, true, 0, 1, 0, 0, false⟩,
  ⟨0x4590, 0x45cf, 10, 10, .u32, .ro, 0, 2, .lane, false, false, 0, 0xffffffff, 0, 0, false⟩,
  ⟨0x4590, 0x45cf, 11, 11, .u16, .ro, 0xffff, 2, .lane, false, false, 0, 0xffff, 0, 0, false⟩]

/-- Entries from 4590h: Short frames to Short frames. -/
def rowsCarBuffer2 : List Row := [
  ⟨0x4590, 0x45cf, 12, 12, .u32, .ro, 0, 2, .lane, false, false, 0, 0xffffffff, 0, 0, false⟩]

/-- Entries from 5000h: Function to Link failures. -/
def rowsField : List Row := [
  ⟨0x5000, 0x5017, 1, 1, .u8, .rw, 0, 2, .lane, true, true, 0, 6, 0, 0, false⟩,
  ⟨0x5000, 0x5017, 2, 2, .u8, .rw, 1, 2, .lane, true, true, 1, 5, 0, 0, false⟩,
  ⟨0x5000, 0x5017, 3, 3, .u16, .rw, 30, 2, .lane, true, true, 0, 0xfff, 0, 0, false⟩,
  ⟨0x5000, 0x5017, 4, 4, .u8, .rw, 0, 2, .lane, true, true, 0, 3, 0, 0, false⟩,
  ⟨0x5000, 0x5017, 5, 5, .u8, .rw, 0, 2, .lane, true, true, 0, 2, 0, 0, false⟩,
  ⟨0x5000, 0x5017, 6, 6, .u8, .rw, 0, 2, .lane, true, true, 0, 255, 0xe0, 0, false⟩,
  ⟨0x5000, 0x5017, 7, 7, .u8, .rw, 0, 2, .lane, true, true, 0, 7, 0, 0, false⟩,
  ⟨0x5000, 0x5017, 8, 8, .u8, .rw, 50, 2, .lane, true, true, 10, 90, 0, 0, false⟩,
  ⟨0x5000, 0x5017, 9, 9, .u16, .rw, 0, 2, .lane, true, true, 0, 1000, 0, 0, false⟩,
  ⟨0x5000, 0x5017, 10, 10, .u8, .cmd, 0, 2, .lane, false, false, 1, 1, 0, 0, false⟩,
  ⟨0x5000, 0x5017, 11, 11, .u32, .rw, 0, 1, .lane, true, false, 0, 0xffffffff, 0xffff0000, 0x20, false⟩,
  ⟨0x5000, 0x5017, 12, 12, .octets, .ro, 0, 2, .lane, false, false, 0, 0, 0, 0, true⟩,
  ⟨0x5000, 0x5017, 13, 13, .u8, .ro, 0, 2, .lane, false, false, 0, 255, 0, 0, false⟩,
  ⟨0x5000, 0x5017, 14, 14, .u32, .ro, 0, 2, .lane, false, false, 0, 0xffffffff, 0, 0, false⟩,
  ⟨0x5000, 0x5017, 15, 15, .u32, .ro, 0, 2, .lane, false, false, 0, 0xffffffff, 0, 0, false⟩,
  ⟨0x5000, 0x5017, 16, 16, .u16, .ro, 0, 2, .lane, false, false, 0, 0xffff, 0, 0, false⟩,
  ⟨0x5000, 0x5017, 17, 17, .u32, .ro, 0, 2, .lane, false, true, 0, 0xffffffff, 0, 0, false⟩,
  ⟨0x5000, 0x5017, 18, 18, .u32, .ro, 0, 2, .lane, false, true, 0, 0xffffffff, 0, 0, false⟩,
  ⟨0x5000, 0x5017, 19, 19, .bool, .rw, 1, 1, .lane, true, false, 0, 1, 0, 0, false⟩,
  ⟨0x5000, 0x5017, 20, 20, .u32, .ro, 0, 2, .lane, false, true, 0, 0xffffffff, 0, 0, false⟩,
  ⟨0x5100, 0x5100, 0, 0, .u32, .rw, 0, 1, .node, false, false, 0, 0xffffffff, 0xff000000, 0, false⟩,
  ⟨0x5101, 0x5101, 0, 0, .u32, .ro, 0, 1, .lane, false, false, 0, 0xffffffff, 0, 0, false⟩,
  ⟨0x5102, 0x5102, 0, 0, .u32, .ro, 0, 1, .lane, false, false, 0, 0xffffffff, 0, 0, false⟩,
  ⟨0x5103, 0x5103, 0, 0, .u16, .rw, 0, 1, .lane, false, false, 0, 0xffff, 0xff00, 0x24, false⟩,
  ⟨0x5104, 0x5104, 0, 0, .u16, .ro, 0, 1, .lane, false, false, 0, 0xffff, 0, 0, false⟩,
  ⟨0x5105, 0x5105, 0, 0, .u16, .rw, 0x690, 2, .lane, false, true, 900, 0xe10, 0, 0, false⟩,
  ⟨0x5106, 0x5106, 0, 0, .u32, .rw, 0x4e20, 2, .lane, false, true, 100, 0xf4240, 0, 0, false⟩,
  ⟨0x5107, 0x5107, 1, 3, .u16, .ro, 0, 1, .lane, false, false, 0, 0xffff, 0, 0, false⟩,
  ⟨0x5108, 0x5108, 0, 0, .u32, .ro, 0, 1, .lane, false, false, 0, 0xffffffff, 0, 0, false⟩,
  ⟨0x5109, 0x5109, 0, 0, .u32, .ro, 0, 1, .lane, false, true, 0, 0xffffffff, 0, 0, false⟩]

/-- Entries from 510Ah: Watchdog expiries to Clear outputs. -/
def rowsField2 : List Row := [
  ⟨0x510a, 0x510a, 0, 0, .u32, .ro, 0, 1, .lane, false, true, 0, 0xffffffff, 0, 0, false⟩,
  ⟨0x510b, 0x510b, 0, 0, .u32, .ro, 0, 1, .lane, false, false, 0, 0xffffffff, 0, 0, false⟩,
  ⟨0x510c, 0x510c, 0, 0, .u32, .ro, 0, 1, .lane, false, false, 0, 0xffffffff, 0, 0, false⟩,
  ⟨0x510d, 0x510d, 0, 0, .u32, .rw, 0, 1, .lane, false, false, 0, 0xffffffff, 0xff000000, 0xffffffff, false⟩,
  ⟨0x5110, 0x5110, 0, 0, .u32, .cmd, 0, 1, .node, false, false, 0, 0xffffffff, 0xff000000, 0, false⟩,
  ⟨0x5111, 0x5111, 0, 0, .u32, .cmd, 0, 1, .node, false, false, 0, 0xffffffff, 0xff000000, 0, false⟩]

/-- Entries from 5800h: Enable to Frames. -/
def rowsHost : List Row := [
  ⟨0x5800, 0x580f, 1, 1, .bool, .rw, 0, 1, .module, false, true, 0, 1, 0, 0, false⟩,
  ⟨0x5800, 0x580f, 2, 2, .u8, .rw, 0, 1, .module, false, true, 0, 1, 0, 0, false⟩,
  ⟨0x5800, 0x580f, 3, 3, .u64, .rw, 0, 1, .module, false, true, 0, 0xffffffffffffffff, 0, 0, false⟩,
  ⟨0x5800, 0x580f, 4, 4, .u16, .rw, 1, 1, .module, false, true, 1, 512, 0, 0, false⟩,
  ⟨0x5800, 0x580f, 5, 5, .u8, .rw, 0, 1, .module, false, true, 0, 2, 0, 0, false⟩,
  ⟨0x5800, 0x580f, 6, 6, .u8, .rw, 0, 1, .module, false, true, 0, 1, 0, 0, false⟩,
  ⟨0x5800, 0x580f, 7, 7, .u8, .rw, 0, 1, .module, false, true, 0, 3, 0, 0, false⟩,
  ⟨0x5800, 0x580f, 8, 8, .u8, .rw, 0, 1, .module, false, true, 0, 1, 0, 0, false⟩,
  ⟨0x5800, 0x580f, 9, 9, .bool, .rw, 0, 1, .module, false, true, 0, 1, 0, 0, false⟩,
  ⟨0x5800, 0x580f, 10, 10, .u16, .rw, 5, 1, .module, false, true, 1, 50, 0, 0, false⟩,
  ⟨0x5800, 0x580f, 11, 11, .u8, .rw, 2, 1, .module, false, true, 0, 7, 0, 0, false⟩,
  ⟨0x5800, 0x580f, 12, 12, .u16, .ro, 0, 1, .module, false, false, 0, 0xffff, 0, 0, false⟩,
  ⟨0x5800, 0x580f, 13, 13, .u32, .ro, 0, 1, .module, false, false, 0, 0xffffffff, 0, 0, false⟩,
  ⟨0x5800, 0x580f, 14, 14, .u32, .ro, 0, 1, .module, false, false, 0, 0xffffffff, 0, 0, false⟩,
  ⟨0x5800, 0x580f, 15, 15, .u32, .ro, 0, 1, .module, false, false, 0, 0xffffffff, 0, 0, false⟩,
  ⟨0x5800, 0x580f, 16, 16, .u32, .ro, 0, 1, .module, false, false, 0, 0xffffffff, 0, 0, false⟩,
  ⟨0x5800, 0x580f, 17, 17, .u32, .ro, 0, 1, .module, false, false, 0, 0xffffffff, 0, 0, false⟩,
  ⟨0x5800, 0x580f, 18, 18, .u32, .ro, 0, 1, .module, false, false, 0, 0xffffffff, 0, 0, false⟩,
  ⟨0x5800, 0x580f, 19, 19, .u32, .ro, 0, 1, .module, false, false, 0, 0xffffffff, 0, 0, false⟩,
  ⟨0x5800, 0x580f, 20, 20, .u8, .ro, 0, 1, .module, false, false, 0, 255, 0, 0, false⟩,
  ⟨0x5900, 0x5900, 1, 1, .u8, .rw, 1, 1, .module, false, true, 0, 2, 0, 0, false⟩,
  ⟨0x5900, 0x5900, 2, 2, .u32, .rw, 0, 1, .module, false, false, 0, 0xffffffff, 0, 0, false⟩,
  ⟨0x5900, 0x5900, 3, 3, .u32, .rw, 0, 1, .module, false, false, 0, 0xffffffff, 0xfffffc00, 0x382, false⟩,
  ⟨0x5900, 0x5900, 4, 4, .u32, .rw, 0, 1, .module, false, true, 0, 0xffffffff, 0xfffffc00, 0, false⟩,
  ⟨0x5900, 0x5900, 5, 5, .u32, .ro, 0, 1, .module, false, false, 0, 0xffffffff, 0, 0, false⟩,
  ⟨0x5900, 0x5900, 6, 6, .u32, .ro, 0, 1, .module, false, false, 0, 0xffffffff, 0, 0, false⟩,
  ⟨0x5900, 0x5900, 7, 7, .u32, .ro, 0, 1, .module, false, false, 0, 0xffffffff, 0, 0, false⟩,
  ⟨0x5900, 0x5900, 8, 8, .time64, .ro, 0, 1, .module, false, false, 0, 0xffffffffffffffff, 0, 0, false⟩,
  ⟨0x5900, 0x5900, 9, 9, .u8, .ro, 255, 1, .module, false, false, 0, 255, 0, 0, false⟩,
  ⟨0x5900, 0x5900, 10, 10, .u32, .ro, 0, 1, .module, false, false, 0, 0xffffffff, 0, 0, false⟩]

/-- Entries from 5900h: Frames rejected to Service frame counters. -/
def rowsHost2 : List Row := [
  ⟨0x5900, 0x5900, 11, 11, .u32, .ro, 0, 1, .module, false, false, 0, 0xffffffff, 0, 0, false⟩,
  ⟨0x5900, 0x5900, 12, 12, .u32, .ro, 0, 1, .module, false, false, 0, 0xffffffff, 0, 0, false⟩,
  ⟨0x5900, 0x5900, 13, 13, .u16, .ro, 0, 1, .module, false, false, 0, 0xffff, 0, 0, false⟩,
  ⟨0x5900, 0x5900, 14, 14, .u8, .ro, 255, 1, .module, false, false, 0, 255, 0, 0, false⟩,
  ⟨0x5900, 0x5900, 15, 15, .u8, .cmd, 0, 0, .module, false, false, 1, 1, 0, 0, false⟩,
  ⟨0x5900, 0x5900, 16, 31, .u32, .rw, 0, 1, .module, false, false, 0, 0xffffffff, 0x3f, 0, false⟩,
  ⟨0x5900, 0x5900, 32, 47, .u32, .cmd, 0, 1, .module, false, false, 1, 0x10000, 0, 0, false⟩,
  ⟨0x6000, 0x6000, 1, 1, .u32, .ro, 0x100000, 1, .node, false, false, 0, 0xffffffff, 0, 0, false⟩,
  ⟨0x7000, 0x7000, 0, 0, .u64, .ro, 0, 1, .module, false, false, 0, 0xffffffffffffffff, 0, 0, false⟩,
  ⟨0x7001, 0x7001, 0, 0, .u8, .ro, 0, 1, .module, false, false, 0, 255, 0, 0, false⟩,
  ⟨0x7002, 0x7002, 0, 0, .u8, .ro, 0, 1, .module, false, false, 0, 255, 0, 0, false⟩,
  ⟨0x7003, 0x7003, 0, 0, .bool, .rw, 0, 2, .module, false, true, 0, 1, 0, 0, false⟩,
  ⟨0x7004, 0x7004, 1, 3, .u32, .ro, 0, 1, .module, false, false, 0, 0xffffffff, 0, 0, false⟩]

/-- The rows that can hold an index, chosen by its block of the index map (R499). -/
def rowsOf (index : Nat) : List Row :=
  if index < 0x1100 then rowsIdentity else
  if index < 0x1200 then rowsPossession else
  if index < 0x1300 then rowsPower else
  if index < 0x1400 then rowsPlan else
  if index < 0x1500 then rowsFault else
  if index < 0x1600 then rowsRecorder else
  if index < 0x1700 then rowsSecurity else
  if index < 0x2100 then rowsPort else
  if index < 0x2200 then rowsMac ++ rowsMac2 else
  if index < 0x2400 then rowsRing else
  if index < 0x2800 then rowsRoll ++ rowsRoll2 else
  if index < 0x3800 then rowsFlow ++ rowsFlow2 else
  if index < 0x4000 then rowsMessage else
  if index < 0x4400 then rowsTime ++ rowsTime2 else
  if index < 0x4500 then rowsCarControl ++ rowsCarControl2 else
  if index < 0x5000 then rowsCarBuffer ++ rowsCarBuffer2 else
  if index < 0x5800 then rowsField ++ rowsField2 else
  rowsHost ++ rowsHost2

/-! ### The fault sources of R408 -/

/-- The blocks that a level 3 reaction resets (R412). -/
inductive Block where
  | core
  | domain
  | ports
  | timebase
  | carBus
  | fieldSide
  | recorder
  | links
  | inputStage
  | keeper
  | arbiter
  | hostFront
deriving DecidableEq, Repr

/-- One row of the source table of R408: number, class, default level, permitted levels, block. -/
structure Source where
  num : Nat
  cls : Nat
  level : Nat
  lo : Nat
  hi : Nat
  block : Block
deriving DecidableEq, Repr

/-- Sources 0 to 19 of R408. -/
def sources0 : List Source := [
  ⟨0, 0, 4, 3, 5, .core⟩,
  ⟨1, 0, 4, 0, 5, .domain⟩,
  ⟨2, 0, 4, 3, 5, .core⟩,
  ⟨3, 0, 1, 0, 5, .domain⟩,
  ⟨8, 1, 4, 3, 5, .core⟩,
  ⟨9, 1, 3, 1, 5, .timebase⟩,
  ⟨10, 1, 3, 0, 5, .carBus⟩,
  ⟨11, 1, 3, 0, 5, .fieldSide⟩,
  ⟨16, 2, 4, 3, 5, .core⟩,
  ⟨17, 2, 0, 0, 5, .core⟩,
  ⟨18, 2, 1, 0, 5, .recorder⟩,
  ⟨19, 2, 1, 0, 5, .core⟩]

/-- Sources 20 to 38 of R408. -/
def sources1 : List Source := [
  ⟨20, 2, 1, 0, 5, .recorder⟩,
  ⟨24, 3, 4, 3, 5, .core⟩,
  ⟨25, 3, 4, 3, 5, .core⟩,
  ⟨26, 3, 5, 4, 5, .core⟩,
  ⟨27, 3, 1, 0, 5, .core⟩,
  ⟨32, 4, 1, 0, 5, .ports⟩,
  ⟨33, 4, 1, 0, 5, .ports⟩,
  ⟨34, 4, 1, 0, 5, .ports⟩,
  ⟨35, 4, 1, 0, 5, .ports⟩,
  ⟨36, 4, 1, 0, 5, .ports⟩,
  ⟨37, 4, 3, 1, 5, .ports⟩,
  ⟨38, 4, 1, 0, 5, .ports⟩]

/-- Sources 39 to 72 of R408. -/
def sources2 : List Source := [
  ⟨39, 4, 1, 0, 5, .ports⟩,
  ⟨48, 5, 1, 0, 5, .ports⟩,
  ⟨49, 5, 1, 0, 5, .ports⟩,
  ⟨50, 5, 3, 1, 5, .ports⟩,
  ⟨56, 6, 1, 0, 5, .core⟩,
  ⟨57, 6, 1, 0, 5, .core⟩,
  ⟨58, 6, 0, 0, 5, .core⟩,
  ⟨64, 7, 1, 0, 5, .timebase⟩,
  ⟨65, 7, 1, 0, 5, .timebase⟩,
  ⟨66, 7, 1, 0, 5, .timebase⟩,
  ⟨67, 7, 4, 3, 5, .core⟩,
  ⟨72, 8, 0, 0, 5, .carBus⟩]

/-- Sources 73 to 87 of R408. -/
def sources3 : List Source := [
  ⟨73, 8, 1, 0, 5, .carBus⟩,
  ⟨74, 8, 1, 0, 5, .carBus⟩,
  ⟨75, 8, 1, 0, 5, .carBus⟩,
  ⟨76, 8, 1, 0, 5, .carBus⟩,
  ⟨80, 9, 4, 3, 5, .fieldSide⟩,
  ⟨81, 9, 1, 0, 5, .fieldSide⟩,
  ⟨82, 9, 1, 0, 5, .fieldSide⟩,
  ⟨83, 9, 2, 0, 5, .fieldSide⟩,
  ⟨84, 9, 1, 0, 5, .fieldSide⟩,
  ⟨85, 9, 1, 0, 5, .fieldSide⟩,
  ⟨86, 9, 1, 0, 5, .fieldSide⟩,
  ⟨87, 9, 1, 0, 5, .fieldSide⟩]

/-- Sources 96 to 129 of R408. -/
def sources4 : List Source := [
  ⟨96, 10, 1, 0, 5, .links⟩,
  ⟨97, 10, 1, 0, 5, .links⟩,
  ⟨98, 10, 1, 0, 5, .links⟩,
  ⟨99, 10, 3, 3, 5, .core⟩,
  ⟨104, 11, 1, 0, 5, .recorder⟩,
  ⟨105, 11, 0, 0, 5, .recorder⟩,
  ⟨106, 11, 1, 0, 5, .recorder⟩,
  ⟨107, 11, 1, 0, 5, .core⟩,
  ⟨108, 11, 1, 0, 5, .core⟩,
  ⟨109, 11, 1, 0, 5, .core⟩,
  ⟨128, 0, 1, 0, 3, .inputStage⟩,
  ⟨129, 0, 1, 0, 3, .inputStage⟩]

/-- Sources 130 to 136 of R408. -/
def sources5 : List Source := [
  ⟨130, 0, 1, 0, 3, .keeper⟩,
  ⟨131, 1, 3, 0, 3, .hostFront⟩,
  ⟨132, 10, 1, 0, 3, .arbiter⟩,
  ⟨133, 12, 3, 0, 3, .hostFront⟩,
  ⟨134, 12, 0, 0, 3, .hostFront⟩,
  ⟨135, 12, 1, 0, 3, .keeper⟩,
  ⟨136, 12, 1, 0, 3, .hostFront⟩]

/-- The sources of R408; every other number is reserved. -/
def sources : List Source := sources0 ++ sources1 ++ sources2 ++ sources3 ++ sources4 ++ sources5

/-- The row of a source. -/
def sourceRow (n : Nat) : Option Source := sources.find? (fun r => r.num == n)

/-- The class of a source (R408). -/
def sourceClass (n : Nat) : Nat := ((sourceRow n).map Source.cls).getD 0

/-- The default level of a source (R408). -/
def sourceLevel (n : Nat) : Nat := ((sourceRow n).map Source.level).getD 0

/-- The default ceiling of a source (R417): 2 for default levels 0 and 1; otherwise 5 in a lane, 3 in the
module-level collector. -/
def sourceCeiling (n : Nat) : Nat :=
  if sourceLevel n ≤ 1 then 2 else if n < 128 then 5 else 3

/-! ### Lookup -/

/-- The register key of an entry: index and subindex in one number. -/
def key (index sub : Nat) : Nat := index * 256 + sub

/-- The row of an entry (R499: an index outside the map has none) (log 14: DESIGN CHOICE). -/
def entryRow (index sub : Nat) : Option Row :=
  (rowsOf index).find? (fun r => r.lo ≤ index && index ≤ r.hi && r.slo ≤ sub && sub ≤ r.shi)

/-- Fixed limits of the margin plan rows (R445); row 4's is the magnitude of its two limits. -/
def planLimit : Nat → Nat
  | 0 => 930
  | 1 => 150
  | 2 => 150
  | 3 => 178
  | 4 => 50000
  | 5 => 1000
  | 6 => 100
  | 7 => 100
  | 8 => 1000
  | 9 => 350
  | 10 => 197100
  | _ => 0

/-- Default floors of the adaptive rows (R445). -/
def planFloor : Nat → Nat
  | 0 => 800
  | 3 => 1400
  | 4 => 0x07FDF3B7
  | 5 => 1
  | _ => 0

/-- Default ceilings of the adaptive rows (R445). -/
def planCeiling : Nat → Nat
  | 0 => 950
  | 3 => 1700
  | 4 => 0x08020C49
  | 5 => 168
  | _ => 0

/-- Settings in force before any re-plan: the scrub interval's default is 24 h (R455), the pin limit
1,700 mA (R464), the baseline increment 0800_0000h (R275). DESIGN CHOICE for row 0, whose set-point the
manual does not give before the first re-plan: its default ceiling (log 30: DEDUCED). -/
def planSetting : Nat → Nat
  | 0 => 950
  | 3 => 1700
  | 4 => 0x08000000
  | 5 => 24
  | _ => 0

/-- The default of a register (R467): the tables' number, the sources' levels and ceilings (R408, R417),
the plan's limits and bounds (R445), the Pattern column offsets, and 0 where a table has a dash (log 3: DESIGN CHOICE). -/
def regDefault (k : Nat) : Nat :=
  let index := k / 256
  let sub := k % 256
  if 0x1410 ≤ index ∧ index ≤ 0x149F ∧ sub = 1 then sourceLevel (index - 0x1410)
  else if 0x1410 ≤ index ∧ index ≤ 0x149F ∧ sub = 2 then sourceCeiling (index - 0x1410)
  else if 0x1310 ≤ index ∧ index ≤ 0x131A ∧ sub = 2 then planLimit (index - 0x1310)
  else if 0x1310 ≤ index ∧ index ≤ 0x131A ∧ sub = 3 then planSetting (index - 0x1310)
  else if 0x1310 ≤ index ∧ index ≤ 0x131A ∧ sub = 4 then planFloor (index - 0x1310)
  else if 0x1310 ≤ index ∧ index ≤ 0x131A ∧ sub = 5 then planCeiling (index - 0x1310)
  else if index = 0x4409 ∧ 1 ≤ sub ∧ sub ≤ 8 then 125 * (sub - 1)
  else if k = 0x440500 then 0x0010
  else if k = 0x510300 then 0x0080
  else if index = 0x3000 ∧ sub = 1 then 1
  else if index = 0x3000 ∧ sub = 4 then 0
  else if index = 0x3000 ∧ sub = 5 then 24
  else match entryRow index sub with
    | some r => r.dflt
    | none => 0

/-- The width of a register in bits (R468); a key of no typed entry keeps 64 bits. -/
def regWidth (k : Nat) : Nat :=
  match entryRow (k / 256) (k % 256) with
  | some r => if r.ty = .octets then 64 else tyBits r.ty
  | none => 64

/-- Largest lengths of the OCTETS entries that may be written. -/
def octetsMax (index sub : Nat) : Nat :=
  if index = 0x1601 then 16
  else if index = 0x1611 then 32
  else if index = 0x1620 ∧ sub = 2 then 33
  else 65536

/-- The highest subindex in use of a record (Entries of chapter 16), none for a simple entry. -/
def highestSub (index : Nat) : Option Nat :=
  let subs := ((rowsOf index).filter (fun r => r.lo ≤ index && index ≤ r.hi)).map Row.shi
  let top := subs.foldl max 0
  if top = 0 then none else some top

end Sys2Proof.Machine
end

