-- ==== Sys2Proof/Machine/State.lean ====
section
/-! DEFINITION. The machine's state (plain data), its faults and refusals, and the state right after
manufacture with no supply, which is where the model starts (R512; see the assumption log). -/

namespace Sys2Proof.Machine

/-- No command of this block ends in a fault: R480 gives refused accesses an answer, and the manual
names no event that stops the module. The one name is kept for the interface of Host/Core.lean and
nothing raises it (safe). -/
inductive Fault where
  /-- Raised by no meaning; safe, because nothing depends on it. -/
  | none
deriving DecidableEq, Repr

/-- Why a command can have no meaning. -/
inductive Refusal where
  /-- Raised by a dispatch arm whose command has no meaning yet; safe. -/
  | notModelled (mnemonic : String)
deriving DecidableEq, Repr

/-- A sparse register file in canonical form (Bits.lean), keyed by index * 256 + subindex. -/
abbrev Regs := List (Nat × Nat)

/-- The memory bytes of a 1 MiB exchange memory (R380), sparse and canonical. -/
abbrev Bytes := List Host.Cell

/-! ### Lane condition, possession (chapters 02 and 03) -/

/-- The condition of a lane: off, or one of the awake conditions of R42 and R66. -/
inductive Mode where
  | unpowered
  | asleep
  | booting
  | standby
  | possession
  | releasing
  | inReset
  | stopped
  /-- the core's lockstep toggle has stopped (R120): powered, doing nothing -/
  | dead
deriving DecidableEq, Repr

/-- Progress of the interlock acquisition (R81). -/
inductive Acq where
  | idle
  | confirming
  | raised
  | kept
deriving DecidableEq, Repr

/-- How a lane reads its peer's interlock pair (R79). -/
inductive PairReading where
  | acting
  | notActing
  | invalid
deriving DecidableEq, Repr

/-- A lane's view of its peer, carried by its requests and renewals (R73). -/
inductive View where
  | acting
  | notActing
  | unknown
deriving DecidableEq, Repr

/-- The possession side of one lane (R66 to R95). -/
structure Poss where
  /-- the mode this lane runs: false lease, true interlock (R97) -/
  interlock : Bool
  epoch : Nat
  arbLink : Bool
  /-- a possession request of this lane is open at the arbiter (R73) -/
  request : Bool
  /-- the view its last request or renewal carried (R73) -/
  view : View
  /-- the local lease runs (R74) -/
  lease : Bool
  /-- arbiter-less hold (R76) -/
  hold : Bool
  /-- renewals sent and not yet acknowledged (R74) -/
  renewals : Nat
  /-- clock of the last acknowledged renewal, or of the grant (R74, R83) -/
  ackedAt : Nat
  /-- the interlock pump runs and the pair is raised (R79) -/
  pump : Bool
  acq : Acq
  /-- the peer's pair has read invalid for more than 10 µs and does so still (R79, R80) -/
  pairBroken : Bool
  mirrorUp : Bool
  /-- resync running (R68) -/
  resync : Bool
  /-- the 1 ms allowance after a declared loss runs (R68) -/
  allowance : Bool
  /-- consecutive valid frames while the link is lost, to 100 (R68) -/
  goodFrames : Nat
  /-- a valid mirror frame was received since the lane became ready (R70) -/
  mirrorSeen : Bool
  /-- the link came up while no lane held possession: the next acquisition begins a resync (R68) -/
  upNoHolder : Bool
  /-- the peer's status word as last received (R66) -/
  peerWord : Nat
  /-- a changeover began at this lane's release, and its limit has not passed (R83) -/
  changing : Bool
  /-- the changeover limit has passed without the peer in possession (R69) -/
  limitPassed : Bool
  /-- the freeze flag is set: outputs hold their last values (R87, R341) -/
  frozen : Bool
  /-- cause of the last release, as entry 1106h:01h codes it -/
  releaseCause : Nat
  /-- the peer's recorder failure has been recorded (R440) -/
  peerFailTold : Bool
deriving DecidableEq, Repr

/-- The power-side condition of the module (R37 to R61, R504). -/
inductive Phase where
  /-- no supply -/
  | off
  /-- supply present, module not mated (R32) -/
  | unmated
  /-- waiting below the temperature limit (R504) -/
  | coldWait
  | warmUp
  /-- hold-up charging, nothing on but the keeper (R38) -/
  | charging
  | awake
  /-- standby: node power is sleep -/
  | standby
deriving DecidableEq, Repr

/-- The keeper and the supply input stage (chapters 01 and 02). -/
structure Keeper where
  phase : Phase
  presClosed : Bool
  mated : Bool
  /-- a withdrawal was confirmed and its sequence has not ended in a new insertion (R23, R34) -/
  withdrawn : Bool
  supplyGood : Bool
  /-- the hold-up has been charged since the supply became good (R38) -/
  charged : Bool
  onHoldUp : Bool
  /-- ns of warm-up, in which the lane cores were on, since the supply application (R429, R504) -/
  warmNs : Nat
  /-- remaining locate time in s, 0 when no locate is active (R29) -/
  locate : Nat
  lampTest : Bool
  /-- knocks are due at step 4 of this start-up (R53) -/
  knockDue : Bool
  /-- detectors that fired in standby, bits as entry 1230h (R63) -/
  fired : Nat
  /-- the accepted sleep: none, or the cause that event 0002h carries (R432) -/
  sleeping : Option Nat
  /-- the sleep beat announced by this node or received (R58, R269, R270) -/
  sleepBeat : Option Nat
  /-- announcements still to send (R269) -/
  announce : Nat
  /-- sequence number of the next announcement (R137, R269) -/
  annSeq : Nat
  /-- the sleep was deferred at the sleep beat (R59) -/
  deferred : Bool
  hvio : Bool
  hrstLow : Bool
  /-- until some lane has held possession since the last module reset (R97, bit [11]) -/
  tossPending : Bool
  /-- 10 ms have passed for lane B under R71 or R72 -/
  tossWindow : Bool
  /-- lane A has asked for possession in this Toss (R71) -/
  askedA : Bool
  /-- lane B still waits for lane A's insertion after the Toss (R122) -/
  firstInsertion : Bool
  serviceLink : Bool
deriving DecidableEq, Repr

/-- The possession arbiter in the host front (R73 to R77). -/
structure Arbiter where
  running : Bool
  /-- waiting 1 ms for renewals after its own restart (R77) -/
  waiting : Bool
  holder : Option LaneId
  /-- the holder's lease has expired and the guard runs or has run (R75) -/
  expired : Bool
  /-- the holder released explicitly (R75) -/
  released : Bool
  /-- a lane was granted since the last expiry (R77) -/
  granted : Bool
  /-- the last lane that held possession since the module reset (R97, entry 1105h) -/
  lastHolder : Option LaneId
  /-- clock at the trigger of the last change of possession (entry 1106h:02h) -/
  changeAt : Nat
  /-- the lane that should act after an accepted planned changeover (R92) -/
  planned : Option LaneId
  /-- the lane whose outputs are compared for 10 ms (R93) -/
  checking : Option LaneId
  /-- pin pairs that mismatched since the comparison began (R93) -/
  mismatch : Nat
deriving DecidableEq, Repr

/-- What a lane needs to know of a firmware image (R492). -/
structure Firmware where
  version : Nat
  security : Nat
  protocol : Nat
  peerLow : Nat
  peerHigh : Nat
deriving DecidableEq, Repr

/-- A firmware update in a lane (R94 to R96, R495); its phase is entry 1120h:00h. -/
structure Update where
  length : Nat
  /-- the inactive bank is erased -/
  erased : Bool
  /-- the image bytes received so far -/
  image : List Byte
  /-- the bank that the next start of the lane uses -/
  bootBank : Nat
  bank0 : Firmware
  bank1 : Firmware
deriving DecidableEq, Repr

/-! ### Faults, recorder, plan (chapters 13, 14, 15) -/

/-- A fault collector (R404 to R422). Bit positions count from source 0 in a lane, from source 128 in
the module-level collector. -/
structure Collector where
  sticky : Nat
  path : Nat
  injected : Nat
  inFault : Nat
  /-- sources in fault whose pair reads invalid (R405) -/
  invalid : Nat
  /-- class levels (R415), by class, unlisted 0 -/
  level : Regs
  /-- merged faults (R416), by class, unlisted 0 -/
  merged : Regs
  /-- classes with an unacknowledged injected reaction -/
  injUnack : Nat
  /-- classes with an unacknowledged reaction of level 1 (R397) -/
  intClasses : Nat
  /-- classes with an unacknowledged reaction of level 2 (R398) -/
  trapClasses : Nat
  /-- classes with an unacknowledged reaction of level 3 or higher (R69) -/
  highClasses : Nat
  /-- the source of an armed full-reaction test (R422) -/
  armed : Option Nat
  /-- sources whose block reset runs (R412) -/
  resets : List Nat
  /-- the domain whose reset runs for source 1 or 3: source and bit of entry 1204h (R408) -/
  domains : List (Nat × Nat)
deriving DecidableEq, Repr

/-- An event waiting for its slot: tags and flags of the moment at which it arose (R426, R428). -/
structure Queued where
  ms : Nat
  cycles : Nat
  tags : Bool
  acting : Bool
  holdUp : Bool
  code : Nat
  data : List Byte
deriving DecidableEq, Repr

/-- A record: its number and its event (R426, R427). -/
structure EventRec where
  seq : Nat
  event : Queued
deriving DecidableEq, Repr

/-- A used slot of the log (R433): a record, or a slot whose comparison failed twice. -/
inductive Slot where
  | record (r : EventRec)
  | bad
deriving DecidableEq, Repr

/-- A copy of the recorder's control block: operating time in ms, power cycles, next sequence number and lost events;
`ok` while its check passes (R430, R437). -/
structure CtlCopy where
  ms : Nat
  cycles : Nat
  seq : Nat
  lost : Nat
  ok : Bool
deriving DecidableEq, Repr

/-- The event recorder of a lane (R426 to R444). -/
structure Recorder where
  slots : List Slot
  queue : List Queued
  finals : List EventRec
  /-- operating time in ns (R429) -/
  opNs : Nat
  cycles : Nat
  /-- the three copies of the control block (R430, R437) -/
  ctl : List CtlCopy
  /-- the three copies of the lost events of a failed recorder, on the die of the final-record block (R440) -/
  die : List Nat
  /-- slots that the last clear found bad: a write passes over them (R438) -/
  worn : List Nat
  /-- outcomes of the comparisons of the records that a reset writes next; those beyond the list succeed (R433, R434) -/
  outcomes : List Bool
  tagsValid : Bool
  scanned : Bool
  clearing : Bool
  /-- the clear-pending mark of the control block (R438) -/
  clearMark : Bool
  /-- role and path of the clear that runs, for event 0063h -/
  clearBy : Nat × Nat
  /-- the shutdown or withdrawal record is being written -/
  shutdown : Bool
  overflow : Bool
  failed : Option Nat
deriving DecidableEq, Repr

/-- A closed re-plan (R449): row values by row, and the equivalent hours in microhours. -/
structure PlanEntry where
  values : List Int
  hours : Nat
  /-- the CRC-32C that the entry carries (R449) -/
  crc : Nat
deriving DecidableEq, Repr

/-- A measurement that the 24-hour values of a re-plan count (R453, R455, R456): operating time in ms, the row, or 16
+ n for the on-resistance of pin n in mΩ (n from 1), and its value. -/
structure PlanSample where
  time : Nat
  kind : Nat
  value : Int
deriving DecidableEq, Repr

/-- A time that a lane spent locked or in mirror-follow at one rate correction (R454): the operating time at its end and
its length, in ns, and the rate in ppb. -/
structure RateSpan where
  stop : Nat
  ns : Nat
  rate : Int
deriving DecidableEq, Repr

/-- The margin plan of a lane beyond its entries (R445 to R466). -/
structure Plan where
  history : List PlanEntry
  /-- equivalent operating time in microhours (R457) -/
  hours : Nat
  /-- the re-plan that is due or deferred: 1 daily, 2 power-up, 3 commanded (R446, R465) -/
  due : Option Nat
  /-- on-resistances of pins, errors that scrubs corrected, and failed checks of the field and mirror links in the last
  24 operating hours, newest first (R453, R455, R456) -/
  samples : List PlanSample
  /-- consecutive re-plans whose scrubs found nothing (R455) -/
  cleanPlans : Nat
  /-- last measured V_req in mV (R450) -/
  vreq : Nat
  /-- highest bypass on-resistance measured at the last insertion, mΩ (R456) -/
  bypassOhm : Nat
  /-- the settings that the last re-plan would take without bounds, by row (R460, R461) -/
  own : Regs
  /-- the times at each rate correction, newest first (R454) -/
  rates : List RateSpan
  /-- pin limits that wait for the end of an inrush window (R453) -/
  waiting : List (Nat × Nat)
  /-- the scrub interval that the scrub that runs ends into (R455) -/
  nextScrub : Option Nat
  /-- entries were lost, and fewer than 8 are held since (R449) -/
  short : Bool
deriving DecidableEq, Repr

/-! ### Coupler ports and frames (chapters 04 and 05) -/

/-- Where a port stands in its training (R110, R113, R121, R167). -/
inductive Step where
  /-- port domain off -/
  | off
  /-- the other end of the lane is disabled -/
  | listening
  /-- down, not training: held after a takedown or a quarantine, or diagnostics running -/
  | down
  | seeking
  | capability
  | probe
  | proposal
  | pma
  | verify
  | up
deriving DecidableEq, Repr

/-- One line port of a lane (R107 to R162, R286). -/
structure Port where
  step : Step
  master : Bool
  lineCross : Bool
  loop : Bool
  rateHeld : Bool
  heldDown : Bool
  /-- supported rate code of the segment when the port was held down, FFh for none (R115, R116) -/
  heldRate : Nat
  /-- the code r by which the port was held down (R115, R116) -/
  heldCode : Nat
  /-- the line rate in force when the port was held down (R115, R116) -/
  heldForce : Nat
  quarantined : Bool
  takenDown : Bool
  alarm : Bool
  /-- a new margin alarm may be raised (R124) -/
  alarmArmed : Bool
  /-- a margin Roll request waits for its 10 s to pass (R124) -/
  requestWaits : Bool
  /-- clock of the last margin Roll request (R124) -/
  requestAt : Option Nat
  /-- operating rate code -/
  rate : Nat
  /-- an ordered retrain runs (R118) -/
  ordered : Bool
  /-- the link came up during the Roll now running (R152) -/
  newLink : Bool
  /-- it came up after the close of that Roll was adopted: the next Roll numbers it (R174) -/
  lateLink : Bool
  /-- diagnostics run: after a link-down before retraining, and on command (R126) -/
  diag : Bool
  /-- among them those of a command, with the insulation test (R126) -/
  diagCmd : Bool
  /-- a forced command took the port down: its next link-up does not count (R127, R128) -/
  diagForced : Bool
  /-- a hold has ended or an end was enabled: its next link-up does not count (R128) -/
  uncounted : Bool
  /-- the partner's line rate in force, floor, ceiling and supported rate (R107) -/
  partnerRate : Nat
  partnerFloor : Nat
  partnerCeiling : Nat
  /-- operating time in ms from which the port has estimated the margin at one next faster rate throughout (R124) -/
  estimatesSince : Nat
  /-- own estimate of the supported rate (R110 step 4) -/
  estimate : Nat
  /-- the probe's estimated margin in 0.01 dB at each transmit swing, by rate code and step of 100 mV (R110, R114) -/
  swings : List (List Int)
  /-- clock of the counted link changes of the last 10 s (R128) -/
  changes : List Nat
  /-- the training block sent last (R107) -/
  sentBlock : List Byte
  /-- received PAUSE still to run, in quanta (R160) -/
  paused : Nat
  /-- the repeat phase of R162 -/
  sending : Bool
  /-- unscheduled egress queue, by order of arrival (R154) -/
  queue : List OutFrame
  /-- the last frame that the port put on the wire, with its FCS (R134, R151) -/
  sent : Option LineFrame
  /-- the last frame that reached its decision point here, until its end is told (R150, R151, R164) -/
  judged : Option LineFrame
  /-- uncorrected RS-FEC frames in the present window of 10^10 received bits, and the clock at which that began (R125) -/
  fecErrors : Nat
  fecWindow : Nat
  /-- the frames of the last launch, as octets before the FCS, and its launch time (R226, R227) -/
  launched : List (List Byte)
  launchAt : Nat
  /-- peer delay: the sequence numbers of the Pdelay_Req that wait for their answer, oldest first (R286) -/
  pdelayWaits : List Nat
  pdelaySeq : Nat
  /-- the last eight measurements, newest first (R286) -/
  pdelays : List Int
  /-- consecutive unanswered or invalid exchanges (R286) -/
  pdelayFails : Nat
  /-- it has had no valid measurement for 10 s while up (R286) -/
  pdelayLost : Bool
deriving DecidableEq, Repr

/-- Insertion of a lane into its line (R122, R123). -/
inductive Ins where
  | outside
  | listening
  | training
  | inserted
deriving DecidableEq, Repr

/-- A candidate or a directory: entries in position order and what R185 to R198 derive with them. -/
structure Candidate where
  entries : List DirEntry
  flags : Nat
  master : Nat
  single : Bool
deriving DecidableEq, Repr

/-- One received Close frame (R197): origin, fields, first position, frames, entries. -/
structure ClosePart where
  origin : Nat
  index : Nat
  fields : CloseFields
  first : Nat
  frames : Nat
  entries : List DirEntry
deriving DecidableEq, Repr

/-- A close that a lane holds (R200). -/
structure Close where
  epoch : Nat
  /-- the closer: the origin of the set (R178) -/
  origin : Nat
  fields : CloseFields
  entries : List DirEntry
deriving DecidableEq, Repr

/-- One received Discovery frame (R181, R183). -/
structure DiscPart where
  index : Nat
  last : Bool
  total : Nat
  entries : List DirEntry
deriving DecidableEq, Repr

/-- A publication list in the cache (R194). -/
structure CachedList where
  uid : Nat
  digest : Nat
  entries : List PubEntry
deriving DecidableEq, Repr

/-- One received part of a List set (R195). -/
structure ListPart where
  origin : Nat
  index : Nat
  last : Bool
  digest : Nat
  total : Nat
  entries : List PubEntry
deriving DecidableEq, Repr

/-- The Roll at one lane (R170 to R208). -/
structure RollState where
  running : Bool
  /-- the settle hold-off of a trigger runs (R172) -/
  holdOff : Bool
  /-- code of the trigger waiting for hold-off or spacing -/
  trigger : Option Nat
  /-- a trigger held until the switch beat of the adopted close (R174) -/
  heldTrigger : Option Nat
  /-- 100 ms have passed since the start of the last Roll originated or joined (R173) -/
  spaced : Bool
  /-- the Start of the running Roll: trigger code and origin -/
  startCode : Nat
  startOrigin : Nat
  /-- the lane is a line end on its end-1, its end-2 side (R180) -/
  end1 : Bool
  end2 : Bool
  /-- discovery frames from the end-1 and the end-2 side -/
  disc1 : List DiscPart
  disc2 : List DiscPart
  lineList : Option (List DirEntry)
  peerList : Option (List DirEntry)
  candidate : Option Candidate
  /-- nodes and digests of the lists named in the Wants acted on (R195, R196) -/
  wanted : List (Nat × Nat)
  /-- the own List set was sent in the present want time (R195) -/
  listSent : Bool
  closeParts : List ClosePart
  listParts : List ListPart
  /-- frames relayed or handled in this Roll: kind, origin, index (R179) -/
  seen : List (Nat × Nat × Nat)
  adopted : Option Close
  /-- the closes that this lane has met in this Roll, from its line, its peer and itself (R200, R201) -/
  offered : List Close
  /-- this lane's own close has been sent in this Roll (R196) -/
  closed : Bool
  /-- sequence number of the last Roll frame of this epoch (R137) -/
  seq : Nat
  /-- vehicle UID, orientation and time quality class as they entered this Roll, and the rate settings as they entered the
  last Roll, or as the lane started (R130, R171, R182, R303) -/
  vehicle : Nat
  orientation : Nat
  settings : Nat
  quality : Nat
  cache : List CachedList
  directory : List DirEntry
  /-- the epoch of the last close adopted (R175) -/
  closedEpoch : Nat
  stampGrace : Nat
  /-- beats of grace left (R141) -/
  graceBeats : Nat
  lateStart : Bool
  /-- line 2's deferred rate change is due at this lane (R118) -/
  line2Deferred : Bool
  /-- the last close adopted left this node out (R205) -/
  notNumbered : Bool
deriving DecidableEq, Repr

/-! ### Train time (chapter 09) -/

/-- One valid Sync or mirror comparison: the offset found and the lane's time at it (R288, R293). -/
structure Sample where
  theta : Int
  time : Int
deriving DecidableEq, Repr

/-- The timebase of a lane and its synchronisation (R274 to R298). The time state, the rate correction,
the increment in force and the other shown values are entries 4001h to 4014h. -/
structure TimeState where
  ns : Nat
  frac : Nat
  wraps : Nat
  /-- the integrator, in 1/32 ppb (R289) -/
  iacc : Int
  /-- valid Syncs from the master in force since the lane last left locked, newest first -/
  samples : List Sample
  /-- the domain that those Syncs name -/
  sampleDomain : Nat
  /-- mirror comparisons while acquiring, newest first (R291, R293) -/
  mirrorSamples : List Sample
  /-- sequenceId of the last valid Sync from the master in force (R288) -/
  lastSeq : Option Nat
  /-- the candidate master being measured: UID, domain, its Syncs (R280, R296) -/
  candUid : Nat
  candDomain : Nat
  candSeq : Option Nat
  candSamples : List Sample
  /-- quality class and epoch of the candidate or close that named this node a candidate master (R280, R283) -/
  mark : Nat × Nat
  /-- sequenceId of this lane's own next Sync (R284) -/
  syncSeq : Nat
  outlierRun : Nat
  /-- the outlier limit is off until the lane is locked closely again (R290) -/
  noLimit : Bool
  /-- consecutive comparisons beyond 2 us (R295) -/
  diverged : Nat
  /-- clock at which the present holdover began (entry 4011h) -/
  holdSince : Nat
  /-- the lane waits for a late domain step (R297) -/
  lateDomain : Bool
  /-- train time at which the pulse in progress ends at the unit's field pins, 20 µs or more after its edge, by unit
  (R300, R355) -/
  pulseEnds : Regs
  /-- units whose present pulse HTPULSE shows, as bits (R300) -/
  pulseDrives : Nat
  /-- units written while a pulse was in progress, which are armed anew at its end, as bits (R300) -/
  pulseRearm : Nat
  /-- this lane acts, and HTPULSE keeps the level it had before until a unit of the lane has its next edge (R301) -/
  pulseHeld : Bool
  /-- the units whose level HTPULSE had then, as bits: the next edge of one ends it (R301) -/
  pulseKept : Nat
deriving DecidableEq, Repr

/-! ### Security and the service port (chapter 16) -/

/-- One of the four service sessions (R496 to R498). -/
structure ServiceSession where
  /-- the role authenticated, none without authentication -/
  role : Option Nat
  /-- session key Ks (R481) -/
  key : Nat
  /-- the outstanding challenge Nm (R481) -/
  challenge : Option Nat
  /-- the last accepted sequence number from the tool (R497) -/
  seqIn : Option Nat
  seqOut : Nat
  /-- authenticated in the commissioning state (R482) -/
  commissioning : Bool
  /-- the session ended and was not authenticated again: its requests fail (R498) -/
  ended : Bool
  /-- frames from the tool since the authentication (R498) -/
  framesIn : Nat
  /-- frames to the tool since the authentication (R498) -/
  framesOut : Nat
deriving DecidableEq, Repr

/-- Keys, authentication and images (R481 to R498). -/
structure Security where
  /-- role keys: Operator, Maintainer, Vendor; empty or 16 bytes (entry 1601h) -/
  roleKeys : List (List Byte)
  /-- configuration keys, slots 0 to 3 (entry 1611h) -/
  cfgKeys : List (List Byte)
  /-- firmware keys, slots 0 and 1 (entry 1610h) -/
  fwKeys : List (List Byte)
  /-- the host link's outstanding challenge Nm (entry 1620h:01h) -/
  challenge : Option Nat
  /-- Q of the last success (entry 1620h:03h) -/
  proof : Nat
  /-- the role of the open host link session (R483) -/
  hostRole : Option Nat
  /-- clocks of the failures on the host link and on the service port (R481) -/
  hostFails : List Nat
  serviceFails : List Nat
  hostLocked : Bool
  serviceLocked : Bool
  /-- configuration image staging (entries 1630h) -/
  image : List Host.Cell
  /-- label of the last image applied (entry 1012h:02h) -/
  label : List Byte
  /-- the images applied while a lane was not awake, with that lane, oldest first: it takes them at its mirror resync
  (R491) -/
  missed : List (LaneId × List Byte)
  sessions : List ServiceSession
  /-- the frames that the last frame on X1 was answered with, in order, without their FCS -/
  lastAnswer : List (List Byte)
deriving DecidableEq, Repr

/-! ### Flows (chapter 07) -/

/-- A publication context's buffers (R234). -/
structure PubCtx where
  front : List Byte
  back : List Byte
  committed : Bool
  /-- sequence number of the last frame sent -/
  seq : Nat
  /-- train time of the last sample point, bits 31 to 0 -/
  sampled : Nat
deriving DecidableEq, Repr

/-- A copy that a lane delivered in a beat (R239): its number, active flag, publisher and payload. -/
structure CopyRec where
  seq : Nat
  active : Bool
  uid : Nat
  data : List Byte
deriving DecidableEq, Repr

/-- A subscription context (R236 to R242). -/
structure SubCtx where
  /-- the front buffer holds a copy -/
  held : Bool
  seq : Nat
  data : List Byte
  /-- train time of the delivery, bits 31 to 0 -/
  time : Nat
  active : Bool
  line2 : Bool
  newData : Bool
  replaced : Bool
  stale : Bool
  age : Nat
  /-- resolution code of R236 -/
  resolution : Nat
  /-- the resolved publisher's position and UID, and the flow's period P -/
  position : Nat
  uid : Nat
  period : Nat
  /-- the binding before the last switch beat, for frames with the stamp in grace: position, UID, flow number (R236) -/
  grace : Option (Nat × Nat × Nat)
  /-- the next copy is accepted whatever its sequence number (R236) -/
  anySeq : Bool
  /-- clock of the first copy's delivery of the present sequence number (R238) -/
  firstAt : Nat
  /-- the copies delivered in the beat now running, oldest first (R239) -/
  fresh : List CopyRec
  /-- the records of the copies delivered in the beat before that have not been served yet, oldest first (R239) -/
  records : List CopyRec
  /-- the last 32 numbers delivered, newest first (R239) -/
  delivered : List Nat
deriving DecidableEq, Repr

/-- A flow in the schedule computation (R220 to R222): offset none means not placed. -/
structure SFlow where
  uid : Nat
  number : Nat
  period : Nat
  cost : Nat
  size : Nat
  priority : Nat
  held : Nat
  offset : Option Nat
  rejected : Bool
deriving DecidableEq, Repr

/-- A computed schedule with the numbering it was computed from (R220 to R223). -/
structure Sched where
  entries : List DirEntry
  flows : List SFlow
  capacity : Nat
  highest : Nat
  vital : Bool
  trainLimit : Bool
deriving DecidableEq, Repr

/-- What a lane keeps of the wave before its last switch beat, for the transition beats (R232): the schedule and line
rate that were in force, the last beat of the old numbers, the first of the new ones, and how much later the old train
time reads now, which a step changes. -/
structure OldWave where
  sched : Option Sched
  rate : Nat
  last : Nat
  first : Nat
  shift : Int
deriving DecidableEq, Repr

/-- A class 1 frame as its sample point took it: flow number, sequence number, payload (R234). -/
structure SampledFrame where
  number : Nat
  seq : Nat
  data : List Byte
deriving DecidableEq, Repr

/-- The due frames of a beat: the lane's position and stamp for that beat, the port toward higher positions, the two launch
times, and which copies have still to leave (R226, R227, R233). -/
structure Launch where
  beat : Nat
  pos : Nat
  stamp : Nat
  high : EndId
  riseAt : Nat
  fallAt : Nat
  rises : Bool
  falls : Bool
  frames : List SampledFrame
deriving DecidableEq, Repr

/-- The flows of a lane. -/
structure FlowState where
  pubs : List (Nat × PubCtx)
  subs : List (Nat × SubCtx)
  /-- publications announced in the Roll now running: context and list entry (R216, R474) -/
  announced : List (Nat × PubEntry)
  /-- those of the close that a late start came with, which a newer Roll leaves for its computation (R204, R220) -/
  lateOwn : List (Nat × PubEntry)
  /-- publications in force, with their assigned offsets -/
  running : List (Nat × PubEntry)
  /-- the schedule computed for the adopted close, and whether its computation still runs -/
  next : Option Sched
  computing : Bool
  sched : Option Sched
  /-- the wave before the last switch beat (R232) -/
  old : Option OldWave
  /-- the beat now running -/
  beat : Nat
  /-- transition beats left (R232) -/
  transition : Nat
  /-- the frames sampled for beats and not yet launched both ways, oldest first (R226, R233, R234) -/
  launches : List Launch
  /-- payload bytes of fill-ins in this beat, and the context served last (R239) -/
  fillBytes : Nat
  fillLast : Option Nat
  /-- publishing begins at the next beat (R204) -/
  startsNext : Bool
  /-- the lane's sequence numbers are the node's: it has held possession since its start, or took its peer's (R137) -/
  numbers : Bool
deriving DecidableEq, Repr

/-! ### Messages (chapter 08) -/

/-- A message session at the requester (R246 to R260). Its settings and counts are entries 3800h to 387Fh. -/
structure Session where
  /-- entry 3800h:01h: 0 idle, 1 sending, 2 waiting, 3 completed, 4 aborted -/
  state : Nat
  transaction : Nat
  attempt : Nat
  op : Nat
  sel : Nat
  /-- by position: the position, else the UID -/
  byPosition : Bool
  target : Nat
  object : Nat
  length : Nat
  prefetch : Bool
  /-- data to send, or data received -/
  data : List Byte
  /-- bytes acknowledged, or received without a gap -/
  acked : Nat
  /-- segments received beyond a gap -/
  parts : List (Nat × List Byte)
  /-- segments received without a gap since the last acknowledge -/
  sinceAck : Nat
  /-- sequence number of the session's last frame -/
  seq : Nat
  /-- sequence number of the last frame taken from the target (R254) -/
  taken : Option Nat
deriving DecidableEq, Repr

/-- An answer record (R261, R263). -/
structure AnswerRec where
  uid : Nat
  session : Nat
  transaction : Nat
  status : Nat
  /-- clock of its execution -/
  time : Nat
  /-- a read with side effect has begun, and its result is not held yet -/
  started : Bool
deriving DecidableEq, Repr

/-- A transfer buffer at the target (R257 to R259). -/
structure Transfer where
  uid : Nat
  session : Nat
  transaction : Nat
  write : Bool
  op : Nat
  selection : Nat
  object : Nat
  length : Nat
  /-- bytes held without a gap, or the held result -/
  data : List Byte
  parts : List (Nat × List Byte)
  /-- bytes that the requester has acknowledged of a result -/
  acked : Nat
  sinceAck : Nat
  srcPos : Nat
deriving DecidableEq, Repr

/-- A lock (R265): its holder, its granule, in exchange memory or in the dictionary. The local host link's
locker identity is session 65,535 of the own UID. -/
structure Lock where
  uid : Nat
  session : Nat
  entry : Bool
  granule : Nat
deriving DecidableEq, Repr

/-- A message in the host mailbox (R267, R268). -/
structure Mail where
  tag : Nat
  position : Nat
  uid : Nat
  time : Nat
  data : List Byte
  /-- session and transaction that brought it: which messages the lane in possession has queued too (R262, R267) -/
  session : Nat
  transaction : Nat
deriving DecidableEq, Repr

/-- The messages of a lane. -/
structure MsgState where
  sessions : List (Nat × Session)
  records : List AnswerRec
  buffers : List Transfer
  locks : List Lock
  mail : List Mail
  /-- the last sleep beat acted on (R270) -/
  lastSleep : Option Nat
  /-- by requester and session: one more than the last transaction whose transfer buffer was freed (R259) -/
  freed : Regs
deriving DecidableEq, Repr

/-! ### Car bus (chapter 10) -/

/-- The latch of a gateway rule of direction 1 (R327). -/
structure Latch where
  data : List Byte
  time : Nat
  /-- filled since lane start -/
  filled : Bool
  /-- the last fill came from the own line and has not crossed to the peer -/
  toPeer : Bool
deriving DecidableEq, Repr

/-- The frame of a transmit buffer as it stood until a change made while the buffer was pending (R315, R316): the train
time of the change, and whether it was a commit or a gateway copy. -/
structure TxImage where
  buffer : Nat
  stood : Nat
  update : Bool
  frame : CanFrame
deriving DecidableEq, Repr

/-- The car bus of a lane beyond its entries (R306 to R329). -/
structure CanState where
  /-- shadow of the Pattern entries (R320), by key -/
  shadow : Regs
  /-- the beat at which the shadow comes into force -/
  switchBeat : Option Nat
  /-- buffers that have begun an attempt; whose image changed since they were last sent; whose frame has
  counted as late: bit t for buffer t -/
  tried : Nat
  changed : Nat
  late : Nat
  /-- listen-only in force (R324) -/
  listen : Bool
  integrating : Bool
  /-- 0 error active, 1 error passive, 2 bus-off -/
  errState : Nat
  latches : List (Nat × Latch)
  /-- the last frame that the lane has sent whole (R307, R315, R318) -/
  sent : Option CanFrame
  /-- the frames that pending buffers held before their changes, newest first (R315) -/
  images : List TxImage
  /-- train times at which the pending buffers became so, by buffer, and at which the last attempt ended (R318) -/
  since : Regs
  lastEnd : Nat
  /-- a bit timing has been written, and the bus has not been idle since (R309) -/
  retime : Bool
deriving DecidableEq, Repr

/-! ### Field side (chapter 11) -/

/-- A capture record (R349). -/
structure Capture where
  time : Nat
  flags : Nat
  edge : Nat
deriving DecidableEq, Repr

/-- A pin of a field side beyond its entries (R342 to R364). -/
structure Pin where
  cnt : Nat
  filt : Bool
  raw : Bool
  /-- the filter has its initial state (R335) -/
  begun : Bool
  /-- field counter at the raw transition that begins the present filter run (R347) -/
  edge : Option Nat
  fifo : List Capture
  /-- records were lost since the last one stored -/
  lost : Bool
  /-- the last output command that the field side took -/
  cmd : Bool
  /-- the driver is on -/
  driver : Bool
  /-- consecutive samples below, at or above the threshold (R360) -/
  low : Nat
  high : Nat
  /-- open results in the present off period (R362) -/
  opens : Nat
  /-- the value in force as the comparison of R93 last saw it, and the clock of its last change since -/
  seen : Bool
  changedAt : Option Nat
  /-- the pin's voltage against FSx- in mV, as last measured (R345, R359) -/
  volt : Nat
  /-- filtered changes of the pin, modulo 2^16 (R349) -/
  edges : Nat
deriving DecidableEq, Repr

/-- The field side of a lane (R333 to R368). -/
structure FieldState where
  powered : Bool
  /-- the field side follows the lane (R335) -/
  run : Bool
  /-- in safe state (R338) -/
  safe : Bool
  /-- the freeze flag is in force at the field side (R341) -/
  frozen : Bool
  linkUp : Bool
  /-- an expiry to report at the next valid frame (R338) -/
  report : Bool
  pins : List (Nat × Pin)
  /-- the supply state that the last measurement indicated (R367) -/
  measured : Option Nat
  /-- the supply state has been entered since power-up -/
  supplyKnown : Bool
  /-- clock at which the supply last became good (R360) -/
  goodSince : Nat
  /-- the pair hold-off of R361 runs -/
  holdOff : Bool
  /-- the cab-active OR last seen (R352) -/
  cabWas : Bool
  /-- the mapping of the 40 ns counter: its reading at the last valid frame, and the train time of that frame (R302) -/
  timeMap : Option (Nat × Nat)
  /-- a valid frame has come since the watchdog last expired: it runs (R338) -/
  fed : Bool
  /-- the watchdog has expired since the lane last started: the lane does not send run (R340) -/
  barred : Bool
deriving DecidableEq, Repr

/-! ### Host link and bridge (chapter 12) -/

/-- A request of the host link (R374, R375): opcode, address, count field, data words. -/
structure HostReq where
  op : Nat
  addr : Nat
  count : Nat
  data : List Nat
deriving DecidableEq, Repr

/-- A response of the host link (R376). -/
structure HostResp where
  status : Nat
  words : Nat
  data : List Nat
  code : Nat
deriving DecidableEq, Repr

/-- A remote window beyond its entries (R389 to R394). -/
structure Win where
  /-- the access that runs through session w -/
  active : Option HostReq
  /-- it stands in the posted queue: no frame is held for it -/
  posted : Bool
  /-- a prefetch is open, of this offset and number of words -/
  prefetching : Option (Nat × Nat)
  /-- the prefetched block: offset and bytes -/
  block : Option (Nat × List Byte)
  /-- the read that may start a prefetch -/
  lastRead : Option (Nat × Nat)
  /-- transactions that ended with "no response" under an open access, each with the last sequence number taken from its
  target: what arrives for them later is late data (R391) -/
  expired : List (Nat × Option Nat)
deriving DecidableEq, Repr

/-- The host front (R372 to R402). -/
structure HostState where
  /-- the access that holds HWAIT; none while no frame is held -/
  held : Option HostReq
  /-- the last response sent -/
  resp : Option HostResp
  /-- the module drives HIO0 to HIO3 with it: HCS_N has not risen since (R373) -/
  answering : Bool
  /-- posted writes by path, 0 to 15 a window, 16 the local path, in order (R384); among them the accesses that
  HCS_N abandoned, which keep their place (R379), an abandoned SYNC as path 17 -/
  posted : List (Nat × HostReq)
  wins : List (Nat × Win)
  /-- staging buffers of the aperture: channel * 65536 + offset (R388) -/
  staging : Bytes
  /-- the level of HTPULSE as the last lane to act left it (R301) -/
  htPulse : Bool
  /-- latch of the fast timebase (R277) and of the mailbox's source UID (R268) -/
  fastHigh : Nat
  mailHigh : Nat
  /-- clocks of the last rejected frames, newest first (source 134, R408) -/
  rejects : List Nat
  /-- epoch and stamp of the close whose switch beat the remote windows have had (R392) -/
  switched : Option (Nat × Nat)
  /-- the directory that the remote windows went by when a lane that they do not follow had its switch beat first: it waits
  for a lane with that close to take possession (R392) -/
  skipped : Option (List DirEntry)
deriving DecidableEq, Repr

/-! ### The lane and the module -/

/-- One lane. `reg` holds its dictionary entries of lane-specific and node scope (R471). -/
structure LaneState where
  mode : Mode
  selfTest : Bool
  reg : Regs
  poss : Poss
  port1 : Port
  port2 : Port
  bypassOpen : Bool
  ins : Ins
  roll : RollState
  coll : Collector
  log : Recorder
  plan : Plan
  upd : Update
  time : TimeState
  flow : FlowState
  msg : MsgState
  can : CanState
  field : FieldState
  /-- chains of the message receive ring handed to firmware, in order: the octets of each frame from its destination
  address to the end of its payload (R163) -/
  ring : List (List Byte)
  /-- sequence number of the last class 3 frame of each echo identifier (R137) -/
  echoSeq : Regs
  /-- exchange memory (R380) -/
  xmem : Bytes
  /-- the node enters sleep: the lane sends no scheduled frames, messages and Roll frames, and its Pattern stands (R60) -/
  quiet : Bool
deriving DecidableEq, Repr

/-- The answer of the last access (R479): abort code 0 for success, the value read, the bytes of an
OCTETS entry. -/
structure Answer where
  code : Nat
  value : Nat
  data : List Byte
deriving DecidableEq, Repr

/-- The module. -/
structure State where
  /-- commands waiting, first in first out -/
  pending : List Instr
  /-- time since the start of the model, in ns; the model's own -/
  clock : Nat
  /-- how many free values have been used; the model's own -/
  fresh : Nat
  /-- YLN-720-2 (R504, R511) -/
  variant2 : Bool
  uid : Nat
  /-- dictionary entries of module-level scope (R471) -/
  mreg : Regs
  keeper : Keeper
  arb : Arbiter
  coll : Collector
  ans : Answer
  sec : Security
  host : HostState
  /-- settings that fanned-out writes changed in one lane alone, for the mirror resync of the lane that they did not reach
  (R381) -/
  owed : List (LaneId × Nat)
  laneA : LaneState
  laneB : LaneState
deriving DecidableEq, Repr

/-! ### Reset -/

/-- An interlock, mirror and arbiter link side with nothing up (R66, R97). -/
def Poss.reset : Poss where
  interlock := false
  epoch := 0
  arbLink := false
  request := false
  view := .unknown
  lease := false
  hold := false
  renewals := 0
  ackedAt := 0
  pump := false
  acq := .idle
  pairBroken := false
  mirrorUp := false
  resync := false
  allowance := false
  goodFrames := 0
  mirrorSeen := false
  upNoHolder := false
  peerWord := 0x1000
  changing := false
  limitPassed := false
  frozen := false
  releaseCause := 0
  peerFailTold := false

/-- A collector that has seen nothing (R414). -/
def Collector.empty : Collector where
  sticky := 0
  path := 0
  injected := 0
  inFault := 0
  invalid := 0
  level := []
  merged := []
  injUnack := 0
  intClasses := 0
  trapClasses := 0
  highClasses := 0
  armed := none
  resets := []
  domains := []

/-- A line port with its domain off. -/
def Port.reset : Port where
  step := .off
  master := false
  lineCross := false
  loop := false
  rateHeld := false
  heldDown := false
  heldRate := 0xFF
  heldCode := 0xFF
  heldForce := 0xFF
  quarantined := false
  takenDown := false
  alarm := false
  alarmArmed := true
  requestWaits := false
  requestAt := none
  rate := 0
  ordered := false
  newLink := false
  lateLink := false
  diag := false
  diagCmd := false
  diagForced := false
  uncounted := false
  partnerRate := 0xFF
  partnerFloor := 3
  partnerCeiling := 0
  estimatesSince := 0
  estimate := 0xFF
  swings := []
  changes := []
  sentBlock := []
  paused := 0
  sending := false
  queue := []
  sent := none
  judged := none
  fecErrors := 0
  fecWindow := 0
  launched := []
  launchAt := 0
  pdelayWaits := []
  pdelaySeq := 0
  pdelays := []
  pdelayFails := 0
  pdelayLost := false

/-- A lane that has never Rolled. -/
def RollState.reset : RollState where
  running := false
  holdOff := false
  trigger := none
  heldTrigger := none
  spaced := true
  startCode := 0
  startOrigin := 0
  end1 := false
  end2 := false
  disc1 := []
  disc2 := []
  lineList := none
  peerList := none
  candidate := none
  wanted := []
  listSent := false
  closeParts := []
  listParts := []
  seen := []
  adopted := none
  offered := []
  closed := false
  seq := 0
  vehicle := 0
  orientation := 0
  settings := 0
  quality := 8
  cache := []
  directory := []
  closedEpoch := 0
  stampGrace := 0
  graceBeats := 0
  lateStart := false
  line2Deferred := false
  notNumbered := false

/-- A cleared log that holds its one event 0063h (R512) (log 3: DESIGN CHOICE). -/
def Recorder.reset : Recorder where
  slots := [.record ⟨0, ⟨0, 0, true, false, false, 0x0063, toBytes 12 0⟩⟩]
  queue := []
  finals := []
  opNs := 0
  cycles := 0
  ctl := List.replicate 3 ⟨0, 0, 1, 0, true⟩
  die := [0, 0, 0]
  worn := []
  outcomes := []
  tagsValid := false
  scanned := false
  clearing := false
  clearMark := false
  clearBy := (0, 0)
  shutdown := false
  overflow := false
  failed := none

/-- An empty plan history (R512). -/
def Plan.reset : Plan where
  history := []
  hours := 0
  due := none
  samples := []
  cleanPlans := 0
  vreq := 0
  bypassOhm := 0
  own := []
  rates := []
  waiting := []
  nextScrub := none
  short := false

/-- The released firmware in both banks (R512); its numbers are the model's (assumption log) (log 3: DESIGN CHOICE). -/
def Firmware.reset : Firmware := ⟨1, 0, 1, 1, 1⟩

/-- No update. -/
def Update.reset : Update := ⟨0, false, [], 0, .reset, .reset⟩

/-- A timebase at lane start (R274). -/
def TimeState.reset : TimeState where
  ns := 0
  frac := 0
  wraps := 0
  iacc := 0
  samples := []
  mirrorSamples := []
  lastSeq := none
  candUid := 0
  candDomain := 0
  candSeq := none
  candSamples := []
  mark := (8, 0)
  syncSeq := 0
  outlierRun := 0
  noLimit := false
  diverged := 0
  lateDomain := false
  sampleDomain := 0
  holdSince := 0
  pulseEnds := []
  pulseDrives := 0
  pulseRearm := 0
  pulseHeld := false
  pulseKept := 0

/-- A service session that nobody has used. -/
def ServiceSession.reset : ServiceSession := ⟨none, 0, none, none, 0, false, false, 0, 0⟩

/-- Security as it leaves the factory: role and configuration keys empty (R512). The firmware keys are
Phohild's; the model names two (assumption log) (log 3: DESIGN CHOICE). -/
def Security.reset : Security where
  roleKeys := [[], [], []]
  cfgKeys := [[], [], [], []]
  fwKeys := [List.replicate 32 1, List.replicate 32 2]
  challenge := none
  proof := 0
  hostRole := none
  hostFails := []
  serviceFails := []
  hostLocked := false
  serviceLocked := false
  image := []
  label := []
  missed := []
  sessions := [.reset, .reset, .reset, .reset]
  lastAnswer := []

/-- A publication context that holds nothing. -/
def PubCtx.empty : PubCtx := ⟨[], [], false, 0, 0⟩

/-- A subscription context that holds nothing. -/
def SubCtx.empty : SubCtx where
  held := false
  seq := 0
  data := []
  time := 0
  active := false
  line2 := false
  newData := false
  replaced := false
  stale := false
  age := 65535
  resolution := 0
  position := 0
  uid := 0
  period := 0
  grace := none
  anySeq := false
  firstAt := 0
  fresh := []
  records := []
  delivered := []

/-- No flows. -/
def FlowState.reset : FlowState where
  pubs := []
  subs := []
  announced := []
  lateOwn := []
  running := []
  next := none
  computing := false
  sched := none
  old := none
  beat := 0
  transition := 0
  launches := []
  fillBytes := 0
  fillLast := none
  startsNext := false
  numbers := false

/-- An idle session (R271). -/
def Session.idle : Session where
  state := 0
  transaction := 0
  attempt := 0
  op := 1
  sel := 0
  byPosition := false
  target := 0
  object := 0
  length := 4
  prefetch := false
  data := []
  acked := 0
  parts := []
  sinceAck := 0
  seq := 0
  taken := none

/-- No sessions, records, buffers, locks or mail (log 3: DESIGN CHOICE). -/
def MsgState.reset : MsgState := ⟨[], [], [], [], [], none, []⟩

/-- A latch that holds zeros (R327). -/
def Latch.empty : Latch := ⟨[], 0, false, false⟩

/-- A car bus after its domain switched on (R309) (log 3: DESIGN CHOICE). -/
def CanState.reset : CanState := ⟨[], none, 0, 0, 0, false, true, 0, [], none, [], [], 0, false⟩

/-- A pin that is off. -/
def Pin.off : Pin where
  cnt := 0
  filt := false
  raw := false
  begun := false
  edge := none
  fifo := []
  lost := false
  cmd := false
  driver := false
  low := 0
  high := 0
  opens := 0
  seen := false
  changedAt := none
  volt := 0
  edges := 0

/-- A field side without power (log 3: DESIGN CHOICE). -/
def FieldState.reset : FieldState where
  powered := false
  run := false
  safe := false
  frozen := false
  linkUp := false
  report := false
  pins := []
  measured := none
  supplyKnown := false
  goodSince := 0
  holdOff := false
  cabWas := false
  timeMap := none
  fed := false
  barred := false

/-- A window without access or block. -/
def Win.idle : Win := ⟨none, false, none, none, none, []⟩

/-- A host front with nothing open (log 3: DESIGN CHOICE). -/
def HostState.reset : HostState where
  held := none
  resp := none
  answering := false
  posted := []
  wins := []
  staging := []
  htPulse := false
  fastHigh := 0
  mailHigh := 0
  rejects := []
  switched := none
  skipped := none

/-- An unpowered lane as it leaves the factory (R512) (log 3: DESIGN CHOICE). -/
def LaneState.reset : LaneState where
  mode := .unpowered
  selfTest := false
  reg := [(0x150100, 1), (0x150200, 1)]
  poss := .reset
  port1 := .reset
  port2 := .reset
  bypassOpen := false
  ins := .outside
  roll := .reset
  coll := .empty
  log := .reset
  plan := .reset
  upd := .reset
  time := .reset
  flow := .reset
  msg := .reset
  can := .reset
  field := .reset
  ring := []
  echoSeq := []
  xmem := []
  quiet := false

/-- A module without supply, not mated (log 3: DESIGN CHOICE). -/
def Keeper.reset : Keeper where
  phase := .off
  presClosed := false
  mated := false
  withdrawn := false
  supplyGood := false
  charged := false
  onHoldUp := false
  warmNs := 0
  locate := 0
  lampTest := false
  knockDue := false
  fired := 0
  sleeping := none
  sleepBeat := none
  announce := 0
  annSeq := 0
  deferred := false
  hvio := false
  hrstLow := false
  tossPending := true
  tossWindow := false
  askedA := false
  firstInsertion := true
  serviceLink := false

/-- An arbiter that is off (R64) (log 3: DESIGN CHOICE). -/
def Arbiter.reset : Arbiter where
  running := false
  waiting := false
  holder := none
  expired := false
  released := false
  granted := false
  lastHolder := none
  changeAt := 0
  planned := none
  checking := none
  mismatch := 0

/-- The machine as it leaves the factory, with no supply and no command waiting (R512) (log 3: DESIGN CHOICE). -/
def State.reset : State where
  pending := []
  clock := 0
  fresh := 0
  variant2 := false
  uid := 0x5C307A0000000001
  mreg := []
  keeper := .reset
  arb := .reset
  coll := .empty
  ans := ⟨0, 0, []⟩
  sec := .reset
  host := .reset
  owed := []
  laneA := .reset
  laneB := .reset


end Sys2Proof.Machine
end

