-- ==== Sys2Proof/Machine/Regs.lean ====
section
/-! DEFINITION. Access to the parts of the state: lanes, collectors, registers, free values, and the
checks of the manual (CRC-32C of R193, CRC-16 of R139, the FCS CRC-32 of R146). -/

namespace Sys2Proof.Machine

/-! ### Lanes -/

/-- One lane of the module. -/
def State.lane (s : State) : LaneId → LaneState
  | .A => s.laneA
  | .B => s.laneB

/-- The module with one lane replaced. -/
def State.setLane (s : State) (x : LaneId) (l : LaneState) : State :=
  match x with
  | .A => { s with laneA := l }
  | .B => { s with laneB := l }

/-- The module with one lane changed. -/
def State.upd (s : State) (x : LaneId) (f : LaneState → LaneState) : State := s.setLane x (f (s.lane x))

/-- The module with both lanes changed alike. -/
def State.updBoth (s : State) (f : LaneState → LaneState) : State := (s.upd .A f).upd .B f

/-- A line port of a lane. -/
def LaneState.port (l : LaneState) : EndId → Port
  | .e1 => l.port1
  | .e2 => l.port2

/-- A lane with one port replaced. -/
def LaneState.setPort (l : LaneState) (e : EndId) (p : Port) : LaneState :=
  match e with
  | .e1 => { l with port1 := p }
  | .e2 => { l with port2 := p }

/-- A lane with one port changed. -/
def LaneState.updPort (l : LaneState) (e : EndId) (f : Port → Port) : LaneState := l.setPort e (f (l.port e))

/-- The subindex of an end in the port entries (R130). -/
def endSub : EndId → Nat
  | .e1 => 1
  | .e2 => 2

/-- 0 for lane A, 1 for lane B. -/
def laneBit : LaneId → Nat
  | .A => 0
  | .B => 1

/-! ### Registers -/

/-- A dictionary register of a lane (log 14: DESIGN CHOICE). -/
def LaneState.get (l : LaneState) (k : Nat) : Nat := tabGet regDefault k l.reg

/-- A lane with a dictionary register written, cut to the entry's width (R468) (log 14: DESIGN CHOICE, 54: DESIGN
CHOICE). -/
def LaneState.put (l : LaneState) (k v : Nat) : LaneState :=
  { l with reg := tabSet regDefault k (v % 2 ^ regWidth k) l.reg }

/-- The MAC counters of R158 wrap. What any other counter shows after its top value the manual does not
say: a free value (assumption log) (log 13: DESIGN CHOICE). -/
def countUp (k n : Nat) : Nat :=
  if n + 1 < 2 ^ regWidth k then n + 1
  else if 0x210001 ≤ k ∧ k ≤ 0x213502 then 0
  else (Config.freeValue 64 k).toNat

/-- A lane with a counter advanced (log 13: DESIGN CHOICE). -/
def LaneState.inc (l : LaneState) (k : Nat) : LaneState := l.put k (countUp k (l.get k))

/-- A lane's register in the module. -/
def State.get (s : State) (x : LaneId) (k : Nat) : Nat := (s.lane x).get k

/-- The module with a lane's register written. -/
def State.put (s : State) (x : LaneId) (k v : Nat) : State := s.upd x (fun l => l.put k v)

/-- The module with a lane's counter advanced. -/
def State.inc (s : State) (x : LaneId) (k : Nat) : State := s.upd x (fun l => l.inc k)

/-- The module with a node entry written in both lanes (R471). -/
def State.putNode (s : State) (k v : Nat) : State := s.updBoth (fun l => l.put k v)

/-- A module-level register. -/
def State.mget (s : State) (k : Nat) : Nat := tabGet regDefault k s.mreg

/-- The module with a module-level register written. -/
def State.mput (s : State) (k v : Nat) : State :=
  { s with mreg := tabSet regDefault k (v % 2 ^ regWidth k) s.mreg }

/-- The module with a module-level counter advanced. -/
def State.minc (s : State) (k : Nat) : State := s.mput k (countUp k (s.mget k))

/-- A value that the manual does not fix, and the state with its counter of such values advanced (log 6: DESIGN CHOICE). -/
def State.free (s : State) (w : Nat) : Nat × State :=
  ((Config.freeValue w s.fresh).toNat, { s with fresh := s.fresh + 1 })

/-! ### Conditions of lanes -/

/-- A lane that draws power: every condition of R42 in which xC is on. -/
def LaneState.awake (l : LaneState) : Bool :=
  match l.mode with
  | .unpowered => false
  | .asleep => false
  | _ => true

/-- A lane whose start-up is complete: in standby, in possession or releasing. -/
def LaneState.ready (l : LaneState) : Bool :=
  match l.mode with
  | .standby => true
  | .possession => true
  | .releasing => true
  | _ => false

/-- The lane in possession (entry 1101h:00h [1:0]). -/
def State.holder (s : State) : Option LaneId :=
  if s.laneA.mode = .possession then some .A
  else if s.laneB.mode = .possession then some .B
  else none

/-- The module is awake: its host front is on (R42). -/
def State.awake (s : State) : Bool := decide (s.keeper.phase = .awake)

/-! ### Train time -/

/-- A lane's train time in ns (R276). -/
def LaneState.trainTime (l : LaneState) : Nat := l.time.wraps * 4294967296 + l.time.ns

/-- Code of the lane's time state (R287). -/
def LaneState.timeState (l : LaneState) : Nat := l.get 0x400100

/-- A TIME64 field of a record: all ones while the time state is 0 or 1 (R432). -/
def LaneState.time64 (l : LaneState) : Nat :=
  if l.timeState ≤ 1 then ones 64 else l.trainTime % 2 ^ 64

/-! ### Checks -/

/-- One step of a reflected CRC-32 by a bit. -/
def crcBit (poly c : Nat) : Nat := if c % 2 = 1 then (c / 2) ^^^ poly else c / 2

/-- One step of a reflected CRC-32 by a byte. -/
def crcByte (poly c : Nat) (b : Byte) : Nat :=
  crcBit poly (crcBit poly (crcBit poly (crcBit poly
    (crcBit poly (crcBit poly (crcBit poly (crcBit poly (c ^^^ b.toNat))))))))

/-- A reflected CRC-32, initial value and final inversion FFFF_FFFFh. -/
def crc32With (poly : Nat) (l : List Byte) : Nat := l.foldl (crcByte poly) 0xFFFFFFFF ^^^ 0xFFFFFFFF

/-- The CRC-32C of R193. -/
def crc32c (l : List Byte) : Nat := crc32With 0x82F63B78 l

/-- The IEEE 802.3 CRC-32 of R146. -/
def crc32 (l : List Byte) : Nat := crc32With 0xEDB88320 l

/-- One step of CRC-16/CCITT by a bit. -/
def crc16Bit (c : Nat) : Nat := if c.testBit 15 then (c * 2 ^^^ 0x1021) % 65536 else c * 2 % 65536

/-- One step of CRC-16/CCITT by a byte (R139). -/
def crc16Byte (c : Nat) (b : Byte) : Nat :=
  crc16Bit (crc16Bit (crc16Bit (crc16Bit (crc16Bit (crc16Bit (crc16Bit (crc16Bit
    (c ^^^ b.toNat * 256))))))))

/-- CRC-16/CCITT with initial value FFFFh (R139). -/
def crc16 (l : List Byte) : Nat := l.foldl crc16Byte 0xFFFF

/-- The stamp of a checked part: CRC-32C, with FFFF_FFFFh in place of 0 (R140, R193). -/
def stampOf (l : List Byte) : Nat := let c := crc32c l; if c = 0 then 0xFFFFFFFF else c

/-! ### Collectors -/

/-- A collector of R404. -/
def State.collector (s : State) : CollectorId → Collector
  | .lane x => (s.lane x).coll
  | .module => s.coll

/-- The module with a collector changed. -/
def State.updColl (s : State) (c : CollectorId) (f : Collector → Collector) : State :=
  match c with
  | .lane x => s.upd x (fun l => { l with coll := f l.coll })
  | .module => { s with coll := f s.coll }

/-- The bit position of a source in its collector. -/
def sourceBit (c : CollectorId) (n : Nat) : Nat :=
  match c with
  | .lane _ => n
  | .module => n - 128

/-- A source that is not reserved and belongs to the collector (R408). -/
def sourceIn (c : CollectorId) (n : Nat) : Bool :=
  (sourceRow n).isSome && (match c with
    | .lane _ => decide (n < 128)
    | .module => decide (128 ≤ n))

/-- A source's configured level (R409). -/
def State.sourceLevel (s : State) (c : CollectorId) (n : Nat) : Nat :=
  match c with
  | .lane x => s.get x (key (0x1410 + n) 1)
  | .module => s.mget (key (0x1410 + n) 1)

/-- A source's escalation ceiling (R417). -/
def State.sourceCeiling (s : State) (c : CollectorId) (n : Nat) : Nat :=
  match c with
  | .lane x => s.get x (key (0x1410 + n) 2)
  | .module => s.mget (key (0x1410 + n) 2)

/-- A class's level: the highest among its unacknowledged real reactions (R415). -/
def Collector.classLevel (c : Collector) (cls : Nat) : Nat := tabGet (fun _ => 0) cls c.level

/-- Unacknowledged classes, real and injected (entry 1405h). -/
def Collector.unacknowledged (c : Collector) : Nat :=
  ((List.range 13).filter (fun k => c.injUnack.testBit k || decide (1 ≤ c.classLevel k))).foldl
    (fun a k => withBit a k true) 0

/-- Fault semantics in force at a collector: entry 1400h:00h, a node entry; the module-level collector
takes it from the lane in possession, else from lane A. -/
def State.forerunner (s : State) (c : CollectorId) : Bool :=
  match c with
  | .lane x => decide (s.get x 0x140000 = 1)
  | .module => decide (s.get (s.holder.getD .A) 0x140000 = 1)

/-! ### Ports -/

/-- A port that is up, rate-held included (R180). -/
def Port.isUp (p : Port) : Bool := decide (p.step = .up)

/-- End enabled (entry 2000h). -/
def LaneState.enabled (l : LaneState) (e : EndId) : Bool := decide (l.get (key 0x2000 (endSub e)) = 1)

/-- The line's rate in force (entry 2005h). -/
def LaneState.lineRate (l : LaneState) : Nat := l.get 0x200500

/-- Own position (entry 2410h:03h). -/
def LaneState.position (l : LaneState) : Nat := l.get 0x241003

/-- Stamp in force (entry 2402h). -/
def LaneState.stamp (l : LaneState) : Nat := l.get 0x240200

/-- The stamp that a lane sends: none while its position is 0 (R140) (log 48: DEDUCED). -/
def LaneState.sentStamp (l : LaneState) : Nat := if l.position = 0 then 0 else l.stamp

end Sys2Proof.Machine
end

