-- ==== Sys2Proof/Machine/Units.lean ====
section
/-! DEFINITION. What the flows, the car bus, the field side and the host front do at the events of the lanes:
reset, power, acquiring and releasing possession. -/

namespace Sys2Proof.Machine

/-! ### Sorting -/

/-- A list with an element inserted before the first that it does not follow. -/
def insertBy {α : Type} (le : α → α → Bool) (a : α) : List α → List α
  | [] => [a]
  | b :: t => if le a b then a :: b :: t else b :: insertBy le a t

/-- A list sorted by an order. -/
def sortBy {α : Type} (le : α → α → Bool) (l : List α) : List α := l.foldr (insertBy le) []

/-! ### Publications (R213, R216, R217) -/

/-- A table of contexts, windows or pins by number, unlisted entries as given. -/
def lookupD {α : Type} (d : α) (n : Nat) (t : List (Nat × α)) : α := ((t.find? (fun e => e.1 = n)).map Prod.snd).getD d

/-- A table with one entry changed or added; entries stand in rising order of their numbers. -/
def changeAt {α : Type} (d : α) (n : Nat) (f : α → α) : List (Nat × α) → List (Nat × α)
  | [] => [(n, f d)]
  | (k, v) :: t =>
    if n < k then (n, f d) :: (k, v) :: t
    else if n = k then (k, f v) :: t
    else (k, v) :: changeAt d n f t

/-- Kind of a flow context (entry 3000h + n:01h). -/
def LaneState.ctxKind (l : LaneState) (n : Nat) : Nat := l.get (key (0x3000 + n) 1)

/-- The publication that a context runs, with its assigned offset (R217, R244). -/
def LaneState.pubRuns (l : LaneState) (n : Nat) : Option PubEntry := (l.flow.running.find? (fun e => e.1 = n)).map Prod.snd

/-- What a context behaves as: a publication that runs stays one up to the switch beat at which its change takes effect;
else its kind as written (R244, R474; log 31: DEDUCED). -/
def LaneState.ctxRole (l : LaneState) (n : Nat) : Nat := if (l.pubRuns n).isSome then 1 else l.ctxKind n

/-- The payload size of a publication as it runs, else as its context configures it (R244, R474; log 31: DEDUCED). -/
def LaneState.pubSize (l : LaneState) (n : Nat) : Nat :=
  ((l.pubRuns n).map (fun p => p.size.toNat)).getD (l.get (key (0x3000 + n) 5))

/-- The contexts of a kind, in ascending number: context 0 is a publication, any other is unused unless its
kind is written (R213). -/
def LaneState.contextsOf (l : LaneState) (kind : Nat) : List Nat :=
  (if kind = 1 then [0] else []) ++
    (l.reg.filter (fun e => e.1 % 256 = 1 && 0x3001 ≤ e.1 / 256 && e.1 / 256 ≤ 0x33FF && e.2 = kind)).map
      (fun e => e.1 / 256 - 0x3000)

/-- The subscriptions of a lane: not the contexts whose publication still runs (R244). -/
def LaneState.subscriptions (l : LaneState) : List Nat := (l.contextsOf 2).filter (fun n => (l.pubRuns n).isNone)

/-- Period class of a publication context; context 0 follows entry 2810h (R244). -/
def LaneState.ctxClass (l : LaneState) (n : Nat) : Nat :=
  if n = 0 then l.get 0x281000 else l.get (key (0x3000 + n) 3)

/-- The publication that a context configures, without held offset (R213, R214). -/
def LaneState.ctxEntry (l : LaneState) (n : Nat) : PubEntry where
  number := BitVec.ofNat 16 (l.get (key (0x3000 + n) 2))
  period := BitVec.ofNat 4 (l.ctxClass n)
  priority := BitVec.ofNat 2 (l.get (key (0x3000 + n) 4))
  size := BitVec.ofNat 16 (l.get (key (0x3000 + n) 5))
  held := 0xFFFF

/-- R217: a flow keeps the offset it has; a new flow, or one whose period class or size changes, has none. -/
def LaneState.heldOffset (l : LaneState) (p : PubEntry) : BitVec 16 :=
  match l.flow.running.find? (fun r => r.2.number = p.number && r.2.period = p.period && r.2.size = p.size) with
  | some r => r.2.held
  | none => 0xFFFF

/-- R216, R474: the publications that the lane announces in the Roll it enters, in flow-number order. -/
def LaneState.announce (l : LaneState) : LaneState :=
  let ps := (l.contextsOf 1).map (fun n => let p := l.ctxEntry n; (n, { p with held := l.heldOffset p }))
  { l with flow := { l.flow with announced := sortBy (fun a b => a.2.number.toNat ≤ b.2.number.toNat) ps } }

/-- The publication list of a lane (R216). -/
def LaneState.publications (l : LaneState) : List PubEntry := l.flow.announced.map Prod.snd

/-- A schedule computed for a close that the lane holds no longer is gone. -/
def LaneState.dropSchedule (l : LaneState) : LaneState :=
  { l with flow := { l.flow with next := none, computing := false } }

/-- R217, R245: the stored list with its held offsets outlives a lane reset and sleep; data and bindings do
not. -/
def FlowState.restarted (f : FlowState) : FlowState := { FlowState.reset with running := f.running }

/-- A lane that a fanned-out write reaches: not one that is asleep, in reset or in activation (R381). -/
def LaneState.reached (l : LaneState) : Bool := l.ready && decide (l.get 0x112000 ≠ 2)

/-! ### The field side (R333 to R368) -/

/-- A register of pin n (0 for pin 1). -/
def pinKey (n sub : Nat) : Nat := key (0x5000 + n) sub

/-- A pin of the field side. -/
def LaneState.pin (l : LaneState) (n : Nat) : Pin := lookupD .off n l.field.pins

/-- A pin changed. -/
def LaneState.updPin (l : LaneState) (n : Nat) (f : Pin → Pin) : LaneState :=
  { l with field := { l.field with pins := changeAt .off n f l.field.pins } }

/-- The field side changed. -/
def LaneState.updField (l : LaneState) (f : FieldState → FieldState) : LaneState := { l with field := f l.field }

/-- Function of a pin (R342). -/
def LaneState.pinFunction (l : LaneState) (n : Nat) : Nat := l.get (pinKey n 1)

/-- A measurement for the 24-hour values of the margin plan (R453, R455, R456). -/
def LaneState.sample (l : LaneState) (kind : Nat) (value : Int) : LaneState :=
  { l with plan := { l.plan with samples := PlanSample.mk (l.log.opNs / 1000000) kind value :: l.plan.samples } }

/-- A measurement of which the lowest of 24 hours counts: older ones that are not lower matter no longer (R124, R445). -/
def LaneState.sampleLow (l : LaneState) (kind : Nat) (value : Int) : LaneState :=
  let kept := l.plan.samples.filter (fun m => decide (m.kind ≠ kind ∨ m.value < value))
  { l with plan := { l.plan with samples := PlanSample.mk (l.log.opNs / 1000000) kind value :: kept } }

/-- A number limited to a range (R450, R453, R454, R455). -/
def clampNat (v lo hi : Nat) : Nat := if v < lo then lo else if hi < v then hi else v

/-- R449: an entry of the plan history with its CRC-32C over the values and the hours. -/
def planEntry (values : List Int) (hours : Nat) : PlanEntry :=
  ⟨values, hours, crc32c (values.flatMap (fun v => toBytes 4 (ofSigned 32 v)) ++ toBytes 8 hours)⟩

/-- R453: limits that waited for an inrush window apply at its end, within the bounds of row 3. -/
def LaneState.takeLimits (l : LaneState) : LaneState :=
  let due (e : Nat × Nat) : Bool := !bitAt (l.get (pinKey e.1 11)) 10
  let l' := (l.plan.waiting.filter due).foldl (fun l e =>
    l.put (key 0x1331 (e.1 + 1)) (clampNat e.2 (l.get 0x131304) (l.get 0x131305))) l
  { l' with plan := { l'.plan with waiting := l.plan.waiting.filter (fun e => !due e) } }

/-- An output function: output, lamp output, pulse output, end-role lamp (R342). -/
def isOutput (f : Nat) : Bool := decide (f = 1 ∨ f = 2 ∨ f = 3 ∨ f = 5)

/-- An input function: input, wake input, cab active (R342). -/
def isInput (f : Nat) : Bool := decide (f = 0 ∨ f = 4 ∨ f = 6)

/-- A lamp pin (Lamps, chapter 11). -/
def isLamp (f : Nat) : Bool := decide (f = 2 ∨ f = 5)

/-- An option bit of a pin. -/
def LaneState.pinOption (l : LaneState) (n i : Nat) : Bool := bitAt (l.get (pinKey n 6)) i

/-- A stored bit of the pin status word. -/
def LaneState.pinBit (l : LaneState) (n i : Nat) : Bool := bitAt (l.get (pinKey n 11)) i

/-- The pin status word with a stored bit set. -/
def LaneState.setPinBit (l : LaneState) (n i : Nat) (b : Bool) : LaneState :=
  l.put (pinKey n 11) (withBit (l.get (pinKey n 11)) i b)

/-- The pin is latched off, by current or thermally (R356). -/
def LaneState.latched (l : LaneState) (n : Nat) : Bool := l.pinBit n 13 || l.pinBit n 12

/-- The field supply state in entry 5103h: 0 good, 1 low, 2 missing. -/
def LaneState.supplyState (l : LaneState) : Nat := Machine.field (l.get 0x510300) 6 2

/-- R365: the end-role value of a pin, from the directory in force and the gate. -/
def LaneState.endRole (l : LaneState) (n : Nat) : Bool :=
  match l.roll.directory.find? (fun d => decide (d.pos.toNat = l.position)) with
  | none => false
  | some d =>
    let tail := l.pinOption n 3
    let role := d.lines.toNat.testBit (if tail then 4 else 5)
    let end1Faces := d.flags.toNat.testBit 5
    let outerIsEnd1 := if tail then !end1Faces else end1Faces
    decide (l.position ≠ 0) && role && (outerIsEnd1 == !l.pinOption n 4) && decide (l.get (pinKey n 19) = 1)

/-- R300, R355: the level that a pulse unit drives its field pins with: its output, and for a width below 20 µs the time to
20 µs after its edge. -/
def LaneState.pulseLevel (l : LaneState) (u : Nat) : Bool :=
  bitAt (l.get (key (0x4020 + u) 6)) 0
    || (decide (l.get (key (0x4020 + u) 4) < 20000)
      && decide (l.trainTime < ((l.time.pulseEnds.find? (fun e => e.1 = u)).map Prod.snd).getD 0))

/-- The value in force of a pin (R343, R365, R370): the image of an output or lamp output, the level of its pulse
unit, the end-role value. -/
def LaneState.valueInForce (l : LaneState) (n : Nat) : Bool :=
  match l.pinFunction n with
  | 1 => bitAt (l.get 0x510000) n
  | 2 => bitAt (l.get 0x510000) n
  | 3 => l.pulseLevel (l.get (pinKey n 7))
  | 5 => l.endRole n
  | _ => false

/-- R364: a learn that runs on a pin ends without completing. -/
def LaneState.abortLearn (l : LaneState) (n : Nat) : LaneState :=
  if l.pinBit n 4 then l.put (pinKey n 11) (withField (withBit (l.get (pinKey n 11)) 4 false) 2 2 3) else l

/-- R353: the driver switches on: a new inrush window for functions 1, 2 and 5, and one more switch-on; the
supervision of R360 and R362 begins anew. -/
def LaneState.driverOn (l : LaneState) (n : Nat) : LaneState :=
  let l := l.updPin n (fun p => { p with driver := true, low := 0, high := 0, opens := 0 })
  (l.setPinBit n 10 (decide (l.pinFunction n ≠ 3))).inc (pinKey n 20)

/-- The driver switches off: no inrush window, a learn that runs is not completed. -/
def LaneState.driverOff (l : LaneState) (n : Nat) : LaneState :=
  let l := l.updPin n (fun p => { p with driver := false, low := 0, high := 0, opens := 0 })
  ((l.setPinBit n 10 false).takeLimits).abortLearn n

/-- R356, R368: the driver of a pin follows its last command unless the pin is latched, the supply is
missing or the field side is without power. -/
def LaneState.settleDriver (l : LaneState) (n : Nat) : LaneState :=
  let p := l.pin n
  let on := p.cmd && isOutput (l.pinFunction n) && l.field.powered && !l.latched n && decide (l.supplyState < 2)
  if on && !p.driver then l.driverOn n
  else if !on && p.driver then l.driverOff n
  else l

/-- All 24 pins. -/
def LaneState.eachPin (l : LaneState) (f : LaneState → Nat → LaneState) : LaneState := (List.range 24).foldl f l

/-- R336, R340, R341, R343, R356: a valid frame from the lane carries the freeze flag and, unless it is set, the
command of each output pin: its value in force in possession, off otherwise. A latch ends when the value in
force is off. A field side that is held or in safe state does not take commands, and a frame without the run command, which
a lane sends until its self-test is complete, changes nothing (log 34: DEDUCED). -/
def LaneState.commandPins (l : LaneState) : LaneState :=
  if !l.ready then l else
  let l := l.updField (fun f => { f with frozen := l.poss.frozen })
  if !l.field.powered || !l.field.run || l.field.safe || l.poss.frozen then l
  else l.eachPin (fun l n =>
    let want := isOutput (l.pinFunction n) && l.valueInForce n
    let l := if want || !l.latched n then l else (l.setPinBit n 13 false).setPinBit n 12 false
    (l.updPin n (fun p => { p with cmd := want && decide (l.mode = .possession) })).settleDriver n)

/-- A lane whose isolation link is up carries its commands to the field side (R336). -/
def LaneState.drivePins (l : LaneState) : LaneState := if l.field.linkUp then l.commandPins else l

/-- R87, R338 to R340: the field watchdog expires: every output pin takes its safe state, a freeze ends, and the lane sends
run again only after its next start. -/
def LaneState.takeSafeStates (l : LaneState) : LaneState :=
  let l := { l.updField (fun f => { f with safe := true, report := true, frozen := false, fed := false, barred := true }) with
    poss := { l.poss with frozen := false } }
  (l.eachPin (fun l n =>
    if isOutput (l.pinFunction n) then
      (l.updPin n (fun p => { p with cmd := match l.get (pinKey n 5) with
        | 0 => false
        | 1 => true
        | _ => p.driver })).settleDriver n
    else l)).inc 0x510A00

/-- R338: the watchdog runs once the field side has left its held state, from each valid frame (log 34: DEDUCED). -/
def LaneState.watchdogExpires (l : LaneState) : LaneState :=
  if l.field.powered && l.field.run && l.field.fed then l.takeSafeStates else l

/-- R412: a field side block reset stops the isolation link; its watchdog expires. -/
def LaneState.fieldSafe (l : LaneState) : LaneState :=
  (l.updField (fun f => { f with linkUp := false })).watchdogExpires

/-- R343: a pin takes a function: its driver off, its FIFO empty, its filter begun anew, its dark lamp, overload
and stuck-on states clear. -/
def LaneState.changeFunction (l : LaneState) (n v : Nat) : LaneState :=
  let l := l.abortLearn n
  let p := l.pin n
  let l := (l.put (pinKey n 1) v).put (pinKey n 11) (clearMask (l.get (pinKey n 11)) 0xFC00)
  let l := (l.put 0x510C00 (withBit (l.get 0x510C00) n false)).takeLimits
  l.updPin n (fun _ => { Pin.off with
    raw := p.raw, filt := p.raw, begun := p.begun, volt := p.volt, edges := p.edges, cnt := if p.raw then l.get (pinKey n 3) else 0 })

/-- Registers that mirror what the field side holds. -/
def fieldRegister (k : Nat) : Bool :=
  let index := k / 256
  let sub := k % 256
  (0x5000 ≤ index && index ≤ 0x5017 && (sub = 11 || sub = 14 || sub = 15 || sub = 16))
    || index = 0x5103 || index = 0x5104 || index = 0x5107 || index = 0x510C

/-- A lane whose field side loses its power (R334): drivers off, captures, states and counts gone. -/
def LaneState.fieldUnpowered (l : LaneState) : LaneState :=
  { l with
    reg := l.reg.filter (fun e => !fieldRegister e.1 && e.1 / 256 ≠ 0x4030)
    field := .reset }.takeLimits

/-- R335: a field side that powers up is held, with every output off. -/
def LaneState.fieldPowered (l : LaneState) : LaneState :=
  if l.field.powered then l else { l.fieldUnpowered with field := { FieldState.reset with powered := true } }

/-- R352: a cab-active pin of lane x reads on. -/
def State.cabActive (s : State) (x : LaneId) : Bool :=
  (List.range 24).any (fun n => decide ((s.lane x).pinFunction n = 6) && ((s.lane x).pin n).filt)

/-- R93: the comparison begins: the values in force are taken as they stand. -/
def LaneState.watchOutputs (l : LaneState) : LaneState :=
  l.eachPin (fun l n => l.updPin n (fun p => { p with seen := l.valueInForce n, changedAt := none }))

/-- R93: the values in force that have changed since the comparison last saw them. -/
def LaneState.seeOutputs (l : LaneState) (now : Nat) : LaneState :=
  l.eachPin (fun l n =>
    if (l.pin n).seen = l.valueInForce n then l
    else l.updPin n (fun p => { p with seen := l.valueInForce n, changedAt := some now }))

/-- R93: a pin is left out for 1 ms after a change of its value in force, inside its inrush window, and while it is
latched. -/
def LaneState.leftOut (l : LaneState) (now n : Nat) : Bool :=
  l.latched n || l.pinBit n 10 || (match (l.pin n).changedAt with
    | none => false
    | some t => decide (now < t + 1000000))

/-- R358, R359: a pin reads measured on: its switch conducts, as its driver is on or as it passes current while off, and the
pin stands at no less than FSx+ - 2 V (log 34: DEDUCED). -/
def LaneState.measuredOn (l : LaneState) (n : Nat) : Bool :=
  ((l.pin n).driver || l.pinBit n 11) && decide (l.get 0x510400 * 10 ≤ (l.pin n).volt + 2000)

/-- R93, R359: the pins that read measured on against their value in force, as bits. -/
def LaneState.mismatches (l : LaneState) (now : Nat) : Nat :=
  ((List.range 24).filter (fun n =>
    isOutput (l.pinFunction n) && (l.valueInForce n != l.measuredOn n) && !l.leftOut now n)).foldl
      (fun m n => withBit m n true) 0

/-- R93: while the comparison runs, the mismatches of this moment join those seen before. -/
def State.compareOutputs (s : State) : State :=
  match s.arb.checking with
  | none => s
  | some x =>
    if (s.lane x).mode ≠ .possession then s else
    let s := s.upd x (fun l => l.seeOutputs s.clock)
    { s with arb := { s.arb with mismatch := s.arb.mismatch ||| (s.lane x).mismatches s.clock } }

/-! ### The car bus (R306 to R329) -/

/-- A register of transmit buffer t. -/
def txKey (t sub : Nat) : Nat := key (0x4500 + t) sub

/-- A transmit buffer is pending (R317). -/
def LaneState.txPending (l : LaneState) (t : Nat) : Bool := bitAt (l.get (txKey t 1)) 30

/-- A transmit buffer made pending or not. -/
def LaneState.setPending (l : LaneState) (t : Nat) (b : Bool) : LaneState :=
  l.put (txKey t 1) (withBit (l.get (txKey t 1)) 30 b)

/-- Collision count of a transmit buffer (R323). -/
def LaneState.collisions (l : LaneState) (t : Nat) : Nat := Machine.field (l.get (txKey t 1)) 20 5

/-- The collision count set. -/
def LaneState.setCollisions (l : LaneState) (t n : Nat) : LaneState := l.put (txKey t 1) (withField (l.get (txKey t 1)) 20 5 n)

/-- Bits of entry 1204h for the domains of a lane (R63): C, E1, E2, CB, FS, NV from the first bit (log 21: DEDUCED). -/
def domainBase : LaneId → Nat
  | .A => 2
  | .B => 8

/-- A block reset runs in a collector's lane or module (R412). -/
def Collector.resetting (c : Collector) (b : Block) : Bool :=
  c.resets.any (fun n => ((sourceRow n).map Source.block) == some b)

/-- A lane's timebase runs: no reset of it does (R412). -/
def LaneState.timeRuns (l : LaneState) : Bool := !l.coll.resetting .timebase

/-- The host link takes inputs and drives outputs: with HVIO present, not in HRST_N, and not during a block reset of the
host front, which acts on the link as HRST_N does (R19, R399, R400, R412). -/
def State.hostOn (s : State) : Bool :=
  s.awake && s.keeper.hvio && !s.keeper.hrstLow && !s.coll.resetting .hostFront

/-- A domain of lane x is off in its block reset (R408, R412). -/
def LaneState.domainOff (l : LaneState) (x : LaneId) (d : Nat) : Bool :=
  l.coll.domains.any (fun e => decide (e.2 = domainBase x + d))

/-- A port domain of the lane is off in its block reset: bits 3 and 4 of entry 1204h for lane A, 9 and 10 for lane B (R42,
R63, R412). -/
def LaneState.portPowerOff (l : LaneState) : Bool := l.coll.domains.any (fun e => decide (e.2 % 6 = 3 ∨ e.2 % 6 = 4))

/-- All 32 transmit buffers. -/
def LaneState.eachTx (l : LaneState) (f : LaneState → Nat → LaneState) : LaneState := (List.range 32).foldl f l

/-- The fields of entry 4401h: prescaler, tseg1, tseg2, SJW. -/
def nominalFields (v : Nat) : Nat × Nat × Nat × Nat := (field v 24 8 + 1, field v 16 8 + 1, field v 9 7 + 1, field v 2 7 + 1)

/-- 80 MHz cycles of one bit. -/
def bitCycles (f : Nat × Nat × Nat × Nat) : Nat := f.1 * (1 + f.2.1 + f.2.2.1)

/-- R310: triple sampling is set above 125 kbit/s, where it is ignored. -/
def tripleIgnored (nominal : Nat) : Bool := bitAt nominal 1 && decide (bitCycles (nominalFields nominal) < 640)

/-- R310: the sticky bit of a triple sampling that the nominal rate leaves without effect. -/
def LaneState.markTriple (l : LaneState) : LaneState :=
  if tripleIgnored (l.get 0x440100) then l.put 0x440500 (withBit (l.get 0x440500) 9 true) else l

/-- The car bus state after it starts again under the operation and Pattern in force (R309, R310, R412): nothing is
pending, and the controller integrates; an image that has not been sent since it changed is still to be sent (R316). -/
def LaneState.carBusStart (l : LaneState) : LaneState :=
  let l := (l.eachTx (fun l t => (l.setPending t false).setCollisions t 0)).markTriple
  { l with can := { CanState.reset with
    shadow := l.can.shadow, switchBeat := l.can.switchBeat, latches := l.can.latches, changed := l.can.changed
    listen := decide (l.get 0x440001 = 1) } }

/-- Counters of the car bus: errors, frames, buffers (R330, R331). -/
def carCounter (k : Nat) : Bool :=
  let index := k / 256
  let sub := k % 256
  index = 0x4406 || index = 0x4407 || (0x4500 ≤ index && index ≤ 0x451F && 3 ≤ sub && sub ≤ 6)
    || (0x4520 ≤ index && index ≤ 0x4561 && (sub = 4 || sub = 5))

/-- R412: a car bus block reset: pending buffers and counters are lost, and integration restarts. -/
def LaneState.carBusRestart (l : LaneState) : LaneState :=
  { l with reg := l.reg.filter (fun e => !carCounter e.1) }.carBusStart

/-- R314: new data is set in every receive and priority buffer that holds a frame. -/
def LaneState.renewBuffers (l : LaneState) : LaneState :=
  (List.range 66).foldl (fun l b =>
    let k := key (0x4520 + b) 1
    if l.get (key (0x4520 + b) 4) ≠ 0 ∨ l.get k ≠ 0 then l.put k (withBit (l.get k) 31 true) else l) l

/-! ### Lane start (R334, R335) -/

/-- The Pattern entries: rows, columns, column offsets, cells (R317). -/
def patternKey (k : Nat) : Bool :=
  let index := k / 256
  k = 0x440801 || k = 0x440802 || index = 0x4409 || (0x4410 ≤ index && index ≤ 0x444F)

/-- The shadow's value of a Pattern entry (R320). -/
def LaneState.shadowGet (l : LaneState) (k : Nat) : Nat := ((l.can.shadow.find? (fun e => e.1 = k)).map Prod.snd).getD (l.get k)

/-- A write of a Pattern entry into the shadow. -/
def LaneState.shadowPut (l : LaneState) (k v : Nat) : LaneState :=
  { l with can := { l.can with shadow := changeAt 0 k (fun _ => v) l.can.shadow } }

/-- A lane after a restart keeps its powered field side and what that holds, but for a disagreement, which the lanes find
(R351); a field side whose domain was off in a block reset that the restart ends has power again (R42). Pins whose function
a restore of defaults changes take it (R343, R475). Its car bus starts anew. -/
def LaneState.keepField (new old : LaneState) : LaneState :=
  let kept := old.reg.filter (fun e => fieldRegister e.1)
  let l := { new with field :=
    if old.field.powered then { old.field with linkUp := false, barred := false }
    else { FieldState.reset with powered := true } }
  let l := kept.foldl (fun l e => l.put e.1 e.2) l
  let l := l.eachPin (fun l n =>
    let l := l.setPinBit n 6 false
    if l.pinFunction n = old.pinFunction n then l else l.changeFunction n (l.pinFunction n))
  l.carBusStart

/-! ### Acquiring and releasing possession (R90, R242, R294, R301, R314, R361, R498) -/

/-- R242: new data is set in every subscription context that holds a front buffer. -/
def LaneState.renewSubscriptions (l : LaneState) : LaneState :=
  { l with flow := { l.flow with
    subs := l.flow.subs.map (fun e => (e.1, { e.2 with newData := e.2.newData || e.2.held })) } }

/-- The level of HTPULSE by a lane's own units: one that drives it has a pulse in progress (R300). -/
def LaneState.drivesHigh (l : LaneState) : Bool :=
  (List.range 8).any (fun u => bitAt l.time.pulseDrives u && bitAt (l.get (key (0x4020 + u) 6)) 0)

/-- R301: the level of HTPULSE while lane x acts: that of its units, or the level before while that is kept. -/
def State.pulseOf (s : State) (x : LaneId) : Bool :=
  if (s.lane x).time.pulseHeld then s.host.htPulse else (s.lane x).drivesHigh

/-- R301: the acquiring lane keeps the level that HTPULSE has until its own unit agrees, or has its next edge: the unit that
drives HTPULSE by its setting, or by the pulse in progress. -/
def LaneState.takePulse (l : LaneState) (level : Bool) : LaneState :=
  let unit (u : Nat) : Bool := decide (l.get (key (0x4020 + u) 5) = 1) || bitAt l.time.pulseDrives u
  { l with time := { l.time with
    pulseHeld := decide (level ≠ l.drivesHigh)
    pulseKept := (List.range 8).foldl (fun m u => withBit m u (unit u)) 0 } }

/-- What a lane does on acquiring possession beyond acting: data is new, the paired-lamp hold-off runs, its
pins are driven from the image, and in the master node it becomes the grandmaster lane. -/
def State.takeOver (s : State) (x : LaneId) : State :=
  let p := s.lane x.peer
  let master := decide ((s.lane x).get 0x400A00 = s.uid)
  let s := s.upd x (fun l =>
    let l := ((l.renewSubscriptions).renewBuffers).takePulse s.host.htPulse
    let l := l.updField (fun f => { f with holdOff := true })
    let l := l.drivePins
    if master && decide (2 ≤ l.timeState) then (l.put 0x400100 5).put 0x400200 (withBit (l.get 0x400200) 8 false) else l)
  if master && decide (p.timeState = 5) then s.upd x.peer (fun l => l.put 0x400100 4) else s

/-- R87, R341: the lane sends "all outputs off" with the freeze flag cleared. -/
def State.outputsOff (s : State) (x : LaneId) : State :=
  s.upd x LaneState.drivePins

/-- R483, R498: a service session ends, with a challenge that is still open; once authenticated, its requests fail until it
is authenticated anew. The numbers of the frames to the tool go on (log 47: DEDUCED). -/
def ServiceSession.close (k : ServiceSession) : ServiceSession :=
  if k.role.isSome then { ServiceSession.reset with ended := true, seqOut := k.seqOut } else { k with challenge := none }

/-- A lane without the transfer buffers of service sessions, which stand under UID 0. -/
def LaneState.dropServiceBuffers (l : LaneState) : LaneState :=
  { l with msg := { l.msg with buffers := l.msg.buffers.filter (fun t => decide (t.uid ≠ 0)) } }

/-- Every service session ends, with its transfers (R498) (log 37: DEDUCED). -/
def State.endServiceSessions (s : State) : State :=
  ({ s with sec := { s.sec with sessions := s.sec.sessions.map ServiceSession.close } }).updBoth
    LaneState.dropServiceBuffers

end Sys2Proof.Machine
end

