-- ==== Sys2Proof/Machine/Wire.lean ====
section
/-! DEFINITION. Frames octet by octet: addresses, the own-protocol header, directory and publication entries, Roll, message,
diagnostic, IEEE 1588 and PAUSE frames as a lane sends them, the reading of Roll frames, and the order in which the egress
queue serves them (R134 to R145, R154, R177, R178, R191, R192, R197, R212, R216, R249, R281 to R286). -/

namespace Sys2Proof.Machine

/-! ### Addresses (R143 to R146) -/

/-- A lane's unicast MAC address (R143), also entry 2211h. -/
def macAddress (uid : Nat) (x : LaneId) : Nat := (if x = .A then 0x02 else 0x06) * 2 ^ 40 + uid % 2 ^ 40

/-- R145: the flow group address of a publisher's flow. -/
def flowGroup (uid number : Nat) : Nat := 0x0346 * 2 ^ 32 + (uid % 2 ^ 22) * 1024 + number % 1024

/-- R146: the hash bin of an address. -/
def hashBin (address : Nat) : Nat := field (crc32 (toBytes 6 address)) 23 9

/-- A group address. -/
def isGroup (a : Nat) : Bool := decide (a / 2 ^ 40 % 2 = 1)

/-- A flow group address. -/
def isFlowGroup (a : Nat) : Bool := decide (a / 2 ^ 32 = 0x0346)

/-- 03-59-4C-00-00-00, -01 and -02 (R144). -/
def rollGroup : Nat := 0x03594C000000
def messageGroup : Nat := 0x03594C000001
def diagnosticGroup : Nat := 0x03594C000002

/-- 01-1B-19-00-00-00 and 01-80-C2-00-00-0E. -/
def timeGroup : Nat := 0x011B19000000
def delayGroup : Nat := 0x0180C200000E

/-- 01-80-C2-00-00-01. -/
def pauseGroup : Nat := 0x0180C2000001

/-! ### The own-protocol header (R137 to R139) -/

/-- Byte time in ns of a rate code (R212). -/
def byteTime : Nat → Nat
  | 0 => 8
  | 1 => 16
  | 2 => 32
  | _ => 80

/-- R137 to R139: an own-protocol header. -/
def ownHeader (cls flags pos stamp number seq len : Nat) : List Byte :=
  let h := toBytes 1 (16 + cls) ++ toBytes 1 flags ++ toBytes 2 pos ++ toBytes 4 stamp ++ toBytes 2 number
    ++ toBytes 2 seq ++ toBytes 2 len
  h ++ toBytes 2 (crc16 h)

/-- R138: the flags of a frame that a lane sends. -/
def headerFlags (x : LaneId) (active rollTime last : Bool) : Nat :=
  b2n active * 128 + laneBit x * 64 + b2n rollTime * 32 + b2n last * 16

/-! ### Directory and publication entries (R191, R192, R216) -/

/-- The 32 bytes of a directory entry (R191). -/
def entryBytes (d : DirEntry) : List Byte :=
  toBytes 2 d.pos.toNat ++ toBytes 8 d.uid.toNat ++ toBytes 4 d.vehicle.toNat ++ toBytes 2 d.vpos.toNat
    ++ [d.flags, d.lines, d.quality, d.rate1, d.rate2, d.supp1, d.supp2, 0]
    ++ toBytes 4 d.digest.toNat ++ toBytes 2 d.rejected.toNat ++ [0, 0]

/-- The stamped part of an entry: bytes 0 to 27 (R193). -/
def stampedPart (d : DirEntry) : List Byte := (entryBytes d).take 28

/-- Byte i of a byte string, 0 beyond its end. -/
def byteAt (b : List Byte) (i : Nat) : Byte := b.getD i 0

/-- The entry that 28 or 32 bytes spell (R191). -/
def entryOf (b : List Byte) : DirEntry where
  pos := BitVec.ofNat 16 (numAt b 0 2)
  uid := BitVec.ofNat 64 (numAt b 2 8)
  vehicle := BitVec.ofNat 32 (numAt b 10 4)
  vpos := BitVec.ofNat 16 (numAt b 14 2)
  flags := byteAt b 16
  lines := byteAt b 17
  quality := byteAt b 18
  rate1 := byteAt b 19
  rate2 := byteAt b 20
  supp1 := byteAt b 21
  supp2 := byteAt b 22
  digest := BitVec.ofNat 32 (numAt b 24 4)
  rejected := BitVec.ofNat 16 (numAt b 28 2)

/-- The reserved fields of an entry are 0: byte 16 [0], byte 17 [3:0], bytes 23, 30 and 31 (R11, R191, R192). -/
def entryReservedOk (b : List Byte) : Bool :=
  decide ((byteAt b 16).toNat % 2 = 0) && decide ((byteAt b 17).toNat % 16 = 0) && decide (byteAt b 23 = 0)
    && decide (byteAt b 30 = 0) && decide (byteAt b 31 = 0)

/-- The 8 bytes of a publication list entry (R216). -/
def pubBytes (p : PubEntry) : List Byte :=
  toBytes 2 p.number.toNat ++ [BitVec.ofNat 8 (p.period.toNat * 16 + p.priority.toNat), 0]
    ++ toBytes 2 p.size.toNat ++ toBytes 2 p.held.toNat

/-- The publication that 8 bytes spell. -/
def pubOf (b : List Byte) : PubEntry where
  number := BitVec.ofNat 16 (numAt b 0 2)
  period := BitVec.ofNat 4 ((byteAt b 2).toNat / 16)
  priority := BitVec.ofNat 2 ((byteAt b 2).toNat % 4)
  size := BitVec.ofNat 16 (numAt b 4 2)
  held := BitVec.ofNat 16 (numAt b 6 2)

/-- R216: the fields of a publication entry have values that it allows, and its reserved fields are 0. -/
def pubOk (b : List Byte) : Bool :=
  decide (numAt b 0 2 < 1024) && decide ((byteAt b 2).toNat / 16 ≤ 10) && decide ((byteAt b 2).toNat % 16 < 4)
    && decide (byteAt b 3 = 0) && decide (1 ≤ numAt b 4 2) && decide (numAt b 4 2 ≤ 1400)
    && decide (numAt b 6 2 < 2 ^ ((byteAt b 2).toNat / 16) ∨ numAt b 6 2 = 0xFFFF)

/-! ### Roll frames (R177, R178, R197) -/

/-- Number of frames of a Close set: ceil(N / 8) (R197). -/
def closeFrames (n : Nat) : Nat := (n + 7) / 8

/-- Code of a Roll frame's kind (R177). -/
def rollKind : RollBody → Nat
  | .start _ => 1
  | .discovery _ _ => 2
  | .want _ _ => 3
  | .list _ _ _ => 4
  | .close _ _ _ _ => 5
  | .malformed => 0

/-- The position map of a Want: position p is bit 7 − ((p − 1) mod 8) of byte (p − 1) div 8 (R178). -/
def positionMap (ps : List Nat) : List Byte :=
  (List.range 64).map (fun i =>
    BitVec.ofNat 8 ((List.range 8).foldl (fun m b => withBit m (7 - b) (ps.contains (8 * i + b + 1))) 0))

/-- The positions that a map names, in rising order. -/
def positionsOf (b : List Byte) : List Nat :=
  (List.range 512).filterMap (fun i => if bitAt (byteAt b (i / 8)).toNat (7 - i % 8) then some (i + 1) else none)

/-- The bytes from 12 on of a Roll frame's payload (R178, R197). -/
def rollBodyBytes : RollBody → List Byte
  | .start c => c :: List.replicate 3 0
  | .discovery total es => toBytes 1 es.length ++ [0] ++ toBytes 2 total ++ es.flatMap entryBytes
  | .want stamp ps => toBytes 4 stamp.toNat ++ positionMap ps
  | .list digest total es => toBytes 4 digest.toNat ++ toBytes 2 es.length ++ toBytes 2 total ++ es.flatMap pubBytes
  | .close c first n es =>
    toBytes 2 c.members.toNat ++ toBytes 2 c.vehicles.toNat ++ toBytes 4 c.stamp.toNat ++ [c.rate1, c.rate2]
      ++ toBytes 2 c.flags.toNat ++ toBytes 8 c.switchBeat.toNat ++ toBytes 2 c.master.toNat ++ toBytes 2 first
      ++ toBytes 1 es.length ++ toBytes 1 n ++ [0, 0] ++ es.flatMap stampedPart
  | .malformed => []

/-- The payload of a Roll frame: the subheader of R177 and the body. -/
def rollBytes (f : RollFrame) : List Byte :=
  toBytes 1 (rollKind f.body) ++ toBytes 1 (b2n f.last * 128) ++ toBytes 2 f.index.toNat ++ toBytes 8 f.origin.toNat
    ++ rollBodyBytes f.body

/-- Consecutive pieces of n bytes each. -/
def pieces (n : Nat) : Nat → List Byte → List (List Byte)
  | 0, _ => []
  | k + 1, b => b.take n :: pieces n k (b.drop n)

/-- The close fields of a Close frame's payload (R197). -/
def closeFieldsOf (b : List Byte) : CloseFields where
  members := BitVec.ofNat 16 (numAt b 12 2)
  vehicles := BitVec.ofNat 16 (numAt b 14 2)
  stamp := BitVec.ofNat 32 (numAt b 16 4)
  rate1 := byteAt b 20
  rate2 := byteAt b 21
  flags := BitVec.ofNat 16 (numAt b 22 2)
  switchBeat := BitVec.ofNat 64 (numAt b 24 8)
  master := BitVec.ofNat 16 (numAt b 32 2)

/-- The body that a Roll frame's payload spells: `malformed` where the kind is reserved, the length does not match the kind,
or a reserved field is not 0 (R11, R177, R178). -/
def rollBodyOf (b : List Byte) : RollBody :=
  match numAt b 0 1 with
  | 1 => if b.length = 16 ∧ numAt b 13 3 = 0 then .start (byteAt b 12) else .malformed
  | 2 =>
    let n := numAt b 12 1
    let es := pieces 32 n (b.drop 16)
    if b.length = 16 + 32 * n ∧ byteAt b 13 = 0 ∧ es.all entryReservedOk then .discovery (numAt b 14 2) (es.map entryOf)
    else .malformed
  | 3 => if b.length = 80 then .want (BitVec.ofNat 32 (numAt b 12 4)) (positionsOf (b.drop 16)) else .malformed
  | 4 =>
    let m := numAt b 16 2
    let es := pieces 8 m (b.drop 20)
    if b.length = 20 + 8 * m ∧ es.all pubOk then .list (BitVec.ofNat 32 (numAt b 12 4)) (numAt b 18 2) (es.map pubOf)
    else .malformed
  | 5 =>
    let n := numAt b 36 1
    let es := pieces 28 n (b.drop 40)
    if b.length = 40 + 28 * n ∧ numAt b 38 2 = 0 ∧ es.all entryReservedOk then
      .close (closeFieldsOf b) (numAt b 34 2) (numAt b 37 1) (es.map entryOf)
    else .malformed
  | _ => .malformed

/-- The Roll frame that an epoch and a payload spell (R177). -/
def rollOf (epoch : BitVec 16) (b : List Byte) : RollFrame where
  epoch := epoch
  last := bitAt (byteAt b 1).toNat 7
  index := BitVec.ofNat 16 (numAt b 2 2)
  origin := BitVec.ofNat 64 (numAt b 4 8)
  body := if 12 ≤ b.length ∧ (byteAt b 1).toNat % 128 = 0 then rollBodyOf b else .malformed

/-! ### Message and IEEE 1588 frames (R249, R281 to R286) -/

/-- The payload of a message frame: subheader and data (R249). -/
def msgBytes (m : MsgFrame) : List Byte :=
  [m.kind, m.op, m.selection, m.attempt] ++ toBytes 8 m.target.toNat ++ toBytes 4 m.transaction.toNat
    ++ toBytes 4 m.object.toNat ++ toBytes 4 m.offset.toNat ++ toBytes 4 m.length.toNat ++ toBytes 4 m.status.toNat ++ m.data

/-- The 34-byte header of a profile message (R281, R282): 9-bit and flag fields that the profile sets to 0 stand so. -/
def ptpHeader (type len : Nat) (correction : Int) (clock port seqId control interval : Nat) : List Byte :=
  toBytes 1 type ++ [0x12] ++ toBytes 2 len ++ [0, 0, 0, 0] ++ toBytes 8 (ofSigned 64 correction) ++ toBytes 4 0
    ++ toBytes 8 clock ++ toBytes 2 port ++ toBytes 2 seqId ++ toBytes 1 control ++ toBytes 1 interval

/-- A train time as an IEEE 1588 timestamp: seconds in 48 bits, nanoseconds in 32 (R283). -/
def ptpTime (t : Nat) : List Byte := toBytes 6 (t / 1000000000) ++ toBytes 4 (t % 1000000000)

/-- A Sync after its EtherType (R282, R283): correctionField in ns × 2^16. -/
def syncBytes (m : SyncMsg) : List Byte :=
  ptpHeader 0 60 m.correction m.clock.toNat m.port.toNat m.seqId.toNat 0 0xFA ++ ptpTime m.origin.toNat
    ++ toBytes 2 0x2000 ++ toBytes 2 12 ++ toBytes 8 m.domain.toNat ++ [m.quality] ++ toBytes 1 (b2n m.candidate * 128)
    ++ toBytes 2 m.epoch.toNat

/-! ### The frame on the wire (R134, R135) -/

/-- Octets zero-padded to a number. -/
def padTo (n : Nat) (b : List Byte) : List Byte := b ++ List.replicate (n - b.length) 0

/-- An own-protocol frame of class 0, 2 or 3 up to its FCS, zero-padded to 64 bytes with it (R134, R135). -/
def ownFrame (dest source ether cls flags pos stamp number seq : Nat) (payload : List Byte) : List Byte :=
  padTo 60 (toBytes 6 dest ++ toBytes 6 source ++ toBytes 2 ether ++ ownHeader cls flags pos stamp number seq payload.length
    ++ payload)

/-- A Pdelay_Resp with its turnaround (R281, R282, R286). -/
def answerBytes (uid : Nat) (x : LaneId) (port seqId : BitVec 16) (turnaround : Nat) (clock : BitVec 64) (asker : BitVec 16) :
    List Byte :=
  toBytes 6 delayGroup ++ toBytes 6 (macAddress uid x) ++ toBytes 2 0x88F7
    ++ ptpHeader 3 54 (turnaround * 65536) uid port.toNat seqId.toNat 5 0x7F ++ List.replicate 10 0
    ++ toBytes 8 clock.toNat ++ toBytes 2 asker.toNat

/-- The octets of a frame, from the destination address to the last before the FCS, as lane x of the node `uid` sends
it, with its possession and its Roll at that moment (R134, R138, R170). -/
def outBytes (uid : Nat) (x : LaneId) (active rollTime : Bool) : OutFrame → List Byte
  | .roll h f => ownFrame h.dest.toNat (macAddress uid x) 0x88B5 0 (headerFlags x active rollTime false) h.pos.toNat
      h.stamp.toNat f.epoch.toNat h.seq.toNat (rollBytes f)
  | .msg dest m => ownFrame dest.toNat (macAddress uid x) 0x88B5 2 (headerFlags x active rollTime m.lastSeg) m.srcPos.toNat
      m.stamp.toNat m.session.toNat m.seq.toNat (msgBytes m)
  | .echo h six ident data => ownFrame h.dest.toNat (macAddress uid x) (if six then 0x88B6 else 0x88B5) 3
      (headerFlags x active rollTime false) h.pos.toNat h.stamp.toNat ident.toNat h.seq.toNat data
  | .sync m => toBytes 6 timeGroup ++ toBytes 6 m.source.toNat ++ toBytes 2 0x88F7 ++ syncBytes m
  | .syncOn m _ => toBytes 6 timeGroup ++ toBytes 6 m.source.toNat ++ toBytes 2 0x88F7 ++ syncBytes m
  | .pdelayReq port seqId => toBytes 6 delayGroup ++ toBytes 6 (macAddress uid x) ++ toBytes 2 0x88F7
      ++ ptpHeader 2 54 0 uid port.toNat seqId.toNat 5 0 ++ List.replicate 20 0
  | .pdelayOn port seqId _ clock asker => answerBytes uid x port seqId 0 clock asker
  | .pdelayResp port seqId turnaround clock asker => answerBytes uid x port seqId turnaround clock asker
  | .pause quanta => padTo 60 (toBytes 6 pauseGroup ++ toBytes 6 (macAddress uid x) ++ toBytes 2 0x8808 ++ toBytes 2 1
      ++ toBytes 2 quanta.toNat)
  | .forwarded f => f.bytes

/-! ### Frame lengths (R134, R135, R178, R249, R283) -/

/-- Payload length of a Roll frame (R178). -/
def rollPayload : RollBody → Nat
  | .start _ => 16
  | .discovery _ es => 16 + 32 * es.length
  | .want _ _ => 80
  | .list _ _ es => 20 + 8 * es.length
  | .close _ _ _ es => 40 + 28 * es.length
  | .malformed => 12

/-- Length of an own-protocol frame with a payload of p bytes, padded to 64 bytes (R135). -/
def paddedLength (p : Nat) : Nat := max 64 (34 + p)

/-- Frame length from the destination address to the FCS inclusive. -/
def frameLength : OutFrame → Nat
  | .roll _ f => paddedLength (rollPayload f.body)
  | .msg _ f => paddedLength (32 + f.data.length)
  | .echo _ _ _ d => paddedLength d.length
  | .sync _ => 78
  | .syncOn _ _ => 78
  | .pdelayReq _ _ => 72
  | .pdelayOn _ _ _ _ _ => 72
  | .pdelayResp _ _ _ _ _ => 72
  | .pause _ => 64
  | .forwarded f => f.bytes.length + 4

/-! ### The order of the egress queue (R154, R160) -/

/-- Kinds in the order in which the queue serves them (R154). -/
inductive SendKind where
  | pause
  | time
  | roll
  | message
  | echo
deriving DecidableEq, Repr

/-- The kind of a queued frame; a forwarded one by its EtherType and class. -/
def sendKind : OutFrame → SendKind
  | .roll _ _ => .roll
  | .msg _ _ => .message
  | .echo _ _ _ _ => .echo
  | .sync _ => .time
  | .syncOn _ _ => .time
  | .pdelayReq _ _ => .time
  | .pdelayOn _ _ _ _ _ => .time
  | .pdelayResp _ _ _ _ _ => .time
  | .pause _ => .pause
  | .forwarded f =>
    if numAt f.bytes 12 2 = 0x88F7 then .time
    else if numAt f.bytes 12 2 = 0x88B5 ∧ numAt f.bytes 14 1 % 16 = 2 then .message
    else .echo

/-- Service rank of a kind: smaller goes first. -/
def kindRank : SendKind → Nat
  | .pause => 0
  | .time => 1
  | .roll => 2
  | .message => 3
  | .echo => 4

/-- Kinds that a PAUSE holds back (R160). -/
def pausable : SendKind → Bool
  | .message => true
  | .echo => true
  | _ => false

/-- Frames that R60 step 1 stops: messages and Roll frames that the lane itself sends. -/
def stopsForSleep : OutFrame → Bool
  | .roll _ _ => true
  | .msg _ _ => true
  | _ => false

/-- Bytes waiting in an egress queue (entry 2200h). -/
def Port.fill (p : Port) : Nat := (p.queue.map frameLength).foldl (· + ·) 0

/-! ### Port counters (R157 to R159) -/

/-- A port counter advances by n modulo 2^32; when its bit 31 changes from 0 to 1, its half-range bit is set. -/
def LaneState.countPortBy (l : LaneState) (e : EndId) (index n : Nat) : LaneState :=
  let k := key index (endSub e)
  let old := l.get k
  let l := l.put k (old + n)
  if (old + 2 ^ 31) / 2 ^ 32 < (old + n + 2 ^ 31) / 2 ^ 32 then
    let h := key 0x21F0 (endSub e)
    l.put h (withBit (l.get h) (index - 0x2100) true)
  else l

/-- A port counter advances by one. -/
def LaneState.countPort (l : LaneState) (e : EndId) (index : Nat) : LaneState := l.countPortBy e index 1

/-- The drop counter of a reason (R157). -/
def LaneState.countDrop (l : LaneState) (e : EndId) (code : Nat) : LaneState := l.countPort e (0x2120 + code)

/-- R148: the frames that wait at an egress are discarded there as "no egress". -/
def LaneState.flushEgress (l : LaneState) (e : EndId) : LaneState :=
  let n := (l.port e).queue.length
  let l := l.updPort e (fun p => { p with queue := [] })
  if n = 0 then l else l.countPortBy e 0x2135 n

/-! ### The RS-FEC window (R125) -/

/-- The time of 10^10 bits at a rate code, in ns. -/
def fecWindowTime (rate : Nat) : Nat := 10 ^ 10 * (byteTime rate / 8)

/-- R125: n more uncorrected RS-FEC frames at a time; windows of 10^10 received bits follow one another from the
link-up on (log 63: DEDUCED). -/
def Port.countUncorrected (p : Port) (now n : Nat) : Port :=
  let w := fecWindowTime p.rate
  if now < p.fecWindow + w then { p with fecErrors := p.fecErrors + n }
  else { p with fecErrors := n, fecWindow := now - (now - p.fecWindow) % w }

end Sys2Proof.Machine
end

