-- ==== Sys2Proof/Machine/Address.lean ====
section
/-! DEFINITION. The host link's accesses and what a possession change and a reset do to them: the address map, byte
order, the response that ends an access, reads with a side effect at a release (R90, R374 to R390, R399). -/

namespace Sys2Proof

/-- An access that reads: opcodes 01h and 05h (R374). -/
def Machine.HostReq.reads (r : Machine.HostReq) : Bool := decide (r.op = 1 ∨ r.op = 5)

/-- A posted write: opcodes 02h and 04h (R384). -/
def Machine.HostReq.isPosted (r : Machine.HostReq) : Bool := decide (r.op = 2 ∨ r.op = 4)

/-- An opcode of a locked sequence (R395). -/
def Machine.HostReq.locks (r : Machine.HostReq) : Bool := decide (5 ≤ r.op ∧ r.op ≤ 7)

/-- The words that an access names (R375): one under WRM, whose count field holds byte enables. -/
def Machine.HostReq.words (r : Machine.HostReq) : Nat := if r.op = 4 then 1 else r.count + 1

end Sys2Proof

namespace Sys2Proof.Machine

/-! ### The address map (R380, R387) -/

/-- A register of window w. -/
def winKey (w sub : Nat) : Nat := key (0x5800 + w) sub

/-- A window's state. -/
def State.win (s : State) (w : Nat) : Win := lookupD .idle w s.host.wins

/-- A window's state changed. -/
def State.updWin (s : State) (w : Nat) (f : Win → Win) : State :=
  { s with host := { s.host with wins := changeAt .idle w f s.host.wins } }

/-- The regions of the host address map. -/
inductive Region where
  | dictionary (sel : Sel)
  | aperture (c : Nat)
  | exchange
  | flows
  | timebase
  | window (w : Nat)
  | mailbox
deriving DecidableEq, Repr

/-- R380, R389: the region of an address, with its first address and the address after its last. -/
def State.region (s : State) (a : Nat) : Option (Region × Nat × Nat) :=
  if a < 0x4000000 then some (.dictionary (.lane .A), 0, 0x4000000)
  else if a < 0x8000000 then some (.dictionary (.lane .B), 0x4000000, 0x8000000)
  else if a < 0xC000000 then some (.dictionary .acting, 0x8000000, 0xC000000)
  else if a < 0xC100000 then
    let c := (a - 0xC000000) / 65536
    some (.aperture c, 0xC000000 + c * 65536, 0xC000000 + (c + 1) * 65536)
  else if 0x10000000 ≤ a ∧ a < 0x10100000 then some (.exchange, 0x10000000, 0x10100000)
  else if 0x11000000 ≤ a ∧ a < 0x11200000 then some (.flows, 0x11000000, 0x11200000)
  else if 0x18000000 ≤ a ∧ a < 0x18000008 then some (.timebase, 0x18000000, 0x18000008)
  else if 0x20000000 ≤ a ∧ a < 0x30000000 then
    let w := (a - 0x20000000) / 0x1000000
    let base := 0x20000000 + w * 0x1000000
    let size := if s.mget (winKey w 6) = 1 then 0x1000000 else 0x100000
    if a < base + size then some (.window w, base, base + size) else none
  else if 0x30000000 ≤ a ∧ a < 0x30001040 then some (.mailbox, 0x30000000, 0x30001040)
  else none

/-- The path of an address: 0 to 15 a window, 16 the local path. -/
def pathOf (a : Nat) : Nat := if 0x20000000 ≤ a ∧ a < 0x30000000 then (a - 0x20000000) / 0x1000000 else 16

/-- R387: how many of an access's words lie before the next 4 KiB boundary and the end of the region. -/
def State.wordsInside (s : State) (r : HostReq) : Nat :=
  match s.region r.addr with
  | none => 0
  | some (_, _, stop) => min r.words ((min stop ((r.addr / 4096 + 1) * 4096) - r.addr) / 4)

/-- R390: the byte lanes of window w are data-invariant. -/
def State.dataInvariant (s : State) (w : Nat) : Bool := decide (s.mget (winKey w 8) = 1)

/-- R382, R390: the four bytes of a word in target order. -/
def wordBytes (invariant : Bool) (v : Nat) : List Byte := if invariant then (toBytes 4 v).reverse else toBytes 4 v

/-- R382, R390: the word of four bytes in target order; bytes that are missing read 0. -/
def bytesWord (invariant : Bool) (l : List Byte) : Nat :=
  let l := (l ++ List.replicate 4 0).take 4
  fromBytes (if invariant then l.reverse else l)

/-- The words of a byte string. -/
def wordsOf (invariant : Bool) (n : Nat) (l : List Byte) : List Nat :=
  (List.range n).map (fun i => bytesWord invariant (slice l (4 * i) 4))

/-! ### Abort codes (R479) -/

/-- unknown entry -/
def abUnknown : Nat := 0x01000001
/-- read only -/
def abReadOnly : Nat := 0x01000002
/-- write only -/
def abWriteOnly : Nat := 0x01000003
/-- access denied -/
def abDenied : Nat := 0x01000004
/-- value out of range -/
def abRange : Nat := 0x01000005
/-- too long -/
def abTooLong : Nat := 0x01000006
/-- not in this state -/
def abState : Nat := 0x02000001
/-- lane not available -/
def abLane : Nat := 0x02000002
/-- interrupted by changeover -/
def abChangeover : Nat := 0x02000003
/-- busy -/
def abBusy : Nat := 0x02000004
/-- lock lost -/
def abLockLost : Nat := 0x02000005
/-- unknown target -/
def abTarget : Nat := 0x03000001
/-- topology changed -/
def abTopology : Nat := 0x03000002
/-- no response -/
def abNoResponse : Nat := 0x03000003
/-- prefetch refused -/
def abPrefetch : Nat := 0x03000004
/-- address out of range -/
def abAddress : Nat := 0x03000005
/-- mailbox full -/
def abMailbox : Nat := 0x03000006
/-- signature invalid -/
def abSignature : Nat := 0x04000001
/-- image mismatch -/
def abMismatch : Nat := 0x04000002
/-- incompatible image -/
def abIncompatible : Nat := 0x04000003
/-- image format error -/
def abFormat : Nat := 0x04000004
/-- image rollback -/
def abRollback : Nat := 0x04000005
/-- authentication failed -/
def abAuth : Nat := 0x04000006

/-! ### Accesses in progress (R376, R384) -/

/-- The first entry of a path in the posted queue. -/
def State.firstOf (s : State) (path : Nat) : Option HostReq := (s.host.posted.find? (fun e => e.1 = path)).map Prod.snd

/-- The held access ends: HWAIT falls with a response of this status, word count, data and abort code. With HVIO absent
the outputs are high-impedance, and the host sees none of it (R19, R376, R377). -/
def State.respond (s : State) (status words : Nat) (data : List Nat) (code : Nat) : State :=
  { s with host := { s.host with
    held := none, answering := s.keeper.hvio
    resp := if s.keeper.hvio then some ⟨status, words, data, code⟩ else s.host.resp } }

/-- R384: a write that fails after its answer. -/
def State.lateError (s : State) (path addr code : Nat) : State :=
  let t := (s.lane (s.holder.getD .A)).trainTime % 2 ^ 64
  let s := (((s.mput 0x590006 addr).mput 0x590007 code).mput 0x590008 t).mput 0x590009 path
  let s := s.minc 0x590005
  let s := s.mput 0x590003 (withBit (s.mget 0x590003) 1 true)
  if path < 16 then s.minc (winKey path 15) else s

/-- The first entry of a path leaves the posted queue. -/
def dropPath (path : Nat) : List (Nat × HostReq) → List (Nat × HostReq)
  | [] => []
  | e :: t => if e.1 = path then t else e :: dropPath path t

/-- R385: an abandoned SYNC with nothing before it is complete. -/
def clearSyncs : List (Nat × HostReq) → List (Nat × HostReq)
  | [] => []
  | e :: t => if e.1 = 17 then clearSyncs t else e :: t

/-- The first entry of a path has executed. -/
def State.popPath (s : State) (path : Nat) : State :=
  { s with host := { s.host with posted := clearSyncs (dropPath path s.host.posted) } }

/-- R379, R384: an access from the posted queue has ended with a code: a write or a lock operation that failed is a
late error, an abandoned read is discarded. -/
def State.queuedDone (s : State) (path : Nat) (r : HostReq) (code : Nat) : State :=
  let s := s.popPath path
  if code = 0 ∨ r.op = 1 then s else s.lateError path r.addr code

/-! ### Reads with a side effect (R90, R476) -/

/-- The side-effect attribute of an entry that a lane serves. -/
def sideOf (index sub : Nat) : Bool := ((entryRow index sub).map (fun w => w.side && w.scope ≠ .module)).getD false

/-- Index and subindex of a slot address in a dictionary region. -/
def slotOf (addr : Nat) : Nat × Nat := (addr % 0x4000000 / 1024, addr % 1024 / 4)

/-- The side effect of each word that a read of a dictionary region names; the slots of a capture head have none (R383). -/
def HostReq.sides (r : HostReq) : List Bool :=
  (List.range r.words).map (fun i => let e := slotOf (r.addr + 4 * i); sideOf e.1 e.2 && decide (e.1 < 0x5000))

/-- The entry that the aperture channel at an address is bound to, if it is one of the acting lane (R388). -/
def State.boundActing (s : State) (addr : Nat) : Option (Nat × Nat) :=
  let b := s.mget (key 0x5900 (0x10 + (addr - 0xC000000) / 65536))
  if Machine.field b 6 2 = 1 ∨ Machine.field b 6 2 = 2 then none else some (b / 65536, b / 256 % 256)

/-- A read at the lane in possession that names an entry with the side-effect attribute: opcode 01h or 05h of the acting
dictionary region, or of an aperture channel (R90). -/
def State.sideEffectRead (s : State) (r : HostReq) : Bool :=
  r.reads &&
    (match s.region r.addr with
      | some (.dictionary .acting, _, _) => r.sides.any id
      | some (.aperture _, _, _) => ((s.boundActing r.addr).map (fun e => sideOf e.1 e.2)).getD false
      | _ => false)

/-- R349: the 16 bytes of a capture record. -/
def captureBytes (c : Capture) : List Byte :=
  toBytes 8 c.time ++ toBytes 1 c.flags ++ [0] ++ toBytes 2 c.edge ++ toBytes 4 0

/-- R350: what a content read of a pin's capture head answers: the oldest record, or zeros. -/
def Pin.head (p : Pin) : List Byte :=
  match p.fifo with
  | [] => List.replicate 16 0
  | c :: _ => captureBytes c

/-- The side effect of a read of an entry (R163, R168, R350): the fill marks begin anew, the capture head is removed. -/
def LaneState.readEffect (l : LaneState) (index sub : Nat) : LaneState :=
  if index = 0x2201 ∧ 1 ≤ sub ∧ sub ≤ 2 then l.put (key 0x2201 sub) (l.port (if sub = 2 then .e2 else .e1)).fill
  else if index = 0x2207 then l.put 0x220700 (l.get 0x220600)
  else if 0x5000 ≤ index ∧ index ≤ 0x5017 then l.updPin (index - 0x5000) (fun p => { p with fifo := p.fifo.drop 1 })
  else l

/-! ### Locks of the local host link (R265, R266) -/

/-- Operations on entries. -/
def entryOp (op : Nat) : Bool := decide (op = 1 ∨ op = 2 ∨ op = 7 ∨ op = 8 ∨ op = 10)

/-- The lock on a granule (log 44: DEDUCED). -/
def LaneState.lockOn (l : LaneState) (entry : Bool) (granule : Nat) : Option Lock :=
  l.msg.locks.find? (fun k => decide (k.entry = entry ∧ k.granule = granule))

/-- A locker's lock is granted: it holds no other (R266). -/
def LaneState.grantLock (l : LaneState) (k : Lock) : LaneState :=
  let others := l.msg.locks.filter (fun q => !decide (q.uid = k.uid ∧ q.session = k.session))
  { l with msg := { l.msg with locks := others ++ [k] } }

/-- R266: what a lock says to a locked operation of a locker: 0 to go on, "busy" or "lock lost". -/
def LaneState.lockCode (l : LaneState) (op uid ses granule : Nat) : Nat :=
  match l.lockOn (entryOp op) granule with
  | some k => if k.uid = uid ∧ k.session = ses then 0 else abBusy
  | none =>
    if op = 5 ∨ op = 7 then
      (if 64 ≤ (l.msg.locks.filter (fun q => !decide (q.uid = uid ∧ q.session = ses))).length then abBusy else 0)
    else if op = 6 ∨ op = 8 then abLockLost
    else 0

/-- The mirror carries what the lane in possession does to its peer (log 44: DEDUCED). -/
def State.mirrorsTo (s : State) (x : LaneId) : Bool := (s.lane x.peer).ready && (s.lane x).poss.mirrorUp

/-- A change at lane x, and over the mirror at its peer (log 44: DEDUCED). -/
def State.updMirrored (s : State) (x : LaneId) (f : LaneState → LaneState) : State :=
  let both := s.mirrorsTo x
  let s := s.upd x f
  if both then s.upd x.peer f else s

/-! ### Release (R90, R498) -/

/-- R90: the releasing lane completes, within its release window, a read of entries with the side-effect attribute that
it has begun: the state, the words read and the code. A locked one takes its lock (R266); the aperture names an OCTETS
entry, and refuses another, which keeps what it holds (R388, R480). -/
def State.finishRead (s : State) (x : LaneId) (r : HostReq) : State × List Nat × Nat :=
  let l := s.lane x
  let n := s.wordsInside r
  let short := if n < r.words then abAddress else 0
  match s.region r.addr with
  | some (.aperture _, base, _) =>
    match (s.boundActing r.addr).filter (fun e => decide (0x5000 ≤ e.1)) with
    | some (index, sub) =>
      (s.upd x (fun l => l.readEffect index sub), wordsOf false n ((l.pin (index - 0x5000)).head.drop (r.addr - base)), short)
    | none => (s, [], abRange)
  | _ =>
    let (index, sub) := slotOf r.addr
    let g := index * 16 + sub / 16
    let c := if r.op = 5 then l.lockCode 7 s.uid 65535 g else 0
    if c ≠ 0 then (s, [], c)
    else
      let es := (List.range n).map (fun i => slotOf (r.addr + 4 * i))
      let d := es.map (fun e => l.get (key e.1 e.2))
      let s := s.upd x (fun l => es.foldl (fun l e => l.readEffect e.1 e.2) l)
      (if r.op = 5 then s.updMirrored x (fun l => l.grantLock ⟨s.uid, 65535, true, g⟩) else s, d, short)

/-- R90: what the release does with a read that has begun: none where the next holder serves it. A burst that names other
entries too is served whole by the next holder (log 37: DEDUCED). -/
def State.readAtRelease (s : State) (x : LaneId) (silent : Bool) (r : HostReq) : Option (State × List Nat × Nat) :=
  if !s.sideEffectRead r then none
  else if silent then some (s, [], abChangeover)
  else if pathOf r.addr = 16 ∧ (s.region r.addr).any (fun g => decide (g.1 = .dictionary .acting)) ∧ !r.sides.all id then none
  else some (s.finishRead x r)

/-- R90, R379, R498: possession is released, or lost silently. The read that has begun, held or first among those that the
host has left, is served by the next holder, but for one with a side effect: the releasing lane completes it, and after a
silent death it ends with an error. One that waits behind others has not begun. Service sessions end (log 37: DEDUCED).
HTPULSE keeps its level (R301). -/
def State.hostAtRelease (s : State) (x : LaneId) (silent : Bool) : State :=
  let s := { s with host := { s.host with htPulse := s.pulseOf x } }
  let s := (s.upd x (fun l => l.eachPin LaneState.abortLearn)).endServiceSessions
  match s.firstOf 16, s.host.held with
  | some r, _ => ((s.readAtRelease x silent r).map (fun d => d.1.queuedDone 16 r d.2.2)).getD s
  | none, some r =>
    ((s.readAtRelease x silent r).map (fun d => d.1.respond (if d.2.2 = 0 then 0 else 1) d.2.1.length d.2.1 d.2.2)).getD s
  | none, none => s

/-! ### Reset of the host front (R399, R400, R412) -/

/-- R399, R400, R412: the host front resets: posted writes, open accesses, prefetched blocks, staging buffers,
the latch, challenges and host link sessions are lost. The rejections that source 134 waits on (R408) are kept, of which the
manual says nothing (log 65: DESIGN CHOICE). -/
def State.hostFrontReset (s : State) : State :=
  { s.updBoth (fun l => { l with time := { l.time with pulseHeld := false } }) with
    host := { HostState.reset with rejects := s.host.rejects }
    mreg := tabSet regDefault 0x590002 0 s.mreg
    sec := { s.sec with challenge := none, hostRole := none } }

/-- R34, R40, R467: what of the security state nonvolatile memory keeps: the keys. -/
def Security.cold (k : Security) : Security :=
  { Security.reset with roleKeys := k.roleKeys, cfgKeys := k.cfgKeys, fwKeys := k.fwKeys }

end Sys2Proof.Machine
end

