-- ==== Sys2Proof/Machine/Ops.lean ====
section
/-! DEFINITION. The named operations that several commands share: recording an event, dropping a link,
triggering a Roll, releasing and acquiring possession, resetting a lane, and the reaction to a fault. -/

namespace Sys2Proof.Machine

/-! ### Recording (R426 to R440) -/

/-- Event data cut or zero-padded to the 12 bytes 16 to 27 (R426). -/
def pad12 (l : List Byte) : List Byte := (l ++ List.replicate 12 0).take 12

/-- A block reset of the recorder runs (R412). -/
def LaneState.recorderResets (l : LaneState) : Bool :=
  l.coll.resetting .recorder

/-- The log holds its last record (R436) (log 28: DEDUCED). -/
def Recorder.full (r : Recorder) : Bool := decide (131071 ≤ r.slots.length)

/-- R438: a clear runs, or its mark stands and the next start runs it again: what is written meanwhile is erased. -/
def Recorder.inClear (r : Recorder) : Bool := r.clearing || r.clearMark

/-- The value that two of the copies whose check passes agree on (R430). -/
def majority {α : Type} [DecidableEq α] : List α → Option α
  | [a, b, c] => if a = b ∨ a = c then some a else if b = c then some b else none
  | [a, b] => if a = b then some a else none
  | _ => none

/-- R430: the copy of the control block that the vote of three finds, if two pass their check and agree (log 54: DESIGN
CHOICE). -/
def Recorder.vote (r : Recorder) : Option CtlCopy := majority (r.ctl.filter CtlCopy.ok)

/-- R430: a value of the control block that a lane goes on counting from: the voted one, else the largest whose copy
passes its check, else 0. -/
def Recorder.copied (r : Recorder) (f : CtlCopy → Nat) : Nat :=
  match r.vote with
  | some c => f c
  | none => ((r.ctl.filter CtlCopy.ok).map f).foldl max 0

/-- Every copy of the control block changed. -/
def LaneState.eachCopy (l : LaneState) (f : CtlCopy → CtlCopy) : LaneState :=
  { l with log := { l.log with ctl := l.log.ctl.map f } }

/-- An event that is not recorded is counted, in the three copies of the control block (R437); after a failure on the
die of the final-record block (R440). Its code goes to entry 1503h:01h (log 28: DEDUCED). -/
def LaneState.lose (l : LaneState) (code : Nat) : LaneState :=
  if l.log.failed.isSome then
    let n := satInc 0xFFFFFFFF (l.get 0x150C02)
    { (l.put 0x150C02 n).put 0x150301 code with log := { l.log with die := List.replicate 3 n } }
  else
    let n := satInc 0xFFFFFFFF (l.get 0x150300)
    ((l.put 0x150300 n).put 0x150301 code).eachCopy (fun c => { c with lost := n })

/-- The event as it goes into the queue, with the time and the possession of this moment (R426, R428) (log 28: DEDUCED). -/
def LaneState.event (l : LaneState) (holdUp : Bool) (code : Nat) (data : List Byte) : Queued where
  ms := l.log.opNs / 1000000
  cycles := l.log.cycles
  tags := l.log.tagsValid
  acting := decide (l.mode = .possession)
  holdUp := holdUp
  code := code
  data := pad12 data

/-- An event reaches a lane's recorder: queued, or counted as lost (R433, R436, R437, R440); during a clear it waits
in the queue (R438). A lane that is off or stopped records and counts nothing (R443). -/
def LaneState.record (l : LaneState) (holdUp : Bool) (code : Nat) (data : List Byte) : LaneState :=
  if !l.awake || l.mode = .stopped then l
  else if ((l.log.failed.isSome || l.log.full) && !l.log.inClear) || l.recorderResets then l.lose code
  else if 256 ≤ l.log.queue.length then
    let l := l.lose code
    { l with log := { l.log with overflow := true } }
  else { l with log := { l.log with queue := l.log.queue ++ [l.event holdUp code data] } }

/-- An event at one lane of the module. -/
def State.record (s : State) (x : LaneId) (code : Nat) (data : List Byte) : State :=
  s.upd x (fun l => l.record s.keeper.onHoldUp code data)

/-- An event at both lanes. -/
def State.recordBoth (s : State) (code : Nat) (data : List Byte) : State :=
  (s.record .A code data).record .B code data

/-- Slots that the last clear found bad are passed over, as their comparison fails again; they are counted already. -/
def Recorder.passWorn (r : Recorder) : Recorder :=
  (List.range 17).foldl (fun r _ =>
    if r.worn.contains r.slots.length then { r with slots := r.slots ++ [Slot.bad] } else r) r

/-- A record as it is written: with the tags of this moment, and the hold-up flag (R426, R430). -/
def LaneState.numbered (l : LaneState) (holdUp : Bool) (q : Queued) : EventRec :=
  ⟨l.get 0x150200, { q with tags := l.log.tagsValid, holdUp := holdUp }⟩

/-- A verified record takes the next slot and the next number (R427, R428). -/
def LaneState.place (l : LaneState) (holdUp : Bool) (q : Queued) : LaneState :=
  let r := l.log.passWorn
  let l := { l with log := { r with slots := r.slots ++ [Slot.record (l.numbered holdUp q)] } }
  (l.put 0x150200 (l.get 0x150200 + 1)).put 0x150100 l.log.slots.length

/-- The number of the record in slot 0 (event 0062h). -/
def Recorder.firstNumber (r : Recorder) : Nat :=
  match r.slots with
  | .record e :: _ => e.seq
  | _ => 0

/-- An event goes to the final-record block, which stops when its 64 slots are used (R440). -/
def LaneState.placeFinal (l : LaneState) (holdUp : Bool) (q : Queued) : LaneState :=
  if 64 ≤ l.log.finals.length then l.lose q.code
  else
    let l := { l with log := { l.log with finals := l.log.finals ++ [l.numbered holdUp q] } }
    (l.put 0x150200 (l.get 0x150200 + 1)).put 0x150C01 l.log.finals.length

/-- Data of event 0064h (R432). -/
def LaneState.unreconciledData (l : LaneState) : List Byte :=
  toBytes 6 (l.log.copied CtlCopy.ms) ++ toBytes 3 (l.log.copied CtlCopy.cycles)

/-- R432, R440: the recorder's memory has failed at a slot: event 0061h, and 0064h where the tags are unreconciled, go to
the final-record block. -/
def LaneState.failRecorder (l : LaneState) (holdUp : Bool) (cause slot : Nat) : LaneState :=
  let data := toBytes 1 cause ++ toBytes 1 (l.get 0x150A01) ++ toBytes 2 0 ++ toBytes 4 slot
  let l := { l with log := { l.log with failed := some cause } }
  let l := l.placeFinal holdUp (l.event holdUp 0x0061 data)
  if l.log.tagsValid then l else l.placeFinal holdUp (l.event holdUp 0x0064 l.unreconciledData)

/-- The slot before the present end is bad. -/
def Recorder.lastBad (r : Recorder) : Bool :=
  match r.slots.getLast? with
  | some .bad => true
  | _ => false

/-- R439: the next slot is one that a clear found bad, and the one before it is bad too: two in a row. -/
def Recorder.wornPair (r : Recorder) : Bool := r.lastBad && r.worn.contains r.slots.length

/-- R433: the slot is bad; it is counted and left as it is. -/
def LaneState.badSlot (l : LaneState) : LaneState :=
  let l := { l with log := { l.log with slots := l.log.slots ++ [Slot.bad] } }
  (l.put 0x150100 l.log.slots.length).put 0x150A01 (satInc 255 (l.get 0x150A01))

/-- R436, R439: after slot 131,070 is written, event 0062h takes slot 131,071; if it cannot be verified there, the
memory has failed (log 28: DEDUCED). -/
def LaneState.closeFullLog (l : LaneState) (holdUp closes : Bool) : LaneState :=
  if l.log.slots.length = 131071 ∧ l.log.failed = none then
    if l.log.worn.contains 131071 then ({ l with log := l.log.passWorn }.put 0x150100 131072).failRecorder holdUp 4 131071
    else if closes then l.place holdUp (l.event holdUp 0x0062 (toBytes 4 l.log.firstNumber))
    else l.badSlot.failRecorder holdUp 4 131071
  else l

/-- R433, R436, R439: a record is written into the next slot; `ok` says whether its comparison, or the one after its
repetition, succeeds. A bad slot leaves the record to the next slot; a second bad slot in a row, or a 17th, fails the
memory. Into a slot that makes two in a row no record goes. -/
def LaneState.writeRecord (l : LaneState) (holdUp ok closes : Bool) (q : Queued) : LaneState :=
  if l.log.wornPair then
    let slot := l.log.slots.length
    ({ l with log := l.log.passWorn }.put 0x150100 (slot + 1)).failRecorder holdUp 1 slot
  else if ok then (l.place holdUp q).closeFullLog holdUp closes
  else
    let l := { l with log := l.log.passWorn }
    let slot := l.log.slots.length
    let pair := l.log.lastBad
    let l := l.badSlot.closeFullLog holdUp closes
    if l.log.failed.isSome then l
    else if pair then l.failRecorder holdUp 1 slot
    else if 17 ≤ l.get 0x150A01 then l.failRecorder holdUp 2 slot
    else l

/-- A record that meets a clear, a full log or a failed recorder is not written (R436, R438, R440). -/
def Recorder.shut (r : Recorder) : Bool := r.inClear || r.full || r.failed.isSome

/-- R434: one record of the queue is written, or counted as lost; a failed comparison moves it to the next slot, and a
second fails the memory. -/
def LaneState.flushOne (l : LaneState) (holdUp : Bool) (q : Queued) : LaneState :=
  let next (l : LaneState) : Bool × LaneState :=
    (l.log.outcomes.head?.getD true && !l.log.wornPair, { l with log := { l.log with outcomes := l.log.outcomes.drop 1 } })
  if l.log.shut then l.lose q.code
  else
    let (ok, l) := next l
    let l := l.writeRecord holdUp ok true q
    if ok then l
    else if l.log.shut then l.lose q.code
    else
      let (ok, l) := next l
      let l := l.writeRecord holdUp ok true q
      if ok then l else l.lose q.code

/-- The queue is written before a reset, each record verified (R433, R434); while a clear runs, or its mark stands, each
queued event is counted as lost instead (R438) (log 54: DESIGN CHOICE). -/
def LaneState.flushQueue (l : LaneState) (holdUp : Bool) : LaneState :=
  let qs := l.log.queue
  let l := { l with log := { l.log with queue := [] } }
  qs.foldl (fun l q => l.flushOne holdUp q) l

/-- The values that the control block's copies take (R430, R437). -/
def LaneState.ctlNow (l : LaneState) : CtlCopy :=
  ⟨l.log.opNs / 1000000, l.log.cycles, l.get 0x150200, l.get 0x150300, true⟩

/-- The control block's copies take the counters' present values (R430). -/
def LaneState.rewriteControl (l : LaneState) : LaneState :=
  { l with log := { l.log with ctl := List.replicate 3 l.ctlNow } }

/-! ### Answers (R479, R480) -/

/-- The access succeeded and answers a value. -/
def State.answer (s : State) (v : Nat) : State := { s with ans := ⟨0, v, []⟩ }

/-- The access succeeded and answers bytes. -/
def State.answerBytes (s : State) (d : List Byte) : State := { s with ans := ⟨0, d.length, d⟩ }

/-- The access ended with an abort code and changed nothing else. -/
def State.abort (s : State) (code : Nat) : State := { s with ans := ⟨code, 0, []⟩ }

/-- The role of an access by its path (R472): 0 Observer to 3 Vendor. -/
def State.role (s : State) (p : Path) : Nat :=
  match p with
  | .host => s.sec.hostRole.getD (s.mget 0x590001)
  | .service k => ((s.sec.sessions.getD k.val .reset).role).getD 0
  | .remote => s.get (s.holder.getD .A) 0x390500
  | .image => 2

/-- Code of a path in event 0030h (R432). -/
def pathCode : Path → Nat
  | .host => 1
  | .service _ => 2
  | .remote => 3
  | .image => 4

/-- Code of a lane selector (R255, entry 3800h:05h): 0 acting, 1 lane A, 2 lane B. -/
def selCode : Sel → Nat
  | .acting => 0
  | .lane .A => 1
  | .lane .B => 2

/-- The lane that an access reaches: the one named, or the lane in possession. -/
def State.target (s : State) (sel : Sel) : Option LaneId :=
  match sel with
  | .lane x => some x
  | .acting => s.holder

/-- Data of event 0030h (R432). -/
def refusedData (s : State) (a : Acc) (index sub : Nat) : List Byte :=
  toBytes 2 index ++ toBytes 1 sub ++ toBytes 1 (pathCode a.path) ++ toBytes 1 (s.role a.path)
    ++ toBytes 1 (selCode a.sel) ++ toBytes 4 abState

/-- A refusal with "not in this state" (R480): recorded as event 0030h by the lane that the access
reaches, by both lanes where no lane holds possession (log 23: DEDUCED). -/
def State.refuse (s : State) (a : Acc) (index sub : Nat) : State :=
  let d := refusedData s a index sub
  let s := match s.target a.sel with
    | some x => s.record x 0x0030 d
    | none => s.recordBoth 0x0030 d
  s.abort abState

/-! ### Roll triggers (R171 to R174) -/

/-- Triggers with the 20 ms settle hold-off (R171). -/
def hasHoldOff (code : Nat) : Bool := code = 1 || code = 2

/-- A trigger reaches a lane's Roll engine: it joins one that waits for its hold-off or for the spacing, and after the
adoption of a close it is held for the switch beat (R172, R174) (log 60: DESIGN CHOICE). -/
def RollState.triggered (r : RollState) (code : Nat) : RollState :=
  if r.running && r.adopted.isSome then
    { r with heldTrigger := some (r.heldTrigger.getD code) }
  else match r.trigger with
    | some _ => r
    | none => { r with trigger := some code, holdOff := hasHoldOff code }

/-- A Roll trigger at a lane: discarded while a sleep announcement is in force (R58, R174), and at a
lane that is not ready. -/
def State.rollTrigger (s : State) (x : LaneId) (code : Nat) : State :=
  if s.keeper.sleepBeat.isSome || !(s.lane x).ready then s
  else s.upd x (fun l => { l with roll := l.roll.triggered code })

/-- A Roll trigger of the node: it reaches both lanes. -/
def State.rollTriggerNode (s : State) (code : Nat) : State := (s.rollTrigger .A code).rollTrigger .B code

/-- A Roll is running at the node (R170). -/
def State.rolling (s : State) : Bool := s.laneA.roll.running || s.laneB.roll.running

/-! ### Links and bypass (R120, R128) -/

/-- The port's status after it leaves the link: partner and estimate unknown (R107), PAUSE ended (R160), peer delay invalid
(R286), margin alarm gone. -/
def Port.unlinked (p : Port) (step : Step) : Port :=
  { p with
    step := step, master := false, rateHeld := false, alarm := false, alarmArmed := true
    requestWaits := false, ordered := false, newLink := false, lateLink := false, partnerRate := 0xFF, estimate := 0xFF, paused := 0
    sending := false, judged := none, pdelayWaits := [], pdelays := [], pdelayFails := 0, pdelayLost := false }

/-- The step in which a port goes on: seeking partners, or, after a link-down, down while the TDR of R126 runs. -/
def afterLink (wasUp : Bool) (step : Step) : Step := if wasUp && decide (step ≠ .off ∧ step ≠ .listening) then .down else step

/-- Counted link changes of the last 10 s (R128). -/
def recentChanges (now : Nat) (l : List Nat) : List Nat := l.filter (fun t => now < t + 10000000000)

/-- A port leaves its link, if it had one. What waits at its egress is discarded there (R148); after a link-down the
TDR runs before the port trains again (R126). `counted` says whether the change counts toward the quarantine (R128);
entry 200Ah counts every change (log 31: DEDUCED). -/
def LaneState.dropPort (l : LaneState) (now : Nat) (e : EndId) (step : Step) (counted : Bool) : LaneState :=
  let p := l.port e
  let step := afterLink p.isUp step
  let l := ((l.flushEgress e).updPort e (fun p => { p.unlinked step with
    diag := p.isUp || p.diag })).put
    (key 0x200D (endSub e)) 0
  let l := l.put (key 0x400C (endSub e)) 0
  if p.isUp then
    let l := l.inc (key 0x200A (endSub e))
    if counted then
      l.updPort e (fun p => { p with changes := recentChanges now (now :: p.changes) })
    else l
  else l

/-- A port leaves its link, and the change triggers a Roll with code 1 if the port was up (R171). -/
def State.dropPort (s : State) (x : LaneId) (e : EndId) (step : Step) (counted : Bool) : State :=
  let wasUp := ((s.lane x).port e).isUp
  let s := s.upd x (fun l => l.dropPort s.clock e step counted)
  if wasUp then s.rollTrigger x 1 else s

/-- The bypass of a lane closes (R120): the lane leaves its line. -/
def LaneState.closeBypass (l : LaneState) : LaneState := { l with bypassOpen := false, ins := .outside }

/-- The step that an enabled port takes when nothing keeps it down: it seeks partners behind an open bypass, and
listens beside a disabled end (R121, R123). While a port domain is off both ports of the lane are (R42, R412, log 61:
DEDUCED). -/
def LaneState.portStart (l : LaneState) (e : EndId) : Step :=
  if !l.enabled e || l.portPowerOff then .off
  else if l.bypassOpen then .seeking
  else if !l.enabled e.other then .listening
  else .off

/-- The ports of a lane that starts (R121). -/
def LaneState.portsStart (l : LaneState) : LaneState :=
  (l.updPort .e1 (fun p => { p with step := l.portStart .e1 })).updPort .e2 (fun p => { p with step := l.portStart .e2 })

/-- Both ports of a lane leave their links into a given condition (R128). -/
def LaneState.dropPorts (l : LaneState) (now : Nat) (step : Step) : LaneState :=
  (l.dropPort now .e1 step true).dropPort now .e2 step true

/-! ### Possession (R69 to R90) -/

/-- The mirror is current at a lane (R68). -/
def Poss.mirrorCurrent (p : Poss) : Bool := (p.mirrorUp && !p.resync) || p.allowance

/-- The node declares its cab active: entry 2421h, or a cab-active input of either lane (R192, R352). -/
def State.declares (s : State) (x : LaneId) : Bool :=
  decide (s.get x 0x242100 = 1) || s.cabActive x
    || ((s.lane x).poss.mirrorCurrent && s.cabActive x.peer)

/-- The cab-active OR that lane x has last seen (R352). -/
def State.noteCab (s : State) (x : LaneId) : State :=
  s.upd x (fun l => l.updField (fun f => { f with cabWas := s.declares x }))

/-- R352: the cab-active OR that lane x sees; a change of it triggers a Roll at the lane whose own pins changed, `own`
being what they said before. -/
def State.checkCab (s : State) (x : LaneId) (own : Bool) : State :=
  if (s.lane x).field.cabWas = s.declares x then s
  else
    let s := s.noteCab x
    if s.cabActive x ≠ own then s.rollTrigger x 3 else s

/-- How lane x reads its peer's interlock pair (R79): a broken wire reads as invalid, a lane whose pump
does not run as not acting. -/
def State.pairReading (s : State) (x : LaneId) : PairReading :=
  if (s.lane x).poss.pairBroken then .invalid
  else if (s.lane x.peer).poss.pump then .acting
  else .notActing

/-- R69, R70: what eligibility asks beside the update. -/
def State.fit (s : State) (x : LaneId) : Bool :=
  let l := s.lane x
  ((decide (l.mode = .standby) && l.selfTest) || (decide (l.mode = .releasing) && l.poss.limitPassed))
    && (l.poss.mirrorCurrent || (s.keeper.tossPending && !l.poss.mirrorSeen))
    && decide (l.coll.highClasses = 0)
    && (!l.poss.interlock || decide (s.pairReading x ≠ .invalid))

/-- Eligibility to acquire possession (R69, R70). -/
def State.eligible (s : State) (x : LaneId) : Bool := s.fit x && decide (s.get x 0x112000 ≠ 2)

/-- R71, R72: the 10 ms of lane B begin anew when it loses eligibility, and a lane A that is not eligible no longer asks. -/
def State.tossCheck (s : State) : State :=
  { s with keeper := { s.keeper with
    tossWindow := s.keeper.tossWindow && s.eligible .B
    askedA := s.keeper.askedA && s.eligible .A } }

/-- The mirror status word that a lane sends (R66). -/
def State.statusWord (s : State) (x : LaneId) : Nat :=
  let l := s.lane x
  let m := match l.mode with
    | .standby => 2
    | .possession => 3
    | .releasing => 4
    | _ => 1
  m * 4096 + b2n (s.eligible x) * 2048 + b2n l.poss.arbLink * 1024
    + b2n (decide (l.get 0x112000 ≠ 0)) * 512 + b2n l.poss.interlock * 256 + l.poss.epoch % 256

/-- The view of its peer that a lane's request or renewal carries (R73). -/
def Poss.viewOfPeer (p : Poss) : View :=
  if !p.mirrorUp then .unknown
  else if p.peerWord / 4096 = 3 then .acting else .notActing

/-- The host-front cause of a possession change, bit 7 of entry 5900h:03h (R397). -/
def State.possessionCause (s : State) : State :=
  s.mput 0x590003 (withBit (s.mget 0x590003) 7 true)

/-- Explicit release (R84, R87): the lane stops acting, freezes its outputs and stops its pump, and the
arbiter learns of it over the lane's link; where that is down, the lease runs out there (R75). The cause is coded as
entry 1106h:01h (log 37: DEDUCED, 56: DEDUCED). -/
def State.release (s : State) (x : LaneId) (cause : Nat) : State :=
  if (s.lane x).mode ≠ .possession then s
  else
    let told := (s.lane x).poss.interlock || (s.lane x).poss.arbLink
    let s := s.upd x (fun l => { l with
      mode := .releasing
      poss := { l.poss with
        frozen := true, lease := false, hold := false, renewals := 0, pump := false, acq := .idle
        request := false, changing := true, limitPassed := false, releaseCause := cause } })
    let s := { s with
      arb := { s.arb with
        holder := if told then none else s.arb.holder
        released := told || s.arb.released
        expired := !told && s.arb.expired
        changeAt := s.clock }
      keeper := { s.keeper with tossWindow := false, askedA := false } }
    s.possessionCause.hostAtRelease x false

/-- R95, R425: an update in download ends at a lane that takes possession or resets: the current bank stays, and the
abandonment is recorded. -/
def State.abandonUpdate (s : State) (x : LaneId) : State :=
  if (s.lane x).get 0x112000 = 1 then
    (s.upd x (fun l => { l.put 0x112000 0 with upd := { l.upd with image := [], erased := false, length := 0 } })).record x
      0x0040 (toBytes 1 4 ++ toBytes 1 (1 - (s.lane x).get 0x112100 % 2))
  else s

/-- Acquisition (R86): the lane acts from its mirrored image; epoch, counts, cause and time are set
(R66, R97), event 0020h is recorded, a download is abandoned (R95), and new data is set in every held
subscription and receive buffer (R242) (log 23: DEDUCED, 56: DEDUCED). -/
def State.acquire (s : State) (x : LaneId) (cause : Nat) : State :=
  let micros := (s.clock - s.arb.changeAt) / 1000
  let between := s.arb.lastHolder = some x.peer
  let epoch := ((s.lane x).poss.epoch + 1) % 256
  let s := s.upd x (fun l => { l with
    mode := .possession
    poss := { l.poss with
      frozen := false, changing := false, limitPassed := false, acq := .idle, request := false
      upNoHolder := false, ackedAt := s.clock, epoch := epoch, hold := false
      lease := !l.poss.interlock, pump := l.poss.interlock } })
  let s := s.upd x.peer (fun l => { l with poss := { l.poss with changing := false } })
  let s := { s with
    keeper := { s.keeper with tossPending := false, tossWindow := false, askedA := false }
    arb := { s.arb with
      lastHolder := some x
      holder := if (s.lane x).poss.interlock then s.arb.holder else some x
      expired := false, released := false, granted := true
      planned := none
      checking := if s.arb.planned = some x then some x else none
      mismatch := 0 } }
  let s := s.upd x LaneState.watchOutputs
  let s := if between then s.putNode 0x110500 (countUp 0x110500 (s.get x 0x110500)) else s
  let s := (s.putNode 0x110601 cause).putNode 0x110602 micros
  let s := s.record x 0x0020
    (toBytes 1 (laneBit x + 1) ++ toBytes 1 cause ++ toBytes 1 epoch ++ toBytes 1 0 ++ toBytes 4 micros)
  (s.abandonUpdate x).possessionCause.takeOver x

/-! ### Lane reset and power (R42, R61, R334, R414) -/

/-- Registers kept in nonvolatile memory: the persistent entries (R467, R473), and those that the manual
says survive: last reset cause and source, log counts, plan settings, active bank. -/
def keptRegister (k : Nat) : Bool :=
  ((entryRow (k / 256) (k % 256)).map Row.pers).getD false
    || k = 0x140B01 || k = 0x140B02 || k = 0x150100 || k = 0x150200 || k = 0x112100
    || (k / 256 / 16 = 0x131 && k % 256 = 3) || k / 256 = 0x1330 || k / 256 = 0x1331
    || k = 0x150C01

/-- R475: a register that a restore of defaults sets to its default: the persistent entries of the lane, but for the
configuration counter, the minimum security version and the cause of the reset that takes the defaults. -/
def restoredRegister (k : Nat) : Bool :=
  ((entryRow (k / 256) (k % 256)).map (fun w => w.pers && w.scope ≠ .module)).getD false
    && decide (k ≠ 0x101201 ∧ k ≠ 0x161200 ∧ k ≠ 0x140B01 ∧ k ≠ 0x140B02)

/-- R475, R500: a module-level register that a restore of defaults sets to its default: the persistent ones, but for the
founding count and the firmware keys revoked, whose bits are only set (log 41: DEDUCED). -/
def restoredModule (k : Nat) : Bool :=
  ((entryRow (k / 256) (k % 256)).map (fun w => w.pers && w.scope = .module)).getD false
    && decide (k ≠ 0x401300 ∧ k ≠ 0x161003)

/-- R475: the module-level entries at their defaults: the windows are off, with what was prefetched through them (log
41: DEDUCED). -/
def State.restoreModule (s : State) : State :=
  (List.range 16).foldl (fun s w => s.updWin w (fun v => { v with prefetching := none, block := none, lastRead := none }))
    { s with mreg := s.mreg.filter (fun e => !restoredModule e.1) }

/-- R475: a lane that resets with a restore pending brings the module-level entries to their defaults too (log 41:
DEDUCED). -/
def State.takeDefaults (s : State) (x : LaneId) : State :=
  if bitAt (s.get x 0x101002) 1 then s.restoreModule else s

/-- R475: the registers with the defaults taken. -/
def restoredRegs (r : Regs) : Regs := r.filter (fun e => !restoredRegister e.1)

/-- The registers after a lane start, with the defaults of a pending restore taken (R475). -/
def restartRegs (r : Regs) : Regs :=
  let kept := r.filter (fun e => keptRegister e.1)
  if bitAt (tabGet regDefault 0x101002 r) 1 then restoredRegs kept else kept

/-- R96: an activation ends when the lane is eligible on the new bank, and outlasts a reset. -/
def LaneState.keepActivation (new old : LaneState) : LaneState := if old.get 0x112000 = 2 then new.put 0x112000 2 else new

/-- R275: at lane start the increment in force is the baseline, without a rate correction. -/
def LaneState.startIncrement (l : LaneState) : LaneState := l.put 0x400700 (l.get 0x400800)

/-- A port of a lane that restarts: one that was up has its TDR before it trains again (R126). -/
def Port.restarted (p : Port) : Port := { Port.reset with diag := p.isUp || p.diag }

/-- Entry 200Ah counts the link of a port that goes down with its lane (R130). -/
def LaneState.countLinkLost (l : LaneState) (e : EndId) : LaneState :=
  if (l.port e).isUp then l.inc (key 0x200A (endSub e)) else l

/-- A lane after a restart: its queue is written first (R434), nonvolatile memory stays, all else is as at lane start. -/
def LaneState.restart (l : LaneState) (holdUp : Bool) (mode : Mode) : LaneState :=
  let l := ((l.flushQueue holdUp).countLinkLost .e1).countLinkLost .e2
  { LaneState.reset with
    mode := mode
    reg := restartRegs l.reg
    port1 := l.port1.restarted
    port2 := l.port2.restarted
    flow := l.flow.restarted
    poss := { Poss.reset with interlock := l.poss.interlock }
    log := { l.log with
      scanned := false, shutdown := false, overflow := false, clearMark := l.log.clearing || l.log.clearMark
      clearing := false, tagsValid := false, opNs := l.log.copied CtlCopy.ms * 1000000, cycles := l.log.copied CtlCopy.cycles }
    plan := { l.plan with due := none }
    upd := { l.upd with image := [], erased := false, length := 0 } }.keepField l |>.keepActivation l |>.startIncrement

/-- The last status word of a lane that goes into reset: its release reaches the peer while the core is held (R84,
R434) (log 57: DEDUCED). -/
def State.lastWord (s : State) (x : LaneId) : State :=
  if (s.lane x).mode = .releasing ∧ (s.lane x.peer).awake = true ∧ (s.lane x.peer).poss.mirrorUp = true then
    s.upd x.peer (fun l => { l with poss := { l.poss with peerWord := s.statusWord x } })
  else s

/-- A lane reset (R414): possession is released first, and the changeover that begins with the release runs on (R83); an
update in download is abandoned (R425); the cause goes to entry 140Bh, the queue is written, and everything that is not
in nonvolatile memory is lost (log 57: DEDUCED). -/
def State.laneReset (s : State) (x : LaneId) (relCause cause source : Nat) : State :=
  let s := (((s.release x relCause).lastWord x).abandonUpdate x).takeDefaults x
  (s.upd x (fun l =>
    let r := ((l.put 0x140B01 cause).put 0x140B02 source).restart s.keeper.onHoldUp .inReset
    { r with poss := { r.poss with changing := l.poss.changing, releaseCause := l.poss.releaseCause } })).tossCheck

/-- A lane writes its last record and its control block, and loses its domains: asleep or unpowered (R42,
R60, R61, R430). The TDR of a link that a sleep took down is due when the lane trains again (R126) (log 37: DEDUCED). -/
def State.laneOff (s : State) (x : LaneId) (mode : Mode) (code : Nat) (data : List Byte) : State :=
  if (s.lane x).awake then
    (((s.record x code data).takeDefaults x).upd x (fun l =>
      let r := (((l.flushQueue s.keeper.onHoldUp).rewriteControl).restart s.keeper.onHoldUp mode).fieldUnpowered
      if mode = .asleep then r else { r with port1 := .reset, port2 := .reset })).tossCheck
  else s.upd x (fun l => { l with mode := mode })

/-- R429: domain xNV switches on: a power cycle more, in the counter and in what the lane reads at its start (log 28:
DEDUCED). -/
def LaneState.countPowerCycle (l : LaneState) : LaneState :=
  let l := l.eachCopy (fun c => { c with cycles := satInc 0xFFFFFF c.cycles })
  { l with log := { l.log with cycles := l.log.copied CtlCopy.cycles } }

/-- A lane's domains switch on and it boots (R42, R43): the power-cycle count rises (R429), and the last
reset cause is 6 (entry 140Bh). -/
def LaneState.powerUp (l : LaneState) : LaneState :=
  let l := l.countPowerCycle
  (({ l with
    mode := .booting
    log := { l.log with opNs := l.log.copied CtlCopy.ms * 1000000 } }.put 0x140B01 6).put
      0x140B02 0xFF).fieldPowered

/-! ### Re-plans that must wait (R447, R465) -/

/-- R447: what defers a re-plan: a Roll, an update, a changeover, a shutdown record, a clear. -/
def LaneState.planBlocked (l : LaneState) : Bool :=
  l.roll.running || decide (l.get 0x112000 ≠ 0) || decide (l.mode = .releasing) || l.log.shutdown || l.log.clearing

/-- R447: a re-plan that is due while it is blocked is deferred: bit 5 of entry 1300h. -/
def LaneState.deferPlan (l : LaneState) : LaneState :=
  if l.plan.due.isSome && l.planBlocked then l.put 0x130000 (withBit (l.get 0x130000) 5 true) else l

end Sys2Proof.Machine
end

