-- ==== Sys2Proof/Machine/Reaction.lean ====
section
/-! DEFINITION. The reaction to faults (R409 to R419): deciding levels, recording, interrupts and traps,
block resets, lane resets and stops. Every rule that raises a source uses `State.raise`. -/

namespace Sys2Proof.Machine

/-- One source's part in a reaction: the level taken and the flags of its reaction event (R407). -/
structure Taken where
  source : Nat
  level : Nat
  own : Nat
  path : Bool
  injected : Bool
  domain : Nat
deriving DecidableEq, Repr

/-- R415: the level of a real fault of a class at class level cl. -/
def decideLevel (cl own ceil : Nat) : Nat :=
  if 1 ≤ cl then min (max own (cl + 1)) (max own ceil) else own

/-- Data of event 0010h (R432). -/
def reactionData (t : Taken) (module : Bool) (time : Nat) : List Byte :=
  let flags := b2n (decide (t.own < t.level)) * 128 + b2n t.injected * 64 + b2n t.path * 32 + b2n module * 16
  toBytes 1 t.source ++ toBytes 1 t.level ++ toBytes 1 t.own ++ toBytes 1 flags ++ toBytes 8 time

/-- One source's reaction is recorded and counted (R407, R419): by its lane, or by both lanes for the
module-level collector. -/
def State.recordReaction (s : State) (c : CollectorId) (t : Taken) : State :=
  let k := key (0x1410 + t.source) 3
  match c with
  | .lane x => (s.record x 0x0010 (reactionData t false (s.lane x).time64)).inc x k
  | .module =>
    ((s.record .A 0x0010 (reactionData t true s.laneA.time64)).record .B 0x0010
      (reactionData t true s.laneB.time64)).minc k

/-- The interrupt and trap effect of a class's reaction at a level (R409), and the mark that makes the
lane ineligible from level 3 on (R69). -/
def Collector.leave (c : Collector) (cls lv : Nat) : Collector :=
  { c with
    intClasses := if lv = 1 then withBit c.intClasses cls true else c.intClasses
    trapClasses := if lv = 2 then withBit c.trapClasses cls true else c.trapClasses
    highClasses := if 3 ≤ lv then withBit c.highClasses cls true else c.highClasses }

/-- R415: the class level becomes the highest among the class's unacknowledged reactions. -/
def Collector.raiseClass (c : Collector) (cls lv : Nat) : Collector :=
  { c with level := tabSet (fun _ => 0) cls (max (c.classLevel cls) lv) c.level }

/-- The real faults of one class decided in one collector cycle (R415, R416, R419): what is taken, and
the state with merge counts, class level and unacknowledged marks. -/
def State.classReaction (s : State) (c : CollectorId) (hits : List SourceHit) (cls : Nat) : List Taken × State :=
  let mine := hits.filter (fun h => sourceClass h.source = cls)
  let cl := (s.collector c).classLevel cls
  if mine.isEmpty then ([], s)
  else if s.forerunner c && decide (1 ≤ cl) then
    ([], s.updColl c (fun k => { k with
      merged := tabSet (fun _ => 0) cls ((tabGet (fun _ => 0) cls k.merged + mine.length) % 2 ^ 32) k.merged }))
  else
    let lv := (mine.map (fun h => decideLevel (if s.forerunner c then 0 else cl)
      (s.sourceLevel c h.source) (s.sourceCeiling c h.source))).foldl max 0
    let taken := mine.map (fun h => { source := h.source, level := lv, own := s.sourceLevel c h.source,
                                      path := h.invalid, injected := false, domain := h.domain : Taken })
    let s := if 1 ≤ lv then s.updColl c (fun k => (k.raiseClass cls lv).leave cls lv) else s
    (taken, s)

/-! ### Resets by reaction (R412, R413) -/

/-- R412, timebase: time state 0, pulse units disarm; the counter starts again at 0. -/
def LaneState.timebaseRestart (l : LaneState) : LaneState :=
  let l := { l with time := { TimeState.reset with syncSeq := l.time.syncSeq } }
  let l := (((l.put 0x400100 0).put 0x400200 0).put 0x400900 0).put 0x400600 0
  let l := l.put 0x400700 (l.get 0x400800)
  (List.range 8).foldl (fun l u => (l.put (key (0x4020 + u) 6) 0).put (key (0x4020 + u) 7) 0) l

/-- R412, ports: the bypass closes, queues and ring are flushed; the lane leaves its line and inserts
again (R122). -/
def LaneState.portsRestart (l : LaneState) (now : Nat) : LaneState :=
  let shut := l.closeBypass
  let step (e : EndId) : Step := if l.enabled .e1 && l.enabled .e2 then .down else shut.portStart e
  let l := ((l.dropPort now .e1 (step .e1) true).dropPort now .e2 (step .e2) true).closeBypass
  { l.put 0x220600 1024 with ring := [] }

/-- R412, links: no frame passes until the reset is done, so the mirror is lost by MIRROR_LOST after 50 µs (R68) and
the arbiter link by ARBITER_LINK_LOST (R73); the pair reads not acting with the pump stopped. -/
def Poss.linksRestart (p : Poss) : Poss :=
  { p with goodFrames := 0, request := false, pump := false, acq := .idle }

/-- A port domain of lane x is off (R42). -/
def LaneState.portDomainOff (l : LaneState) (x : LaneId) : Bool :=
  l.domainOff x 1 || l.domainOff x 2

/-- A domain block reset (R412): a restart of xC or xNV restarts the lane, and one of xNV counts a power
cycle (R429); any other domain is off until the reset is done. While a port domain is off the bypass is closed, and the
lane has left its line (R42, R120). The inputs of a field side without power read off, the cab-active ones too (R352). -/
def State.domainReset (s : State) (x : LaneId) (domain source : Nat) : State :=
  let d := domain - domainBase x
  if d = 0 ∨ d = 5 then
    let s := s.laneReset x 1 3 source
    if d = 5 then s.upd x LaneState.countPowerCycle else s
  else
    let s := s.updColl (.lane x) (fun k => { k with domains := (source, domain) :: k.domains, resets := source :: k.resets })
    if d = 1 ∨ d = 2 then ((s.dropPort x .e1 .off true).dropPort x .e2 .off true).upd x LaneState.closeBypass
    else if d = 3 then s.upd x LaneState.carBusRestart
    else if d = 4 then (s.upd x LaneState.fieldUnpowered).checkCab x (s.cabActive x)
    else s

/-- A block reset in a lane begins (R412). -/
def State.laneBlockReset (s : State) (x : LaneId) (t : Taken) : State :=
  let mark (s : State) : State := s.updColl (.lane x) (fun k => { k with resets := t.source :: k.resets })
  match (sourceRow t.source).map Source.block with
  | some .domain => s.domainReset x t.domain t.source
  | some .ports => (mark (s.upd x (fun l => l.portsRestart s.clock))).rollTrigger x 2
  | some .timebase => mark (s.upd x LaneState.timebaseRestart)
  | some .carBus => mark (s.upd x LaneState.carBusRestart)
  | some .fieldSide => mark (s.upd x LaneState.fieldSafe)
  | some .recorder => mark s
  | some .links => mark (s.upd x (fun l => { l with poss := l.poss.linksRestart }))
  | _ => s.laneReset x 1 3 t.source

/-- A module-level block reset begins (R412). -/
def State.moduleBlockReset (s : State) (t : Taken) : State :=
  let s := s.updColl .module (fun k => { k with resets := t.source :: k.resets })
  match (sourceRow t.source).map Source.block with
  | some .arbiter => { s with arb := { s.arb with running := false, waiting := false } }
  | some .hostFront => s.hostFrontReset
  | _ => s

/-- R413: a level 5 reaction leaves the lane stopped. -/
def State.laneStop (s : State) (x : LaneId) (source : Nat) : State :=
  (s.laneReset x 1 2 source).upd x (fun l => { l with mode := .stopped })

/-- R412: the block reset of a source's reaction restarts the lane: that of xNV ranks first, as it counts a power cycle too
(R429). -/
def resetRank (x : LaneId) (t : Taken) : Nat :=
  match (sourceRow t.source).map Source.block with
  | some .domain => if t.domain - domainBase x = 5 then 2 else if t.domain - domainBase x = 0 then 1 else 0
  | some .ports => 0
  | some .timebase => 0
  | some .carBus => 0
  | some .fieldSide => 0
  | some .recorder => 0
  | some .links => 0
  | _ => 1

/-- R412, R419: the block resets of one cycle in a lane: one that restarts the lane restarts the other blocks with it. -/
def State.laneBlockResets (s : State) (x : LaneId) (ts : List Taken) : State :=
  match (ts.find? (fun t => resetRank x t = 2)).or (ts.find? (fun t => resetRank x t = 1)) with
  | some t => s.laneBlockReset x t
  | none => ts.foldl (fun s t => s.laneBlockReset x t) s

/-- The resets of one collector cycle (R419): possession is released once, and only the highest reset is
carried out; at level 3, the blocks of all its sources (log 9: DESIGN CHOICE). -/
def State.carryOut (s : State) (c : CollectorId) (taken : List Taken) : State :=
  let top := (taken.map Taken.level).foldl max 0
  let highest := taken.filter (fun t => t.level = top)
  match c with
  | .lane x =>
    if top < 3 then s
    else
      let s := s.release x 1
      match highest with
      | [] => s
      | t :: _ =>
        if top = 5 then s.laneStop x t.source
        else if top = 4 then s.laneReset x 1 1 t.source
        else s.laneBlockResets x highest
  | .module => if top < 3 then s else highest.foldl State.moduleBlockReset s

/-- R405: the pair of a source in fault reads invalid for more than two cycles: both its sticky bits are set (log 57:
DEDUCED). -/
def Collector.readsInvalid (k : Collector) (b : Nat) : Collector :=
  { k with sticky := withBit k.sticky b true, path := withBit k.path b true, invalid := withBit k.invalid b true }

/-- The faults that enter in one collector cycle, as they are decided (R405, R410, R415, R416, R419): the reactions
taken, and the state with sticky bits, class levels and marks. Sources that are in fault already do not react again,
reserved sources and other collectors' sources do nothing. An arbiter in fault has stopped (R408) (log 9: DESIGN
CHOICE). -/
def State.decideFaults (s : State) (c : CollectorId) (hits : List SourceHit) : List Taken × State :=
  let old := hits.filter (fun h => h.invalid && sourceIn c h.source && (s.collector c).inFault.testBit (sourceBit c h.source))
  let s := s.updColl c (fun k => old.foldl (fun k h => k.readsInvalid (sourceBit c h.source)) k)
  let new := hits.filter (fun h => sourceIn c h.source && !(s.collector c).inFault.testBit (sourceBit c h.source))
  let s := s.updColl c (fun k => new.foldl (fun k h =>
    let b := sourceBit c h.source
    { k with
      inFault := withBit k.inFault b true
      invalid := withBit k.invalid b h.invalid
      sticky := withBit k.sticky b true
      path := if h.invalid then withBit k.path b true else k.path }) k)
  let s := if c = .module ∧ new.any (fun h => decide (h.source = 132)) then
      { s with arb := { s.arb with running := false, waiting := false } }
    else s
  (List.range 13).foldl (fun (acc : List Taken × State) cls =>
    let r := acc.2.classReaction c new cls
    (acc.1 ++ r.1, r.2)) ([], s)

/-- The reactions of one collector cycle are recorded and carried out (R407, R409, R419). -/
def State.react (s : State) (c : CollectorId) (taken : List Taken) : State :=
  ((taken.foldl (fun s t => s.recordReaction c t) s).carryOut c taken).tossCheck

/-- The faults that enter in one collector cycle are decided, recorded and carried out (R405, R410, R419) (log 9: DESIGN
CHOICE). -/
def State.enterFaults (s : State) (c : CollectorId) (hits : List SourceHit) : State :=
  let out := s.decideFaults c hits
  out.2.react c out.1

/-- A collector runs: a lane's while the lane is awake and not stopped (R425), the module-level one while
the module is awake. -/
def State.collects (s : State) (c : CollectorId) : Bool :=
  match c with
  | .lane x => (s.lane x).awake && decide ((s.lane x).mode ≠ .stopped)
  | .module => s.awake

/-- A rule raises a source: it enters fault, with the reaction in the same step (log 9: DESIGN CHOICE). -/
def State.raise (s : State) (c : CollectorId) (n : Nat) : State :=
  if s.collects c then s.enterFaults c [⟨n, false, 0⟩] else s

/-- A rule raises a lane source. -/
def State.raiseLane (s : State) (x : LaneId) (n : Nat) : State := s.raise (.lane x) n

/-- A source's condition has ended: its pair reads 01b again (R405) (log 9: DESIGN CHOICE). -/
def State.lower (s : State) (c : CollectorId) (n : Nat) : State :=
  s.updColl c (fun k => { k with inFault := withBit k.inFault (sourceBit c n) false })

/-- A source follows a condition: raised while it holds, left when it does not (R405). -/
def State.follow (s : State) (x : LaneId) (n : Nat) (b : Bool) : State :=
  if b then s.raiseLane x n else s.lower (.lane x) n

/-- R408: source 134 leaves fault after 10 s without a rejected frame (log 55: DEDUCED). -/
def State.hostLinkQuiet (s : State) : State :=
  match s.host.rejects with
  | t :: _ => if s.coll.inFault.testBit 6 && decide (t + 10000000000 ≤ s.clock) then s.lower .module 134 else s
  | [] => s

/-! ### Plan limits and bound conflicts (R459, R461) -/

/-- An entry of plan row m. -/
def rowKey (m sub : Nat) : Nat := key (0x1310 + m) sub

/-- The row's value as shown. -/
def LaneState.rowValue (l : LaneState) (m : Nat) : Int := toSigned 32 (l.get (rowKey m 1))

/-- The row has reached its limit (R445, R452, R459): rows 1 and 2 from above, row 4 on either side. -/
def atLimit (m : Nat) (v : Int) : Bool :=
  if m = 1 ∨ m = 2 then decide (v ≤ planLimit m)
  else if m = 4 then decide (planLimit m ≤ v.natAbs)
  else decide ((planLimit m : Int) ≤ v)

/-- A row is at its limit, once a re-plan of this lane start has set the rows' status. -/
def LaneState.rowAtLimit (l : LaneState) (m : Nat) : Bool := bitAt (l.get 0x130000) 0 && atLimit m (l.rowValue m)

/-- R452, R459: source 108 is in fault while row 0 or 10 is at its limit, source 109 while one of rows 3 to 9 is. -/
def State.followLimits (s : State) (x : LaneId) : State :=
  let l := s.lane x
  if bitAt (l.get 0x130000) 0 then
    (s.follow x 108 (l.rowAtLimit 0 || l.rowAtLimit 10)).follow x 109 ([3, 4, 5, 6, 7, 8, 9].any l.rowAtLimit)
  else s

/-- The conflict bit of a plan row: rows 1 and 2 show, in adaptive mode, a port held down under R116. -/
def LaneState.rowConflict (l : LaneState) (m : Nat) : Bool :=
  if m = 1 then l.port1.heldDown && decide (l.get 0x200200 ≠ l.get 0x200300)
  else if m = 2 then l.port2.heldDown && decide (l.get 0x200200 ≠ l.get 0x200300)
  else bitAt (l.get (key (0x1310 + m) 7)) 2

/-- Source 107 is in fault while any row's conflict bit is set. -/
def State.followConflicts (s : State) (x : LaneId) : State :=
  s.follow x 107 ((List.range 11).any (s.lane x).rowConflict)

end Sys2Proof.Machine
end

