-- ==== Sys2Proof/Machine/Operands.lean ====
section
/-! DEFINITION. How an access names what it reaches, and the checks that every access meets in the
order of R480: lane available, access denied, state, busy, value. The commands of the dictionary take
their operands through these forms. -/

namespace Sys2Proof.Machine

/-- A lane serves accesses while it is in standby, in possession or releasing; otherwise they end with
"lane not available" (R400, R479) (log 20: DEDUCED). -/
def State.available (s : State) (x : LaneId) : Bool :=
  s.awake && (s.lane x).ready && decide ((s.lane x).get 0x112000 ≠ 2)

/-- The first lane that is available. -/
def State.anyLane (s : State) : Option LaneId := [LaneId.A, .B].find? s.available

/-- R260, R271: the lane that serves a session entry, whatever the selector: the one in possession; a transaction may be
started while there is none. -/
def State.sessionReach (s : State) (start : Bool) : Option LaneId :=
  match s.holder with
  | some x => if s.available x then some x else none
  | none => if start then s.anyLane else none

/-- R19, R399, R400: a command that comes over the host link has no effect while the host link takes no inputs. -/
def State.through (s : State) (a : Acc) (t : State) : State := if a.path == .host && !s.hostOn then s else t

/-- The checks of a command entry that a lane serves (R480): availability, then role, then state, then
value range; if all pass, the command runs at that lane (log 20: DEDUCED). -/
def State.commandAt (s : State) (target : Option LaneId) (a : Acc) (index sub role : Nat) (state : LaneId → Bool) (value : Bool)
    (run : LaneId → State) : State :=
  match target with
  | none => s.abort abLane
  | some x =>
    if !s.available x then s.abort abLane
    else if s.role a.path < role then s.abort abDenied
    else if !state x then s.refuse a index sub
    else if !value then s.abort abRange
    else run x

/-- A command entry at the lane that the selector reaches (log 20: DEDUCED). -/
def State.command (s : State) (a : Acc) (index sub role : Nat) (state : LaneId → Bool) (value : Bool)
    (run : LaneId → State) : State := s.commandAt (s.target a.sel) a index sub role state value run

/-- The checks of a module-level command entry (R471, R480). -/
def State.moduleCommand (s : State) (a : Acc) (index sub role : Nat) (state value : Bool) (run : State) : State :=
  if !s.awake then s.abort abLane
  else if s.role a.path < role then s.abort abDenied
  else if !state then s.refuse a index sub
  else if !value then s.abort abRange
  else run

/-- A lane-specific setting that a write through the acting selector brings to both lanes. -/
def fannedSetting (k : Nat) : Bool :=
  ((entryRow (k / 256) (k % 256)).map (fun r => decide (r.scope = .lane ∧ r.kind = .rw) && r.fan)).getD false

/-- The fanned-out settings that differ between two states of a lane, those of the Pattern's shadow too. -/
def LaneState.changes (l m : LaneState) : List Nat :=
  let keys := (l.reg ++ m.reg ++ l.can.shadow ++ m.can.shadow).map Prod.fst
  (keys.filter (fun k => decide (l.get k ≠ m.get k ∨ l.shadowGet k ≠ m.shadowGet k) && fannedSetting k)).eraseDups

/-- R381: what a fanned-out write has changed in the one lane that it reached is owed to the other, for its mirror resync
(log 49: DEDUCED). -/
def State.owes (s t : State) : State :=
  match s.laneA.reached, s.laneB.reached with
  | true, false => { t with owed := (t.owed ++ (s.laneA.changes t.laneA).map (fun k => (LaneId.B, k))).eraseDups }
  | false, true => { t with owed := (t.owed ++ (s.laneB.changes t.laneB).map (fun k => (LaneId.A, k))).eraseDups }
  | _, _ => t

/-- The lanes that a write through a selector reaches when it fans out (R344, R381, R471): both awake lanes
through the acting selector, else the one named; each by its own condition (log 20: DEDUCED). -/
def State.fanOutEach (s : State) (sel : Sel) (f : LaneId → LaneState → LaneState) : State :=
  match sel with
  | .lane x => s.upd x (f x)
  | .acting =>
    let t := if s.laneA.reached then s.upd .A (f .A) else s
    s.owes (if s.laneB.reached then t.upd .B (f .B) else t)

/-- A write that does the same in each lane that it reaches (R381, log 20: DEDUCED). -/
def State.fanOut (s : State) (sel : Sel) (f : LaneState → LaneState) : State := s.fanOutEach sel (fun _ => f)

/-- R471, R491: a node entry changes in both awake lanes, or in the lane named and then, over the mirror, in its peer;
an image reaches the lane named alone (log 42: DEDUCED). -/
def State.writeNode (s : State) (a : Acc) (f : LaneState → LaneState) : State :=
  match a.sel with
  | .acting => s.fanOut .acting f
  | .lane x =>
    let s := s.upd x f
    if a.path != .image && (s.lane x.peer).reached && (s.lane x).poss.mirrorUp then s.upd x.peer f else s

end Sys2Proof.Machine
end

