-- ==== Sys2Proof/Machine/Power.lean ====
section
/-! DEFINITION. Supply, presence, start-up, wake and sleep (chapters 01 and 02, R504). -/

namespace Sys2Proof.Machine

abbrev Out := Host.Outcome State Fault Refusal

/-! ### Shared operations -/

/-- Module-level registers that outlive a loss of all power: the persistent ones (R473) (log 46: DEDUCED). -/
def keptModule (k : Nat) : Bool := ((entryRow (k / 256) (k % 256)).map Row.pers).getD false || k = 0x401300

/-- Module-level registers that outlive standby: those the keeper holds (R62) and the persistent ones. -/
def keptStandby (k : Nat) : Bool :=
  keptModule k || k = 0x100800 || k = 0x100900 || k = 0x120000 || k = 0x120100 || k = 0x122200 || k = 0x123000

/-- The host front and the module-level collector lose their state; locks, challenges and sessions end
(R40, R483). -/
def State.hostOff (s : State) (keep : Nat → Bool) : State :=
  let s := s.hostFrontReset
  { s with
    mreg := s.mreg.filter (fun e => keep e.1)
    sec := s.sec.cold
    coll := .empty
    arb := .reset }

/-- The host front loses its power, and with it the times of rejected requests (R34, R40, R60). -/
def State.hostDark (s : State) (keep : Nat → Bool) : State :=
  let s := s.hostOff keep
  { s with host := { s.host with rejects := [] } }

/-- Both lanes end: each records the given event, releases and is granted nothing, and its domains go
off (steps 2 to 5 of the tables of R32, R39 and R60). -/
def State.lanesOff (s : State) (mode : Mode) (code : Nat) (dataA dataB : List Byte) : State :=
  let s := (s.release .A 0).release .B 0
  (s.laneOff .A mode code dataA).laneOff .B mode code dataB

/-- Data of event 0002h (R432). -/
def shutdownData (s : State) (x : LaneId) (cause : Nat) : List Byte :=
  toBytes 1 cause ++ toBytes 2 (s.mget 0x120000) ++ [0] ++ toBytes 8 (s.lane x).time64

/-- Data of event 0003h (R432) (log 25: DESIGN CHOICE). -/
def withdrawalData (s : State) (x : LaneId) : List Byte := toBytes 4 0 ++ toBytes 8 (s.lane x).time64

/-- Module-level registers that outlive a withdrawal: with the supply present the keeper goes on showing its voltage (entry
1200h, R34, R62). -/
def keptWithdrawn (supply : Bool) (k : Nat) : Bool := keptModule k || (supply && decide (k = 0x120000))

/-- The keeper after all domains went off: no supply sequence, wake, sleep or module reset in progress. -/
def Keeper.ended (k : Keeper) (phase : Phase) : Keeper :=
  { k with
    phase := phase, charged := false, onHoldUp := false, warmNs := 0, locate := 0, lampTest := false
    knockDue := false, fired := 0, sleeping := none, sleepBeat := none, announce := 0, annSeq := 0
    deferred := false, serviceLink := false, tossPending := true, tossWindow := false, askedA := false
    firstInsertion := true, hrstLow := false }

/-- The keeper after it lost its power (R38 to R40): it mates anew (R23), and a withdrawal is forgotten. -/
def Keeper.lost (k : Keeper) : Keeper :=
  { k.ended .off with supplyGood := false, mated := false, withdrawn := false }

/-- R504: what the board temperature, in 0.01 °C, lets the start-up do next. -/
def coldPhase (variant2 : Bool) (temp : Int) : Phase :=
  if variant2 then
    if temp < -5000 then .coldWait else if temp < -4000 then .warmUp else .charging
  else if temp < -4000 then .coldWait else .charging

/-- The trigger of a start-up, from which its first possession is timed (entry 1106h:02h, R43, R55, R71). -/
def State.startTrigger (s : State) : State := { s with arb := { s.arb with changeAt := s.clock } }

/-- R43 steps 1 and 2: the wake cause is recorded, and entry 1202h decides between standby and the start;
the start has train scope (R53) and meets the cold-start check (R504). -/
def State.startUp (s : State) (temp : Int) : State :=
  let s := s.startTrigger.mput 0x123000 0x0100
  if s.mget 0x120200 = 1 then { s with keeper := s.keeper.ended .standby }
  else { s with keeper := { s.keeper.ended (coldPhase s.variant2 temp) with
    knockDue := true, charged := s.keeper.charged } }

/-- Both lanes start together: the stored possession mode takes effect (R97, entry 1102h), and the
Toss is taken anew (R64, R399). -/
def LaneState.bootWithStoredMode (l : LaneState) : LaneState :=
  { l with poss := { Poss.reset with interlock := decide (l.get 0x110200 = 1) } }

/-- R43 step 4, R55 step 4: a due knock is sent by each lane. -/
def State.knocks (s : State) : State :=
  if s.keeper.knockDue then
    let s := (s.inc .A 0x123300).inc .B 0x123300
    { s with keeper := { s.keeper with knockDue := false } }
  else s

/-- R429, R504: the operating time of a lane whose core was on in a warm-up. -/
def LaneState.warmed (l : LaneState) (ns : Nat) : LaneState := { l with log := { l.log with opNs := l.log.opNs + ns } }

/-- R38, R43 step 3: HF and both lanes switch on, the lanes boot and knock. A slot code that was unreadable now raises
source 135 (R24). The warm-up counts in the operating time of both lanes, whose cores were on (R429, R504) (log 65: DESIGN
CHOICE). -/
def State.powerOn (s : State) : State :=
  let warm := s.keeper.warmNs
  let s := { s with
    keeper := { s.keeper with phase := .awake, charged := true, warmNs := 0 }
    arb := { Arbiter.reset with running := true, changeAt := s.arb.changeAt } }
  let s := s.updBoth (fun l => l.powerUp.bootWithStoredMode.warmed warm)
  let s := s.knocks
  if s.mget 0x100800 = 0xFF then s.raise .module 135 else s

/-- R31, R32, R43: the domains switch on once the start-up waits for nothing but the hold-up, the hold-up is charged and
the module is mated. -/
def State.powerWhenReady (s : State) : State :=
  if s.keeper.phase = .charging ∧ s.keeper.charged = true ∧ s.keeper.mated = true then s.powerOn else s

/-! ### Presence (R23, R32, R34) -/

/-- PRES_S closes; mating needs 50 ms more (R23). -/
def doPresSClose (s : State) : State := { s with keeper := { s.keeper with presClosed := true } }

/-- R24: the slot code from the eight reads, FFh if any two disagree; reads of another number are no reading of it. -/
def slotCodeOf (reads : List (BitVec 4)) : Nat :=
  match reads with
  | [] => 0xFF
  | r :: rs => if rs.length = 7 ∧ rs.all (fun q => q = r) then r.toNat else 0xFF

/-- The module becomes mated (R23, R24, R30, R32): slot code, mated time, lamp test. In a hot insertion this moment counts
as supply application and the start-up begins; where the supply came after the insertion, the start-up runs already (R43).
The mated time is the operating time that lane A's recorder holds: the manual does not say which lane's a module entry
shows (log 58: DESIGN CHOICE). -/
def doMated (reads : List (BitVec 4)) (temp : Int) (s : State) : State :=
  if !s.keeper.presClosed || s.keeper.mated || s.keeper.withdrawn || s.keeper.phase = .off then s
  else
    let s := { s with keeper := { s.keeper with mated := true } }
    let s := if s.keeper.phase = .unmated then s.startUp temp else s
    let s := (s.mput 0x100800 (slotCodeOf reads)).mput 0x100900 (s.laneA.log.opNs / 1000000)
    { s with keeper := { s.keeper with lampTest := true } }.powerWhenReady

/-- PRES_S opens; the withdrawal of a mated module is confirmed 20 µs later (R23). One that is not mated yet waits for its
insertion again (R32, log 58: DESIGN CHOICE). -/
def doPresSOpen (s : State) : State :=
  let waits := !s.keeper.mated && decide (s.keeper.phase ≠ .off ∧ s.keeper.phase ≠ .awake)
  { s with keeper := { s.keeper with presClosed := false, phase := if waits then .unmated else s.keeper.phase } }

/-- R23, R32, R33: the withdrawal sequence. Each lane records event 0003h, outputs go off, neither lane
is granted possession, and all domains go off. With the supply gone the hold-up ends with it, and the keeper is as after the
loss of its power (R23, R35). -/
def doWithdrawalConfirmed (s : State) : State :=
  if s.keeper.presClosed || !s.keeper.mated then s
  else
    let s := s.lanesOff .unpowered 0x0003 (withdrawalData s .A) (withdrawalData s .B)
    let s := s.hostDark (keptWithdrawn s.keeper.supplyGood)
    if s.keeper.supplyGood then { s with keeper := { s.keeper.ended .unmated with mated := false, withdrawn := true } }
    else { s with keeper := s.keeper.lost }

/-- R34: PRES_S closed again after a confirmed withdrawal: the module has reset, and the closure counts
as a new insertion. -/
def doReinsertionAfterWithdrawal (s : State) : State :=
  if s.keeper.withdrawn && s.keeper.presClosed then
    { s with keeper := { s.keeper with withdrawn := false } }
  else s

/-! ### Lamps (R29, R30) -/

/-- Entry 100Ah:00h Locate: n seconds, 0 ends it (R30). Operator and above. -/
def doLocate (acc : Acc) (n : BitVec 16) (s : State) : State :=
  s.moduleCommand acc 0x100A 0 1 true (decide (n.toNat ≤ 3600))
    ({ s with keeper := { s.keeper with locate := n.toNat } }.answer 0)

/-- The locate time has run out (R30). -/
def doLocateExpiry (s : State) : State := { s with keeper := { s.keeper with locate := 0 } }

/-- The 600 ms of the lamp test have passed (R30). -/
def doLampTestEnd (s : State) : State := { s with keeper := { s.keeper with lampTest := false } }

/-! ### Supply (R37 to R40, R43) -/

/-- The supply is watched, unless a block reset of the input stage or the keeper runs (R412). -/
def State.supplyWatched (s : State) : Bool :=
  !s.coll.resetting .inputStage && !s.coll.resetting .keeper

/-- The supply rises to 8.8 V or more (R37): start-up of a module that is inserted (R43), whose domains switch on when
it is mated (R32). While the module runs from the hold-up, the supply is good again and INTERRUPTION_BRIDGED or the
power-fail sequence follows (log 7: DESIGN CHOICE). -/
def doSupplyGood (volts : BitVec 16) (temp : Int) (s : State) : State :=
  if s.keeper.supplyGood || volts.toNat < 880 || !s.supplyWatched then s
  else
    let s := ({ s with keeper := { s.keeper with supplyGood := true } }).mput 0x120000 volts.toNat
    if s.keeper.phase ≠ .off then s
    else if s.keeper.presClosed && !s.keeper.withdrawn then (s.startUp temp).mput 0x120000 volts.toNat
    else { s with keeper := { s.keeper with phase := .unmated } }

/-- R504: the keeper reads the temperature again. -/
def doColdStartRecheck (temp : Int) (s : State) : State :=
  if s.keeper.phase = .coldWait then
    { s with keeper := { s.keeper with phase := coldPhase s.variant2 temp } }.powerWhenReady
  else s

/-- R504: the warm-up has ended, and the start-up continues, with its times counted from here. -/
def doWarmUpEnd (s : State) : State :=
  if s.keeper.phase = .warmUp then { s.startTrigger with keeper := { s.keeper with phase := .charging } }.powerWhenReady
  else s

/-- R38, R43 step 3: the hold-up is charged, and a start-up that waits for it goes on. Without a supply, and in standby,
nothing charges it. -/
def doHoldUpCharged (s : State) : State :=
  if s.keeper.supplyGood && decide (s.keeper.phase ≠ .off ∧ s.keeper.phase ≠ .standby) then
    { s with keeper := { s.keeper with charged := true } }.powerWhenReady
  else s

/-- R39, R40: the power-fail sequence runs to its end with a cause (R432). -/
def State.powerFails (s : State) (cause : Nat) : State :=
  let s := s.lanesOff .unpowered 0x0002 (shutdownData s .A cause) (shutdownData s .B cause)
  let s := s.hostDark keptModule
  { s with keeper := s.keeper.lost }

/-- The keeper loses its power with no lane on (R38, R42). -/
def State.keeperOff (s : State) : State :=
  { s with
    keeper := s.keeper.lost
    sec := s.sec.cold
    mreg := s.mreg.filter (fun e => keptModule e.1)
    laneA := { s.laneA with mode := .unpowered }
    laneB := { s.laneB with mode := .unpowered } }

/-- The supply has been below 8.2 V for 50 µs (R37): before the hold-up is charged the keeper goes off with it (R38);
awake, the module runs from the hold-up (R39); while it enters sleep, the power-fail sequence takes over at once (R60). In
standby the keeper goes off with the supply too: the manual does not say what of the hold-up a sleep entry leaves above
its reserve (R42) (log 65: DESIGN CHOICE). -/
def doSupplyLost (volts : BitVec 16) (s : State) : State :=
  if !s.keeper.supplyGood || 820 ≤ volts.toNat || !s.supplyWatched then s
  else
    let s := ({ s with keeper := { s.keeper with supplyGood := false } }).mput 0x120000 volts.toNat
    if s.keeper.phase = .awake then
      let s := s.mput 0x120100 (withBit (s.mget 0x120100) 4 true)
      let s := { s with keeper := { s.keeper with onHoldUp := true, charged := false } }
      if s.keeper.sleeping.isSome then s.powerFails 1 else s
    else s.keeperOff

/-- R39: the supply is good again before the reserve level: one count, one event 0004h per lane that is awake. -/
def doInterruptionBridged (micros : BitVec 32) (lowest : BitVec 16) (volts : BitVec 16) (s : State) : State :=
  if s.keeper.onHoldUp && decide (880 ≤ volts.toNat) && s.supplyWatched then
    let s := { s with keeper := { s.keeper with supplyGood := true } }
    let s := (s.mput 0x120000 volts.toNat).minc 0x120300
    let s := s.recordBoth 0x0004 (toBytes 4 micros.toNat ++ toBytes 2 lowest.toNat)
    { s with keeper := { s.keeper with onHoldUp := false } }
  else s

/-- R39, R40: the power-fail sequence runs to its end; the shutdown record's cause is 1, or 5 where the
supply has come back during it. The module then starts as on supply application (log 25: DESIGN CHOICE). Where no lane is
on, the keeper alone goes off (R42). -/
def doPowerFailSequence (s : State) : State :=
  if !s.keeper.onHoldUp then s
  else if s.keeper.phase = .awake then s.powerFails (if s.keeper.supplyGood then 5 else 1)
  else s.keeperOff

/-- SUPP−SUPN exceeded 160 V: bit 1 of entry 1201h (R63), while the supply is watched (R412). -/
def doOvervoltage (s : State) : State :=
  if s.keeper.phase = .off || !s.supplyWatched then s else s.mput 0x120100 (withBit (s.mget 0x120100) 1 true)

/-! ### Wake (R47 to R55) -/

/-- Bits of entry 1230h for a knock on a line (R63) (log 29: DEDUCED). -/
def knockBits (line : LaneId) (end1 end2 : Bool) : Nat :=
  match line with
  | .A => b2n end1 + 2 * b2n end2
  | .B => 4 * b2n end1 + 8 * b2n end2

/-- R49, R54: knock detectors fire. In standby they wake the module; awake, the lane of the line counts (log 29:
DEDUCED). -/
def doKnock (line : LaneId) (end1 end2 : Bool) (s : State) : State :=
  if !end1 && !end2 then s
  else if s.keeper.phase = .standby then
    { s with keeper := { s.keeper with fired := s.keeper.fired ||| knockBits line end1 end2 } }
  else if s.keeper.phase = .awake ∧ (s.lane line).awake then s.inc line 0x123200
  else s

/-- R51, R54: HWAKE rises and qualifies; it has an effect in standby only. -/
def doHwake (s : State) : State :=
  if s.keeper.phase = .standby then
    { s with keeper := { s.keeper with fired := s.keeper.fired ||| 0x10 } }
  else s

/-- R52, R54: a wake input rises; it has an effect in standby only, on a pin of function 4. -/
def doFieldWake (x : LaneId) (pin : Fin 24) (s : State) : State :=
  if s.keeper.phase = .standby ∧ s.get x (key (0x5000 + pin.val) 1) = 4 then
    { s with keeper := { s.keeper with fired := s.keeper.fired ||| (0x40 * (laneBit x + 1)) } }
  else s

/-- R53: whether a wake by these detectors has train scope. Where HWAKE and a wake input fired within one wake and their
scopes differ, the manual does not say which holds: train scope if either has it (log 58: DESIGN CHOICE). -/
def trainScope (fired scope : Nat) : Bool :=
  decide (fired % 16 ≠ 0) || (bitAt fired 4 && !bitAt scope 0)
    || ((bitAt fired 6 || bitAt fired 7) && !bitAt scope 1)

/-- R55 steps 1 and 2: the keeper records the wake cause, and the start-up runs; with train scope each
lane knocks. -/
def doWakeFromStandby (temp : Int) (s : State) : State :=
  if s.keeper.phase = .standby ∧ s.keeper.fired ≠ 0 then
    let f := s.keeper.fired
    let s := s.startTrigger.mput 0x123000 f
    { s with keeper := { s.keeper.ended (coldPhase s.variant2 temp) with
        knockDue := trainScope f (s.mget 0x123100), onHoldUp := s.keeper.onHoldUp } }
  else s

/-! ### Sleep (R57 to R61) -/

/-- R57: what refuses a sleep: a running Roll, an update, a shutdown record being written; or a sleep
already accepted. -/
def State.maySleep (s : State) : Bool :=
  !s.rolling && decide (s.get .A 0x112000 = 0) && decide (s.get .B 0x112000 = 0)
    && !s.laneA.log.shutdown && !s.laneB.log.shutdown && s.keeper.sleeping.isNone

/-- R60 step 1: a lane sends no scheduled frames, messages and Roll frames from here on, not those that wait in its egress
queues either, and its Pattern stops; its shutdown record counts as being written. -/
def LaneState.beginSleep (l : LaneState) : LaneState :=
  let silent (p : Port) : Port := { p with queue := p.queue.filter (fun f => !stopsForSleep f) }
  { ((l.updPort .e1 silent).updPort .e2 silent) with quiet := true, log := { l.log with shutdown := true } }

/-- The sleep is accepted: sleep entry runs next (R60). -/
def State.beginSleep (s : State) (cause : Nat) : State :=
  { s with
    keeper := { s.keeper with sleeping := some cause, sleepBeat := none, deferred := false }
    laneA := s.laneA.beginSleep
    laneB := s.laneB.beginSleep }

/-- Entry 1220h is written from the host link or the service port (Sleep, chapter 02). -/
def sleepPath (p : Path) : Bool :=
  match p with
  | .host => true
  | .service _ => true
  | _ => false

/-- Entry 1220h:00h written 1: local sleep (R57, R60). -/
def doLocalSleep (acc : Acc) (s : State) : State :=
  if !sleepPath acc.path then s.abort abDenied
  else s.moduleCommand acc 0x1220 0 1 s.maySleep true ((s.beginSleep 2).answer 0)

/-- R58: the sleep beat of a train sleep: entry 1221h beats after the current one, in ns. -/
def State.sleepBeatTime (s : State) : Nat :=
  ((s.lane (s.holder.getD .A)).trainTime / 1000000 + s.mget 0x122100) * 1000000

/-- Entry 1220h:00h written 2: train sleep (R57, R58): the sleep beat is fixed, and its announcement is
due in 8 consecutive beats. A second one while a sleep beat is in force, of which the manual says nothing, puts its own beat
in the place of the first and announces it (log 58: DESIGN CHOICE). -/
def doTrainSleep (acc : Acc) (s : State) : State :=
  if !sleepPath acc.path then s.abort abDenied
  else s.moduleCommand acc 0x1220 0 1 s.maySleep true
    ({ s with keeper := { s.keeper with sleepBeat := some s.sleepBeatTime, announce := 8 } }.answer 0)

/-- R59: an update or a shutdown record defers a sleep. -/
def State.sleepDefers (s : State) : Bool :=
  decide (s.get .A 0x112000 ≠ 0) || decide (s.get .B 0x112000 ≠ 0) || s.laneA.log.shutdown || s.laneB.log.shutdown

/-- The sleep beat has come (R58, R59): the node enters sleep, or defers it and counts. -/
def doSleepBeat (s : State) : State :=
  match s.keeper.sleepBeat with
  | none => s
  | some _ =>
    if s.sleepDefers then
      ({ s with keeper := { s.keeper with sleepBeat := none, announce := 0, deferred := true } }).minc 0x122200
    else s.beginSleep 3

/-- R59: a deferred sleep is entered as soon as nothing defers it. -/
def doSleepDeferredEnd (s : State) : State :=
  if s.keeper.deferred && !s.sleepDefers then s.beginSleep 3 else s

/-- R60: sleep entry. Each lane writes its shutdown record, outputs go off, possession is released, every domain but KP
goes off, and the module is in standby. With the supply lost before the sleep was accepted, the keeper stays on from the
hold-up, until its reserve level (R42). -/
def doSleepEntry (s : State) : State :=
  match s.keeper.sleeping with
  | none => s
  | some cause =>
    let k := s.keeper
    let s := s.lanesOff .asleep 0x0002 (shutdownData s .A cause) (shutdownData s .B cause)
    let s := s.hostDark keptStandby
    { s with keeper := { s.keeper.ended .standby with onHoldUp := k.onHoldUp } }

/-- R61: what refuses to put the peer of the lane in possession to sleep. A stopped peer leaves its stop only by the
commands that R413 names. -/
def State.peerMaySleep (s : State) (x : LaneId) : Bool :=
  decide (s.holder = some x) && decide ((s.lane x.peer).mode ≠ .stopped) && decide (s.get x.peer 0x112000 = 0)
    && !(s.lane x.peer).log.shutdown && !s.rolling

/-- Entry 1211h:00h written 0: the peer lane sleeps (R61). It records its shutdown, its pins and bypass
follow steps 2 to 4 of sleep entry, and the lane in possession records the sleep (R443). The manual does not say what a
request does whose peer sleeps already: it is accepted and recorded again (log 58: DESIGN CHOICE). -/
def doPeerLaneSleep (acc : Acc) (s : State) : State :=
  s.command acc 0x1211 0 1 s.peerMaySleep true (fun x =>
    (((s.laneOff x.peer .asleep 0x0002 (shutdownData s x.peer 4)).record x 0x0002 (shutdownData s x 4))).answer 0)

/-- Data of event 0001h (R432). -/
def laneStartData (s : State) (x : LaneId) : List Byte :=
  toBytes 2 (s.mget 0x123000) ++ toBytes 1 (s.get x 0x140B01) ++ toBytes 1 (s.get x 0x140B02)
    ++ toBytes 1 (s.get x 0x112100)

/-- A lane that starts while its peer runs the other possession mode adopts the peer's (R97, 1102h). -/
def State.adoptMode (s : State) (x : LaneId) : State :=
  s.upd x (fun l => { l with poss := { l.poss with interlock := (s.lane x.peer).poss.interlock } })

/-- Entry 1211h:00h written 1: the peer lane wakes, boots, and does not knock (R61); the lane in
possession records the wake (R443). Entry 1230h, which has no bit for this wake, stays as it was (log 65: DESIGN CHOICE).
One whose peer is awake already, of which the manual says nothing, is accepted and does
nothing (log 58: DESIGN CHOICE). -/
def doPeerLaneWake (acc : Acc) (s : State) : State :=
  s.command acc 0x1211 0 1 (fun x => decide (s.holder = some x)) true (fun x =>
    if (s.lane x.peer).awake then s.answer 0
    else
      let s := (s.upd x.peer LaneState.powerUp).adoptMode x.peer
      (s.record x 0x0001 (laneStartData s x.peer)).answer 0)

/-! ### Host and service levels (R19, R27) -/

/-- HVIO goes (R19): host link outputs are high-impedance and inputs ignored. -/
def doHvioAbsent (s : State) : State := { s with keeper := { s.keeper with hvio := false } }

/-- HVIO comes (R19). -/
def doHvioPresent (s : State) : State := { s with keeper := { s.keeper with hvio := true } }

/-! ### The meanings -/

def execPresSClose (s : State) : Out := .next (doPresSClose s)
def execMated (reads : List (BitVec 4)) (temp : Int) (s : State) : Out := .next (doMated reads temp s)
def execPresSOpen (s : State) : Out := .next (doPresSOpen s)
def execWithdrawalConfirmed (s : State) : Out := .next (doWithdrawalConfirmed s)
def execReinsertionAfterWithdrawal (s : State) : Out := .next (doReinsertionAfterWithdrawal s)
def execLocate (acc : Acc) (n : BitVec 16) (s : State) : Out := .next (s.through acc (doLocate acc n s))
def execLocateExpiry (s : State) : Out := .next (doLocateExpiry s)
def execSupplyGood (volts : BitVec 16) (temp : Int) (s : State) : Out := .next (doSupplyGood volts temp s)
def execColdStartRecheck (temp : Int) (s : State) : Out := .next (doColdStartRecheck temp s)
def execWarmUpEnd (s : State) : Out := .next (doWarmUpEnd s)
def execHoldUpCharged (s : State) : Out := .next (doHoldUpCharged s)
def execSupplyLost (volts : BitVec 16) (s : State) : Out := .next (doSupplyLost volts s)
def execInterruptionBridged (micros : BitVec 32) (lowest volts : BitVec 16) (s : State) : Out :=
  .next (doInterruptionBridged micros lowest volts s)
def execPowerFailSequence (s : State) : Out := .next (doPowerFailSequence s)
def execKnock (line : LaneId) (end1 end2 : Bool) (s : State) : Out := .next (doKnock line end1 end2 s)
def execHwake (s : State) : Out := .next (doHwake s)
def execFieldWake (x : LaneId) (pin : Fin 24) (s : State) : Out := .next (doFieldWake x pin s)
def execWakeFromStandby (temp : Int) (s : State) : Out := .next (doWakeFromStandby temp s)
def execLocalSleep (acc : Acc) (s : State) : Out := .next (s.through acc (doLocalSleep acc s))
def execTrainSleep (acc : Acc) (s : State) : Out := .next (s.through acc (doTrainSleep acc s))
def execSleepBeat (s : State) : Out := .next (doSleepBeat s)
def execSleepDeferredEnd (s : State) : Out := .next (doSleepDeferredEnd s)
def execSleepEntry (s : State) : Out := .next (doSleepEntry s)
def execPeerLaneSleep (acc : Acc) (s : State) : Out := .next (s.through acc (doPeerLaneSleep acc s))
def execPeerLaneWake (acc : Acc) (s : State) : Out := .next (s.through acc (doPeerLaneWake acc s))
def execOvervoltage (s : State) : Out := .next (doOvervoltage s)
def execHvioAbsent (s : State) : Out := .next (doHvioAbsent s)
def execHvioPresent (s : State) : Out := .next (doHvioPresent s)
def execLampTestEnd (s : State) : Out := .next (doLampTestEnd s)

end Sys2Proof.Machine
end

