-- ==== Sys2Proof/Machine/Possession.lean ====
section
/-! DEFINITION. Mirror, arbiter, interlock, changeover, lane reset and firmware update (chapter 03,
R492 to R495). -/

namespace Sys2Proof.Machine

/-! ### The mirror link (R66 to R70) -/

/-- A lane that sends and receives mirror frames: it boots, or it is ready (R66). -/
def LaneState.mirrors (l : LaneState) : Bool := decide (l.mode = .booting) || l.ready

/-- A mirror frame can pass: both lanes run, and neither resets its end of the links (R412). -/
def State.mirrorAlive (s : State) (x : LaneId) : Bool :=
  (s.lane x).mirrors && (s.lane x.peer).mirrors && !(s.lane x).coll.resetting .links
    && !(s.lane x.peer).coll.resetting .links

/-- R76: a lane in arbiter-less hold releases at once when its peer's word shows the arbiter link up. -/
def State.holdCheck (s : State) (x : LaneId) : State :=
  if (s.lane x).poss.hold && bitAt (s.lane x).poss.peerWord 10 then s.release x 3 else s

/-- R440: a peer's recorder failure is recorded once as event 0060h; once its recorder works again, the next failure is
another one. -/
def State.peerRecorderFailed (s : State) (x : LaneId) : State :=
  match (s.lane x.peer).log.failed with
  | none => s.upd x (fun l => { l with poss := { l.poss with peerFailTold := false } })
  | some cause =>
    if (s.lane x).poss.peerFailTold || (s.lane x).log.failed.isSome then s
    else
      let s := s.record x 0x0060 (toBytes 1 (laneBit x.peer) ++ toBytes 1 cause)
      s.upd x (fun l => { l with poss := { l.poss with peerFailTold := true } })

/-- R68: no valid frame for 50 µs: the link is lost; the mirror counts as current for 1 ms. A lane in
arbiter-less hold releases (R76). -/
def doMirrorLost (x : LaneId) (s : State) : State :=
  if !(s.lane x).awake || !(s.lane x).poss.mirrorUp then s
  else
    let s := s.upd x (fun l => { (l.inc 0x111200) with poss := { l.poss with
      mirrorUp := false, allowance := true, resync := false, goodFrames := 0 } })
    let s := if (s.lane x).poss.hold then s.release x 3 else s
    s.raiseLane x 96

/-- R68: the 1 ms allowance has passed. -/
def doMirrorCurrentAllowanceEnd (x : LaneId) (s : State) : State :=
  (s.upd x (fun l => { l with poss := { l.poss with allowance := false } })).tossCheck

/-- R68: 100 consecutive valid frames have come: the link is up. A resync runs if some lane holds
possession; otherwise there is nothing to send and the resync is complete. -/
def doMirrorUp (x : LaneId) (s : State) : State :=
  let p := (s.lane x).poss
  if p.mirrorUp || p.goodFrames < 100 || !s.mirrorAlive x then s
  else
    let s := s.upd x (fun l => { l with poss := { l.poss with
      mirrorUp := true, allowance := false, resync := s.holder.isSome, upNoHolder := s.holder.isNone, goodFrames := 0 } })
    (s.lower (.lane x) 96).tossCheck

/-! ### The Toss and the arbiter (R71 to R77) -/

/-- Lane B may be granted or acquire possession under R71 and R72: its 10 ms have passed and lane A has
not asked. -/
def State.tossAllows (s : State) (x : LaneId) : Bool :=
  match x with
  | .A => true
  | .B => s.keeper.tossWindow && !s.keeper.askedA

/-- A changeover is running: a release whose limit has not passed (R72, R83). -/
def State.changing (s : State) : Bool := s.laneA.poss.changing || s.laneB.poss.changing

/-- The node may have a lane in possession: awake, not in HRST_N, not entering sleep (R32, R39, R60, R399). -/
def State.mayHold (s : State) : Bool := s.awake && !s.keeper.hrstLow && s.keeper.sleeping.isNone

/-- An eligible lane asks for possession in lease mode: it sends a request to the arbiter over its link (R72, R73). In
interlock mode it asks by starting the acquisition of R81 (log 59: DEDUCED). -/
def State.ask (s : State) (x : LaneId) : State :=
  if !s.eligible x || !s.mayHold || (s.lane x).poss.interlock || !(s.lane x).poss.arbLink then s
  else
    let s := if x = .A then { s with keeper := { s.keeper with askedA := true } } else s
    s.upd x (fun l => { l with poss := { l.poss with request := true, view := l.poss.viewOfPeer } })

/-- R71: the Toss. Each eligible lane asks, lane A first. -/
def doToss (s : State) : State := if s.holder.isSome then s else (s.ask .A).ask .B

/-- R71, R72: 10 ms have passed since lane B became eligible, or since no lane held possession. -/
def doTossBWindowExpiry (s : State) : State :=
  if s.holder.isNone && s.eligible .B && !s.keeper.askedA then
    { s with keeper := { s.keeper with tossWindow := true } }
  else s

/-- R73: a valid arbiter frame: the link is up, and an eligible standby lane keeps its request open. -/
def doArbiterFrame (x : LaneId) (s : State) : State :=
  if !(s.lane x).ready || !s.arb.running || (s.lane x).coll.resetting .links then s
  else
    let s := s.upd x (fun l => { l with poss := { l.poss with arbLink := true } })
    let s := s.lower (.lane x) 98
    if (s.lane x).mode ≠ .possession && !(s.lane x).poss.interlock then s.ask x else s

/-- R73: no valid arbiter frame for 30 µs. The lane's request is open no longer, so lane A asks no longer (R71, R72, log 59:
DEDUCED). -/
def doArbiterLinkLost (x : LaneId) (s : State) : State :=
  if !(s.lane x).poss.arbLink then s
  else
    let s := if x = .A then { s with keeper := { s.keeper with askedA := false } } else s
    (s.upd x (fun l => { l with poss := { l.poss with arbLink := false, request := false } })).raiseLane x 98

/-- The arbiter accepts a renewal (R74, R77): from its holder, after an expiry only if it has granted no
lane since, and during its restart wait from any lane in possession. One of a lane in arbiter-less hold that comes after the
wait and before any grant is not accepted, as the arbiter then has no holder: the manual says only when it must not accept
(log 65: DESIGN CHOICE). -/
def State.acceptsRenewal (s : State) (x : LaneId) : Bool :=
  s.arb.running && (s.lane x).poss.arbLink &&
    (s.arb.waiting || (decide (s.arb.holder = some x) && (!s.arb.expired || !s.arb.granted)))

/-- R74: the lane in possession sends a renewal with its view of its peer. -/
def doRenewal (x : LaneId) (s : State) : State :=
  let l := s.lane x
  if l.mode ≠ .possession || l.poss.interlock then s
  else
    let ok := s.acceptsRenewal x
    let s := s.upd x (fun l => { l with poss := { l.poss with
      view := l.poss.viewOfPeer, renewals := if ok then l.poss.renewals + 1 else l.poss.renewals } })
    if ok then { s with arb := { s.arb with holder := some x, expired := false, waiting := false } } else s

/-- R74, R76: an acknowledged renewal extends the local lease and ends an arbiter-less hold. -/
def doRenewalAck (x : LaneId) (s : State) : State :=
  if (s.lane x).mode = .possession ∧ (s.lane x).poss.renewals ≠ 0 then
    s.upd x (fun l => { l with poss := { l.poss with lease := true, hold := false, renewals := 0, ackedAt := s.clock } })
  else s

/-- R76: the local lease ends without an acknowledged renewal: arbiter-less hold if the peer stands by and
does not reach the arbiter, else release; the changeover that then begins is timed from the last acknowledged renewal
(R83). -/
def doLocalLeaseEnd (x : LaneId) (s : State) : State :=
  let p := (s.lane x).poss
  if (s.lane x).mode ≠ .possession || p.interlock || !p.lease then s
  else if p.mirrorUp && decide (p.peerWord / 4096 = 2) && !bitAt p.peerWord 10 then
    s.upd x (fun l => { l with poss := { l.poss with lease := false, hold := true } })
  else
    let s := s.release x 3
    { s with arb := { s.arb with changeAt := p.ackedAt } }

/-- R75: the holder's lease expires at the arbiter. -/
def doLeaseExpiry (s : State) : State :=
  if s.arb.running && s.arb.holder.isSome then
    { s with arb := { s.arb with expired := true, granted := false } }
  else s

/-- The conditions of R75 for a grant to a lane. Once no changeover runs, R71 and R72 decide (R72, R91). -/
def State.mayGrant (s : State) (x : LaneId) : Bool :=
  let l := s.lane x
  s.mayHold && s.arb.running && !s.arb.waiting && l.poss.request && !l.poss.interlock && l.poss.arbLink
    && decide (l.poss.view ≠ .acting) && s.eligible x
    && ((s.arb.released && s.changing) || (s.arb.holder.isSome && s.arb.expired && decide (s.arb.holder ≠ some x) && s.changing)
        || (s.holder.isNone && (s.arb.holder.isNone || s.arb.expired) && !s.changing && s.tossAllows x))

/-- The cause that entry 1106h:01h shows for an acquisition: the cause with which the changeover began, else the Toss. -/
def State.acquireCause (s : State) (x : LaneId) : Nat :=
  if (s.lane x.peer).poss.changing then (s.lane x.peer).poss.releaseCause
  else if (s.lane x).poss.changing then (s.lane x).poss.releaseCause
  else 6

/-- A lane acquires possession, and sends its whole state to a peer whose mirror came up while no lane
held possession: a resync there (R68, R86). -/
def State.take (s : State) (x : LaneId) : State :=
  let s := s.acquire x (s.acquireCause x)
  s.upd x.peer (fun l => { l with poss := { l.poss with
    resync := l.poss.resync || (l.poss.mirrorUp && l.poss.upNoHolder), upNoHolder := false } })

/-- An explicit release of possession (R84, R87). One that no planned changeover asks for is a fault reaction's in
lease mode, and in interlock mode the pair that drops (entry 1106h:01h, log 59: DEDUCED). -/
def doRelease (x : LaneId) (s : State) : State :=
  s.release x (if s.arb.planned.isSome then 2 else if (s.lane x).poss.interlock then 4 else 1)

/-- R77: the arbiter runs again after its restart and waits 1 ms for renewals; source 132 leaves fault. -/
def doArbiterRestart (s : State) : State :=
  if !s.awake then s
  else
    ({ s with arb := { s.arb with
        running := true, waiting := true, holder := none, expired := false, released := false
        granted := false } }).lower .module 132

/-- R77: the wait for renewals ends; with no lease confirmed the arbiter grants by R71. -/
def doArbiterRenewalWaitEnd (s : State) : State := { s with arb := { s.arb with waiting := false } }

/-! ### Interlock (R79 to R82) -/

/-- R80: the reading of the peer's pair stays invalid for more than 10 µs. -/
def doInterlockPairInvalid (x : LaneId) (s : State) : State :=
  if !(s.lane x).awake || !(s.lane x).poss.interlock then s
  else
    ((s.upd x (fun l => { (l.inc 0x111300) with poss := { l.poss with pairBroken := true } })).tossCheck).raiseLane x 97

/-- What every step of R81 asks of a lane: it is eligible, the node may act, the peer reads not acting, and outside a
changeover the Toss lets it (R69, R71, R72). Lane B therefore starts R81 only once its 10 ms have passed: the manual says
both that it asks at once, which is to start R81, and that lane A may still ask before it (log 65: DESIGN CHOICE). -/
def State.mayAcquire (s : State) (x : LaneId) : Bool :=
  s.eligible x && s.mayHold && decide (s.pairReading x = .notActing) && (s.changing || s.tossAllows x)

/-- R81 step 1: an eligible lane that reads its peer as not acting starts the acquisition. -/
def doInterlockAcquisition (x : LaneId) (s : State) : State :=
  let l := s.lane x
  if l.poss.interlock && s.mayAcquire x && decide (l.poss.acq = .idle) then
    let s := s.upd x (fun l => { l with poss := { l.poss with acq := .confirming } })
    if x = .A then { s with keeper := { s.keeper with askedA := true } } else s
  else s

/-- R81 steps 2 and 3: the reading was confirmed for 20 µs, and the lane raises its pair. -/
def doInterlockConfirmEnd (x : LaneId) (s : State) : State :=
  if (s.lane x).poss.acq ≠ .confirming then s
  else if s.mayAcquire x then
    s.upd x (fun l => { l with poss := { l.poss with acq := .raised, pump := true } })
  else s.upd x (fun l => { l with poss := { l.poss with acq := .idle } })

/-- R81 step 5: a lane lowers its pair and stands by again. -/
def LaneState.lowerPair (l : LaneState) : LaneState := { l with poss := { l.poss with acq := .idle, pump := false } }

/-- R82: an acting lane reads a valid "acting" from its peer: it releases at once, and the overlap raises
source 99. -/
def doPeerActingSeen (x : LaneId) (s : State) : State :=
  if (s.lane x).mode = .possession ∧ (s.lane x).poss.interlock ∧ s.pairReading x = .acting then
    (s.release x 4).raiseLane x 99
  else s

/-- R83, R120: the lane's core stops silently. Its pump, mirror frames and bypass drive stop; its field side goes on
holding the outputs until its watchdog expires; an open read with side effect ends (R90). A holder's stop begins a
changeover, by lease expiry or by the drop of its pair (entry 1106h:01h). -/
def doLockstepToggleStop (x : LaneId) (s : State) : State :=
  let l := s.lane x
  if !l.awake || decide (l.mode = .stopped) || decide (l.mode = .dead) then s
  else
    let acting := l.mode = .possession
    let s := s.upd x (fun l => { (l.dropPorts s.clock .off).closeBypass with
      mode := .dead
      poss := { l.poss with
        pump := false, acq := .idle, request := false, lease := false, hold := false, arbLink := false
        frozen := l.poss.frozen || decide (l.mode = .possession), changing := decide (l.mode = .possession)
        limitPassed := false, releaseCause := if l.poss.interlock then 4 else 3 } })
    if acting then
      ({ s with
        arb := { s.arb with changeAt := s.clock }
        keeper := { s.keeper with tossWindow := false, askedA := false } }.possessionCause).hostAtRelease x true
    else s.tossCheck

/-! ### Changeover (R83 to R93) -/

/-- R87: the peer's status word shows it in possession: the releasing lane turns its drivers off and
stands by (log 34: DEDUCED). -/
def doFreezeEnd (x : LaneId) (s : State) : State :=
  let l := s.lane x
  if l.mode = .releasing ∧ l.poss.peerWord / 4096 = 3 then
    (s.upd x (fun l => { l with
      mode := .standby
      poss := { l.poss with frozen := false, changing := false, limitPassed := false } })).outputsOff x
  else s

/-- Data of event 0021h (R432). -/
def plannedData (result mism : Nat) : List Byte := toBytes 1 result ++ toBytes 4 mism

/-- The outcome of a planned changeover goes to entry 1107h and event 0021h (R93). -/
def State.plannedResult (s : State) (x : LaneId) (result mism : Nat) : State :=
  ((s.putNode 0x110701 result).putNode 0x110702 mism).record x 0x0021 (plannedData result mism)

/-- R83, R87: the changeover limit passes without the peer in possession. The releasing lane becomes
eligible again, and a planned changeover reads "not completed". -/
def doChangeoverLimitPassed (x : LaneId) (s : State) : State :=
  let l := s.lane x
  if !l.poss.changing || (s.lane x.peer).mode = .possession then s
  else
    let s := s.upd x (fun l => { l with poss := { l.poss with
      changing := false, limitPassed := decide (l.mode = .releasing) } })
    if s.arb.planned = some x.peer then
      ({ s with arb := { s.arb with planned := none } }).plannedResult x 3 0
    else s

/-- R92: what a planned changeover needs: both lanes awake and ready, the peer eligible, no update, no
lane releasing. -/
def State.mayPlan (s : State) (x : LaneId) : Bool :=
  decide (s.holder = some x) && s.available x.peer && s.eligible x.peer
    && decide (s.get .A 0x112000 = 0) && decide (s.get .B 0x112000 = 0)
    && decide (s.laneA.mode ≠ .releasing) && decide (s.laneB.mode ≠ .releasing)

/-- Entry 1103h:00h Planned changeover: the lane in possession releases in favour of its peer (R92), whichever lane the
selector names: the entry has node scope (R97, R471). -/
def doPlannedChangeover (acc : Acc) (s : State) : State :=
  let h (x : LaneId) : LaneId := s.holder.getD x
  s.command acc 0x1103 0 1 (fun x => s.mayPlan (h x)) true (fun x =>
    (({ s with arb := { s.arb with planned := some (h x).peer } }).release (h x) 2).answer 0)

/-- R93: the 10 ms comparison of the new holder ends: pass, or output mismatch with the pin pairs. -/
def doPlannedChangeoverCheckEnd (s : State) : State :=
  match s.arb.checking with
  | none => s
  | some x =>
    let s := s.compareOutputs
    let m := s.arb.mismatch
    ({ s with arb := { s.arb with checking := none, mismatch := 0 } }).plannedResult x (if m = 0 then 1 else 2) m

/-- Entry 1104h:00h Lane reset (R97, R413, R414): possession is released first; a stopped lane restarts. -/
def doLaneReset (acc : Acc) (s : State) : State :=
  match s.target acc.sel with
  | none => s.abort abLane
  | some x =>
    if s.awake && decide ((s.lane x).mode = .stopped) then
      if s.role acc.path < 2 then s.abort abDenied
      else ((s.takeDefaults x).upd x (fun l => ((l.put 0x140B01 4).put 0x140B02 0xFF).restart s.keeper.onHoldUp .inReset)).answer 0
    else s.command acc 0x1104 0 2 (fun _ => true) true (fun x => (s.laneReset x 5 4 0xFF).answer 0)

/-! ### Firmware update (R94 to R96, R492 to R495) -/

/-- The firmware in a bank. -/
def Update.bank (u : Update) (b : Nat) : Firmware := if b = 0 then u.bank0 else u.bank1

/-- The inactive bank of a lane. -/
def LaneState.spareBank (l : LaneState) : Nat := if l.get 0x112100 = 0 then 1 else 0

/-- The firmware that a lane runs. -/
def LaneState.running (l : LaneState) : Firmware := l.upd.bank (l.get 0x112100)

/-- R493: an image's protocol lies within the running peer's accepted range, and the peer's protocol
within the image's. -/
def compatible (peer : Firmware) (protocol low high : Nat) : Bool :=
  decide (peer.peerLow ≤ protocol) && decide (protocol ≤ peer.peerHigh)
    && decide (low ≤ peer.protocol) && decide (peer.protocol ≤ high)

/-- R94: an update is accepted by a standby lane whose peer holds possession and has no update. One of its own in
download does not bar it: the manual does not say what becomes of that one, and the model begins anew (log 65: DESIGN
CHOICE). -/
def State.mayUpdate (s : State) (x : LaneId) : Bool :=
  decide ((s.lane x).mode = .standby) && decide (s.holder = some x.peer) && decide (s.get x.peer 0x112000 = 0)

/-- Data of event 0040h (R432). -/
def updateData (phase bank code : Nat) : List Byte :=
  toBytes 1 phase ++ toBytes 1 bank ++ toBytes 2 0 ++ toBytes 4 code

/-- Entry 1641h:00h Begin update (R94, R493, R495): the inactive bank is erased and download starts. The
image's protocol bytes come with the command, as its header is not loaded yet. -/
def doBeginUpdate (acc : Acc) (length : BitVec 32) (protocol peerLow peerHigh : Byte) (s : State) : State :=
  s.command acc 0x1641 0 2 s.mayUpdate (decide (128 ≤ length.toNat) && decide (length.toNat ≤ 8388608)) (fun x =>
    if !compatible (s.lane x.peer).running protocol.toNat peerLow.toNat peerHigh.toNat then s.abort abIncompatible
    else
      let s := s.upd x (fun l => { l.put 0x112000 1 with
        upd := { l.upd with length := length.toNat, erased := false, image := [] } })
      (s.record x 0x0040 (updateData 1 (s.lane x).spareBank 0)).answer 0)

/-- R470, R495: the erase of the inactive bank has ended. -/
def doBeginUpdateEraseDone (x : LaneId) (s : State) : State :=
  if s.get x 0x112000 = 1 then s.upd x (fun l => { l with upd := { l.upd with erased := true } }) else s

/-- Entry 1640h:02h Firmware chunk (R495): in ascending offset without gaps, busy until the erase ends. -/
def doFirmwareChunk (acc : Acc) (data : List Byte) (s : State) : State :=
  s.command acc 0x1640 2 2 (fun x => decide (s.get x 0x112000 = 1)) true (fun x =>
    let u := (s.lane x).upd
    if !u.erased then s.abort abBusy
    else if 65536 < data.length then s.abort abTooLong
    else if s.get x 0x164001 ≠ u.image.length ∨ u.length < u.image.length + data.length then s.abort abRange
    else (s.upd x (fun l => { l with upd := { l.upd with image := l.upd.image ++ data } })).answer 0)

/-- The check of a received firmware image (R484, R492 to R494): 0, or the code of the first failure. -/
def State.firmwareCheck (s : State) (x : LaneId) : Nat :=
  let img := (s.lane x).upd.image
  let slot := numAt img 5 1
  if numAt img 0 4 ≠ 0x594C4E46 ∨ numAt img 4 1 ≠ 1 ∨ numAt img 6 2 ≠ 0 ∨ numAt img 17 3 ≠ 0
      ∨ numAt img 20 4 + 128 ≠ img.length ∨ (slice img 24 40).any (fun b => b ≠ 0) then abFormat
  else if 2 ≤ slot ∨ bitAt (s.mget 0x161003) slot
      ∨ signatureOk (s.sec.fwKeys.getD slot []) (img.take (img.length - 64)) (img.drop (img.length - 64)) = false
    then abSignature
  else if !compatible (s.lane x.peer).running (numAt img 14 1) (numAt img 15 1) (numAt img 16 1) then abIncompatible
  else if numAt img 12 2 < s.get x 0x161200 then abRollback
  else 0

/-- The firmware facts of an image's header (R492). -/
def firmwareOf (img : List Byte) : Firmware :=
  ⟨numAt img 8 4, numAt img 12 2, numAt img 14 1, numAt img 15 1, numAt img 16 1⟩

/-- An update ends without activation; the current bank stays in use (R95, R495). -/
def State.endUpdate (s : State) (x : LaneId) (code : Nat) : State :=
  let bank := (s.lane x).spareBank
  (s.upd x (fun l => { l.put 0x112000 0 with upd := { l.upd with length := 0, erased := false, image := [] } })).record
    x 0x0040 (updateData 4 bank code)

/-- The bank is marked valid and the lane resets into it: activation (R95, R495). Its bypass closes (R120) (log 24:
DEDUCED). -/
def State.activate (s : State) (x : LaneId) : State :=
  let bank := (s.lane x).spareBank
  let fw := firmwareOf (s.lane x).upd.image
  let s := s.record x 0x0040 (updateData 2 bank 0)
  let s := s.upd x (fun l => { l with upd := { l.upd with
    bootBank := bank
    bank0 := if bank = 0 then fw else l.upd.bank0
    bank1 := if bank = 0 then l.upd.bank1 else fw } })
  ((s.release x 5).takeDefaults x).upd x (fun l => (l.restart s.keeper.onHoldUp .inReset).put 0x112000 2)

/-- Entry 1642h:00h Activate (R470, R495): accepted in download with every byte received; the check and the
activation follow the answer (log 24: DEDUCED). -/
def doActivate (acc : Acc) (s : State) : State :=
  s.command acc 0x1642 0 1
    (fun x => decide (s.get x 0x112000 = 1) && decide ((s.lane x).upd.image.length = (s.lane x).upd.length)) true
    (fun x =>
      let code := s.firmwareCheck x
      (if code = 0 then s.activate x else s.endUpdate x code).answer 0)

/-- Entry 1643h:00h Abandon update (R495). -/
def doAbandonUpdate (acc : Acc) (s : State) : State :=
  s.command acc 0x1643 0 1 (fun x => decide (s.get x 0x112000 = 1)) true (fun x => (s.endUpdate x 0).answer 0)

/-- R95, R96, R494: the lane is eligible on the new bank, but for the update itself: activation has ended (log 24:
DEDUCED). -/
def doActivationComplete (x : LaneId) (s : State) : State :=
  let l := s.lane x
  if l.get 0x112000 = 2 ∧ s.fit x = true then
    let sv := l.running.security
    let s := s.upd x (fun l => (l.put 0x112000 0).put 0x161200 (max sv (l.get 0x161200)))
    s.record x 0x0040 (updateData 3 (l.get 0x112100) 0)
  else s

/-! ### Lane start (R43 step 5, R69, R406, R430, R435, R446, R473) -/

/-- R430: the last valid record: of the final-record block while the memory has failed, else of the log. -/
def Recorder.lastRecord (r : Recorder) : Option EventRec :=
  let logged := r.slots.filterMap (fun k => match k with
    | .record e => some e
    | .bad => none)
  (if r.failed.isSome then logged ++ r.finals else r.finals ++ logged).getLast?

/-- R427, R430: the larger of two next numbers, which count modulo 2^32 (log 28: DEDUCED). -/
def laterNumber (a b : Nat) : Nat := if (b + 2 ^ 32 - a % 2 ^ 32) % 2 ^ 32 < 2 ^ 31 then b else a

/-- R430, R437: the lane reads the three copies of its control block, of which the checks of `spoiled` fail, and those
of the die. A copy that differs from the vote is rewritten and counted in entry 150Ah:02h; without a vote the time tags
are unreconciled. The next number is the larger of the voted one and that after the last valid record (log 54: DESIGN
CHOICE). -/
def LaneState.readControl (l : LaneState) (spoiled dieSpoiled : List Nat) : LaneState :=
  let marked := (l.log.ctl.zip (List.range 3)).map (fun e => { e.1 with ok := e.1.ok && !spoiled.contains e.2 })
  let after := l.log.lastRecord.map (fun r => (r.seq + 1) % 2 ^ 32)
  let r := { l.log with ctl := marked }
  let dies := ((l.log.die.zip (List.range 3)).filter (fun e => !dieSpoiled.contains e.2)).map Prod.fst
  let dieLost := (majority dies).getD (dies.foldl max 0)
  let ctl := match r.vote with
    | some c => List.replicate 3 c
    | none => marked
  let repaired := match r.vote with
    | some c => (marked.filter (fun k => decide (k ≠ c))).length
    | none => 0
  let l := { l with log := { r with
    ctl := ctl, tagsValid := r.vote.isSome, cycles := r.copied CtlCopy.cycles
    opNs := l.log.opNs + r.copied CtlCopy.ms * 1000000 - l.log.copied CtlCopy.ms * 1000000
    die := List.replicate 3 dieLost } }
  let seq := match r.vote, after with
    | some c, some n => laterNumber c.seq n
    | some c, none => c.seq
    | none, n => n.getD 0
  (((l.put 0x150200 seq).put 0x150300 (r.copied CtlCopy.lost)).put 0x150C02 dieLost).put 0x150A02
    (l.get 0x150A02 + repaired)

/-- R433, R439: a slot that can no longer be used at a start: two in a row, or a 17th, fail the memory. -/
def LaneState.judgeBad (l : LaneState) (holdUp pair : Bool) (slot : Nat) : LaneState :=
  if l.log.failed.isSome || l.log.inClear then l
  else if pair then l.failRecorder holdUp 1 slot
  else if 17 ≤ l.get 0x150A01 then l.failRecorder holdUp 2 slot
  else l

/-- R435: the torn slot is written FFh and verified under R433: it is free again, or bad where that cannot be verified;
it is counted, and event 0066h is the next record of the log, before all others. `known` says that it was counted as bad
before. -/
def LaneState.eraseTorn (l : LaneState) (holdUp verified known : Bool) : LaneState :=
  let i := l.log.slots.length
  let pair := l.log.lastBad
  let bad := if known then ({ l with log := { l.log with slots := l.log.slots ++ [.bad] } } : LaneState) else l.badSlot
  let l := (if verified then l else bad.judgeBad holdUp pair i).inc 0x150B00
  { l with log := { l.log with queue := l.event holdUp 0x0066 (toBytes 4 i) :: l.log.queue } }

/-- R433, R435, R439: slots whose check fails in the scan are bad if they stand before a valid record. The slot directly
before the end is torn: that of a write that was cut, which left no record, or the last one, whose check fails (log 54:
DESIGN CHOICE). -/
def LaneState.scanLog (l : LaneState) (holdUp : Bool) (scan : StartScan) : LaneState :=
  let fails (i : Nat) : Bool := scan.badSlots.contains i || decide (l.log.slots[i]? = some Slot.bad)
  let n := l.log.slots.length
  let last := !scan.torn && !l.log.shut && decide (0 < n) && fails (n - 1)
  let known := last && l.log.lastBad
  let l := if last then { l with log := { l.log with slots := l.log.slots.dropLast } }.put 0x150100 (n - 1) else l
  let found := (scan.badSlots.filter (fun i => decide (i < l.log.slots.length ∧ l.log.slots[i]? ≠ some Slot.bad))).eraseDups
  let l := { l with log := { l.log with
    slots := found.foldl (fun ss i => ss.set i Slot.bad) l.log.slots, scanned := true, clearing := l.log.clearMark } }
  let l := l.put 0x150A01 (min 255 (l.get 0x150A01 + found.length))
  let l := if found = [] then l else l.judgeBad holdUp false (found.getLastD 0)
  if (!scan.torn && !last) || l.log.shut then l else l.eraseTorn holdUp (!scan.tornBad) known

/-- R439, R440: the memory has failed, once, with source 104, at the slot that has become bad, else at the next one. -/
def State.failRecorder (s : State) (x : LaneId) (cause : Nat) : State :=
  let r := (s.lane x).log
  if r.failed.isSome || !(s.lane x).awake || (s.lane x).mode = .stopped then s
  else
    let slot := if cause ≠ 3 ∧ r.lastBad = true then r.slots.length - 1 else r.slots.length
    (s.upd x (fun l => l.failRecorder s.keeper.onHoldUp cause slot)).raiseLane x 104

/-- The start scan of the recorder: the control block's vote, bad and torn slots, a clear to run again. Without a copy
that passes its check the memory fails with cause 3, and event 0064h goes to the final-record block with it. A recorder
that is full or failed is so again for the collector, which the start has cleared (R430, R435, R436, R439, R440) (log
54: DESIGN CHOICE). -/
def State.recorderStart (s : State) (x : LaneId) (scan : StartScan) : State :=
  let s := s.upd x (fun l => (l.readControl scan.spoiled scan.dieSpoiled).scanLog s.keeper.onHoldUp scan)
  let l := s.lane x
  let fails := l.log.failed.isNone && !l.log.ctl.any CtlCopy.ok
  let s := if l.log.tagsValid then s.lower (.lane x) 106
    else (if fails then s else s.record x 0x0064 l.unreconciledData).raiseLane x 106
  let s := if l.log.full then s.raiseLane x 105 else s
  if fails then s.failRecorder x 3 else if l.log.failed.isSome then s.raiseLane x 104 else s

/-- R449: history entries whose check fails are discarded; fewer than 8 left sets bit 4 of entry 1300h, which stays
until 8 are held again. -/
def LaneState.scanHistory (l : LaneState) (bad : List Nat) : LaneState :=
  let h := ((List.range l.plan.history.length).zip l.plan.history).filter (fun e =>
    !bad.contains e.1 && decide (planEntry e.2.values e.2.hours = e.2))
  let lost := decide (h.length < l.plan.history.length)
  { l with plan := { l.plan with history := h.map Prod.snd, short := l.plan.short || (lost && decide (h.length < 8)) } }

/-- R473: the octets of a persistent value in the nonvolatile memory of its holder: a key slot's, a module-level
value's, which the host front holds, or a value of the lane. -/
def State.nvValue (s : State) (x : LaneId) (r : Row) (k : Nat) : List Byte :=
  if r.ty = .octets then
    (if k / 256 = 0x1601 then s.sec.roleKeys else s.sec.cfgKeys).getD (k % 256 - 1) []
  else toBytes (tyBytes r.ty) (if r.scope = .module then s.mget k else s.get x k)

/-- A persistent value as a start takes it; a pin's function changes as a write of it does (R343). -/
def State.setNvValue (s : State) (x : LaneId) (r : Row) (k : Nat) (b : List Byte) : State :=
  if r.ty = .octets then
    { s with sec := if k / 256 = 0x1601 then { s.sec with roleKeys := s.sec.roleKeys.set (k % 256 - 1) b }
                    else { s.sec with cfgKeys := s.sec.cfgKeys.set (k % 256 - 1) b } }
  else if r.scope = .module then s.mput k (fromBytes b)
  else s.upd x (fun l =>
    if l.get k = fromBytes b then l
    else if 0x5000 ≤ k / 256 ∧ k / 256 ≤ 0x5017 ∧ k % 256 = 1 then l.changeFunction (k / 256 - 0x5000) (fromBytes b)
    else l.put k (fromBytes b))

/-- R473: a persistent value without a valid copy takes its default: a key slot is empty (log 54: DESIGN CHOICE). -/
def State.loseValue (s : State) (x : LaneId) (k : Nat) : State :=
  match entryRow (k / 256) (k % 256) with
  | none => s
  | some r =>
    if !r.pers then s
    else s.setNvValue x r k (if r.ty = .octets then [] else toBytes (tyBytes r.ty) (regDefault k))

/-- Bit 2 of entry 1010h:02h: a start took defaults for values without a valid copy (R473). -/
def State.noteLost (s : State) (x : LaneId) : State := s.upd x (fun l => l.put 0x101002 (withBit (l.get 0x101002) 2 true))

/-- R473: the persistent values that a start cannot read take their defaults. -/
def State.loseValues (s : State) (x : LaneId) (ks : List Nat) : State :=
  if ks.isEmpty then s else (ks.foldl (fun s k => s.loseValue x k) s).noteLost x

/-- R473: each of the two copies of a value: its octets, then their CRC-32C. Both are written with every write, before its
answer, so that they follow from the value. -/
def nvCopy (value : List Byte) : List Byte := value ++ toBytes 4 (crc32c value)

/-- R473: the value of a copy that passes its check. -/
def nvRead (copy : List Byte) : Option (List Byte) :=
  let value := copy.take (copy.length - 4)
  if nvCopy value = copy then some value else none

/-- R473: the copy of a value as a start reads it, with the bits that changed. -/
def nvFound (value : List Byte) (flip : Nat) : List Byte :=
  let copy := nvCopy value
  toBytes copy.length (fromBytes copy ^^^ flip)

/-- R473: a value whose copies have changed bits takes the first that passes its check, and its default where neither does
(log 54: DESIGN CHOICE). -/
def State.readDamaged (s : State) (x : LaneId) (d : NvDamage) : State :=
  match entryRow (d.entry / 256) (d.entry % 256) with
  | none => s
  | some r =>
    let value := s.nvValue x r d.entry
    if !r.pers then s
    else match nvRead (nvFound value d.first), nvRead (nvFound value d.second) with
      | some b, _ => s.setNvValue x r d.entry b
      | none, some b => s.setNvValue x r d.entry b
      | none, none => (s.loseValue x d.entry).noteLost x

/-- R473: what a start finds in the copies of the persistent values (log 54: DESIGN CHOICE). -/
def State.readCopies (s : State) (x : LaneId) (scan : StartScan) : State :=
  (scan.damaged.foldl (fun s d => s.readDamaged x d) s).loseValues x scan.lostValues

/-- R43 step 5: self-test complete, the lane is ready and stands by. It runs the bank that its update
marked (R96), records its start, and its power-up re-plan is due (R446). Its field side may run again (R340). -/
def doLaneReady (x : LaneId) (scan : StartScan) (s : State) : State :=
  let l := s.lane x
  if (l.mode ≠ .booting ∧ l.mode ≠ .inReset) ∨ !s.awake ∨ s.keeper.hrstLow then s
  else
    let s := (s.readCopies x scan).upd x (fun l =>
      let l := { l with
        mode := .standby, selfTest := scan.selfTest, plan := { l.plan with due := some 2 }
        field := { l.field with barred := false }
        roll := { l.roll with settings := l.get 0x200200 * 16 + l.get 0x200300 } }
      let l := (l.put 0x112100 l.upd.bootBank).portsStart
      let l := l.put 0x161200 (max l.running.security (l.get 0x161200))
      l.scanHistory scan.badHistory)
    let s := if (s.lane x.peer).ready then s.adoptMode x else s
    let s := s.recorderStart x scan
    let s := s.record x 0x0001 (laneStartData s x)
    let s := s.upd x LaneState.deferPlan
    if scan.selfTest then s else s.raiseLane x 26

/-! ### The meanings -/

def execMirrorLost (x : LaneId) (s : State) : Out := .next (doMirrorLost x s)
def execMirrorCurrentAllowanceEnd (x : LaneId) (s : State) : Out := .next (doMirrorCurrentAllowanceEnd x s)
def execMirrorUp (x : LaneId) (s : State) : Out := .next (doMirrorUp x s)
def execToss (s : State) : Out := .next (doToss s)
def execTossBWindowExpiry (s : State) : Out := .next (doTossBWindowExpiry s)
def execArbiterFrame (x : LaneId) (s : State) : Out := .next (doArbiterFrame x s)
def execArbiterLinkLost (x : LaneId) (s : State) : Out := .next (doArbiterLinkLost x s)
def execRenewal (x : LaneId) (s : State) : Out := .next (doRenewal x s)
def execRenewalAck (x : LaneId) (s : State) : Out := .next (doRenewalAck x s)
def execLocalLeaseEnd (x : LaneId) (s : State) : Out := .next (doLocalLeaseEnd x s)
def execLeaseExpiry (s : State) : Out := .next (doLeaseExpiry s)
def execRelease (x : LaneId) (s : State) : Out := .next (doRelease x s)
def execArbiterRestart (s : State) : Out := .next (doArbiterRestart s)
def execArbiterRenewalWaitEnd (s : State) : Out := .next (doArbiterRenewalWaitEnd s)
def execInterlockPairInvalid (x : LaneId) (s : State) : Out := .next (doInterlockPairInvalid x s)
def execInterlockAcquisition (x : LaneId) (s : State) : Out := .next (doInterlockAcquisition x s)
def execInterlockConfirmEnd (x : LaneId) (s : State) : Out := .next (doInterlockConfirmEnd x s)
def execPeerActingSeen (x : LaneId) (s : State) : Out := .next (doPeerActingSeen x s)
def execFreezeEnd (x : LaneId) (s : State) : Out := .next (doFreezeEnd x s)
def execPlannedChangeover (acc : Acc) (s : State) : Out := .next (s.through acc (doPlannedChangeover acc s))
def execPlannedChangeoverCheckEnd (s : State) : Out := .next (doPlannedChangeoverCheckEnd s)
def execLaneReset (acc : Acc) (s : State) : Out := .next (s.through acc (doLaneReset acc s))
def execBeginUpdate (acc : Acc) (length : BitVec 32) (protocol : Byte) (peerLow : Byte) (peerHigh : Byte) (s : State) : Out :=
  .next (s.through acc (doBeginUpdate acc length protocol peerLow peerHigh s))
def execBeginUpdateEraseDone (x : LaneId) (s : State) : Out := .next (doBeginUpdateEraseDone x s)
def execFirmwareChunk (acc : Acc) (data : List Byte) (s : State) : Out := .next (s.through acc (doFirmwareChunk acc data s))
def execActivate (acc : Acc) (s : State) : Out := .next (s.through acc (doActivate acc s))
def execAbandonUpdate (acc : Acc) (s : State) : Out := .next (s.through acc (doAbandonUpdate acc s))
def execActivationComplete (x : LaneId) (s : State) : Out := .next (doActivationComplete x s)
def execLaneReady (x : LaneId) (scan : StartScan) (s : State) : Out := .next (doLaneReady x scan s)
def execLockstepToggleStop (x : LaneId) (s : State) : Out := .next (doLockstepToggleStop x s)
def execChangeoverLimitPassed (x : LaneId) (s : State) : Out := .next (doChangeoverLimitPassed x s)

end Sys2Proof.Machine
end

