-- ==== Sys2Proof/Machine/Ports.lean ====
section
/-! DEFINITION. Coupler ports: training, rates, bypass and insertion, margin, diagnostics, takedown and
quarantine (chapter 04). -/

namespace Sys2Proof.Machine

/-! ### Training blocks (R107, R108) -/

/-- The slowest and the fastest rate code that the lane permits: entries 2002h and 2003h act at the next Roll (R130), so
these are the codes with which it entered its last Roll, or started. -/
def LaneState.rateFloor (l : LaneState) : Nat := l.roll.settings / 16
def LaneState.rateCeiling (l : LaneState) : Nat := l.roll.settings % 16

/-- A training block that a port sends (R107): rate and epoch of the sender's last Roll, the estimate FFh until the
probe. -/
def trainingBlockOf (uid : Nat) (x : LaneId) (e : EndId) (l : LaneState) (type : Nat) : List Byte :=
  let p := l.port e
  let flags := laneBit x * 128 + (endSub e - 1) * 64
    + b2n (decide (l.rateFloor = l.rateCeiling)) * 32 + b2n p.ordered * 16
  let body := toBytes 1 type ++ toBytes 1 flags ++ toBytes 8 uid ++ toBytes 1 l.lineRate
    ++ toBytes 2 l.roll.closedEpoch ++ toBytes 1 l.rateFloor ++ toBytes 1 l.rateCeiling
    ++ toBytes 1 p.estimate ++ toBytes 2 (l.get (key 0x2009 (endSub e)))
  body ++ toBytes 2 (crc16 body)

/-- R108: a block of 20 bytes whose check passes, whose type is not reserved and whose reserved flags are 0
(R11). -/
def validBlock (b : List Byte) : Bool :=
  decide (b.length = 20) && decide (crc16 (b.take 18) = numAt b 18 2)
    && decide (1 ≤ numAt b 0 1) && decide (numAt b 0 1 ≤ 5) && decide (numAt b 1 1 % 16 = 0)

/-- A port sends a training block. -/
def State.sendBlock (s : State) (x : LaneId) (e : EndId) (type : Nat) : State :=
  s.upd x (fun l => l.updPort e (fun p => { p with sentBlock := trainingBlockOf s.uid x e l type }))

/-- The slower of two rate codes, FFh meaning none (R103, R111). -/
def slowerRate (a b : Nat) : Nat := if a = 0xFF then b else if b = 0xFF then a else max a b

/-- R111: operating rate and rate-held mark of a new link whose segment supports a rate. -/
def operatingRate (own partner supported : Nat) : Nat × Bool :=
  let lr := slowerRate own partner
  if lr = 0xFF then (supported, false)
  else if supported ≤ lr then (lr, false)
  else (supported, true)

/-- R116: a held-down port qualifies when its line has no rate in force, or its ceiling, its supported rate and that of its
segment when it was held down reach the code that held it, or, once the rate in force has changed, that rate. -/
def LaneState.qualifies (l : LaneState) (e : EndId) : Bool :=
  let r := if l.lineRate = (l.port e).heldForce then (l.port e).heldCode else l.lineRate
  decide (l.lineRate = 0xFF) ||
    (decide (l.rateCeiling ≤ r) && decide ((l.port e).heldRate = 0xFF ∨ (l.port e).heldRate ≤ r) &&
      (decide (l.get (key 0x2006 (endSub e)) = 0xFF) || decide (l.get (key 0x2006 (endSub e)) ≤ r)))

/-- A port that trains, a port whose training breaks off, or one that refuses its partner, is back at beacons: it has
no partner and no estimate (R107 to R109, R130). An ordered retrain that breaks off keeps its mark until its time
(R119). -/
def LaneState.toBeacons (l : LaneState) (e : EndId) : LaneState :=
  (l.updPort e (fun p => { p with
    step := .seeking, master := false, partnerRate := 0xFF, estimate := 0xFF })).put (key 0x200D (endSub e)) 0

/-- A block's line bit and node UID against this port (R102). -/
def State.refuseLink (s : State) (x : LaneId) (e : EndId) (cross loop : Bool) : State :=
  let s := s.upd x (fun l => (l.toBeacons e).updPort e (fun p => { p with lineCross := cross, loop := loop }))
  let s := if cross then s.raiseLane x 32 else s
  if loop then s.raiseLane x 33 else s

/-- What the partner announces (R107). -/
def LaneState.learnPartner (l : LaneState) (e : EndId) (uid : Nat) (b : List Byte) : LaneState :=
  (l.updPort e (fun p => { p with
    lineCross := false, loop := false, master := decide (uid < numAt b 2 8)
    partnerRate := numAt b 10 1, partnerFloor := numAt b 13 1, partnerCeiling := numAt b 14 1 })).put
    (key 0x200D (endSub e)) (numAt b 2 8)

/-- R114: the lowest swing of a rate, in steps of 100 mV from 1.0 V, at which the estimated margin is at least 6.0 dB,
else the highest: 1.3 V at code 0, 2.2 V at the others. `margins` has one margin for each step. -/
def swingOf (rate : Nat) (margins : List Int) : Nat :=
  let top := if rate = 0 then 3 else 12
  1000 + 100 * (((List.range (top + 1)).find? (fun i => decide (600 ≤ margins.getD i 0))).getD top)

/-- R114: a port plans its swing for a rate, by its own estimates. -/
def LaneState.planSwing (l : LaneState) (e : EndId) (rate : Nat) : LaneState :=
  l.put (key 0x2009 (endSub e)) (swingOf rate ((l.port e).swings.getD rate []))

/-- R110 step 4 and R111: the segment's supported rate is the slower of the two estimates, and the
operating rate is decided. -/
def LaneState.decideRate (l : LaneState) (e : EndId) (partnerEstimate : Nat) : LaneState :=
  let supported := slowerRate (l.port e).estimate partnerEstimate
  let o := operatingRate l.lineRate (l.port e).partnerRate supported
  let l := (l.put (key 0x2006 (endSub e)) supported).put (key 0x2007 (endSub e)) supported
  (l.planSwing e o.1).updPort e (fun p => { p with step := .pma, rate := o.1, rateHeld := o.2 })

/-- R111: the partner's line rate in force comes with each of its proposals and accepts. -/
def LaneState.agreeRate (l : LaneState) (e : EndId) (block : List Byte) : LaneState :=
  (l.updPort e (fun p => { p with partnerRate := numAt block 10 1 })).decideRate e (numAt block 15 1)

/-- R116, R461: source 34 leaves fault when no port of the lane is held down, and source 107 follows. -/
def State.followHeld (s : State) (x : LaneId) : State :=
  let l := s.lane x
  let s := if l.port1.heldDown || l.port2.heldDown then s else s.lower (.lane x) 34
  s.followConflicts x

/-- R107 to R111: a training block moves the port's training. Each step answers with its own block. A capability block,
which answers this port's own beacon, starts a port that seeks partners as a beacon does (log 63: DEDUCED). Sources 32
and 33 leave fault at the first good block of either port of the lane: the manual does not say when (log 60: DESIGN
CHOICE). -/
def doTrainingBlock (x : LaneId) (e : EndId) (block : List Byte) (s : State) : State :=
  let l := s.lane x
  let p := l.port e
  if !validBlock block || !l.ready || !l.bypassOpen then s
  else
    let cross := decide (numAt block 1 1 / 128 ≠ laneBit x)
    let loop := decide (numAt block 2 8 = s.uid)
    let type := numAt block 0 1
    match p.step with
    | .seeking =>
      if 2 < type then s
      else if cross || loop then s.refuseLink x e cross loop
      else
        let s := s.lower (.lane x) 32
        let s := s.lower (.lane x) 33
        let s := s.upd x (fun l => (l.learnPartner e s.uid block).updPort e (fun p => { p with step := .capability }))
        s.sendBlock x e 2
    | .capability =>
      if cross || loop then s.refuseLink x e cross loop
      else if type ≠ 2 then s
      else
        let s := s.upd x (fun l => l.learnPartner e s.uid block)
        if p.heldDown && !l.qualifies e then s.sendBlock x e 2
        else (s.upd x (fun l => l.updPort e (fun p =>
            { p with step := .probe, heldDown := false, heldRate := 0xFF, heldCode := 0xFF, heldForce := 0xFF }))).followHeld x
    | .proposal =>
      if type = (if p.master then 4 else 3) ∧ numAt block 15 1 ≤ 3 then
        let s := s.upd x (fun l => l.agreeRate e block)
        s.sendBlock x e (if p.master then 5 else 4)
      else s
    | _ => s

/-- R108: a step without an answer within 10 ms returns the port to beacons. -/
def doTrainingStepTimeout (x : LaneId) (e : EndId) (s : State) : State :=
  match ((s.lane x).port e).step with
  | .capability => s.upd x (fun l => l.toBeacons e)
  | .probe => s.upd x (fun l => l.toBeacons e)
  | .proposal => s.upd x (fun l => l.toBeacons e)
  | .pma => s.upd x (fun l => l.toBeacons e)
  | _ => s

/-- R109: a port that has no partner sends a beacon. -/
def doBeacon (x : LaneId) (e : EndId) (s : State) : State :=
  if (s.lane x).bypassOpen && decide (((s.lane x).port e).step = .seeking) then s.sendBlock x e 1 else s

/-- R110 step 4: the fastest rate whose estimated margin is at least 4.0 dB; FFh if none is. -/
def fastestRate (margins : List Int) : Nat :=
  ((List.range 4).find? (fun c => decide (400 ≤ margins.getD c (-1)))).getD 0xFF

/-- R110 step 3: the channel probe is done: the port's estimate, its swing, and its proposal. With no rate at
4.0 dB or more, a case that the manual leaves open, the port returns to beacons (log 60: DESIGN CHOICE). -/
def doChannelProbeDone (x : LaneId) (e : EndId) (probe : Probe) (s : State) : State :=
  if ((s.lane x).port e).step ≠ .probe then s
  else
    let r := fastestRate probe.margins
    if r = 0xFF then s.upd x (fun l => l.toBeacons e)
    else
      let s := s.upd x (fun l =>
        (l.updPort e (fun p => { p with step := .proposal, estimate := r, swings := probe.swings })).planSwing e r)
      s.sendBlock x e (if ((s.lane x).port e).master then 3 else 2)

/-- R110 step 5: PMA training at the operating rate is done. -/
def doPmaTrainingDone (x : LaneId) (e : EndId) (s : State) : State :=
  if ((s.lane x).port e).step = .pma then
    s.upd x (fun l => l.updPort e (fun p => { p with step := .verify }))
  else s

/-- The other port of a lane has its link or hears no partner. The manual does not say when the insertion of a lane ends
that has a port without a partner (R122, R123): at its first link-up, with the other port up, seeking or down; a lane
without any link goes on inserting (log 60: DESIGN CHOICE). -/
def Port.settled (p : Port) : Bool :=
  match p.step with
  | .up => true
  | .seeking => true
  | .down => true
  | _ => false

/-- A link comes up (R110 step 6): a change of entry 200Ah and a trigger; no trigger for an ordered retrain in time
(R119), and no count toward the quarantine for that, for a port forced down by diagnostics, after a hold and after an
enable (R128). Its RS-FEC window begins (R125). It is new until the switch beat of a Roll that numbers its ends (R152,
R174) (log 60: DESIGN CHOICE). -/
def State.linkUp (s : State) (x : LaneId) (e : EndId) (snr : Int) : State :=
  let p := (s.lane x).port e
  let counted := !p.ordered && !p.diagForced && !p.uncounted
  let s := s.upd x (fun l =>
    let l := l.updPort e (fun p => { p with
      step := .up, ordered := false, diagForced := false, uncounted := false, alarm := false, alarmArmed := true
      newLink := p.newLink || !p.ordered
      lateLink := p.lateLink || (!p.ordered && l.roll.running && l.roll.adopted.isSome)
      fecErrors := 0, fecWindow := s.clock, estimatesSince := l.log.opNs / 1000000
      changes := if counted then recentChanges s.clock (s.clock :: p.changes) else p.changes })
    let l := (l.put (key 0x2008 (endSub e)) (ofSigned 32 snr)).inc (key 0x200A (endSub e))
    if (l.port e.other).settled && decide (l.ins = .training) then { l with ins := .inserted } else l)
  if p.ordered then s else s.rollTrigger x 1

/-- R110 step 6: the supported rate drops one step and the training returns to step 4: the port proposes again. -/
def State.fallBack (s : State) (x : LaneId) (e : EndId) (supported : Nat) : State :=
  let s := s.upd x (fun l => ((l.updPort e (fun p => { p with step := .proposal, estimate := supported })).put
    (key 0x2006 (endSub e)) supported).put (key 0x2007 (endSub e)) supported)
  s.sendBlock x e (if ((s.lane x).port e).master then 3 else 2)

/-- R110 step 6: verification. A margin of 3.0 dB or more brings the link up; less drops the supported rate
one step, back to step 4, or, with no slower code left, back to beacons (log 60: DESIGN CHOICE). -/
def doLinkVerification (x : LaneId) (e : EndId) (snr : Int) (s : State) : State :=
  let p := (s.lane x).port e
  let supported := s.get x (key 0x2006 (endSub e))
  if p.step ≠ .verify then s
  else if 300 ≤ snr then s.linkUp x e snr
  else if supported < 3 then s.fallBack x e (supported + 1)
  else s.upd x (fun l => l.toBeacons e)

/-- A link is lost, or a training breaks off. After a link-down the TDR runs before retraining (R126). -/
def doLinkDown (x : LaneId) (e : EndId) (s : State) : State :=
  match ((s.lane x).port e).step with
  | .up => s.dropPort x e .down true
  | .capability => s.upd x (fun l => l.toBeacons e)
  | .probe => s.upd x (fun l => l.toBeacons e)
  | .proposal => s.upd x (fun l => l.toBeacons e)
  | .pma => s.upd x (fun l => l.toBeacons e)
  | .verify => s.upd x (fun l => l.toBeacons e)
  | _ => s

/-! ### Margin (R124) -/

/-- The port measures its margin and return loss, and estimates the margin at the next faster rate; from 1.5 dB on, the
next alarm may be raised. The lowest of 24 hours go to the margin plan (R124, R445) (log 7: DESIGN CHOICE). -/
def doMarginUpdate (x : LaneId) (e : EndId) (snr returnLoss : Int) (faster : Option Int) (s : State) : State :=
  if ((s.lane x).port e).isUp then
    s.upd x (fun l =>
      let l := (l.put (key 0x2008 (endSub e)) (ofSigned 32 snr)).put (key 0x2013 (endSub e)) (ofSigned 32 returnLoss)
      let l := l.sampleLow (endSub e) snr
      let l := match faster with
        | none => l
        | some m => l.sampleLow (endSub e + 2) m
      if 150 ≤ snr then l.updPort e (fun p => { p with alarm := false, alarmArmed := true }) else l)
  else s

/-- A margin alarm requests a Roll, at most one per 10 s. -/
def State.requestRoll (s : State) (x : LaneId) (e : EndId) : State :=
  match ((s.lane x).port e).requestAt with
  | some t =>
    if s.clock < t + 10000000000 then s.upd x (fun l => l.updPort e (fun p => { p with requestWaits := true }))
    else (s.upd x (fun l => l.updPort e (fun p => { p with requestAt := some s.clock }))).rollTrigger x 5
  | none => (s.upd x (fun l => l.updPort e (fun p => { p with requestAt := some s.clock }))).rollTrigger x 5

/-- R124: the margin has stayed below 1.5 dB for 1 s: proposed and supported rate drop one step, never below
code 3, and the port requests a Roll. -/
def doMarginAlarm (x : LaneId) (e : EndId) (s : State) : State :=
  let p := (s.lane x).port e
  if p.isUp && p.alarmArmed && decide (toSigned 32 (s.get x (key 0x2008 (endSub e))) < 150) then
    let s := s.upd x (fun l =>
      let l := l.put (key 0x2006 (endSub e)) (min 3 (l.get (key 0x2006 (endSub e)) + 1))
      let l := l.put (key 0x2007 (endSub e)) (min 3 (l.get (key 0x2007 (endSub e)) + 1))
      l.updPort e (fun p => { p with
        alarm := true, alarmArmed := false, estimatesSince := l.log.opNs / 1000000 }))
    s.requestRoll x e
  else s

/-- R124: the 10 s since the port's last request have passed. -/
def doMarginAlarmRequestDue (x : LaneId) (e : EndId) (s : State) : State :=
  if ((s.lane x).port e).requestWaits then
    (s.upd x (fun l => l.updPort e (fun p => { p with requestWaits := false, requestAt := some s.clock }))).rollTrigger x 5
  else s

/-! ### Takedown and quarantine (R125, R128) -/

/-- R125: more than 10 uncorrected RS-FEC frames in one window: the segment goes down at once. -/
def doSegmentTakedown (x : LaneId) (e : EndId) (s : State) : State :=
  let p := (s.lane x).port e
  if p.isUp && decide (10 < p.fecErrors) then
    let s := s.dropPort x e .down false
    let s := s.upd x (fun l => (l.updPort e (fun p => { p with takenDown := true })).inc (key 0x200C (endSub e)))
    s.raiseLane x 35
  else s

/-- A hold of R125 or R128 has ended at a port: it trains as a new link, which does not count (R128), once no test and
no other hold keeps it down (R126). -/
def LaneState.holdEnds (l : LaneState) (e : EndId) : LaneState :=
  let next := l.portStart e
  l.updPort e (fun p => { p with
    uncounted := true
    step := if p.step = .down ∧ p.diag = false ∧ p.takenDown = false ∧ p.quarantined = false then next else p.step })

/-- R125: the 10 s hold ends; the port trains as a new link. Source 35 leaves fault with it, though the lane's other
port may still be held: the manual does not say when (log 60: DESIGN CHOICE). -/
def doTakedownHoldEnd (x : LaneId) (e : EndId) (s : State) : State :=
  if ((s.lane x).port e).takenDown then
    (s.upd x (fun l => (l.updPort e (fun p => { p with takenDown := false })).holdEnds e)).lower (.lane x) 35
  else s

/-- R128: five or more counted link changes within 10 s: held down for 10 s. -/
def doPortQuarantined (x : LaneId) (e : EndId) (s : State) : State :=
  let p := (s.lane x).port e
  if 5 ≤ (recentChanges s.clock p.changes).length ∧ p.quarantined = false then
    let s := s.dropPort x e .down false
    let s := s.upd x (fun l => (l.updPort e (fun p => { p with quarantined := true })).inc (key 0x200B (endSub e)))
    s.raiseLane x 36
  else s

/-- R128: the hold ends; the port trains as a new link with an empty count. Source 36 leaves fault with it, as source 35
does (log 60: DESIGN CHOICE). -/
def doQuarantineEnd (x : LaneId) (e : EndId) (s : State) : State :=
  if ((s.lane x).port e).quarantined then
    (s.upd x (fun l => (l.updPort e (fun p => { p with quarantined := false, changes := [] })).holdEnds e)).lower (.lane x) 36
  else s

/-! ### Diagnostics (R126, R127) -/

/-- The ends that a diagnostics command names (entry 2010h). -/
def diagEnds (v : Nat) : List EndId := (if bitAt v 0 then [.e1] else []) ++ (if bitAt v 1 then [.e2] else [])

/-- R127: a port that is up needs the force bit, and a forced command needs both ports of the peer up. -/
def State.mayDiagnose (s : State) (x : LaneId) (v : Nat) : Bool :=
  if bitAt v 7 then (s.lane x.peer).port1.isUp && (s.lane x.peer).port2.isUp
  else (diagEnds v).all (fun e => !((s.lane x).port e).isUp)

/-- Entry 2010h:00h Run diagnostics (R127): the tests run after the answer; a forced one takes the port
down first. -/
def doRunDiagnostics (acc : Acc) (v : Byte) (s : State) : State :=
  let n := v.toNat
  s.command acc 0x2010 0 (if bitAt n 7 then 2 else 1) (fun x => s.mayDiagnose x n)
    (decide (n &&& 0x7C = 0)) (fun x =>
      ((diagEnds n).foldl (fun s e =>
        let up := ((s.lane x).port e).isUp
        let s := if up then s.dropPort x e .down false else s
        s.upd x (fun l => l.updPort e (fun p => { p with diag := true, diagCmd := true, diagForced := p.diagForced || up }))) s).answer 0)

/-- R126: the tests of a port have ended: one that is down, and that no hold keeps down, trains again, a held-down one
in the capability exchange (R116). -/
def LaneState.testsEnd (l : LaneState) (e : EndId) : LaneState :=
  let next := l.portStart e
  l.updPort e (fun p => { p with
    diag := false
    diagCmd := false
    step := if p.step = .down ∧ p.takenDown = false ∧ p.quarantined = false then
        (if p.heldDown ∧ next = .seeking then .capability else next)
      else p.step })

/-- R126: the result of an insulation test; one below the limit raises source 39. The manual gives neither the limit nor
when the source leaves fault: the limit comes with the result, and a good result of either end lowers it (log 65: DESIGN
CHOICE). -/
def State.insulation (s : State) (x : LaneId) (e : EndId) (result limit : Nat) : State :=
  (s.put x (key 0x2012 (endSub e)) result).follow x 39 (decide (result < limit))

/-- The tests of R126 end: the TDR's result, after a command the insulation's too; a port that is down trains again. -/
def doDiagnosticsDone (x : LaneId) (e : EndId) (kind : BitVec 3) (reflection : Byte) (distance : BitVec 16)
    (insulation limit : BitVec 32) (s : State) : State :=
  let p := (s.lane x).port e
  if p.diag then
    let s := s.put x (key 0x2011 (endSub e)) (kind.toNat * 536870912 + reflection.toNat * 65536 + distance.toNat)
    let s := if p.diagCmd then s.insulation x e insulation.toNat limit.toNat else s
    s.upd x (fun l => l.testsEnd e)
  else s

/-- R126: an insulation test beside the link. -/
def doInsulationTest (x : LaneId) (e : EndId) (insulation limit : BitVec 32) (s : State) : State :=
  if (s.lane x).ready then s.insulation x e insulation.toNat limit.toNat else s

/-! ### Enable, bypass and insertion (R120 to R123) -/

/-- R121: an end is disabled: its domain goes off, the bypass closes, the other port listens. -/
def LaneState.disableEnd (l : LaneState) (now : Nat) (e : EndId) : LaneState :=
  let l := l.dropPort now e .off false
  let l := l.dropPort now e.other (if l.enabled e.other && !l.portPowerOff then .listening else .off) false
  l.closeBypass

/-- R121: an end is enabled again; with both ends enabled the lane may insert, and until then both ports listen. Its
next link-up is an administrative change (R128). -/
def LaneState.enableEnd (l : LaneState) (e : EndId) : LaneState :=
  let l := (l.updPort e (fun p => { p with uncounted := true })).updPort e.other (fun p => { p with uncounted := true })
  if l.enabled e.other then l.portsStart else l.updPort e (fun p => { p with step := if l.portPowerOff then .off else .listening })

/-- Entry 2000h Port enable (R121, R130). Maintainer and above. A disable that closes the bypass triggers a
Roll with code 2 (R171). -/
def doPortEnable (acc : Acc) (e : EndId) (v : Byte) (s : State) : State :=
  s.command acc 0x2000 (endSub e) 2 (fun _ => true) (decide (v.toNat ≤ 1)) (fun x =>
    let was := (s.lane x).enabled e
    let open0 := (s.lane x).bypassOpen
    let s := s.put x (key 0x2000 (endSub e)) v.toNat
    let s :=
      if v.toNat = 0 ∧ was then
        let s := s.upd x (fun l => l.disableEnd s.clock e)
        if open0 then s.rollTrigger x 2 else s
      else if v.toNat = 1 ∧ !was then s.upd x (fun l => l.enableEnd e)
      else s
    s.answer 0)

/-- A lane is inserting (R122). -/
def LaneState.inserting (l : LaneState) : Bool :=
  match l.ins with
  | .listening => true
  | .training => true
  | _ => false

/-- Lane A takes no part in the insertion after a Toss: it is off, stopped, dead, or out of its line by a disabled end
(log 60: DESIGN CHOICE). -/
def LaneState.staysOut (l : LaneState) : Bool :=
  decide (l.mode = .unpowered ∨ l.mode = .asleep ∨ l.mode = .stopped ∨ l.mode = .dead) || !l.enabled .e1 || !l.enabled .e2

/-- R122: when a lane may start its insertion: after the Toss lane A first, then lane B once it may. Lane B does not
wait for a lane A that will not insert (log 60: DESIGN CHOICE). -/
def State.mayInsert (s : State) (x : LaneId) : Bool :=
  let l := s.lane x
  l.ready && decide (l.ins = .outside) && l.enabled .e1 && l.enabled .e2 && !l.portDomainOff x
    && !(s.lane x.peer).inserting && !(s.keeper.firstInsertion && s.keeper.tossPending)
    && (match x with
        | .A => true
        | .B => !s.keeper.firstInsertion || s.laneA.staysOut)

/-- R123: a port whose lane inserts seeks a partner, after the tests of its last link-down and its holds (R125, R126,
R128). -/
def Port.inserts (p : Port) : Port :=
  { p with step := if p.diag || p.takenDown || p.quarantined then .down else .seeking }

/-- R123: the lane inserts: its bypass opens and its ports seek partners. The bypass on-resistance is
measured (row 8 of the margin plan, R456, R459): the manual gives no value, so it is a free one (log 6: DESIGN CHOICE). -/
def doInsertion (x : LaneId) (s : State) : State :=
  if s.mayInsert x then
    let f := s.free 16
    (f.2.upd x (fun l =>
      let l := (l.updPort .e1 Port.inserts).updPort .e2 Port.inserts
      { l.put 0x131801 f.1 with bypassOpen := true, ins := .training, plan := { l.plan with bypassOhm := f.1 } })).followLimits x
  else s

/-- R122: 2 s have passed since lane A opened its bypass. -/
def doLaneBInsertionTimeout (s : State) : State :=
  if s.keeper.firstInsertion && s.laneA.bypassOpen then
    { s with
      keeper := { s.keeper with firstInsertion := false }
      laneA := { s.laneA with ins := if s.laneA.ins = .training then .inserted else s.laneA.ins } }
  else s

/-! ### Ordered retrains (R118, R119) -/

/-- A port that is up leaves its link for an ordered retrain at a rate, without the probe (R118): what waits at its
egress is discarded (R148), its peer delay is no longer measured (R286), and entry 200Ah counts the change (log 31:
DEDUCED). -/
def LaneState.retrain (l : LaneState) (e : EndId) (rate : Nat) : LaneState :=
  let l := ((l.flushEgress e).put (key 0x400C (endSub e)) 0).inc (key 0x200A (endSub e))
  (l.planSwing e rate).updPort e (fun p => { p with
    step := .pma, ordered := true, rate := rate, rateHeld := false, paused := 0, sending := false, judged := none
    pdelayWaits := [], pdelays := [], pdelayFails := 0, pdelayLost := false, alarmArmed := true, alarm := false })

/-- R118: at the switch beat of a close with a new rate of the line, a port that is up or rate-held retrains if its
operating rate differs; a rate-held link at the new rate ceases to be rate-held. -/
def LaneState.orderedRetrain (l : LaneState) (e : EndId) (rate : Nat) : LaneState :=
  let p := l.port e
  if !p.isUp then l
  else if p.rate = rate then l.updPort e (fun p => { p with rateHeld := false })
  else l.retrain e rate

/-- R119: an ordered retrain is not up within its time: a normal link change, which triggers a Roll. Entry 200Ah has
counted the change when the port left its link. -/
def doOrderedRetrainLate (x : LaneId) (e : EndId) (s : State) : State :=
  let p := (s.lane x).port e
  if p.ordered && !p.isUp then
    (s.upd x (fun l => l.updPort e (fun p => { p with
      ordered := false, changes := recentChanges s.clock (s.clock :: p.changes) }))).rollTrigger x 1
  else s

/-- R118: the deferred change of line 2 is due. -/
def doLine2DeferredDue (x : LaneId) (s : State) : State :=
  if (s.lane x).roll.line2Deferred then
    (s.upd x (fun l => { l with roll := { l.roll with line2Deferred := false } })).rollTrigger x 6
  else s

/-! ### The meanings -/

def execTrainingBlock (x : LaneId) (e : EndId) (block : List Byte) (s : State) : Out :=
  .next (doTrainingBlock x e block s)
def execTrainingStepTimeout (x : LaneId) (e : EndId) (s : State) : Out := .next (doTrainingStepTimeout x e s)
def execBeacon (x : LaneId) (e : EndId) (s : State) : Out := .next (doBeacon x e s)
def execChannelProbeDone (x : LaneId) (e : EndId) (probe : Probe) (s : State) : Out :=
  .next (doChannelProbeDone x e probe s)
def execPmaTrainingDone (x : LaneId) (e : EndId) (s : State) : Out := .next (doPmaTrainingDone x e s)
def execLinkVerification (x : LaneId) (e : EndId) (snr : Int) (s : State) : Out :=
  .next (doLinkVerification x e snr s)
def execLinkDown (x : LaneId) (e : EndId) (s : State) : Out := .next (doLinkDown x e s)
def execMarginUpdate (x : LaneId) (e : EndId) (snr : Int) (returnLoss : Int) (s : State) (faster : Option Int := none) : Out :=
  .next (doMarginUpdate x e snr returnLoss faster s)
def execMarginAlarm (x : LaneId) (e : EndId) (s : State) : Out := .next (doMarginAlarm x e s)
def execSegmentTakedown (x : LaneId) (e : EndId) (s : State) : Out := .next (doSegmentTakedown x e s)
def execTakedownHoldEnd (x : LaneId) (e : EndId) (s : State) : Out := .next (doTakedownHoldEnd x e s)
def execPortQuarantined (x : LaneId) (e : EndId) (s : State) : Out := .next (doPortQuarantined x e s)
def execQuarantineEnd (x : LaneId) (e : EndId) (s : State) : Out := .next (doQuarantineEnd x e s)
def execRunDiagnostics (acc : Acc) (v : Byte) (s : State) : Out := .next (s.through acc (doRunDiagnostics acc v s))
def execDiagnosticsDone (x : LaneId) (e : EndId) (kind : BitVec 3) (reflection : Byte) (distance : BitVec 16)
    (insulation : BitVec 32) (s : State) (limit : BitVec 32 := 0) : Out :=
  .next (doDiagnosticsDone x e kind reflection distance insulation limit s)
def execInsulationTest (x : LaneId) (e : EndId) (insulation : BitVec 32) (limit : BitVec 32) (s : State) : Out :=
  .next (doInsulationTest x e insulation limit s)
def execPortEnable (acc : Acc) (e : EndId) (v : Byte) (s : State) : Out := .next (s.through acc (doPortEnable acc e v s))
def execInsertion (x : LaneId) (s : State) : Out := .next (doInsertion x s)
def execLaneBInsertionTimeout (s : State) : Out := .next (doLaneBInsertionTimeout s)
def execOrderedRetrainLate (x : LaneId) (e : EndId) (s : State) : Out := .next (doOrderedRetrainLate x e s)
def execLine2DeferredDue (x : LaneId) (s : State) : Out := .next (doLine2DeferredDue x s)
def execMarginAlarmRequestDue (x : LaneId) (e : EndId) (s : State) : Out := .next (doMarginAlarmRequestDue x e s)

end Sys2Proof.Machine
end

