-- ==== Sys2Proof/Machine/Egress.lean ====
section
/-! DEFINITION. The unscheduled egress queue of a line port, and how the local port sends a frame (R137, R143, R148,
R149, R154, R156, R175, R179). -/

namespace Sys2Proof.Machine

/-! ### The egress queue (R148, R154, R156) -/

/-- What keeps an unscheduled frame from the queue of a port: no egress, a rate-held link for a class 2 frame, a full
queue. -/
def Port.refusesFrame (p : Port) (f : OutFrame) : Option Nat :=
  if !p.isUp then some 21
  else if p.rateHeld && decide (sendKind f = .message) then some 17
  else if 65536 < p.fill + frameLength f then some 20
  else none

/-- An unscheduled frame waits in the queue of a port; the queue's peak is kept (entry 2201h). -/
def LaneState.queueFrame (l : LaneState) (e : EndId) (f : OutFrame) : LaneState :=
  let l := l.updPort e (fun p => { p with queue := p.queue ++ [f] })
  l.put (key 0x2201 (endSub e)) (max (l.get (key 0x2201 (endSub e))) (l.port e).fill)

/-- R148, R154, R156: an unscheduled frame that the lane sends out of a port: it waits in the queue, or is discarded and
counted. A frame for a disabled or off port counts as "no egress" (R148), though the counters of an off port do not count
(R167): the model takes R148 (log 63: DEDUCED). A lane that enters sleep sends no messages and Roll frames (R60). -/
def LaneState.emit (l : LaneState) (e : EndId) (f : OutFrame) : LaneState :=
  if l.quiet && stopsForSleep f then l
  else match (l.port e).refusesFrame f with
    | some c => l.countDrop e c
    | none => l.queueFrame e f

/-- A frame out of every up port but one (R175, R179). -/
def LaneState.emitUp (l : LaneState) (skip : Option EndId) (f : OutFrame) : LaneState :=
  [EndId.e1, EndId.e2].foldl (fun l e => if skip = some e || !(l.port e).isUp then l else l.emit e f) l

/-- A group frame out of both line ports (R149). -/
def LaneState.emitBoth (l : LaneState) (f : OutFrame) : LaneState := (l.emit .e1 f).emit .e2 f

/-- The lane that faces a position: the port toward smaller positions is the low-side end of the own entry
in the directory in force (R149, R192). -/
def LaneState.facingPort (l : LaneState) (position : Nat) : Option EndId :=
  if l.position = 0 ∨ position = 0 then none
  else match l.roll.directory.find? (fun d => d.pos.toNat = l.position) with
    | none => none
    | some own =>
      let low := if own.flags.toNat.testBit 6 then EndId.e2 else EndId.e1
      some (if position < l.position then low else low.other)

/-- R149: a unicast frame leaves by the port that faces the target's position, by both if it is unknown. -/
def LaneState.emitTo (l : LaneState) (position : Nat) (f : OutFrame) : LaneState :=
  match l.facingPort position with
  | some e => l.emit e f
  | none => l.emitBoth f

/-- The position of a node in the directory in force, 0 if it has none (R149). -/
def LaneState.positionOf (l : LaneState) (uid : Nat) : Nat :=
  ((l.roll.directory.find? (fun d => decide (d.uid.toNat = uid))).map (fun d => d.pos.toNat)).getD 0

/-! ### Frames of the local port (R137, R143, R149) -/

/-- The head of a frame that lane x sends: position and stamp in force (R137). -/
def LaneState.head (l : LaneState) (dest seq : Nat) : FrameHead :=
  ⟨BitVec.ofNat 48 dest, BitVec.ofNat 16 l.position, BitVec.ofNat 32 l.sentStamp, BitVec.ofNat 16 seq⟩

/-- The lane counts one more Roll frame of its epoch (R137) (log 63: DEDUCED). -/
def LaneState.nextRoll (l : LaneState) : LaneState :=
  { l with roll := { l.roll with seq := (l.roll.seq + 1) % 65536 } }

/-- A Roll frame in the lane's own name out of every up port but one (R137, R175, R177, R179). -/
def LaneState.sendRoll (l : LaneState) (skip : Option EndId) (f : RollFrame) : LaneState :=
  let l := l.nextRoll
  l.emitUp skip (.roll (l.head rollGroup l.roll.seq) f)

/-- A Roll frame in the lane's own name out of one port. -/
def LaneState.sendRollTo (l : LaneState) (e : EndId) (f : RollFrame) : LaneState :=
  let l := l.nextRoll
  l.emit e (.roll (l.head rollGroup l.roll.seq) f)

/-- R143: the destination of a frame for a node, on the lane's line: the node's address of the lane of that line. -/
def unicastTo (x : LaneId) (uid : Nat) : BitVec 48 := BitVec.ofNat 48 (macAddress uid x)

/-- A message frame for a node at a position, or for all nodes (R143, R144, R149), with the sender's position and stamp
(R137). -/
def LaneState.sendMessage (l : LaneState) (x : LaneId) (uid : Option Nat) (position : Nat) (m : MsgFrame) : LaneState :=
  let m := { m with srcPos := BitVec.ofNat 16 l.position, stamp := BitVec.ofNat 32 l.sentStamp }
  match uid with
  | some u => l.emitTo position (.msg (unicastTo x u) m)
  | none => l.emitBoth (.msg (BitVec.ofNat 48 messageGroup) m)

/-- A diagnostic frame for a node, or for all nodes, with the next sequence number of its identifier (R137). -/
def LaneState.sendEcho (l : LaneState) (x : LaneId) (uid : Option Nat) (six : Bool) (ident : BitVec 16) (data : List Byte) :
    LaneState :=
  let seq := (tabGet (fun _ => 0) ident.toNat l.echoSeq + 1) % 65536
  let l := { l with echoSeq := tabSet (fun _ => 0) ident.toNat seq l.echoSeq }
  match uid with
  | some u => l.emitTo (l.positionOf u) (.echo (l.head (macAddress u x) seq) six ident data)
  | none => l.emitBoth (.echo (l.head diagnosticGroup seq) six ident data)

end Sys2Proof.Machine
end

