-- ==== Sys2Proof/Machine/Roll.lean ====
section
/-! DEFINITION. Roll: triggers, epochs, discovery, merging, the directory, publication lists and the
close (chapter 06, R171 to R202). The switch beat itself is in Switch.lean. -/

namespace Sys2Proof

open Machine

/-- Bit i of a directory entry's byte 16. -/
def DirEntry.flag (d : DirEntry) (i : Nat) : Bool := d.flags.toNat.testBit i

/-- A directory entry with bit i of byte 16 set to b. -/
def DirEntry.setFlag (d : DirEntry) (i : Nat) (b : Bool) : DirEntry :=
  { d with flags := BitVec.ofNat 8 (withBit d.flags.toNat i b) }

/-- A directory entry with bit i of byte 17 set to b. -/
def DirEntry.setLine (d : DirEntry) (i : Nat) (b : Bool) : DirEntry :=
  { d with lines := BitVec.ofNat 8 (withBit d.lines.toNat i b) }

/-- Bit 7 or 6 of byte 17: reached on a line (R192). -/
def DirEntry.reached (d : DirEntry) (line : LaneId) : Bool := d.lines.toNat.testBit (7 - laneBit line)

/-- The port of arrival, none from the peer. -/
def RollSrc.port? : RollSrc → Option EndId
  | .port e => some e
  | .peer => none

end Sys2Proof

namespace Sys2Proof.Machine

/-! ### Directory entries (R191 to R193) -/

/-- The topology stamp of numbered entries; no entries have no stamp (R140, R193). -/
def directoryStamp (es : List DirEntry) : Nat :=
  if es.isEmpty then 0 else stampOf (es.flatMap stampedPart)

/-- A rate code as a directory entry carries it: Fh for none (R191). -/
def rateNibble (r : Nat) : Nat := min 15 r

/-- Byte 19 or 20: floor and ceiling code of a lane's line. -/
def LaneState.rateSettings (l : LaneState) : Nat := l.get 0x200200 * 16 + l.get 0x200300

/-- Byte 21 or 22: supported rates of the segments at a lane's two ends. -/
def LaneState.supportedRates (l : LaneState) : Nat :=
  rateNibble (if l.port1.isUp then l.get 0x200601 else 15) * 16
    + rateNibble (if l.port2.isUp then l.get 0x200602 else 15)

/-- The digest of a publication list (R193): 0 for an empty one. -/
def listDigest (es : List PubEntry) : Nat := if es.isEmpty then 0 else stampOf (es.flatMap pubBytes)

/-- R182: a lane's own entry; vehicle UID, orientation, rate settings and time quality class as they entered the Roll
(R171, R303); the other line's fields from its peer while the mirror is current, else FFh. The peer's rate settings are
those of the Roll that it joined last, also where it has not joined this one yet: the manual does not say which (log 66:
DESIGN CHOICE). -/
def State.ownEntry (s : State) (x : LaneId) : DirEntry :=
  let l := s.lane x
  let p := s.lane x.peer
  let mirrored := l.poss.mirrorCurrent && p.ready
  let rs := l.roll.settings
  let ss := l.supportedRates
  let ro := if mirrored then p.roll.settings else 0xFF
  let so := if mirrored then p.supportedRates else 0xFF
  { pos := 0
    uid := BitVec.ofNat 64 s.uid
    vehicle := BitVec.ofNat 32 (if l.roll.running then l.roll.vehicle else l.get 0x241002)
    vpos := 0
    flags := BitVec.ofNat 8
      ((if l.roll.running then l.roll.orientation else l.get 0x241005) % 2 * 128 + b2n (s.declares x) * 16)
    lines := 0
    quality := BitVec.ofNat 8 (if l.roll.running then l.roll.quality else s.mget 0x400B00)
    rate1 := BitVec.ofNat 8 (if x = .A then rs else ro)
    rate2 := BitVec.ofNat 8 (if x = .A then ro else rs)
    supp1 := BitVec.ofNat 8 (if x = .A then ss else so)
    supp2 := BitVec.ofNat 8 (if x = .A then so else ss)
    digest := BitVec.ofNat 32 (listDigest l.publications)
    rejected := 0 }

/-! ### Starting and joining (R171 to R176, R180) -/

/-- R175: epoch a is newer than epoch b. -/
def epochNewer (a b : Nat) : Bool := newer16 a b

/-- A Roll frame of a lane: its epoch, and itself as origin. -/
def State.rollFrame (s : State) (x : LaneId) (index : Nat) (last : Bool) (body : RollBody) : RollFrame :=
  { epoch := BitVec.ofNat 16 (s.get x 0x240100), last := last, index := BitVec.ofNat 16 index
    origin := BitVec.ofNat 64 s.uid, body := body }

/-- The Roll state of a lane that starts or joins a Roll: what the Roll before gathered is gone; triggers
that wait are absorbed (R172); cache, directory and stamps stay. -/
def RollState.begin (r : RollState) (code origin vehicle orientation settings quality : Nat) (end1 end2 : Bool) :
    RollState :=
  { RollState.reset with
    running := true, spaced := false, startCode := code, startOrigin := origin, end1 := end1, end2 := end2
    cache := r.cache, directory := r.directory, closedEpoch := r.closedEpoch
    vehicle := vehicle, orientation := orientation, settings := settings, quality := quality
    stampGrace := r.stampGrace, graceBeats := r.graceBeats, lateStart := r.lateStart
    line2Deferred := r.line2Deferred, notNumbered := r.notNumbered }

/-- R180: a lane that is a line end on one side begins a discovery stream out of its other port; on both
sides, its line list is its own entry alone. In its own entry it records, as arrival end, the side on which
it is the line end. -/
def State.beginStreams (s : State) (x : LaneId) : State :=
  let r := (s.lane x).roll
  let own := s.ownEntry x
  let send (s : State) (e : EndId) : State :=
    s.upd x (fun l => l.sendRollTo e.other (s.rollFrame x 0 true (.discovery 1 [own.setFlag 6 (decide (e = .e2))])))
  if r.end1 && r.end2 then s.upd x (fun l => { l with roll := { l.roll with lineList := some [own] } })
  else if r.end1 then send s .e1
  else if r.end2 then send s .e2
  else s

/-- A lane enters a Roll of a new epoch, its own or one it joins (R175, R176): a Roll that was running is
abandoned and counted. -/
def State.enterRoll (s : State) (x : LaneId) (epoch code origin : Nat) : State :=
  let l := s.lane x
  let s := if l.roll.running then s.inc x 0x240900 else s
  s.upd x (fun l =>
    let r := l.roll.begin code origin (l.get 0x241002) (l.get 0x241005) l.rateSettings (s.mget 0x400B00) (!l.port1.isUp)
      (!l.port2.isUp)
    let l := (l.updPort .e1 (fun p => { p with lateLink := false })).updPort .e2 (fun p => { p with lateLink := false })
    ((({ l with roll := r }.put 0x240100 epoch).put 0x240A00 code).dropSchedule).announce)

/-- The Start of the Roll that runs at a lane. -/
def State.startFrame (s : State) (x : LaneId) : RollFrame :=
  { s.rollFrame x 0 true (.start (BitVec.ofNat 8 (s.lane x).roll.startCode)) with
    origin := BitVec.ofNat 64 (s.lane x).roll.startOrigin }

/-- A frame of a set is relayed, or sent, once (R179): kind, origin and index are noted. -/
def RollState.note (r : RollState) (f : RollFrame) : RollState :=
  { r with seen := r.seen ++ [(rollKind f.body, f.origin.toNat, f.index.toNat)] }

/-- A lane sends a frame of a set out of every up port but one. -/
def State.sendSet (s : State) (x : LaneId) (skip : Option EndId) (f : RollFrame) : State :=
  s.upd x (fun l => ({ l with roll := l.roll.note f }).sendRoll skip f)

/-- A lane enters a Roll with a Start of its own or of its peer's Roll, out of every up port, and begins its streams
(R175, R176, R180). -/
def State.startRoll (s : State) (x : LaneId) (epoch code origin : Nat) : State :=
  let s := s.enterRoll x epoch code origin
  (s.sendSet x none (s.startFrame x)).beginStreams x

/-- R171: a trigger occurs at a lane. -/
def doRollTrigger (x : LaneId) (code : Fin 10) (s : State) : State :=
  if code.val = 0 then s else s.rollTrigger x code.val

/-- R172: the 20 ms hold-off ends. -/
def doHoldOffEnd (x : LaneId) (s : State) : State :=
  s.upd x (fun l => { l with roll := { l.roll with holdOff := false } })

/-- R173: 100 ms have passed since the start of the last Roll. -/
def doRollSpacingEnd (x : LaneId) (s : State) : State :=
  s.upd x (fun l => { l with roll := { l.roll with spaced := true } })

/-- R173, R175: the lane originates a Roll for its waiting trigger; one that came before the adoption of a close
restarts the Roll (R174). A trigger that waits when a sleep announcement comes into force still originates its Roll:
R58, R174 and R210 discard those that come from then on (log 60: DESIGN CHOICE). -/
def doRollOriginate (x : LaneId) (s : State) : State :=
  let r := (s.lane x).roll
  match r.trigger with
  | none => s
  | some code =>
    if r.holdOff || !r.spaced || !(s.lane x).ready then s
    else s.startRoll x ((s.get x 0x240100 + 1) % 65536) code s.uid

/-! ### Discovery (R181 to R184) -/

/-- A stream is complete: frames from index 0 to the one with the Last flag, totals consistent (R183). -/
def streamFrom : Nat → Nat → Nat → List DiscPart → Option (List DirEntry)
  | 0, _, _, _ => none
  | n + 1, i, sum, ps =>
    match ps.find? (fun p => p.index = i) with
    | none => none
    | some p =>
      if p.total ≠ sum + p.entries.length then none
      else if p.last then some p.entries
      else (streamFrom n (i + 1) p.total ps).map (p.entries ++ ·)

/-- The entries of a complete stream. -/
def streamOf (ps : List DiscPart) : Option (List DirEntry) := streamFrom ps.length 0 0 ps

/-- R183: the line list: the end-1 stream in arrival order, the own entry, the end-2 stream reversed. -/
def RollState.lineListOf (r : RollState) (own : DirEntry) : Option (List DirEntry) :=
  let a := if r.end1 then some [] else streamOf r.disc1
  let b := if r.end2 then some [] else streamOf r.disc2
  match a, b with
  | some a, some b => some (a ++ own :: b.reverse)
  | _, _ => none

/-- A lane whose streams are all complete has its line list. -/
def State.checkLineList (s : State) (x : LaneId) : State :=
  let r := (s.lane x).roll
  if r.lineList.isSome || !r.running then s
  else s.upd x (fun l => { l with roll := { l.roll with lineList := l.roll.lineListOf (s.ownEntry x) } })

/-- R181: a discovery frame that arrives at an end is kept, relayed out of the other port with the lane's own
entry where it is the last, and may complete the line list. -/
def State.discovery (s : State) (x : LaneId) (e : EndId) (f : RollFrame) (total : Nat) (es : List DirEntry) : State :=
  let part : DiscPart := ⟨f.index.toNat, f.last, total, es⟩
  let own := (s.ownEntry x).setFlag 6 (decide (e = .e2))
  let s := s.upd x (fun l => { l with roll := match e with
    | .e1 => { l.roll with disc1 := l.roll.disc1 ++ [part] }
    | .e2 => { l.roll with disc2 := l.roll.disc2 ++ [part] } })
  let out := e.other
  let relay (l : LaneState) (i : Nat) (last : Bool) (t : Nat) (es : List DirEntry) : LaneState :=
    l.sendRollTo out { f with index := BitVec.ofNat 16 i, last := last, body := .discovery t es }
  let s :=
    if !((s.lane x).port out).isUp then s
    else
      let s := s.inc x 0x243101
      if !f.last then s.upd x (fun l => relay l f.index.toNat false total es)
      else if es.length < 8 then s.upd x (fun l => relay l f.index.toNat true (total + 1) (es ++ [own]))
      else s.upd x (fun l => relay (relay l f.index.toNat false total es) (f.index.toNat + 1) true (total + 1) [own])
  s.checkLineList x

/-- R184: no complete line list at the phase-1 limit: a restart with trigger code 8. -/
def doPhase1Limit (x : LaneId) (s : State) : State :=
  let r := (s.lane x).roll
  if r.running && r.lineList.isNone then s.rollTrigger x 8 else s

/-! ### Merging (R185) and numbering (R186 to R190) -/

/-- The node of an entry appears in a list. -/
def inList (l : List DirEntry) (d : DirEntry) : Bool := l.any (fun e => e.uid = d.uid)

/-- R185: the merged entry: line-1 fields from lane A's list, line-2 fields from lane B's. -/
def mergeEntry (a b : DirEntry) : DirEntry :=
  ({ a with rate2 := b.rate2, supp2 := b.supp2 }.setLine 7 true).setLine 6 true

/-- Entries of one list only: reached on that line; order uncertain where both lists have some (R185). -/
def oneLine (line : LaneId) (uncertain : Bool) (l : List DirEntry) : List DirEntry :=
  l.map (fun d => (d.setLine (7 - laneBit line) true).setFlag 2 (d.flag 2 || uncertain))

/-- The merge loop of R185 on what is left of both lists; none where the line order conflicts. -/
def mergeLoop (all1 all2 : List DirEntry) : Nat → List DirEntry → List DirEntry → Option (List DirEntry)
  | 0, _, _ => some []
  | n + 1, l1, l2 =>
    let g1 := l1.takeWhile (fun d => !inList all2 d)
    let g2 := l2.takeWhile (fun d => !inList all1 d)
    let both := !g1.isEmpty && !g2.isEmpty
    let head := oneLine .A both g1 ++ oneLine .B both g2
    match l1.drop g1.length, l2.drop g2.length with
    | a :: r1, b :: r2 =>
      if a.uid ≠ b.uid then none
      else (mergeLoop all1 all2 n r1 r2).map (fun t => head ++ mergeEntry a b :: t)
    | _, _ => some head

/-- R185: the merge of lane A's and lane B's line lists, and the line order conflict, where lane A's list stands: the manual
does not say whether its entries keep order-uncertain marks set before, or the line-2 bit of a node that lane B's list holds
too; they keep neither (log 60: DESIGN CHOICE). -/
def mergeLists (l1 l2 : List DirEntry) : List DirEntry × Bool :=
  match mergeLoop l1 l2 (l1.length + l2.length + 1) l1 l2 with
  | some out => (out, false)
  | none => (oneLine .A false l1, true)

/-- R189: runs of consecutive entries with the same vehicle UID; UID 0 stands alone. -/
def vehicleRuns : List DirEntry → List (List DirEntry)
  | [] => []
  | d :: t =>
    match vehicleRuns t with
    | (f :: r) :: rest =>
      if d.vehicle ≠ 0 ∧ d.vehicle = f.vehicle then (d :: f :: r) :: rest else [d] :: (f :: r) :: rest
    | other => [d] :: other

/-- R187: whether position 1 is the start of the list, and the lead conflict and inner cab flags. -/
def leadingEnd (l : List DirEntry) : Bool × Nat :=
  let declares := (vehicleRuns l).map (fun r => r.any (fun d => d.flag 4))
  let firstUid := (l.head?.map (fun d => d.uid.toNat)).getD 0
  let lastUid := (l.getLast?.map (fun d => d.uid.toNat)).getD 0
  let smaller := decide (firstUid ≤ lastUid)
  let a := declares.headD false
  let b := (declares.getLast?).getD false
  let inner := if ((declares.drop 1).dropLast).any id then 8 else 0
  if declares.length ≤ 1 then (smaller, 0)
  else if a && b then (smaller, 16 + inner)
  else if a then (true, inner)
  else if b then (false, inner)
  else (smaller, inner)

/-- R188: the low-side end of an entry, as bit [6] of byte 16: its arrival end faces the start of the list on
the end-1 side of the merging node, its other end on the end-2 side, end 1 for the own node. -/
def lowSide (fromStart : Bool) (own i : Nat) (d : DirEntry) : DirEntry :=
  let facesStart := if i < own then d.flag 6 else if own < i then !d.flag 6 else false
  d.setFlag 6 (if fromStart then facesStart else !facesStart)

/-- R189: a node implies that its vehicle faces the direction of travel. -/
def impliesFacing (d : DirEntry) : Bool := d.flag 6 == d.flag 7

/-- R189, R190: one vehicle's entries with vehicle position, facing, conflict and roles. -/
def markVehicle (v count : Nat) (r : List DirEntry) : List DirEntry :=
  let faces := (r.head?.map impliesFacing).getD false
  let conflict := decide (2 < r.length) || (match r with
    | [_, b] => impliesFacing b != faces
    | _ => false)
  r.map (fun d =>
    (({ d with vpos := BitVec.ofNat 16 v }.setFlag 5 faces).setFlag 1 conflict).setLine 5 (decide (v = 1))
      |>.setLine 4 (decide (v = count)))

/-- The smallest time quality class, and among equals the lowest position (R198). -/
def masterOf (l : List DirEntry) : Nat :=
  let best := (l.map (fun d => d.quality.toNat)).foldl min 255
  ((l.find? (fun d => d.quality.toNat = best)).map (fun d => d.pos.toNat)).getD 0

/-- Entries with their index. -/
def indexed {α : Type} : Nat → List α → List (Nat × α)
  | _, [] => []
  | i, a :: t => (i, a) :: indexed (i + 1) t

/-- R186 to R190, R198: the numbered candidate of a merged list, seen from a node. -/
def numberList (uid : Nat) (single conflict : Bool) (l : List DirEntry) : Candidate :=
  let own := l.findIdx (fun d => d.uid.toNat = uid)
  let lead := leadingEnd l
  let faced := (indexed 0 l).map (fun e => lowSide lead.1 own e.1 e.2)
  let ordered := if lead.1 then faced else faced.reverse
  let cut := ordered.take 512
  let placed := (indexed 1 cut).map (fun e => { e.2 with pos := BitVec.ofNat 16 e.1, rejected := 0 })
  let runs := vehicleRuns placed
  let marked := ((indexed 1 runs).map (fun e => markVehicle e.1 runs.length e.2)).flatten
  let master := masterOf marked
  let es := marked.map (fun d => d.setFlag 3 (decide (d.pos.toNat = master)))
  { entries := es
    flags := lead.2 + b2n single * 128 + b2n conflict * 64 + b2n (es.any (fun d => d.flag 2)) * 32
      + b2n (decide (512 < l.length)) * 4 + b2n (es.any (fun d => d.flag 1))
    master := master
    single := single }

/-- R185: the candidate of a lane from its list and, where it has come, its peer's. A list that has come is merged
though the mirror is lost before the candidate forms: the manual gives both that and the own list alone (log 66: DESIGN
CHOICE). -/
def State.formCandidate (s : State) (x : LaneId) : Option Candidate :=
  let r := (s.lane x).roll
  match r.lineList, r.peerList with
  | none, _ => none
  | some own, none => some (numberList s.uid true false (oneLine x false own))
  | some own, some peer =>
    let m := match x with
      | .A => mergeLists own peer
      | .B => mergeLists peer own
    some (numberList s.uid false m.2 m.1)

/-- Node UID of the master in force. -/
def LaneState.masterUid (l : LaneState) : Nat := l.get 0x400A00

/-- A lane takes a master in force. What it measured of it as a candidate counts on. -/
def LaneState.setMaster (l : LaneState) (uid : Nat) : LaneState :=
  if l.masterUid = uid then l
  else
    let same := decide (l.time.candUid = uid)
    { l.put 0x400A00 uid with
      time := { l.time with
        samples := if same then l.time.candSamples else []
        lastSeq := if same then l.time.candSeq else none
        sampleDomain := if same then l.time.candDomain else 0
        mirrorSamples := [] } }

/-- The UID of the time master among numbered entries. -/
def masterUid (es : List DirEntry) (pos : Nat) : Nat :=
  ((es.find? (fun d => d.pos.toNat = pos)).map (fun d => d.uid.toNat)).getD 0

/-- The class of the node in numbered entries, else the one given (R283). -/
def qualityIn (es : List DirEntry) (uid own : Nat) : Nat :=
  ((es.find? (fun d => decide (d.uid.toNat = uid))).map (fun d => d.quality.toNat)).getD own

/-- The lane measures the offset to another master than before, from nothing; 0 for none (R288, R296). -/
def LaneState.measures (l : LaneState) (uid : Nat) : LaneState :=
  if l.time.candUid = uid then l
  else { l with time := { l.time with candUid := uid, candDomain := 0, candSeq := none, candSamples := [] } }

/-- R280: the time master among the numbered entries of a candidate or close, of this Roll's epoch: a node that is not
the master in force and is named is a candidate master (bit [3] of entry 4002h) until the switch beat, and its Syncs carry
class and epoch of what names it (R283); a lane measures the offset to another node that is named and is not its master in
force, or was not before the close, and to none else (log 27: DEDUCED). -/
def State.candidateMaster (s : State) (x : LaneId) (es : List DirEntry) (pos epoch : Nat) : State :=
  let l := s.lane x
  let uid := masterUid es pos
  let isMe := decide (uid = s.uid)
  let candidate := isMe && (decide (l.get 0x400A00 ≠ s.uid) || bitAt (l.get 0x400200) 3)
  let mark := if candidate then (qualityIn es s.uid (s.mget 0x400B00), epoch) else l.time.mark
  let known := decide (uid = l.get 0x400A00) && !l.time.lateDomain
    && !(l.roll.directory.isEmpty && decide (l.time.candUid = uid))
  let other := if isMe || known then 0 else uid
  ((s.put x 0x400200 (withBit (l.get 0x400200) 3 candidate)).upd x (fun l => { l with time := { l.time with mark := mark } })).upd
    x (fun l => l.measures other)

/-- A lane takes its candidate (R185) (log 27: DEDUCED). -/
def State.takeCandidate (s : State) (x : LaneId) : State :=
  match s.formCandidate x with
  | none => s
  | some c =>
    let s := s.upd x (fun l => { l with roll := { l.roll with candidate := some c } })
    s.candidateMaster x c.entries c.master (s.get x 0x240100)

/-- R185: the lane forms its candidate, with its peer's list or, without a current mirror, alone. -/
def doCandidate (x : LaneId) (s : State) : State :=
  let r := (s.lane x).roll
  if r.running && r.candidate.isNone && (r.peerList.isSome || !(s.lane x).poss.mirrorCurrent) then s.takeCandidate x
  else s

/-- R185: the peer's list has not come by the phase-1 limit: the candidate is the own line list alone. -/
def doPeerListWaitEnd (x : LaneId) (s : State) : State :=
  let r := (s.lane x).roll
  if r.running && r.candidate.isNone then s.takeCandidate x else s

/-! ### Publication lists (R194, R195) -/

/-- A list is in the cache. -/
def RollState.cached (r : RollState) (d : DirEntry) : Bool :=
  r.cache.any (fun c => c.uid = d.uid.toNat && c.digest = d.digest.toNat)

/-- The numbering whose lists a lane needs: the adopted close's, else its candidate's; in a late start with no
close, that of the directory in force (R194, R204). -/
def RollState.numbering (r : RollState) : List DirEntry :=
  match r.adopted, r.candidate with
  | some c, _ => c.entries
  | none, some c => c.entries
  | none, none => if r.lateStart then r.directory else []

/-- Members of a numbering with a digest whose lists the lane lacks; its own list it has (R194). -/
def RollState.missingOf (r : RollState) (uid : Nat) (es : List DirEntry) : List Nat :=
  (es.filter (fun d => d.digest ≠ 0 && d.uid.toNat ≠ uid && !r.cached d)).map (fun d => d.pos.toNat)

/-- The lists that the lane lacks of the numbering whose lists it needs (R194). -/
def RollState.missing (r : RollState) (uid : Nat) : List Nat := r.missingOf uid r.numbering

/-- R194, R195, R204: a new want time begins, in which the lane may send its own List set once; in a Roll or a late start it
sends, or repeats, its Want for the lists it lacks. -/
def doWant (x : LaneId) (s : State) : State :=
  let r := (s.lane x).roll
  let s := s.upd x (fun l => { l with roll := { l.roll with listSent := false } })
  if !(r.running || r.lateStart) || r.numbering.isEmpty then s
  else
    let m := r.missing s.uid
    if m.isEmpty then s
    else
      s.sendSet x none (s.rollFrame x 0 true (.want (BitVec.ofNat 32 (directoryStamp r.numbering)) m))

/-- R195: the own List set: one frame, or two when the list has more than 128 entries. -/
def State.sendList (s : State) (x : LaneId) : State :=
  let es := (s.lane x).publications
  let d := BitVec.ofNat 32 (listDigest es)
  let frame (i : Nat) (last : Bool) (part : List PubEntry) := s.rollFrame x i last (.list d es.length part)
  if es.isEmpty then s
  else if es.length ≤ 128 then s.sendSet x none (frame 0 true es)
  else (s.sendSet x none (frame 0 false (es.take 128))).sendSet x none (frame 1 true (es.drop 128))

/-- R195: a Want acted on when its stamp is that of the lane's candidate or adopted close. -/
def State.wantReceived (s : State) (x : LaneId) (stamp : Nat) (positions : List Nat) : State :=
  let r := (s.lane x).roll
  let mine (es : List DirEntry) : Bool := decide (directoryStamp es = stamp) && !es.isEmpty
  let cand := ((r.candidate.map Candidate.entries).getD [])
  let adopted := ((r.adopted.map Close.entries).getD [])
  if !mine cand && !mine adopted then s
  else
    let es := if mine cand then cand else adopted
    let named := (es.filter (fun d => positions.contains d.pos.toNat)).map (fun d => (d.uid.toNat, d.digest.toNat))
    let s := s.upd x (fun l => { l with roll := { l.roll with wanted := (l.roll.wanted ++ named).eraseDups } })
    let me := es.any (fun d => d.uid.toNat = s.uid && positions.contains d.pos.toNat)
    if me && !r.listSent then
      (s.sendList x).upd x (fun l => { l with roll := { l.roll with listSent := true } })
    else s

/-- A lane with its Roll state replaced. -/
def LaneState.withRoll (l : LaneState) (r : RollState) : LaneState := { l with roll := r }

/-- A list enters the cache of 1,024; the oldest leaves a full one (R194) (log 26: DESIGN CHOICE). -/
def RollState.cacheList (r : RollState) (c : CachedList) : RollState :=
  let rest := r.cache.filter (fun k => !(k.uid = c.uid && k.digest = c.digest))
  { r with cache := (if 1024 ≤ rest.length then rest.drop 1 else rest) ++ [c] }

/-- R195: a List set is complete and its digest matches its entries: it is cached. -/
def State.listReceived (s : State) (x : LaneId) (f : RollFrame) (digest total : Nat) (es : List PubEntry) : State :=
  let part : ListPart := ⟨f.origin.toNat, f.index.toNat, f.last, digest, total, es⟩
  let s := s.upd x (fun l => { l with roll := { l.roll with listParts := l.roll.listParts ++ [part] } })
  let mine := (s.lane x).roll.listParts.filter (fun p => p.origin = f.origin.toNat && p.digest = digest)
  let first := (mine.find? (fun p => p.index = 0)).map ListPart.entries
  let second := ((mine.find? (fun p => p.index = 1)).map ListPart.entries).getD []
  match first with
  | none => s
  | some a =>
    let list := a ++ second
    if list.length = total ∧ listDigest list = digest then
      s.upd x (fun l => (l.put 0x243200 ((l.roll.cacheList ⟨f.origin.toNat, digest, list⟩).cache.length)).withRoll
        (l.roll.cacheList ⟨f.origin.toNat, digest, list⟩))
    else s

/-! ### The close (R196 to R201) -/

/-- Bit [3] of a numbered entry: the end that faces the next higher position (R188, R192). -/
def highEnd (d : DirEntry) : EndId := if d.flag 6 then .e1 else .e2

/-- The supported code that an entry reports for its segment at an end of a line (R191). -/
def supportedAt (d : DirEntry) (line : LaneId) (e : EndId) : Nat :=
  let b := match line with
    | .A => d.supp1.toNat
    | .B => d.supp2.toNat
  match e with
  | .e1 => b / 16
  | .e2 => b % 16

/-- R198: a segment's supported code from the codes of its two ends: the slower; Fh takes the other's; two Fh
are no segment. -/
def segmentCode (a b : Nat) : Option Nat :=
  if a = 15 ∧ b = 15 then none else if a = 15 then some b else if b = 15 then some a else some (max a b)

/-- The supported codes of the segments between neighbours on a line (R198). -/
def segmentCodes (line : LaneId) : List DirEntry → List Nat
  | a :: b :: t =>
    let c := segmentCode (supportedAt a line (highEnd a)) (supportedAt b line (highEnd b).other)
    (c.map (fun c => [c])).getD [] ++ segmentCodes line (b :: t)
  | _ => []

/-- Byte 19 or 20 of an entry. -/
def settingsOf (d : DirEntry) (line : LaneId) : Nat :=
  match line with
  | .A => d.rate1.toNat
  | .B => d.rate2.toNat

/-- R115: the rate code of a line over the nodes reached on it; none without a segment or known settings. -/
def computedRate (line : LaneId) (es : List DirEntry) : Option Nat :=
  let on := es.filter (fun d => d.reached line)
  let known := (on.map (fun d => settingsOf d line)).filter (fun b => b ≠ 0xFF)
  let segs := segmentCodes line on
  if known.isEmpty ∨ segs.isEmpty then none
  else
    let c := (known.map (fun b => b % 16)).foldl max 0
    let f := (known.map (fun b => b / 16)).foldl min 15
    let r := max c (segs.foldl max 0)
    some (if f < r then f else r)

/-- R117: every segment of the line proposes the faster rate, and every numbered node is reached by both
lines. -/
def mayGoFaster (line : LaneId) (r : Nat) (es : List DirEntry) : Bool :=
  (segmentCodes line (es.filter (fun d => d.reached line))).all (fun c => c ≤ r)
    && es.all (fun d => d.reached .A && d.reached .B)

/-- R198: the rate a close would give a line, before the rule of one change per close. -/
def wantedRate (line : LaneId) (inForce : Nat) (es : List DirEntry) : Nat :=
  match computedRate line es with
  | none => inForce
  | some r =>
    if inForce = 0xFF then r
    else if r < inForce ∧ !mayGoFaster line r es then inForce
    else r

/-- R118, R198: the rates of both lines, and whether line 2 is deferred: line 1 changes first. -/
def closeRates (r1 r2 : Nat) (es : List DirEntry) : Nat × Nat × Bool :=
  let w1 := wantedRate .A r1 es
  let w2 := wantedRate .B r2 es
  if w1 ≠ r1 ∧ r1 ≠ 0xFF ∧ w2 ≠ r2 ∧ r2 ≠ 0xFF then (w1, r2, true) else (w1, w2, false)

/-- The rates of lines 1 and 2 in force at a lane (entry 240Bh). -/
def LaneState.ratesInForce (l : LaneState) : Nat × Nat := (l.get 0x240B00 / 256, l.get 0x240B00 % 256)

/-- R196: the closer has an offset to the candidate's master: it is that master, follows it already, or holds
a valid Sync of it. -/
def State.hasOffset (s : State) (x : LaneId) (uid : Nat) : Bool :=
  let l := s.lane x
  decide (uid = s.uid) || decide (uid = l.get 0x400A00)
    || (decide (l.time.candUid = uid) && !l.time.candSamples.isEmpty)

/-- The lane's estimate of a master's time: its own, less the offset measured to a master of another
domain (R199, R296). -/
def LaneState.masterTime (l : LaneState) (uid : Nat) : Int :=
  let t : Int := (l.trainTime : Nat)
  if l.time.candUid = uid then
    match l.time.candSamples with
    | m :: _ => t - m.theta
    | [] => t
  else t

/-- R199: the first beat at least 128 beats after a time, in ns. -/
def switchBeatAfter (t : Int) : Nat := ((t + 128000000 + 999999) / 1000000 * 1000000).toNat

/-- R197: the close fields of a candidate. -/
def State.closeFieldsOf (s : State) (x : LaneId) (c : Candidate) : CloseFields :=
  let l := s.lane x
  let rates := closeRates l.ratesInForce.1 l.ratesInForce.2 c.entries
  { members := BitVec.ofNat 16 c.entries.length
    vehicles := BitVec.ofNat 16 (vehicleRuns c.entries).length
    stamp := BitVec.ofNat 32 (directoryStamp c.entries)
    rate1 := BitVec.ofNat 8 rates.1
    rate2 := BitVec.ofNat 8 rates.2.1
    flags := BitVec.ofNat 16 (c.flags + b2n rates.2.2 * 2)
    switchBeat := BitVec.ofNat 64 (switchBeatAfter (l.masterTime (masterUid c.entries c.master)))
    master := BitVec.ofNat 16 c.master }

/-- The frames of a Close set: entries in groups of eight (R197). -/
def closeGroups : Nat → List DirEntry → List (List DirEntry)
  | 0, _ => []
  | n + 1, es => es.take 8 :: closeGroups n (es.drop 8)

/-- A lane sends a whole Close set, of its closer's origin, on its line (R178, R196, R201). -/
def State.sendClose (s : State) (x : LaneId) (c : Close) : State :=
  let n := closeFrames c.entries.length
  (indexed 0 (closeGroups n c.entries)).foldl (fun s g =>
    let f := { s.rollFrame x g.1 (decide (g.1 + 1 = n)) (.close c.fields (8 * g.1 + 1) n g.2) with
      origin := BitVec.ofNat 64 c.origin, epoch := BitVec.ofNat 16 c.epoch }
    s.sendSet x none f) s

/-- The rate that a close gives the line of a lane. -/
def Close.rateOf (c : Close) (x : LaneId) : Nat :=
  match x with
  | .A => c.fields.rate1.toNat
  | .B => c.fields.rate2.toNat

/-- R200: the better close: more members, then the smaller stamp (log 60: DESIGN CHOICE). -/
def betterClose (a b : Close) : Bool :=
  decide (b.fields.members.toNat < a.fields.members.toNat)
    || (a.fields.members == b.fields.members && decide (a.fields.stamp.toNat < b.fields.stamp.toNat))

/-- R200: a lane adopts a close. A trigger that came before waits on (R174). Its stamp is pending from now (R141); a
candidate that differs is counted, one that is formed only later is not compared: the manual does not say (log 60:
DESIGN CHOICE); a lane without a directory takes the master that the close names (R288); lane A's adoption of a close
that numbers the node ends lane B's wait (R122). -/
def State.adopt (s : State) (x : LaneId) (c : Close) : State :=
  let r := (s.lane x).roll
  let differs := match r.candidate with
    | some k => decide (k.entries.map stampedPart ≠ c.entries.map stampedPart)
    | none => false
  let s := s.upd x (fun l =>
    { l with roll := { l.roll with adopted := some c } }.dropSchedule)
  let s := if differs then s.inc x 0x243104 else s
  let numbered := c.entries.any (fun d => d.uid.toNat = s.uid)
  let s := if x = .A ∧ numbered then
      { s with keeper := { s.keeper with firstInsertion := false }
               laneA := { s.laneA with ins := if s.laneA.ins = .training then .inserted else s.laneA.ins } }
    else s
  let s := s.lower (.lane x) 56
  (s.candidateMaster x c.entries c.fields.master.toNat c.epoch).upd x (fun l =>
    if l.roll.directory.isEmpty then l.setMaster (Machine.masterUid c.entries c.fields.master.toNat) else l)

/-- R200: a lane that holds a close keeps the better of two of one epoch and counts the other, once for each that
reaches it; of two with equal members and equal stamp value it keeps the one it holds (log 60: DESIGN CHOICE). -/
def State.offerClose (s : State) (x : LaneId) (c : Close) : State :=
  let met := (s.lane x).roll.offered.contains c
  let s := s.upd x (fun l => { l with roll := { l.roll with offered := (c :: l.roll.offered).eraseDups } })
  match (s.lane x).roll.adopted with
  | none => s.adopt x c
  | some k =>
    if k = c || met then s
    else if betterClose c k then (s.inc x 0x243105).adopt x c
    else s.inc x 0x243105

/-- R196, item 2: the lane has the list of every position named in every Want it has acted on. -/
def RollState.hasWanted (r : RollState) (uid : Nat) : Bool :=
  r.wanted.all (fun w => decide (w.1 = uid) || decide (w.2 = 0)
    || r.cache.any (fun c => decide (c.uid = w.1) && decide (c.digest = w.2)))

/-- CLOSE (R196 to R199): after the want time a closer offers itself its close and sends it on its own line, once in a
Roll; it has the lists asked for, or the list limit has passed, and an offset to the master. -/
def doClose (x : LaneId) (listLimit : Bool) (s : State) : State :=
  let r := (s.lane x).roll
  match r.candidate with
  | none => s
  | some c =>
    let first := (c.entries.head?.map (fun d => d.uid.toNat)).getD 0
    if !r.running || r.closed || first ≠ s.uid || !(listLimit || r.hasWanted s.uid)
        || !s.hasOffset x (masterUid c.entries c.master) then s
    else
      let k : Close := ⟨s.get x 0x240100, s.uid, s.closeFieldsOf x c, c.entries⟩
      let s := s.upd x (fun l => { l with roll := { l.roll with closed := true } })
      (s.offerClose x k).sendClose x k

/-- R200: the parts of a Close set are all there, with consistent fields. -/
def closeSet (n : Nat) (ps : List ClosePart) : Option (List DirEntry) :=
  let picks := (List.range n).map (fun i => ps.find? (fun p => p.index = i))
  if picks.all Option.isSome then some ((picks.filterMap id).flatMap ClosePart.entries) else none

/-- R200: a Close frame is kept; a complete set whose fields agree and whose stamp verifies is offered, any
other complete set is counted once as rejected. -/
def State.closeReceived (s : State) (x : LaneId) (f : RollFrame) (fields : CloseFields) (first n : Nat)
    (es : List DirEntry) : State :=
  let part : ClosePart := ⟨f.origin.toNat, f.index.toNat, fields, first, n, es⟩
  let s := s.upd x (fun l => { l with roll := { l.roll with closeParts := l.roll.closeParts ++ [part] } })
  let mine := (s.lane x).roll.closeParts.filter (fun p => p.origin = f.origin.toNat)
  match closeSet n mine with
  | none => s
  | some all =>
    if !(s.lane x).roll.running then s
    else if mine.any (fun p => p.fields ≠ fields || p.frames ≠ n) || all.length ≠ fields.members.toNat
        || directoryStamp all ≠ fields.stamp.toNat then s.inc x 0x243103
    else s.offerClose x ⟨f.epoch.toNat, f.origin.toNat, fields, all⟩

/-- R200: no close adopted at the close limit: source 56, and a restart with trigger code 8. -/
def doCloseLimit (x : LaneId) (s : State) : State :=
  let r := (s.lane x).roll
  if r.running && r.adopted.isNone then (s.raiseLane x 56).rollTrigger x 8 else s

/-! ### Receiving Roll frames (R176 to R179) -/

/-- R177, R178, R181, R197: the fields of a frame do not contradict each other. Every frame of a stream but its last holds 8
entries. -/
def rollFrameOk (f : RollFrame) : Bool :=
  match f.body with
  | .malformed => false
  | .start c => decide (1 ≤ c.toNat) && decide (c.toNat ≤ 9) && f.last && decide (f.index = 0)
  | .discovery total es =>
    decide (1 ≤ es.length) && decide (es.length ≤ 8) && decide (total = 8 * f.index.toNat + es.length)
      && (f.last || decide (es.length = 8))
  | .want _ ps => f.last && decide (f.index = 0) && ps.all (fun p => decide (1 ≤ p) && decide (p ≤ 512))
  | .list _ total es =>
    decide (1 ≤ es.length) && decide (es.length ≤ 128) && decide (total ≤ 256)
      && (if total ≤ 128 then decide (f.index = 0) && f.last && decide (es.length = total)
          else if f.last then decide (f.index = 1) && decide (es.length = total - 128)
          else decide (f.index = 0) && decide (es.length = 128))
  | .close c first n es =>
    decide (1 ≤ c.members.toNat) && decide (c.members.toNat ≤ 512)
      && decide (1 ≤ c.vehicles.toNat) && decide (c.vehicles.toNat ≤ c.members.toNat) && decide (n = closeFrames c.members.toNat)
      && decide (f.index.toNat < n) && decide (first = 8 * f.index.toNat + 1)
      && (indexed 0 es).all (fun g => decide (g.2.pos.toNat = first + g.1))
      && decide (es.length = min 8 (c.members.toNat + 1 - first)) && decide (f.last = decide (f.index.toNat + 1 = n))
      && decide (c.switchBeat.toNat % 1000000 = 0) && decide (1 ≤ c.master.toNat)
      && decide (c.master.toNat ≤ c.members.toNat) && decide (c.flags.toNat < 256)

/-- R179, R208: a frame of a set is relayed once, with its payload, out of every up port but that of its arrival, and
counted where there is one (log 63: DEDUCED). -/
def State.relayRoll (s : State) (x : LaneId) (src : RollSrc) (f : RollFrame) : State :=
  let goes := [EndId.e1, EndId.e2].any (fun e => decide (src.port? ≠ some e) && ((s.lane x).port e).isUp)
  let s := s.sendSet x src.port? f
  if goes then s.inc x 0x243101 else s

/-- R179, R181, R195, R200: a frame of the current epoch is relayed and handled, once; a Want is acted on each time
(R195). -/
def State.handleRoll (s : State) (x : LaneId) (src : RollSrc) (f : RollFrame) : State :=
  let again := (s.lane x).roll.seen.contains (rollKind f.body, f.origin.toNat, f.index.toNat)
  match f.body with
  | .malformed => s
  | .start _ => if again then s else s.relayRoll x src f
  | .discovery total es =>
    match src with
    | .port e =>
      if again then s
      else (s.upd x (fun l => { l with roll := l.roll.note f })).discovery x e f total es
    | .peer => s
  | .want stamp ps => (if again then s else s.relayRoll x src f).wantReceived x stamp.toNat ps
  | .list d total es => if again then s else (s.relayRoll x src f).listReceived x f d.toNat total es
  | .close c first n es => if again then s else (s.relayRoll x src f).closeReceived x f c first n es

/-- The trigger code that entry 240Ah and the Starts of a joined Roll show: that of the Start; of a Roll joined by
another frame the manual gives none, and the model takes code 1 and the frame's origin (log 60: DESIGN CHOICE). -/
def startCodeOf : RollBody → Nat
  | .start c => c.toNat
  | _ => 1

/-- R176: a lane joins the newer Roll of a frame and handles the frame in it. On its own line it sends the Start of
the new epoch unless the frame came from there: a Start that came from there it relays. -/
def State.joinRoll (s : State) (x : LaneId) (src : RollSrc) (f : RollFrame) : State :=
  let s := s.enterRoll x f.epoch.toNat (startCodeOf f.body) f.origin.toNat
  match f.body, src with
  | .start _, _ => (s.handleRoll x src f).beginStreams x
  | _, .peer => ((s.sendSet x none (s.startFrame x)).beginStreams x).handleRoll x src f
  | _, .port _ => (s.beginStreams x).handleRoll x src f

/-- R176, R177: a Roll frame received whole is checked and compared by epoch: joined, handled, or discarded
and counted. -/
def doRollFrame (x : LaneId) (src : RollSrc) (r : RollOctets) (s : State) : State :=
  let l := s.lane x
  let f := rollOf r.epoch r.payload
  let arrives := match src with
    | .port e => (l.port e).isUp
    | .peer => l.poss.mirrorUp
  if !l.ready || !arrives then s
  else if !rollFrameOk f then s.inc x 0x243103
  else
    let cur := l.get 0x240100
    if epochNewer f.epoch.toNat cur then s.joinRoll x src f
    else if f.epoch.toNat = cur then s.handleRoll x src f
    else
      let s := s.inc x 0x243102
      if l.roll.running then
        match src with
        | .port e => s.upd x (fun l => l.sendRollTo e (s.startFrame x))
        | .peer => s
      else s.rollTrigger x 9

/-- R185: the peer's line list of the same Roll, once. -/
def RollState.takePeerList (r : RollState) (list : Option (List DirEntry)) : RollState :=
  { r with peerList := match r.peerList with
      | some q => some q
      | none => list }

/-- R200, R201: a close that the peer holds is offered if this lane has not met it in this Roll; when it is adopted, it goes
out on the lane's own line. -/
def State.offerPeerClose (s : State) (x : LaneId) (c : Close) : State :=
  if (s.lane x).roll.offered.contains c then s
  else
    let s := s.offerClose x c
    if (s.lane x).roll.adopted = some c then s.sendClose x c else s

/-- R176, R185, R201: what the peer's Roll passes through the mirror: its start, its line list, its adopted
close, which the lane then sends on its own line. -/
def State.mirrorRoll (s : State) (x : LaneId) : State :=
  let p := (s.lane x.peer).roll
  let pe := s.get x.peer 0x240100
  let s := if p.running && epochNewer pe (s.get x 0x240100) then s.startRoll x pe p.startCode p.startOrigin else s
  if !(s.lane x).roll.running || s.get x 0x240100 ≠ pe || !p.running then s
  else
    let s := s.upd x (fun l => { l with roll := l.roll.takePeerList p.lineList })
    match p.adopted with
    | none => s
    | some c => s.offerPeerClose x c

/-! ### Requests (R205, R208) -/

/-- R205: a lane that is not numbered requests a Roll with trigger code 7. -/
def doNotNumberedRequest (x : LaneId) (s : State) : State :=
  if (s.lane x).roll.notNumbered then s.rollTrigger x 7 else s

/-- Entry 2420h:00h Roll request (R171, R208), refused while a sleep announcement is in force. -/
def doRollRequest (acc : Acc) (v : Byte) (s : State) : State :=
  s.command acc 0x2420 0 1 (fun _ => s.keeper.sleepBeat.isNone) (decide (v.toNat = 1)) (fun _ =>
    (s.rollTriggerNode 4).answer 0)

/-- Entry 2421h:00h Lead declaration (R171, R208): a change triggers a Roll with code 3. -/
def doLeadDeclaration (acc : Acc) (v : Byte) (s : State) : State :=
  s.command acc 0x2421 0 1 (fun _ => true) (decide (v.toNat ≤ 1)) (fun x =>
    let changed := decide (s.get x 0x242100 ≠ v.toNat)
    let s := s.writeNode acc (fun l => l.put 0x242100 v.toNat)
    let s := if changed then s.rollTriggerNode 3 else s
    ((s.noteCab .A).noteCab .B).answer 0)

/-! ### The meanings -/

def execRollTrigger (x : LaneId) (code : Fin 10) (s : State) : Out := .next (doRollTrigger x code s)
def execHoldOffEnd (x : LaneId) (s : State) : Out := .next (doHoldOffEnd x s)
def execRollSpacingEnd (x : LaneId) (s : State) : Out := .next (doRollSpacingEnd x s)
def execRollOriginate (x : LaneId) (s : State) : Out := .next (doRollOriginate x s)
def execRollFrame (x : LaneId) (src : RollSrc) (f : RollOctets) (s : State) : Out := .next (doRollFrame x src f s)
def execPhase1Limit (x : LaneId) (s : State) : Out := .next (doPhase1Limit x s)
def execCandidate (x : LaneId) (s : State) : Out := .next (doCandidate x s)
def execPeerListWaitEnd (x : LaneId) (s : State) : Out := .next (doPeerListWaitEnd x s)
def execWant (x : LaneId) (s : State) : Out := .next (doWant x s)
def execClose (x : LaneId) (s : State) (listLimit : Bool := false) : Out := .next (doClose x listLimit s)
def execCloseLimit (x : LaneId) (s : State) : Out := .next (doCloseLimit x s)
def execNotNumberedRequest (x : LaneId) (s : State) : Out := .next (doNotNumberedRequest x s)
def execRollRequest (acc : Acc) (v : Byte) (s : State) : Out := .next (s.through acc (doRollRequest acc v s))
def execLeadDeclaration (acc : Acc) (v : Byte) (s : State) : Out := .next (s.through acc (doLeadDeclaration acc v s))

end Sys2Proof.Machine
end

