-- ==== Sys2Proof/Machine/Faults.lean ====
section
/-! DEFINITION. Faults as commands: sources entering and leaving fault, block resets ending,
acknowledgement, test injection (chapter 13). The reaction itself is in Reaction.lean. -/

namespace Sys2Proof.Machine

/-- R405, R411: sources enter fault in one collector cycle, and the reaction runs (log 9: DESIGN CHOICE, 55: DEDUCED). -/
def doFaultReaction (c : CollectorId) (hits : List SourceHit) (s : State) : State :=
  if s.collects c then s.enterFaults c hits else s

/-- The condition that a source stands for has ended. Source 83: no switch of the lane passes current while off any
more, and the stuck-on bits clear (R358). Source 97: the peer's pair reads valid again (R79, R80, R91, log 59: DEDUCED).
-/
def State.unstick (s : State) (c : CollectorId) (source : Nat) : State :=
  match c with
  | .lane x =>
    if source = 83 then s.upd x (fun l => l.eachPin (fun l n => l.setPinBit n 11 false))
    else if source = 97 then s.upd x (fun l => { l with poss := { l.poss with pairBroken := false } })
    else s
  | .module => s

/-- R358, R405, R410: a source's pair reads 01b for a cycle: it has left fault and may react again; that of the arbiter
only once the arbiter runs again (R408) (log 55: DEDUCED). -/
def doSourceLeavesFault (c : CollectorId) (source : Nat) (s : State) : State :=
  if c = .module ∧ source = 132 ∧ s.arb.running = false then s
  else if sourceIn c source && s.collects c then (s.lower c source).unstick c source else s

/-! ### The end of a block reset (R412) -/

/-- A domain that was off for its reset is on again (R412); the ports start once both port domains are on. -/
def LaneState.domainOn (l : LaneState) (x : LaneId) (d : Nat) : LaneState :=
  if (d = 1 ∨ d = 2) ∧ l.portDomainOff x = false then l.portsStart
  else if d = 4 then l.fieldPowered
  else l

/-- R412: a block reset ends: the block works again. Events queued during a recorder reset are written
after it; an arbiter runs as after its restart of R77 (log 22: DEDUCED). -/
def doBlockResetDone (c : CollectorId) (source : Nat) (s : State) : State :=
  if !(s.collector c).resets.contains source then s
  else
    let s' := s.updColl c (fun k => { k with resets := k.resets.filter (· ≠ source) })
    match c with
    | .lane x =>
      if ((sourceRow source).map Source.block) = some .domain then
        let ends (e : Nat × Nat) : Bool := decide (e.1 = source)
        let left := (s.lane x).coll.domains.filter (fun e => !ends e)
        let back := (s.lane x).coll.domains.filter (fun e => ends e && !left.any (fun k => decide (k.2 = e.2)))
        (s'.updColl c (fun k => { k with domains := left })).upd x (fun l =>
          back.foldl (fun l e => l.domainOn x (e.2 - domainBase x)) l)
      else if ((sourceRow source).map Source.block) = some .fieldSide then
        s'.upd x (fun l => l.updField (fun f => { f with barred := false }))
      else s'
    | .module =>
      if ((sourceRow source).map Source.block) = some .arbiter then doArbiterRestart s' else s'

/-! ### Entries 1406h, 1409h and 140Ah -/

/-- The checks of a fault command: the lane's at subindex 01h, the host front's at 02h (R424, R480). -/
def State.faultCommand (s : State) (acc : Acc) (module : Bool) (index role : Nat) (state : CollectorId → Bool)
    (value : CollectorId → Bool) (run : CollectorId → State) : State :=
  if module then s.moduleCommand acc index 2 role (state .module) (value .module) (run .module)
  else s.command acc index 1 role (fun x => state (.lane x)) (value (.lane .A)) (fun x => run (.lane x))

/-- Classes c with their bit set in v are acknowledged, real and injected reactions alike (R418). -/
def Collector.acknowledge (c : Collector) (v : Nat) : Collector :=
  { c with
    level := (bitsOf 13 v).foldl (fun t k => tabSet (fun _ => 0) k 0 t) c.level
    injUnack := clearMask c.injUnack v
    intClasses := clearMask c.intClasses v
    trapClasses := clearMask c.trapClasses v
    highClasses := clearMask c.highClasses v }

/-- Event 0011h goes to the lane whose collector is acknowledged, to both lanes for the module-level one (log 22:
DEDUCED). -/
def State.recordAcknowledge (s : State) (c : CollectorId) (v : Nat) : State :=
  match c with
  | .lane x => s.record x 0x0011 (toBytes 2 v ++ [0])
  | .module => s.recordBoth 0x0011 (toBytes 2 v ++ [1])

/-- R419: the marks that the reactions of a cycle leave, where an acknowledgement of the same cycle does not cover them. -/
def Collector.releave (k : Collector) (taken : List Taken) : Collector :=
  taken.foldl (fun k t =>
    if 1 ≤ t.level then (k.raiseClass (sourceClass t.source) t.level).leave (sourceClass t.source) t.level else k) k

/-- R418, R419: an acknowledgement, with the faults that enter in the same collector cycle: they are evaluated against
the class levels at its start, and the acknowledgement covers the reactions of earlier cycles only. -/
def State.acknowledgeWith (s : State) (c : CollectorId) (hits : List SourceHit) (v : Nat) : State :=
  if hits.isEmpty then (s.updColl c (fun k => k.acknowledge v)).recordAcknowledge c v
  else
    let out := s.decideFaults c hits
    ((out.2.updColl c (fun k => (k.acknowledge v).releave out.1)).recordAcknowledge c v).react c out.1

/-- Entry 1406h Acknowledge (R418, R419), and the faults `hits` that enter in its collector cycle. Operator and above;
bits 13 to 15 are reserved (R11) (log 22: DEDUCED). -/
def doAcknowledge (acc : Acc) (module : Bool) (v : BitVec 16) (hits : List SourceHit) (s : State) : State :=
  let t := s.faultCommand acc module 0x1406 1 (fun _ => true) (fun _ => decide (v.toNat < 8192)) (fun c =>
    ((if s.collects c then s.acknowledgeWith c hits v.toNat else s.acknowledgeWith c [] v.toNat)).answer 0)
  if t.ans.code = 0 ∨ hits.isEmpty then t
  else match if module then some CollectorId.module else (s.target acc.sel).map CollectorId.lane with
    | none => t
    | some c => if t.collects c then t.enterFaults c hits else t

/-- R420, R422: an injection into a source: its injected sticky bit; and, unless the source is in a real
fault, a tagged reaction at the smaller of its level and 1, or at its own level if the source is armed (log 21: DEDUCED). -/
def State.inject (s : State) (c : CollectorId) (n : Nat) : State :=
  let k := s.collector c
  let b := sourceBit c n
  let own := s.sourceLevel c n
  let armed := k.armed = some n
  let s := s.updColl c (fun k => { k with
    injected := withBit k.injected b true
    armed := if k.armed = some n then none else k.armed })
  if k.inFault.testBit b then s
  else
    let lv := if armed then own else min own 1
    let cls := sourceClass n
    let t : Taken := { source := n, level := lv, own := own, path := false, injected := true, domain := 0 }
    let s := if 1 ≤ lv then
        s.updColl c (fun k => { k.leave cls lv with injUnack := withBit k.injUnack cls true })
      else s
    (s.recordReaction c t).carryOut c [t]

/-- Entry 1409h Inject (R420). Maintainer and above; a reserved source is out of range. -/
def doInject (acc : Acc) (module : Bool) (source : Byte) (s : State) : State :=
  s.faultCommand acc module 0x1409 2 (fun _ => true) (fun c => sourceIn c source.toNat) (fun c =>
    (s.inject c source.toNat).answer 0)

/-- R422: the peer whose eligibility lets a high-level test be armed: the lane's peer, or for the
module-level collector the peer of the lane in possession. -/
def State.peerEligible (s : State) (c : CollectorId) : Bool :=
  match c with
  | .lane x => s.eligible x.peer
  | .module => match s.holder with
    | some x => s.eligible x.peer
    | none => false

/-- R422: when a full-reaction test may be armed. -/
def State.mayArm (s : State) (c : CollectorId) (n : Nat) : Bool :=
  (decide (s.sourceLevel c n < 3) || s.peerEligible c)
    && decide (s.get .A 0x112000 = 0) && decide (s.get .B 0x112000 = 0) && (s.collector c).armed.isNone

/-- Entry 140Ah Full-reaction arm (R422). Maintainer and above. -/
def doFullReactionArm (acc : Acc) (module : Bool) (source : Byte) (s : State) : State :=
  s.faultCommand acc module 0x140A 2 (fun c => s.mayArm c source.toNat) (fun c => sourceIn c source.toNat) (fun c =>
    (s.updColl c (fun k => { k with armed := some source.toNat })).answer 0)

/-- R422: an armed test lapses unused after 60 s. -/
def doFullReactionArmLapse (c : CollectorId) (s : State) : State :=
  s.updColl c (fun k => { k with armed := none })

/-! ### The meanings -/

def execFaultReaction (c : CollectorId) (hits : List SourceHit) (s : State) : Out :=
  .next (doFaultReaction c hits s)
def execBlockResetDone (c : CollectorId) (source : Nat) (s : State) : Out := .next (doBlockResetDone c source s)
def execAcknowledge (acc : Acc) (module : Bool) (v : BitVec 16) (s : State) (hits : List SourceHit := []) : Out :=
  .next (s.through acc (doAcknowledge acc module v hits s))
def execInject (acc : Acc) (module : Bool) (source : Byte) (s : State) : Out :=
  .next (s.through acc (doInject acc module source s))
def execFullReactionArm (acc : Acc) (module : Bool) (source : Byte) (s : State) : Out :=
  .next (s.through acc (doFullReactionArm acc module source s))
def execFullReactionArmLapse (c : CollectorId) (s : State) : Out := .next (doFullReactionArmLapse c s)
def execSourceLeavesFault (c : CollectorId) (source : Nat) (s : State) : Out :=
  .next (doSourceLeavesFault c source s)

end Sys2Proof.Machine
end

