-- ==== Sys2Proof/Machine/Recorder.lean ====
section
/-! DEFINITION. The event recorder as commands: writing queued records, losing events, the control block,
clearing, restoring the time tags, and failure of its memory (chapter 14). What `record` queues is in
Ops.lean. -/

namespace Sys2Proof.Machine

/-! ### Records as bytes (R426) -/

/-- The 32 bytes of a record: flags, all-ones tags while they are not valid, CRC-32C. -/
def recordBytes (x : LaneId) (final : Bool) (r : EventRec) : List Byte :=
  let e := r.event
  let flags := b2n e.tags * 128 + laneBit x * 64 + b2n e.acting * 32 + b2n e.holdUp * 16 + b2n final * 8
  let body := toBytes 4 r.seq ++ toBytes 6 (if e.tags then e.ms else ones 48)
    ++ toBytes 3 (if e.tags then e.cycles else ones 24) ++ toBytes 1 flags ++ toBytes 2 e.code ++ pad12 e.data
  body ++ toBytes 4 (crc32c body)

/-! ### Failure of the memory (R439, R440) -/

/-- R439: slot 131,071, where event 0062h cannot be verified, is bad. -/
def LaneState.unclosed (l : LaneState) : LaneState :=
  if l.log.slots.length = 131072 then { l with log := { l.log with slots := l.log.slots.take 131071 } }.badSlot else l

/-- R439, R440: the memory is declared failed with a cause of 1 to 4. -/
def doRecorderMemoryFailed (x : LaneId) (cause : Byte) (s : State) : State :=
  if 1 ≤ cause.toNat ∧ cause.toNat ≤ 4 then
    (if cause.toNat = 4 ∧ (s.lane x).log.failed = none ∧ (s.lane x).awake = true then s.upd x LaneState.unclosed else s).failRecorder
      x cause.toNat
  else s

/-! ### Writing (R433, R436) -/

/-- R433, R436, R439: the oldest queued event is written; `first` and `second` say whether the comparison and its
repetition succeed, `closes` whether event 0062h behind it can be verified, and `later` how the comparisons of the
records go that a reset writes next. A record in slot 131,070 closes the log, with source 105; a failed memory raises
104. -/
def doRecordWrite (x : LaneId) (first second closes : Bool) (later : List Bool) (s : State) : State :=
  let l := s.lane x
  match l.log.queue with
  | [] => s
  | q :: rest =>
    if !l.awake || decide (l.mode = .stopped) || l.log.inClear || l.recorderResets || !l.log.scanned then s
    else if l.log.full || l.log.failed.isSome then
      s.upd x (fun l => { l with log := { l.log with queue := rest } }.lose q.code)
    else
      let ok := (first || second) && !l.log.wornPair
      let left := if ok then rest else l.log.queue
      let s := s.upd x (fun l =>
        { l with log := { l.log with queue := left, outcomes := later } }.writeRecord s.keeper.onHoldUp ok closes q)
      let s := if (s.lane x).log.failed.isSome then s.raiseLane x 104 else s
      if (s.lane x).log.full then s.raiseLane x 105 else s

/-- R433, R437: an event that meets a full log, a full queue, a recorder reset or a failed recorder is
counted as lost. -/
def doEventLost (x : LaneId) (code : BitVec 16) (s : State) : State :=
  let l := s.lane x
  if !l.awake || decide (l.mode = .stopped) then s
  else if ((l.log.failed.isSome || l.log.full) && !l.log.inClear) || l.recorderResets then
    s.upd x (fun l => l.lose code.toNat)
  else if 256 ≤ l.log.queue.length then
    s.upd x (fun l => { l.lose code.toNat with log := { (l.lose code.toNat).log with overflow := true } })
  else s

/-- R430: a rewrite that a loss of supply cuts in copy k: the copies before it are new, it fails its check, the others
are as they were. -/
def LaneState.cutRewrite (l : LaneState) (k : Nat) : LaneState :=
  let new := l.ctlNow
  { l with log := { l.log with ctl := (l.log.ctl.zip (List.range 3)).map (fun e =>
    if e.2 < k then new else if e.2 = k then { new with ok := false } else e.1) } }

/-- R430: the control block's copies take the counters' values, in the order 1, 2, 3 (log 54: DESIGN CHOICE). -/
def doControlBlockRewrite (x : LaneId) (cut : Option (Fin 3)) (s : State) : State :=
  if (s.lane x).awake then
    match cut with
    | none => s.upd x LaneState.rewriteControl
    | some k => s.upd x (fun l => l.cutRewrite k.val)
  else s

/-! ### Clearing (R438) -/

/-- Entry 1506h:00h Clear. Maintainer and above; refused during a shutdown record or a clear (log 28: DEDUCED). -/
def doClear (acc : Acc) (v : Byte) (s : State) : State :=
  s.command acc 0x1506 0 2 (fun x => !(s.lane x).log.shutdown && !(s.lane x).log.clearing) (decide (v.toNat = 1))
    (fun x => (s.upd x (fun l => { l.rewriteControl with log := { l.rewriteControl.log with
      clearing := true, clearMark := true, clearBy := (s.role acc.path, pathCode acc.path) } })).answer 0)

/-- Two slot indices of a list follow each other. -/
def anyConsecutive (l : List Nat) : Bool := l.any (fun i => l.contains (i + 1))

/-- The area passes the test that ends a clear (R438, limits of R439). -/
def clearPasses (bad : List Nat) (controlOk : Bool) : Bool :=
  decide (bad.length ≤ 16) && !anyConsecutive bad && controlOk

/-- The cause that a failed test of the area gives (R439). -/
def clearCause (bad : List Nat) : Nat := if anyConsecutive bad then 1 else if 16 < bad.length then 2 else 3

/-- The slot at which a failed test of the area fails (R432, R439): the second of two in a row, the 17th bad one, or
slot 0 where the control block fails. The bad slots are in the order of the test. -/
def clearSlot (bad : List Nat) : Nat :=
  match clearCause bad with
  | 1 => ((bad.find? (fun i => bad.contains (i + 1))).getD 0) + 1
  | 2 => bad.getD 16 0
  | _ => 0

/-- The number of bad slots before the first good one. -/
def firstGood : Nat → Nat → List Nat → Nat
  | 0, i, _ => i
  | n + 1, i, bad => if bad.contains i then firstGood n (i + 1) bad else i

/-- Event 0063h (R432) (log 28: DEDUCED). -/
def LaneState.clearData (l : LaneState) : List Byte :=
  toBytes 4 (l.get 0x150100) ++ toBytes 4 (l.get 0x150300) ++ toBytes 1 l.log.clearBy.1 ++ toBytes 1 l.log.clearBy.2

/-- R438 step 3: the losses that event 0063h names are counted no longer. -/
def LaneState.noLosses (l : LaneState) : LaneState := (l.put 0x150300 0).eachCopy (fun c => { c with lost := 0 })

/-- R438 steps 2 to 4: every slot is erased; event 0063h goes into the first good slot, or, where the area
does not pass, into the final-record block (log 28: DEDUCED). -/
def LaneState.cleared (l : LaneState) (holdUp : Bool) (bad : List Nat) (controlOk : Bool) : LaneState :=
  let q := l.event holdUp 0x0063 l.clearData
  let l := { l with log := { l.log with slots := [], clearing := false, clearMark := false, worn := bad } }
  let l := (l.put 0x150100 0).put 0x150A01 (min 255 bad.length)
  if clearPasses bad controlOk then
    let l := { l with log := { l.log with
      failed := none, slots := List.replicate (firstGood bad.length 0 bad) .bad } }
    (l.place holdUp q).noLosses
  else
    let l := if l.log.failed.isSome then l else l.failRecorder holdUp (clearCause bad) (clearSlot bad)
    (l.placeFinal holdUp q).noLosses

/-- R438: the clear ends. With the failure over, source 104 leaves fault; with the log empty again, source
105 does (log 28: DEDUCED). -/
def doClearDone (x : LaneId) (badSlots : List Nat) (controlOk : Bool) (s : State) : State :=
  if !(s.lane x).log.clearing || !(s.lane x).ready then s
  else
    let s := (s.upd x (fun l => l.cleared s.keeper.onHoldUp badSlots controlOk)).lower (.lane x) 105
    if clearPasses badSlots controlOk then s.lower (.lane x) 104 else s.raiseLane x 104

/-! ### Time tags (R431) -/

/-- Entry 1509h:00h Time tag restore. Maintainer and above; only while the tags are unreconciled. All
copies take the values being counted, and event 0065h is recorded with valid tags. -/
def doTimeTagRestore (acc : Acc) (v : Byte) (s : State) : State :=
  s.command acc 0x1509 0 2 (fun x => !(s.lane x).log.tagsValid) (decide (v.toNat = 1)) (fun x =>
    let s := s.upd x (fun l => { l.rewriteControl with log := { l.rewriteControl.log with tagsValid := true } })
    let l := s.lane x
    ((s.record x 0x0065 l.unreconciledData).lower (.lane x) 106).answer 0)

/-! ### The meanings -/

def execRecordWrite (x : LaneId) (first : Bool) (second : Bool) (s : State) (closes : Bool := true)
    (later : List Bool := []) : Out := .next (doRecordWrite x first second closes later s)
def execEventLost (x : LaneId) (code : BitVec 16) (s : State) : Out := .next (doEventLost x code s)
def execControlBlockRewrite (x : LaneId) (s : State) (cut : Option (Fin 3) := none) : Out :=
  .next (doControlBlockRewrite x cut s)
def execClear (acc : Acc) (v : Byte) (s : State) : Out := .next (s.through acc (doClear acc v s))
def execClearDone (x : LaneId) (badSlots : List Nat) (controlOk : Bool) (s : State) : Out :=
  .next (doClearDone x badSlots controlOk s)
def execTimeTagRestore (acc : Acc) (v : Byte) (s : State) : Out := .next (s.through acc (doTimeTagRestore acc v s))
def execRecorderMemoryFailed (x : LaneId) (cause : Byte) (s : State) : Out :=
  .next (doRecorderMemoryFailed x cause s)

end Sys2Proof.Machine
end

