-- ==== Sys2Proof/Machine/Schedule.lean ====
section
/-! DEFINITION. The schedule of the train's flows and the flow contexts' configuration (chapter 07, R211 to
R224, R236, R244). -/

namespace Sys2Proof.Machine

/-! ### Flows and capacity (R211, R212, R219) -/

/-- R219: the capacity of a beat at a rate code. -/
def capacityAt : Nat → Nat
  | 0 => 75000
  | 1 => 37500
  | 2 => 18750
  | _ => 7500

/-- R219: capacity by the slower of the two rates of a close; FFh is ignored. -/
def capacityOf (rate1 rate2 : Nat) : Nat := capacityAt (slowerRate rate1 rate2)

/-- R212: the frame cost of a payload of p bytes. -/
def frameCost (p : Nat) : Nat := p + 70

/-- A flow of a publication list as the schedule sees it (R220). -/
def sflowOf (uid : Nat) (p : PubEntry) : SFlow where
  uid := uid
  number := p.number.toNat
  period := 2 ^ p.period.toNat
  cost := frameCost p.size.toNat
  size := p.size.toNat
  priority := p.priority.toNat
  held := p.held.toNat
  offset := none
  rejected := false

/-! ### Orders (R221) -/

/-- R221: f is placed before g, or is g. -/
def placedBefore (f g : SFlow) : Bool :=
  decide (f.period < g.period) || (f.period == g.period && (decide (g.cost < f.cost) || (f.cost == g.cost &&
    (decide (f.uid < g.uid) || (f.uid == g.uid && decide (f.number ≤ g.number))))))

/-- R221: f is rejected before g, or is g. -/
def rejectedBefore (f g : SFlow) : Bool :=
  decide (g.priority < f.priority) || (f.priority == g.priority && (decide (g.period < f.period) ||
    (f.period == g.period && (decide (g.uid < f.uid) || (f.uid == g.uid && decide (g.number ≤ f.number))))))

/-! ### The computation (R222) -/

/-- The load of each beat index. It repeats with the longest period, so a list of that length stands for all
1,024 indices. -/
abbrev Load := List Nat

/-- Length of the load list: the longest period, at most 1,024 (log 36: DESIGN CHOICE). -/
def hyperperiod (fs : List SFlow) : Nat := min 1024 ((fs.map SFlow.period).foldl max 1)

/-- A load with w added in the beats b with b mod P = x (log 36: DESIGN CHOICE). -/
def addLoad (P x w : Nat) (load : Load) : Load :=
  (indexed 0 load).map (fun e => if e.1 % P = x then e.2 + w else e.2)

/-- A load with w taken away in those beats. -/
def subLoad (P x w : Nat) (load : Load) : Load :=
  (indexed 0 load).map (fun e => if e.1 % P = x then e.2 - w else e.2)

/-- Loads of the beats b with b mod P = x. -/
def loadsAt (P x : Nat) (load : Load) : List Nat := ((indexed 0 load).filter (fun e => e.1 % P = x)).map Prod.snd

/-- R222: the flow fits at offset x (log 36: DESIGN CHOICE). -/
def fits (C : Nat) (f : SFlow) (x : Nat) (load : Load) : Bool := (loadsAt f.period x load).all (fun v => v + f.cost ≤ C)

/-- R222: the highest load in the beats of an offset (log 36: DESIGN CHOICE). -/
def worstLoad (P x : Nat) (load : Load) : Nat := (loadsAt P x load).foldl max 0

/-- R222 step 1: with more than 16,384 flows, the first ones in rejection order are rejected. -/
def trainLimit (fs : List SFlow) : List SFlow :=
  let order := sortBy rejectedBefore fs
  let n := fs.length - 16384
  (order.take n).map (fun f => { f with rejected := true }) ++ order.drop n

/-- R222 step 2: held offsets, for flows in placement order. -/
def placeHeld (C : Nat) : Load → List SFlow → Load × List SFlow
  | load, [] => (load, [])
  | load, f :: t =>
    if !f.rejected && decide (f.held < f.period) && fits C f f.held load then
      let r := placeHeld C (addLoad f.period f.held f.cost load) t
      (r.1, { f with offset := some f.held } :: r.2)
    else
      let r := placeHeld C load t
      (r.1, f :: r.2)

/-- R222 step 3: the offset of least worst load among those below n; ties keep the smaller. -/
def bestOffset (P : Nat) (load : Load) : Nat → Nat
  | 0 => 0
  | n + 1 => let b := bestOffset P load n; if n ≠ 0 ∧ worstLoad P n load < worstLoad P b load then n else b

/-- R222 step 3: free placement, for flows in placement order. -/
def placeFree : Load → List SFlow → Load × List SFlow
  | load, [] => (load, [])
  | load, f :: t =>
    if !f.rejected && f.offset.isNone then
      let x := bestOffset f.period load f.period
      let r := placeFree (addLoad f.period x f.cost load) t
      (r.1, { f with offset := some x } :: r.2)
    else
      let r := placeFree load t
      (r.1, f :: r.2)

/-- R222 step 4: shedding, for flows in rejection order. -/
def shed (C : Nat) : Load → List SFlow → Load × List SFlow
  | load, [] => (load, [])
  | load, f :: t =>
    match f.offset with
    | some x =>
      if f.priority ≠ 0 ∧ C < worstLoad f.period x load then
        let r := shed C (subLoad f.period x f.cost load) t
        (r.1, { f with offset := none, rejected := true } :: r.2)
      else
        let r := shed C load t
        (r.1, f :: r.2)
    | none =>
      let r := shed C load t
      (r.1, f :: r.2)

/-- R222 step 5: vital flows are admitted again, in placement order. -/
def readmit (C : Nat) : Load → List SFlow → Load × List SFlow
  | load, [] => (load, [])
  | load, f :: t =>
    match f.offset with
    | some x =>
      if f.priority ≠ 0 then
        let r := readmit C load t
        (r.1, f :: r.2)
      else if fits C f x load then
        let r := readmit C (addLoad f.period x f.cost load) t
        (r.1, f :: r.2)
      else
        let r := readmit C load t
        (r.1, { f with offset := none, rejected := true } :: r.2)
    | none =>
      let r := readmit C load t
      (r.1, f :: r.2)

/-- R222 step 5: the cost of every placed vital flow is taken away. -/
def withoutVital (load : Load) (fs : List SFlow) : Load :=
  fs.foldl (fun load f => match f.offset with
    | some x => if f.priority = 0 then subLoad f.period x f.cost load else load
    | none => load) load

/-- R222: the whole computation: placed and rejected flows, the loads, vital overload. -/
def computeFlows (C : Nat) (fs : List SFlow) : List SFlow × Load × Bool :=
  let fs1 := trainLimit fs
  let v1 := fs1.any (fun f => f.rejected && decide (f.priority = 0))
  let p2 := placeHeld C (List.replicate (hyperperiod fs) 0) (sortBy placedBefore fs1)
  let p3 := placeFree p2.1 p2.2
  let p4 := shed C p3.1 (sortBy rejectedBefore p3.2)
  let placed := sortBy placedBefore p4.2
  if p4.1.any (fun v => C < v) then
    let p5 := readmit C (withoutVital p4.1 placed) placed
    (p5.2, p5.1, true)
  else (placed, p4.1, v1)

/-- R204, R220: the lane's own publications of the close whose schedule is due: those announced in its Roll; in a late start
with no close adopted since, those that the close in force came with. -/
def LaneState.ownList (l : LaneState) : List (Nat × PubEntry) :=
  if l.roll.lateStart && l.roll.adopted.isNone then l.flow.lateOwn else l.flow.announced

/-- R220: the flows of a directory by the lists of its members: the lane's own list, and its cache. -/
def LaneState.trainFlows (l : LaneState) (uid : Nat) (es : List DirEntry) : List SFlow :=
  es.flatMap (fun d =>
    if d.uid.toNat = uid then l.ownList.map (fun p => sflowOf uid p.2)
    else if d.digest = 0 then []
    else ((l.roll.cache.find? (fun c => c.uid = d.uid.toNat && c.digest = d.digest.toNat)).map
      (fun c => c.entries.map (sflowOf c.uid))).getD [])

/-- R220 to R223: the schedule of a directory at the line rates of its close. -/
def LaneState.schedule (l : LaneState) (uid : Nat) (es : List DirEntry) (rate1 rate2 : Nat) : Sched :=
  let fs := l.trainFlows uid es
  let C := capacityOf rate1 rate2
  let r := computeFlows C fs
  { entries := es, flows := r.1, capacity := C, highest := r.2.1.foldl max 0, vital := r.2.2
    trainLimit := decide (16384 < fs.length) }

/-- The line rates of the numbering whose schedule is computed. -/
def LaneState.scheduleRates (l : LaneState) : Nat × Nat :=
  match l.roll.adopted with
  | some c => (c.fields.rate1.toNat, c.fields.rate2.toNat)
  | none => l.ratesInForce

/-- The numbering whose schedule is due: the adopted close's, or in a late start the one in force (R204,
R224). -/
def LaneState.scheduleNumbering (l : LaneState) : List DirEntry :=
  match l.roll.adopted with
  | some c => if l.roll.running || l.roll.lateStart then c.entries else []
  | none => if l.roll.lateStart then l.roll.directory else []

/-- R222, R224: with the close and every list of its numbering at hand, the computation starts. -/
def doScheduleComputation (x : LaneId) (s : State) : State :=
  let l := s.lane x
  let es := l.scheduleNumbering
  if !l.ready || es.isEmpty || !(l.roll.missingOf s.uid es).isEmpty || l.flow.next.isSome then s
  else s.upd x (fun l => { l with flow := { l.flow with
    next := some (l.schedule s.uid es l.scheduleRates.1 l.scheduleRates.2), computing := true } })

/-- R224: the computation is complete; entry 2808h holds its duration in µs. -/
def doScheduleComputationDone (x : LaneId) (micros : BitVec 32) (s : State) : State :=
  if (s.lane x).flow.computing then
    s.upd x (fun l => { l with flow := { l.flow with computing := false } }.put 0x280800 micros.toNat)
  else s

/-! ### Offsets in force (R217, R218, R223) -/

/-- The flow of a publisher in a schedule. -/
def Sched.flow (d : Sched) (uid number : Nat) : Option SFlow := d.flows.find? (fun f => f.uid = uid && f.number = number)

/-- R217: publications with the offsets that a schedule assigns them, FFFFh for a rejected flow. -/
def assignOffsets (d : Sched) (uid : Nat) (ps : List (Nat × PubEntry)) : List (Nat × PubEntry) :=
  ps.map (fun p => (p.1, { p.2 with held := BitVec.ofNat 16 (((d.flow uid p.2.number.toNat).bind SFlow.offset).getD 0xFFFF) }))

/-- R218: a publication is due in a beat. -/
def PubEntryDue (p : PubEntry) (beat : Nat) : Bool :=
  p.held ≠ 0xFFFF && decide (beat % 2 ^ p.period.toNat = p.held.toNat)

/-- R223: the directory with the number of each node's rejected flows in bytes 28 and 29. -/
def Sched.withRejected (d : Sched) : List DirEntry :=
  d.entries.map (fun e => { e with
    rejected := BitVec.ofNat 16 (d.flows.filter (fun f => f.rejected && f.uid = e.uid.toNat)).length })

/-- R222, R223: a schedule comes into force: its figures, and source 48 by vital overload. -/
def State.enforce (s : State) (x : LaneId) (d : Sched) : State :=
  let admitted := (d.flows.filter (fun f => f.offset.isSome)).length
  let own := (d.flows.filter (fun f => f.rejected && f.uid = s.uid)).length
  let s := s.upd x (fun l =>
    let l := { l with
      flow := { l.flow with
        sched := some d, next := none, computing := false
        running := assignOffsets d s.uid l.ownList }
      roll := { l.roll with directory := d.withRejected } }
    (((((l.put 0x280000 (b2n d.vital * 16 + b2n d.trainLimit * 8 + 1)).put 0x280100 d.capacity).put 0x280200 d.highest).put
      0x280300 admitted).put 0x280400 (d.flows.length - admitted)).put 0x280500 own)
  s.follow x 48 d.vital

/-! ### Subscriptions (R236) -/

/-- What a subscription context names: publisher position and UID, flow number, largest payload, timeout. -/
structure SubConfig where
  number : Nat
  size : Nat
  uid : Nat
  position : Nat
  timeout : Nat
deriving DecidableEq, Repr

/-- The configuration of a subscription context. -/
def LaneState.subConfig (l : LaneState) (n : Nat) : SubConfig where
  number := l.get (key (0x3000 + n) 2)
  size := l.get (key (0x3000 + n) 5)
  uid := l.get (key (0x3000 + n) 6)
  position := l.get (key (0x3000 + n) 7)
  timeout := l.get (key (0x3000 + n) 8)

/-- R236: the resolution of a subscription: code, and the publisher's entry and flow where they exist. -/
def bindingOf (c : SubConfig) : Option Sched → Nat × Option (DirEntry × SFlow)
  | none => (0, none)
  | some d =>
    match d.entries.find? (fun (e : DirEntry) =>
      if c.position = 0 then decide (e.uid.toNat = c.uid) else decide (e.pos.toNat = c.position)) with
    | none => (2, none)
    | some e =>
      match d.flow e.uid.toNat c.number with
      | none => (3, none)
      | some f => if f.rejected then (4, none) else if c.size < f.size then (5, some (e, f)) else (1, some (e, f))

/-- R236: a subscription context after its resolution. One bound by position to another node than before takes its next copy
whatever its number. -/
def SubCtx.resolve (k : SubCtx) (c : SubConfig) (d : Option Sched) : SubCtx :=
  match bindingOf c d with
  | (r, some (e, f)) =>
    { k with
      resolution := r, position := e.pos.toNat, uid := e.uid.toNat, period := f.period
      anySeq := k.anySeq || (decide (c.position ≠ 0) && decide (k.uid ≠ e.uid.toNat)) }
  | (r, none) => { k with resolution := r, position := 0 }

/-- R236: the binding that a switch beat replaces is kept for frames with the stamp in grace; a changed subscription
has none. -/
def SubCtx.keepGrace (k : SubCtx) (number : Nat) : SubCtx :=
  { k with grace := if k.resolution = 1 ∨ k.resolution = 5 then some (k.position, k.uid, number) else none }

/-- The schedule by which subscriptions resolve: none before the first switch beat and in a late start. -/
def LaneState.resolveSched (l : LaneState) : Option Sched := if l.roll.lateStart then none else l.flow.sched

/-- R204, R240: the timeout of a subscription in beats: its own, else 3 periods of the resolved flow, which an
unresolved one in a late start keeps; none without either (log 32: DEDUCED). -/
def SubCtx.limit (k : SubCtx) (timeout : Nat) : Option Nat :=
  if timeout ≠ 0 then some timeout
  else if (k.resolution = 0 ∨ k.resolution = 1 ∨ k.resolution = 5) ∧ k.period ≠ 0 then some (3 * k.period)
  else none

/-- R240: a subscription is stale while its age exceeds its timeout (log 32: DEDUCED). -/
def SubCtx.isStale (k : SubCtx) (timeout : Nat) : Bool :=
  match k.limit timeout with
  | some t => decide (t < k.age)
  | none => false

/-- R240: a context's stale state follows its age; entering it counts in subindex 0Eh. -/
def LaneState.refreshStale (l : LaneState) (n : Nat) : LaneState :=
  let k := lookupD .empty n l.flow.subs
  let now := k.isStale (l.get (key (0x3000 + n) 8))
  let l := { l with flow := { l.flow with subs := changeAt .empty n (fun k => { k with stale := now }) l.flow.subs } }
  if now && !k.stale then l.inc (key (0x3000 + n) 14) else l

/-- R236: one context is resolved; an unused one or a publication holds no subscription. -/
def LaneState.resolveOne (l : LaneState) (n : Nat) : LaneState :=
  if l.ctxRole n = 2 then
    { l with flow := { l.flow with
      subs := changeAt .empty n (fun k => k.resolve (l.subConfig n) l.resolveSched) l.flow.subs } }.refreshStale n
  else { l with flow := { l.flow with subs := l.flow.subs.filter (fun e => e.1 ≠ n) } }

/-- R236: every subscription is resolved. -/
def LaneState.resolveAll (l : LaneState) : LaneState := l.subscriptions.foldl LaneState.resolveOne l

/-- R236: at a switch beat every subscription keeps its binding for the grace, and is resolved. -/
def LaneState.resolveAtSwitch (l : LaneState) : LaneState :=
  let kept := l.subscriptions.foldl (fun l n => { l with flow := { l.flow with
    subs := changeAt .empty n (fun k => k.keepGrace (l.get (key (0x3000 + n) 2))) l.flow.subs } }) l
  kept.resolveAll

/-- R236: a written subscription is resolved anew, and its former binding is gone. -/
def LaneState.resolveChanged (l : LaneState) (n : Nat) : LaneState :=
  { l with flow := { l.flow with subs := changeAt .empty n (fun k => { k with grace := none }) l.flow.subs } }.resolveOne n

/-! ### Writes of flow context entries (R213, R244) -/

/-- R213: what refuses a configuration, by the lane's contexts after the write. -/
def LaneState.ctxConfigOk (l : LaneState) (n : Nat) : Bool :=
  let ps := l.contextsOf 1
  let own := l.get (key (0x3000 + n) 2)
  if l.ctxKind n = 1 then
    decide (ps.length ≤ 256) && !ps.any (fun m => m ≠ n && l.get (key (0x3000 + m) 2) = own)
  else true

/-- The range that a flow context entry admits (R213, R244). -/
def ctxValueOk (sub v : Nat) : Bool :=
  match entryRow 0x3001 sub with
  | some r => decide (r.min ≤ v) && decide (v ≤ r.max)
  | none => false

/-- R67, R213, R236, R244: subindices 01h to 08h of a flow context are written as entries of the node; a changed
subscription resolves at once. -/
def State.writeContext (s : State) (a : Acc) (n sub v : Nat) : State :=
  s.writeNode a (fun l => (l.put (key (0x3000 + n) sub) v).resolveChanged n)

/-- R213, R244: a write of a flow context entry, checked and carried out. -/
def State.flowConfig (s : State) (a : Acc) (n sub v : Nat) : State :=
  match s.target a.sel with
  | none => s.abort abLane
  | some x =>
    if !s.available x then s.abort abLane
    else if s.role a.path < 2 then s.abort abDenied
    else if sub = 0 then s.abort abReadOnly
    else if n = 0 ∧ sub ≤ 5 then s.abort abRange
    else if !ctxValueOk sub v then s.abort abRange
    else if !((s.lane x).put (key (0x3000 + n) sub) v).ctxConfigOk n then s.abort abRange
    else (s.writeContext a n sub v).answer 0

/-- FLOW_CONFIG_WRITE (R213). -/
def doFlowConfigWrite (acc : Acc) (ctx : Fin 1024) (sub : Fin 9) (v : BitVec 64) (s : State) : State :=
  s.flowConfig acc ctx.val sub.val v.toNat

/-! ### Publication buffers (R234, R235) -/

/-- A publication context changes. -/
def LaneState.updPub (l : LaneState) (n : Nat) (f : PubCtx → PubCtx) : LaneState :=
  { l with flow := { l.flow with pubs := changeAt .empty n f l.flow.pubs } }

/-- A subscription context changes. -/
def LaneState.updSub (l : LaneState) (n : Nat) (f : SubCtx → SubCtx) : LaneState :=
  { l with flow := { l.flow with subs := changeAt .empty n f l.flow.subs } }

/-- A publication context. -/
def LaneState.pub (l : LaneState) (n : Nat) : PubCtx := lookupD .empty n l.flow.pubs

/-- A subscription context. -/
def LaneState.sub (l : LaneState) (n : Nat) : SubCtx := lookupD .empty n l.flow.subs

/-- R241: what a write of word 0000h of a context does in a lane: the commit bit of a publication; new data
and replaced, cleared by 1, of a subscription. -/
def LaneState.writeControl (l : LaneState) (n v : Nat) : LaneState :=
  if l.ctxRole n = 1 then
    if bitAt v 31 then l.updPub n (fun k => { k with committed := true }) else l
  else if l.ctxRole n = 2 then
    l.updSub n (fun k => { k with newData := k.newData && !bitAt v 31, replaced := k.replaced && !bitAt v 27 })
  else l

/-- R241: the reserved bits of word 0000h. -/
def LaneState.controlReserved (l : LaneState) (n : Nat) : Nat := if l.ctxRole n = 1 then 0x1FFFFFFF else 0x00FF0000

/-- R234, R241: a write of word 0000h, which entry 3000h + n:09h is too. -/
def State.flowControl (s : State) (a : Acc) (n v : Nat) : State :=
  match s.target a.sel with
  | none => s.abort abLane
  | some x =>
    if !s.available x then s.abort abLane
    else if s.role a.path < 1 then s.abort abDenied
    else if v &&& (s.lane x).controlReserved n ≠ 0 then s.abort abRange
    else (s.fanOut a.sel (fun l => l.writeControl n v)).answer 0

/-- PUBLICATION_COMMIT (R234, R235): 1 to the commit bit of a context, in both lanes. -/
def doPublicationCommit (acc : Acc) (ctx : Fin 1024) (s : State) : State := s.flowControl acc ctx.val 0x80000000

/-! ### The meanings -/

def execScheduleComputation (x : LaneId) (s : State) : Out := .next (doScheduleComputation x s)
def execScheduleComputationDone (x : LaneId) (micros : BitVec 32) (s : State) : Out :=
  .next (doScheduleComputationDone x micros s)
def execFlowConfigWrite (acc : Acc) (ctx : Fin 1024) (sub : Fin 9) (v : BitVec 64) (s : State) : Out :=
  .next (s.through acc (doFlowConfigWrite acc ctx sub v s))
def execPublicationCommit (acc : Acc) (ctx : Fin 1024) (s : State) : Out := .next (s.through acc (doPublicationCommit acc ctx s))

end Sys2Proof.Machine
end

