-- ==== Sys2Proof/Machine/Time.lean ====
section
/-! DEFINITION. Train time: the increment, Syncs and the servo, steps, peer delay, mirror-follow, pulse units
(chapter 09). The timebase's own ticks are what an idle step does (Step.lean). -/

namespace Sys2Proof.Machine

/-! ### The increment (R275) -/

/-- R275: the increment of a baseline and a rate correction in ppb. -/
def incrementOf (baseline : Nat) (r : Int) : Nat :=
  (clampInt ((baseline : Int) - ((baseline : Int) * r).tdiv 1000000000) 0x07FDF3B7 0x08020C49).toNat

/-- The rate correction in force (entry 4006h). -/
def LaneState.rate (l : LaneState) : Int := toSigned 32 (l.get 0x400600)

/-- A rate correction comes into force, and with it the increment. -/
def LaneState.setRate (l : LaneState) (r : Int) : LaneState :=
  (l.put 0x400600 (ofSigned 32 r)).put 0x400700 (incrementOf (l.get 0x400800) r)

/-- BASELINE_WRITE (R275, R454): entry 4008h, from the Maintainer role; the rate correction stays, and the mean that a
re-plan takes of it begins anew. -/
def doBaselineWrite (acc : Acc) (v : BitVec 32) (s : State) : State :=
  s.command acc 0x4008 0 2 (fun _ => true) (decide (0x07FDF3B7 ≤ v.toNat ∧ v.toNat ≤ 0x08020C49)) (fun x =>
    (s.upd x (fun l =>
      let l := { l.put 0x400800 v.toNat with plan := { l.plan with rates := [] } }
      l.setRate l.rate)).answer 0)

/-! ### Masters and domains (R279, R280, R288) -/

/-- The lane's domain identifier, 0 for none. -/
def LaneState.domain (l : LaneState) : Nat := l.get 0x400900

/-- A lane that has time: locked, holdover, mirror-follow or grandmaster (R287). -/
def LaneState.hasTime (l : LaneState) : Bool := decide (2 ≤ l.timeState)

/-- A lane whose time its peer may follow: locked or grandmaster (R293). -/
def LaneState.leadsTime (l : LaneState) : Bool := decide (l.timeState = 2 ∨ l.timeState = 5)

/-- The peer delay of a port is valid (R286). -/
def LaneState.delayValid (l : LaneState) (e : EndId) : Bool := (l.port e).isUp && decide (4 ≤ (l.port e).pdelays.length)

/-- R288: the master in force: that of the directory, else of the adopted close, else the first whose Sync
comes (log 27: DEDUCED). -/
def LaneState.takeMaster (l : LaneState) (sender : Nat) : LaneState :=
  if !l.roll.directory.isEmpty then l
  else match l.roll.adopted with
    | some c => l.setMaster (Machine.masterUid c.entries c.fields.master.toNat)
    | none => if l.masterUid = 0 then l.setMaster sender else l

/-- The node UID that the adopted close, or else the candidate, names as time master (log 61: DEDUCED). -/
def LaneState.namedMaster (l : LaneState) : Option Nat :=
  match l.roll.adopted, l.roll.candidate with
  | some c, _ => some (Machine.masterUid c.entries c.fields.master.toNat)
  | none, some c => some (Machine.masterUid c.entries c.master)
  | none, none => none

/-- FOUND_DOMAIN (R279, R298): the lane in possession of the node that its candidate names master founds a domain while
it has no time, but not once a close has named another; an acquiring lane, which is in no domain either, has none (log
61: DEDUCED). -/
def doFoundDomain (x : LaneId) (s : State) : State :=
  let l := s.lane x
  let named : Bool := match l.roll.candidate with
    | some c => decide (masterUid c.entries c.master = s.uid)
    | none => false
  if l.mode = .possession ∧ l.timeState ≤ 1 ∧ l.timeRuns ∧ named ∧ l.namedMaster = some s.uid then
    let n := (s.mget 0x401300 + 1) % 65536
    let s := s.mput 0x401300 n
    s.upd x (fun l => ((l.put 0x400900 (s.uid % 2 ^ 48 * 65536 + n)).put 0x400100 5).setRate 0)
  else s

/-! ### The servo (R289, R290) -/

/-- R289: the servo's step on an offset within the outlier limit. -/
def LaneState.servo (l : LaneState) (theta : Int) : LaneState :=
  let iacc := clampInt (l.time.iacc + theta) (-32000000) 32000000
  let p := clampInt (2 * theta) (-100000) 100000
  { l with time := { l.time with iacc := iacc } }.setRate (clampInt (p + iacc.tdiv 32) (-1000000) 1000000)

/-- R289, R290: a locked lane takes an offset: an outlier is counted and corrects nothing; the sixteenth in a
row raises source 65, and from then on the limit is off until an offset is within it again. -/
def State.runServo (s : State) (x : LaneId) (theta : Int) : State :=
  if 5000 < theta.natAbs then
    if (s.lane x).time.noLimit then s.upd x (fun l => l.servo theta)
    else
      let s := s.upd x (fun l => { l with time := { l.time with outlierRun := l.time.outlierRun + 1 } }.inc 0x401400)
      if (s.lane x).time.outlierRun < 16 then s
      else
        let s := s.upd x (fun l => { l with time := { l.time with noLimit := true } }.put 0x400200
          (withBit (l.get 0x400200) 4 true))
        s.raiseLane x 65
  else
    let s := s.upd x (fun l => { l with time := { l.time with outlierRun := 0, noLimit := false } }.servo theta)
    s.lower (.lane x) 65

/-! ### Time states (R287, R292, R293) -/

/-- A lane enters a time state. Leaving holdover clears its alarm; leaving locked, the count of Syncs begins anew, and a
lane that goes from holdover to its peer's time counts on. -/
def LaneState.enterTime (l : LaneState) (st : Nat) : LaneState :=
  let counts := decide (st = 2 ∨ (l.timeState = 3 ∧ st = 4))
  let l := l.put 0x400100 st
  let l := if st = 3 then l else l.put 0x400200 (withBit (l.get 0x400200) 8 false)
  if counts then l else { l with time := { l.time with samples := [] } }

/-- R292: holdover: the proportional part is dropped. -/
def LaneState.enterHoldover (l : LaneState) (now : Nat) : LaneState :=
  let l := l.enterTime 3
  { l with time := { l.time with holdSince := now } }.setRate (l.time.iacc.tdiv 32)

/-- R293: a lane may follow its peer. -/
def State.mayFollow (s : State) (x : LaneId) : Bool :=
  (s.lane x).poss.mirrorCurrent && (s.lane x.peer).ready && (s.lane x.peer).leadsTime

/-- SYNC_LOSS (R292): a locked lane without a Sync for 62.5 ms follows its peer if it can, else holds over; so
does a following lane that cannot follow any more. -/
def doSyncLoss (x : LaneId) (s : State) : State :=
  let st := (s.lane x).timeState
  if st = 2 ∧ s.mayFollow x then s.upd x (fun l => l.enterTime 4)
  else if st = 2 ∨ (st = 4 ∧ !s.mayFollow x) then s.upd x (fun l => l.enterHoldover s.clock)
  else s

/-- HOLDOVER_ALARM (R292): holdover has lasted more than 10 s. -/
def doHoldoverAlarm (x : LaneId) (s : State) : State :=
  if (s.lane x).timeState = 3 then
    (s.upd x (fun l => l.put 0x400200 (withBit (l.get 0x400200) 8 true))).raiseLane x 66
  else s

/-- A lane locks: source 66 leaves fault with holdover. -/
def State.lockTime (s : State) (x : LaneId) : State :=
  (s.upd x (fun l => { l.enterTime 2 with time := { (l.enterTime 2).time with lateDomain := false } })).lower (.lane x) 66

/-! ### Pulse units (R300, R301) -/

/-- A register of a pulse unit. -/
def pulseKey (u sub : Nat) : Nat := key (0x4020 + u) sub

/-- R300: the first start time + k × period at or after a time. -/
def nextPeriodic (start period t : Nat) : Nat :=
  if t ≤ start then start else start + (t - start + period - 1) / period * period

/-- The unit goes off. -/
def LaneState.pulseOff (l : LaneState) (u : Nat) (late : Bool) : LaneState :=
  let st := l.get (pulseKey u 6)
  let st := withBit st 1 false
  ((l.put (pulseKey u 1) 0).put (pulseKey u 6) (if late then withBit st 2 true else st)).put (pulseKey u 7) 0

/-- R300, R301: the unit is armed under its settings, at least 50 µs from now; a one-shot too close sets late. -/
def LaneState.armPulse (l : LaneState) (u : Nat) : LaneState :=
  let mode := l.get (pulseKey u 1)
  let start := l.get (pulseKey u 2)
  let t := l.trainTime + 50000
  let arm (next : Nat) := (l.put (pulseKey u 6) (withBit (l.get (pulseKey u 6)) 1 true)).put (pulseKey u 7) next
  if mode = 0 then l.pulseOff u false
  else if mode = 1 then (if start < t then l.pulseOff u true else arm start)
  else arm (nextPeriodic start (l.get (pulseKey u 3)) t)

/-- The unit is armed. -/
def LaneState.pulseArmed (l : LaneState) (u : Nat) : Bool := bitAt (l.get (pulseKey u 6)) 1

/-- R300: a unit is armed under its settings, at once or at the end of the pulse in progress. -/
def LaneState.rearm (l : LaneState) (u : Nat) : LaneState :=
  if bitAt (l.get (pulseKey u 6)) 0 then { l with time := { l.time with pulseRearm := withBit l.time.pulseRearm u true } }
  else l.armPulse u

/-- A mode write at one lane: without time no unit is armed (R301). -/
def LaneState.writeMode (l : LaneState) (u mode : Nat) : LaneState :=
  if l.hasTime then (l.put (pulseKey u 1) mode).rearm u else l

/-- PULSE_MODE_WRITE (R300, R301): the mode goes to both lanes and arms the unit in each that has time. -/
def doPulseModeWrite (acc : Acc) (u : Fin 8) (v : Byte) (s : State) : State :=
  s.command acc (0x4020 + u.val) 1 1 (fun x => decide (2 ≤ (s.lane x).timeState)) (decide (v.toNat ≤ 2)) (fun _ =>
    (s.fanOut acc.sel (fun l => l.writeMode u.val v.toNat)).answer 0)

/-- R300, R301: a pulse of a unit begins or ends; where the unit drives HTPULSE, or did as its level was kept, that ends. -/
def LaneState.pulseLevelTo (l : LaneState) (u : Nat) (high : Bool) : LaneState :=
  let drives := if high then decide (l.get (pulseKey u 5) = 1) else bitAt l.time.pulseDrives u
  let l := l.put (pulseKey u 6) (withBit (l.get (pulseKey u 6)) 0 high)
  { l with time := { l.time with
    pulseDrives := withBit l.time.pulseDrives u (high && drives)
    pulseHeld := l.time.pulseHeld && !drives && !bitAt l.time.pulseKept u } }

/-- R300: a pulse ends; a unit written meanwhile is armed anew. -/
def LaneState.endPulse (l : LaneState) (u : Nat) : LaneState :=
  let l := l.pulseLevelTo u false
  if bitAt l.time.pulseRearm u then
    { l with time := { l.time with pulseRearm := withBit l.time.pulseRearm u false } }.armPulse u
  else l

/-- R300: an armed unit's pulse begins. -/
def LaneState.beginPulse (l : LaneState) (u : Nat) : LaneState :=
  let next := l.get (pulseKey u 7)
  let once := decide (l.get (pulseKey u 1) = 1)
  let l := (l.put (pulseKey u 6) (withBit (l.get (pulseKey u 6)) 1 (!once))).put (pulseKey u 7)
    (if once then 0 else next + l.get (pulseKey u 3))
  let l := (l.inc (pulseKey u 8)).pulseLevelTo u true
  { l with time := { l.time with
    pulseEnds := tabSet (fun _ => 0) u (next + max 20000 (l.get (pulseKey u 4))) l.time.pulseEnds } }

/-- PULSE_EDGE (R300): a pulse in progress ends, else an armed unit's pulse begins. -/
def doPulseEdge (x : LaneId) (u : Fin 8) (s : State) : State :=
  let l := s.lane x
  if !l.ready then s
  else if bitAt (l.get (pulseKey u.val 6)) 0 then s.upd x (fun l => (l.endPulse u.val).drivePins)
  else if l.pulseArmed u.val then s.upd x (fun l => (l.beginPulse u.val).drivePins)
  else s

/-! ### Steps (R291, R296, R297) -/

/-- R301: the pulse units after a step. A pulse in progress ends after its width in elapsed time. -/
def LaneState.stepPulses (l : LaneState) (old new : Nat) : LaneState :=
  let l := (List.range 8).foldl (fun l u => if l.pulseArmed u then l.armPulse u else l) l
  { l with time := { l.time with pulseEnds := l.time.pulseEnds.map (fun e => (e.1, e.2 + new - old)) } }

/-- R232, R301: the wave before the switch beat as it reads after a step. -/
def OldWave.step (o : OldWave) (old new : Nat) : OldWave :=
  let d : Int := (new : Int) - old
  { o with first := (((o.first : Int) * 1000000 + d + 500000) / 1000000).toNat, shift := o.shift + d }

/-- R291: the counter is set, and the step recorded: old and new time, count, sticky bit. -/
def LaneState.stepTo (l : LaneState) (old new : Nat) : LaneState :=
  let l := { l with
    time := { l.time with ns := new % 2 ^ 32, wraps := new / 2 ^ 32 }
    flow := { l.flow with old := l.flow.old.map (fun (o : OldWave) => o.step old new) } }
  let l := ((l.put 0x400401 old).put 0x400402 new).put 0x400300 (l.get 0x400300 + 1)
  (l.put 0x400200 (withBit (l.get 0x400200) 6 true)).stepPulses old new

/-- Four samples, newest first: the first and the fourth. -/
def firstAndFourth (ms : List Sample) : Option (Sample × Sample) :=
  match ms.reverse with
  | a :: _ :: _ :: d :: _ => some (a, d)
  | _ => none

/-- R291: the rate difference in ppb between the first and the fourth valid Sync (log 53: DEDUCED). -/
def rateOf (a d : Sample) : Int := if d.time = a.time then 0 else ((d.theta - a.theta) * 1000000000).tdiv (d.time - a.time)

/-- R296: the offset extrapolated from the newest sample to a time of the lane (log 53: DEDUCED). -/
def thetaAt (m : Sample) (rate t : Int) : Int := m.theta + ((t - m.time) * rate).tdiv 1000000000

/-- R296: the beat boundary of the old time nearest to an instant; a tie goes to the earlier one (log 53: DEDUCED). -/
def nearestBeat (t : Int) : Int := (t + 499999) / 1000000 * 1000000

/-- R291, R297: the first beat boundary of the master's time whose old boundary lies ahead of a time, within
n tries from boundary B on. -/
def boundaryAhead (theta now : Int) : Nat → Int → Int
  | 0, B => B
  | n + 1, B => if now < nearestBeat (B + theta) then B else boundaryAhead theta now n (B + 1000000)

/-- R291: the lane aligns to a master from its samples: the integrator starts at the rate difference, the counter steps from
an old to a new time, and the lane is in the master's domain. -/
def State.align (s : State) (x : LaneId) (rate old new : Int) (domain st : Nat) : State :=
  let s := s.upd x (fun l =>
    let iacc := clampInt (32 * rate) (-32000000) 32000000
    let l := { l with time := { l.time with iacc := iacc, outlierRun := 0, noLimit := false, mirrorSamples := [] } }
    ((l.setRate (clampInt (iacc.tdiv 32) (-1000000) 1000000)).stepTo old.toNat new.toNat).put 0x400900 domain)
  if st = 2 then s.lockTime x else s.upd x (fun l => l.enterTime st)

/-- The offset to a master at the lane's present time, extrapolated from its samples (R291, R296). -/
def LaneState.offsetNow (l : LaneState) (ms : List Sample) : Option (Int × Int × Sample) :=
  match firstAndFourth ms, ms with
  | some (a, d), m :: _ => some (thetaAt m (rateOf a d) (l.trainTime : Nat), rateOf a d, d)
  | _, _ => none

/-- R274, R291: a beat boundary of a time has been reached in the tick that ends at it; one tick counts 9 ns at most. -/
def atBoundary (t : Int) : Bool := decide (t % 1000000 < 9)

/-- R291, R293: the samples from which a lane aligns first: its own line's, or, where that has brought no valid Sync, those
over the mirror of a peer that it may follow; with the domain and the time state that it enters. -/
def State.acquires (s : State) (x : LaneId) : Option (List Sample × Nat × Nat) :=
  let l := s.lane x
  if l.timeState ≠ 1 || !l.timeRuns then none
  else if l.time.samples ≠ [] then some (l.time.samples, l.time.sampleDomain, 2)
  else if s.mayFollow x then some (l.time.mirrorSamples, (s.lane x.peer).domain, 4)
  else none

/-- LOCK_ACQUISITION_STEP (R291): an acquiring lane with four valid Syncs, or four mirror comparisons where its own line
brought none, steps once, at a beat boundary of its master's time that follows them, so that its offset becomes 0, and
has time (log 35: DEDUCED). -/
def doLockAcquisitionStep (x : LaneId) (s : State) : State :=
  let l := s.lane x
  let now : Int := (l.trainTime : Nat)
  match s.acquires x with
  | none => s
  | some (ms, domain, st) =>
    match l.offsetNow ms with
    | none => s
    | some (theta, rate, fourth) =>
      if !l.ready || !atBoundary (now - theta) || decide (now ≤ fourth.time) then s
      else s.align x rate now (now - theta) domain st

/-- The lane is measuring the offset to a master of another domain (R296). -/
def LaneState.domainPending (l : LaneState) : Bool :=
  l.hasTime && decide (l.time.candDomain ≠ 0) && decide (l.time.candDomain ≠ l.domain)

/-- The lane changes to the domain of the master that it measured: it steps from an old time to a boundary of that master's
time and follows it. -/
def State.changeDomain (s : State) (x : LaneId) (rate old new : Int) : State :=
  let t := (s.lane x).time
  let s := s.align x rate old new t.candDomain 2
  s.upd x (fun l => { l with time := { l.time with
    samples := t.candSamples, lastSeq := t.candSeq, sampleDomain := t.candDomain
    candUid := 0, candDomain := 0, candSeq := none, candSamples := [], lateDomain := false } })

/-- R297: the samples from which a lane that waits for its late domain step takes it: the Syncs of the new master, or, where
no Sync reaches it, its mirror comparisons (log 61: DEDUCED). -/
def State.lateSamples (s : State) (x : LaneId) : List Sample :=
  let l := s.lane x
  if !l.time.lateDomain then []
  else if l.time.candSamples ≠ [] then l.time.candSamples
  else if s.mayFollow x then l.time.mirrorSamples
  else []

/-- LATE_DOMAIN_STEP (R297): with its fourth valid Sync taken, the lane steps at a beat boundary of the new master's
time whose old boundary still lay ahead then; a lane that no Sync reaches steps with its fourth mirror comparison (log
61: DEDUCED). -/
def doLateDomainStep (x : LaneId) (s : State) : State :=
  let l := s.lane x
  let now : Int := (l.trainTime : Nat)
  match l.offsetNow (s.lateSamples x) with
  | none => s
  | some (theta, rate, fourth) =>
    if !atBoundary (now - theta) || decide (nearestBeat now ≤ fourth.time) then s
    else if l.time.candSamples ≠ [] then s.changeDomain x rate now (now - theta)
    else (s.align x rate now (now - theta) (s.lane x.peer).domain 4).upd x (fun l =>
      { l with time := { l.time with lateDomain := false } })

/-- R291, R297: b0 of the step that an acquiring lane, or one that waits for its late domain step, has fixed: the old
boundary nearest to the first boundary of the master's time that it may take. -/
def State.stepBoundary (s : State) (x : LaneId) : Option Int :=
  let late := (s.lane x).time.lateDomain
  let ms := if late then s.lateSamples x else ((s.acquires x).map (fun a => a.1)).getD []
  match firstAndFourth ms, ms with
  | some (a, d), m :: _ =>
    let first := (d.time - d.theta) / 1000000 * 1000000
    let B := if late then boundaryAhead m.theta d.time 3 first else first + 1000000
    some (nearestBeat (B + thetaAt m (rateOf a d) (B + m.theta)))
  | _, _ => none

/-- R280, R293, R294: a lane of the master node that has time: grandmaster in possession, else it follows its peer;
without a change of rate. -/
def LaneState.leadTime (l : LaneState) : LaneState :=
  let st := if l.mode = .possession then 5 else 4
  if !l.hasTime || decide (l.timeState = st) then l else l.enterTime st

/-- R292, R293, R294: the master in force changes within the lane's domain, or the lane has no time yet. -/
def State.changeMaster (s : State) (x : LaneId) (uid : Nat) : State :=
  if uid = s.uid then s.upd x (fun l => (l.setMaster uid).leadTime)
  else if (s.lane x).masterUid = uid then s
  else
    let s := s.upd x (fun l => l.setMaster uid)
    if (s.lane x).hasTime then s.upd x (fun l => l.enterHoldover s.clock) else s

/-- R204: the lane has had no Sync of a master at the switch beat that makes it the master in force, nor does its
peer's time tell the master's domain: until one does, it may be another. `first`: it had no directory, so the close itself
made that node its master (R288) (log 61: DEDUCED). -/
def State.unknownDomain (s : State) (x : LaneId) (uid : Nat) (first : Bool) : Bool :=
  let l := s.lane x
  let p := s.lane x.peer
  l.hasTime && decide (uid ≠ s.uid) && (decide (uid ≠ l.masterUid) || (first && l.time.lastSeq.isNone))
    && !(decide (l.time.candUid = uid) && !l.time.candSamples.isEmpty)
    && !(s.mayFollow x && decide (p.masterUid = uid) && decide (p.domain = l.domain) && !p.time.lateDomain)

/-- R204, R297: a lane without the Syncs that its step needs holds over and sends no scheduled frame (log 61: DEDUCED). -/
def LaneState.waitForDomain (l : LaneState) (now : Nat) : LaneState :=
  let l := l.enterHoldover now
  { l with time := { l.time with lateDomain := true } }

/-- R296, R297: what the switch beat of a close does to a lane's time. -/
def State.switchTime (s : State) (x : LaneId) (uid : Nat) (switchBeat : Nat) (first : Bool) : State :=
  let l := s.lane x
  if l.domainPending && decide (l.time.candUid = uid) then
    let s := s.upd x (fun l => l.put 0x400A00 uid)
    let S : Int := (switchBeat : Nat)
    match firstAndFourth l.time.candSamples, l.time.candSamples with
    | some (a, d), m :: _ => s.changeDomain x (rateOf a d) (S + thetaAt m (rateOf a d) (S + m.theta)) S
    | _, _ => s.upd x (fun l => l.waitForDomain s.clock)
  else if s.unknownDomain x uid first then s.upd x (fun l => (l.setMaster uid).waitForDomain s.clock)
  else s.changeMaster x uid

/-! ### Syncs (R281 to R285, R288) -/

/-- clockIdentity port number of a port (R282). -/
def portNumber (x : LaneId) (e : EndId) : Nat := 2 * laneBit x + endSub e

/-- R280: the lane's node is a candidate master (bit [3] of entry 4002h). -/
def LaneState.isCandidate (l : LaneState) : Bool := bitAt (l.get 0x400200) 3

/-- R280: the lane sends Syncs: its node is master, or a candidate master, and the lane is in a domain. -/
def State.sendsSync (s : State) (x : LaneId) : Bool :=
  let l := s.lane x
  l.ready && decide (l.domain ≠ 0) && (decide (l.masterUid = s.uid) || l.isCandidate)

/-- The header of a profile message of a type (R282). -/
def profileHead (type : Nat) : PtpHead := ⟨BitVec.ofNat 4 type, 0, 2, 0, 0, false⟩

/-- R281, R282: a message with a header that the profile has. -/
def inProfile (h : PtpHead) : Bool :=
  decide (h.majorSdoId = 0) && decide (h.version = 2) && decide (h.domainNumber = 0) && decide (h.minorSdoId = 0) && !h.twoStep
    && decide (h.messageType = 0 ∨ h.messageType = 2 ∨ h.messageType = 3)

/-- R283: quality class and Roll epoch of a Sync: those of the candidate or close that named a candidate master, those
of the close in force for the master in force. -/
def State.syncMark (s : State) (x : LaneId) : Nat × Nat :=
  let l := s.lane x
  if l.isCandidate then l.time.mark else (qualityIn l.roll.directory s.uid (s.mget 0x400B00), l.roll.closedEpoch)

/-- The Sync of a lane at a port; its origin is stamped at egress (R282 to R284). -/
def State.ownSync (s : State) (x : LaneId) (e : EndId) : SyncMsg where
  head := profileHead 0
  tlv := true
  clock := BitVec.ofNat 64 s.uid
  port := BitVec.ofNat 16 (portNumber x e)
  seqId := BitVec.ofNat 16 (s.lane x).time.syncSeq
  origin := 0
  correction := 0
  domain := BitVec.ofNat 64 (s.lane x).domain
  quality := BitVec.ofNat 8 (s.syncMark x).1
  candidate := (s.lane x).isCandidate
  epoch := BitVec.ofNat 16 (s.syncMark x).2
  reserved := 0
  source := BitVec.ofNat 48 (macAddress s.uid x)

/-- SYNC_SEND (R280 to R284): one Sync out of each up port; both carry one sequenceId. -/
def doSyncSend (x : LaneId) (s : State) : State :=
  if s.sendsSync x then
    s.upd x (fun l =>
      let l := [EndId.e1, EndId.e2].foldl (fun l e => if (l.port e).isUp then l.emit e (.sync (s.ownSync x e)) else l) l
      { l with time := { l.time with syncSeq := (l.time.syncSeq + 1) % 65536 } })
  else s

/-- R285: the Sync as it leaves by the other port: peer delay and scaled residence time are added to
correctionField, in ns × 2^16 (log 35: DEDUCED). -/
def LaneState.forwardedSync (l : LaneState) (e : EndId) (m : SyncMsg) (residence : Int) : SyncMsg :=
  let delay : Int := (l.get (key 0x400C (endSub e)) * 65536 / 1000 : Nat)
  { m with correction := m.correction + delay
      + residence * 65536 * (l.get 0x400700 : Nat) / (l.get 0x400800 : Nat) }

/-- R288: the offset of a lane to the sender of a Sync: ingress less origin, correction and peer delay (log 35:
DEDUCED). The rule does not say how the fraction of a ns in correctionField and the ps of the peer delay count: each is
rounded down to whole ns (log 53: DEDUCED). -/
def LaneState.thetaOf (l : LaneState) (e : EndId) (m : SyncMsg) (ingress : Int) : Int :=
  ingress - ((m.origin.toNat : Int) + m.correction / 65536 + (l.get (key 0x400C (endSub e)) / 1000 : Nat))

/-- A sequenceId newer than the last valid one, or the first (R288). -/
def seqNewer (last : Option Nat) (n : Nat) : Bool :=
  match last with
  | none => true
  | some k => newer16 n k

/-- A value saturating as a signed 32-bit register (entry 4005h). -/
def sat32 (v : Int) : Nat := ofSigned 32 (clampInt v (-2147483648) 2147483647)

/-- R291, R292, R293: what a valid Sync of the master in force does by time state. It tells a lane that waited to know
it that the domain is its own (log 61: DEDUCED). -/
def State.masterSync (s : State) (x : LaneId) (theta ingress : Int) (m : SyncMsg) : State :=
  let l := s.lane x
  let sample : Sample := ⟨theta, ingress⟩
  let s := s.upd x (fun l => { (l.put 0x400500 (sat32 theta)).inc 0x400E00 with
    time := { l.time with
      lateDomain := l.time.lateDomain && decide (m.domain.toNat ≠ l.domain), lastSeq := some m.seqId.toNat
      samples := sample :: l.time.samples, sampleDomain := m.domain.toNat } })
  let fourth := decide (4 ≤ (s.lane x).time.samples.length)
  if l.timeState = 0 then
    s.upd x (fun l => l.put 0x400100 1)
  else if l.timeState = 2 then s.runServo x theta
  else if (l.timeState = 3 ∨ l.timeState = 4) ∧ fourth then s.lockTime x
  else s

/-- R296: a valid Sync of the candidate master is one more measurement of its offset. Entry 4005h, the offset of the
last valid Sync, goes on showing that of the master in force: the manual calls the Syncs of both valid (R288) and names
one entry (R303) (log 66: DESIGN CHOICE). -/
def State.candidateSync (s : State) (x : LaneId) (theta ingress : Int) (m : SyncMsg) : State :=
  s.upd x (fun l => { l.inc 0x400E00 with
    time := { l.time with
      candUid := m.clock.toNat, candDomain := m.domain.toNat, candSeq := some m.seqId.toNat
      candSamples := ⟨theta, ingress⟩ :: (if l.time.candUid = m.clock.toNat ∧
        (l.time.candDomain = 0 ∨ l.time.candDomain = m.domain.toNat) then l.time.candSamples else []) } })

/-- R288: a Sync is judged: from the master in force, of its domain; or from the master that the lane
measures. A master named by the Roll that has another domain than the lane is measured, too. While the timebase resets
nothing is measured (R412). -/
def State.judgeSync (s : State) (x : LaneId) (e : EndId) (m : SyncMsg) (ingress : Int) : State :=
  if !(s.lane x).timeRuns then s else
  let s := s.upd x (fun l => l.takeMaster m.clock.toNat)
  let l := s.lane x
  let theta := l.thetaOf e m ingress
  let uid := m.clock.toNat
  let dom := m.domain.toNat
  let mine := if l.hasTime then l.domain else l.time.sampleDomain
  if uid = s.uid ∨ l.timeState = 5 ∧ uid = l.masterUid then s
  else if uid = l.masterUid ∧ (mine = 0 ∨ dom = mine) then
    if seqNewer l.time.lastSeq m.seqId.toNat then s.masterSync x theta ingress m else s
  else if uid = l.time.candUid ∨ l.namedMaster = some uid ∨ (l.time.lateDomain ∧ uid = l.masterUid) then
    let last := if uid = l.time.candUid ∧ l.time.candDomain = dom then l.time.candSeq else none
    if seqNewer last m.seqId.toNat then s.candidateSync x theta ingress m else s
  else s

/-! ### Peer delay (R225, R286) -/

/-- R225: the segment allowance in ns at a rate code. -/
def segmentAllowance : Nat → Nat
  | 0 => 220
  | 1 => 385
  | 2 => 605
  | _ => 1100

/-- PDELAY_RESP (R281, R282, R286): a port answers a request, of a node and port, that came in at a train time; its answer
takes the turnaround as it leaves. -/
def doPdelayResp (x : LaneId) (e : EndId) (m : PdelayRequest) (ingress : Nat) (s : State) : State :=
  if !((s.lane x).port e).isUp || !(s.lane x).ready then s
  else if !inProfile m.head then s.inc x 0x401200
  else if m.head.messageType ≠ 2 then s
  else s.upd x (fun l => l.emit e (.pdelayOn (BitVec.ofNat 16 (portNumber x e)) m.seqId (ingress : Int) m.clock m.port))

/-- R286: the requests that still wait once number n is over. -/
def othersWait (n : Nat) (waits : List Nat) : List Nat := waits.filter (fun k => decide (k ≠ n))

/-- R286: the measurement of request n is discarded. -/
def LaneState.discardDelay (l : LaneState) (e : EndId) (n : Nat) : LaneState :=
  (l.updPort e (fun p => { p with pdelayWaits := othersWait n p.pdelayWaits, pdelayFails := p.pdelayFails + 1 })).inc
    (key 0x400D (endSub e))

/-- R286: the mean in ps of the last measurements, shown once four of them are valid (log 53: DEDUCED). -/
def meanDelay (ds : List Int) : Nat :=
  if ds.length < 4 then 0 else ((ds.foldl (· + ·) 0).toNat * 1000) / ds.length

/-- R225: the newest delay of either segment exceeds the allowance. -/
def LaneState.beyondAllowance (l : LaneState) : Bool :=
  [EndId.e1, EndId.e2].any (fun e => match (l.port e).pdelays with
    | d :: _ => decide ((segmentAllowance l.lineRate : Int) < d)
    | [] => false)

/-- R126: segment length in 0.1 m from a delay in ns and the velocity factor in 1/1000. -/
def segmentLength (d velocity : Nat) : Nat := d * velocity * 299792458 / 100000000000

/-- R225, R286: a valid measurement of d ns at a port, by request n. -/
def LaneState.measureDelay (l : LaneState) (e : EndId) (n : Nat) (d : Int) : LaneState :=
  let l := l.updPort e (fun p => { p with
    pdelayWaits := othersWait n p.pdelayWaits, pdelayFails := 0, pdelayLost := false, pdelays := (d :: p.pdelays).take 8 })
  (l.put (key 0x400C (endSub e)) (meanDelay (l.port e).pdelays)).put (key 0x2015 (endSub e))
    (segmentLength d.toNat (l.get 0x201400))

/-- R286: source 64 leaves fault when no port that is up lacks a valid measurement. -/
def State.followDelays (s : State) (x : LaneId) : State :=
  if [EndId.e1, EndId.e2].any (fun e => ((s.lane x).port e).isUp && ((s.lane x).port e).pdelayLost) then s
  else s.lower (.lane x) 64

/-- PDELAY_MEASUREMENT (R225, R286): a Pdelay_Resp, with t1 and t4 of the requester and the responder's turnaround, in
ns; one whose header the profile does not have is no answer, and neither is one to a request that waits no more (R281,
R282) (log 53: DEDUCED). -/
def doPdelayMeasurement (x : LaneId) (e : EndId) (t1 t4 : Int) (m : PdelayAnswer) (s : State) : State :=
  let l := s.lane x
  let turnaround := m.turnaround
  let d := (t4 - t1 - turnaround).tdiv 2
  if !(l.port e).isUp || !l.ready then s
  else if !inProfile m.head then s.inc x 0x401200
  else if m.head.messageType ≠ 3 ∨ (l.port e).pdelayWaits.contains m.seqId.toNat = false then s
  else if 100000 < turnaround ∨ t4 - t1 - turnaround < 0 ∨ 10000 < d then s.upd x (fun l => l.discardDelay e m.seqId.toNat)
  else
    let s := (s.upd x (fun l => l.measureDelay e m.seqId.toNat d)).followDelays x
    s.follow x 49 (s.lane x).beyondAllowance

/-- PDELAY_RESP_TIMEOUT (R286): no answer to the oldest request within 10 ms. -/
def doPdelayRespTimeout (x : LaneId) (e : EndId) (s : State) : State :=
  match ((s.lane x).port e).pdelayWaits with
  | [] => s
  | n :: _ => s.upd x (fun l => l.discardDelay e n)

/-- PEER_DELAY_FAILURE (R286): an up port without a valid measurement for 10 s. -/
def doPeerDelayFailure (x : LaneId) (e : EndId) (s : State) : State :=
  if ((s.lane x).port e).isUp then
    (s.upd x (fun l => l.updPort e (fun p => { p with pdelayLost := true }))).raiseLane x 64
  else s

/-! ### The two lanes (R85, R293, R295) -/

/-- R85: the lane to which a disagreement is charged. The rule names a locked lane: a grandmaster, which keeps the time
of its line itself, counts as one beside a lane that is neither; and it says nothing of two lanes neither of which is
locked: their offsets decide there too (log 58: DESIGN CHOICE). -/
def State.chargedLane (s : State) : LaneId :=
  let a := s.laneA
  let b := s.laneB
  let standby := match s.holder with
    | some x => x.peer
    | none => .B
  if a.leadsTime && !b.leadsTime then .B
  else if b.leadsTime && !a.leadsTime then .A
  else
    let oa := (toSigned 32 (a.get 0x400500)).natAbs
    let ob := (toSigned 32 (b.get 0x400500)).natAbs
    if ob < oa then .A else if oa < ob then .B else standby

/-- R291, R293: one more mirror comparison. -/
def LaneState.noteMirror (l : LaneState) (theta : Int) : LaneState :=
  { l with time := { l.time with mirrorSamples := ⟨theta, (l.trainTime : Nat)⟩ :: l.time.mirrorSamples } }

/-- R204, R293: a lane that waits to know its master's domain, and has no Sync of it, learns it from the peer that it
may follow: the same domain ends the wait, another one is measured over the mirror (log 61: DEDUCED). -/
def State.peerTellsDomain (s : State) (x : LaneId) (theta : Int) : State :=
  let p := s.lane x.peer
  if p.masterUid ≠ (s.lane x).masterUid ∨ p.time.lateDomain = true then s
  else if p.domain = (s.lane x).domain then s.upd x (fun l => { l with time := { l.time with lateDomain := false } })
  else s.upd x (fun l => l.noteMirror theta)

/-- R293: a lane in holdover that may follow its peer, in the domain of both (log 61: DEDUCED). -/
def State.followsAgain (s : State) (x : LaneId) : Bool :=
  let l := s.lane x
  decide (l.timeState = 3) && !l.time.lateDomain && s.mayFollow x && decide ((s.lane x.peer).domain = l.domain)

/-- R293: what a comparison means to one lane: its own time less its peer's. -/
def State.compareLane (s : State) (x : LaneId) (theta : Int) : State :=
  let l := s.lane x
  let s := s.put x 0x401000 (sat32 theta)
  if s.followsAgain x then ((s.upd x (fun l => l.enterTime 4)).lower (.lane x) 66).runServo x theta
  else if l.timeState = 4 ∧ s.mayFollow x then s.runServo x theta
  else if l.timeState ≤ 1 ∧ s.mayFollow x ∧ l.time.samples = [] then
    s.upd x (fun l => (l.put 0x400100 1).noteMirror theta)
  else if l.time.lateDomain ∧ s.mayFollow x ∧ l.time.candSamples = [] then s.peerTellsDomain x theta
  else s

/-- R295: comparisons beyond 2 µs in a row, while both lanes have time of one domain (log 35: DEDUCED). -/
def State.countDiverged (s : State) (x : LaneId) (far : Bool) : State :=
  s.upd x (fun l => { l with time := { l.time with diverged := if far then l.time.diverged + 1 else 0 } })

/-- LANE_TIME_COMPARE (R293, R295): a frame from lane B, sent at t1 and received at t2, and one from lane A, sent at t3
and received at t4; θm is lane A's time less lane B's. While a timebase resets there is none (R412) (log 35: DEDUCED,
53: DEDUCED). -/
def doLaneTimeCompare (t1 t2 t3 t4 : Int) (s : State) : State :=
  if !(s.laneA.ready && s.laneB.ready && s.laneA.poss.mirrorCurrent && s.laneB.poss.mirrorCurrent)
      || !(s.laneA.timeRuns && s.laneB.timeRuns) then s
  else
    let theta := ((t2 - t1) - (t4 - t3)).tdiv 2
    let both := s.laneA.hasTime && s.laneB.hasTime && decide (s.laneA.domain = s.laneB.domain)
    let far := both && decide (2000 < theta.natAbs)
    let s := (s.compareLane .A theta).compareLane .B (-theta)
    let s := (s.countDiverged .A far).countDiverged .B far
    if far && decide (2 ≤ s.laneA.time.diverged) then
      let c := s.chargedLane
      (s.upd c (fun l => l.put 0x400200 (withBit (l.get 0x400200) 7 true))).raiseLane c 67
    else if far then s
    else (s.lower (.lane .A) 67).lower (.lane .B) 67

/-! ### Host and field side (R277, R302) -/

/-- R277: 1800_0000h answers the acting lane's train time [31:0] and latches the rest; 1800_0004h answers the latch. -/
def State.fastTimebase (s : State) (high : Bool) : State :=
  if high then s.answer s.host.fastHigh
  else match s.holder with
    | none => s.abort abLane
    | some x =>
      let t := (s.lane x).trainTime
      { s with host := { s.host with fastHigh := t / 2 ^ 32 % 2 ^ 32 } }.answer (t % 2 ^ 32)

/-- FAST_TIMEBASE_READ (R277): a read of the fast timebase over the host link, whose inputs are ignored while it is off
(R19). -/
def doFastTimebaseRead (high : Bool) (s : State) : State := if s.hostOn then s.fastTimebase high else s

/-- FIELD_MAP_UNMAPPED (R302): no isolation frame for 100 µs. -/
def doFieldMapUnmapped (x : LaneId) (s : State) : State := s.put x 0x403000 0

/-! ### The meanings -/

def execSyncSend (x : LaneId) (s : State) : Out := .next (doSyncSend x s)
def execPdelayResp (x : LaneId) (e : EndId) (m : PdelayRequest) (ingress : Nat) (s : State) : Out :=
  .next (doPdelayResp x e m ingress s)
def execPdelayMeasurement (x : LaneId) (e : EndId) (t1 t4 : Int) (m : PdelayAnswer) (s : State) : Out :=
  .next (doPdelayMeasurement x e t1 t4 m s)
def execPdelayRespTimeout (x : LaneId) (e : EndId) (s : State) : Out := .next (doPdelayRespTimeout x e s)
def execPeerDelayFailure (x : LaneId) (e : EndId) (s : State) : Out := .next (doPeerDelayFailure x e s)
def execSyncLoss (x : LaneId) (s : State) : Out := .next (doSyncLoss x s)
def execHoldoverAlarm (x : LaneId) (s : State) : Out := .next (doHoldoverAlarm x s)
def execLockAcquisitionStep (x : LaneId) (s : State) : Out := .next (doLockAcquisitionStep x s)
def execLateDomainStep (x : LaneId) (s : State) : Out := .next (doLateDomainStep x s)
def execFoundDomain (x : LaneId) (s : State) : Out := .next (doFoundDomain x s)
def execLaneTimeCompare (t1 : Int) (t2 : Int) (t3 : Int) (t4 : Int) (s : State) : Out :=
  .next (doLaneTimeCompare t1 t2 t3 t4 s)
def execFastTimebaseRead (high : Bool) (s : State) : Out := .next (doFastTimebaseRead high s)
def execPulseModeWrite (acc : Acc) (u : Fin 8) (v : Byte) (s : State) : Out := .next (s.through acc (doPulseModeWrite acc u v s))
def execPulseEdge (x : LaneId) (u : Fin 8) (s : State) : Out := .next (doPulseEdge x u s)
def execBaselineWrite (acc : Acc) (v : BitVec 32) (s : State) : Out := .next (s.through acc (doBaselineWrite acc v s))
def execFieldMapUnmapped (x : LaneId) (s : State) : Out := .next (doFieldMapUnmapped x s)

end Sys2Proof.Machine
end

