-- ==== Sys2Proof/Machine/Ageing.lean ====
section
/-! DEFINITION. The margin plan of a lane: re-plans, core voltage, pin limits, oscillator trim, scrubbing,
equivalent hours and bounds (chapter 15). -/

namespace Sys2Proof.Machine

/-! ### Rows and settings (R445, R460, R464) -/

/-- Rows whose floor and ceiling are entries of their own. -/
def boundRow (m : Nat) : Bool := decide (m = 0 ∨ m = 3 ∨ m = 4 ∨ m = 5)

/-- Floor of a row; rows 1 and 2 take entry 2002h. -/
def LaneState.planFloor (l : LaneState) (m : Nat) : Nat :=
  if m = 1 ∨ m = 2 then l.get 0x200200 else if boundRow m then l.get (rowKey m 4) else 0

/-- Ceiling of a row; rows 1 and 2 take entry 2003h. -/
def LaneState.planCeiling (l : LaneState) (m : Nat) : Nat :=
  if m = 1 ∨ m = 2 then l.get 0x200300 else if boundRow m then l.get (rowKey m 5) else 0

/-- The lowest pin current limit (R453). -/
def LaneState.lowestLimit (l : LaneState) : Nat :=
  ((List.range 24).map (fun n => l.get (key 0x1331 (n + 1)))).foldl min 65535

/-- The highest pin on-resistance (R453). -/
def LaneState.highestOhm (l : LaneState) : Nat := ((List.range 24).map (fun n => l.get (key 0x1330 (n + 1)))).foldl max 0

/-- The setting in force of a row: rows 1 and 2 the proposed rate, row 3 the lowest pin limit, row 4 the baseline,
rows 0 and 5 their own; 0 for tracked rows. -/
def LaneState.planSettingOf (l : LaneState) (m : Nat) : Nat :=
  match m with
  | 0 => l.get (rowKey 0 3)
  | 1 => l.get 0x200701
  | 2 => l.get 0x200702
  | 3 => l.lowestLimit
  | 4 => l.get 0x400800
  | 5 => l.get (rowKey 5 3)
  | _ => 0

/-- The lowest pin current limit once those that wait for the end of an inrush window apply (R453). -/
def LaneState.plannedLimit (l : LaneState) : Nat :=
  ((List.range 24).map (fun n => ((l.plan.waiting.find? (fun e => decide (e.1 = n))).map Prod.snd).getD
    (l.get (key 0x1331 (n + 1))))).foldl min 65535

/-- The setting of a row as the last re-plan has set it, also one that applies only later: a pin's limit at the end of
its inrush window, a scrub interval at the end of the scrub (R453, R455, R465) (log 30: DEDUCED). -/
def LaneState.plannedSetting (l : LaneState) (m : Nat) : Nat :=
  match m with
  | 3 => l.plannedLimit
  | 5 => l.plan.nextScrub.getD (l.get (rowKey 5 3))
  | m => l.planSettingOf m

/-- The row status byte of entry 1310h + m:07h, from the row's values and two kept bits. -/
def LaneState.rowStatus (l : LaneState) (m : Nat) (unmeasured : Bool) : Nat :=
  let adaptive := decide (m ≤ 5)
  b2n unmeasured * 16 + b2n (atLimit m (l.rowValue m)) * 8 + b2n (l.rowConflict m) * 4
    + b2n (adaptive && decide (l.planSettingOf m = l.planCeiling m)) * 2
    + b2n (adaptive && decide (l.planSettingOf m = l.planFloor m))

/-- The row status in force: the conflict bit and the floor and ceiling bits follow the settings. -/
def LaneState.statusOf (l : LaneState) (m : Nat) : Nat :=
  let v := l.get (rowKey m 7)
  if bitAt (l.get 0x130000) 0 then l.rowStatus m (bitAt v 4) else withBit v 2 (l.rowConflict m)

/-- A row's conflict bit set (log 30: DEDUCED). -/
def LaneState.setConflict (l : LaneState) (m : Nat) (b : Bool) : LaneState :=
  l.put (rowKey m 7) (withBit (l.get (rowKey m 7)) 2 b)

/-- R461: a row's conflict bit at a re-plan: keeping margin needs a setting beyond a bound (`lost`), or the bit is set
already and the plan's own setting still lies beyond the bounds (log 30: DEDUCED). -/
def LaneState.planConflict (l : LaneState) (m own : Nat) (lost : Bool) : LaneState :=
  l.setConflict m (lost || (l.rowConflict m && decide (own < l.planFloor m ∨ l.planCeiling m < own)))

/-- The setting that the plan itself would take (R460). -/
def LaneState.ownSetting (l : LaneState) (m : Nat) : Nat := tabGet Machine.planSetting m l.plan.own

/-- The plan's own setting of a row noted. -/
def LaneState.setOwn (l : LaneState) (m v : Nat) : LaneState :=
  { l with plan := { l.plan with own := tabSet Machine.planSetting m v l.plan.own } }

/-! ### The steps of a re-plan (R448 to R456) -/

/-- R450: the core voltage set-point: V_req + 20 mV, rounded up to a multiple of 5 mV, within the bounds (log 30:
DEDUCED). -/
def LaneState.planCore (l : LaneState) (vreq : Nat) : LaneState :=
  let own := (vreq + 24) / 5 * 5
  let l := { l with plan := { l.plan with vreq := vreq } }
  let l := ((l.setOwn 0 own).put (rowKey 0 3) (clampNat own (l.planFloor 0) (l.planCeiling 0))).put (rowKey 0 1) vreq
  l.planConflict 0 own (decide (l.planCeiling 0 < own))

/-- R453: a pin's own limit in steps of 10 mA, before the bounds. -/
def pinLimit (ohm : Nat) : Nat := isqrt (350000000 / max 1 ohm) / 10 * 10

/-- The measurements of one kind in the last 24 operating hours (R453, R455, R456, log 30: DEDUCED). -/
def LaneState.lastDay (l : LaneState) (kind : Nat) : List Int :=
  (l.plan.samples.filter (fun m => decide (m.kind = kind) && decide (l.log.opNs / 1000000 < m.time + 86400000))).map
    PlanSample.value

/-- Their sum. -/
def LaneState.daySum (l : LaneState) (kind : Nat) : Int := (l.lastDay kind).foldl (· + ·) 0

/-- Their lowest, if there are any. -/
def LaneState.dayLow (l : LaneState) (kind : Nat) : Option Int := (l.lastDay kind).min?

/-- R453: a pin's mean of the last 24 h becomes its on-resistance; the limit follows within the bounds, inside an inrush
window at its end. -/
def LaneState.planPin (l : LaneState) (n : Nat) : LaneState :=
  let k := n + 1
  let count := (l.lastDay (16 + k)).length
  let l := if count = 0 then l else l.put (key 0x1330 k) (min 65535 ((l.daySum (16 + k)).toNat / count))
  let limit := clampNat (pinLimit (l.get (key 0x1330 k))) (l.planFloor 3) (l.planCeiling 3)
  let others := l.plan.waiting.filter (fun e => decide (e.1 ≠ n))
  if l.pinBit n 10 then { l with plan := { l.plan with waiting := (n, limit) :: others } }
  else { l.put (key 0x1331 k) limit with plan := { l.plan with waiting := others } }

/-- Row 3 of a re-plan: the limits of all pins, the highest on-resistance, the conflict bit (R453). -/
def LaneState.planPins (l : LaneState) : LaneState :=
  let l := l.eachPin LaneState.planPin
  let own := pinLimit l.highestOhm
  ((l.setOwn 3 own).put (rowKey 3 1) l.highestOhm).planConflict 3 own (decide (own < l.planFloor 3))

/-- R454: the mean of the rate correction over the time of the last 24 operating hours in which the lane was locked or in
mirror-follow, if that is 1 h at least (log 30: DEDUCED). -/
def LaneState.rateMean (l : LaneState) : Option Int :=
  let from_ := l.log.opNs - 86400000000000
  let part (e : RateSpan) : Nat := min e.ns (e.stop - from_)
  let total : Nat := (l.plan.rates.map part).foldl (· + ·) 0
  if total < 3600000000000 then none
  else
    let weighted : List Int := l.plan.rates.map (fun e => Int.ofNat (part e) * e.rate)
    some ((weighted.foldl (· + ·) 0).tdiv total)

/-- R454: the oscillator trim: baseline, integrator and rate correction in one tick. Without a mean, and at a
grandmaster lane, the row is not measured. -/
def LaneState.planTrim (l : LaneState) : LaneState × Bool :=
  match if l.timeState = 5 then none else l.rateMean with
  | none => (l, true)
  | some r =>
    let b : Int := l.get 0x400800
    let nb := b - (b * r).tdiv 1000000000
    let own := nb.toNat
    let new := clampNat own (l.planFloor 4) (l.planCeiling 4)
    let d := (((new : Int) - b) * 1000000000).tdiv b
    let l := (l.setOwn 4 own).put 0x400800 new
    let l := { l with time := { l.time with iacc := l.time.iacc + 32 * d } }
    let l := (l.setRate (clampInt (l.rate + d) (-1000000) 1000000)).setConflict 4 (decide (own ≠ new))
    (l.put (rowKey 4 1) (ofSigned 32 (((0x08000000 - (new : Int)) * 1000000000).tdiv new)), false)

/-- R455: the scrub interval halves at 16 corrected errors or more and doubles after seven clean re-plans; a new one
applies from the end of the scrub that runs (log 30: DEDUCED). -/
def LaneState.planScrub (l : LaneState) : LaneState :=
  let now := l.plan.nextScrub.getD (l.get (rowKey 5 3))
  let corrected := (l.daySum 5).toNat
  let clean := if corrected = 0 then l.plan.cleanPlans + 1 else 0
  let own := if 16 ≤ corrected then now / 2 else if 7 ≤ clean then now * 2 else now
  let new := clampNat own (l.planFloor 5) (l.planCeiling 5)
  let l := { l with plan := { l.plan with
    cleanPlans := if 7 ≤ clean then 0 else clean, nextScrub := if new = l.get (rowKey 5 3) then none else some new } }
  ((l.setOwn 5 own).put (rowKey 5 1) corrected).planConflict 5 own (decide (own < l.planFloor 5))

/-- R456, R457: the tracked rows 6 to 10 (log 30: DEDUCED). -/
def LaneState.planTracked (l : LaneState) : LaneState :=
  let l := (l.put (rowKey 6 1) (l.daySum 6).toNat).put (rowKey 7 1) (l.daySum 7).toNat
  let l := if l.daySum 10 ≤ 0 then l else l.put (rowKey 9 1) (ofSigned 32 ((l.daySum 9 * 3550).tdiv (l.daySum 10)))
  (l.put (rowKey 8 1) l.plan.bypassOhm).put (rowKey 10 1) (l.plan.hours / 1000000)

/-- R124: at the daily re-plan, an estimated margin of 7.0 dB at the next faster rate, estimated throughout the last 24
h, raises the proposed and the supported rate one step (log 30: DEDUCED). -/
def LaneState.planRate (l : LaneState) (e : EndId) : LaneState :=
  let now := l.log.opNs / 1000000
  if (l.dayLow (endSub e + 2)).any (fun m => decide (700 ≤ m)) && (l.port e).isUp
      && decide ((l.port e).estimatesSince + 86400000 ≤ now) then
    ((l.put (key 0x2006 (endSub e)) (l.get (key 0x2006 (endSub e)) - 1)).put (key 0x2007 (endSub e))
      (l.get (key 0x2007 (endSub e)) - 1)).updPort e (fun p => { p with estimatesSince := now })
  else l

/-- Row 1 or 2: the lowest SNR margin of the last 24 h; one that measured none keeps its value (R445) (log 30: DEDUCED). -/
def LaneState.planMargin (l : LaneState) (m : Nat) : LaneState :=
  match l.dayLow m with
  | none => l
  | some v => l.put (rowKey m 1) (ofSigned 32 v)

/-! ### Remaining life (R458) -/

/-- Sums over the plan history of a row: count, Σx, Σy, Σxx, Σxy; x in microhours, y the value. -/
def lineSums (h : List (Int × Nat)) : Int × Int × Int × Int × Int :=
  h.foldl (fun a e =>
    let x : Int := e.2
    (a.1 + 1, a.2.1 + x, a.2.2.1 + e.1, a.2.2.2.1 + x * x, a.2.2.2.2 + x * e.1)) (0, 0, 0, 0, 0)

/-- R458: months until the least-squares line reaches a limit, from the last re-plan on; none for a line that does
not move toward it. A month is 547.5 equivalent hours. -/
def monthsAlong (h : List (Int × Nat)) (limit : Int) (below : Bool) (now : Nat) : Option Nat :=
  let (n, sx, sy, sxx, sxy) := lineSums h
  let d := n * sxx - sx * sx
  let m := n * sxy - sx * sy
  let toward := if below then m < 0 else 0 < m
  if d ≤ 0 ∨ ¬ toward then none
  else some (((n * limit - sy) * d - (n * now - sx) * m).fdiv (n * m * 547500000)).toNat

/-- The smaller of two projections. -/
def nearer (a b : Option Nat) : Option Nat :=
  match a, b with
  | some m, some n => some (min m n)
  | some m, none => some m
  | none, r => r

/-- Column of a row in the plan history. -/
def Plan.column (p : Plan) (m : Nat) : List (Int × Nat) := p.history.map (fun e => (e.values.getD m 0, e.hours))

/-- R458: the remaining life of a row as its entry shows it. -/
def LaneState.remaining (l : LaneState) (m : Nat) (unmeasured : Bool) : Nat :=
  if l.plan.history.length < 8 || unmeasured then 0xFFFF
  else if m = 10 then min 0xFFFD ((197100 - l.plan.hours / 1000000) * 10 / 5475)
  else
    let h := l.plan.column m
    let limit : Int := planLimit m
    let r := if m = 4 then nearer (monthsAlong h limit false l.plan.hours) (monthsAlong h (-limit) true l.plan.hours)
      else monthsAlong h limit (decide (m = 1 ∨ m = 2)) l.plan.hours
    match r with
    | none => 0xFFFE
    | some n => min 0xFFFD n

/-- R458: the smallest reading among rows 0 and 3 to 10 (flow 0 bytes 8 and 9). -/
def LaneState.shortestLife (l : LaneState) : Nat :=
  ([0, 3, 4, 5, 6, 7, 8, 9, 10].map (fun m => l.get (rowKey m 6))).foldl min 0xFFFF

/-- The rows with their conflict bit set (R461, flow 0 byte 10). -/
def LaneState.conflictCount (l : LaneState) : Nat := ((List.range 11).filter l.rowConflict).length

/-- The rows at their limit, counted. -/
def LaneState.limitCount (l : LaneState) : Nat := ((List.range 11).filter (fun m => bitAt (l.get (rowKey m 7)) 3)).length

/-! ### Records (R465) -/

/-- Row data of event 0050h. -/
def LaneState.rowData (l : LaneState) (m cause : Nat) : List Byte :=
  toBytes 1 m ++ toBytes 1 cause ++ toBytes 4 (l.get (rowKey m 1)) ++ toBytes 4 (l.plannedSetting m)
    ++ toBytes 1 (l.get (rowKey m 7)) ++ toBytes 1 0

/-- Summary data of event 0050h. -/
def LaneState.summaryData (l : LaneState) (cause : Nat) : List Byte :=
  toBytes 1 0xFF ++ toBytes 1 cause ++ toBytes 4 (l.plan.hours / 1000000) ++ toBytes 4 l.shortestLife
    ++ toBytes 1 l.conflictCount ++ toBytes 1 l.limitCount

/-- Setting and status bits of every row (log 30: DEDUCED). -/
def LaneState.planView (l : LaneState) : List (Nat × Nat) := (List.range 11).map (fun m => (l.plannedSetting m, l.get (rowKey m 7)))

/-- The events of a re-plan: one for each row whose setting or status changed, and the summary. -/
def State.recordPlan (s : State) (x : LaneId) (cause : Nat) (before : List (Nat × Nat)) : State :=
  let l := s.lane x
  let s := ((List.range 11).filter (fun m => before.getD m (0, 0) ≠ l.planView.getD m (0, 0))).foldl
    (fun s m => s.record x 0x0050 (l.rowData m cause)) s
  s.record x 0x0050 (l.summaryData cause)

/-! ### The re-plan (R446 to R449, R459) -/

/-- The values of a re-plan: every row closed and set, with what is not measured. -/
def LaneState.closePlan (l : LaneState) (cause : Nat) (p : PlanInputs) : LaneState × Bool :=
  let l := (l.planCore p.vreq).planPins
  let t := l.planTrim
  let l := (((t.1.planScrub).planTracked).planMargin 1).planMargin 2
  let l := if cause = 1 then (l.planRate .e1).planRate .e2 else l
  (l, t.2)

/-- R449: the history keeps the last 90 re-plans, each with its check; measurements older than 24 operating hours count no
longer. -/
def LaneState.appendHistory (l : LaneState) : LaneState :=
  let h := l.plan.history ++ [planEntry ((List.range 11).map l.rowValue) l.plan.hours]
  let recent := l.plan.samples.filter (fun m => decide (l.log.opNs / 1000000 < m.time + 86400000))
  let spans := l.plan.rates.filter (fun e => decide (l.log.opNs < e.stop + 86400000000000))
  { l with plan := { l.plan with
    history := h.drop (h.length - 90), due := none, samples := recent, rates := spans
    short := l.plan.short && decide (h.length < 8) } }

/-- R448 steps 4 and 5, R458: remaining lives and status bytes, then the history, the counts and the plan status. -/
def LaneState.finishPlan (l : LaneState) (unmeasured : Bool) : LaneState :=
  let l := (List.range 11).foldl (fun l m =>
    let u := decide (m = 4) && unmeasured
    (l.put (rowKey m 6) (l.remaining m u)).put (rowKey m 7) (l.rowStatus m u)) l
  let l := ((l.appendHistory).put 0x130100 (l.log.opNs / 1000000)).inc 0x130300
  l.put 0x130000 (withBit (withBit (l.get 0x130000) 0 true) 5 false)

/-- R452, R459, R461: sources 107, 108 and 109 follow the rows. -/
def State.followPlan (s : State) (x : LaneId) : State := (s.followLimits x).followConflicts x

/-- RE_PLAN (R446, R448): the re-plan that is due runs, unless R447 defers it or it waits deferred. -/
def doRePlan (x : LaneId) (p : PlanInputs) (s : State) : State :=
  let l := s.lane x
  match l.plan.due with
  | none => s
  | some cause =>
    if !l.ready || bitAt (l.get 0x130000) 5 then s
    else if l.planBlocked then s.upd x LaneState.deferPlan
    else
      let before := l.planView
      let s := s.upd x (fun l => let c := l.closePlan cause p; c.1.finishPlan c.2)
      (s.recordPlan x cause before).followPlan x

/-- DAILY_RE_PLAN_DUE (R446): 24 operating hours have passed since the last re-plan. -/
def doDailyRePlanDue (x : LaneId) (s : State) : State :=
  if (s.lane x).ready then
    s.upd x (fun l => { l with plan := { l.plan with due := some (l.plan.due.getD 1) } }.deferPlan)
  else s

/-- RE_PLAN_NOW (R446, R447, R464): entry 1302h. -/
def doRePlanNow (acc : Acc) (v : Byte) (s : State) : State :=
  s.command acc 0x1302 0 2 (fun x => !(s.lane x).planBlocked) (decide (v.toNat = 1)) (fun x =>
    (s.upd x (fun l =>
      { l with plan := { l.plan with due := some 3 } }.put 0x130000 (withBit (l.get 0x130000) 5 false))).answer 0)

/-- DEFERRED_RE_PLAN_START (R447): nothing defers the re-plan any longer; it runs next. -/
def doDeferredRePlanStart (x : LaneId) (s : State) : State :=
  if (s.lane x).planBlocked then s
  else s.upd x (fun l => l.put 0x130000 (withBit (l.get 0x130000) 5 false))

/-! ### Between re-plans (R451, R453, R455, R457) -/

/-- GUARD_STEP (R451, R465): the smallest slack is below 50 % of its guard: the set-point rises by 10 mV, up to
the ceiling. -/
def doGuardStep (x : LaneId) (s : State) : State :=
  let l := s.lane x
  let v := l.get (rowKey 0 3)
  if !l.awake || decide (l.mode = .stopped) || decide (l.planCeiling 0 ≤ v) then s
  else
    let s := s.upd x (fun l =>
      let l := (l.put (rowKey 0 3) (min (l.planCeiling 0) (v + 10))).inc 0x130500
      l.put (rowKey 0 7) (l.statusOf 0))
    s.record x 0x0050 ((s.lane x).rowData 0 4)

/-- CORE_VOLTAGE_FAULT (R451): source 2. -/
def doCoreVoltageFault (x : LaneId) (s : State) : State := s.raiseLane x 2

/-- ON_RESISTANCE_MEASURE (R453): a pin that conducts at least 200 mA outside its inrush window; drop in mV (log 7:
DESIGN CHOICE). -/
def doOnResistanceMeasure (x : LaneId) (pin : Fin 24) (drop mA : Nat) (s : State) : State :=
  let l := s.lane x
  let n := pin.val
  if l.ready && (l.pin n).driver && !l.pinBit n 10 && decide (200 ≤ mA) then
    s.upd x (fun l => l.sample (17 + n) (drop * 1000 / mA))
  else s

/-- R455: a scrub has ended: the interval that waited for it applies, within the bounds. -/
def LaneState.takeInterval (l : LaneState) : LaneState :=
  match l.plan.nextScrub with
  | none => l
  | some v => { l.put (rowKey 5 3) (clampNat v (l.planFloor 5) (l.planCeiling 5)) with plan := { l.plan with nextScrub := none } }

/-- SCRUB (R455): the scrub ends with the errors it corrected; an uncorrectable one raises source 18. -/
def doScrub (x : LaneId) (corrected : Nat) (uncorrectable : Bool) (s : State) : State :=
  if !(s.lane x).ready then s
  else
    let s := s.upd x (fun l => (l.sample 5 corrected).takeInterval)
    if uncorrectable then s.raiseLane x 18 else s

/-- e to a power num / den, in units of 10^-18: the series of a 256th of it, squared eight times. -/
def expFix (num den : Int) : Nat :=
  let unit : Int := 10 ^ 18
  let r := (num * unit).tdiv (den * 256)
  let sum := (List.range 24).foldl (fun (a : Int × Int) i =>
    let t := (a.2 * r).tdiv (unit * (i + 1))
    (a.1 + t, t)) (unit, unit)
  ((List.range 8).foldl (fun (e : Int) _ => (e * e).tdiv unit) sum.1).toNat

/-- R457: the equivalent time in microhours that one minute at a board temperature in 0.01 °C adds: a 60th of
AF = exp(8,123.4 K * (1 / 328.15 K - 1 / T)), rounded to one of its neighbours (log 10: DESIGN CHOICE). -/
def ageingPerMinute (temp : Int) : Nat :=
  let t := temp + 27315
  if t ≤ 0 then 0
  else expFix (812340 * (t - 32815)) (32815 * t) * 1000000 / (60 * 10 ^ 18) + b2n (Config.ageingRoundsUp temp)

/-- R456: the readings of one minute that row 9 averages. -/
def LaneState.sampleRise (l : LaneState) (rise : Option RiseReading) : LaneState :=
  match rise with
  | none => l
  | some r => (l.sample 9 (r.converter - r.inlet)).sample 10 r.power

/-- EQUIVALENT_HOURS_TICK (R456, R457): one minute at a board temperature in 0.01 °C, with the readings of the converter's
temperature rise. The lane core is on in reset and in a stopped lane too (R42). Row 10 at its limit puts source 108 in fault
(R459), and a converter sensor above 125 °C source 3 (R509)
(log 7: DESIGN CHOICE, 10: DESIGN CHOICE, 55: DEDUCED). -/
def doEquivalentHoursTick (x : LaneId) (temp : Int) (rise : Option RiseReading) (s : State) : State :=
  let l := s.lane x
  if l.awake && decide (l.mode ≠ .dead) then
    let s := s.upd x (fun l =>
      let hours := l.plan.hours + ageingPerMinute temp
      (({ l with plan := { l.plan with hours := hours } }.put 0x130600 (ofSigned 32 temp)).put (rowKey 10 1)
        (hours / 1000000)).sampleRise rise)
    let s := if (s.lane x).rowAtLimit 10 then s.raiseLane x 108 else s
    rise.elim s (fun r => s.follow x 3 (decide (1250 < r.converter)))
  else s

/-! ### Bounds (R460, R461) -/

/-- The settings in force of a row with bounds (R453, R454, R460). -/
def LaneState.boundSettings (l : LaneState) (m : Nat) : List Nat :=
  match m with
  | 3 => (List.range 24).map (fun n => l.get (key 0x1331 (n + 1)))
  | 4 => [l.get 0x400800]
  | _ => [l.get (rowKey m 3)]

/-- R460: the settings in force of a row move within its bounds. -/
def LaneState.moveSetting (l : LaneState) (m : Nat) : LaneState :=
  let lo := l.planFloor m
  let hi := l.planCeiling m
  match m with
  | 3 => l.eachPin (fun l n => l.put (key 0x1331 (n + 1)) (clampNat (l.get (key 0x1331 (n + 1))) lo hi))
  | 4 => let l := l.put 0x400800 (clampNat (l.get 0x400800) lo hi); l.setRate l.rate
  | _ => l.put (rowKey m 3) (clampNat (l.get (rowKey m 3)) lo hi)

/-- R460, R461: a bound in force: a setting that lies outside moves, and the conflict bit is set if the plan's own value
lies beyond that bound. With that value within the bounds the bit clears; else it stays. -/
def LaneState.writeBound (l : LaneState) (m sub v : Nat) : LaneState :=
  let l := l.put (rowKey m sub) v
  let own := l.ownSetting m
  let low := decide (own < l.planFloor m)
  let high := decide (l.planCeiling m < own)
  let raised := (l.boundSettings m).any (fun v => decide (v < l.planFloor m))
  let lowered := (l.boundSettings m).any (fun v => decide (l.planCeiling m < v))
  let l := (l.moveSetting m).setConflict m ((l.rowConflict m && (low || high)) || (raised && low) || (lowered && high))
  l.put (rowKey m 7) (l.statusOf m)

/-- R460: a bound within the row's default range that keeps the floor at or below the ceiling (log 30: DEDUCED). -/
def LaneState.boundOk (l : LaneState) (m : Nat) (ceiling : Bool) (v : Nat) : Bool :=
  decide (Machine.planFloor m ≤ v ∧ v ≤ Machine.planCeiling m)
    && (if ceiling then decide (l.planFloor m ≤ v) else decide (v ≤ l.planCeiling m))

/-- PLAN_BOUND_WRITE (R460): entries 1310h + m:04h and 05h, rows 0 and 3 to 5 (log 30: DEDUCED). -/
def doPlanBoundWrite (acc : Acc) (row : Fin 11) (ceiling : Bool) (v : BitVec 32) (s : State) : State :=
  let m := row.val
  let sub := if ceiling then 5 else 4
  match s.target acc.sel with
  | none => s.abort abLane
  | some x =>
    if !s.available x then s.abort abLane
    else if s.role acc.path < 2 then s.abort abDenied
    else if !boundRow m then s.abort abReadOnly
    else if !(s.lane x).boundOk m ceiling v.toNat then s.abort abRange
    else ((s.upd x (fun l => l.writeBound m sub v.toNat)).followConflicts x).answer 0

def execRePlan (x : LaneId) (p : PlanInputs) (s : State) : Out := .next (doRePlan x p s)
def execDailyRePlanDue (x : LaneId) (s : State) : Out := .next (doDailyRePlanDue x s)
def execRePlanNow (acc : Acc) (v : Byte) (s : State) : Out := .next (s.through acc (doRePlanNow acc v s))
def execDeferredRePlanStart (x : LaneId) (s : State) : Out := .next (doDeferredRePlanStart x s)
def execGuardStep (x : LaneId) (s : State) : Out := .next (doGuardStep x s)
def execCoreVoltageFault (x : LaneId) (s : State) : Out := .next (doCoreVoltageFault x s)
def execOnResistanceMeasure (x : LaneId) (pin : Fin 24) (drop : Nat) (mA : Nat) (s : State) : Out :=
  .next (doOnResistanceMeasure x pin drop mA s)
def execScrub (x : LaneId) (corrected : Nat) (uncorrectable : Bool) (s : State) : Out :=
  .next (doScrub x corrected uncorrectable s)
def execEquivalentHoursTick (x : LaneId) (temp : Int) (s : State) (rise : Option RiseReading := none) : Out :=
  .next (doEquivalentHoursTick x temp rise s)
def execPlanBoundWrite (acc : Acc) (row : Fin 11) (ceiling : Bool) (v : BitVec 32) (s : State) : Out :=
  .next (s.through acc (doPlanBoundWrite acc row ceiling v s))

end Sys2Proof.Machine
end

