-- ==== Sys2Proof/Machine/Field.lean ====
section
/-! DEFINITION. The field side: run and safe states, pin functions, input filters and capture, overloads, lamps,
end-role pins, field supply, output image (chapter 11). -/

namespace Sys2Proof.Machine

/-! ### Sources that follow the pins -/

/-- A pin of the lane has a bit of its status word set. -/
def LaneState.anyPinBit (l : LaneState) (i : Nat) : Bool := (List.range 24).any (fun n => l.pinBit n i)

/-- Sources 82, 83 and 84 leave fault with the last overloaded, stuck or dark pin. -/
def State.clearPinSources (s : State) (x : LaneId) : State :=
  let l := s.lane x
  let s := if l.anyPinBit 13 || l.anyPinBit 12 then s else s.lower (.lane x) 82
  let s := if l.anyPinBit 11 then s else s.lower (.lane x) 83
  if l.anyPinBit 15 then s else s.lower (.lane x) 84

/-! ### The isolation link (R335 to R341) -/

/-- R335: an input pin's filter begins from its raw state: the counter at N or 0, and no capture. -/
def LaneState.beginFilter (l : LaneState) (n : Nat) (raw : Bool) : LaneState :=
  l.updPin n (fun p => { p with
    raw := raw, filt := raw, begun := true, edge := none, cnt := if raw then l.get (pinKey n 3) else 0 })

/-- A lane whose core sends and takes isolation frames: not while a block reset of the field side stops the link (R412). -/
def LaneState.framesField (l : LaneState) : Bool :=
  (l.ready || decide (l.mode = .booting)) && !l.coll.resetting .fieldSide

/-- R345: the switching points of an input class, in mV: on at or above, off at or below, and the typical rising and falling
points between them. -/
def inputPoints (cls : Nat) : Nat × Nat × Nat × Nat :=
  match cls with
  | 2 => (11000, 5000, 8500, 7000)
  | 3 => (11000, 5000, 8500, 7000)
  | 4 => (43000, 22000, 33000, 29000)
  | 5 => (66000, 33000, 50000, 44000)
  | _ => (15000, 5000, 11000, 9000)

/-- R345: the raw state of a pin at a voltage in mV, by its class and the state before: between the thresholds the
comparator switches at the typical points (log 34: DEDUCED). -/
def readsOn (cls : Nat) (was : Bool) (mV : Nat) : Bool :=
  let (on, off, rising, falling) := inputPoints cls
  if on ≤ mV then true
  else if mV ≤ off then false
  else if was then decide (falling < mV) else decide (rising ≤ mV)

/-- R52, R342: the input class of a pin; that of a wake input is type 1. -/
def LaneState.inputClass (l : LaneState) (n : Nat) : Nat := if l.pinFunction n = 4 then 1 else l.get (pinKey n 2)

/-- R345: the raw state of a pin by its voltage. -/
def LaneState.rawOf (l : LaneState) (n mV : Nat) : Bool := readsOn (l.inputClass n) (l.pin n).raw mV

/-- FIELD_RUN_COMMAND (R335, R340): a valid frame with the run command, which the lane sends once it is ready, and after
an expiry of the watchdog only once it has started anew, takes the field side out of its held or safe state; `volts` are
the pins' first samples in mV; a cab-active input that begins on changes the declaration of the node (R352) (log 34:
DEDUCED). -/
def doFieldRunCommand (x : LaneId) (volts : List Nat) (s : State) : State :=
  let l := s.lane x
  if !l.ready || !l.framesField || !l.field.powered || l.field.barred || (l.field.run && !l.field.safe) then s
  else
    (s.upd x (fun l =>
      let l := if l.field.run then l else l.eachPin (fun l n => l.beginFilter n (l.rawOf n (volts.getD n 0)))
      (l.updField (fun f => { f with run := true, safe := false, fed := true })).commandPins)).checkCab x (s.cabActive x)

/-- R302: the train time of a reading of the field side's counter: 40 ns for each count since the last frame (log 34:
DEDUCED). -/
def FieldState.timeAt (f : FieldState) (counter : Nat) : Int :=
  match f.timeMap with
  | none => 40 * (counter : Int)
  | some (c, t) => t + 40 * ((counter : Int) - c)

/-- R302: a valid frame maps its counter reading to the train time it carries; entry 4031h shows how far the mapping
before was off (log 34: DEDUCED). -/
def LaneState.mapFieldTime (l : LaneState) (counter : Nat) : LaneState :=
  let t := l.trainTime
  let l' := (l.updField (fun f => { f with timeMap := some (counter, t), fed := true })).put 0x403000 1
  if l.field.timeMap.isNone then l' else l'.put 0x403100 (ofSigned 32 ((t : Int) - l.field.timeAt counter))

/-- ISOLATION_FRAME (R302, R336 to R338): a frame whose check fails counts and is absent. Toward the field
side, a valid one carries the lane's commands and its train time; `counter` is the field side's reading at its start. Toward
the lane, it shows the link up and reports an expiry of the watchdog (log 34: DEDUCED). -/
def doIsolationFrame (x : LaneId) (toField ok : Bool) (counter : Nat) (s : State) : State :=
  let l := s.lane x
  if !l.framesField || !l.field.powered then s
  else if !ok then (s.inc x 0x510800).upd x (fun l => l.sample 6 1)
  else if toField then (s.upd x (fun l => (l.commandPins).mapFieldTime counter)).clearPinSources x
  else
    let expired := l.field.report
    let s := s.upd x (fun l =>
      let l := l.updField (fun f => { f with linkUp := true, report := false })
      if expired then l.put 0x510300 (withBit (l.get 0x510300) 2 true) else l)
    let s := s.lower (.lane x) 80
    if expired then s.raiseLane x 87 else if l.field.safe then s else s.lower (.lane x) 87

/-- FIELD_LINK_FAILED (R337): no valid frame for 30 µs: counted, and source 80 raised; the link of a lane that has had
none since its start fails too, once (log 34: DEDUCED). -/
def doFieldLinkFailed (x : LaneId) (s : State) : State :=
  let l := s.lane x
  if l.framesField && (l.field.linkUp || !l.coll.inFault.testBit 80) then
    ((s.upd x (fun l => l.updField (fun f => { f with linkUp := false }))).inc x 0x510900).raiseLane x 80
  else s

/-- FIELD_WATCHDOG_EXPIRY (R338, R339). -/
def doFieldWatchdogExpiry (x : LaneId) (s : State) : State := s.upd x LaneState.watchdogExpires

/-! ### Paired inputs and cab active (R351, R352) -/

/-- R351: both pins of a pair have an input function and option [0] set. -/
def State.isPair (s : State) (n : Nat) : Bool :=
  isInput (s.laneA.pinFunction n) && isInput (s.laneB.pinFunction n) && s.laneA.pinOption n 0 && s.laneB.pinOption n 0

/-- The mirror is current at both lanes. -/
def State.mirrorsCurrent (s : State) : Bool := s.laneA.poss.mirrorCurrent && s.laneB.poss.mirrorCurrent

/-- R351: the pair of a pin is compared, and its filtered states differ. -/
def State.pairDiffers (s : State) (n : Nat) : Bool :=
  s.mirrorsCurrent && s.isPair n && ((s.laneA.pin n).filt != (s.laneB.pin n).filt)

/-- The disagreement bits of a pair, in both lanes. -/
def State.setDisagreement (s : State) (n : Nat) (b : Bool) : State :=
  s.updBoth (fun l => (l.setPinBit n 6 b).put 0x510B00 (withBit (l.get 0x510B00) n b))

/-- R351: the bits of a pair that is compared clear when its states agree again, those of a pair that its functions
and options leave uncompared at once; while the mirror is not current they stand. -/
def State.refreshDisagreements (s : State) : State :=
  let s := (List.range 24).foldl (fun s n =>
    if (s.laneA.pinBit n 6 || s.laneB.pinBit n 6) && !s.pairDiffers n && (s.mirrorsCurrent || !s.isPair n) then
      s.setDisagreement n false else s) s
  if s.get .A 0x510B00 = 0 ∧ s.get .B 0x510B00 = 0 then (s.lower (.lane .A) 81).lower (.lane .B) 81 else s

/-- INPUT_DISAGREEMENT (R351): a pair has differed too long: both lanes set the bit, the lane in possession
raises source 81. -/
def doInputDisagreement (pin : Fin 24) (s : State) : State :=
  if s.pairDiffers pin.val then
    let s := s.setDisagreement pin.val true
    match s.holder with
    | some x => s.raiseLane x 81
    | none => s
  else s

/-- The filtered states of the cab-active pins. -/
def LaneState.cabPins (l : LaneState) : List Bool :=
  (List.range 24).map (fun n => decide (l.pinFunction n = 6) && (l.pin n).filt)

/-! ### Pin functions (R343) -/

/-- PIN_FUNCTION_CHANGE (R343, R344): a write of a pin's function. -/
def doPinFunctionChange (acc : Acc) (pin : Fin 24) (v : Byte) (s : State) : State :=
  s.command acc (0x5000 + pin.val) 1 2 (fun _ => true) (decide (v.toNat ≤ 6)) (fun _ =>
    let ownA := s.cabActive .A
    let ownB := s.cabActive .B
    let s := s.fanOut acc.sel (fun l => l.changeFunction pin.val v.toNat)
    let s := (s.clearPinSources .A).clearPinSources .B
    (((s.refreshDisagreements).checkCab .A ownA).checkCab .B ownB).answer 0)

/-! ### Filter and capture (R346 to R350) -/

/-- R346: one tick of a filter of length N: the counter and the filtered state. -/
def filterTick (N cnt : Nat) (filt raw : Bool) : Nat × Bool :=
  if N = 0 then (0, raw)
  else
    let c := min cnt N
    let c := if raw && decide (c < N) then c + 1 else if !raw && decide (0 < c) then c - 1 else c
    (c, if c = N then true else if c = 0 then false else filt)

/-- R347: the raw transition that begins the present filter run, by its reading of the field counter: the first into the new
level since the filter counter stood at the opposite bound. -/
def runEdge (N : Nat) (p : Pin) (raw : Bool) (time : Nat) : Option Nat :=
  if raw = p.filt then (if (p.filt ∧ N ≤ p.cnt) ∨ (!p.filt ∧ p.cnt = 0) then none else p.edge)
  else if (p.filt && decide (N ≤ p.cnt)) || (!p.filt && decide (p.cnt = 0)) then some time
  else match p.edge with
    | some t => some t
    | none => some time

/-- R349: the flags of a capture record. -/
def LaneState.captureFlags (l : LaneState) (level lost : Bool) : Nat :=
  b2n level * 128 + b2n (decide (l.get 0x403000 = 0)) * 64 + b2n lost * 32 + l.get 0x400300 % 16

/-- R302, R347: the time of a raw transition, without the 1.2 µs of the input path (log 34: DEDUCED). -/
def FieldState.edgeTime (f : FieldState) (counter : Nat) : Nat := ((f.timeAt counter - 1200) % 2 ^ 64).toNat

/-- R347, R349, R350: a change of the filtered state is counted and, if selected, captured; a record that finds 16 in
the FIFO is lost. The edge number of a record goes on modulo 2^16, whatever entry 0Eh shows after its top value. -/
def LaneState.captureEdge (l : LaneState) (n : Nat) (level : Bool) (counter : Nat) : LaneState :=
  let l := (l.inc (pinKey n 14)).updPin n (fun p => { p with edges := (p.edges + 1) % 65536 })
  let sel := l.get (pinKey n 4)
  let p := l.pin n
  if !(sel = 3 || (level && sel = 1) || (!level && sel = 2)) then l
  else if 16 ≤ p.fifo.length then
    ((l.updPin n (fun p => { p with lost := true })).setPinBit n 5 true).inc (pinKey n 15)
  else
    let r : Capture := ⟨l.field.edgeTime counter, l.captureFlags level p.lost, p.edges⟩
    l.updPin n (fun p => { p with fifo := p.fifo ++ [r], lost := false })

/-- R345 to R347: one pin at a tick: its voltage in mV, and the reading of the field counter at its raw transition. -/
def LaneState.tickPin (l : LaneState) (n mV counter : Nat) : LaneState :=
  let raw := l.rawOf n mV
  let l := l.updPin n (fun p => { p with volt := mV })
  let p := l.pin n
  if !isInput (l.pinFunction n) || !p.begun then l.updPin n (fun p => { p with raw := raw })
  else
    let N := l.get (pinKey n 3)
    let t := filterTick N p.cnt p.filt raw
    let e := runEdge N p raw counter
    let l := l.updPin n (fun p => { p with
      raw := raw, cnt := t.1, filt := t.2, edge := if t.2 = p.filt then e else none })
    if t.2 = p.filt then l else l.captureEdge n t.2 (e.getD counter)

/-- INPUT_FILTER_TICK (R171, R345 to R347, R351, R352): the voltages of the pins in mV at a tick, and the readings of
the field counter at the first raw transition of each since the tick before. Any filtered change of a cab-active input
triggers a Roll (log 34: DEDUCED). -/
def doInputFilterTick (x : LaneId) (volts edges : List Nat) (s : State) : State :=
  if !(s.lane x).field.powered || !(s.lane x).field.run then s
  else
    let before := (s.lane x).cabPins
    let s := s.upd x (fun l => l.eachPin (fun l n => l.tickPin n (volts.getD n 0) (edges.getD n 0)))
    let s := s.refreshDisagreements
    if (s.lane x).cabPins = before then s else (s.noteCab x).rollTrigger x 3

/-- R350: a content read of a pin's capture head at the lane that serves it. -/
def State.readCapture (s : State) (x : LaneId) (n : Nat) : State :=
  (s.upd x (fun l => l.readEffect (0x5000 + n) 14)).answerBytes ((s.lane x).pin n).head

/-- CAPTURE_HEAD_READ (R350). -/
def doCaptureHeadRead (acc : Acc) (pin : Fin 24) (s : State) : State :=
  match s.target acc.sel with
  | none => s.abort abLane
  | some x => if s.available x then s.readCapture x pin.val else s.abort abLane

/-! ### Overload and stuck drivers (R353, R356 to R358) -/

/-- R356: a pin is latched off, by current or thermally. -/
def State.latchPin (s : State) (x : LaneId) (n : Nat) (thermal : Bool) : State :=
  (s.upd x (fun l => ((l.setPinBit n (if thermal then 12 else 13) true).settleDriver n).inc (pinKey n 17))).raiseLane x 82

/-- OUTPUT_OVERLOAD (R356): 1 ms at the limit outside the inrush window, or thermal shutdown. -/
def doOutputOverload (x : LaneId) (pin : Fin 24) (thermal : Bool) (s : State) : State :=
  let l := s.lane x
  if (l.pin pin.val).driver && (thermal || !l.pinBit pin.val 10) then s.latchPin x pin.val thermal else s

/-- INRUSH_WINDOW_END (R353, R356, R453): the 50 ms have passed; a pin still at its limit is overloaded. -/
def doInrushWindowEnd (x : LaneId) (pin : Fin 24) (atLimit : Bool) (s : State) : State :=
  if (s.lane x).pinBit pin.val 10 then
    let s := s.upd x (fun l => (l.setPinBit pin.val 10 false).takeLimits)
    if atLimit && ((s.lane x).pin pin.val).driver then s.latchPin x pin.val false else s
  else s

/-- R357: the place of the highest of some currents, the last among equals. -/
def highestAt : Nat → List Nat → Option (Nat × Nat)
  | _, [] => none
  | i, c :: t =>
    match highestAt (i + 1) t with
    | none => some (i, c)
    | some (j, d) => if c ≤ d then some (j, d) else some (i, c)

/-- R357: the pin from `base` on that the group overload latches: the one with the highest current of those that are not
latched yet. -/
def LaneState.highestPin (l : LaneState) (base : Nat) (cs : List Nat) : Option Nat :=
  let free := ((List.range cs.length).filter (fun i => !l.latched (base + i)))
  (highestAt 0 (free.map (fun i => cs.getD i 0))).bind (fun e => (free[e.1]?).map (base + ·))

/-- R358: the measured currents of pins from `base` on: each is shown, and a stuck-on bit clears below 10 mA of a pin
that is off. -/
def LaneState.takeCurrents (l : LaneState) (base : Nat) (cs : List Nat) : LaneState :=
  (List.range cs.length).foldl (fun l i =>
    let n := base + i
    let c := cs.getD i 0
    let l := l.put (pinKey n 16) (min 65535 c)
    if l.pinBit n 11 && !(l.pin n).driver && decide (c < 10) then l.setPinBit n 11 false else l) l

/-- GROUP_OVERLOAD (R357): the pins' currents in mA have exceeded 9.0 A together for 10 ms; the pin with the highest
is latched off (log 34: DEDUCED). -/
def doGroupOverload (x : LaneId) (group : Fin 3) (currents : List Nat) (s : State) : State :=
  let l := s.lane x
  let base := 8 * group.val
  let cs := currents.take 8
  let total := cs.foldl (· + ·) 0
  let pins := (List.range 8).map (· + base)
  if !l.field.powered then s
  else
    let s := (s.upd x (fun l => (l.takeCurrents base cs).put (key 0x5107 (group.val + 1)) (min 65535 total))).clearPinSources x
    if total ≤ 9000 ∨ pins.any (fun n => (s.lane x).pinBit n 10) then s
    else match (s.lane x).highestPin base cs with
      | some n => s.latchPin x n false
      | none => s

/-- DRIVER_STUCK_ON (R358): a switch that is off passes more than 20 mA for 1 ms, in possession or standby. -/
def doDriverStuckOn (x : LaneId) (pin : Fin 24) (s : State) : State :=
  let l := s.lane x
  if l.ready && l.field.powered && isOutput (l.pinFunction pin.val) && !(l.pin pin.val).driver then
    (s.upd x (fun l => l.setPinBit pin.val 11 true)).raiseLane x 83
  else s

/-! ### Lamps (R360 to R364) -/

/-- R363: a pin becomes a dark lamp. -/
def State.darkLamp (s : State) (x : LaneId) (n : Nat) : State :=
  if (s.lane x).pinBit n 15 then s
  else
    let s := s.upd x (fun l =>
      let l := (l.setPinBit n 15 true).inc (pinKey n 18)
      (l.put 0x510C00 (withBit (l.get 0x510C00) n true)).put 0x510D00 (withBit (l.get 0x510D00) n true))
    s.raiseLane x 84

/-- A pin stops being a dark lamp. -/
def State.lampGood (s : State) (x : LaneId) (n : Nat) : State :=
  (s.upd x (fun l => (l.setPinBit n 15 false).put 0x510C00 (withBit (l.get 0x510C00) n false))).clearPinSources x

/-- R361: supervision of a pin waits for the pair hold-off. -/
def LaneState.pairWaits (l : LaneState) (n : Nat) : Bool := l.pinOption n 1 && l.field.holdOff

/-- R360: the samples of a lamp pin that is on are not taken, and their count restarts. -/
def State.lampSkipped (s : State) (x : LaneId) (n : Nat) : Bool :=
  let l := s.lane x
  decide (l.get (pinKey n 9) = 0) || l.pinBit n 10 || l.latched n || decide (l.supplyState ≠ 0)
    || decide (s.clock < l.field.goodSince + 100000000) || l.pairWaits n

/-- LAMP_SAMPLE (R360): 10 consecutive samples below the threshold make a dark lamp, 10 at or above it end
one (log 7: DESIGN CHOICE). -/
def doLampSample (x : LaneId) (pin : Fin 24) (mA : BitVec 16) (s : State) : State :=
  let l := s.lane x
  let n := pin.val
  if l.mode ≠ .possession ∨ !isLamp (l.pinFunction n) ∨ !(l.pin n).driver then s
  else
    let s := s.put x (pinKey n 16) mA.toNat
    if s.lampSkipped x n then s.upd x (fun l => l.updPin n (fun p => { p with low := 0, high := 0 }))
    else if mA.toNat * 100 < l.get (pinKey n 9) * l.get (pinKey n 8) then
      let s := s.upd x (fun l => l.updPin n (fun p => { p with low := min 10 (p.low + 1), high := 0 }))
      if ((s.lane x).pin n).low = 10 then s.darkLamp x n else s
    else
      let s := s.upd x (fun l => l.updPin n (fun p => { p with high := min 10 (p.high + 1), low := 0 }))
      if ((s.lane x).pin n).high = 10 then s.lampGood x n else s

/-- PAIRED_LAMP_HOLD_OFF_END (R361). -/
def doPairedLampHoldOffEnd (x : LaneId) (s : State) : State :=
  s.upd x (fun l => l.updField (fun f => { f with holdOff := false }))

/-- OPEN_LOAD_TEST (R362): the pin's voltage in mV before and during the test current (log 34: DEDUCED). -/
def doOpenLoadTest (x : LaneId) (pin : Fin 24) (before during : Nat) (s : State) : State :=
  let l := s.lane x
  let n := pin.val
  if l.mode ≠ .possession ∨ !isLamp (l.pinFunction n) ∨ !l.pinOption n 2 ∨ (l.pin n).driver ∨ l.supplyState ≠ 0
      ∨ l.pairWaits n ∨ !l.field.powered then s
  else if 3000 ≤ before then s
  else if 6000 ≤ during then
    let s := s.upd x (fun l => (l.updPin n (fun p => { p with opens := p.opens + 1 })).setPinBit n 14 true)
    if 2 ≤ ((s.lane x).pin n).opens then s.darkLamp x n else s
  else if during ≤ 3000 then
    (s.upd x (fun l => (l.updPin n (fun p => { p with opens := 0 })).setPinBit n 14 false)).lampGood x n
  else s

/-- R364: what a learn needs. -/
def LaneState.mayLearn (l : LaneState) (n : Nat) : Bool :=
  decide (l.mode = .possession) && isLamp (l.pinFunction n) && (l.pin n).driver && !l.latched n && !l.pinBit n 10
    && decide (l.supplyState = 0) && !l.pinBit n 4

/-- LEARN (R364): a write of 1 to subindex 0Ah. -/
def doLearn (acc : Acc) (pin : Fin 24) (v : Byte) (s : State) : State :=
  s.command acc (0x5000 + pin.val) 10 2 (fun x => (s.lane x).mayLearn pin.val) (decide (v.toNat = 1)) (fun x =>
    (s.upd x (fun l => l.put (pinKey pin.val 11) (withField (withBit (l.get (pinKey pin.val 11)) 4 true) 2 2 0))).answer 0)

/-- LEARN_DONE (R364): the mean of 10,000 samples in mA. -/
def doLearnDone (x : LaneId) (pin : Fin 24) (mean : BitVec 16) (s : State) : State :=
  let n := pin.val
  if (s.lane x).pinBit n 4 then
    let good := decide (20 ≤ mean.toNat ∧ mean.toNat ≤ 1000)
    let s := if good then s.putNode (pinKey n 9) mean.toNat else s
    s.upd x (fun l => l.put (pinKey n 11) (withField (withBit (l.get (pinKey n 11)) 4 false) 2 2 (if good then 1 else 2)))
  else s

/-! ### End-role gate, field supply, image (R344, R366 to R368, R370) -/

/-- END_ROLE_GATE_WRITE (R366): the gate of a pin, subindex 13h. -/
def doEndRoleGateWrite (acc : Acc) (pin : Fin 24) (v : Byte) (s : State) : State :=
  s.command acc (0x5000 + pin.val) 19 1 (fun _ => true) (decide (v.toNat ≤ 1)) (fun _ =>
    (s.fanOut acc.sel (fun l => l.put (pinKey pin.val 19) v.toNat)).answer 0)

/-- R367: the supply state that a measurement in 10 mV indicates, from the present one: 0 good, 1 low, 2
missing. -/
def indicatedSupply (now threshold v : Nat) : Nat :=
  if v < (if now = 2 then 950 else 900) then 2
  else if v < (if now = 1 then threshold + 50 else threshold) then 1
  else 0

/-- R367, R368: a field side enters a supply state; entering low or missing raises its source and sets the
alarm bit; leaving missing, the outputs whose value is on switch on together. -/
def State.enterSupply (s : State) (x : LaneId) (st : Nat) : State :=
  let s := s.upd x (fun l =>
    let w := withField (l.get 0x510300) 6 2 st
    let l := l.put 0x510300 (if st = 0 then w else withBit w 5 true)
    (l.updField (fun f => { f with
      supplyKnown := true, goodSince := if st = 0 then s.clock else f.goodSince })).eachPin LaneState.settleDriver)
  (s.follow x 85 (decide (st = 1))).follow x 86 (decide (st = 2))

/-- FIELD_SUPPLY_MEASURE (R367, R368): a state changes after two consecutive measurements agree (log 7: DESIGN CHOICE). -/
def doFieldSupplyMeasure (x : LaneId) (v : BitVec 16) (s : State) : State :=
  let l := s.lane x
  if !l.field.powered then s
  else
    let now := if l.field.supplyKnown then l.supplyState else 3
    let st := indicatedSupply now (l.get 0x510500) v.toNat
    let agree := decide (l.field.measured = some st)
    let s := s.upd x (fun l => (l.put 0x510400 v.toNat).updField (fun f => { f with measured := some st }))
    if agree && decide (st ≠ now) then s.enterSupply x st else s

/-- R370: image bits that a write may change: the pins of function 1 or 2 in a lane (log 34: DEDUCED). -/
def State.imageMask (s : State) : Nat :=
  ((List.range 24).filter (fun n =>
    (s.laneA.pinFunction n = 1 || s.laneA.pinFunction n = 2) || (s.laneB.pinFunction n = 1 || s.laneB.pinFunction n = 2))).foldl
      (fun m n => withBit m n true) 0

/-- R344: the node's output image. -/
def State.image (s : State) : Nat := s.get (s.holder.getD .A) 0x510000

/-- R344, R366, R381: a write of the image through any selector sets it in both lanes that it reaches; bits of other
pins are ignored. -/
def State.writeImage (s : State) (v : Nat) : State :=
  let m := s.imageMask
  s.fanOut .acting (fun l => l.put 0x510000 (clearMask s.image m + (v &&& m)))

/-- OUTPUT_IMAGE (R344, R370): entry 5100h. -/
def doOutputImage (acc : Acc) (v : BitVec 32) (s : State) : State :=
  s.command acc 0x5100 0 1 (fun _ => true) (decide (v.toNat < 2 ^ 24)) (fun _ => (s.writeImage v.toNat).answer 0)

/-- SET_OUTPUTS (R370): entry 5110h. -/
def doSetOutputs (acc : Acc) (v : BitVec 32) (s : State) : State :=
  s.command acc 0x5110 0 1 (fun _ => true) (decide (v.toNat < 2 ^ 24)) (fun _ => (s.writeImage (s.image ||| v.toNat)).answer 0)

/-- CLEAR_OUTPUTS (R370): entry 5111h. -/
def doClearOutputs (acc : Acc) (v : BitVec 32) (s : State) : State :=
  s.command acc 0x5111 0 1 (fun _ => true) (decide (v.toNat < 2 ^ 24)) (fun _ =>
    (s.writeImage (clearMask s.image v.toNat)).answer 0)

/-! ### The meanings -/

def execFieldRunCommand (x : LaneId) (volts : List Nat) (s : State) : Out := .next (doFieldRunCommand x volts s)
def execIsolationFrame (x : LaneId) (toField : Bool) (ok : Bool) (counter : Nat) (s : State) : Out :=
  .next (doIsolationFrame x toField ok counter s)
def execFieldLinkFailed (x : LaneId) (s : State) : Out := .next (doFieldLinkFailed x s)
def execFieldWatchdogExpiry (x : LaneId) (s : State) : Out := .next (doFieldWatchdogExpiry x s)
def execPinFunctionChange (acc : Acc) (pin : Fin 24) (v : Byte) (s : State) : Out :=
  .next (s.through acc (doPinFunctionChange acc pin v s))
def execInputFilterTick (x : LaneId) (volts edges : List Nat) (s : State) : Out :=
  .next (doInputFilterTick x volts edges s)
def execCaptureHeadRead (acc : Acc) (pin : Fin 24) (s : State) : Out := .next (s.through acc (doCaptureHeadRead acc pin s))
def execInputDisagreement (pin : Fin 24) (s : State) : Out := .next (doInputDisagreement pin s)
def execOutputOverload (x : LaneId) (pin : Fin 24) (thermal : Bool) (s : State) : Out :=
  .next (doOutputOverload x pin thermal s)
def execGroupOverload (x : LaneId) (group : Fin 3) (currents : List Nat) (s : State) : Out :=
  .next (doGroupOverload x group currents s)
def execDriverStuckOn (x : LaneId) (pin : Fin 24) (s : State) : Out := .next (doDriverStuckOn x pin s)
def execLampSample (x : LaneId) (pin : Fin 24) (mA : BitVec 16) (s : State) : Out :=
  .next (doLampSample x pin mA s)
def execPairedLampHoldOffEnd (x : LaneId) (s : State) : Out := .next (doPairedLampHoldOffEnd x s)
def execOpenLoadTest (x : LaneId) (pin : Fin 24) (before : Nat) (during : Nat) (s : State) : Out :=
  .next (doOpenLoadTest x pin before during s)
def execLearn (acc : Acc) (pin : Fin 24) (v : Byte) (s : State) : Out := .next (s.through acc (doLearn acc pin v s))
def execLearnDone (x : LaneId) (pin : Fin 24) (mean : BitVec 16) (s : State) : Out :=
  .next (doLearnDone x pin mean s)
def execEndRoleGateWrite (acc : Acc) (pin : Fin 24) (v : Byte) (s : State) : Out :=
  .next (s.through acc (doEndRoleGateWrite acc pin v s))
def execFieldSupplyMeasure (x : LaneId) (v : BitVec 16) (s : State) : Out := .next (doFieldSupplyMeasure x v s)
def execOutputImage (acc : Acc) (v : BitVec 32) (s : State) : Out := .next (s.through acc (doOutputImage acc v s))
def execSetOutputs (acc : Acc) (v : BitVec 32) (s : State) : Out := .next (s.through acc (doSetOutputs acc v s))
def execClearOutputs (acc : Acc) (v : BitVec 32) (s : State) : Out := .next (s.through acc (doClearOutputs acc v s))
def execInrushWindowEnd (x : LaneId) (pin : Fin 24) (atLimit : Bool) (s : State) : Out :=
  .next (doInrushWindowEnd x pin atLimit s)

end Sys2Proof.Machine
end

