-- ==== Sys2Proof/Machine/CarBus.lean ====
section
/-! DEFINITION. The car bus: bit timing, reception, transmit buffers, the Pattern, errors, listen-only mode,
gateway rules and stations (chapter 10). -/

namespace Sys2Proof.Machine

/-! ### Frames (R306, R307, R311) -/

/-- R307: data bytes of a DLC. -/
def dlcBytes (fdf : Bool) (dlc : Nat) : Nat :=
  if dlc ≤ 8 then dlc
  else if !fdf then 8
  else match dlc with
    | 9 => 12
    | 10 => 16
    | 11 => 20
    | 12 => 24
    | 13 => 32
    | 14 => 48
    | _ => 64

/-- R311: the frame word: IDE in bit 31, FDF in bit 30, identifier in bits [28:0]. -/
def frameWord (ide fdf : Bool) (ident : Nat) : Nat :=
  b2n ide * 2 ^ 31 + b2n fdf * 2 ^ 30 + (if ide then ident % 2 ^ 29 else ident % 2 ^ 11)

/-- The frame word of a received frame. -/
def canWord (f : CanFrame) : Nat := frameWord f.ide f.fdf f.ident.toNat

/-- R311: a word matches a filter. -/
def canMatches (word m mask : Nat) : Bool := decide ((word ^^^ m) &&& mask = 0)

/-- Data length of a received frame; a remote frame carries none. -/
def canLength (f : CanFrame) : Nat := if f.rtr then 0 else dlcBytes f.fdf f.dlc.toNat

/-- The data bytes of a frame, zero beyond those given, at its length. -/
def canData (f : CanFrame) : List Byte := (f.data ++ List.replicate 64 0).take (canLength f)

/-- The controller takes part in the bus: the lane runs, its car bus is not being reset nor stopped by an activation, and it
is neither integrating nor bus-off (R309, R321, R332, R412). -/
def LaneState.onBus (l : LaneState) : Bool := l.reached && !l.can.integrating && decide (l.can.errState ≠ 2)

/-! ### Words of a buffer (R331) -/

/-- The 16 data words of a buffer as bytes. -/
def LaneState.wordsAt (l : LaneState) (index sub n : Nat) : List Byte :=
  (List.range n).flatMap (fun k => toBytes 4 (l.get (key index (sub + k))))

/-- Data words written from bytes. -/
def LaneState.putWords (l : LaneState) (index sub : Nat) (bytes : List Byte) : LaneState :=
  (List.range (bytes.length / 4)).foldl (fun l k => l.put (key index (sub + k)) (numAt bytes (4 * k) 4)) l

/-- Bytes with a range replaced. -/
def overlay (base : List Byte) (off : Nat) (new : List Byte) : List Byte :=
  base.take off ++ new ++ base.drop (off + new.length)

/-- R307, R315: the frame that a transmit buffer sends: its control word, its identifier, and the bytes of its transmit
image that its DLC carries (log 62: DEDUCED). -/
def LaneState.txFrame (l : LaneState) (t : Nat) : CanFrame :=
  let c := l.get (txKey t 1)
  let fdf := bitAt c 27
  let rtr := bitAt c 25 && !fdf
  { ide := bitAt c 28, fdf := fdf, brs := fdf && bitAt c 26, esi := fdf && decide (l.can.errState = 1), rtr := rtr
    ident := BitVec.ofNat 29 (l.get (txKey t 2) % (if bitAt c 28 then 2 ^ 29 else 2 ^ 11))
    dlc := BitVec.ofNat 4 (Machine.field c 16 4)
    data := if rtr then [] else (l.wordsAt (0x4500 + t) 0x20 16).take (dlcBytes fdf (Machine.field c 16 4)) }

/-- R315: the frame of a pending buffer as it stands is kept before a change, for an attempt that has begun with it. -/
def LaneState.keepImage (l : LaneState) (t : Nat) (update : Bool) : LaneState :=
  if l.txPending t then { l with can := { l.can with images := ⟨t, l.trainTime, update, l.txFrame t⟩ :: l.can.images } } else l

/-- R315: the frame that an attempt of a buffer which began at a train time carries: the newest then (log 62: DEDUCED). -/
def LaneState.frameAt (l : LaneState) (t time : Nat) : CanFrame :=
  match (l.can.images.filter (fun i => decide (i.buffer = t ∧ time < i.stood))).getLast? with
  | some i => i.frame
  | none => l.txFrame t

/-- R316: a commit or gateway copy has changed a buffer's image since an attempt began at a train time. -/
def LaneState.changedSince (l : LaneState) (t time : Nat) : Bool :=
  l.can.images.any (fun i => decide (i.buffer = t ∧ time < i.stood) && i.update)

/-- The order of arbitration by ISO 11898-1: the base identifier, the remote or substitute bit, IDE, the extension and its
remote bit; the smaller wins (log 50: PRESUMED). -/
def arbitrationKey (f : CanFrame) : Nat :=
  let n := f.ident.toNat
  let remote := b2n (f.rtr && !f.fdf)
  if f.ide then n / 2 ^ 18 % 2 ^ 11 * 2 ^ 21 + 2 ^ 20 + 2 ^ 19 + n % 2 ^ 18 * 2 + remote
  else n % 2 ^ 11 * 2 ^ 21 + remote * 2 ^ 20

/-- The train time at which a buffer became pending. -/
def LaneState.pendingSince (l : LaneState) (t : Nat) : Nat := tabGet (fun _ => 0) t l.can.since

/-- R315, R318, R322: an attempt that began at a train time may be that of buffer t: it is pending, and no buffer that was
pending then wins arbitration against it with the frame that stood then (log 62: DEDUCED). -/
def LaneState.mayWin (l : LaneState) (t time : Nat) : Bool :=
  l.txPending t && (List.range 32).all (fun u =>
    !l.txPending u || decide (time < l.pendingSince u)
      || decide (arbitrationKey (l.frameAt t time) ≤ arbitrationKey (l.frameAt u time)))

/-- R318: the attempt whose end shows no start may be that of buffer t: it began when the buffer became pending, when
the last attempt ended, or later, by the frames that stood then (log 62: DEDUCED). -/
def LaneState.mayBeOnBus (l : LaneState) (t : Nat) : Bool :=
  let first := max (l.pendingSince t) l.can.lastEnd
  (first :: (l.can.images.map TxImage.stood).filter (fun c => decide (first ≤ c))).any (l.mayWin t)

/-- R309: the bus is idle: a bit timing written before takes effect, and the controller integrates afresh. -/
def LaneState.busIdle (l : LaneState) : LaneState :=
  if l.can.retime then { l with can := { l.can with integrating := true, retime := false } } else l

/-- An attempt of the lane, or a frame of another, has ended on the bus. -/
def LaneState.attemptEnds (l : LaneState) : LaneState := { l with can := { l.can with lastEnd := l.trainTime } }

/-! ### Gateway rules (R326 to R328) -/

/-- A register of gateway rule g. -/
def ruleKey (g sub : Nat) : Nat := key (0x4590 + g) sub

/-- The enabled rules of a direction. -/
def LaneState.rules (l : LaneState) (dir : Nat) : List Nat := (List.range 64).filter (fun g => l.get (ruleKey g 1) = dir)

/-- The range of a rule in a frame or transmit buffer, and in its context: offset and length. -/
def LaneState.ruleRange (l : LaneState) (g : Nat) : Nat × Nat := (l.get (ruleKey g 4), l.get (ruleKey g 5))

/-- Two ranges overlap. -/
def overlaps (a la b lb : Nat) : Bool := decide (a < b + lb) && decide (b < a + la)

/-- R326: a rule's context qualifies for a direction. -/
def LaneState.ruleContextOk (l : LaneState) (pubs : List (Nat × PubEntry)) (g dir : Nat) : Bool :=
  let n := l.get (ruleKey g 6)
  let range := l.get (ruleKey g 7) + l.get (ruleKey g 5)
  match pubs.find? (fun e => e.1 = n) with
  | some e => decide (dir = 1 ∧ n ≠ 0 ∧ range ≤ e.2.size.toNat)
  | none => decide (l.ctxKind n = dir ∧ (n ≠ 0 ∨ dir ≠ 1) ∧ range ≤ l.get (key (0x3000 + n) 5))

/-- R326: what enabling a rule needs. -/
def LaneState.ruleOk (l : LaneState) (g dir : Nat) : Bool :=
  let r := l.ruleRange g
  decide (r.1 + r.2 ≤ 64) && l.ruleContextOk l.flow.running g dir && (l.rules dir).all (fun h =>
    decide (h = g) || (if dir = 1 then
        decide (l.get (ruleKey h 6) ≠ l.get (ruleKey g 6))
          || !overlaps (l.get (ruleKey g 7)) r.2 (l.get (ruleKey h 7)) (l.ruleRange h).2
      else decide (l.get (ruleKey h 8) ≠ l.get (ruleKey g 8)) || !overlaps r.1 r.2 (l.ruleRange h).1 (l.ruleRange h).2))

/-- GATEWAY_RULE_ENABLE (R326): a write of a rule's direction. A standby that it reaches tests it by its own rules and
contexts (R381). -/
def doGatewayRuleEnable (acc : Acc) (g : Fin 64) (v : Byte) (s : State) : State :=
  let ok := fun (x : LaneId) => decide (v.toNat = 0) || (s.lane x).ruleOk g.val v.toNat
  s.command acc (0x4590 + g.val) 1 2 (fun _ => true)
    (decide (v.toNat ≤ 2) && (match s.target acc.sel with
      | some x => ok x
      | none => true)) (fun _ =>
    (s.fanOut acc.sel (fun l =>
      if v.toNat = 0 || l.ruleOk g.val v.toNat then l.put (ruleKey g.val 1) v.toNat else l)).answer 0)

/-- R326: at a switch beat, a rule whose context no longer qualifies is disabled, and recorded: by the publications of the
close (R216, R244). -/
def State.disableRules (s : State) (x : LaneId) : State :=
  (List.range 64).foldl (fun s g =>
    let d := s.get x (ruleKey g 1)
    if d = 0 ∨ (s.lane x).ruleContextOk (s.lane x).flow.announced g d then s
    else (s.put x (ruleKey g 1) 0).record x 0x0070 (toBytes 1 g ++ toBytes 1 d)) s

/-- R327: a received frame fills the latches of the rules it matches; a frame too short for one counts. -/
def LaneState.fillLatches (l : LaneState) (f : CanFrame) (time : Nat) : LaneState :=
  (l.rules 1).foldl (fun l g =>
    let r := l.ruleRange g
    if !canMatches (canWord f) (l.get (ruleKey g 2)) (l.get (ruleKey g 3)) then l
    else if canLength f < r.1 + r.2 then l.inc (ruleKey g 12)
    else
      let k : Latch := ⟨slice (canData f) r.1 r.2, time, true, decide (l.get (ruleKey g 9) = 1)⟩
      { l with can := { l.can with latches := changeAt .empty g (fun _ => k) l.can.latches } }.put (ruleKey g 11) 0) l

/-- R327: a latch fill of the peer is taken if its receive time is later than that of the own latch. -/
def LaneState.takePeerLatches (l peer : LaneState) : LaneState :=
  (l.rules 1).foldl (fun l g =>
    let p := lookupD .empty g peer.can.latches
    let k := lookupD .empty g l.can.latches
    if p.filled && p.toPeer && decide (l.get (ruleKey g 9) = 1) && decide (peer.get (ruleKey g 1) = 1)
        && (!k.filled || decide (k.time < p.time)) then
      { l with can := { l.can with
        latches := changeAt .empty g (fun _ => { p with toPeer := false }) l.can.latches } }.put (ruleKey g 11) 0
    else l) l

/-- R327: the latches of the direction 1 rules of a context, written into the payload about to be sent, the first `size`
octets of the front buffer (R244). -/
def LaneState.writeLatches (l : LaneState) (n size : Nat) (front : List Byte) : List Byte :=
  ((l.rules 1).filter (fun g => l.get (ruleKey g 6) = n)).foldl (fun p g =>
    let k := lookupD .empty g l.can.latches
    (overlay p (l.get (ruleKey g 7)) ((k.data ++ List.replicate 64 0).take (l.ruleRange g).2)).take size ++ p.drop size) front

/-- The copy of a direction 1 rule counts, for the rules of a context. -/
def LaneState.countCopies (l : LaneState) (n : Nat) : LaneState :=
  ((l.rules 1).filter (fun g => l.get (ruleKey g 6) = n)).foldl (fun l g => l.inc (ruleKey g 10)) l

/-- R328: after a delivery in a context, its direction 2 rules copy their ranges into transmit images; a stale
subscription makes no copies. -/
def LaneState.gatewayCopy (l : LaneState) (n : Nat) : LaneState :=
  if (l.sub n).stale then l
  else ((l.rules 2).filter (fun g => l.get (ruleKey g 6) = n)).foldl (fun l g =>
    let t := l.get (ruleKey g 8)
    let r := l.ruleRange g
    let bytes := (((l.sub n).data ++ List.replicate 1400 0).drop (l.get (ruleKey g 7))).take r.2
    let l := (l.keepImage t true).putWords (0x4500 + t) 0x20 (overlay (l.wordsAt (0x4500 + t) 0x20 16) r.1 bytes)
    { l with can := { l.can with changed := withBit l.can.changed t true } }.inc (ruleKey g 10)) l

/-! ### Reception (R311 to R313, R329) -/

/-- R312: a frame is stored in a buffer in one step. -/
def LaneState.storeFrame (l : LaneState) (index : Nat) (f : CanFrame) (time : Nat) : LaneState :=
  let k := key index 1
  let was := l.get k
  let again := bitAt was 31
  let w := 2 ^ 31 + b2n (again || bitAt was 30) * 2 ^ 30 + b2n f.ide * 2 ^ 27 + b2n f.fdf * 2 ^ 26 + b2n f.brs * 2 ^ 25
    + b2n f.esi * 2 ^ 24 + b2n f.rtr * 2 ^ 23 + f.dlc.toNat * 65536 + canLength f
  let l := ((l.put k w).put (key index 2) (canWord f % 2 ^ 29)).put (key index 3) time
  let l := (l.putWords index 0x10 ((canData f ++ List.replicate 64 0).take 64)).inc (key index 4)
  if again then (l.inc (key index 5)).inc 0x440708 else l

/-- R311: where a frame is placed: a priority buffer, a receive buffer, or nowhere. -/
def LaneState.placeOf (l : LaneState) (f : CanFrame) : Option Nat :=
  let w := canWord f
  let prio := [0x4560, 0x4561].find? (fun i => l.get (key i 10) = 1 && canMatches w (l.get (key i 8)) (l.get (key i 9)))
  match prio with
  | some i => some i
  | none =>
    ((List.range 32).find? (fun k => let i := 0x4570 + k
      l.get (key i 3) ≠ 0xFF && canMatches w (l.get (key i 1)) (l.get (key i 2)))).map
        (fun k => 0x4520 + l.get (key (0x4570 + k) 3))

/-- The configured stations of a lane. -/
def LaneState.stations (l : LaneState) : List Nat := (List.range 127).filter (fun k => l.get (key (0x4480 + k) 1) = 1)

/-- R329: source 75 leaves fault when no configured station is missing. -/
def State.followStations (s : State) (x : LaneId) : State :=
  if (s.lane x).stations.any (fun k => s.get x (key (0x4480 + k) 5) = 2) then s else s.lower (.lane x) 75

/-- R329: a station that is not configured is not missing. -/
def LaneState.clearStations (l : LaneState) : LaneState :=
  (List.range 127).foldl (fun l k => if l.get (key (0x4480 + k) 1) = 1 then l else l.put (key (0x4480 + k) 5) 0) l

/-- R329: a frame that matches a station's life identifier sets its age to 0, and a missing one is present. -/
def State.stationFrame (s : State) (x : LaneId) (f : CanFrame) : State :=
  let s := s.upd x (fun l => l.stations.foldl (fun l k =>
    let i := 0x4480 + k
    if canMatches (canWord f) (l.get (key i 2)) (l.get (key i 3)) then (l.put (key i 6) 0).put (key i 5) 1 else l) l)
  s.followStations x

/-- R329: stations at a beat start: ages rise, and one whose age comes to exceed its timeout becomes missing; one whose
timeout has been raised above its age is not missing any more (log 32: DEDUCED). -/
def State.ageStations (s : State) (x : LaneId) : State :=
  ((s.lane x).stations.foldl (fun s k =>
    let i := 0x4480 + k
    let s := s.put x (key i 6) (satInc 65535 (s.get x (key i 6)))
    if s.get x (key i 6) ≤ s.get x (key i 4) then s.put x (key i 5) 1
    else if s.get x (key i 5) = 2 then s
    else ((s.put x (key i 5) 2).inc x (key i 7)).raiseLane x 75) s).followStations x

/-- ISO 11898-1: the receive error count after a frame received without error: one less; from above 127, a value
of 119 to 127 that the manual does not fix (log 6: DESIGN CHOICE, 50: PRESUMED). -/
def State.frameWithoutError (s : State) (x : LaneId) : State :=
  let r := s.get x 0x440602
  if r = 0 then s
  else if r ≤ 127 then s.put x 0x440602 (r - 1)
  else
    let f := s.free 8
    f.2.put x 0x440602 (119 + f.1 % 9)

/-- R321: with both counts at most 127, the controller is error active again (log 50: PRESUMED). -/
def State.errorActive (s : State) (x : LaneId) : State :=
  if (s.lane x).can.errState = 1 ∧ s.get x 0x440601 ≤ 127 ∧ s.get x 0x440602 ≤ 127 then
    (s.upd x (fun l => { l with can := { l.can with errState := 0 } })).lower (.lane x) 72
  else s

/-- CAN_FRAME_RECEIVED (R311, R312, R327, R329): a valid frame of another transmitter. -/
def doCanFrameReceived (x : LaneId) (f : CanFrame) (time : BitVec 64) (s : State) : State :=
  if !(s.lane x).onBus then s
  else
    let s := s.inc x 0x440701
    let s := s.upd x (fun l =>
      let l := match l.placeOf f with
        | some i => l.storeFrame i f time.toNat
        | none => l.inc 0x440702
      (l.fillLatches f time.toNat).attemptEnds.busIdle)
    let s := if (s.lane x).can.listen then s else (s.frameWithoutError x).errorActive x
    s.stationFrame x f

/-! ### Bit timing (R309, R310) -/

/-- The fields of entry 4402h. -/
def dataFields (v : Nat) : Nat × Nat × Nat × Nat := (field v 24 5 + 1, field v 16 5 + 1, field v 8 4 + 1, field v 0 4 + 1)

/-- R309: what a bit timing must meet, by the nominal and data words after the write. -/
def timingOk (nominal data : Nat) : Bool :=
  let n := nominalFields nominal
  let d := dataFields data
  let qn := 1 + n.2.1 + n.2.2.1
  let qd := 1 + d.2.1 + d.2.2.1
  decide (80 ≤ bitCycles n ∧ bitCycles n ≤ 8000) && decide (8 ≤ qn ∧ qn ≤ 385)
    && decide (2 ≤ n.2.1) && decide (n.2.2.2 ≤ n.2.1 ∧ n.2.2.2 ≤ n.2.2.1)
    && decide (bitCycles d ≤ bitCycles n ∧ 16 ≤ bitCycles d) && decide (8 ≤ qd)
    && decide (d.2.2.2 ≤ d.2.1 ∧ d.2.2.2 ≤ d.2.2.1)

/-- A lane takes a bit timing, by which it integrates afresh from the next bus idle on: at once if the bus is idle, else the
end of the frame or error shows it, or an integration that is done (R309) (log 62: DEDUCED). -/
def LaneState.takeTiming (l : LaneState) (k v : Nat) (busy : Bool) : LaneState :=
  { l.put k v with can := { l.can with
    integrating := l.can.integrating || !busy, retime := busy && !l.can.integrating } }.markTriple

/-- R309: the bit timing of a lane after a write of its nominal or data word meets every condition. -/
def LaneState.timingFits (l : LaneState) (dataPhase : Bool) (v : Nat) : Bool :=
  if dataPhase then timingOk (l.get 0x440100) v else timingOk v (l.get 0x440200)

/-- A condition of each lane's line. -/
def onLines (a b : Bool) : LaneId → Bool
  | .A => a
  | .B => b

/-- BIT_TIMING_WRITE (R309, R310): entry 4401h or 4402h; `busy` says which lanes' buses are not idle. A standby that it
reaches takes a timing that fits there too (R381). -/
def doBitTimingWrite (acc : Acc) (dataPhase : Bool) (v : BitVec 32) (busy : LaneId → Bool) (s : State) : State :=
  let k := if dataPhase then 0x440200 else 0x440100
  let reserved := if dataPhase then 0xE0E0F0F0 else 1
  let ok := match s.target acc.sel with
    | none => true
    | some x => (s.lane x).timingFits dataPhase v.toNat
  s.command acc (k / 256) 0 2 (fun _ => true) (decide (v.toNat &&& reserved = 0) && ok) (fun _ =>
    (s.fanOutEach acc.sel (fun y l =>
      if l.timingFits dataPhase v.toNat then l.takeTiming k v.toNat (busy y) else l)).answer 0)

/-- The car bus of lane x runs: it and its domain are not in a block reset, and no activation stops it (R332, R408,
R412). -/
def LaneState.carBusOn (l : LaneState) (x : LaneId) : Bool :=
  !l.domainOff x 3 && !l.coll.resetting .carBus && decide (l.get 0x112000 ≠ 2)

/-- INTEGRATION_DONE (R309): 11 consecutive recessive bits. -/
def doIntegrationDone (x : LaneId) (s : State) : State :=
  if !(s.lane x).carBusOn x then s
  else s.upd x (fun l => { l with can := { l.can with integrating := false, retime := false } })

/-! ### Transmit buffers and the Pattern (R315 to R320) -/

/-- R315: a commit: the staging area goes to the transmit image, but for bytes that a rule owns. -/
def LaneState.commitTx (l : LaneState) (t : Nat) : LaneState :=
  let image := l.wordsAt (0x4500 + t) 0x20 16
  let new := ((l.rules 2).filter (fun g => l.get (ruleKey g 8) = t)).foldl (fun b g =>
    let r := l.ruleRange g
    overlay b r.1 (slice image r.1 r.2)) (l.wordsAt (0x4500 + t) 0x10 16)
  let l := (l.keepImage t true).putWords (0x4500 + t) 0x20 new
  { l with can := { l.can with changed := withBit l.can.changed t true } }

/-- TRANSMIT_COMMIT (R315): 1 to the commit bit of a transmit buffer. -/
def doTransmitCommit (acc : Acc) (t : Fin 32) (s : State) : State :=
  s.command acc (0x4500 + t.val) 1 1 (fun _ => true) true (fun _ =>
    (s.fanOut acc.sel (fun l => l.commitTx t.val)).answer 0)

/-- R315: a write of a transmit buffer's identifier. -/
def LaneState.writeTxIdent (l : LaneState) (t v : Nat) : LaneState := (l.keepImage t false).put (txKey t 2) v

/-- R315, R316: a write of the transmit control word: settings, and a commit. Read-only fields ignore what is
written. -/
def LaneState.writeTxControl (l : LaneState) (t v : Nat) : LaneState :=
  let kept := l.get (txKey t 1) &&& 0x41F00000
  let l := (l.keepImage t false).put (txKey t 1) (kept ||| (v &&& 0x3E0F0000))
  if bitAt v 31 then l.commitTx t else l

/-- A slot or pending buffer is suppressed (R324, R325). -/
def LaneState.suppress (l : LaneState) (t : Nat) : LaneState := (l.inc (txKey t 6)).inc 0x440706

/-- R324, R325: pending buffers that a condition names stop being pending and count as suppressed. -/
def LaneState.dropPending (l : LaneState) (c : Nat → Bool) : LaneState :=
  l.eachTx (fun l t => if l.txPending t && c t then (l.setPending t false).suppress t else l)

/-- R317: the cell of a row and column, none where it is free. -/
def LaneState.cell (l : LaneState) (row col : Nat) : Option Nat :=
  let v := l.get (key (0x4410 + row) (col + 1))
  if v < 32 then some v else none

/-- A slot makes a buffer pending (R317). -/
def LaneState.pend (l : LaneState) (t : Nat) : LaneState :=
  { l.setPending t true with can := { l.can with
    tried := withBit l.can.tried t false, late := withBit l.can.late t false
    images := l.can.images.filter (fun i => decide (i.buffer ≠ t)), since := tabSet (fun _ => 0) t l.trainTime l.can.since } }

/-- SLOT_START (R60, R316, R317, R319, R324): column `col` (0 for the first) of the row of the beat now running. -/
def doSlotStart (x : LaneId) (col : Fin 8) (s : State) : State :=
  let l := s.lane x
  if !l.ready || l.quiet || !l.carBusOn x || l.get 0x440002 ≠ 1 || l.get 0x440802 ≤ col.val then s
  else match l.cell (l.flow.beat % l.get 0x440801) col.val with
    | none => s
    | some t =>
      if l.txPending t then s.upd x (fun l => (l.inc (txKey t 5)).inc 0x440705)
      else if bitAt (l.get (txKey t 1)) 29 && !bitAt l.can.changed t then s
      else if l.can.listen then s.upd x (fun l => l.suppress t)
      else s.upd x (fun l => l.pend t)

/-- A buffer stops being pending, without a completed frame. -/
def LaneState.txDropped (l : LaneState) (t : Nat) : LaneState :=
  { l.setPending t false with can := { l.can with tried := withBit l.can.tried t false } }

/-- R309: with transmitter delay compensation enabled, each FD frame with BRS that is sent measures the loop delay,
which is the bus's: a free value of entry 4403h:03h (log 6: DESIGN CHOICE). -/
def State.measureDelay (s : State) (x : LaneId) (f : CanFrame) : State :=
  if f.fdf && f.brs && decide (s.get x 0x440302 = 1) then
    let (d, s) := s.free 7
    s.put x 0x440303 d
  else s

/-- R315, R316, R318: a buffer's frame is complete, with its start-of-frame time; a change after that is still to be
sent. -/
def LaneState.frameSent (l : LaneState) (t time : Nat) : LaneState :=
  let f := l.frameAt t time
  let again := l.changedSince t time
  let l := ((l.txDropped t).setCollisions t 0).put (txKey t 7) time
  let l := ((l.inc (txKey t 3)).inc 0x440703).put 0x440601 (l.get 0x440601 - 1)
  { l with can := { l.can with
    changed := withBit l.can.changed t again, late := withBit l.can.late t false, sent := some f
    images := l.can.images.filter (fun i => decide (i.buffer ≠ t)) } }.attemptEnds.busIdle

/-- CAN_FRAME_COMPLETE (R315, R316, R318, R323): the frame of the pending buffer that won arbitration at its start. -/
def doCanFrameComplete (x : LaneId) (t : Fin 32) (time : BitVec 64) (s : State) : State :=
  let l := s.lane x
  if !l.mayWin t.val time.toNat || !l.onBus then s
  else ((s.upd x (fun l => l.frameSent t.val time.toNat)).measureDelay x (l.frameAt t.val time.toNat)).errorActive x

/-- CAN_FRAME_LATE (R318): counted once. -/
def doCanFrameLate (x : LaneId) (t : Fin 32) (s : State) : State :=
  let l := s.lane x
  if l.ready && l.txPending t.val && !bitAt l.can.late t.val then
    s.upd x (fun l => { (l.inc (txKey t.val 4)).inc 0x440704 with can := { l.can with late := withBit l.can.late t.val true } })
  else s

/-- A failed attempt: with the Pattern off or listen-only in force the frame is dropped, otherwise it goes on
contending (R318, R324, R325). -/
def LaneState.attemptFailed (l : LaneState) (t : Nat) : LaneState :=
  if l.get 0x440002 ≠ 1 ∨ l.can.listen then l.txDropped t
  else { l with can := { l.can with tried := withBit l.can.tried t true } }

/-- ARBITRATION_LOST (R318). -/
def doArbitrationLost (x : LaneId) (t : Fin 32) (s : State) : State :=
  let l := s.lane x
  if l.onBus && l.mayBeOnBus t.val then s.upd x (fun l => ((l.inc 0x440707).attemptFailed t.val).attemptEnds) else s

/-- R317: the limits of the Pattern in the shadow. -/
def LaneState.shadowOk (l : LaneState) : Bool :=
  let M := l.shadowGet 0x440801
  let K := l.shadowGet 0x440802
  [1, 2, 4, 8, 16, 32, 64].contains M && decide (1 ≤ K ∧ K ≤ 8)
    && (List.range (K - 1)).all (fun c => l.shadowGet (key 0x4409 (c + 1)) < l.shadowGet (key 0x4409 (c + 2)))

/-- R317: a cell names a buffer or is free. -/
def cellOk (k v : Nat) : Bool := if 0x4410 ≤ k / 256 ∧ k / 256 ≤ 0x444F then decide (v < 32 ∨ v = 255) else true

/-- Entry 4408h:04h: the shadow differs from the Pattern in force. -/
def LaneState.shadowDiffers (l : LaneState) : Bool := l.can.shadow.any (fun e => l.get e.1 ≠ e.2)

/-- R320: the first beat, at least 2 beats after a write, whose index is a multiple of M. -/
def applyBeat (now M : Nat) : Nat := (now + 2 + M - 1) / M * M

/-- PATTERN_APPLY (R320): the lane in possession fixes the beat, for both lanes. -/
def doPatternApply (acc : Acc) (v : Byte) (s : State) : State :=
  s.command acc 0x4408 3 2 (fun _ => true) (decide (v.toNat = 1)) (fun x =>
    let l := s.lane (s.holder.getD x)
    let b := applyBeat (l.trainTime / 1000000) (l.shadowGet 0x440801)
    (s.fanOut .acting (fun l => { l with can := { l.can with switchBeat := some b } })).answer 0)

/-- PATTERN_SWITCH (R320): at the fixed beat the shadow is in force, with what has been written since the apply, which may
change M: the manual does not say which shadow is taken (log 66: DESIGN CHOICE). -/
def doPatternSwitch (x : LaneId) (s : State) : State :=
  match (s.lane x).can.switchBeat with
  | none => s
  | some _ => s.upd x (fun l =>
      let l := l.can.shadow.foldl (fun l e => l.put e.1 e.2) l
      { l with can := { l.can with shadow := [], switchBeat := none } })

/-- The buffer whose frame is on the car bus of a lane. -/
def OnCarBus.at_ (o : OnCarBus) : LaneId → Option Nat
  | .A => o.a.map Fin.val
  | .B => o.b.map Fin.val

/-- R325: the Pattern goes off: every pending buffer that has not begun an attempt is dropped. One has begun where an
attempt of it has failed, and where its frame is on the bus (log 62: DEDUCED). -/
def LaneState.patternOff (l : LaneState) (sending : Option Nat) : LaneState :=
  l.dropPending (fun t => !bitAt l.can.tried t && decide (sending ≠ some t))

/-- PATTERN_ENABLE (R325): the Pattern goes on or off, in each lane by what is on its own line (log 62: DEDUCED). -/
def doPatternEnable (acc : Acc) (v : Byte) (sending : OnCarBus) (s : State) : State :=
  s.command acc 0x4400 2 2 (fun _ => true) (decide (v.toNat ≤ 1)) (fun x =>
    let off (y : LaneId) (s : State) : State :=
      if v.toNat = 0 ∧ (y = x ∨ (acc.sel = .acting ∧ (s.lane y).reached)) then
        s.upd y (fun l => l.patternOff (OnCarBus.at_ sending y))
      else s
    (off .B (off .A (s.fanOut acc.sel (fun l => l.put 0x440002 v.toNat)))).answer 0)

/-- LISTEN_ONLY_CHANGE (R324): the operation written takes effect, outside bus-off. -/
def doListenOnlyChange (x : LaneId) (s : State) : State :=
  let l := s.lane x
  let on := decide (l.get 0x440001 = 1)
  if !l.ready || l.can.errState = 2 || l.can.listen = on then s
  else s.upd x (fun l =>
    let l := { l with can := { l.can with listen := on } }
    if on then l.dropPending (fun _ => true) else l)

/-! ### Errors (R321 to R323) -/

/-- Entry 4406h:03h (R330) (log 50: PRESUMED). -/
def canErrCode : CanErr → Nat
  | .stuff => 1
  | .form => 2
  | .ack => 3
  | .bit1 => 4
  | .bit0 => 5
  | .crc => 6

/-- A bit error (log 50: PRESUMED). -/
def isBitError (k : CanErr) : Bool := decide (k = .bit1 ∨ k = .bit0)

/-- ISO 11898-1, R321, R322: a transmitter's error count after an error: 8 more, and 8 for each of the further steps of its
error flag; none for the spared cases: a missing acknowledgement in error passive with no dominant bit in the passive error
flag, and a stuff error in arbitration. 256 is bus-off (log 50: PRESUMED). -/
def LaneState.transmitErrors (l : LaneState) (kind : CanErr) (inData : Bool) (more : Nat) (spared : Bool) : LaneState :=
  let none8 := spared && ((decide (kind = .ack) && decide (l.can.errState = 1)) || (decide (kind = .stuff) && !inData))
  l.put 0x440601 (min 256 (l.get 0x440601 + (if none8 then 0 else 8) + 8 * more))

/-- ISO 11898-1, R321: a receiver's error count after an error: 1 more, none for a bit error in its own error flag, and
8 for each of the further steps of the flag; it ends at 255 (log 50: PRESUMED). -/
def LaneState.receiveErrors (l : LaneState) (more : Nat) (spared : Bool) : LaneState :=
  l.put 0x440602 (min 255 (l.get 0x440602 + (if spared then 0 else 1) + 8 * more))

/-- R318, R323: a failed attempt of a buffer: a bit error in its data field is one more collision. -/
def LaneState.attemptError (l : LaneState) (t : Nat) (kind : CanErr) (inData : Bool) : LaneState :=
  (if inData && isBitError kind then l.setCollisions t (min 3 (l.collisions t + 1)) else l).attemptFailed t

/-- CAN_ERROR (R321 to R324): an error of the buffer being sent, or of a frame received. `more` counts the dominant bits
after or within the error flag for which ISO 11898-1 counts 8 more, and `spared` says that one of its exceptions holds.
In listen-only mode no count changes (log 50: PRESUMED). -/
def doCanError (x : LaneId) (t : Option (Fin 32)) (kind : CanErr) (inData : Bool) (more : BitVec 16) (spared : Bool)
    (s : State) : State :=
  let l := s.lane x
  if !l.onBus then s
  else if l.can.listen then s.upd x (fun l => (l.put 0x440603 (canErrCode kind)).attemptEnds.busIdle)
  else
    let counted (l : LaneState) : LaneState := match t with
      | some t =>
        if l.mayBeOnBus t.val then (l.transmitErrors kind inData more.toNat spared).attemptError t.val kind inData
        else l.receiveErrors more.toNat spared
      | none => l.receiveErrors more.toNat spared
    s.upd x (fun l => (((counted l).put 0x440603 (canErrCode kind)).inc 0x440605).attemptEnds.busIdle)

/-- ERROR_PASSIVE (R321): an error count is above 127 (log 50: PRESUMED). -/
def doErrorPassive (x : LaneId) (s : State) : State :=
  let l := s.lane x
  if l.ready && decide (l.can.errState = 0) && !l.can.listen && decide (127 < l.get 0x440601 ∨ 127 < l.get 0x440602) then
    (s.upd x (fun l => { l with can := { l.can with errState := 1 } })).raiseLane x 72
  else s

/-- BUS_OFF (R321): the transmit error count is above 255 (log 50: PRESUMED). -/
def doBusOff (x : LaneId) (s : State) : State :=
  let l := s.lane x
  if l.ready && decide (l.can.errState ≠ 2) && !l.can.listen && decide (255 < l.get 0x440601) then
    (s.upd x (fun l => { l.inc 0x440604 with can := { l.can with errState := 2 } })).raiseLane x 73
  else s

/-- BUS_OFF_RECOVERY_DONE (R321). -/
def doBusOffRecoveryDone (x : LaneId) (s : State) : State :=
  if (s.lane x).can.errState = 2 then
    let s := s.upd x (fun l => { (l.put 0x440601 0).put 0x440602 0 with can := { l.can with errState := 0 } })
    (s.lower (.lane x) 72).lower (.lane x) 73
  else s

/-- IDENTIFIER_COLLISION (R323): a buffer's count has reached 3. -/
def doIdentifierCollision (x : LaneId) (t : Fin 32) (time : BitVec 64) (s : State) : State :=
  let l := s.lane x
  if !l.ready || l.collisions t.val < 3 then s
  else
    let c := l.get (txKey t.val 1)
    let s := s.upd x (fun l =>
      let l := (l.setCollisions t.val 0).put 0x440500 (withBit (l.get 0x440500) 8 true)
      let l := (l.put 0x440A01 t.val).put 0x440A02 (frameWord (bitAt c 28) (bitAt c 27) (l.get (txKey t.val 2)))
      (l.put 0x440A03 time.toNat).inc 0x440A04)
    s.raiseLane x 74

/-! ### The meanings -/

def execBitTimingWrite (acc : Acc) (dataPhase : Bool) (v : BitVec 32) (s : State) (busyA busyB : Bool := false) : Out :=
  .next (s.through acc (doBitTimingWrite acc dataPhase v (onLines busyA busyB) s))
def execIntegrationDone (x : LaneId) (s : State) : Out := .next (doIntegrationDone x s)
def execCanFrameReceived (x : LaneId) (f : CanFrame) (time : BitVec 64) (s : State) : Out :=
  .next (doCanFrameReceived x f time s)
def execTransmitCommit (acc : Acc) (t : Fin 32) (s : State) : Out := .next (s.through acc (doTransmitCommit acc t s))
def execSlotStart (x : LaneId) (col : Fin 8) (s : State) : Out := .next (doSlotStart x col s)
def execCanFrameComplete (x : LaneId) (t : Fin 32) (time : BitVec 64) (s : State) : Out :=
  .next (doCanFrameComplete x t time s)
def execCanFrameLate (x : LaneId) (t : Fin 32) (s : State) : Out := .next (doCanFrameLate x t s)
def execPatternApply (acc : Acc) (v : Byte) (s : State) : Out := .next (s.through acc (doPatternApply acc v s))
def execPatternSwitch (x : LaneId) (s : State) : Out := .next (doPatternSwitch x s)
def execErrorPassive (x : LaneId) (s : State) : Out := .next (doErrorPassive x s)
def execBusOff (x : LaneId) (s : State) : Out := .next (doBusOff x s)
def execBusOffRecoveryDone (x : LaneId) (s : State) : Out := .next (doBusOffRecoveryDone x s)
def execIdentifierCollision (x : LaneId) (t : Fin 32) (time : BitVec 64) (s : State) : Out :=
  .next (doIdentifierCollision x t time s)
def execListenOnlyChange (x : LaneId) (s : State) : Out := .next (doListenOnlyChange x s)
def execPatternEnable (acc : Acc) (v : Byte) (s : State) (sending : OnCarBus := ⟨none, none⟩) : Out :=
  .next (s.through acc (doPatternEnable acc v sending s))
def execGatewayRuleEnable (acc : Acc) (g : Fin 64) (v : Byte) (s : State) : Out :=
  .next (s.through acc (doGatewayRuleEnable acc g v s))
def execCanError (x : LaneId) (t : Option (Fin 32)) (kind : CanErr) (inData : Bool) (more : BitVec 16) (spared : Bool)
    (s : State) : Out := .next (doCanError x t kind inData more spared s)
def execArbitrationLost (x : LaneId) (t : Fin 32) (s : State) : Out := .next (doArbitrationLost x t s)

end Sys2Proof.Machine
end

