-- ==== Sys2Proof/Machine/Wave.lean ====
section
/-! DEFINITION. Beats, sample points, the wave and the delivery of flows (chapter 07, R214, R218, R225 to R240). -/

namespace Sys2Proof.Machine

/-! ### Codes of lanes (entry 1100h, R66) -/

/-- Entry 1100h: 1 booting, 2 standby, 3 in possession, 4 releasing, 5 in reset; 0 for a lane asleep or without power,
as R214 codes it. A lane that is stopped or whose core has died is in reset (DEDUCED from R413, R120) (log 32: DEDUCED). -/
def laneStateCode : Mode → Nat
  | .unpowered => 0
  | .asleep => 0
  | .booting => 1
  | .standby => 2
  | .possession => 3
  | .releasing => 4
  | .inReset => 5
  | .stopped => 5
  | .dead => 5

/-- Code of the lane in possession (entry 1101h:00h [1:0]). -/
def State.holderCode (s : State) : Nat := (s.holder.map (fun x => laneBit x + 1)).getD 0

/-- The mirror is current at both lanes. -/
def State.mirrorBoth (s : State) : Bool := s.laneA.poss.mirrorCurrent && s.laneB.poss.mirrorCurrent

/-! ### The wave's numbers (R225 to R228) -/

/-- R225: hop slot H of a rate code. -/
def hopSlot : Nat → Nat
  | 0 => 2230
  | 1 => 3795
  | 2 => 6815
  | _ => 15710

/-- R225: lower bound h⁻ of a true hop. -/
def hopLow : Nat → Nat
  | 0 => 1992
  | 1 => 3392
  | 2 => 6192
  | _ => 14592

/-- The position of a member in a schedule's numbering, 0 if it has none. -/
def Sched.positionOf (d : Sched) (uid : Nat) : Nat :=
  ((d.entries.find? (fun (e : DirEntry) => decide (e.uid.toNat = uid))).map (fun e => e.pos.toNat)).getD 0

/-- R218: a flow of a schedule is due in a beat. -/
def SFlow.due (f : SFlow) (beat : Nat) : Bool :=
  match f.offset with
  | some o => decide (beat % f.period = o)
  | none => false

/-- Wire time in ns of the admitted frames due in a beat from positions that a test picks (R226, R228). -/
def Sched.wire (d : Sched) (beat byte : Nat) (pick : Nat → Bool) : Nat :=
  ((d.flows.filter (fun f => f.due beat && pick (d.positionOf f.uid))).map SFlow.cost).foldl (· + ·) 0 * byte

/-- R226: D(k) + S(k) for the rising copy, D̄(k) + S̄(k) for the falling one. -/
def Sched.lead (d : Sched) (rising : Bool) (k rate beat : Nat) : Nat :=
  let n := d.entries.length
  if rising then (k - 1) * hopSlot rate + d.wire beat (byteTime rate) (fun j => decide (0 < j ∧ j < k))
  else (n - k) * hopSlot rate + d.wire beat (byteTime rate) (fun j => decide (k < j))

/-- R228: the rising or falling window of position k in a beat: opening and closing. It exists only if its frames'
wire time is not 0. -/
def Sched.window (d : Sched) (rising : Bool) (line : LaneId) (k rate beat : Nat) : List (Nat × Nat) :=
  let start := beat * 1000000
  let own := d.wire beat (byteTime rate) (fun j => decide (j = k))
  let others := d.wire beat (byteTime rate) (fun j => if rising then decide (0 < j ∧ j < k) else decide (k < j))
  let reached := (d.entries.filter (fun (e : DirEntry) =>
    e.lines.toNat.testBit (7 - laneBit line) && (if rising then decide (e.pos.toNat < k) else decide (k < e.pos.toNat)))).length
  if own + others = 0 then []
  else [(start + (reached - 1) * hopLow rate, start + 4000 + d.lead rising k rate beat + own)]

/-- R228: both windows of a lane in a beat of a schedule. -/
def Sched.windows (d : Sched) (uid : Nat) (line : LaneId) (rate beat : Nat) : List (Nat × Nat) :=
  let k := d.positionOf uid
  if k = 0 then [] else d.window true line k rate beat ++ d.window false line k rate beat

/-- The switch beat of the adopted close in the lane's own time: b0 of R296 for a lane whose close names the master of
another domain that it has Syncs of, and how much later its own time reads there; else the switch beat as it stands. -/
def LaneState.nextSwitch (l : LaneState) : Option (Nat × Int) :=
  match l.roll.adopted with
  | none => none
  | some c =>
    let b : Int := c.fields.switchBeat.toNat
    if !l.roll.running then none
    else if l.domainPending && decide (l.time.candUid = Machine.masterUid c.entries c.fields.master.toNat) then
      match l.time.candSamples with
      | [] => none
      | m :: _ =>
        let rate := ((firstAndFourth l.time.candSamples).map (fun p => rateOf p.1 p.2)).getD 0
        let theta := thetaAt m rate (b + m.theta)
        some ((nearestBeat (b + theta)).toNat, theta)
    else some (b.toNat, 0)

/-- The windows of a schedule around a train time of a lane: those of the beats that a test picks, `shift` later than their
own train time reads. -/
def LaneState.waveWindows (d : Option Sched) (uid : Nat) (line : LaneId) (rate : Nat) (beats : Nat → Bool) (shift : Int)
    (t : Nat) : List (Int × Int) :=
  match d with
  | none => []
  | some d =>
    let near := (((t : Int) - shift) / 1000000).toNat + 2
    if rate = 0xFF then []
    else (List.range 13).flatMap (fun i =>
      if near < i || !beats (near - i) then []
      else (d.windows uid line rate (near - i)).map (fun w => ((w.1 : Int) + shift, (w.2 : Int) + shift)))

/-- R231, R232: the scheduled windows of a lane around a train time: in transition beats those of the old and of the new
schedule, each in its own beats; none in a late start (R204), and none without a line rate. -/
def LaneState.windowsAt (l : LaneState) (uid : Nat) (line : LaneId) (t : Nat) : List (Int × Int) :=
  if l.roll.lateStart then []
  else match l.nextSwitch, l.roll.adopted, l.flow.old with
    | some (b0, theta), some c, _ =>
      let sw := c.fields.switchBeat.toNat / 1000000
      waveWindows l.flow.sched uid line l.lineRate (fun k => decide (k ≤ b0 / 1000000)) 0 t
        ++ waveWindows (if l.flow.computing then none else l.flow.next) uid line (c.rateOf line)
            (fun k => decide (sw ≤ k + 1)) theta t
    | _, _, some o =>
      waveWindows o.sched uid line o.rate (fun k => decide (k ≤ o.last)) o.shift t
        ++ waveWindows l.flow.sched uid line l.lineRate (fun k => decide (o.first ≤ k + 1)) 0 t
    | _, _, none => waveWindows l.flow.sched uid line l.lineRate (fun _ => true) 0 t

/-- R152: a train time lies in a scheduled window. -/
def LaneState.inWindow (l : LaneState) (uid : Nat) (line : LaneId) (t : Nat) : Bool :=
  (l.windowsAt uid line t).any (fun w => decide (w.1 ≤ (t : Int) ∧ (t : Int) ≤ w.2))

/-- R153: an unscheduled frame that starts now ends before the next window opens, and no window is open (log 33:
DEDUCED). -/
def LaneState.fitsGap (l : LaneState) (uid : Nat) (line : LaneId) (t wire : Nat) : Bool :=
  (l.windowsAt uid line t).all (fun w => decide ((t + wire : Nat) ≤ w.1 ∨ w.2 < (t : Int)))

/-! ### Frames of flows (R134, R137 to R139, R143, R145) -/

/-- R134, R138, R227: a sampled frame as a lane launches it, up to its payload's end; the flags are those of the launch. -/
def State.flowFrame (s : State) (x : LaneId) (v : Launch) (f : SampledFrame) : List Byte :=
  let l := s.lane x
  toBytes 6 (flowGroup s.uid f.number) ++ toBytes 6 (macAddress s.uid x) ++ toBytes 2 0x88B5
    ++ ownHeader 1 (headerFlags x (decide (l.mode = .possession)) l.roll.running false) v.pos v.stamp f.number f.seq f.data.length
    ++ f.data

/-! ### Flow 0 (R214, R215) -/

/-- The lowest SNR margin of the node's up ports in 0.1 dB, FFh for none. -/
def State.worstMargin (s : State) : Nat :=
  let of (l : LaneState) : List Nat := [EndId.e1, EndId.e2].flatMap (fun e =>
    if (l.port e).isUp then [(clampInt ((toSigned 32 (l.get (key 0x2008 (endSub e)))) / 10) 0 254).toNat] else [])
  (of s.laneA ++ of s.laneB).foldl min 255

/-- Stale subscriptions of a lane (entry 2816h). -/
def LaneState.staleCount (l : LaneState) : Nat := (l.flow.subs.filter (fun e => e.2.stale)).length

/-- R214: the payload of flow 0. -/
def State.flowZero (s : State) (x : LaneId) : List Byte :=
  let l := s.lane x
  let byte0 := s.holderCode * 64 + laneStateCode s.laneA.mode * 8 + laneStateCode s.laneB.mode
  let byte1 := b2n l.poss.interlock * 128 + b2n s.mirrorBoth * 64 + b2n (s.eligible .A) * 32 + b2n (s.eligible .B) * 16
    + b2n (decide (s.get .A 0x112000 ≠ 0)) * 8 + b2n (decide (s.get .B 0x112000 ≠ 0)) * 4
  toBytes 1 byte0 ++ toBytes 1 byte1 ++ toBytes 2 (l.coll.unacknowledged ||| s.coll.unacknowledged)
    ++ toBytes 3 (((s.holder.map (fun h => s.get h 0x510C00)).getD 0) % 2 ^ 24)
    ++ toBytes 1 (s.laneA.supplyState * 64 + s.laneB.supplyState * 16) ++ toBytes 2 l.shortestLife
    ++ toBytes 1 (min 255 l.conflictCount) ++ toBytes 1 s.worstMargin ++ toBytes 2 (l.get 0x240100)
    ++ toBytes 2 l.staleCount ++ toBytes 2 (s.mget 0x120000) ++ toBytes 2 0 ++ toBytes 4 l.trainTime

/-! ### Sample points (R234, R235, R327) -/

/-- The next schedule comes into force with a beat, at a lane that does not step there (R203). -/
def LaneState.takesNext (l : LaneState) (beat : Nat) : Bool :=
  match l.roll.adopted with
  | some c => l.roll.running && decide (c.fields.switchBeat.toNat / 1000000 = beat) && !l.domainPending
  | none => false

/-- Publications as a beat sends them: by the schedule in force, or by the next one at its switch beat. -/
def State.publicationsFor (s : State) (x : LaneId) (beat : Nat) : List (Nat × PubEntry) :=
  let l := s.lane x
  if l.takesNext beat then
    match l.flow.next with
    | some d => if l.flow.computing || d.positionOf s.uid = 0 then [] else assignOffsets d s.uid l.flow.announced
    | none => []
  else if l.position = 0 then []
  else l.flow.running

/-- What a beat is sent by: schedule, stamp, and line rate, of the numbering in force or of the next one at its switch
beat. -/
def LaneState.numberingFor (l : LaneState) (x : LaneId) (beat : Nat) : Option (Sched × Nat × Nat) :=
  match l.takesNext beat, l.roll.adopted, l.flow.next with
  | true, some c, some d => some (d, c.fields.stamp.toNat, c.rateOf x)
  | true, _, _ => none
  | false, _, _ => l.flow.sched.map (fun d => (d, l.sentStamp, l.lineRate))

/-- R226, R227: the launches of a beat's frames; position N has no rising copy, position 1 no falling one. -/
def State.launchOf (s : State) (x : LaneId) (beat : Nat) (frames : List SampledFrame) : Option Launch :=
  match (s.lane x).numberingFor x beat with
  | none => none
  | some (d, stamp, rate) =>
    let k := d.positionOf s.uid
    match d.entries.find? (fun (e : DirEntry) => decide (e.uid.toNat = s.uid)) with
    | none => none
    | some own => some {
        beat := beat, pos := k, stamp := stamp, high := highEnd own
        riseAt := beat * 1000000 + 2000 + d.lead true k rate beat
        fallAt := beat * 1000000 + 2000 + d.lead false k rate beat
        rises := decide (k ≠ d.entries.length), falls := decide (k ≠ 1), frames := frames }

/-- R234: one context at its sample point: a committed back buffer comes to the front, the payload takes its gateway
latches, and the sequence number counts. The front buffer keeps what lies beyond the payload size. -/
def State.sampleContext (s : State) (x : LaneId) (n size : Nat) : State :=
  let zero := s.flowZero x
  s.upd x (fun l =>
    let l := l.updPub n (fun p => if p.committed then { p with front := p.back, back := p.front, committed := false } else p)
    let front := ((l.pub n).front ++ List.replicate 1400 0).take 1400
    let payload := if n = 0 then zero else l.writeLatches n size front
    let l := l.updPub n (fun p => { p with front := payload, seq := (p.seq + 1) % 65536, sampled := l.trainTime % 2 ^ 32 })
    (l.countCopies n).inc (key (0x3000 + n) 11))

/-- R60, R204, R297: what keeps a lane from publishing (log 32: DEDUCED). -/
def LaneState.mayPublish (l : LaneState) : Bool :=
  l.ready && l.hasTime && !l.roll.lateStart && !l.time.lateDomain && !l.quiet

/-- R291, R296, R297: the old beats that would start at or after the boundary of a step that is fixed never start (log 32:
DEDUCED). -/
def State.cutOff (s : State) (x : LaneId) (beat : Nat) : Bool :=
  let l := s.lane x
  let ends := if l.domainPending && l.roll.running && (firstAndFourth l.time.candSamples).isSome then
      l.nextSwitch.map (fun b => (b.1 : Int))
    else s.stepBoundary x
  ends.any (fun b => decide (b ≤ (beat : Int) * 1000000))

/-- SAMPLE_POINT (R234): 20 µs before a beat, or at the start of one that begins at a step. The old beat that a pending
step cuts off never starts (R296) (log 32: DEDUCED). -/
def doSamplePoint (x : LaneId) (s : State) : State :=
  let l := s.lane x
  let beat := (l.trainTime + 20000) / 1000000
  if !l.mayPublish || s.cutOff x beat then s
  else
    let due := (s.publicationsFor x beat).filter (fun p => PubEntryDue p.2 beat)
    let s := due.foldl (fun s p => s.sampleContext x p.1 p.2.size.toNat) s
    let frame (p : Nat × PubEntry) : SampledFrame :=
      let k := (s.lane x).pub p.1
      ⟨p.2.number.toNat, k.seq, k.front.take p.2.size.toNat⟩
    match s.launchOf x beat (due.map frame) with
    | none => s
    | some v => if due.isEmpty then s else s.upd x (fun l => { l with flow := { l.flow with launches := l.flow.launches ++ [v] } })

/-! ### Launches (R226, R227) -/

/-- A copy of a beat has left, or cannot leave, one way. -/
def Launch.done (v : Launch) (rising : Bool) : Launch := if rising then { v with rises := false } else { v with falls := false }

/-- A copy of a beat has still to leave one way. -/
def Launch.due (v : Launch) (rising : Bool) : Bool := if rising then v.rises else v.falls

/-- The first beat whose copy has still to leave one way is done with. -/
def endLaunch (rising : Bool) : List Launch → List Launch
  | [] => []
  | v :: t =>
    if v.due rising then (let w := v.done rising; if w.rises || w.falls then w :: t else t)
    else v :: endLaunch rising t

/-- The frames of a launch leave by a port (R226, R227); a link that is new drops them (R152). By a rate-held one none goes,
and none counts as a drop there: R156 and R227 leave it open (log 66: DESIGN CHOICE). -/
def State.launchBy (s : State) (x : LaneId) (e : EndId) (v : Launch) (time : Nat) : State :=
  let p := (s.lane x).port e
  if !(s.lane x).mayPublish || !p.isUp || p.rateHeld then s
  else if p.newLink then s.upd x (fun l => l.countPortBy e 0x212F v.frames.length)
  else
    let frames := v.frames.map (s.flowFrame x v)
    s.upd x (fun l => (l.updPort e (fun p => { p with launched := frames, launchAt := time })).countPortBy e 0x2101 frames.length)

/-- WAVE_LAUNCH (R226, R227, R233): the frames of the oldest beat whose copy has still to leave that way leave in
ascending flow number, by the port toward higher positions or by the other one. -/
def doWaveLaunch (x : LaneId) (rising : Bool) (s : State) : State :=
  match (s.lane x).flow.launches.find? (fun v => v.due rising) with
  | none => s
  | some v =>
    let s := s.launchBy x (if rising then v.high else v.high.other) v (if rising then v.riseAt else v.fallAt)
    s.upd x (fun l => { l with flow := { l.flow with launches := endLaunch rising l.flow.launches } })

/-- WAVE_SLIP (R229, R232): a scheduled frame waits behind a scheduled frame: a slip, or a transition wait. -/
def doWaveSlip (x : LaneId) (s : State) : State :=
  if (s.lane x).ready then
    s.upd x (fun l => if l.flow.transition = 0 then l.inc 0x281100 else l.inc 0x281200)
  else s

/-! ### Delivery (R237, R238) -/

/-- A copy of a flow's frame as it reaches a subscription: its number, active flag, source line, publisher and payload. -/
structure FlowCopy where
  seq : Nat
  active : Bool
  line2 : Bool
  uid : Nat
  data : List Byte
deriving DecidableEq, Repr

/-- The record of a copy (R239). -/
def FlowCopy.record (c : FlowCopy) : CopyRec := ⟨c.seq, c.active, c.uid, c.data⟩

/-- R238: an active copy of the number held replaces an inactive one within 2 ms. -/
def SubCtx.prefers (k : SubCtx) (c : FlowCopy) (now : Nat) : Bool :=
  k.held && decide (k.seq = c.seq) && c.active && !k.active && decide (now ≤ k.firstAt + 2000000)

/-- R236, R237: the copy is newer than what the context holds, or the first of a publisher to whom the position has gone. -/
def SubCtx.accepts (k : SubCtx) (c : FlowCopy) : Bool :=
  !k.held || (k.anySeq && decide (c.uid = k.uid)) || newer16 c.seq k.seq

/-- R236, R237: a delivery; one of the publisher before leaves the next copy of the new one to be taken whatever its number
(log 63: DEDUCED). -/
def SubCtx.deliver (k : SubCtx) (c : FlowCopy) (now time : Nat) : SubCtx :=
  { k with
    held := true, seq := c.seq, data := c.data, time := time % 2 ^ 32, active := c.active, line2 := c.line2
    newData := true, age := 0, anySeq := k.anySeq && decide (c.uid ≠ k.uid), firstAt := now, fresh := k.fresh ++ [c.record]
    delivered := (c.seq :: k.delivered).take 32 }

/-- R238: a replacement; with equal payloads, only the active flag and the source line (log 32: DEDUCED). The record of
a copy delivered in this beat follows it (R239). -/
def SubCtx.replace (k : SubCtx) (c : FlowCopy) : SubCtx :=
  let k := { k with fresh := k.fresh.map (fun (r : CopyRec) => if r.seq = c.seq then c.record else r) }
  if k.data = c.data then { k with active := true, line2 := c.line2 }
  else { k with active := true, line2 := c.line2, data := c.data, newData := true, replaced := true }

/-- R237, R238, R328: a valid copy reaches a context: delivered, replacing, or a duplicate. The answer says whether it
was taken (log 31: DEDUCED). -/
def State.takeCopy (s : State) (x : LaneId) (n : Nat) (c : FlowCopy) : State :=
  s.upd x (fun l =>
    let k := l.sub n
    if k.accepts c then
      (((l.updSub n (fun k => k.deliver c s.clock l.trainTime)).inc (key (0x3000 + n) 11)).refreshStale n).gatewayCopy n
    else if k.prefers c s.clock then
      let l' := l.updSub n (fun k => k.replace c)
      if k.data = c.data then l' else (l'.inc 0x281500).gatewayCopy n
    else l.inc (key (0x3000 + n) 12))

/-- R236: a context is bound to a publisher's position and flow number, by its binding or, for a frame with the stamp
in grace, by the one before. -/
def LaneState.boundAt (l : LaneState) (n pos number : Nat) (grace : Bool) : Bool :=
  let k := l.sub n
  if grace then
    match k.grace with
    | some (p, _, m) => decide (p = pos) && decide (m = number)
    | none => false
  else decide (k.resolution = 1 ∨ k.resolution = 5) && decide (k.position = pos) && decide (l.get (key (0x3000 + n) 2) = number)

/-- R236: the contexts that a frame's publisher position and flow number name, under the stamp in grace or not
(log 31: DEDUCED). -/
def LaneState.boundTo (l : LaneState) (pos number : Nat) (grace : Bool) : List Nat :=
  l.subscriptions.filter (fun n => l.boundAt n pos number grace)

/-- R204, R240: no subscription takes frames in a late start, nor before the beat after it (log 31: DEDUCED). -/
def LaneState.receives (l : LaneState) : Bool := !l.roll.lateStart && !l.flow.startsNext

/-- R236, R237: a class 1 frame is delivered to every context bound to it. Codes: 0 delivered, 4 too large for every
one, 18 no subscription. -/
def State.deliverFlow (s : State) (x : LaneId) (pos number : Nat) (grace : Bool) (c : FlowCopy) : State × Nat :=
  let l := s.lane x
  let ns := if l.receives then l.boundTo pos number grace else []
  let fit := ns.filter (fun n => decide (c.data.length ≤ l.get (key (0x3000 + n) 5)) && (grace || decide ((l.sub n).resolution ≠ 5)))
  if fit.isEmpty then (s, if ns.isEmpty then 18 else 4)
  else
    let from_ (n : Nat) : Nat := if grace then ((l.sub n).grace.map (fun g => g.2.1)).getD 0 else (l.sub n).uid
    (fit.foldl (fun s n => s.takeCopy x n { c with uid := from_ n }) s, 0)

/-- R147, R236: the publisher that a subscription names: its node UID, or the one at its position, as bound or in the
directory in force; 0 for none. -/
def LaneState.publisherOf (l : LaneState) (n : Nat) : Nat :=
  let c := l.subConfig n
  let k := l.sub n
  if c.position = 0 then c.uid
  else if k.resolution = 1 ∨ k.resolution = 5 then k.uid
  else ((l.roll.directory.find? (fun d => decide (d.pos.toNat = c.position))).map (fun d => d.uid.toNat)).getD 0

/-- R147: the bins of all subscribed flows, resolved or not, as entry 2210h shows them; while a stamp is in grace, those of
the bindings before are among them (log 63: DEDUCED). -/
def LaneState.hashBins (l : LaneState) : List Nat :=
  l.subscriptions.flatMap (fun n =>
    (if l.publisherOf n = 0 then [] else [hashBin (flowGroup (l.publisherOf n) (l.get (key (0x3000 + n) 2)))])
      ++ (match (l.sub n).grace with
          | some (_, u, m) => if l.roll.graceBeats ≠ 0 then [hashBin (flowGroup u m)] else []
          | none => []))

/-! ### Fill-ins (R239) -/

/-- R239: a lane lacks the copy that a record of its peer names: it has not delivered that number, or holds a copy of it
without the active flag and with another CRC-32C. -/
def SubCtx.lacks (k : SubCtx) (r : CopyRec) : Bool :=
  !k.delivered.contains r.seq || (k.held && decide (k.seq = r.seq) && r.active && !k.active
    && decide (crc32c k.data ≠ crc32c r.data))

/-- R239: the first record of a context at the peer whose payload a lane asks for. -/
def State.asksFill (s : State) (x : LaneId) (n : Nat) : Option CopyRec :=
  let l := s.lane x
  let q := s.lane x.peer
  if l.ready && q.ready && l.poss.mirrorCurrent && q.poss.mirrorCurrent && l.receives && decide (l.ctxRole n = 2)
      && decide ((l.sub n).resolution = 1) then (q.sub n).records.find? (fun r => (l.sub n).lacks r)
  else none

/-- R239: fill-ins are served in ascending context order: none below the context served last, none while a lower one
waits. -/
def State.fillTurn (s : State) (x : LaneId) (n : Nat) : Bool :=
  let last := (s.lane x.peer).flow.fillLast
  let after (m : Nat) : Bool := match last with
    | some k => decide (k ≤ m)
    | none => true
  after n && !(s.lane x).subscriptions.any (fun m => decide (m < n) && after m && (s.asksFill x m).isSome)

/-- R239: a record has been served, and those before it were not asked for. -/
def LaneState.served (q : LaneState) (n : Nat) (r : CopyRec) : LaneState :=
  let q := { q with flow := { q.flow with fillLast := some n } }
  q.updSub n (fun k => { k with records := (k.records.dropWhile (fun e => decide (e ≠ r))).drop 1 })

/-- FILL_IN (R239): while the mirror is current, a lane takes a payload that it lacks from its peer, up to 16 KiB in a
beat; beyond that it is not sent, and the peer counts it. -/
def doFillIn (x : LaneId) (ctx : Fin 1024) (s : State) : State :=
  let n := ctx.val
  let q := s.lane x.peer
  match s.asksFill x n with
  | none => s
  | some r =>
    if !s.fillTurn x n then s
    else
      let s := s.upd x.peer (fun q => q.served n r)
      if 16384 < q.flow.fillBytes + r.data.length then s.upd x.peer (fun q => q.inc 0x281400)
      else
        let s := s.upd x.peer (fun q => { q with flow := { q.flow with fillBytes := q.flow.fillBytes + r.data.length } })
        let s := s.takeCopy x n ⟨r.seq, r.active, decide (x.peer = .B), r.uid, r.data⟩
        s.upd x (fun l => (l.inc 0x281300).inc (key (0x3000 + n) 13))

/-! ### Beat starts (R141, R218, R232, R239, R240, R269, R329) -/

/-- R240: ages of bound subscriptions, and of those a late start left unresolved, rise; what was delivered in the beat
now ending is offered to the peer. -/
def LaneState.ageSubscriptions (l : LaneState) : LaneState :=
  l.subscriptions.foldl (fun l n =>
    let ages := decide ((l.sub n).resolution = 1) || (l.roll.lateStart && (l.sub n).held)
    (l.updSub n (fun k => { k with
      age := if ages then satInc 65535 k.age else k.age
      records := k.fresh, fresh := [] })).refreshStale n) l

/-- The ages of the filled latches of direction 1 rules rise (R327). -/
def LaneState.ageLatches (l : LaneState) : LaneState :=
  (l.rules 1).foldl (fun l g =>
    if (lookupD Latch.empty g l.can.latches).filled then l.put (ruleKey g 11) (satInc 65535 (l.get (ruleKey g 11))) else l) l

/-- R137: whether a lane takes a sequence number of its peer for its own: where one of them alone has the node's numbers,
the other takes them; else the newer counts (log 32: DEDUCED). -/
def LaneState.takesNumber (l peer : LaneState) (theirs own : Nat) : Bool :=
  if l.flow.numbers = peer.flow.numbers then newer16 theirs own else peer.flow.numbers

/-- R137: the sequence numbers of a lane's diagnostic frames. -/
def LaneState.alignEchoes (l peer : LaneState) : LaneState :=
  { l with echoSeq := peer.echoSeq.foldl (fun t e =>
      if l.takesNumber peer e.2 (tabGet (fun _ => 0) e.1 t) then tabSet (fun _ => 0) e.1 e.2 t else t) l.echoSeq }

/-- R137: both lanes use one sequence number for a frame: with the mirror current, a lane that restarted takes its peer's,
whatever they are, and else the newer of its own and its peer's (log 32: DEDUCED). -/
def LaneState.alignSequences (l peer : LaneState) : LaneState :=
  let m := l.alignEchoes peer
  let m := peer.flow.pubs.foldl (fun m e =>
    if l.takesNumber peer e.2.seq (m.pub e.1).seq then m.updPub e.1 (fun p => { p with seq := e.2.seq }) else m) m
  { m with flow := { m.flow with numbers := l.flow.numbers || peer.flow.numbers } }

/-- R137: the lane in possession has the node's sequence numbers. -/
def LaneState.ownNumbers (l : LaneState) : LaneState :=
  { l with flow := { l.flow with numbers := l.flow.numbers || decide (l.mode = .possession) } }

/-- R141: the stamp in grace lasts 32 beats (log 31: DEDUCED). -/
def RollState.ageGrace (r : RollState) : RollState :=
  if r.graceBeats ≤ 1 then { r with graceBeats := 0, stampGrace := 0 } else { r with graceBeats := r.graceBeats - 1 }

/-- R269: the announcement of a train sleep, from a node that has announcements to send. -/
def State.announcementFrame (s : State) (x : LaneId) (beat : Nat) : MsgFrame where
  srcUid := BitVec.ofNat 64 s.uid
  srcPos := BitVec.ofNat 16 (s.lane x).position
  stamp := BitVec.ofNat 32 (s.lane x).sentStamp
  session := 128
  seq := BitVec.ofNat 16 s.keeper.annSeq
  lastSeg := true
  kind := 5
  op := 0x20
  selection := 0
  attempt := 0
  target := 0
  transaction := 0
  object := 0
  offset := 0
  length := 8
  status := 0
  data := toBytes 8 beat

/-- R269: in each of 8 consecutive beats, the lane in possession and its standby send the announcement (log 32: DEDUCED). -/
def State.announceSleep (s : State) (x : LaneId) : State :=
  match s.keeper.sleepBeat with
  | none => s
  | some b =>
    if s.keeper.announce = 0 ∨ s.holder ≠ some x then s
    else
      let send (s : State) (y : LaneId) : State :=
        if (s.lane y).ready then
          let f := s.announcementFrame y b
          s.upd y (fun l => l.sendMessage y none 0 f)
        else s
      let s := (send (send s x) x.peer)
      { s with keeper := { s.keeper with announce := s.keeper.announce - 1, annSeq := (s.keeper.annSeq + 1) % 65536 } }

/-- BEAT_START (R218): the beat that the lane's train time has reached begins. The old beat that a pending step cuts off
never starts (R296) (log 32: DEDUCED). -/
def doBeatStart (x : LaneId) (s : State) : State :=
  let l := s.lane x
  let beat := l.trainTime / 1000000
  if !l.ready || s.cutOff x beat then s
  else
    let ahead (k : Nat) : Bool := l.nextSwitch.any (fun b => decide (b.1 = k * 1000000))
    let switched := ahead beat || l.flow.old.any (fun o => decide (o.first = beat))
    let transition := switched || ahead (beat + 1)
    let peer := s.lane x.peer
    let s := s.upd x (fun l =>
      let l := { l with
        flow := { l.flow with beat := beat, transition := b2n transition, fillBytes := 0, fillLast := none, startsNext := false }
        roll := if switched then l.roll else l.roll.ageGrace }
      let l := ((l.ageSubscriptions).ageLatches).ownNumbers
      if l.poss.mirrorCurrent && peer.ready then l.alignSequences peer else l)
    (s.ageStations x).announceSleep x

def execBeatStart (x : LaneId) (s : State) : Out := .next (doBeatStart x s)
def execSamplePoint (x : LaneId) (s : State) : Out := .next (doSamplePoint x s)
def execWaveLaunch (x : LaneId) (rising : Bool) (s : State) : Out := .next (doWaveLaunch x rising s)
def execWaveSlip (x : LaneId) (s : State) : Out := .next (doWaveSlip x s)
def execFillIn (x : LaneId) (ctx : Fin 1024) (s : State) : Out := .next (doFillIn x ctx s)

end Sys2Proof.Machine
end

