-- ==== Sys2Proof/Machine/Frames.lean ====
section
/-! DEFINITION. Frames at a line port: the checks of the decision point, forwarding, delivery, egress, PAUSE and the
message receive ring (chapter 05). The frames of the Roll, of train time, of messages and PAUSE that a port delivers
take their effect by the commands of their chapters. -/

namespace Sys2Proof

open Machine

/-! ### Reading a frame (R133 to R138) -/

/-- Frame length from the destination address to the FCS inclusive (R135). -/
def LineFrame.length (f : LineFrame) : Nat := f.bytes.length + 4

/-- Destination address. -/
def LineFrame.dest (f : LineFrame) : Nat := numAt f.bytes 0 6

/-- Source address. -/
def LineFrame.source (f : LineFrame) : Nat := numAt f.bytes 6 6

/-- EtherType. -/
def LineFrame.ether (f : LineFrame) : Nat := numAt f.bytes 12 2

/-- A frame with the own-protocol header. -/
def LineFrame.own (f : LineFrame) : Bool := decide (f.ether = 0x88B5 ∨ f.ether = 0x88B6)

/-- R139: the header check passes. -/
def LineFrame.headerOk (f : LineFrame) : Bool :=
  f.own && decide (30 ≤ f.bytes.length) && decide (crc16 (slice f.bytes 14 14) = numAt f.bytes 28 2)

/-- Class of the header. -/
def LineFrame.cls (f : LineFrame) : Nat := numAt f.bytes 14 1 % 16

/-- Flags of the header. -/
def LineFrame.flags (f : LineFrame) : Nat := numAt f.bytes 15 1

/-- Source position of the header. -/
def LineFrame.pos (f : LineFrame) : Nat := numAt f.bytes 16 2

/-- Topology stamp of the header. -/
def LineFrame.stamp (f : LineFrame) : Nat := numAt f.bytes 18 4

/-- Flow, session or echo number of the header. -/
def LineFrame.number (f : LineFrame) : Nat := numAt f.bytes 22 2

/-- Payload length of the header. -/
def LineFrame.payload (f : LineFrame) : Nat := numAt f.bytes 26 2

/-- A class 1 frame whose header check passes. -/
def LineFrame.isFlow (f : LineFrame) : Bool := f.headerOk && decide (f.ether = 0x88B5 ∧ f.cls = 1)

/-- A runt (code 3 of R157), which only its end shows. -/
def LineFrame.runt (f : LineFrame) : Bool := decide (f.length < 64) && (!f.isFlow || decide (f.length < 35))

/-- A class 2 frame whose header check passes. -/
def LineFrame.isMessage (f : LineFrame) : Bool := f.headerOk && decide (f.ether = 0x88B5 ∧ f.cls = 2)

/-- R135: the payload is above the limit of its class. -/
def LineFrame.overClass (f : LineFrame) : Bool :=
  f.headerOk && decide (f.cls ≤ 3) &&
    (if f.ether = 0x88B5 ∧ f.cls = 1 then decide (1400 < f.payload) else decide (1500 < f.payload))

/-- Drop code 4 of R157 (log 51: DEDUCED): the frame is oversize, which counter 2114h counts too. -/
def LineFrame.oversize (f : LineFrame) : Bool := decide (1536 < f.length) || f.overClass

end Sys2Proof

namespace Sys2Proof.Machine

/-! ### Addresses (R144, R145) -/

/-- R145: what makes an address foreign whatever the class: an unlisted group, a unicast address of another kind or
line, a listed group with another EtherType. -/
def foreignAddress (line : LaneId) (f : LineFrame) : Bool :=
  let a := f.dest
  if isFlowGroup a then decide (f.ether ≠ 0x88B5)
  else if a = rollGroup ∨ a = messageGroup then decide (f.ether ≠ 0x88B5)
  else if a = diagnosticGroup then !f.own
  else if a = timeGroup ∨ a = delayGroup then decide (f.ether ≠ 0x88F7)
  else if a = pauseGroup then decide (f.ether ≠ 0x8808)
  else if isGroup a then true
  else decide (a / 2 ^ 40 ≠ (if line = .A then 2 else 6))

/-- R145: the rules that depend on the class, for a frame whose header check passes. A frame of EtherType 88B6h with a class
other than 3 meets them too, before the reserved class of code 9: the manual does not say which judges it (log 64:
DESIGN CHOICE). -/
def foreignForClass (f : LineFrame) : Bool :=
  let a := f.dest
  let c := f.cls
  (decide (c = 1) && !isFlowGroup a) || (decide (c ≠ 1) && isFlowGroup a) || (decide (c = 0) && decide (a ≠ rollGroup))
    || (decide (a = rollGroup) && decide (c ≠ 0)) || (decide (a = messageGroup) && decide (c ≠ 2))
    || (decide (a = diagnosticGroup) && decide (c ≠ 3))

/-! ### Stamps (R141, R142) -/

/-- The stamps that a lane holds: in force, in grace, pending; 0 stands for none. -/
def LaneState.stamps (l : LaneState) : List Nat :=
  let pending := if l.roll.running then (l.roll.adopted.map (fun c => c.fields.stamp.toNat)).getD 0 else 0
  [l.stamp, l.roll.stampGrace, pending]

/-- R141: a frame of class 1, 2 or 3 passes the stamp check for forwarding (log 31: DEDUCED). -/
def LaneState.stampOk (l : LaneState) (f : LineFrame) : Bool :=
  if f.stamp = 0 then decide (f.cls ≠ 1) else l.stamps.contains f.stamp

/-! ### The drop reasons (R157) -/

/-- Reserved fields of a frame (code 10, R246). -/
def reservedField (line : LaneId) (f : LineFrame) : Bool :=
  if f.ether = 0x8808 then decide (numAt f.bytes 14 2 ≠ 1)
  else f.headerOk && (decide (f.flags % 16 ≠ 0) || decide (512 < f.pos)
    || decide (f.ether = 0x88B5 ∧ f.cls = 1 ∧ 1023 < f.number) || decide (f.ether = 0x88B5 ∧ f.cls = 2 ∧ 128 < f.number)
    || (decide (f.pos = 0) != decide (f.stamp = 0)) || (bitAt f.flags 4 && decide (f.cls ≠ 2))
    || (bitAt f.flags 6 != decide (line = .B)))

/-- R157: the reasons that the first bytes of a frame decide, in order. -/
def State.headDrop (s : State) (x : LaneId) (e : EndId) (f : LineFrame) (time : Nat) : Option Nat :=
  let l := s.lane x
  let p := l.port e
  let hdr := f.headerOk
  let reasons : List (Nat × Bool) := [
    (4, f.overClass),
    (5, !f.own && decide (f.ether ≠ 0x88F7 ∧ f.ether ≠ 0x8808)),
    (6, foreignAddress x f || (hdr && foreignForClass f)),
    (7, f.own && !hdr),
    (8, hdr && decide (numAt f.bytes 14 1 / 16 ≠ 1)),
    (9, hdr && (decide (4 ≤ f.cls) || decide (f.ether = 0x88B6 ∧ f.cls ≠ 3))),
    (10, reservedField x f),
    (12, decide (f.source = macAddress s.uid x)),
    (13, hdr && decide (f.cls ≠ 0) && !l.stampOk f && !bitAt f.flags 5),
    (14, hdr && decide (f.cls ≠ 0) && !l.stampOk f && bitAt f.flags 5),
    (15, f.isFlow && p.newLink),
    (16, f.isFlow && !l.roll.lateStart && !l.inWindow s.uid x time),
    (17, (f.isFlow || f.isMessage) && p.rateHeld)]
  (reasons.find? (fun r => r.2)).map Prod.fst

/-- R157: the first reason of a frame among a runt's and those that its first bytes decide; a frame with one is not
forwarded. -/
def State.earlyDrop (s : State) (x : LaneId) (e : EndId) (f : LineFrame) (time : Nat) : Option Nat :=
  if f.runt then some 3 else s.headDrop x e f time

/-- R157: the reasons that show only at the end of a frame. -/
def lateDrop (f : LineFrame) : Option Nat :=
  match f.fcs with
  | .lineError => some 0
  | .bad => some 1
  | .stomped => some 2
  | .good =>
    if 1536 < f.length then some 4
    else if f.headerOk &&
        (if f.ether = 0x88B5 ∧ f.cls = 1 then decide (f.length ≠ 34 + f.payload) else decide (f.length < 34 + f.payload))
    then some 11
    else none

/-- A frame that meets several reasons counts under the first of them. -/
def firstReason (a b : Option Nat) : Option Nat :=
  match a, b with
  | some m, some n => some (min m n)
  | some m, none => some m
  | none, r => r

/-! ### Reception counters (R158) -/

/-- The size bin of a length. -/
def sizeBin (n : Nat) : Nat :=
  if n ≤ 64 then 0x2102 else if n ≤ 127 then 0x2103 else if n ≤ 255 then 0x2104 else if n ≤ 511 then 0x2105
  else if n ≤ 1023 then 0x2106 else if n ≤ 1518 then 0x2107 else 0x2108

/-- The class counter of a frame; the class is read only from a header whose check passes (log 33: DEDUCED). -/
def classCounter (f : LineFrame) : Option Nat :=
  if f.ether = 0x88F7 then some 0x2110
  else if f.ether = 0x88B6 then some 0x2111
  else if f.headerOk && decide (f.ether = 0x88B5 ∧ f.cls ≤ 3) then some (0x210C + f.cls)
  else none

/-- R158: what a received frame counts at its port, before any drop: a runt only itself. A frame with a line error
inside counts no FCS error besides, whatever its FCS: the manual does not say (log 33: DEDUCED, 51: DEDUCED, 66: DESIGN
CHOICE). -/
def LaneState.countReceived (l : LaneState) (e : EndId) (f : LineFrame) : LaneState :=
  if f.runt then l.countPort e 0x2113
  else
    let l := (l.countPort e 0x2100).countPort e (sizeBin f.length)
    let l := l.countPort e (if f.dest = ones 48 then 0x210B else if isGroup f.dest then 0x210A else 0x2109)
    let l := match classCounter f with
      | some c => l.countPort e c
      | none => l
    let l := if f.fcs = .bad then l.countPort e 0x2112 else l
    if f.oversize then l.countPort e 0x2114 else l

/-- R125, R168: what the PCS and the RS-FEC of a port counted up to the end of a frame, inside and outside frames
(log 51: DEDUCED). -/
def LaneState.countFec (l : LaneState) (e : EndId) (now : Nat) (c : FecCount) : LaneState :=
  let l := ((l.countPortBy e 0x2115 c.symbols).countPortBy e 0x2116 c.corrected).countPortBy e 0x2117 c.uncorrected
  if (l.port e).isUp then l.updPort e (fun p => p.countUncorrected now c.uncorrected) else l

/-! ### The receive ring (R163 to R165) -/

/-- R163: buffers that a frame takes. -/
def buffersOf (payload : Nat) : Nat := (30 + payload + 255) / 256

/-- Free descriptors (entry 2206h). -/
def LaneState.ringFree (l : LaneState) : Nat := l.get 0x220600

/-- The free count dips to a value; its lowest is kept (entry 2207h). -/
def LaneState.ringDip (l : LaneState) (n : Nat) : LaneState := l.put 0x220700 (min n (l.get 0x220700))

/-- R163, R164: a frame that passed every check enters the ring, from its destination address to the end of its
payload; if the pool runs empty, its buffers return, and the reason is 19. -/
def LaneState.enterRing (l : LaneState) (e : EndId) (f : LineFrame) : Option Nat × LaneState :=
  let n := buffersOf f.payload
  if l.ringFree < n then (some 19, l.ringDip 0)
  else
    let l := { l with ring := l.ring ++ [slice f.bytes 0 (30 + f.payload)] }
    (none, ((l.put 0x220600 (l.ringFree - n)).ringDip (l.ringFree - n)).countPort e 0x211B)

/-! ### Delivery to the local port (R141, R148) -/

/-- A frame for the local port: unicast to this lane, or to a group that every lane accepts. -/
def State.forMe (s : State) (x : LaneId) (f : LineFrame) : Bool :=
  decide (f.dest = macAddress s.uid x) || isGroup f.dest

/-- R141: a class 2 or 3 frame without stamp is delivered only if it is unicast to the lane (log 33: DEDUCED). -/
def unstampedGroup (f : LineFrame) : Bool := f.headerOk && decide (f.cls ≠ 0) && decide (f.stamp = 0) && isGroup f.dest

/-- R163: the kinds of frames that use the receive ring. -/
def ringFrame (f : LineFrame) : Bool := f.headerOk && decide (f.cls = 2 ∨ f.cls = 3)

/-- The copy that a class 1 frame brings (R237); the publisher is that of the binding it comes under (R236). -/
def flowCopy (x : LaneId) (f : LineFrame) : FlowCopy where
  seq := numAt f.bytes 24 2
  active := bitAt f.flags 7
  line2 := decide (x = .B)
  uid := 0
  data := slice f.bytes 30 f.payload

/-- R163: the payload bytes of a frame that have arrived, as far as its header announces them. -/
def arrivedPayload (f : LineFrame) : Nat := min f.payload (f.bytes.length - 30)

/-- R163, R165: a frame with an error returns the buffers that its bytes had filled. -/
def State.returnsBuffers (s : State) (x : LaneId) (f : LineFrame) : State :=
  if ringFrame f && s.forMe x f && !unstampedGroup f then
    s.upd x (fun l => l.ringDip (l.ringFree - min l.ringFree (buffersOf (arrivedPayload f))))
  else s

/-- R147: a flow frame reaches its contexts if the bin of its address is set. -/
def State.deliverClass1 (s : State) (x : LaneId) (f : LineFrame) : Option Nat × State :=
  let l := s.lane x
  let grace := decide (f.stamp = l.roll.stampGrace ∧ f.stamp ≠ l.stamp)
  if !l.hashBins.contains (hashBin f.dest) then (some 18, s)
  else
    let r := s.deliverFlow x f.pos f.number grace (flowCopy x f)
    (if r.2 = 0 then none else some r.2, r.1)

/-- R147, R148, R163: a good frame reaches the local port; the answer is the reason that keeps it from there. -/
def State.deliverLocal (s : State) (x : LaneId) (e : EndId) (f : LineFrame) : Option Nat × State :=
  if f.isFlow then
    let r := s.deliverClass1 x f
    if r.1.isSome then r else (none, r.2.upd x (fun l => l.countPort e 0x211B))
  else if !s.forMe x f || unstampedGroup f then (none, s)
  else if ringFrame f then
    let r := (s.lane x).enterRing e f
    (r.1, s.setLane x r.2)
  else (none, s.upd x (fun l => l.countPort e 0x211B))

/-! ### Forwarding (R148, R150 to R156) -/

/-- R148: a frame that the fabric carries on to the other port: the Roll, peer delay and PAUSE groups and unicast to
this lane end here, and train time sends its own (R285). -/
def State.forwards (s : State) (x : LaneId) (f : LineFrame) : Bool :=
  decide (f.dest ≠ macAddress s.uid x ∧ f.dest ≠ rollGroup ∧ f.dest ≠ delayGroup ∧ f.dest ≠ pauseGroup ∧ f.dest ≠ timeGroup
    ∧ f.ether ≠ 0x8808)

/-- Wire time of a frame, preamble and 28-byte gap included, at a rate code (R153). -/
def wireTime (rate length : Nat) : Nat := (length + 8 + 28) * byteTime rate

/-- A frame leaves a port, as octets and FCS; a forwarded one counts so. -/
def LaneState.sendOut (l : LaneState) (e : EndId) (forwarded : Bool) (bytes : List Byte) (fcs : Fcs) : LaneState :=
  let l := (l.countPort e 0x2101).updPort e (fun p => { p with sent := some ⟨bytes, fcs, ⟨0, 0, 0⟩⟩ })
  if forwarded then l.countPort e 0x211A else l

/-- R152, R153, R156: an unscheduled frame of a kind and a length may start on an egress port at its cut-through instant
(log 33: DEDUCED). -/
def State.cutThrough (s : State) (x : LaneId) (e : EndId) (kind : SendKind) (length time : Nat) (idle : Bool) : Bool :=
  let l := s.lane x
  let p := l.port e
  idle && p.isUp && !p.rateHeld && !(l.port e.other).rateHeld && !(decide (p.paused ≠ 0) && pausable kind)
    && l.fitsGap s.uid x time (wireTime p.rate length)

/-- The per-hop forwarding latency of a rate code in ns (R103, R106). -/
def hopLatency : Nat → Nat
  | 0 => 2000
  | 1 => 3400
  | 2 => 6200
  | _ => 14600

/-- R106, R150: when the cut-through egress of a frame would begin whose decision point fell at a train time: the hop
latency after the first bit of its destination address. -/
def cutStart (rate : Nat) (f : LineFrame) (time : Nat) : Nat :=
  time + hopLatency rate - (if f.ether = 0x88F7 ∨ f.ether = 0x8808 then 14 else 30) * byteTime rate

/-- A frame goes out of port e cut-through: every flow, and another frame that may start when its egress would begin (R152,
R153). -/
def State.goesThrough (s : State) (x : LaneId) (e : EndId) (f : LineFrame) (time : Nat) (idle : Bool) : Bool :=
  f.isFlow ||
    s.cutThrough x e (sendKind (.forwarded f)) f.length (cutStart ((s.lane x).port e.other).rate f time) idle

/-- R148, R152, R154, R156: what discards a frame at the egress where it was to leave. -/
def State.egressDrop (s : State) (x : LaneId) (e : EndId) (f : LineFrame) (time : Nat) (idle : Bool) : Option Nat :=
  let p := (s.lane x).port e
  if !p.isUp then some 21
  else if f.isFlow && p.newLink then some 15
  else if (f.isFlow || f.isMessage) && p.rateHeld then some 17
  else if s.goesThrough x e f time idle || (lateDrop f).isSome then none
  else p.refusesFrame (.forwarded f)

/-- R148, R151 to R154: forwarding by port e of a frame that nothing discards there. One that goes cut-through and
ends with an error leaves with a stomped FCS; another frame is stored whole, and queued if it is free of errors
(log 33: DEDUCED). -/
def State.forward (s : State) (x : LaneId) (e : EndId) (f : LineFrame) (time : Nat) (idle : Bool) : State :=
  if s.goesThrough x e f time idle then
    s.upd x (fun l => l.sendOut e true f.bytes (if (lateDrop f).isSome then .stomped else .good))
  else if (lateDrop f).isSome then s
  else s.upd x (fun l => l.queueFrame e (.forwarded f))

/-- A port that receives: up, or listening (R167). -/
def Port.hears (p : Port) : Bool := p.isUp || decide (p.step = .listening)

/-- R157: a frame that meets several reasons counts once, under the first of them: an arrival reason at the port of
arrival, an egress reason where the frame was to leave. -/
def LaneState.countFirst (l : LaneState) (e : EndId) (arrival egress : Option Nat) : LaneState :=
  match arrival, egress with
  | some a, some b => if b < a then l.countDrop e.other b else l.countDrop e a
  | some a, none => l.countDrop e a
  | none, some b => l.countDrop e.other b
  | none, none => l

/-- The part of a frame that the local port takes: a good frame is delivered, one with an error returns its buffers
(R165). -/
def State.takeLocal (s : State) (x : LaneId) (e : EndId) (f : LineFrame) : Option Nat × State :=
  if (lateDrop f).isSome then (none, s.returnsBuffers x f) else s.deliverLocal x e f

/-- A frame is judged as a whole: received, dropped under its first reason, delivered, forwarded. A runt that nothing else
drops had begun to fill buffers (R165) (log 31: DEDUCED). -/
def State.judgeFrame (s : State) (x : LaneId) (e : EndId) (f : LineFrame) (time : Nat) (idle : Bool) : State :=
  let head := s.headDrop x e f time
  let early := s.earlyDrop x e f time
  let arrival := firstReason early (lateDrop f)
  let s := s.upd x (fun l => (l.countReceived e f).countFec e s.clock f.fec)
  if !((s.lane x).port e).isUp then s.upd x (fun l => l.countFirst e arrival none)
  else if early.isSome then
    (if f.runt && head.isNone then s.returnsBuffers x f else s).upd x (fun l => l.countFirst e arrival none)
  else
    let s := s.upd x (fun l => l.updPort e (fun p => { p with judged := some f }))
    let out := if s.forwards x f then s.egressDrop x e.other f time idle else none
    let r := s.takeLocal x e f
    let s := if s.forwards x f && out.isNone then r.2.forward x e.other f time idle else r.2
    s.upd x (fun l => l.countFirst e (firstReason arrival r.1) out)

/-- FRAME_DECISION_POINT (R148, R150): a frame arrives whose decision point falls at a train time of the lane; `idle` says
whether the other port is idle when a cut-through egress would begin. -/
def doFrameDecisionPoint (x : LaneId) (e : EndId) (f : LineFrame) (time : BitVec 64) (idle : Bool) (s : State) : State :=
  if ((s.lane x).port e).hears && (s.lane x).ready then s.judgeFrame x e f time.toNat idle else s

/-- The end of a frame that its decision point has judged is told. -/
def LaneState.endJudged (l : LaneState) (e : EndId) : LaneState := l.updPort e (fun p => { p with judged := none })

/-- STOMP (R151): a frame whose egress has begun ends with an error: it counts where it entered, and leaves the other
port with a stomped FCS. Of a frame that FRAME_DECISION_POINT has judged, with its end, all that has happened (log 63:
DEDUCED). -/
def doStomp (x : LaneId) (e : EndId) (f : LineFrame) (s : State) : State :=
  match lateDrop f with
  | none => s
  | some c =>
    if !((s.lane x).port e).isUp || !((s.lane x).port e.other).isUp || !(s.lane x).ready || !s.forwards x f then s
    else if ((s.lane x).port e).judged = some f then s.upd x (fun l => l.endJudged e)
    else
      let s := s.upd x (fun l => (l.countReceived e f).countFec e s.clock f.fec)
      (s.returnsBuffers x f).upd x (fun l => (l.countDrop e c).sendOut e.other true f.bytes .stomped)

/-! ### Frames from the local port (R149) and from the queue (R153 to R155) -/

/-- LOCAL_PORT_SEND (R137, R143, R149): the local port sends a frame that firmware gives it, for one node or, with none,
for all; a Roll frame is for all. Header, address and ports are the lane's. -/
def doLocalPortSend (x : LaneId) (f : LocalFrame) (node : Option (BitVec 64)) (s : State) : State :=
  if (s.lane x).ready then
    s.upd x (fun l => match f with
      | .roll r => l.sendRoll none r
      | .msg m => l.sendMessage x (node.map BitVec.toNat) ((node.map (fun u => l.positionOf u.toNat)).getD 0) m
      | .echo six ident data => l.sendEcho x (node.map BitVec.toNat) six ident data)
  else s

/-- R154: the place in a queue of the frame that goes next: by kind, within a kind the first; a kind whose first frame is
paused or does not fit waits. -/
def LaneState.nextSent (l : LaneState) (uid : Nat) (x : LaneId) (e : EndId) (time : Nat) : Option (Nat × OutFrame) :=
  let p := l.port e
  let places := indexed 0 p.queue
  let heads := [SendKind.pause, .time, .roll, .message, .echo].filterMap (fun k => places.find? (fun q => sendKind q.2 = k))
  heads.find? (fun q =>
    !(decide (p.paused ≠ 0) && pausable (sendKind q.2)) && l.fitsGap uid x time (wireTime p.rate (frameLength q.2)))

/-- R284 to R286: a frame as it leaves at a train time: an own Sync is stamped, a Sync that is passed on takes the delay
of its port of arrival and its residence, the answer to a Pdelay_Req its turnaround. -/
def LaneState.stampOut (l : LaneState) (e : EndId) (time : Nat) : OutFrame → OutFrame
  | .sync m => .sync { m with origin := BitVec.ofNat 64 time }
  | .syncOn m ingress => .sync (l.forwardedSync e.other m ((time : Int) - ingress))
  | .pdelayOn port seqId ingress clock asker => .pdelayResp port seqId ((time : Int) - ingress).toNat clock asker
  | f => f

/-- A frame that came in by the other port. -/
def isForwarded : OutFrame → Bool
  | .forwarded _ => true
  | .syncOn _ _ => true
  | _ => false

/-- A frame that counts as PAUSE sent (entry 2119h). -/
def isPause : OutFrame → Bool
  | .pause _ => true
  | _ => false

/-- R156: the messages that wait for a link which is rate-held are dropped there. -/
def LaneState.dropHeld (l : LaneState) (e : EndId) : LaneState :=
  let p := l.port e
  let held (f : OutFrame) : Bool := p.rateHeld && decide (sendKind f = .message)
  let n := (p.queue.filter held).length
  (l.updPort e (fun p => { p with queue := p.queue.filter (fun f => !held f) })).countPortBy e 0x2131 n

/-- The frame at a place of a queue leaves at a train time (R134, R154, R284, R285). A frame of the lane itself that waited
carries the position and stamp of the moment at which it was queued, the active and Roll-time flags of this one: the manual
does not say which moment counts (R137, R138, log 64: DESIGN CHOICE). -/
def State.sendQueued (s : State) (x : LaneId) (e : EndId) (time i : Nat) (f : OutFrame) : State :=
  s.upd x (fun l =>
    let bytes := outBytes s.uid x (decide (l.mode = .possession)) l.roll.running (l.stampOut e time f)
    let l := l.updPort e (fun p => { p with queue := p.queue.eraseIdx i })
    let l := l.sendOut e (isForwarded f) bytes .good
    if isPause f then l.countPort e 0x2119 else l)

/-- UNSCHEDULED_EGRESS_START (R153, R154, R156): on an idle port, the next queued frame starts at a train time of the lane
(log 33: DEDUCED). -/
def doUnscheduledEgressStart (x : LaneId) (e : EndId) (time : BitVec 64) (s : State) : State :=
  if !((s.lane x).port e).isUp then s
  else
    let s := s.upd x (fun l => l.dropHeld e)
    match (s.lane x).nextSent s.uid x e time.toNat with
    | none => s
    | some (i, f) => s.sendQueued x e time.toNat i f

/-! ### Train time's frames at the ports (R281 to R286) -/

/-- R285: a Sync goes on by port e: cut-through if it may start, else through the queue. -/
def State.passSync (s : State) (x : LaneId) (e : EndId) (m : SyncMsg) (ingress : Int) (egress : Option Int) : State :=
  match egress.filter (fun t => s.cutThrough x e .time (frameLength (.sync m)) t.toNat true) with
  | some t => s.upd x (fun l => l.sendOut e true (outBytes s.uid x (decide (l.mode = .possession)) l.roll.running
      (l.stampOut e t.toNat (.syncOn m ingress))) .good)
  | none => s.upd x (fun l => l.emit e (.syncOn m ingress))

/-- SYNC_RECEIVED (R281 to R285, R288): a profile message other than an answer of the peer delay; `egress` is the
instant at which it would leave cut-through, none where the other port is not idle then; one with a reserved flag set is
discarded as one without the TLV is (R11, R283, log 35: DEDUCED). -/
def doSyncReceived (x : LaneId) (e : EndId) (m : SyncMsg) (ingress : Int) (egress : Option Int) (s : State) : State :=
  let l := s.lane x
  if !l.ready || !(l.port e).isUp then s
  else if !inProfile m.head then s.inc x 0x401200
  else if m.head.messageType ≠ 0 then s
  else if !m.tlv || decide (m.reserved ≠ 0) then s.inc x 0x401200
  else if !l.delayValid e then s.inc x 0x400F00
  else (s.passSync x e.other m ingress egress).judgeSync x e m ingress

/-- PDELAY_REQ (R286): an up port whose next scheduled window is 100 µs away or more sends a request and waits for its
answer, beside those that it waits for already. -/
def doPdelayReq (x : LaneId) (e : EndId) (s : State) : State :=
  let l := s.lane x
  if (l.port e).isUp && l.ready && l.fitsGap s.uid x l.trainTime 100000 then
    s.upd x (fun l =>
      let n := (l.port e).pdelaySeq
      (l.emit e (.pdelayReq (BitVec.ofNat 16 (portNumber x e)) (BitVec.ofNat 16 n))).updPort e (fun p => { p with
        pdelayWaits := p.pdelayWaits ++ [n], pdelaySeq := (n + 1) % 65536 }))
  else s

/-- GATE_OVERRUN (R155): a scheduled frame waits behind an unscheduled one. -/
def doGateOverrun (x : LaneId) (e : EndId) (s : State) : State :=
  if ((s.lane x).port e).isUp then s.upd x (fun l => l.countPort e 0x211C) else s

/-! ### PAUSE (R160, R162) -/

/-- PAUSE_RECEIVED (R160): counted, and honoured on an up port unless entry 2205h is 0 (log 33: DEDUCED). -/
def doPauseReceived (x : LaneId) (e : EndId) (quanta : BitVec 16) (s : State) : State :=
  let l := s.lane x
  if !(l.port e).hears || !l.ready then s
  else s.upd x (fun l =>
    let l := l.countPort e 0x2118
    if l.get 0x220500 = 1 ∧ (l.port e).isUp then l.updPort e (fun p => { p with paused := quanta.toNat }) else l)

/-- PAUSE_EXPIRY (R160): the pause time has run out. -/
def doPauseExpiry (x : LaneId) (e : EndId) (s : State) : State := s.upd x (fun l => l.updPort e (fun p => { p with paused := 0 }))

/-- A PAUSE of this lane out of a port (R162). -/
def LaneState.sendPause (l : LaneState) (e : EndId) (quanta : Nat) : LaneState := l.emit e (.pause (BitVec.ofNat 16 quanta))

/-- PAUSE_SEND (R162): the free descriptors have fallen below the pause threshold. -/
def doPauseSend (x : LaneId) (s : State) : State :=
  let l := s.lane x
  if l.ready && decide (l.ringFree < l.get 0x220200) then
    s.upd x (fun l => [EndId.e1, EndId.e2].foldl (fun l e =>
      if (l.port e).isUp && !(l.port e).sending then
        (l.sendPause e (l.get 0x220400)).updPort e (fun p => { p with sending := true })
      else l) l)
  else s

/-- PAUSE_REPEAT (R162): half the time has passed and the free count is still below the release threshold. -/
def doPauseRepeat (x : LaneId) (e : EndId) (s : State) : State :=
  let l := s.lane x
  if (l.port e).sending && (l.port e).isUp && decide (l.ringFree < l.get 0x220300) then
    s.upd x (fun l => l.sendPause e (l.get 0x220400))
  else s

/-- PAUSE_RELEASE (R162): the free count has reached the release threshold. -/
def doPauseRelease (x : LaneId) (s : State) : State :=
  if (s.lane x).get 0x220300 ≤ (s.lane x).ringFree then
    s.upd x (fun l => [EndId.e1, EndId.e2].foldl (fun l e =>
      if (l.port e).sending then (l.sendPause e 0).updPort e (fun p => { p with sending := false }) else l) l)
  else s

/-! ### The ring as commands (R164, R165) -/

/-- RECEIVE_NO_BUFFER (R164): a frame that needs more buffers than the pool holds is judged: it goes on, and its delivery is
dropped. Of a frame that FRAME_DECISION_POINT has judged, all that has happened (log 63: DEDUCED). -/
def doReceiveNoBuffer (x : LaneId) (e : EndId) (a : Arrival) (s : State) : State :=
  let l := s.lane x
  let f := a.frame
  if !(l.port e).isUp || !l.ready then s
  else if (l.port e).judged = some f then s.upd x (fun l => l.endJudged e)
  else if ringFrame f && decide (l.ringFree < buffersOf f.payload) then
    (s.judgeFrame x e f a.time.toNat a.idle).upd x (fun l => l.endJudged e)
  else s

/-- RING_CHAIN_RETURN (R165): firmware returns its oldest chain to the pool. -/
def doRingChainReturn (x : LaneId) (s : State) : State :=
  match (s.lane x).ring with
  | [] => s
  | c :: rest => s.upd x (fun l => { l.put 0x220600 (l.ringFree + (c.length + 255) / 256) with ring := rest })

def execFrameDecisionPoint (x : LaneId) (e : EndId) (f : LineFrame) (time : BitVec 64) (idle : Bool) (s : State) : Out :=
  .next (doFrameDecisionPoint x e f time idle s)
def execStomp (x : LaneId) (e : EndId) (f : LineFrame) (s : State) : Out := .next (doStomp x e f s)
def execLocalPortSend (x : LaneId) (f : LocalFrame) (node : Option (BitVec 64)) (s : State) : Out :=
  .next (doLocalPortSend x f node s)
def execUnscheduledEgressStart (x : LaneId) (e : EndId) (time : BitVec 64) (s : State) : Out :=
  .next (doUnscheduledEgressStart x e time s)
def execGateOverrun (x : LaneId) (e : EndId) (s : State) : Out := .next (doGateOverrun x e s)
def execPauseReceived (x : LaneId) (e : EndId) (quanta : BitVec 16) (s : State) : Out :=
  .next (doPauseReceived x e quanta s)
def execPauseExpiry (x : LaneId) (e : EndId) (s : State) : Out := .next (doPauseExpiry x e s)
def execPauseSend (x : LaneId) (s : State) : Out := .next (doPauseSend x s)
def execPauseRepeat (x : LaneId) (e : EndId) (s : State) : Out := .next (doPauseRepeat x e s)
def execPauseRelease (x : LaneId) (s : State) : Out := .next (doPauseRelease x s)
def execReceiveNoBuffer (x : LaneId) (e : EndId) (a : Arrival) (s : State) : Out := .next (doReceiveNoBuffer x e a s)
def execSyncReceived (x : LaneId) (e : EndId) (m : SyncMsg) (ingress : Int) (egress : Option Int) (s : State) : Out :=
  .next (doSyncReceived x e m ingress egress s)
def execPdelayReq (x : LaneId) (e : EndId) (s : State) : Out := .next (doPdelayReq x e s)
def execRingChainReturn (x : LaneId) (s : State) : Out := .next (doRingChainReturn x s)

end Sys2Proof.Machine
end

