-- ==== Sys2Proof/Machine/Link.lean ====
section
/-! DEFINITION. The end of an access through a remote window (R389 to R394). -/

namespace Sys2Proof.Machine

/-! ### The end of an access through a window (R389 to R394) -/

/-- Type of the entry that an offset of a dictionary window names (R389): subindex 00h of a record is a U8. -/
def State.windowEntry (s : State) (w off : Nat) : Option (Nat × Nat × Nat) :=
  let index := s.mget (winKey w 7) * 0x4000 + off / 1024
  let sub := off % 1024 / 4
  if sub = 0 ∧ (highestSub index).isSome then some (index, 0, 1)
  else match entryRow index sub with
    | some r => if r.ty = .octets then none else some (index, sub, tyBytes r.ty)
    | none => none

/-- R383, R389, R390: the words of a read's data, with the high-word latch loaded by a 64-bit entry. -/
def State.windowWords (s : State) (w n : Nat) (data : List Byte) : List Nat × State :=
  if s.mget (winKey w 6) = 1 then
    let v := fromBytes data
    ([v % 2 ^ 32], if data.length = 8 then s.mput 0x590002 (v / 2 ^ 32) else s)
  else (wordsOf (s.dataInvariant w) n data, s)

/-- R387, R393: a read of a window answers its words; one that ran to its end may start a prefetch. -/
def State.windowRead (s : State) (w : Nat) (r : HostReq) (data : List Byte) : State :=
  let n := s.wordsInside r
  let (ws, s) := s.windowWords w n data
  let s := s.updWin w (fun v => { v with lastRead := some (r.addr % 0x1000000, n) })
  if n < r.words then (s.respond 1 n ws abAddress).minc (winKey w 15) else s.respond 0 n ws 0

/-- The transaction of window w has ended with a code and data: it ends the access that the window runs, or
forms the prefetched block (R391, R393, R394). -/
def State.windowDone (s : State) (w code : Nat) (data : List Byte) : State :=
  let v := s.win w
  match v.active with
  | some r =>
    let s := s.updWin w (fun v => { v with active := none, posted := false })
    if v.posted then
      let n := s.wordsInside r
      let s := if r.op = 1 ∧ code = 0 then s.updWin w (fun v => { v with lastRead := some (r.addr % 0x1000000, n) }) else s
      s.queuedDone w r (if code = 0 ∧ r.op ≠ 7 ∧ n < r.words then abAddress else code)
    else if code ≠ 0 then (s.respond 1 0 [] code).minc (winKey w 15)
    else if r.op = 1 then s.windowRead w r data
    else if r.op = 5 then
      let (ws, s) := s.windowWords w (s.wordsInside r) data
      s.respond 0 ws.length ws 0
    else
      let n := s.wordsInside r
      if r.op ≠ 7 ∧ n < r.words then (s.respond 1 n [] abAddress).minc (winKey w 15)
      else s.respond 0 (if r.op = 7 then 0 else n) [] 0
  | none =>
    match v.prefetching with
    | none => s
    | some (off, _) =>
      let s := s.updWin w (fun v => { v with prefetching := none, block := if code = 0 then some (off, data) else none })
      if code = abPrefetch then s.minc (winKey w 18) else s

end Sys2Proof.Machine
end

