-- ==== Sys2Proof/Machine/Sessions.lean ====
section
/-! DEFINITION. Messages at the requester: sessions, their frames, retries and ends (R246 to R260, R271). -/

namespace Sys2Proof.Machine

/-! ### Operations (R250) -/

/-- Operations whose requests carry data: the acknowledgements of these go to the requester (R258) (log 38: DEDUCED). -/
def isWriteOp (op : Nat) : Bool := decide (op = 2 ∨ op = 4 ∨ op = 6 ∨ op = 8 ∨ op = 16)

/-- Operations whose responses carry data (log 38: DEDUCED). -/
def isReadOp (op : Nat) : Bool := decide (op = 1 ∨ op = 3 ∨ op = 5 ∨ op = 7)

/-- Releases of a lock, which carry no data and have Length 0. -/
def isReleaseOp (op : Nat) : Bool := decide (op = 9 ∨ op = 10)

/-- The operations that a request may name. -/
def knownOp (op : Nat) : Bool := isWriteOp op || isReadOp op || isReleaseOp op

/-- R250: a frame whose subheader is whole, whose kind is assigned, whose p matches its kind and operation, and whose
data does not reach beyond its Length; the reserved bits of Selection are 0, and its lane selector is reserved in no
frame but a request, which has an answer (R11, R249, R250). A request with a reserved operation code has that answer
also where its data reaches beyond its Length: the manual gives both and no order (log 66: DESIGN CHOICE). -/
def msgOk (m : MsgFrame) : Bool :=
  let op := m.op.toNat
  let n := m.data.length
  let inside := decide (n ≤ 1024 ∧ m.offset.toNat + n ≤ m.length.toNat)
  if m.short ∨ m.selection.toNat % 16 ≠ 0 ∨ (m.kind ≠ 1 ∧ m.selection.toNat / 64 = 3) then false
  else if m.kind = 1 then
    if isWriteOp op then inside
    else if isReadOp op ∨ isReleaseOp op then decide (n = 0)
    else decide (n ≤ 1024)
  else if m.kind = 2 then if isReadOp op ∧ m.status = 0 then inside else decide (n = 0)
  else if m.kind = 3 ∨ m.kind = 4 then decide (n = 0)
  else decide (m.kind = 5 ∧ op = 0x20 ∧ n = 8 ∧ m.length = 8)

/-- Code of a lane selector in subheader byte 2 (R249), none for the reserved one. -/
def selOf (selection : Nat) : Option Sel :=
  match selection / 64 with
  | 0 => some .acting
  | 1 => some (.lane .A)
  | 2 => some (.lane .B)
  | _ => none

/-! ### Segments (R257) -/

/-- Held segments beyond a gap that the bytes now held without a gap reach. -/
def absorb : Nat → List Byte → List (Nat × List Byte) → List Byte × List (Nat × List Byte) × Nat
  | 0, held, parts => (held, parts, 0)
  | k + 1, held, parts =>
    match parts.find? (fun p => decide (p.1 = held.length)) with
    | none => (held, parts, 0)
    | some p =>
      let (h, q, n) := absorb k (held ++ p.2) (parts.filter (fun q => decide (q.1 ≠ p.1)))
      (h, q, n + 1)

/-- A segment at an offset: the bytes held without a gap, the segments beyond a gap, and how many segments came to be
held without a gap. One that is held already is discarded. -/
def takeSegment (held : List Byte) (parts : List (Nat × List Byte)) (off : Nat) (d : List Byte) :
    List Byte × List (Nat × List Byte) × Nat :=
  if off < held.length ∨ d = [] ∨ parts.any (fun p => decide (p.1 = off)) then (held, parts, 0)
  else if off = held.length then
    let (h, q, n) := absorb parts.length (held ++ d) parts
    (h, q, n + 1)
  else (held, parts ++ [(off, d)], 0)

/-- The segments of a transfer from an offset on, at most 8 (R257): offset, bytes, and whether it is the last. -/
def segmentsFrom (data : List Byte) (off : Nat) : List (Nat × List Byte × Bool) :=
  ((List.range 8).map (fun i => off + 1024 * i)).filterMap (fun o =>
    if data.length ≤ o then none else some (o, slice data o 1024, decide (data.length ≤ o + 1024)))

/-! ### Sessions (R246, R247) -/

/-- A register of session n. -/
def sesKey (n sub : Nat) : Nat := key (0x3800 + n) sub

/-- A session in a lane. -/
def LaneState.session (l : LaneState) (n : Nat) : Session := lookupD .idle n l.msg.sessions

/-- A session changed in a lane (log 38: DEDUCED). -/
def LaneState.updSession (l : LaneState) (n : Nat) (f : Session → Session) : LaneState :=
  { l with msg := { l.msg with sessions := changeAt .idle n f l.msg.sessions } }

/-- A transaction is open (R271). -/
def Session.isOpen (k : Session) : Bool := decide (k.state = 1 ∨ k.state = 2)

/-- The lane whose copy of session n is read: the one in possession; while no lane holds it, both lanes keep their mirrored
copies, of which a lane that has reset has lost its own (R260). -/
def State.sessionLane (s : State) (n : Nat) : LaneId :=
  match s.holder with
  | some x => x
  | none => if !(s.laneA.session n).isOpen && (s.laneB.session n).isOpen then .B else .A

/-- Session n of the node. -/
def State.session (s : State) (n : Nat) : Session := (s.lane (s.sessionLane n)).session n

/-- A session changed at the lane in possession; while no lane holds it, in the open copies, or in both where none is
open. -/
def State.updSession (s : State) (n : Nat) (f : Session → Session) : State :=
  match s.holder with
  | some x => s.upd x (fun l => l.updSession n f)
  | none =>
    let idle := !(s.session n).isOpen
    s.updBoth (fun l => if idle || (l.session n).isOpen then l.updSession n f else l)

/-- R247, R252, R254: a message frame for a node at a position goes out of the lane in possession, and through the
mirror out of the standby, each to the node's address on its own line (R143); the active flag is the sending lane's
(log 38: DEDUCED). -/
def State.sendMsg (s : State) (uid position : Nat) (f : MsgFrame) : State :=
  match s.holder with
  | none => s
  | some x =>
    let s := s.upd x (fun l => l.sendMessage x (some uid) position f)
    let p := s.lane x.peer
    if p.ready && p.poss.mirrorUp then s.upd x.peer (fun l => l.sendMessage x.peer (some uid) position f) else s

/-- A frame of session n (R249). -/
def State.sessionFrame (s : State) (n : Nat) (k : Session) (kind offset : Nat) (data : List Byte) (last : Bool) : MsgFrame :=
  let l := s.lane (s.holder.getD .A)
  { srcUid := BitVec.ofNat 64 s.uid
    srcPos := BitVec.ofNat 16 l.position
    stamp := BitVec.ofNat 32 l.sentStamp
    session := BitVec.ofNat 16 n
    seq := BitVec.ofNat 16 k.seq
    lastSeg := last
    kind := BitVec.ofNat 8 kind
    op := BitVec.ofNat 8 k.op
    selection := BitVec.ofNat 8 (k.sel * 64 + b2n k.byPosition * 32 + b2n k.prefetch * 16)
    attempt := BitVec.ofNat 8 k.attempt
    target := BitVec.ofNat 64 k.target
    transaction := BitVec.ofNat 32 k.transaction
    object := BitVec.ofNat 32 k.object
    offset := BitVec.ofNat 32 offset
    length := BitVec.ofNat 32 k.length
    status := 0
    data := data }

/-- R252: the position to which a session sends: by position one that exists, by UID the member's, 0 from a node
that is not numbered. -/
def State.resolveTarget (s : State) (k : Session) : Option Nat :=
  let l := s.lane (s.holder.getD .A)
  if k.byPosition then if l.roll.directory.any (fun d => decide (d.pos.toNat = k.target)) then some k.target else none
  else match l.roll.directory.find? (fun d => decide (d.uid.toNat = k.target)) with
    | some d => some d.pos.toNat
    | none => if l.position = 0 then some 0 else none

/-- The node UID to which a session sends, and from which its answers come. -/
def State.answerUid (s : State) (k : Session) : Nat :=
  if k.byPosition then
    (((s.lane (s.holder.getD .A)).roll.directory.find? (fun d => decide (d.pos.toNat = k.target))).map
      (fun d => d.uid.toNat)).getD 0
  else k.target

/-- A session's frame is sent, with the next sequence number of the session (R137). -/
def State.sendSession (s : State) (n position kind offset : Nat) (data : List Byte) (last : Bool) : State :=
  let s := s.updSession n (fun k => { k with seq := (k.seq + 1) % 65536 })
  let k := s.session n
  s.sendMsg (s.answerUid k) position (s.sessionFrame n k kind offset data last)

/-- A session ends: completed with code 0, aborted otherwise; a window's access ends with it. -/
def State.endSession (s : State) (n code : Nat) : State :=
  let s := s.updSession n (fun k => { k with state := if code = 0 then 3 else 4 })
  let s := s.putNode (sesKey n 12) code
  if n < 16 then s.windowDone n code (s.session n).data else s

/-- The frames of a sending from the last acknowledged offset on (R257, R260). -/
def State.sendRequest (s : State) (n position : Nat) : State :=
  let k := s.session n
  let segs := if isWriteOp k.op then segmentsFrom k.data k.acked else []
  let s := if segs.isEmpty then s.sendSession n position 1 k.acked [] true
    else segs.foldl (fun s g => s.sendSession n position 1 g.1 g.2.1 g.2.2) s
  s.updSession n (fun k => { k with state := if isWriteOp k.op && decide (k.acked + 8192 < k.length) then 1 else 2 })

/-- R252, R260: a sending falls due. Without a lane in possession it counts as made; a target that does not resolve
ends the session. -/
def State.trySend (s : State) (n : Nat) : State :=
  match s.holder with
  | none => s.updSession n (fun k => { k with state := 2 })
  | some _ =>
    match s.resolveTarget (s.session n) with
    | none => s.endSession n abTarget
    | some p => s.sendRequest n p

/-- R248: a new transaction of a session, and its first sending. -/
def State.openTransaction (s : State) (n : Nat) (f : Session → Session) : State :=
  let s := s.updSession n (fun k =>
    { f k with
      state := 1, transaction := (k.transaction + 1) % 2 ^ 32, attempt := 0, acked := 0, parts := []
      sinceAck := 0, taken := none })
  s.trySend n

/-- R259, R260: a cancel goes to the target of a session, if a lane holds possession and the target resolves. -/
def State.sendCancel (s : State) (n : Nat) : State :=
  match s.holder, s.resolveTarget (s.session n) with
  | some _, some p => s.sendSession n p 4 0 [] true
  | _, _ => s

/-- R260, R391: the session ends with "no response" and sends one cancel. -/
def State.noResponse (s : State) (n : Nat) : State :=
  let k := s.session n
  let s := if n < 16 ∧ (s.win n).active.isSome then s.updWin n (fun v => { v with expired := (k.transaction, k.taken) :: v.expired })
    else s
  let s := s.putNode (sesKey n 16) (countUp (sesKey n 16) (s.get (s.holder.getD .A) (sesKey n 16)))
  (s.sendCancel n).endSession n abNoResponse

/-- R259, R393: an open prefetch of a window is cancelled. -/
def State.cancelPrefetch (s : State) (w : Nat) : State :=
  match (s.win w).prefetching with
  | none => s
  | some _ =>
    let s := s.updWin w (fun v => { v with prefetching := none })
    let s := s.sendCancel w
    s.updSession w (fun k => { k with state := 4 })

/-! ### SESSION_START -/

/-- R246: the path that starts a session. -/
def sessionPath (n : Nat) (p : Path) : Bool :=
  match p with
  | .host => decide (16 ≤ n ∧ n ≤ 111)
  | .service _ => decide (112 ≤ n ∧ n ≤ 127)
  | _ => false

/-- The transaction that a session's entries describe (R271). Data beyond what was written reads 0. -/
def LaneState.describedTransaction (l : LaneState) (n : Nat) (k : Session) : Session :=
  let op := l.get (sesKey n 6)
  let len := if isReleaseOp op then 0 else l.get (sesKey n 8)
  let pos := l.get (sesKey n 4)
  { k with
    op := op, sel := l.get (sesKey n 5), byPosition := decide (pos ≠ 0)
    target := if pos ≠ 0 then pos else l.get (sesKey n 3)
    object := l.get (sesKey n 7), length := len, prefetch := false
    data := if isReadOp op then [] else (k.data ++ List.replicate len 0).take len }

/-- SESSION_START (R246, R260, R271): entry 3800h + s:0Bh, which is module-wide. Sessions of remote windows are read
only here. While no lane holds possession the transaction starts, and its sending counts as made. -/
def doSessionStart (acc : Acc) (n : Fin 128) (v : Byte) (s : State) : State :=
  let y := s.sessionReach true
  if n.val < 16 then s.commandAt y acc (0x3800 + n.val) 11 1 (fun _ => true) true (fun _ => s.abort abReadOnly)
  else s.commandAt y acc (0x3800 + n.val) 11 1 (fun _ => sessionPath n.val acc.path && !(s.session n.val).isOpen)
    (decide (v.toNat = 1)) (fun x => (s.openTransaction n.val ((s.lane x).describedTransaction n.val)).answer 0)

/-! ### Responses and acknowledgements at the requester (R254, R257, R258, R391) -/

/-- A lane that receives a frame for a session passes it to the lane in possession over the mirror (R254). -/
def State.reachesSession (s : State) (x : LaneId) : Bool :=
  match s.holder with
  | none => false
  | some h => (s.lane x).ready && (decide (h = x) || (s.lane h).poss.mirrorUp)

/-- The frame belongs to the session's open transaction (R248, R254). -/
def State.answers (s : State) (k : Session) (m : MsgFrame) : Bool :=
  k.isOpen && decide (m.transaction.toNat = k.transaction) && decide (m.op.toNat = k.op)
    && decide (m.srcUid.toNat = s.answerUid k)

/-- A frame newer than the last one taken from the target (R254). -/
def Session.isNew (k : Session) (m : MsgFrame) : Bool := k.taken.all (fun t => newer16 m.seq.toNat t)

/-- R257, R258: a segment of a read's result: acknowledged after every eighth, and at the end. -/
def State.readSegment (s : State) (n : Nat) (m : MsgFrame) : State :=
  let k := s.session n
  let (held, parts, got) := takeSegment k.data k.parts m.offset.toNat m.data
  let due := decide (8 ≤ k.sinceAck + got)
  let s := s.updSession n (fun k => { k with
    data := held, parts := parts, sinceAck := (k.sinceAck + got) % 8, length := m.length.toNat, acked := held.length })
  let p := (s.resolveTarget (s.session n)).getD 0
  if m.length.toNat ≤ held.length then (s.sendSession n p 3 held.length [] true).endSession n 0
  else if due then s.sendSession n p 3 held.length [] true
  else s

/-- A response to session n. -/
def State.responseTo (s : State) (n : Nat) (m : MsgFrame) : State :=
  let s := s.updSession n (fun k => if k.isNew m then { k with taken := some m.seq.toNat } else k)
  if m.status ≠ 0 then s.endSession n m.status.toNat
  else if isReadOp m.op.toNat then s.readSegment n m
  else (s.updSession n (fun k => { k with acked := k.length })).endSession n 0

/-- R257: an acknowledge of a write's segments: the sender resumes from the offset given (log 38: DEDUCED). -/
def State.ackTo (s : State) (n : Nat) (m : MsgFrame) : State :=
  let k := s.session n
  if k.isNew m && decide (m.offset.toNat ≤ k.length) then
    let s := s.updSession n (fun k => { k with taken := some m.seq.toNat, acked := max k.acked m.offset.toNat })
    if (s.session n).acked < k.length then s.trySend n else s
  else s

/-- R391: what arrives for a window's transaction after its end with "no response" (log 38: DEDUCED). -/
def State.lateData (s : State) (n : Nat) (m : MsgFrame) : State :=
  let here (e : Nat × Option Nat) : Bool := decide (e.1 = m.transaction.toNat)
  match (s.win n).expired.find? here with
  | none => s
  | some (t, taken) =>
    if n < 16 ∧ taken.all (fun q => newer16 m.seq.toNat q) then
      (s.updWin n (fun v => { v with
        expired := (t, some m.seq.toNat) :: v.expired.filter (fun e => !here e) })).minc (winKey n 16)
    else s

/-- What a response or an acknowledge does at the requester. -/
def State.toSession (s : State) (x : LaneId) (m : MsgFrame) : State :=
  let n := m.session.toNat
  if !s.reachesSession x ∨ 128 ≤ n ∨ !msgOk m then s
  else if s.answers (s.session n) m then
    if m.kind = 2 then s.responseTo n m else s.ackTo n m
  else s.lateData n m

/-- A frame whose kind, p or data is wrong is discarded and counted in entry 39F0h:07h (R250). -/
def State.discardMsg (s : State) (x : LaneId) : State := if (s.lane x).ready then s.inc x 0x39F007 else s

/-- MESSAGE_RESPONSE (R254): a response, or an acknowledge of a write, reaches a requester lane. -/
def doMessageResponse (x : LaneId) (m : MsgFrame) (s : State) : State :=
  if !msgOk m then s.discardMsg x
  else if m.kind = 2 ∨ (m.kind = 3 ∧ isWriteOp m.op.toNat = true) then s.toSession x m
  else s

/-! ### Timeouts (R260) -/

/-- The retry count of a session: a window's own for sessions 0 to 15 (R391). -/
def State.retries (s : State) (n : Nat) : Nat :=
  if n < 16 then s.mget (winKey n 11) else s.get (s.holder.getD .A) (sesKey n 10)

/-- SESSION_TIMEOUT (R260): a retry from the last acknowledged offset, or the end with "no response". -/
def doSessionTimeout (n : Fin 128) (s : State) : State :=
  let k := s.session n.val
  if !k.isOpen then s
  else if k.attempt < s.retries n.val then
    let s := s.putNode (sesKey n.val 15) (countUp (sesKey n.val 15) (s.get (s.holder.getD .A) (sesKey n.val 15)))
    (s.updSession n.val (fun k => { k with attempt := k.attempt + 1 })).trySend n.val
  else s.noResponse n.val

def execSessionStart (acc : Acc) (n : Fin 128) (v : Byte) (s : State) : Out := .next (s.through acc (doSessionStart acc n v s))
def execMessageResponse (x : LaneId) (m : MsgFrame) (s : State) : Out := .next (doMessageResponse x m s)
def execSessionTimeout (n : Fin 128) (s : State) : Out := .next (doSessionTimeout n s)

end Sys2Proof.Machine
end

