-- ==== Sys2Proof/Machine/Flags.lean ====
section
/-! DEFINITION. The status words that follow the state: bit maps of the entry tables, interrupt causes, the levels of
HINT_N, HTRAP_N and HWAIT (R62, R97, R130, R243, R303, R330, R369, R370, R377, R397, R398, R424, R444, R464, R500). -/

namespace Sys2Proof.Machine

/-! ### Interrupts and trap (R397, R398) -/

/-- R159, R397: an enabled half-range bit of a lane is set. -/
def LaneState.halfRange (l : LaneState) : Bool :=
  [1, 2].any (fun e => decide (l.get (key 0x21F0 e) &&& l.get (key 0x21F1 e) ≠ 0))

/-- R313: a frame waits in an enabled receive buffer. -/
def LaneState.receiveWaits (l : LaneState) : Bool :=
  (List.range 64).any (fun b => bitAt (l.get 0x440B02) b && bitAt (l.get (key (0x4520 + b) 1)) 31)

/-- The causes of the car bus of a lane that are active and named by entry 440Bh:01h (R313, R330) (log 16: DEDUCED). -/
def LaneState.carCauses (l : LaneState) : Nat :=
  let active := b2n (bitAt (l.get 0x440500) 8) * 16 + b2n (decide (l.can.errState = 2)) * 8 + b2n l.receiveWaits * 4
    + b2n (bitAt (l.get 0x456101) 31) * 2 + b2n (bitAt (l.get 0x456001) 31)
  active &&& l.get 0x440B01

/-- Messages wait for the host at the lane in possession (R268). -/
def State.mailWaits (s : State) : Bool :=
  match s.holder with
  | none => false
  | some x => !(s.lane x).msg.mail.isEmpty

/-- R397: entry 5900h:03h (log 16: DEDUCED). -/
def State.interruptCauses (s : State) : Nat :=
  let sticky := s.mget 0x590003 &&& 0x382
  let level1 := decide (s.laneA.coll.intClasses ≠ 0 ∨ s.laneB.coll.intClasses ≠ 0 ∨ s.coll.intClasses ≠ 0)
  sticky + b2n (decide (s.laneB.carCauses ≠ 0)) * 64 + b2n (decide (s.laneA.carCauses ≠ 0)) * 32
    + b2n s.laneB.halfRange * 16 + b2n s.laneA.halfRange * 8 + b2n s.mailWaits * 4 + b2n level1

/-- HINT_N is low (R397): a cause is set and enabled; released while HRST_N holds the module in reset (R399) and during
a host front reset (R412). -/
def State.hintLow (s : State) : Bool :=
  s.hostOn && decide (s.interruptCauses &&& s.mget 0x590004 ≠ 0)

/-- HTRAP_N is low (R398): a reaction of level 2 is unacknowledged in a lane or at module level. -/
def State.trapLow (s : State) : Bool :=
  s.hostOn &&
    decide (s.laneA.coll.trapClasses ≠ 0 ∨ s.laneB.coll.trapClasses ≠ 0 ∨ s.coll.trapClasses ≠ 0)

/-- HTPULSE (R98, R301): the level that the lane in possession drives, kept until the next lane acts; none while the
output is high-impedance, without HVIO, in HRST_N and asleep (R19, R399). -/
def State.htPulseLevel (s : State) : Option Bool :=
  if s.hostOn then some ((s.holder.map s.pulseOf).getD s.host.htPulse) else none

/-- HWAIT (R373, R377): high while an access is held, else low; none while the output is high-impedance, until the host
front is ready, without HVIO, in HRST_N and with node power off (R19, R399, R400). -/
def State.waitLevel (s : State) : Option Bool := if s.hostOn then some s.host.held.isSome else none

/-! ### Power and possession (R62, R97) -/

/-- Entry 1201h:00h: the RO bits follow the keeper. -/
def State.supplyStatus (s : State) : Nat :=
  (s.mget 0x120100 &&& 0x12) + b2n s.keeper.onHoldUp * 8 + b2n s.keeper.charged * 4 + b2n s.keeper.supplyGood

/-- Domains of a lane, C, E1, E2, CB, FS, NV from the first bit (R42). -/
def LaneState.domains (l : LaneState) (x : LaneId) : Nat :=
  if !l.awake then 0
  else
    let off (d : Nat) : Bool := l.domainOff x d
    1 + b2n (l.enabled .e1 && !off 1) * 2 + b2n (l.enabled .e2 && !off 2) * 4 + b2n (!off 3) * 8 + b2n (!off 4) * 16 + 32

/-- Entry 1204h:00h. -/
def State.domainState (s : State) : Nat := 3 + s.laneA.domains .A * 4 + s.laneB.domains .B * 256

/-- Bits 9 and 8 of entry 1101h: a lane that has started reads its peer's pair as valid (R79, R97); reset is 0. -/
def State.pairValid (s : State) (x : LaneId) : Bool := (s.lane x).ready && decide (s.pairReading x ≠ .invalid)

/-- Entry 1101h:00h. -/
def State.possessionStatus (s : State) : Nat :=
  b2n s.keeper.tossPending * 2048 + b2n (s.laneA.poss.hold || s.laneB.poss.hold) * 1024
    + b2n (s.pairValid .A) * 512 + b2n (s.pairValid .B) * 256
    + b2n s.laneB.poss.arbLink * 128 + b2n s.laneA.poss.arbLink * 64 + b2n s.mirrorBoth * 32
    + b2n (s.eligible .B) * 16 + b2n (s.eligible .A) * 8
    + b2n (s.lane (s.holder.getD .A)).poss.interlock * 4 + s.holderCode

/-- Entry 1110h:00h: the mirror is current for the first 1 ms after a loss too (R68). -/
def LaneState.mirrorCode (l : LaneState) : Nat :=
  if l.poss.mirrorCurrent then 2 else if l.poss.mirrorUp then 1 else 0

/-! ### Ports, Roll, schedule (R130, R168, R208, R243) -/

/-- Field [1:0] of entry 2001h. -/
def stepCode : Step → Nat
  | .off => 3
  | .listening => 3
  | .down => 0
  | .seeking => 1
  | .capability => 1
  | .probe => 1
  | .proposal => 1
  | .pma => 1
  | .verify => 1
  | .up => 2

/-- Entry 2001h: of a port whose end is enabled but whose domain waits for the insertion, the state is down. -/
def LaneState.portStatus (l : LaneState) (e : EndId) : Nat :=
  let p := l.port e
  b2n p.rateHeld * 2048 + b2n p.heldDown * 1024 + b2n p.quarantined * 512 + b2n p.takenDown * 256 + b2n p.lineCross * 128
    + b2n p.loop * 64 + b2n p.master * 32 + b2n p.alarm * 16 + (if p.isUp then p.rate % 4 * 4 else 0)
    + (if p.step = .off ∧ l.enabled e then 0 else stepCode p.step)

/-- Entry 2208h:00h. -/
def LaneState.pauseActive (l : LaneState) : Nat :=
  b2n l.port2.sending * 8 + b2n l.port1.sending * 4 + b2n (decide (l.port2.paused ≠ 0)) * 2
    + b2n (decide (l.port1.paused ≠ 0))

/-- Entry 2400h:00h. -/
def RollState.code (r : RollState) : Nat :=
  if r.running then (if r.adopted.isSome then 5 else if r.candidate.isSome then 4 else 3)
  else if r.holdOff then 1 else if r.trigger.isSome then 2 else 0

/-- The node's own directory entry. -/
def LaneState.ownDir (l : LaneState) : Option DirEntry := l.roll.directory.find? (fun d => decide (d.pos.toNat = l.position))

/-- Entry 2410h:06h Roles: head, tail, time master (R190, R192). -/
def LaneState.roles (l : LaneState) : Nat :=
  match l.ownDir with
  | none => 0
  | some d => b2n (d.lines.toNat.testBit 5) * 128 + b2n (d.lines.toNat.testBit 4) * 64 + b2n (d.flags.toNat.testBit 3) * 32

/-- Entry 2500h + p - 1 (R209). -/
def LaneState.dirValue (l : LaneState) (p sub : Nat) : Nat :=
  match l.roll.directory.find? (fun d => decide (d.pos.toNat = p)) with
  | none => 0
  | some d =>
    match sub with
    | 1 => d.pos.toNat
    | 2 => d.uid.toNat
    | 3 => d.vehicle.toNat
    | 4 => d.vpos.toNat
    | 5 => d.flags.toNat
    | 6 => d.lines.toNat
    | 7 => d.quality.toNat
    | 8 => d.rate1.toNat * 256 + d.rate2.toNat
    | 9 => d.supp1.toNat * 256 + d.supp2.toNat
    | 10 => d.digest.toNat
    | _ => d.rejected.toNat

/-- Entry 2800h:00h: late start and transition follow the state. -/
def LaneState.scheduleStatus (l : LaneState) : Nat :=
  (l.get 0x280000 &&& 0x19) + b2n l.roll.lateStart * 4 + b2n (decide (l.flow.transition ≠ 0)) * 2

/-! ### Flow contexts (R241, R244) -/

/-- The flow of a publication context is rejected by the schedule in force. -/
def LaneState.pubRejected (l : LaneState) (uid n : Nat) : Bool :=
  match l.flow.running.find? (fun e => e.1 = n), l.flow.sched with
  | some e, some d => ((d.flow uid e.2.number.toNat).map SFlow.rejected).getD false
  | _, _ => false

/-- R241: word 0000h of a context. -/
def State.contextWord (s : State) (x : LaneId) (n : Nat) : Nat :=
  let l := s.lane x
  if l.ctxRole n = 1 then
    b2n (l.pub n).committed * 2 ^ 31 + b2n (l.pubRejected s.uid n) * 2 ^ 30 + b2n (l.roll.lateStart || l.flow.startsNext) * 2 ^ 29
  else if l.ctxRole n = 2 then
    let k := l.sub n
    b2n k.newData * 2 ^ 31 + b2n k.stale * 2 ^ 30 + b2n k.active * 2 ^ 29 + b2n k.line2 * 2 ^ 28 + b2n k.replaced * 2 ^ 27
      + k.resolution % 8 * 2 ^ 24 + k.age % 65536
  else 0

/-- Subindex 0Ah: the assigned offset of a publication, the publisher's for a subscription. -/
def LaneState.ctxOffset (l : LaneState) (n : Nat) : Nat :=
  if l.ctxRole n = 1 then ((l.pubRuns n).map (fun p => p.held.toNat)).getD 0xFFFF
  else if l.ctxRole n = 2 then
    match l.resolveSched with
    | none => 0xFFFF
    | some d => (((d.flow (l.sub n).uid (l.get (key (0x3000 + n) 2))).bind SFlow.offset)).getD 0xFFFF
  else 0xFFFF

/-- Subindices of a flow context that follow the state (R244). -/
def State.contextEntry (s : State) (x : LaneId) (n sub : Nat) : Nat :=
  let l := s.lane x
  match sub with
  | 1 => l.ctxKind n
  | 3 => l.ctxClass n
  | 9 => s.contextWord x n
  | 10 => l.ctxOffset n
  | 15 => if l.ctxRole n = 2 ∧ (l.sub n).resolution = 1 then (l.sub n).position else 0
  | _ => l.get (key (0x3000 + n) sub)

/-! ### Time, car bus, field side (R303, R330, R369, R370) -/

/-- Entry 4002h:00h: its RO bits but the alarm and the candidate follow the state. -/
def LaneState.timeStatus (l : LaneState) : Nat :=
  (l.get 0x400200 &&& 0x1D8) + b2n l.domainPending * 32 + b2n (l.delayValid .e2) * 4 + b2n (l.delayValid .e1) * 2
    + b2n (decide (l.timeState = 2 ∨ l.timeState = 4 ∨ l.timeState = 5))

/-- Entry 4405h:00h: bits 7 to 0 follow the state; the termination is connected while the domain is on (R308). -/
def LaneState.carStatus (l : LaneState) (x : LaneId) : Nat :=
  (l.get 0x440500 &&& 0x300) + l.can.errState % 4 * 64 + b2n (decide (l.can.errState = 2)) * 32 + b2n l.can.integrating * 16
    + b2n l.can.listen * 8 + b2n (decide (l.get 0x440002 = 1)) * 4
    + b2n (bitAt (l.domains x) 3 && decide (l.get 0x440003 = 1)) * 2 + b2n (bitAt (l.domains x) 3)

/-- Entry 4480h + s - 1:05h (R329). -/
def LaneState.stationState (l : LaneState) (k : Nat) : Nat :=
  if l.get (key (0x4480 + k) 1) = 0 then 0
  else if l.get (key (0x4480 + k) 4) < l.get (key (0x4480 + k) 6) then 2 else 1

/-- Entry 5000h + n:0Bh: measured on, frozen, safe, filtered and raw follow the pin. -/
def LaneState.pinStatus (l : LaneState) (n : Nat) : Nat :=
  let p := l.pin n
  (l.get (pinKey n 11) &&& 0xFC7C) + b2n (l.measuredOn n) * 512 + b2n l.field.frozen * 256
    + b2n (l.field.safe && isOutput (l.pinFunction n)) * 128 + b2n p.filt * 2 + b2n p.raw

/-- Entry 5103h:00h: bits 4, 3, 1 and 0 follow the field side. -/
def LaneState.fieldStatus (l : LaneState) : Nat :=
  (l.get 0x510300 &&& 0xE4) + b2n l.field.frozen * 16 + b2n l.field.safe * 8
    + b2n (l.field.run && !l.field.safe) * 2 + b2n l.field.linkUp

/-- A map of pins by bit. -/
def pinMap (f : Nat → Bool) : Nat := (List.range 24).foldl (fun m n => withBit m n (f n)) 0

/-- R370: entry 5100h reads the value in force for every output function. -/
def LaneState.outputImage (l : LaneState) : Nat :=
  pinMap (fun n => if isOutput (l.pinFunction n) then l.valueInForce n else bitAt (l.get 0x510000) n)

/-! ### Recorder, plan, security (R444, R464, R500) -/

/-- Entry 1500h:00h. -/
def LaneState.recorderStatus (l : LaneState) : Nat :=
  let r := l.log
  b2n r.failed.isSome * 128 + b2n r.full * 64 + b2n r.tagsValid * 32 + b2n r.clearing * 16 + b2n r.shutdown * 8
    + b2n (!r.finals.isEmpty) * 4 + b2n r.overflow * 2 + b2n r.scanned

/-- Entry 1505h:03h: the records that a read returns (R442). -/
def LaneState.readCount (l : LaneState) : Nat := min (l.get 0x150502) (l.log.slots.length - l.get 0x150501)

/-- The 32 bytes of a slot; those of a bad slot are as they stand, which the manual does not give: free (log 6: DESIGN
CHOICE). -/
def slotBytes (x : LaneId) (i : Nat) : Slot → List Byte
  | .record r => recordBytes x false r
  | .bad => toBytes 32 (Config.freeValue 256 i).toNat

/-- Entry 1505h:04h (R442). -/
def LaneState.readRecords (l : LaneState) (x : LaneId) : List Byte :=
  let start := l.get 0x150501
  (indexed start (slice' l.log.slots start l.readCount)).flatMap (fun e => slotBytes x e.1 e.2)
where
  /-- Elements lo to lo + n - 1 of a list. -/
  slice' {α : Type} (l : List α) (lo n : Nat) : List α := (l.drop lo).take n

/-- Entry 150Dh:02h (R442). -/
def LaneState.readFinals (l : LaneState) (x : LaneId) : List Byte :=
  (l.log.finals.drop (l.get 0x150D01)).flatMap (recordBytes x true)

/-- Entry 1300h:00h: bits 3 to 1 follow their sources. -/
def LaneState.planStatus (l : LaneState) : Nat :=
  (l.get 0x130000 &&& 0x21) + b2n l.plan.short * 16 + b2n (bitAt l.coll.inFault 108) * 8 + b2n (bitAt l.coll.inFault 109) * 4
    + b2n (bitAt l.coll.inFault 107) * 2

/-- R482: the Maintainer key slot is empty. -/
def Security.commissioning (k : Security) : Bool := (k.roleKeys.getD 1 []).isEmpty

/-- Entry 1600h:00h. -/
def Security.status (k : Security) : Nat :=
  b2n k.commissioning * 16 + b2n (!(k.roleKeys.getD 2 []).isEmpty) * 8 + b2n (!(k.roleKeys.getD 1 []).isEmpty) * 4
    + b2n (!(k.roleKeys.getD 0 []).isEmpty) * 2 + b2n k.hostLocked

/-! ### Collectors (R424) -/

/-- Subindex s of entries 1401h to 1404h: 32 sources of a lane's map, or the module's 16. -/
def mapWord (m sub : Nat) : Nat := field m (32 * (sub - 1)) 32

/-- A map of entries 1401h to 1404h. -/
def Collector.map (c : Collector) (index : Nat) : Nat :=
  match index with
  | 0x1401 => c.sticky
  | 0x1402 => c.path
  | 0x1403 => c.injected
  | _ => c.inFault

/-- Merged faults of a class. -/
def Collector.mergedOf (c : Collector) (cls : Nat) : Nat := tabGet (fun _ => 0) cls c.merged

end Sys2Proof.Machine
end

