-- ==== Sys2Proof/Machine/Entries.lean ====
section
/-! DEFINITION. What the entries of the object dictionary read as (R467 to R471, and the entry tables of every
chapter): stored registers, and the entries that follow the state. -/

namespace Sys2Proof.Machine

/-! ### Finding an entry (R467, R499) -/

/-- An entry's row. Subindex 00h of a record reads the highest subindex in use, as U8 RO. -/
def lookupRow (index sub : Nat) : Option Row :=
  match entryRow index sub with
  | some r => some r
  | none =>
    if sub ≠ 0 then none
    else match highestSub index, (rowsOf index).find? (fun r => r.lo ≤ index && index ≤ r.hi) with
      | some top, some r => some { r with
          slo := 0, shi := 0, ty := .u8, kind := .ro, dflt := top, role := 1, fan := false, pers := false
          min := 0, max := 255, resv := 0, w1c := 0, side := false }
      | _, _ => none

/-- The lowest role that may read an entry: Observer, and Operator for the car bus, whose tables say so (log 15:
DEDUCED). -/
def readRole (index : Nat) : Nat := if 0x4400 ≤ index ∧ index ≤ 0x45CF then 1 else 0

/-! ### Entries that follow the state -/

/-- Identity, possession and power (R62, R97, R500). -/
def State.identityEntry (s : State) (x : LaneId) (k : Nat) : Option Nat :=
  let l := s.lane x
  if k = 0x100000 then some (0x07200000 + if s.variant2 then 2 else 1)
  else if k = 0x100400 then some l.running.version
  else if k = 0x100500 then some s.uid
  else if k = 0x110000 then some (laneStateCode l.mode)
  else if k = 0x110100 then some s.possessionStatus
  else if k = 0x111000 then some l.mirrorCode
  else if k = 0x120100 then some s.supplyStatus
  else if k = 0x120400 then some s.domainState
  else if k = 0x160000 then some s.sec.status
  else if k = 0x700000 then some (0x0A * 2 ^ 40 + s.uid % 2 ^ 40)
  else if k = 0x700100 then some (b2n s.keeper.serviceLink)
  else if k = 0x700200 then some ((s.sec.sessions.filter (fun k => k.role.isSome)).length)
  else none

/-- The margin plan, the collectors and the recorder (R424, R444, R464). -/
def State.faultEntry (s : State) (x : LaneId) (index sub : Nat) : Option Nat :=
  let l := s.lane x
  if index = 0x1300 then some l.planStatus
  else if 0x1310 ≤ index ∧ index ≤ 0x131A then
    match sub with
    | 3 => some (l.planSettingOf (index - 0x1310))
    | 4 => some (l.planFloor (index - 0x1310))
    | 5 => some (l.planCeiling (index - 0x1310))
    | 7 => some (l.statusOf (index - 0x1310))
    | _ => none
  else if 0x1401 ≤ index ∧ index ≤ 0x1404 then
    some (if sub = 5 then s.coll.map index else mapWord (l.coll.map index) sub)
  else if index = 0x1405 then some ((if sub = 2 then s.coll else l.coll).unacknowledged)
  else if index = 0x1407 then some (l.coll.classLevel (sub - 1))
  else if index = 0x1408 then some (l.coll.mergedOf (sub - 1))
  else if index = 0x140C then some (s.coll.classLevel (sub - 1))
  else if index = 0x140D then some (s.coll.mergedOf (sub - 1))
  else if index = 0x1500 then some l.recorderStatus
  else if index = 0x1505 ∧ sub = 3 then some l.readCount
  else if index = 0x1507 then some (l.log.opNs / 1000000)
  else if index = 0x1508 then some l.log.cycles
  else if index = 0x150C ∧ sub = 1 then some l.log.finals.length
  else none

/-- Ports, Roll, directory and schedule (R130, R168, R208, R209, R243). -/
def State.lineEntry (s : State) (x : LaneId) (index sub : Nat) : Option Nat :=
  let l := s.lane x
  let e := if sub = 2 then EndId.e2 else EndId.e1
  if index = 0x2001 then some (l.portStatus e)
  else if index = 0x2004 then some (b2n (decide (l.get 0x200200 = l.get 0x200300)))
  else if index = 0x2016 then some (b2n l.bypassOpen)
  else if index = 0x2200 then some (l.port e).fill
  else if index = 0x2208 then some l.pauseActive
  else if index = 0x2210 then
    some (field (l.hashBins.foldl (fun m b => withBit m b true) 0) (32 * (sub - 1)) 32)
  else if index = 0x2211 then some (macAddress s.uid x)
  else if index = 0x2400 then some l.roll.code
  else if index = 0x2410 ∧ sub = 1 then some s.uid
  else if index = 0x2410 ∧ sub = 6 then some l.roles
  else if 0x2500 ≤ index ∧ index ≤ 0x26FF then some (l.dirValue (index - 0x2500 + 1) sub)
  else if index = 0x2800 then some l.scheduleStatus
  else if index = 0x2806 then some (l.flow.beat % 1024)
  else if index = 0x2807 then some (hopSlot l.lineRate)
  else if index = 0x2816 then some l.staleCount
  else if 0x3000 ≤ index ∧ index ≤ 0x33FF ∧ (sub = 1 ∨ sub = 3 ∨ sub = 9 ∨ sub = 10 ∨ sub = 15) then
    some (s.contextEntry x (index - 0x3000) sub)
  else none

/-- Sessions, mailbox and message target (R246, R271, R272). -/
def State.messageEntry (s : State) (x : LaneId) (index sub : Nat) : Option Nat :=
  let l := s.lane x
  if 0x3800 ≤ index ∧ index ≤ 0x387F then
    let n := index - 0x3800
    match sub with
    | 1 => some (l.session n).state
    | 2 => some (if n < 16 then 1 else if n < 112 then 2 else 3)
    | 14 => some (l.session n).acked
    | _ => none
  else if index = 0x3900 then some l.msg.mail.length
  else if index = 0x39F0 ∧ sub = 8 then some l.msg.buffers.length
  else if index = 0x39F0 ∧ sub = 9 then some l.msg.locks.length
  else none

/-- Time, car bus and field side (R303, R330, R369, R370). -/
def State.fieldEntry (s : State) (x : LaneId) (index sub : Nat) : Option Nat :=
  let l := s.lane x
  if index = 0x4000 then some (l.trainTime % 2 ^ 64)
  else if index = 0x4002 then some l.timeStatus
  else if index = 0x4011 then some (if l.timeState = 3 then (s.clock - l.time.holdSince) / 1000000 else 0)
  else if index = 0x4405 then some (l.carStatus x)
  else if index = 0x4408 ∧ sub = 4 then some (b2n l.shadowDiffers)
  else if 0x4480 ≤ index ∧ index ≤ 0x44FE ∧ sub = 5 then some (l.stationState (index - 0x4480))
  else if 0x5000 ≤ index ∧ index ≤ 0x5017 ∧ sub = 11 then some (l.pinStatus (index - 0x5000))
  else if 0x5000 ≤ index ∧ index ≤ 0x5017 ∧ sub = 13 then some (l.pin (index - 0x5000)).fifo.length
  else if index = 0x5100 then some l.outputImage
  else if index = 0x5101 then some (pinMap (fun n => (l.pin n).filt))
  else if index = 0x5102 then some (pinMap (fun n => (l.pin n).raw))
  else if index = 0x5103 then some l.fieldStatus
  else none

/-- R392: a window's target position now, 0 if it is not a member. -/
def State.windowPosition (s : State) (w : Nat) : Nat :=
  let d := (s.lane (s.holder.getD .A)).roll.directory
  if s.mget (winKey w 2) = 1 then
    let p := s.mget (winKey w 4)
    if d.any (fun e => decide (e.pos.toNat = p)) then p else 0
  else ((d.find? (fun e => decide (e.uid.toNat = s.mget (winKey w 3)))).map (fun e => e.pos.toNat)).getD 0

/-- Windows and the host link (R402). -/
def State.hostEntry (s : State) (index sub : Nat) : Option Nat :=
  if 0x5800 ≤ index ∧ index ≤ 0x580F ∧ sub = 12 then some (s.windowPosition (index - 0x5800))
  else if 0x5800 ≤ index ∧ index ≤ 0x580F ∧ sub = 20 then
    some ((s.host.posted.filter (fun e => e.1 = index - 0x5800 && e.2.isPosted)).length)
  else if index = 0x5900 ∧ sub = 3 then some s.interruptCauses
  else if index = 0x5900 ∧ sub = 13 then some ((s.host.posted.filter (fun e => e.2.isPosted)).length)
  else if index = 0x5900 ∧ sub = 14 then some (s.sec.hostRole.getD 0xFF)
  else none

/-- An entry that follows the state, none for a stored one (log 14: DESIGN CHOICE). -/
def State.computed (s : State) (x : LaneId) (index sub : Nat) : Option Nat :=
  if index < 0x1300 then s.identityEntry x (key index sub)
  else if index < 0x1600 then s.faultEntry x index sub
  else if index < 0x2000 then s.identityEntry x (key index sub)
  else if index < 0x3800 then s.lineEntry x index sub
  else if index < 0x4000 then s.messageEntry x index sub
  else if index < 0x5800 then s.fieldEntry x index sub
  else if index < 0x6000 then s.hostEntry index sub
  else s.identityEntry x (key index sub)

/-- The value of a typed entry at lane x (log 14: DESIGN CHOICE). -/
def State.entryValue (s : State) (x : LaneId) (r : Row) (index sub : Nat) : Nat :=
  if sub = 0 ∧ (entryRow index 0).isNone then r.dflt
  else if r.kind = .cmd then 0
  else match s.computed x index sub with
    | some v => v
    | none => if r.scope = .module then s.mget (key index sub) else s.get x (key index sub)

/-- The content of an OCTETS entry at lane x (R468). The module's serial number, which the manual does not give, is a
name of the model's (assumption log) (log 14: DESIGN CHOICE). -/
def State.octets (s : State) (x : LaneId) (index sub : Nat) : List Byte :=
  let l := s.lane x
  if index = 0x1002 then "YLN720000001".toList.map (fun c => BitVec.ofNat 8 c.toNat)
  else if index = 0x1012 then (s.sec.label ++ List.replicate 16 0).take 16
  else if index = 0x1505 then l.readRecords x
  else if index = 0x150D then l.readFinals x
  else if index = 0x1610 then s.sec.fwKeys.getD (sub - 1) []
  else if index = 0x1611 then s.sec.cfgKeys.getD (sub - 1) []
  else if index = 0x1620 ∧ sub = 3 then toBytes 16 s.sec.proof
  else if 0x3800 ≤ index ∧ index ≤ 0x387F then (l.session (index - 0x3800)).data
  else if 0x5000 ≤ index ∧ index ≤ 0x5017 then
    match (l.pin (index - 0x5000)).fifo with
    | [] => List.replicate 16 0
    | c :: _ => captureBytes c
  else if index = 0x1620 ∧ sub = 1 then List.replicate 16 0
  else []

/-- R350, R383: the present length of an OCTETS entry, as its slots read: of a capture head 16 or 0. -/
def State.octetLength (s : State) (x : LaneId) (index sub : Nat) : Nat :=
  if 0x5000 ≤ index ∧ index ≤ 0x5017 then (if ((s.lane x).pin (index - 0x5000)).fifo.isEmpty then 0 else 16)
  else (s.octets x index sub).length

end Sys2Proof.Machine
end

