-- ==== Sys2Proof/Machine/Security.lean ====
section
/-! DEFINITION. Keys, authentication on the host link, the host link session, and the staging of a configuration image
(R481 to R485). The proofs are those of `hmac128`; challenges are free values. -/

namespace Sys2Proof.Machine

/-! ### Authentication (R481, R482) -/

/-- The state with its security part changed. -/
def State.updSec (s : State) (f : Security → Security) : State := { s with sec := f s.sec }

/-- R481, R482: the key that authenticates a role: its slot's, or on the service port in the commissioning state 16 zero
bytes for an empty Operator or Maintainer slot. The host link grants at most Maintainer. -/
def Security.keyFor (k : Security) (service : Bool) (r : Nat) : Option (List Byte) :=
  let key := k.roleKeys.getD (r - 1) []
  if r = 0 ∨ 3 < r ∨ (r = 3 ∧ service = false) then none
  else if !key.isEmpty then some key
  else if service && k.commissioning && decide (r ≤ 2) then some (List.replicate 16 0)
  else none

/-- R481: what the requester's proof P and the module's proof Q cover: two nonces in order, the node UID, the role. -/
def proofText (first second : List Byte) (uid r : Nat) : List Byte := first ++ second ++ toBytes 8 uid ++ toBytes 1 r

/-- R481: the failures of the last 60 s. -/
def recentFails (now : Nat) (l : List Nat) : List Nat := l.filter (fun t => now < t + 60000000000)

/-- R481: a failure on a path counts in entry 1602h; the fifth within 60 s locks the path out (log 40: DEDUCED). -/
def State.authFailed (s : State) (service : Bool) : State :=
  let s := s.minc 0x160200
  let fails := s.clock :: recentFails s.clock (if service then s.sec.serviceFails else s.sec.hostFails)
  let lock := decide (5 ≤ fails.length)
  let kept := if lock then [] else fails
  (s.updSec (fun k =>
    if service then { k with serviceFails := kept, serviceLocked := k.serviceLocked || lock }
    else { k with hostFails := kept, hostLocked := k.hostLocked || lock })).abort abAuth

/-- R481: a new challenge of the host link: a free value, valid for one attempt (log 6: DESIGN CHOICE). -/
def State.newChallenge (s : State) : State :=
  if s.sec.hostLocked then s.abort abAuth
  else
    let (n, s) := s.free 128
    (s.updSec (fun k => { k with challenge := some n })).answerBytes (toBytes 16 n)

/-- CHALLENGE (R481): a content read of entry 1620h:01h, on the host link only (log 40: DEDUCED). -/
def doChallenge (acc : Acc) (s : State) : State :=
  if !s.awake then s.abort abLane
  else if acc.path ≠ .host then s.abort abDenied
  else s.newChallenge

/-- R481, R483: a proof that passes opens the host link session with its role (log 40: DEDUCED). -/
def State.openHostSession (s : State) (key nm nt : List Byte) (r : Nat) : State :=
  (s.updSec (fun k => { k with
    hostRole := some r, proof := (hmac128 key (proofText nt nm s.uid r)).toNat })).answer 0

/-- R481: the check of a proof against the outstanding challenge, which it uses up. While the path is locked out every
challenge is refused, also one given before (log 40: DEDUCED). -/
def State.checkProof (s : State) (data : List Byte) : State :=
  let r := numAt data 0 1
  let nt := slice data 1 16
  if s.sec.hostLocked then s.abort abAuth else
  match s.sec.challenge with
  | none => s.authFailed false
  | some n =>
    let s := s.updSec (fun k => { k with challenge := none })
    match s.sec.keyFor false r with
    | none => s.authFailed false
    | some key =>
      if (hmac128 key (proofText (toBytes 16 n) nt s.uid r)).toNat = numAt data 17 16 then
        s.openHostSession key (toBytes 16 n) nt r
      else s.authFailed false

/-- RESPONSE (R467, R481): entry 1620h:02h, 33 bytes: role, Nt, P, from Operator on (log 40: DEDUCED). -/
def doResponse (acc : Acc) (data : List Byte) (s : State) : State :=
  if !s.awake then s.abort abLane
  else if acc.path ≠ .host ∨ s.role acc.path < 1 then s.abort abDenied
  else if 33 < data.length then s.abort abTooLong
  else if data.length ≠ 33 then s.abort abRange
  else s.checkProof data

/-- AUTHENTICATION_LOCKOUT_END (R481): 60 s after the lockout of a path. -/
def doAuthenticationLockoutEnd (path : Path) (s : State) : State :=
  match path with
  | .host => s.updSec (fun k => { k with hostLocked := false })
  | .service _ => s.updSec (fun k => { k with serviceLocked := false })
  | .remote => s
  | .image => s

/-- A service session changed. -/
def State.updService (s : State) (n : Nat) (f : ServiceSession → ServiceSession) : State :=
  s.updSec (fun k => { k with sessions := k.sessions.modify n f })

/-- CHALLENGE_EXPIRY (R481): 10 s after a challenge of a path. -/
def doChallengeExpiry (path : Path) (s : State) : State :=
  match path with
  | .host => s.updSec (fun k => { k with challenge := none })
  | .service n => s.updService n.val (fun k => { k with challenge := none })
  | .remote => s
  | .image => s

/-- END_HOST_LINK_SESSION (R483): entry 5900h:0Fh, from every role. -/
def doEndHostLinkSession (acc : Acc) (v : Byte) (s : State) : State :=
  s.moduleCommand acc 0x5900 15 0 true (decide (v.toNat = 1)) ((s.updSec (fun k => { k with hostRole := none })).answer 0)

/-- HOST_LINK_SESSION_EXPIRY (R483): 10 minutes without an access, or 8 h. -/
def doHostLinkSessionExpiry (s : State) : State := s.updSec (fun k => { k with hostRole := none })

/-! ### Keys (R482, R500) -/

/-- ROLE_KEY (R482, R500): entry 1601h. A key needs its own role or above. Writing a Maintainer key ends the
commissioning state and every session authenticated in it (log 40: DEDUCED). -/
def doRoleKey (acc : Acc) (slot : Fin 3) (key : List Byte) (s : State) : State :=
  if !s.awake then s.abort abLane
  else if s.role acc.path < slot.val + 1 then s.abort abDenied
  else if 16 < key.length then s.abort abTooLong
  else if key.length ≠ 0 ∧ key.length ≠ 16 then s.abort abRange
  else
    let ends := decide (slot.val = 1) && s.sec.commissioning && !key.isEmpty
    (s.updSec (fun k => { k with
      roleKeys := k.roleKeys.set slot.val key
      sessions := if ends then k.sessions.map (fun t => if t.commissioning then t.close else t) else k.sessions })).answer 0

/-- Entry 1611h: a configuration public key of 32 bytes, or none (log 40: DEDUCED). -/
def State.writeConfigKey (s : State) (slot : Nat) (key : List Byte) : State :=
  if 32 < key.length then s.abort abTooLong
  else if key.length ≠ 0 ∧ key.length ≠ 32 then s.abort abRange
  else (s.updSec (fun k => { k with cfgKeys := k.cfgKeys.set slot key })).answer 0

/-! ### Image staging (R485, R500) -/

/-- IMAGE_CHUNK (R488, R500): entry 1630h:02h, bytes at the offset of entry 1630h:01h, in an image of 1 MiB (log 41:
DEDUCED). -/
def doImageChunk (acc : Acc) (data : List Byte) (s : State) : State :=
  s.command acc 0x1630 2 2 (fun _ => true) true (fun x =>
    let off := s.get x 0x163001
    if 65536 < data.length then s.abort abTooLong
    else if 1048576 < off + data.length then s.abort abRange
    else (s.updSec (fun k => { k with image := tabSetAll (fun _ => 0) off data k.image })).answer 0)

/-- The staged image of a length; bytes that no chunk wrote read 0 (assumption log) (log 12: DESIGN CHOICE). -/
def Security.staged (k : Security) (len : Nat) : List Byte := tabGetAll (fun _ => 0) 0 len k.image

def execChallenge (acc : Acc) (s : State) : Out := .next (s.through acc (doChallenge acc s))
def execResponse (acc : Acc) (data : List Byte) (s : State) : Out := .next (s.through acc (doResponse acc data s))
def execAuthenticationLockoutEnd (path : Path) (s : State) : Out := .next (doAuthenticationLockoutEnd path s)
def execChallengeExpiry (path : Path) (s : State) : Out := .next (doChallengeExpiry path s)
def execEndHostLinkSession (acc : Acc) (v : Byte) (s : State) : Out := .next (s.through acc (doEndHostLinkSession acc v s))
def execHostLinkSessionExpiry (s : State) : Out := .next (doHostLinkSessionExpiry s)
def execRoleKey (acc : Acc) (slot : Fin 3) (key : List Byte) (s : State) : Out := .next (s.through acc (doRoleKey acc slot key s))
def execImageChunk (acc : Acc) (data : List Byte) (s : State) : Out := .next (s.through acc (doImageChunk acc data s))

end Sys2Proof.Machine
end

