-- ==== Sys2Proof/Machine/Dictionary.lean ====
section
/-! DEFINITION. Accesses to the object dictionary on every path (R467 to R480): reads with their side effects, writes
of stored entries, the entries whose writes are commands of their own, configuration images (R484 to R491), the domain
aperture's commit (R388). -/

namespace Sys2Proof.Machine

/-! ### What an access reaches (R471, R479, R480) -/

/-- The lane that serves an access to an entry: for a module-level entry the host front, which stands for the lane in
possession or lane A; none where no lane is available. -/
def State.reach (s : State) (r : Row) (sel : Sel) : Option LaneId :=
  if r.scope = .module then (if s.awake then some (s.holder.getD .A) else none)
  else if r.isSession then s.sessionReach (decide (r.kind = .cmd))
  else match s.target sel with
    | some x => if s.available x then some x else none
    | none => none

/-- The codes that stand before "value out of range" in the order of R480 (log 17: DEDUCED). -/
def beforeRange (code : Nat) : Bool :=
  [abUnknown, abLane, abDenied, abReadOnly, abWriteOnly, abState, abBusy].contains code

/-- R480: the outcome of a write whose value is out of range: a refusal that stands before it, else "value out of
range" and no effect. `t` is the outcome of the write with a value in range (log 17: DEDUCED). -/
def State.outOfRange (s t : State) : State := if beforeRange t.ans.code then t else s.abort abRange

/-- R480: the outcome of a write, by whether its value is in range (log 17: DEDUCED). -/
def State.ranged (s : State) (ok : Bool) (t : State) : State := if ok then t else s.outOfRange t

/-- A number below n + 1. -/
def finOf (n m : Nat) : Fin (n + 1) := ⟨m % (n + 1), Nat.mod_lt _ (Nat.succ_pos n)⟩

/-! ### Reads (R469, R476, R480) -/

/-- The read of a typed entry at a lane, with the side effect of entries 2201h and 2207h. -/
def State.readTyped (s : State) (x : LaneId) (r : Row) (index sub : Nat) : State :=
  let v := s.entryValue x r index sub
  (if r.side then s.upd x (fun l => l.readEffect index sub) else s).answer v

/-- A read of an OCTETS entry's content at a lane: of a capture head, which it removes; of a challenge; of any other. -/
def State.readOctets (s : State) (a : Acc) (x : LaneId) (index sub : Nat) : State :=
  if 0x5000 ≤ index ∧ index ≤ 0x5017 then s.readCapture x (index - 0x5000)
  else if index = 0x1620 ∧ sub = 1 then doChallenge a s
  else s.answerBytes (s.octets x index sub)

/-- A read of an entry: its value or content; of an OCTETS entry through a host slot only its present length (R383). -/
def State.dictRead (s : State) (a : Acc) (index sub : Nat) (content : Bool) : State :=
  match lookupRow index sub with
  | none => s.abort abUnknown
  | some r =>
    match s.reach r a.sel with
    | none => s.abort abLane
    | some x =>
      if s.role a.path < readRole index then s.abort abDenied
      else if r.kind = .wo then s.abort abWriteOnly
      else if r.kind = .cmd then s.answer 0
      else if r.ty = .octets then
        if index = 0x1505 ∧ (s.lane x).log.clearing = true then s.refuse a index sub
        else if content then s.readOctets a x index sub else s.answer (s.octetLength x index sub)
      else s.readTyped x r index sub

/-- The bytes of the last access's answer, as a message carries them (R251, R468). -/
def State.answered (s : State) (index sub : Nat) : List Byte :=
  match lookupRow index sub with
  | none => []
  | some r => if r.ty = .octets then s.ans.data else toBytes (tyBytes r.ty) s.ans.value

/-! ### Writes of stored entries (R469, R471) -/

/-- The new value of an entry: RW1C bits written 1 are cleared, and RO bits beside them stay; any other entry takes the
value. -/
def Row.written (r : Row) (old v : Nat) : Nat := if r.w1c = 0 then v else clearMask old (v &&& r.w1c)

/-! ### Ranges and states of single entries -/

/-- R408, R417: the level or ceiling of a source (log 19: DEDUCED). -/
def State.sourceValueOk (s : State) (x : LaneId) (n sub v : Nat) : Bool :=
  let c := if n < 128 then CollectorId.lane x else .module
  match sourceRow n with
  | none => false
  | some r =>
    if sub = 1 then decide (r.lo ≤ v ∧ v ≤ r.hi) && decide (v ≤ s.sourceCeiling c n)
    else decide (s.sourceLevel c n ≤ v) && decide (v ≤ (if n < 128 then 5 else 3))

/-- R300, R303: a setting of pulse unit u: the width below the period, at most one unit driving HTPULSE. -/
def LaneState.pulseValueOk (l : LaneState) (u sub v : Nat) : Bool :=
  match sub with
  | 3 => decide (l.get (pulseKey u 4) < v)
  | 4 => decide (v < l.get (pulseKey u 3))
  | 5 => decide (v = 0) || (List.range 8).all (fun w => decide (w = u ∨ l.get (pulseKey w 5) = 0))
  | _ => true

/-- The limits of a value beyond its row's range, reserved bits and width (log 19: DEDUCED, 42: DEDUCED). -/
def State.valueOk (s : State) (a : Acc) (x : LaneId) (index sub v : Nat) : Bool :=
  let l := s.lane x
  if 0x1410 ≤ index ∧ index ≤ 0x149F then s.sourceValueOk x (index - 0x1410) sub v
  else if index = 0x2002 then a.path == .image || decide (l.get 0x200300 ≤ v)
  else if index = 0x2003 then a.path == .image || decide (v ≤ l.get 0x200200)
  else if index = 0x2202 then decide (v < l.get 0x220300)
  else if 0x3800 ≤ index ∧ index ≤ 0x387F then decide (sub ≠ 6) || knownOp v
  else if 0x4020 ≤ index ∧ index ≤ 0x4027 then l.pulseValueOk (index - 0x4020) sub v
  else if patternKey (key index sub) then cellOk (key index sub) v && (l.shadowPut (key index sub) v).shadowOk
  else if 0x4500 ≤ index ∧ index ≤ 0x451F ∧ sub = 1 then !(bitAt v 27 && bitAt v 25)
  else if 0x4570 ≤ index ∧ index ≤ 0x458F ∧ sub = 3 then decide (v < 64 ∨ v = 255)
  else if 0x5000 ≤ index ∧ index ≤ 0x5017 ∧ sub = 9 then decide (v = 0 ∨ 20 ≤ v)
  else if index = 0x5900 ∧ 16 ≤ sub ∧ sub ≤ 31 then decide (field v 6 2 ≠ 3)
  else true

/-- The states in which a stored entry may be written (R271, R326, R401). -/
def State.writable (s : State) (x : LaneId) (index sub v : Nat) : Bool :=
  if 0x3800 ≤ index ∧ index ≤ 0x387F then !(s.session (index - 0x3800)).isOpen
  else if 0x4590 ≤ index ∧ index ≤ 0x45CF then decide (s.get x (ruleKey (index - 0x4590) 1) = 0)
  else if 0x5800 ≤ index ∧ index ≤ 0x580F then
    let w := index - 0x5800
    let held := s.host.held.any (fun q => decide (q.op ≠ 8 ∧ pathOf q.addr = w))
    if sub = 1 then decide (v ≠ 0) || ((s.win w).active.isNone && (s.firstOf w).isNone && !held)
    else decide (s.mget (winKey w 1) = 0)
  else true

/-- R381: a write has fanned out to the peer of the lane that answers; the peer executes it under its own rules, and
refuses a value that does not fit there, and one that its state does not admit. -/
def State.peerRefuses (s t : State) (a : Acc) (x : LaneId) (index sub v : Nat) : State :=
  let fits := s.valueOk a x.peer index sub v && s.writable x.peer index sub v
  if a.sel = .acting ∧ fits = false then t.upd x.peer (fun _ => s.lane x.peer) else t

/-- A write of a stored entry, by its scope (R381, R471) (log 42: DEDUCED). -/
def State.writeStored (s : State) (a : Acc) (x : LaneId) (r : Row) (index sub v : Nat) : State :=
  let k := key index sub
  let f (l : LaneState) : LaneState := l.put k (r.written (l.get k) v)
  match r.scope with
  | .module => s.mput k (r.written (s.mget k) v)
  | .node => s.writeNode a f
  | .lane => if r.fan then s.peerRefuses (s.fanOut a.sel f) a x index sub v else s.upd x f

/-- R402: a write of the host link's base role: the host link may lower it; only the service port or an image raises
it, with Maintainer (log 19: DEDUCED). -/
def State.baseRoleOk (s : State) (p : Path) (v : Nat) : Bool :=
  decide (v ≤ s.mget 0x590001) || (match p with
    | .service _ => decide (2 ≤ s.role p)
    | .image => true
    | .host => false
    | .remote => false)

/-- R330: the transmit control word holds settings, which need Maintainer: Operator may write it with the settings as they
stand, for the commit bit (log 19: DEDUCED). -/
def State.txControlOk (s : State) (a : Acc) (index v : Nat) : Bool :=
  decide (2 ≤ s.role a.path) || (s.target a.sel).all (fun x =>
    decide (v &&& 0x3E0F0000 = (s.get x (key index 1)) &&& 0x3E0F0000))

/-- The rights to write an RW entry (log 19: DEDUCED). -/
def State.mayWrite (s : State) (a : Acc) (r : Row) (index sub v : Nat) : Bool :=
  decide (r.role ≤ s.role a.path) && (decide (key index sub ≠ 0x590001) || s.baseRoleOk a.path v)
    && (!(decide (0x4500 ≤ index ∧ index ≤ 0x451F ∧ sub = 1)) || s.txControlOk a index v)

/-! ### Writes with an effect beyond the register -/

/-- R405, R419: sticky bits of a collector map are cleared by writing 1; a source still in fault sets its bit again, and its
path-fault bit while its pair reads invalid (log 57: DEDUCED). -/
def Collector.clearMap (c : Collector) (index sub v : Nat) : Collector :=
  let m := v * 2 ^ (if sub = 5 then 0 else 32 * (sub - 1))
  match index with
  | 0x1401 => { c with sticky := clearMask c.sticky m ||| c.inFault }
  | 0x1402 => { c with path := clearMask c.path m ||| (c.inFault &&& c.invalid) }
  | _ => { c with injected := clearMask c.injected m }

/-- A new setting of pulse unit u; a unit that is armed is armed anew, after the pulse in progress (R300). -/
def LaneState.writePulse (l : LaneState) (u sub v : Nat) : LaneState :=
  let l := l.put (pulseKey u sub) v
  if l.pulseArmed u then l.rearm u else l

/-- What a write of an RW entry does once every check has passed. -/
def State.writeEffect (s : State) (a : Acc) (x : LaneId) (r : Row) (index sub v : Nat) : State :=
  if 0x1401 ≤ index ∧ index ≤ 0x1403 then
    s.updColl (if sub = 5 then .module else .lane x) (fun c => c.clearMap index sub v)
  else if index = 0x1500 then
    if bitAt v 1 then s.upd x (fun l => { l with log := { l.log with overflow := false } }) else s
  else if index = 0x1610 then s.mput 0x161003 (s.mget 0x161003 ||| v)
  else if index = 0x2002 ∨ index = 0x2003 then (s.writeStored a x r index sub v).followConflicts x
  else if 0x4020 ≤ index ∧ index ≤ 0x4027 ∧ sub ≤ 5 then 
    s.fanOut a.sel (fun l => if l.pulseValueOk (index - 0x4020) sub v then l.writePulse (index - 0x4020) sub v else l)
  else if patternKey (key index sub) then
    s.fanOut a.sel (fun l => if (l.shadowPut (key index sub) v).shadowOk then l.shadowPut (key index sub) v else l)
  else if 0x4480 ≤ index ∧ index ≤ 0x44FE ∧ sub = 1 then
    let s := (s.writeStored a x r index sub v).updBoth LaneState.clearStations
    (s.followStations .A).followStations .B
  else if 0x4500 ≤ index ∧ index ≤ 0x451F ∧ sub = 1 then s.fanOut a.sel (fun l => l.writeTxControl (index - 0x4500) v)
  else if 0x4500 ≤ index ∧ index ≤ 0x451F ∧ sub = 2 then s.fanOut a.sel (fun l => l.writeTxIdent (index - 0x4500) v)
  else if 0x5800 ≤ index ∧ index ≤ 0x580F then
    ((s.writeStored a x r index sub v).cancelPrefetch (index - 0x5800)).updWin (index - 0x5800)
      (fun w => { w with block := none, lastRead := none })
  else s.writeStored a x r index sub v

/-- Which buffer's frame is on a car bus is the bus's, a free value: below 32 that buffer, else none (log 6: DESIGN
CHOICE). -/
def State.onCarBus (s : State) : Option (Fin 32) × State :=
  let t := s.free 6
  (if h : t.1 < 32 then some ⟨t.1, h⟩ else none, t.2)

/-- Entry 4400h:02h through the dictionary, with what is on either car bus at the write (log 6: DESIGN CHOICE). -/
def State.patternEnable (s : State) (a : Acc) (v : Nat) : State :=
  let ta := s.onCarBus
  let tb := ta.2.onCarBus
  doPatternEnable a (BitVec.ofNat 8 v) ⟨ta.1, tb.1⟩ tb.2

/-- Whether a car bus is busy is the bus's, a free value (log 6: DESIGN CHOICE). -/
def State.carBusBusy (s : State) : Bool × State :=
  let t := s.free 1
  (decide (t.1 = 1), t.2)

/-- Entry 4401h or 4402h through the dictionary, with what is on either car bus at the write (log 6: DESIGN CHOICE). -/
def State.timingWrite (s : State) (a : Acc) (dataPhase : Bool) (v : BitVec 32) : State :=
  let ta := s.carBusBusy
  let tb := ta.2.carBusBusy
  doBitTimingWrite a dataPhase v (onLines ta.1 tb.1) tb.2

/-- RW entries whose write is a command of its own, with its own checks. -/
def State.ownWrite (s : State) (a : Acc) (index sub v : Nat) : Option State :=
  if 0x1310 ≤ index ∧ index ≤ 0x131A then
    some (doPlanBoundWrite a (finOf 10 (index - 0x1310)) (decide (sub = 5)) (BitVec.ofNat 32 v) s)
  else if index = 0x2000 then some (doPortEnable a (if sub = 2 then .e2 else .e1) (BitVec.ofNat 8 v) s)
  else if index = 0x2421 then some (doLeadDeclaration a (BitVec.ofNat 8 v) s)
  else if 0x3000 ≤ index ∧ index ≤ 0x33FF then
    some (if sub = 9 then s.flowControl a (index - 0x3000) v else s.flowConfig a (index - 0x3000) sub v)
  else if index = 0x4008 then some (doBaselineWrite a (BitVec.ofNat 32 v) s)
  else if 0x4020 ≤ index ∧ index ≤ 0x4027 ∧ sub = 1 then
    some (doPulseModeWrite a (finOf 7 (index - 0x4020)) (BitVec.ofNat 8 v) s)
  else if index = 0x4400 ∧ sub = 2 then some (s.patternEnable a v)
  else if index = 0x4401 ∨ index = 0x4402 then
    some (s.timingWrite a (decide (index = 0x4402)) (BitVec.ofNat 32 v))
  else if 0x4590 ≤ index ∧ index ≤ 0x45CF ∧ sub = 1 then
    some (doGatewayRuleEnable a (finOf 63 (index - 0x4590)) (BitVec.ofNat 8 v) s)
  else if 0x5000 ≤ index ∧ index ≤ 0x5017 ∧ sub = 1 then
    some (doPinFunctionChange a (finOf 23 (index - 0x5000)) (BitVec.ofNat 8 v) s)
  else if 0x5000 ≤ index ∧ index ≤ 0x5017 ∧ sub = 19 then
    some (doEndRoleGateWrite a (finOf 23 (index - 0x5000)) (BitVec.ofNat 8 v) s)
  else if index = 0x5100 then some (doOutputImage a (BitVec.ofNat 32 v) s)
  else none

/-- A write of a typed RW entry that an access reaches at lane x (R469, R480). -/
def State.rwWrite (s : State) (a : Acc) (x : LaneId) (r : Row) (index sub v : Nat) : State :=
  if !s.mayWrite a r index sub v then s.abort abDenied
  else if 0x3800 ≤ index ∧ index ≤ 0x380F then s.abort abReadOnly
  else match s.ownWrite a index sub v with
    | some t => t
    | none =>
      if !s.writable x index sub v then s.refuse a index sub
      else if v < r.min ∨ r.max < v ∨ v &&& r.resv ≠ 0 ∨ s.valueOk a x index sub v = false then s.abort abRange
      else (s.writeEffect a x r index sub v).answer 0

/-! ### Writes of OCTETS entries -/

/-- Entry 3800h + s:0Dh (R271): the data of a session, until a transaction is open. -/
def State.writeSessionData (s : State) (a : Acc) (n : Nat) (data : List Byte) : State :=
  if n < 16 then s.abort abReadOnly
  else if (s.session n).isOpen then s.refuse a (0x3800 + n) 13
  else if 65536 < data.length then s.abort abTooLong
  else (s.updSession n (fun k => { k with data := data })).answer 0

/-- A write of an OCTETS entry's content (R388, R477); a binding that names no OCTETS entry is out of range. -/
def State.octetsWrite (s : State) (a : Acc) (index sub : Nat) (data : List Byte) : State :=
  match lookupRow index sub with
  | none => s.abort abUnknown
  | some r =>
    match s.reach r a.sel with
    | none => s.abort abLane
    | some _ =>
      if r.ty ≠ .octets then s.abort abRange
      else if index = 0x1601 then doRoleKey a (finOf 2 (sub - 1)) data s
      else if s.role a.path < r.role then s.abort abDenied
      else if r.kind = .ro then s.abort abReadOnly
      else if index = 0x1611 then s.writeConfigKey (sub - 1) data
      else if index = 0x1620 then doResponse a data s
      else if index = 0x1630 then doImageChunk a data s
      else if index = 0x1640 then doFirmwareChunk a data s
      else s.writeSessionData a (index - 0x3800) data

/-! ### Configuration images (R484 to R491) -/

/-- A configuration record (R486). -/
structure CfgRecord where
  index : Nat
  sub : Nat
  sel : Nat
  value : List Byte
deriving DecidableEq, Repr

/-- R486: the record at the start of a body, with the rest of the body (log 41: DEDUCED). -/
def cfgRecord (b : List Byte) : Option (CfgRecord × List Byte) :=
  let n := numAt b 4 2
  let padded := (n + 3) / 4 * 4
  if b.length < 8 + padded ∨ n = 0 ∨ 65528 < n ∨ numAt b 3 1 % 64 ≠ 0 ∨ numAt b 3 1 / 64 = 3 ∨ numAt b 6 2 ≠ 0
      ∨ (slice b (8 + n) (padded - n)).any (fun v => v ≠ 0) = true then none
  else some (⟨numAt b 0 2, numAt b 2 1, numAt b 3 1 / 64, slice b 8 n⟩, b.drop (8 + padded))

/-- R485, R486: the records of a body: as many as the header says, without gaps (log 41: DEDUCED). -/
def cfgRecords : Nat → List Byte → Option (List CfgRecord)
  | 0, b => if b = [] then some [] else none
  | k + 1, b => do
    let (r, rest) ← cfgRecord b
    let rs ← cfgRecords k rest
    pure (r :: rs)

/-- R485: the header's fields. -/
def cfgHeaderOk (img : List Byte) : Bool :=
  decide (112 ≤ img.length ∧ img.length ≤ 1048576) && decide (numAt img 0 4 = 0x594C4E43 ∧ numAt img 4 1 = 1)
    && decide (numAt img 5 1 ≤ 3) && decide (numAt img 6 1 ≤ 15 ∨ numAt img 6 1 = 255) && decide (numAt img 7 1 ≤ 1)
    && decide (1 ≤ numAt img 20 4 ∧ numAt img 20 4 ≤ 65535) && decide (numAt img 24 4 + 112 = img.length)
    && decide (numAt img 28 4 = 0)

/-- R484, R488 to R490: the checks of an image before its records, in their order: 0, or the code of the first that
fails (log 41: DEDUCED). -/
def State.imageCheck (s : State) (x : LaneId) (img : List Byte) : Nat :=
  let key := s.sec.cfgKeys.getD (numAt img 5 1) []
  let n := img.length - 64
  if !cfgHeaderOk img then abFormat
  else if key.isEmpty || !signatureOk key (img.take n) (img.drop n) then abSignature
  else if numAt img 6 1 ≠ 255 ∧ numAt img 6 1 ≠ s.mget 0x100800 then abMismatch
  else if numAt img 8 8 ≠ 0 ∧ numAt img 8 8 ≠ s.uid then abMismatch
  else if numAt img 16 4 < s.get x 0x101201 then abRollback
  else 0

/-- R315, R475: the settings of the transmit buffers at their defaults: what the controller shows of a buffer stays, and an
attempt that has begun keeps its frame. -/
def LaneState.restoreBuffers (old new : LaneState) : LaneState :=
  new.eachTx (fun l t => l.put (txKey t 1) ((old.get (txKey t 1) &&& 0x41F00000) ||| (l.get (txKey t 1) &&& 0x3E0F0000)))

/-- R475, R487: a lane with its persistent entries at their defaults, and what follows from them; `sending` is the
buffer whose frame is on its car bus, which may be `busy` (R309, R325). The Pattern goes off with the buffers as they
stand. -/
def LaneState.restoreNow (l : LaneState) (sending : Option Nat) (busy : Bool) : LaneState :=
  let old := l
  let l := if old.get 0x440002 = 1 then l.patternOff sending else l
  let l := l.eachTx (fun l t => l.keepImage t false)
  let l := l.restoreBuffers { l with reg := restoredRegs l.reg }
  let l := l.clearStations
  let l := [EndId.e1, .e2].foldl (fun l e => if old.enabled e then l else l.enableEnd e) l
  let l := l.eachPin (fun l n => if old.pinFunction n = 0 then l else l.changeFunction n 0)
  let l := if old.get 0x440100 = l.get 0x440100 ∧ old.get 0x440200 = l.get 0x440200 then l
    else l.takeTiming 0x440100 (l.get 0x440100) busy
  let l := [0, 3, 4, 5].foldl (fun l m =>
    if old.planFloor m = l.planFloor m ∧ old.planCeiling m = l.planCeiling m then l
    else l.writeBound m 4 (l.planFloor m)) l
  ((old.contextsOf 2).foldl LaneState.resolveOne l).setRate l.rate

/-- R271, R487: what an image may name: an RW entry, by a value of the entry's size; those of a window's session are read
only (log 41: DEDUCED). -/
def CfgRecord.ok (c : CfgRecord) : Bool :=
  match lookupRow c.index c.sub with
  | none => false
  | some r => decide (r.kind = .rw) && !decide (0x3800 ≤ c.index ∧ c.index ≤ 0x380F)
    && (decide (r.ty = .octets) || decide (c.value.length = tyBytes r.ty))

/-- R488: a record's value lies within its entry's range (log 41: DEDUCED). -/
def CfgRecord.inRange (c : CfgRecord) : Bool :=
  match lookupRow c.index c.sub with
  | none => false
  | some r => decide (r.ty = .octets) || (let v := fromBytes c.value; decide (r.min ≤ v ∧ v ≤ r.max ∧ v &&& r.resv = 0))

/-- One record at one lane: the outcome of a write on the path of an image (log 41: DEDUCED). -/
def State.writeRecord (s : State) (x : LaneId) (c : CfgRecord) : State :=
  let a : Acc := ⟨.image, .lane x⟩
  match lookupRow c.index c.sub with
  | none => s.abort abFormat
  | some r =>
    if r.ty = .octets then s.octetsWrite a c.index c.sub c.value
    else if r.ty = .bool ∧ 1 < fromBytes c.value then s.abort abRange
    else s.rwWrite a x r c.index c.sub (fromBytes c.value)

/-- R486, R491: lane x takes the record. -/
def CfgRecord.reaches (c : CfgRecord) (x : LaneId) : Bool := decide (c.sel = 0 ∨ c.sel = laneBit x + 1)

/-- R488: a record of the other lane alone, as lane x checks it: that lane's own range and the rights of a Maintainer.
Where that lane cannot take a write now, its row's range counts (log 41: DEDUCED). -/
def State.checkOther (s : State) (x : LaneId) (c : CfgRecord) : State :=
  let t := s.writeRecord x.peer c
  if t.ans.code = abLane ∨ t.ans.code = abState ∨ t.ans.code = abBusy then
    (if c.inRange then s.answer 0 else s.abort abRange)
  else t

/-- R487, R488: the records in body order as lane x validates them. The first that fails leaves its code and its entry
(log 41: DEDUCED). -/
def State.checkRecords (s : State) (x : LaneId) : List CfgRecord → State
  | [] => s.answer 0
  | c :: cs =>
    let t := if c.reaches x then s.writeRecord x c else s.checkOther x c
    if t.ans.code = 0 then t.checkRecords x cs
    else { t with ans := ⟨t.ans.code, 0, toBytes 2 c.index ++ toBytes 1 c.sub⟩ }

/-- R487: the defaults of a lane for an image: what follows at the node from them: the conflicts of the plan (R459), the
disagreements (R351) and a declaration of cab active that ends with the pins' functions (R352). -/
def State.restoreLane (s : State) (x : LaneId) : State :=
  let t := s.onCarBus
  let u := t.2.carBusBusy
  let own := s.cabActive x
  ((((u.2).upd x (fun l => l.restoreNow (t.1.map Fin.val) (t.1.isSome || u.1))).followConflicts x).refreshDisagreements).checkCab x own

/-- R487: an image has flag [0]: it takes the defaults first. -/
def imageRestores (img : List Byte) : Bool := decide (numAt img 7 1 = 1)

/-- R485: the records of an image. -/
def imageRecords (img : List Byte) : Option (List CfgRecord) :=
  cfgRecords (numAt img 20 4) (slice img 48 (img.length - 112))

/-- R130: a lane's rate ceiling is not a slower code than its floor. -/
def State.ratesOk (s : State) (x : LaneId) : Bool := decide (s.get x 0x200300 ≤ s.get x 0x200200)

/-- R487, R488: the records of a checked image at lane x: the layout of every record, then the values. The code of the
first failure stands in `ans` (log 41: DEDUCED). -/
def State.imageBody (s : State) (x : LaneId) (img : List Byte) : State :=
  match imageRecords img with
  | none => s.abort abFormat
  | some cs =>
    if !cs.all CfgRecord.ok then s.abort abFormat
    else
      let t := (if imageRestores img then (s.restoreModule).restoreLane x else s).checkRecords x cs
      if t.ans.code ≠ 0 ∨ (t.ratesOk x && t.ratesOk x.peer) = true then t else s.abort abRange

/-- R488: the validation of an image at lane x, with what it leaves there if it is valid. -/
def State.imageOutcome (s : State) (x : LaneId) (img : List Byte) : State :=
  let c := s.imageCheck x img
  if c = 0 then s.imageBody x img else s.abort c

/-- Data of event 0041h (R432). -/
def imageData (code : Nat) (img : List Byte) : List Byte :=
  toBytes 1 (if code = 0 then 1 else 2) ++ toBytes 3 0 ++ toBytes 4 code ++ toBytes 4 (crc32c img)

/-- A record of an entry that the module holds once: it is written once, whatever the lanes. -/
def CfgRecord.shared (c : CfgRecord) : Bool :=
  (lookupRow c.index c.sub).any (fun r => decide (r.scope = .module) || r.isSession)

/-- R487, R491: one record takes effect at the lanes that it reaches among those given (log 41: DEDUCED). -/
def State.takeRecord (s : State) (xs : List LaneId) (c : CfgRecord) : State :=
  let ys := xs.filter c.reaches
  (if c.shared then ys.take 1 else ys).foldl (fun s y => s.writeRecord y c) s

/-- R478, R487, R491: a valid image takes effect at the lanes given, in one step: the defaults, then the records in body
order. -/
def State.takeImage (s : State) (xs : List LaneId) (img : List Byte) : State :=
  let s := if xs ≠ [] ∧ imageRestores img = true then xs.foldl State.restoreLane s.restoreModule else s
  ((imageRecords img).getD []).foldl (fun s c => s.takeRecord xs c) s

/-- R488, R489: the outcome of an image at lane x: its counter and its label, or the refusal; and event 0041h (log 23:
DEDUCED, 55: DEDUCED). -/
def State.imageDone (s : State) (x : LaneId) (o : Answer) (img : List Byte) : State :=
  let s :=
    if o.code = 0 then (s.put x 0x101201 (numAt img 16 4)).updSec (fun k => { k with label := slice img 32 16 })
    else if o.code = abState then s.refuse ⟨.image, .lane x⟩ (numAt o.data 0 2) (numAt o.data 2 1)
    else s
  (s.record x 0x0041 (imageData o.code img)).follow x 27 (decide (o.code ≠ 0))

/-- R478, R488, R491: each of the lanes xs validates an image, and the valid ones take it, all of it in one step; lane x,
in possession or the one named, answers with its own outcome (log 41: DEDUCED). -/
def State.applyImage (s : State) (x : LaneId) (xs : List LaneId) (img : List Byte) : State :=
  let valid := xs.filter (fun y => decide ((s.imageOutcome y img).ans.code = 0))
  let t := s.takeImage valid img
  let t := xs.foldl (fun (t : State) y => t.imageDone y (s.imageOutcome y img).ans img) t
  let code := (s.imageOutcome x img).ans.code
  if code = 0 then t.answer 0 else t.abort code

/-- The lanes that an image reaches: both awake ones through the acting selector, else the one named (R491). -/
def State.imageLanes (s : State) (sel : Sel) : List LaneId :=
  match sel with
  | .acting => [LaneId.A, .B].filter s.available
  | .lane x => [x]

/-- R381, R487, R491: the image is newer than the writes still owed to a lane that misses it: of the entries that it names
there, or sets to their defaults, none is owed any more. -/
def State.supersede (s : State) (x : LaneId) (img : List Byte) : State :=
  let named := ((imageRecords img).getD []).filter (fun c => c.reaches x)
  { s with owed := s.owed.filter (fun e => decide (e.1 ≠ x) ||
      !((imageRestores img && restoredRegister e.2) || named.any (fun c => decide (key c.index c.sub = e.2)))) }

/-- APPLY_CONFIGURATION (R478, R484 to R491): entry 1631h, the image length. A lane that is not awake takes the image
later. -/
def doApplyConfiguration (acc : Acc) (len : BitVec 32) (s : State) : State :=
  s.command acc 0x1631 0 2 (fun _ => !s.rolling) (decide (1 ≤ len.toNat ∧ len.toNat ≤ 1048576)) (fun x =>
    let img := s.sec.staged len.toNat
    let xs := s.imageLanes acc.sel
    let t := s.applyImage x xs img
    if t.ans.code = 0 ∧ acc.sel = .acting ∧ xs.length < 2 then
      (t.updSec (fun k => { k with missed := k.missed ++ [(x.peer, img)] })).supersede x.peer img
    else t)

/-- R68, R491: what a lane takes of an image that it missed: the records of its own entries, and those of node entries that
name it alone. Every other node entry comes from the lane in possession, with what was written since, and the module's
entries took the image when it was applied. -/
def CfgRecord.isOwn (c : CfgRecord) (x : LaneId) : Bool :=
  c.reaches x && !c.shared &&
    (lookupRow c.index c.sub).any (fun r => decide (r.scope = .lane) || decide (c.sel ≠ 0))

/-- A lane with the entries that a condition names as its peer holds them (log 49: DEDUCED). -/
def LaneState.copyEntries (l peer : LaneState) (which : Nat → Bool) : LaneState :=
  let own := { l with reg := l.reg.filter (fun e => !which e.1) }
  (peer.reg.filter (fun e => which e.1)).foldl (fun l e => l.put e.1 e.2) own

/-- R68, R475, R491: the defaults of a lane's own entries for an image that it missed: its node entries stand as the
mirror has brought them. -/
def State.restoreMissed (s : State) (x : LaneId) : State :=
  let t := s.restoreLane x
  let node (k : Nat) : Bool := (entryRow (k / 256) (k % 256)).any (fun r => decide (r.scope = .node))
  t.upd x (fun l => l.copyEntries (s.lane x) node)

/-- R491: an image that lane x missed: the values take effect if lane x finds them valid, and event 0041h is recorded with
the outcome (log 41: DEDUCED). -/
def State.takeMissed (s : State) (x : LaneId) (img : List Byte) : State :=
  let own := ((imageRecords img).getD []).filter (fun c => c.isOwn x)
  let t := (if imageRestores img then s.restoreMissed x else s).checkRecords x own
  (if t.ans.code = 0 then t else s).imageDone x t.ans img

/-- R491: a lane takes the images that it missed, at its mirror resync, oldest first (log 41: DEDUCED). -/
def State.takeMissedImages (s : State) (x : LaneId) : State :=
  let t := ((s.sec.missed.filter (fun e => decide (e.1 = x))).map Prod.snd).foldl (fun t img => t.takeMissed x img) s
  { t.updSec (fun k => { k with missed := k.missed.filter (fun e => decide (e.1 ≠ x)) }) with ans := s.ans }

/-! ### The aperture's commit (R388) -/

/-- The access that a channel's binding names (log 43: DESIGN CHOICE). -/
def State.binding (s : State) (c : Nat) : Nat × Nat × Sel :=
  let b := s.mget (key 0x5900 (16 + c))
  (b / 65536, field b 8 8, match field b 6 2 with
    | 1 => .lane .A
    | 2 => .lane .B
    | _ => .acting)

/-- A binding names an OCTETS entry (log 43: DESIGN CHOICE). -/
def bindsOctets (index sub : Nat) : Bool := ((entryRow index sub).map (fun r => decide (r.ty = .octets))).getD false

/-- APERTURE_COMMIT (R388): entry 5900h:20h + c: staging bytes 0 to L - 1 become the entry's value, in one step
(log 43: DESIGN CHOICE). -/
def doApertureCommit (acc : Acc) (c : Fin 16) (len : BitVec 32) (s : State) : State :=
  s.moduleCommand acc 0x5900 (32 + c.val) 1 true (decide (1 ≤ len.toNat ∧ len.toNat ≤ 65536))
    (let (index, sub, sel) := s.binding c.val
     if !bindsOctets index sub then s.abort abRange
     else
       let data := tabGetAll (fun _ => 0) (c.val * 65536) len.toNat s.host.staging
       let t := s.octetsWrite ⟨acc.path, sel⟩ index sub data
       if octetsMax index sub < len.toNat ∧ (t.ans.code = abRange ∨ t.ans.code = 0) then s.abort abTooLong else t)

/-! ### Commands (R469, R470) -/

/-- RESTORE_DEFAULTS (R475): the restore is pending until the lane's next reset. -/
def doRestoreDefaults (acc : Acc) (v : Byte) (s : State) : State :=
  s.command acc 0x1011 0 2 (fun _ => true) (decide (v.toNat = 1)) (fun _ =>
    (s.fanOut acc.sel (fun l => l.put 0x101002 (withBit (l.get 0x101002) 1 true))).answer 0)

/-- R475's entry 1641h through the dictionary: the image's protocol bytes, which the entry does not carry, are free
values (log 6: DESIGN CHOICE). -/
def State.beginUpdate (s : State) (a : Acc) (v : Nat) : State :=
  let (p, s1) := s.free 8
  let (lo, s2) := s1.free 8
  let (hi, s3) := s2.free 8
  doBeginUpdate a (BitVec.ofNat 32 v) (BitVec.ofNat 8 p) (BitVec.ofNat 8 lo) (BitVec.ofNat 8 hi) s3

/-- Commands of the module, the lanes, the plan, the faults and the recorder (log 42: DEDUCED). -/
def State.laneCommand (s : State) (a : Acc) (index sub v : Nat) : Option State :=
  let b := BitVec.ofNat 8 v
  if index = 0x100A then some (doLocate a (BitVec.ofNat 16 v) s)
  else if index = 0x1011 then some (doRestoreDefaults a b s)
  else if index = 0x1103 then some (s.ranged (decide (v = 1)) (doPlannedChangeover a s))
  else if index = 0x1104 then some (s.ranged (decide (v = 1)) (doLaneReset a s))
  else if index = 0x1211 then
    some (if v = 1 then doPeerLaneWake a s else s.ranged (decide (v = 0)) (doPeerLaneSleep a s))
  else if index = 0x1220 then some (if v = 2 then doTrainSleep a s else s.ranged (decide (v = 1)) (doLocalSleep a s))
  else if index = 0x1302 then some (doRePlanNow a b s)
  else if index = 0x1406 then some (doAcknowledge a (decide (sub = 2)) (BitVec.ofNat 16 v) [] s)
  else if index = 0x1409 then some (doInject a (decide (sub = 2)) b s)
  else if index = 0x140A then some (doFullReactionArm a (decide (sub = 2)) b s)
  else if index = 0x1506 then some (doClear a b s)
  else if index = 0x1509 then some (doTimeTagRestore a b s)
  else if index = 0x1631 then some (doApplyConfiguration a (BitVec.ofNat 32 v) s)
  else if index = 0x1641 then some (s.beginUpdate a v)
  else if index = 0x1642 then some (s.ranged (decide (v = 1)) (doActivate a s))
  else if index = 0x1643 then some (s.ranged (decide (v = 1)) (doAbandonUpdate a s))
  else none

/-- A write of a CMD entry: the command of that entry. -/
def State.cmdWrite (s : State) (a : Acc) (index sub v : Nat) : State :=
  let b := BitVec.ofNat 8 v
  match s.laneCommand a index sub v with
  | some t => t
  | none =>
    if index = 0x2010 then doRunDiagnostics a b s
    else if index = 0x2420 then doRollRequest a b s
    else if 0x3800 ≤ index ∧ index ≤ 0x387F then doSessionStart a (finOf 127 (index - 0x3800)) b s
    else if index = 0x4408 then doPatternApply a b s
    else if 0x5000 ≤ index ∧ index ≤ 0x5017 then doLearn a (finOf 23 (index - 0x5000)) b s
    else if index = 0x5110 then doSetOutputs a (BitVec.ofNat 32 v) s
    else if index = 0x5111 then doClearOutputs a (BitVec.ofNat 32 v) s
    else if sub = 15 then doEndHostLinkSession a b s
    else doApertureCommit a (finOf 15 (sub - 32)) (BitVec.ofNat 32 v) s

/-! ### Writes of any entry (R469, R480) -/

/-- A write of a value that fits the entry's type (log 19: DEDUCED). -/
def State.typedWrite (s : State) (a : Acc) (index sub v : Nat) : State :=
  match lookupRow index sub with
  | none => s.abort abUnknown
  | some r =>
    if index = 0x1104 then s.cmdWrite a index sub v
    else match s.reach r a.sel with
      | none => s.abort abLane
      | some x =>
        if r.kind = .cmd then s.cmdWrite a index sub v
        else if s.role a.path < r.role then s.abort abDenied
        else if r.kind = .ro then s.abort abReadOnly
        else if r.ty = .octets then s.abort abRange
        else s.rwWrite (if r.isSession then ⟨a.path, .acting⟩ else a) x r index sub v

/-- The width of an entry's values in bits; OCTETS entries have none. -/
def valueBits (index sub : Nat) : Nat := ((lookupRow index sub).map (fun r => tyBits r.ty)).getD 64

/-- A write of an entry with a number: one that the type does not hold is out of range (R382, R468) (log 17: DEDUCED). -/
def State.dictWrite (s : State) (a : Acc) (index sub v : Nat) : State :=
  let w := valueBits index sub
  if v < 2 ^ w then s.typedWrite a index sub v else s.outOfRange (s.typedWrite a index sub (v % 2 ^ w))

/-- A write of an entry with bytes, as messages carry them (R251): the type's size, or an OCTETS content. -/
def State.dictWriteBytes (s : State) (a : Acc) (index sub : Nat) (d : List Byte) : State :=
  match lookupRow index sub with
  | none => s.abort abUnknown
  | some r =>
    if r.ty = .octets then s.octetsWrite a index sub d
    else s.ranged (decide (d.length = tyBytes r.ty)) (s.dictWrite a index sub (fromBytes d))

/-- REGISTER_WRITE (R467 to R480): a write of any typed entry (log 17: DEDUCED). -/
def doRegisterWrite (acc : Acc) (index : BitVec 16) (sub : Byte) (v : BitVec 64) (s : State) : State :=
  s.dictWrite acc index.toNat sub.toNat v.toNat

def execRestoreDefaults (acc : Acc) (v : Byte) (s : State) : Out := .next (s.through acc (doRestoreDefaults acc v s))
def execApplyConfiguration (acc : Acc) (len : BitVec 32) (s : State) : Out := .next (s.through acc (doApplyConfiguration acc len s))
def execApertureCommit (acc : Acc) (c : Fin 16) (len : BitVec 32) (s : State) : Out :=
  .next (s.through acc (doApertureCommit acc c len s))
def execRegisterWrite (acc : Acc) (index : BitVec 16) (sub : Byte) (v : BitVec 64) (s : State) : Out :=
  .next (s.through acc (doRegisterWrite acc index sub v s))

end Sys2Proof.Machine
end

