-- ==== Sys2Proof/Machine/Target.lean ====
section
/-! DEFINITION. Messages at the target: requests, answer records, transfer buffers, locks, the mailbox, the sleep
announcement (R250 to R270). -/

namespace Sys2Proof.Machine

/-! ### Answer records (R248, R261) -/

/-- R248: transaction a is newer than b. -/
def newer32 (a b : Nat) : Bool := let d := (a + 2 ^ 32 - b % 2 ^ 32) % 2 ^ 32; decide (0 < d ∧ d < 2 ^ 31)

/-- The record of a requester and session. -/
def LaneState.answerRec (l : LaneState) (uid ses : Nat) : Option AnswerRec :=
  l.msg.records.find? (fun r => decide (r.uid = uid ∧ r.session = ses))

/-- R261: a record for this key exists, is free, or may be replaced: it is at least 1 s old. -/
def LaneState.recordRoom (l : LaneState) (now uid ses : Nat) : Bool :=
  (l.answerRec uid ses).isSome || decide (l.msg.records.length < 1024)
    || l.msg.records.any (fun r => decide (r.time + 1000000000 ≤ now))

/-- A record is kept, in the order of execution; the oldest gives way to a new key (R261). -/
def LaneState.keepRecord (l : LaneState) (r : AnswerRec) : LaneState :=
  let others := l.msg.records.filter (fun q => !decide (q.uid = r.uid ∧ q.session = r.session))
  let kept := if others.length < 1024 then others else others.drop 1
  { l with msg := { l.msg with records := kept ++ [r] } }

/-! ### Transfer buffers (R257 to R259) -/

/-- The buffer of a requester and session. -/
def LaneState.buffer (l : LaneState) (uid ses : Nat) : Option Transfer :=
  l.msg.buffers.find? (fun t => decide (t.uid = uid ∧ t.session = ses))

/-- Where a lane keeps, for a requester and session, the transaction whose buffer was freed last. -/
def freedKey (uid ses : Nat) : Nat := uid * 65536 + ses

/-- R259: the buffer of a requester and session is freed; its transaction is over (log 63: DEDUCED). -/
def LaneState.freeBuffer (l : LaneState) (uid ses : Nat) : LaneState :=
  match l.buffer uid ses with
  | none => l
  | some t => { l with msg := { l.msg with
      buffers := l.msg.buffers.filter (fun t => !decide (t.uid = uid ∧ t.session = ses))
      freed := tabSet (fun _ => 0) (freedKey uid ses) (t.transaction + 1) l.msg.freed } }

/-- A buffer holds a transfer, in place of what it held for that requester and session (log 38: DEDUCED). -/
def LaneState.holdBuffer (l : LaneState) (t : Transfer) : LaneState :=
  let others := l.msg.buffers.filter (fun q => !decide (q.uid = t.uid ∧ q.session = t.session))
  { l with msg := { l.msg with buffers := others ++ [t] } }

/-- R259: the buffer of this transaction was the last one freed for the requester and session (log 63: DEDUCED). -/
def LaneState.isFreed (l : LaneState) (uid ses transaction : Nat) : Bool :=
  decide (tabGet (fun _ => 0) (freedKey uid ses) l.msg.freed = transaction + 1)

/-- R259: a buffer is free for a requester and session. -/
def LaneState.bufferRoom (l : LaneState) (uid ses : Nat) : Bool :=
  (l.buffer uid ses).isSome || decide (l.msg.buffers.length < 16)

/-- The transfer that a request describes, with no data yet. -/
def Transfer.ofMsg (m : MsgFrame) : Transfer where
  uid := m.srcUid.toNat
  session := m.session.toNat
  transaction := m.transaction.toNat
  write := isWriteOp m.op.toNat
  op := m.op.toNat
  selection := m.selection.toNat
  object := m.object.toNat
  length := m.length.toNat
  data := []
  parts := []
  acked := 0
  sinceAck := 0
  srcPos := m.srcPos.toNat

/-! ### Answers (R254, R256) -/

/-- A response or acknowledge frame of the target. The Attempt field counts the sendings of a request, and the rule gives an
answer no value there: the model puts 0 (log 64: DESIGN CHOICE). -/
def State.answerFrame (s : State) (t : Transfer) (kind status len off : Nat) (data : List Byte) (last : Bool) : MsgFrame :=
  let l := s.lane (s.holder.getD .A)
  { srcUid := BitVec.ofNat 64 s.uid
    srcPos := BitVec.ofNat 16 l.position
    stamp := BitVec.ofNat 32 l.sentStamp
    session := BitVec.ofNat 16 t.session
    seq := BitVec.ofNat 16 (s.session t.session).seq
    lastSeg := last
    kind := BitVec.ofNat 8 kind
    op := BitVec.ofNat 8 t.op
    selection := BitVec.ofNat 8 t.selection
    attempt := 0
    target := if bitAt t.selection 5 then BitVec.ofNat 64 l.position else BitVec.ofNat 64 s.uid
    transaction := BitVec.ofNat 32 t.transaction
    object := BitVec.ofNat 32 t.object
    offset := BitVec.ofNat 32 off
    length := BitVec.ofNat 32 len
    status := BitVec.ofNat 32 status
    data := data }

/-- An answer goes out to the requester's node, with the next sequence number of the sender and session number (R137). -/
def State.sendAnswer (s : State) (t : Transfer) (kind status len off : Nat) (data : List Byte) (last : Bool) : State :=
  let s := s.updSession t.session (fun k => { k with seq := (k.seq + 1) % 65536 })
  s.sendMsg t.uid t.srcPos (s.answerFrame t kind status len off data last)

/-- An answer without data, from the lane in possession alone (R254). -/
def State.answerStatus (s : State) (x : LaneId) (t : Transfer) (status : Nat) : State :=
  if s.holder = some x then s.sendAnswer t 2 status t.length 0 [] true else s

/-- The segments of a held result from an offset on (R257). -/
def State.sendResult (s : State) (t : Transfer) (off : Nat) : State :=
  if t.data = [] then s.sendAnswer t 2 0 0 0 [] true
  else (segmentsFrom t.data off).foldl (fun s g => s.sendAnswer t 2 0 t.data.length g.1 g.2.1 g.2.2) s

/-! ### Which lanes (R255, R262) -/

/-- The lane whose state an operation addresses, seen from lane x: a standby's own is reached over the mirror. -/
def State.addressed (s : State) (x : LaneId) (sel : Sel) : Option LaneId :=
  match sel with
  | .acting => some x
  | .lane y => if s.available y && (decide (y = x) || s.mirrorsTo x) then some y else none

/-! ### Locks (R265, R266) -/

/-- Operations of the locked sequences. -/
def lockOp (op : Nat) : Bool := decide (5 ≤ op ∧ op ≤ 10)

/-- Index and subindex of an Object field (R249). -/
def objectIndex (o : Nat) : Nat := o / 65536
def objectSub (o : Nat) : Nat := o / 256 % 256

/-- The granule of an operation, none where it does not fall within one (R265). -/
def granuleOf (op object length : Nat) : Option Nat :=
  if entryOp op then some (objectIndex object * 16 + objectSub object / 16)
  else if object / 64 = (object + (length - 1)) / 64 then some (object / 64) else none

/-- A granule is free again. -/
def LaneState.freeLock (l : LaneState) (entry : Bool) (granule : Nat) : LaneState :=
  { l with msg := { l.msg with locks := l.msg.locks.filter (fun k => !decide (k.entry = entry ∧ k.granule = granule)) } }

/-- R265, R266: what a locked operation that succeeded leaves of the locks: granted, or released (log 44: DEDUCED). -/
def State.lockAfter (s : State) (x : LaneId) (op uid ses granule : Nat) : State :=
  s.updMirrored x (fun l =>
    if op = 5 ∨ op = 7 then l.grantLock ⟨uid, ses, entryOp op, granule⟩
    else if (l.lockOn (entryOp op) granule).any (fun k => decide (k.uid = uid ∧ k.session = ses)) then
      l.freeLock (entryOp op) granule
    else l)

/-! ### The mailbox (R267) -/

/-- Bytes that a lane's queue holds. -/
def LaneState.mailBytes (l : LaneState) : Nat := (l.msg.mail.map (fun m => m.data.length)).foldl (· + ·) 0

/-- A message joins both lanes' queues (R262, R267). -/
def State.queueMail (s : State) (t : Transfer) (data : List Byte) : State :=
  let f (l : LaneState) : LaneState :=
    if l.ready then
      ({ l with msg := { l.msg with
        mail := l.msg.mail ++
          [Mail.mk (t.object % 65536) t.srcPos t.uid (l.trainTime % 2 ^ 32) data t.session t.transaction] } }).inc 0x390100
    else l
  s.updBoth f

/-- R267: a message to the host: queued whole, or refused (log 23: DEDUCED). -/
def State.mailbox (s : State) (x : LaneId) (t : Transfer) (data : List Byte) : State :=
  let l := s.lane x
  if l.get 0x390400 = 0 then (s.refuse ⟨.remote, .lane x⟩ 0x3904 0).putNode 0x390200 (countUp 0x390200 (l.get 0x390200))
  else if 64 ≤ l.msg.mail.length ∨ 65536 < l.mailBytes + data.length then
    (s.putNode 0x390200 (countUp 0x390200 (l.get 0x390200))).abort abMailbox
  else if t.object / 65536 ≠ 0 then s.abort abRange
  else (s.queueMail t data).answer 0

/-! ### Execution of an operation (R250, R251, R255, R264) -/

/-- R251: the part of a read entry's value that a Length takes: of a typed entry all of it, of an OCTETS entry at most
the Length. -/
def readLengthOk (index sub len : Nat) : Bool :=
  match lookupRow index sub with
  | none => false
  | some r => if r.ty = .octets then decide (1 ≤ len ∧ len ≤ 65536) else decide (len = tyBytes r.ty)

/-- A read of an entry by a message, with every check before it executes. -/
def State.opReadEntry (s : State) (a : Acc) (object len : Nat) (prefetch : Bool) : State :=
  let index := objectIndex object
  let sub := objectSub object
  let t := s.dictRead a index sub true
  if t.ans.code ≠ 0 then t
  else if prefetch && ((entryRow index sub).map Row.side).getD false then s.abort abPrefetch
  else if object % 256 ≠ 0 ∨ readLengthOk index sub len = false then s.abort abRange
  else t.answerBytes ((t.answered index sub).take len)

/-- A write of an entry by a message. -/
def State.opWriteEntry (s : State) (a : Acc) (object : Nat) (data : List Byte) : State :=
  s.ranged (decide (object % 256 = 0)) (s.dictWriteBytes a (objectIndex object) (objectSub object) data)

/-- R251: an operation on exchange memory lies inside it. -/
def xmemOk (object len : Nat) : Bool := decide (object + len ≤ 0x100000)

/-- A write of exchange memory at both awake lanes (R255, R380) (log 12: DESIGN CHOICE). -/
def State.writeXmem (s : State) (addr : Nat) (data : List Byte) : State :=
  s.fanOut .acting (fun l => { l with xmem := tabSetAll (fun _ => 0) addr data l.xmem })

/-- A lane's exchange memory (R380): what nothing has written reads 0 (assumption log) (log 12: DESIGN CHOICE). -/
def LaneState.readXmem (l : LaneState) (addr n : Nat) : List Byte := tabGetAll (fun _ => 0) addr n l.xmem

/-- R266: the checks of a release of an entry's lock. It reads nothing. -/
def State.opRelease (s : State) (a : Acc) (object : Nat) : State :=
  let index := objectIndex object
  match lookupRow index (objectSub object) with
  | none => s.abort abUnknown
  | some r =>
    if (s.reach r a.sel).isNone then s.abort abLane
    else if s.role a.path < readRole index then s.abort abDenied
    else if object % 256 ≠ 0 then s.abort abRange
    else s.answer 0

/-- An operation on an entry, at the lane that an access names. -/
def State.entryOpAt (s : State) (a : Acc) (t : Transfer) (data : List Byte) : State :=
  match t.op with
  | 1 => s.opReadEntry a t.object t.length (bitAt t.selection 4)
  | 7 => s.opReadEntry a t.object t.length (bitAt t.selection 4)
  | 10 => s.opRelease a t.object
  | _ => s.opWriteEntry a t.object data

/-- R255, R480: an operation on an entry: an entry that does not exist comes before a lane that is not available, and a
module-level entry answers the same whatever the selector. -/
def State.runEntry (s : State) (x : LaneId) (path : Path) (sel : Sel) (t : Transfer) (data : List Byte) : State :=
  match lookupRow (objectIndex t.object) (objectSub t.object) with
  | none => s.abort abUnknown
  | some r =>
    if r.scope = .module || r.isSession then s.entryOpAt ⟨path, .acting⟩ t data
    else if (s.addressed x sel).isNone then s.abort abLane
    else s.entryOpAt ⟨path, sel⟩ t data

/-- An operation on exchange memory or the mailbox, through the lane that a selector names. -/
def State.runMemory (s : State) (x : LaneId) (sel : Sel) (t : Transfer) (data : List Byte) : State :=
  match s.addressed x sel with
  | none => s.abort abLane
  | some y =>
    match t.op with
    | 3 => if xmemOk t.object t.length then s.answerBytes ((s.lane y).readXmem t.object t.length) else s.abort abAddress
    | 5 => if xmemOk t.object t.length then s.answerBytes ((s.lane y).readXmem t.object t.length) else s.abort abAddress
    | 4 => if xmemOk t.object data.length then (s.writeXmem t.object data).answer 0 else s.abort abAddress
    | 6 => if xmemOk t.object data.length then (s.writeXmem t.object data).answer 0 else s.abort abAddress
    | 9 => if xmemOk t.object 1 then s.answer 0 else s.abort abAddress
    | 16 => s.mailbox x t data
    | _ => s.abort abRange

/-- What an operation does at lane x without its lock: its answer stands in `ans`. A reserved lane selector is out of range
(R250). -/
def State.runOp (s : State) (x : LaneId) (path : Path) (t : Transfer) (data : List Byte) : State :=
  let run (sel : Sel) : State := if entryOp t.op then s.runEntry x path sel t data else s.runMemory x sel t data
  match selOf t.selection with
  | none => s.outOfRange (run .acting)
  | some sel => run sel

/-- R265, R266: a locked operation at lane x: the checks that stand before "busy", the lock, the other checks, the
effect. A refusal because of a lock counts (entry 39F0h:04h). "Lock lost", and "address out of range" for an operation
that is not within one granule, have no place in the order of R480; they come before "value out of range" (log 66:
DESIGN CHOICE). -/
def State.lockedOp (s : State) (x : LaneId) (path : Path) (t : Transfer) (data : List Byte) : State :=
  let r := s.runOp x path t data
  if r.ans.code ≠ 0 ∧ beforeRange r.ans.code then r
  else match granuleOf t.op t.object t.length with
    | none => s.abort abAddress
    | some g =>
      let c := (s.lane x).lockCode t.op t.uid t.session g
      if c = abBusy then (s.inc x 0x39F004).abort c
      else if c ≠ 0 then s.abort c
      else if r.ans.code ≠ 0 then r
      else r.lockAfter x t.op t.uid t.session g

/-- Lengths that an operation may name (R249, R267): 0, or the code of the refusal. -/
def opLengthCode (op len : Nat) : Nat :=
  if isReleaseOp op then (if len = 0 then 0 else abRange)
  else if op = 16 ∧ 4096 < len then abTooLong
  else if len = 0 ∨ 65536 < len then abRange
  else 0

/-- An operation at lane x, locked or plain, with the check of its Length in the order of R480. -/
def State.operate (s : State) (x : LaneId) (path : Path) (t : Transfer) (data : List Byte) : State :=
  let r := if lockOp t.op then s.lockedOp x path t data else s.runOp x path t data
  let c := opLengthCode t.op t.length
  if c = 0 ∨ (r.ans.code ≠ 0 ∧ beforeRange r.ans.code) then r else s.abort c

/-! ### Requests (R250 to R264) -/

/-- The read that a transfer names has the side-effect attribute. -/
def Transfer.side (t : Transfer) : Bool :=
  entryOp t.op && isReadOp t.op && ((entryRow (objectIndex t.object) (objectSub t.object)).map Row.side).getD false

/-- Prefetch refusals are counted (entry 39F0h:05h). -/
def State.countRefusal (s : State) (x : LaneId) (code : Nat) : State := if code = abPrefetch then s.inc x 0x39F005 else s

/-- R259, R261: a request that needs a record or a buffer and finds none is answered "busy". -/
def State.noRoom (s : State) (x : LaneId) (t : Transfer) : Bool :=
  !(s.lane x).recordRoom s.clock t.uid t.session || (isReadOp t.op && !(s.lane x).bufferRoom t.uid t.session)

/-- The refusals that come before "busy" in the order of R480. -/
def beforeBusy (code : Nat) : Bool := beforeRange code && decide (code ≠ abBusy)

/-- R261 to R263: an executed transaction is recorded at lane x, and over the mirror at its peer (log 44: DEDUCED). -/
def State.recordDone (s : State) (x : LaneId) (t : Transfer) : State :=
  (s.updMirrored x (fun l => l.keepRecord ⟨t.uid, t.session, t.transaction, 0, s.clock, t.side⟩)).inc x 0x39F001

/-- R262: what lane x executes of its own copy of a write whose lane selector is not reserved (R250): node entries,
exchange memory, mail, and lane-specific entries that the selector or the entry's chapter gives it; module-level entries
are the host front's. -/
def Transfer.ownPart (t : Transfer) (x : LaneId) : Bool :=
  t.write && (selOf t.selection).isSome && (!entryOp t.op ||
    (match lookupRow (objectIndex t.object) (objectSub t.object), selOf t.selection with
    | some r, some .acting => decide (r.scope = .node) || (decide (r.scope = .lane) && r.fan)
    | some r, some (.lane y) => decide (r.scope = .node) || (decide (r.scope = .lane) && decide (y = x))
    | _, _ => false))

/-- R262: lane x executes its own copy of a write for itself alone: none where the write does not succeed there
(log 44: DEDUCED). -/
def State.executeOwn (s : State) (x : LaneId) (t : Transfer) (data : List Byte) : Option State :=
  let own := { t with selection := (laneBit x + 1) * 64 + t.selection % 64 }
  let r := s.operate x .remote own data
  if r.ans.code ≠ 0 then none else some ({ s with fresh := r.fresh }.setLane x (r.lane x))

/-- R262: the peer has executed a write that its selector gives to the peer: the holder answers with the peer's status, and
executes for itself what mirroring would bring it (log 44: DEDUCED). -/
def State.afterStandby (s : State) (x : LaneId) (t : Transfer) (data : List Byte) : State :=
  (if t.ownPart x then (s.executeOwn x t data).getD s else s).answer 0

/-- R262: the outcome of a transaction at the lane in possession. `done` says that the standby has executed its own copy: it
keeps its state, and where the selector names it, its status is the answer. -/
def State.outcome (s : State) (x : LaneId) (t : Transfer) (data : List Byte) (done : Bool) : State :=
  if done && decide (selOf t.selection = some (.lane x.peer)) then s.afterStandby x t data
  else
    let r := s.operate x .remote t data
    if t.write && (done || !s.mirrorsTo x) then { r.setLane x.peer (s.lane x.peer) with ans := r.ans } else r

/-- R259: the transaction of a write has ended: the buffer that it still has in a lane is free. -/
def LaneState.endTransfer (l : LaneState) (t : Transfer) : LaneState :=
  if (l.buffer t.uid t.session).any (fun b => decide (b.transaction = t.transaction)) then l.freeBuffer t.uid t.session else l

/-- R254, R259, R261 to R263: the lane in possession executes a transaction and answers it; a write's buffers are free with
its end, its standby's too, which learns of it over the mirror. -/
def State.executeHolder (s : State) (x : LaneId) (t : Transfer) (data : List Byte) : State :=
  let done := t.write &&
    ((s.lane x.peer).answerRec t.uid t.session).any (fun r => decide (r.transaction = t.transaction))
  let r := s.outcome x t data done
  let code := r.ans.code
  let busy := s.noRoom x t && !(decide (code ≠ 0) && beforeBusy code)
  let r := if busy then s.inc x 0x39F004 else r
  let r := if t.write then r.updMirrored x (fun l => l.endTransfer t) else r
  if busy then r.answerStatus x t abBusy
  else if code ≠ 0 then (r.countRefusal x code).answerStatus x t code
  else
    let out := r.ans.data
    let r := r.recordDone x t
    if isReadOp t.op then
      let held := { t with data := out, length := out.length }
      let r := if t.side then r.updMirrored x (fun l => l.holdBuffer held) else r.upd x (fun l => l.holdBuffer held)
      r.sendResult held 0
    else r.answerStatus x t 0

/-- R262: a standby executes its copy of a write for itself alone, and records it; it answers nothing (log 44: DEDUCED). -/
def State.executeStandby (s : State) (x : LaneId) (t : Transfer) (data : List Byte) : State :=
  let s := s.upd x (fun l => l.freeBuffer t.uid t.session)
  if !t.ownPart x || !(s.lane x).recordRoom s.clock t.uid t.session then s
  else match s.executeOwn x t data with
    | none => s
    | some r => r.upd x (fun l => (l.keepRecord ⟨t.uid, t.session, t.transaction, 0, s.clock, false⟩).inc 0x39F001)

/-- A transaction whose data is whole is executed at lane x (log 44: DEDUCED). -/
def State.execute (s : State) (x : LaneId) (t : Transfer) (data : List Byte) : State :=
  if s.holder = some x then s.executeHolder x t data else s.executeStandby x t data

/-- R257: an acknowledge of the bytes held without a gap, from the lane in possession. -/
def State.sendAck (s : State) (x : LaneId) (t : Transfer) : State :=
  if s.holder = some x then s.sendAnswer t 3 0 t.length t.data.length [] true else s

/-- R251, R259, R480: what refuses a segmented write that finds no free buffer: the first reason that stands before
"busy", as its first segment shows it, with what that refusal counts and records, else "busy". -/
def State.noBuffer (s : State) (x : LaneId) (m : MsgFrame) : State :=
  let t := Transfer.ofMsg m
  let r := s.operate x .remote t ((m.data ++ List.replicate t.length 0).take t.length)
  if r.ans.code ≠ 0 ∧ beforeBusy r.ans.code then (if s.holder = some x then r.answerStatus x t r.ans.code else s)
  else (s.inc x 0x39F004).answerStatus x t abBusy

/-- R257 to R259: a segment of a write reaches its buffer, the first takes a free one; every eighth without a gap is
acknowledged. -/
def State.segment (s : State) (x : LaneId) (m : MsgFrame) : State :=
  let l := s.lane x
  let t0 := Transfer.ofMsg m
  let open? := (l.buffer t0.uid t0.session).filter (fun t => decide (t.transaction = t0.transaction) && t.write)
  if open?.isNone && !l.bufferRoom t0.uid t0.session then s.noBuffer x m
  else
    let t := open?.getD t0
    let (held, parts, got) := takeSegment t.data t.parts m.offset.toNat m.data
    let due := decide (8 ≤ t.sinceAck + got) && decide (held.length < t.length)
    let t := { t with data := held, parts := parts, sinceAck := (t.sinceAck + got) % 8 }
    let s := s.upd x (fun l => l.holdBuffer t)
    if due then s.sendAck x t else s

/-- R261: a request of the transaction in its record: a write is answered with its status, a read from its held result,
or executed again if it has no side effect. -/
def State.fromRecord (s : State) (x : LaneId) (m : MsgFrame) (r : AnswerRec) : State :=
  let t := Transfer.ofMsg m
  if s.holder ≠ some x then s
  else if !isReadOp t.op then (s.inc x 0x39F002).answerStatus x t r.status
  else match ((s.lane x).buffer t.uid t.session).filter (fun b => decide (b.transaction = t.transaction) && !b.write) with
    | some held => (s.inc x 0x39F002).sendResult held (min m.offset.toNat held.data.length)
    | none => if t.side then (s.inc x 0x39F002).answerStatus x t abChangeover else s.executeHolder x t []

/-- R259: a request of a transaction that is not executed: one of a freed transaction, or older than that of the buffer, is
discarded and counted; a newer one frees the buffer. A write waits for its segments, unless its Length allows none. -/
def State.newRequest (s : State) (x : LaneId) (m : MsgFrame) : State :=
  let t := Transfer.ofMsg m
  let l := s.lane x
  let b := l.buffer t.uid t.session
  if l.isFreed t.uid t.session t.transaction || b.any (fun b => newer32 b.transaction t.transaction) then s.inc x 0x39F003
  else
    let stale := b.any (fun b => decide (b.transaction ≠ t.transaction))
    let s := if stale then s.upd x (fun l => l.freeBuffer t.uid t.session) else s
    if t.write ∧ opLengthCode t.op t.length = 0 ∧ m.data.length < t.length then s.segment x m
    else s.execute x t m.data

/-- A request against the buffers and records of lane x (R259, R261) (log 44: DEDUCED). -/
def State.judgeRequest (s : State) (x : LaneId) (m : MsgFrame) : State :=
  let t := Transfer.ofMsg m
  if !knownOp t.op then s.answerStatus x t abRange
  else match (s.lane x).answerRec t.uid t.session with
    | none => s.newRequest x m
    | some r =>
      if r.transaction = t.transaction then s.fromRecord x m r
      else if newer32 t.transaction r.transaction then s.newRequest x m
      else s.inc x 0x39F003

/-- R253: the addressing of a request that reaches a target lane: by position with the target's stamp and position, by UID
with its own UID. -/
def State.addressRequest (s : State) (x : LaneId) (m : MsgFrame) : State :=
  let l := s.lane x
  if bitAt m.selection.toNat 5 then
    if m.stamp.toNat = l.stamp ∧ m.target.toNat = l.position ∧ l.position ≠ 0 then s.judgeRequest x m
    else if s.holder = some x then (s.inc x 0x39F006).answerStatus x (Transfer.ofMsg m) abTopology
    else s
  else if m.target.toNat ≠ s.uid then s.discardMsg x
  else s.judgeRequest x m

/-- MESSAGE_REQUEST (R250, R253, R261): a target lane receives a request. -/
def doMessageRequest (x : LaneId) (m : MsgFrame) (s : State) : State :=
  if !(s.lane x).ready ∨ m.kind ≠ 1 ∨ 128 ≤ m.session.toNat then s
  else if !msgOk m then s.discardMsg x
  else s.addressRequest x m

/-! ### Acknowledges, cancels, timeouts (R257 to R259, R265) -/

/-- R259: a frame of a transaction that no buffer holds: it counts if its transaction's buffer has been freed, and one
that never had a buffer here, as a read's at a standby, does not. -/
def State.staleFrame (s : State) (x : LaneId) (m : MsgFrame) : State :=
  let l := s.lane x
  let uid := m.srcUid.toNat
  let ses := m.session.toNat
  if l.isFreed uid ses m.transaction.toNat || (l.buffer uid ses).any (fun b => newer32 b.transaction m.transaction.toNat) then
    s.inc x 0x39F003
  else s

/-- R258: an acknowledge of a held result: the rest follows from the offset given, and the final one frees the
buffer. -/
def State.ackResult (s : State) (x : LaneId) (m : MsgFrame) : State :=
  let uid := m.srcUid.toNat
  let ses := m.session.toNat
  match (s.lane x).buffer uid ses with
  | none => s.staleFrame x m
  | some t =>
    let off := m.offset.toNat
    if t.transaction ≠ m.transaction.toNat ∨ t.write then s.staleFrame x m
    else if t.data.length ≤ off then s.upd x (fun l => l.freeBuffer uid ses)
    else
      let t := { t with acked := max t.acked off }
      let s := s.upd x (fun l => l.holdBuffer t)
      if s.holder = some x then s.sendResult t t.acked else s

/-- SEGMENT_ACK (R257): an acknowledge reaches the sender of segments: the requester of a write, the target of a read. -/
def doSegmentAck (x : LaneId) (m : MsgFrame) (s : State) : State :=
  if !(s.lane x).ready ∨ m.kind ≠ 3 then s
  else if !msgOk m then s.discardMsg x
  else if isWriteOp m.op.toNat then s.toSession x m
  else s.ackResult x m

/-- SEGMENT_GAP_ACK (R257): a gap has persisted for 2 ms at the receiver of segments: at this node's session if the UID is
its own, else in the buffer of that requester and session. -/
def doSegmentGapAck (x : LaneId) (uid : BitVec 64) (n : BitVec 16) (s : State) : State :=
  if uid.toNat = s.uid then
    let k := s.session n.toNat
    if s.holder = some x ∧ n.toNat < 128 ∧ k.isOpen ∧ isReadOp k.op ∧ k.parts ≠ [] then
      s.sendSession n.toNat ((s.resolveTarget k).getD 0) 3 k.data.length [] true
    else s
  else match (s.lane x).buffer uid.toNat n.toNat with
    | none => s
    | some t => if t.write ∧ t.parts ≠ [] then s.sendAck x t else s

/-- R261, R262: a write that is held whole, and whose transaction or a newer one is recorded already, is not executed:
the lane in possession answers it with the recorded status, and a standby discards it. -/
def State.heldRecorded (s : State) (x : LaneId) (t : Transfer) (r : AnswerRec) : State :=
  if r.transaction ≠ t.transaction then s.inc x 0x39F003
  else if s.holder = some x then (s.inc x 0x39F002).answerStatus x t r.status
  else s

/-- SEGMENTED_WRITE_EXECUTE (R258): the whole transfer is held. -/
def doSegmentedWriteExecute (x : LaneId) (uid : BitVec 64) (n : BitVec 16) (s : State) : State :=
  match (s.lane x).buffer uid.toNat n.toNat with
  | none => s
  | some t =>
    if t.uid ≠ 0 ∧ t.write ∧ t.data.length = t.length ∧ (s.lane x).ready then
      match ((s.lane x).answerRec t.uid t.session).filter (fun r => !newer32 t.transaction r.transaction) with
      | none => s.execute x t t.data
      | some r => (s.upd x (fun l => l.freeBuffer t.uid t.session)).heldRecorded x t r
    else s

/-- TRANSFER_BUFFER_TIMEOUT (R259): 500 ms since the transaction's last frame. -/
def doTransferBufferTimeout (x : LaneId) (uid : BitVec 64) (n : BitVec 16) (s : State) : State :=
  s.upd x (fun l => l.freeBuffer uid.toNat n.toNat)

/-- CANCEL (R259): a cancel frees the buffer of its transaction; one for a freed transaction is counted. -/
def doCancel (x : LaneId) (m : MsgFrame) (s : State) : State :=
  let uid := m.srcUid.toNat
  let ses := m.session.toNat
  if !(s.lane x).ready ∨ m.kind ≠ 4 then s
  else if !msgOk m then s.discardMsg x
  else if ((s.lane x).buffer uid ses).any (fun t => decide (t.transaction = m.transaction.toNat)) then
    s.upd x (fun l => l.freeBuffer uid ses)
  else s.staleFrame x m

/-- LOCK_EXPIRY (R265): the 2 ms lease of a lock has run out at a lane. -/
def doLockExpiry (x : LaneId) (entry : Bool) (granule : Nat) (s : State) : State :=
  s.upd x (fun l => l.freeLock entry granule)

/-! ### The host mailbox (R267, R268) -/

/-- MAILBOX_MESSAGE (R253, R262, R267): a complete message reaches a target lane, its data whole. -/
def doMailboxMessage (x : LaneId) (m : MsgFrame) (s : State) : State :=
  let m := { m with kind := 1, op := 16, length := BitVec.ofNat 32 m.data.length }
  if !(s.lane x).ready ∨ 128 ≤ m.session.toNat then s
  else if m.selection.toNat % 16 ≠ 0 then s.discardMsg x
  else s.addressRequest x m

/-- MAILBOX_REMOVE_HEAD (R268): a write of the control word, in both lanes; bits [31:1] are reserved. -/
def doMailboxRemoveHead (v : BitVec 32) (s : State) : State :=
  if !s.awake ∨ s.holder = none then s.abort abLane
  else if 1 < v.toNat then s.abort abRange
  else if v.toNat = 1 then
    (s.fanOut .acting (fun l => { l with msg := { l.msg with mail := l.msg.mail.drop 1 } })).answer 0
  else s.answer 0

/-- MAILBOX_SOURCE_UID_READ (R268): word 0008h: the head's source UID [31:0]; the high word is latched. -/
def doMailboxSourceUidRead (s : State) : State :=
  if !s.awake then s.abort abLane
  else match s.holder with
    | none => s.abort abLane
    | some x =>
      let u := ((s.lane x).msg.mail.head?.map Mail.uid).getD 0
      { s with host := { s.host with mailHigh := u / 2 ^ 32 } }.answer (u % 2 ^ 32)

/-! ### The sleep announcement (R58, R269, R270) -/

/-- SLEEP_ANNOUNCEMENT (R270): acted on once per sleep beat, and passed to the peer; with two in force the earlier one
comes first (log 44: DEDUCED). -/
def doSleepAnnouncement (x : LaneId) (beat : BitVec 64) (s : State) : State :=
  let l := s.lane x
  let b := beat.toNat
  if !l.ready then s
  else if b ≤ l.trainTime / 1000000 * 1000000 then s.inc x 0x39F007
  else if l.msg.lastSleep = some b then s
  else
    let s := s.updMirrored x (fun l => { l with msg := { l.msg with lastSleep := some b } })
    { s with keeper := { s.keeper with sleepBeat := some (min b (s.keeper.sleepBeat.getD b)) } }

def execMessageRequest (x : LaneId) (m : MsgFrame) (s : State) : Out := .next (doMessageRequest x m s)
def execSegmentAck (x : LaneId) (m : MsgFrame) (s : State) : Out := .next (doSegmentAck x m s)
def execSegmentedWriteExecute (x : LaneId) (uid : BitVec 64) (n : BitVec 16) (s : State) : Out :=
  .next (doSegmentedWriteExecute x uid n s)
def execTransferBufferTimeout (x : LaneId) (uid : BitVec 64) (n : BitVec 16) (s : State) : Out :=
  .next (doTransferBufferTimeout x uid n s)
def execCancel (x : LaneId) (m : MsgFrame) (s : State) : Out := .next (doCancel x m s)
def execLockExpiry (x : LaneId) (entry : Bool) (granule : Nat) (s : State) : Out := .next (doLockExpiry x entry granule s)
def execMailboxMessage (x : LaneId) (m : MsgFrame) (s : State) : Out := .next (doMailboxMessage x m s)
def execMailboxRemoveHead (v : BitVec 32) (s : State) : Out := .next (if s.hostOn then doMailboxRemoveHead v s else s)
def execMailboxSourceUidRead (s : State) : Out := .next (if s.hostOn then doMailboxSourceUidRead s else s)
def execSleepAnnouncement (x : LaneId) (beat : BitVec 64) (s : State) : Out := .next (doSleepAnnouncement x beat s)

end Sys2Proof.Machine
end

