-- ==== Sys2Proof/Machine/Host.lean ====
section
/-! DEFINITION. The host link and the bridge: requests, posting and order, the address map, the aperture, remote
windows, prefetch, locked sequences, module reset (R372 to R400). -/

namespace Sys2Proof.Machine

/-! ### The check of a request (R375, R378, R382, R389, R395) -/

/-- R375: the bytes that the request's check covers. -/
def HostReq.bytes (r : HostReq) : List Byte :=
  toBytes 1 r.op ++ toBytes 4 r.addr ++ toBytes 1 r.count ++ r.data.flatMap (toBytes 4)

/-- R376: a response as it is laid out: status, a reserved byte, words, data and abort code, and its check. -/
def HostResp.bytes (r : HostResp) : List Byte :=
  let body := toBytes 1 r.status ++ [0] ++ toBytes 2 r.words ++ r.data.flatMap (toBytes 4) ++ toBytes 4 r.code
  body ++ toBytes 2 (crc16 body)

/-- HIO0 to HIO3 (R373): the response that the module drives, until HCS_N rises; at every other time they are
high-impedance. -/
def State.hioDriven (s : State) : Option (List Byte) :=
  if s.hostOn && s.host.answering then s.host.resp.map HostResp.bytes else none

/-- R375: the data words that an opcode carries. -/
def HostReq.dataWords (r : HostReq) : Nat :=
  if r.op = 2 ∨ r.op = 3 ∨ r.op = 6 then r.count + 1 else if r.op = 4 then 1 else 0

/-- R382: byte enables that are one contiguous run of at least one byte. -/
def contiguous (enables : Nat) : Bool := [1, 2, 4, 8, 3, 6, 12, 7, 14, 15].contains enables

/-- A window over the dictionary. -/
def State.dictWindow (s : State) (w : Nat) : Bool := decide (s.mget (winKey w 6) = 1)

/-- R389, R395: over a dictionary region a locked access, and over a dictionary window any access, names one slot. -/
def State.oneSlot (s : State) (r : HostReq) (g : Region) : Bool :=
  match g with
  | .dictionary _ => !r.locks
  | .window w => !s.dictWindow w
  | .aperture _ => true
  | .exchange => true
  | .flows => true
  | .timebase => true
  | .mailbox => true

/-- R382, R395: the regions that a masked write and a locked access admit (log 40: DEDUCED). -/
def State.admits (s : State) (r : HostReq) (g : Region) : Bool :=
  match g with
  | .exchange => true
  | .window w => decide (r.op ≠ 4) || !s.dictWindow w
  | .flows => !r.locks
  | .dictionary _ => decide (r.op ≠ 4)
  | .aperture _ => decide (r.op ≠ 4) && !r.locks
  | .timebase => decide (r.op ≠ 4) && !r.locks
  | .mailbox => decide (r.op ≠ 4) && !r.locks

/-- R378: a request that the module executes; any other is answered with status 02h. -/
def State.frameOk (s : State) (r : HostReq) (check : Nat) : Bool :=
  decide (crc16 r.bytes = check) && decide (1 ≤ r.op ∧ r.op ≤ 8) && decide (r.data.length = r.dataWords)
    && decide (r.addr % 4 = 0) && (decide (r.op ≠ 8) || decide (r.addr = 0 ∧ r.count = 0))
    && (decide (r.op ≠ 4) || contiguous r.count)
    && (!r.locks || decide (r.addr / 64 = (r.addr + 4 * r.words - 1) / 64))
    && (match s.region r.addr with
      | none => true
      | some (g, _, _) => decide (r.op = 8) || (s.admits r g && (s.oneSlot r g || decide (r.op ≠ 4 ∧ r.count = 0))))

/-! ### One word of a region (R241, R268, R277, R380, R382, R383) -/

/-- R383: a read of a dictionary slot: the value; of a 64-bit entry bits [31:0], with the rest in the latch. -/
def State.readSlot (s : State) (sel : Sel) (addr : Nat) : State :=
  let (index, sub) := slotOf addr
  let t := s.dictRead ⟨.host, sel⟩ index sub false
  if t.ans.code ≠ 0 then t
  else
    let v := t.ans.value
    let t := if valueBits index sub = 64 then t.mput 0x590002 (v / 2 ^ 32) else t
    t.answer (v % 2 ^ 32)

/-- R382, R383: a write of a dictionary slot; a 64-bit entry takes its bits [63:32] from the latch. -/
def State.writeSlot (s : State) (sel : Sel) (addr v : Nat) : State :=
  let (index, sub) := slotOf addr
  let v := if valueBits index sub = 64 then s.mget 0x590002 * 2 ^ 32 + v else v
  s.dictWrite ⟨.host, sel⟩ index sub v

/-- R241: a word of a flow context's window. -/
def State.flowWord (s : State) (x : LaneId) (n o : Nat) : Nat :=
  let l := s.lane x
  let pub := decide (l.ctxRole n = 1)
  let data := if pub then (l.pub n).back else if l.ctxRole n = 2 then (l.sub n).data else []
  if o = 0 then s.contextWord x n
  else if o = 4 then
    if pub then (l.pub n).seq * 65536 + l.pubSize n
    else if l.ctxRole n = 2 then (l.sub n).seq * 65536 + (l.sub n).data.length else 0
  else if o = 8 then if pub then (l.pub n).sampled else if l.ctxRole n = 2 then (l.sub n).time else 0
  else if 0x40 ≤ o ∧ o < 0x5B8 then bytesWord false (slice data (o - 0x40) 4)
  else 0

/-- R268: a word of the mailbox window. -/
def State.mailWord (s : State) (x : LaneId) (o : Nat) : State :=
  let q := (s.lane x).msg.mail
  let h := q.head?.getD ⟨0, 0, 0, 0, [], 0, 0⟩
  if o = 8 then doMailboxSourceUidRead s
  else s.answer (
    if o = 0 then q.length * 65536 + h.data.length
    else if o = 4 then h.tag * 65536 + h.position
    else if o = 12 then s.host.mailHigh
    else if o = 16 then h.time
    else if 0x40 ≤ o then bytesWord false (slice h.data (o - 0x40) 4)
    else 0)

/-- A read of one word at an address of the local path. -/
def State.readWord (s : State) (addr : Nat) : State :=
  match s.region addr with
  | some (.dictionary sel, _, _) => s.readSlot sel addr
  | some (.exchange, base, _) =>
    match s.holder with
    | none => s.abort abLane
    | some x => s.answer (bytesWord false ((s.lane x).readXmem (addr - base) 4))
  | some (.flows, base, _) =>
    match s.holder with
    | none => s.abort abLane
    | some x => s.answer (s.flowWord x ((addr - base) / 2048) ((addr - base) % 2048))
  | some (.timebase, base, _) => s.fastTimebase (decide (addr ≠ base))
  | some (.mailbox, base, _) =>
    match s.holder with
    | none => s.abort abLane
    | some x => s.mailWord x (addr - base)
  | _ => s.abort abAddress

/-- The enabled bytes of a word in target order: place of the first, and the bytes (R382, R390). -/
def enabledBytes (invariant : Bool) (enables v : Nat) : Nat × List Byte :=
  let on (i : Nat) : Bool := bitAt enables (if invariant then i else 3 - i)
  let is := (List.range 4).filter on
  (is.head?.getD 0, is.map (fun i => (wordBytes invariant v).getD i 0))

/-- The bits that byte enables name (log 45: DEDUCED). -/
def enableMask (enables : Nat) : Nat :=
  ((List.range 4).filter (fun j => bitAt enables j)).foldl (fun m j => m + 0xFF * 2 ^ (8 * j)) 0

/-- R234, R241: a write of a word of a flow context's window, in both awake lanes. Subscription buffers are read
only (log 18: DEDUCED, 45: DEDUCED). -/
def State.writeFlow (s : State) (x : LaneId) (n o enables v : Nat) : State :=
  if o = 0 then s.flowControl ⟨.host, .acting⟩ n (v &&& enableMask enables)
  else if o = 4 ∨ o = 8 then s.answer 0
  else if 0x40 ≤ o ∧ o < 0x5B8 then
    if (s.lane x).ctxRole n ≠ 1 then s.abort abReadOnly
    else
      let (i, d) := enabledBytes false enables v
      (s.fanOut .acting (fun l => l.updPub n (fun p => { p with
        back := overlay ((p.back ++ List.replicate 1400 0).take 1400) (o - 0x40 + i) d }))).answer 0
  else if v &&& enableMask enables ≠ 0 then s.abort abRange
  else s.answer 0

/-- A write of one word at an address of the local path, with its byte enables (log 18: DEDUCED). -/
def State.writeWord (s : State) (enables addr v : Nat) : State :=
  match s.region addr with
  | some (.dictionary sel, _, _) => s.writeSlot sel addr v
  | some (.aperture c, base, _) =>
    let (index, sub, _) := s.binding c
    if !bindsOctets index sub then s.abort abRange
    else { s with host := { s.host with
      staging := tabSetAll (fun _ => 0) (c * 65536 + (addr - base)) (wordBytes false v) s.host.staging } }.answer 0
  | some (.exchange, base, _) =>
    let (i, d) := enabledBytes false enables v
    if s.holder = none then s.abort abLane else (s.writeXmem (addr - base + i) d).answer 0
  | some (.flows, base, _) =>
    match s.holder with
    | none => s.abort abLane
    | some x => s.writeFlow x ((addr - base) / 2048) ((addr - base) % 2048) enables v
  | some (.timebase, _, _) => s.abort abReadOnly
  | some (.mailbox, base, _) =>
    if addr - base = 0x14 then doMailboxRemoveHead (BitVec.ofNat 32 v) s else s.abort abReadOnly
  | _ => s.abort abAddress

/-- HIGH_WORD_LATCH (R383): one access of a dictionary slot, which loads or uses the latch where the entry has 64
bits. -/
def doHighWordLatch (addr : BitVec 32) (write : Option (BitVec 32)) (s : State) : State :=
  if !s.hostOn then s
  else match s.region addr.toNat with
    | some (.dictionary sel, _, _) =>
      match write with
      | none => s.readSlot sel addr.toNat
      | some v => s.writeSlot sel addr.toNat v.toNat
    | _ => s

/-! ### Bursts (R383, R387, R388) -/

/-- Words read from an address on, to the first that fails: the words and its code. -/
def readBurst : Nat → Nat → State → State × List Nat × Nat
  | 0, _, s => (s, [], 0)
  | k + 1, a, s =>
    let t := s.readWord a
    if t.ans.code ≠ 0 then (t, [], t.ans.code)
    else
      let (u, vs, c) := readBurst k (a + 4) t
      (u, t.ans.value :: vs, c)

/-- Words written from an address on, to the first that fails: how many, and its code (log 45: DEDUCED). -/
def writeBurst (enables : Nat) : List Nat → Nat → State → State × Nat × Nat
  | [], _, s => (s, 0, 0)
  | v :: vs, a, s =>
    let t := s.writeWord enables a v
    if t.ans.code ≠ 0 then (t, 0, t.ans.code)
    else
      let (u, n, c) := writeBurst enables vs (a + 4) t
      (u, n + 1, c)

/-- R388: a read of the aperture: bytes of the bound entry, by one read access. -/
def State.readAperture (s : State) (c off n : Nat) : State × List Nat × Nat :=
  let (index, sub, sel) := s.binding c
  if !bindsOctets index sub then (s, [], abRange)
  else
    let t := s.dictRead ⟨.host, sel⟩ index sub true
    if t.ans.code ≠ 0 then (t, [], t.ans.code) else (t, wordsOf false n (t.ans.data.drop off), 0)

/-- The outcome of a local access: the state, the words read or written, the data, the abort code. -/
structure HostDone where
  state : State
  words : Nat
  data : List Nat
  code : Nat
deriving DecidableEq, Repr

/-- The words of a read that lie inside its region and page. -/
def State.readLocal (s : State) (r : HostReq) : HostDone :=
  let n := s.wordsInside r
  let (t, vs, c) := match s.region r.addr with
    | some (.aperture ch, base, _) => s.readAperture ch (r.addr - base) n
    | _ => readBurst n r.addr s
  ⟨t, vs.length, vs, if c = 0 ∧ n < r.words then abAddress else c⟩

/-- The words of a write that lie inside its region and page. -/
def State.writeLocal (s : State) (r : HostReq) : HostDone :=
  let n := s.wordsInside r
  let (t, k, c) := writeBurst (if r.op = 4 then r.count else 15) (r.data.take n) r.addr s
  ⟨t, k, [], if c = 0 ∧ n < r.words then abAddress else c⟩

/-- R395: the granule and the message operation of a locked access of the local path. -/
def State.localLock (s : State) (r : HostReq) : Option (Nat × Nat) :=
  match s.region r.addr with
  | some (.exchange, base, _) => some ((r.addr - base) / 64, if r.op = 7 then 9 else r.op)
  | some (.dictionary _, _, _) =>
    let (index, sub) := slotOf r.addr
    some (index * 16 + sub / 16, if r.op = 7 then 10 else r.op + 2)
  | _ => none

/-- R265, R266, R395: a locked access of the local path, by the lock table of the lane in possession. -/
def State.lockLocal (s : State) (r : HostReq) : HostDone :=
  match s.holder, s.localLock r with
  | some x, some (g, op) =>
    let d := if r.op = 5 then s.readLocal r else if r.op = 6 then s.writeLocal r else ⟨s, 0, [], 0⟩
    let c := (s.lane x).lockCode op s.uid 65535 g
    if d.code ≠ 0 ∧ beforeRange d.code then d
    else if c ≠ 0 then ⟨s, 0, [], c⟩
    else if d.code ≠ 0 then d
    else { d with state := d.state.lockAfter x op s.uid 65535 g }
  | _, _ => ⟨s, 0, [], abLane⟩

/-- An access of the local path. -/
def State.localAccess (s : State) (r : HostReq) : HostDone :=
  if r.locks then s.lockLocal r
  else if r.op = 1 then s.readLocal r
  else s.writeLocal r

/-! ### Requests (R374 to R378, R384, R386) -/

/-- R384: room for a posted write: 64 writes and 16 KiB. -/
def State.postRoom (s : State) (r : HostReq) : Bool :=
  let ws := s.host.posted.filter (fun e => e.2.isPosted)
  decide (ws.length < 64) && decide ((ws.map (fun e => 4 * e.2.data.length)).foldl (· + ·) 0 + 4 * r.data.length ≤ 16384)

/-- R384, R387: a posted write is queued with the words inside its region and answered; the rest is not executed
(log 45: DEDUCED). -/
def State.post (s : State) (r : HostReq) : State :=
  let n := s.wordsInside r
  let q : HostReq := if r.op = 4 then r else { r with count := n - 1, data := r.data.take n }
  let s := { s with host := { s.host with posted := s.host.posted ++ [(pathOf r.addr, q)] } }
  if r.words ≤ n then s.respond 0 n [] 0
  else
    let s := s.respond 1 n [] abAddress
    if pathOf r.addr < 16 then s.minc (winKey (pathOf r.addr) 15) else s

/-- R401: what an access through a window counts when it is accepted (log 39: DEDUCED). -/
def State.countWindow (s : State) (r : HostReq) : State :=
  let w := pathOf r.addr
  if 16 ≤ w ∨ r.op = 7 then s
  else if r.reads then s.minc (winKey w 13) else s.minc (winKey w 14)

/-- An access that ends with status 01h when it is accepted. -/
def State.turnAway (s : State) (r : HostReq) (code : Nat) : State :=
  let s := s.respond 1 0 [] code
  if pathOf r.addr < 16 then s.minc (winKey (pathOf r.addr) 15) else s

/-- A request whose check has passed: held, or posted and answered; a write of the fast timebase is turned away (R277, R380)
(log 39: DEDUCED). -/
def State.accept (s : State) (r : HostReq) : State :=
  if r.op = 8 then { s with host := { s.host with held := some r } }
  else match s.region r.addr with
    | none => s.turnAway r abAddress
    | some (g, _, _) =>
      let off := match g with
        | .window w => decide (s.mget (winKey w 1) = 0)
        | _ => false
      let s := s.countWindow r
      if off then s.turnAway r abState
      else if g = .timebase ∧ r.isPosted then s.turnAway r abReadOnly
      else if r.isPosted && s.postRoom r then s.post r
      else { s with host := { s.host with held := some r } }

/-- R378, R408: a request that is rejected is answered with status 02h and counted; the 16th within 1 s puts source
134 in fault (log 55: DEDUCED). -/
def State.rejectFrame (s : State) : State :=
  let recent := (s.clock :: s.host.rejects.filter (fun t => decide (s.clock < t + 1000000000))).take 16
  let s := (s.minc 0x59000B).respond 2 0 [] 0
  let s := { s with host := { s.host with rejects := recent } }
  if recent.length = 16 then s.raise .module 134 else s

/-- A request of the host link has ended: counted; rejected with status 02h, or accepted (R374 to R378) (log 45:
DEDUCED). -/
def State.request (s : State) (r : HostReq) (check : Nat) : State :=
  if !s.hostOn || s.host.held.isSome then s
  else
    let s := { s with host := { s.host with answering := false } }.minc 0x59000A
    if s.frameOk r check then s.accept r else s.rejectFrame

/-- RD (R374 to R378): a read; the opcode field may hold any value. -/
def doRd (op : Byte) (addr : BitVec 32) (count : Byte) (check : BitVec 16) (s : State) : State :=
  s.request ⟨op.toNat, addr.toNat, count.toNat, []⟩ check.toNat

/-- The words of a request's data. -/
def wordList (d : List (BitVec 32)) : List Nat := d.map BitVec.toNat

/-- WR (R384): a posted write. -/
def doWr (addr : BitVec 32) (count : Byte) (data : List (BitVec 32)) (check : BitVec 16) (s : State) : State :=
  s.request ⟨2, addr.toNat, count.toNat, wordList data⟩ check.toNat

/-- WRC (R374): a confirmed write. -/
def doWrc (addr : BitVec 32) (count : Byte) (data : List (BitVec 32)) (check : BitVec 16) (s : State) : State :=
  s.request ⟨3, addr.toNat, count.toNat, wordList data⟩ check.toNat

/-- WRM (R382): a masked write of one word. -/
def doWrm (addr : BitVec 32) (count : Byte) (data : BitVec 32) (check : BitVec 16) (s : State) : State :=
  s.request ⟨4, addr.toNat, count.toNat, [data.toNat]⟩ check.toNat

/-- LOCKRD (R395): a locked read. -/
def doLockrd (addr : BitVec 32) (count : Byte) (check : BitVec 16) (s : State) : State :=
  s.request ⟨5, addr.toNat, count.toNat, []⟩ check.toNat

/-- UNLOCKWR (R395): an unlocking write. -/
def doUnlockwr (addr : BitVec 32) (count : Byte) (data : List (BitVec 32)) (check : BitVec 16) (s : State) : State :=
  s.request ⟨6, addr.toNat, count.toNat, wordList data⟩ check.toNat

/-- UNLOCK (R395): the release of a lock. -/
def doUnlock (addr : BitVec 32) (count : Byte) (check : BitVec 16) (s : State) : State :=
  s.request ⟨7, addr.toNat, count.toNat, []⟩ check.toNat

/-- SYNC (R385): held until every posted write has completed. -/
def doSync (addr : BitVec 32) (count : Byte) (check : BitVec 16) (s : State) : State :=
  s.request ⟨8, addr.toNat, count.toNat, []⟩ check.toNat

/-! ### Held accesses (R379, R384 to R386) -/

/-- R386, R400: a read of the local path that waits for a lane in possession. Module-level entries have no lane, and the
session entries are served by the lane in possession whatever the selector (R271). -/
def State.waitsHolder (s : State) (r : HostReq) : Bool :=
  let waits (sel : Sel) (index sub : Nat) : Bool :=
    (lookupRow index sub).any (fun w => decide (w.scope ≠ .module ∧ (sel = .acting ∨ w.isSession)))
  r.reads && s.holder.isNone && (match s.region r.addr with
    | some (.dictionary sel, _, _) => waits sel (slotOf r.addr).1 (slotOf r.addr).2
    | some (.aperture c, _, _) =>
      let b := s.binding c
      waits b.2.2 b.1 b.2.1
    | some (.exchange, _, _) => true
    | some (.flows, _, _) => true
    | some (.timebase, _, _) => true
    | some (.mailbox, _, _) => true
    | _ => false)

/-- A local access executes and is answered. -/
def State.finishLocal (s : State) (r : HostReq) : State :=
  let d := s.localAccess r
  d.state.respond (if d.code = 0 then 0 else 1) d.words d.data d.code

/-- HOST_RESPONSE_READY (R377, R384 to R386): the held access completes if nothing keeps it: room for a posted write, the
posted writes that precede it, a lane in possession. One through a window ends with its transaction. -/
def doHostResponseReady (s : State) : State :=
  match s.host.held with
  | none => s
  | some r =>
    if r.isPosted then (if s.postRoom r then s.post r else s)
    else if r.op = 8 then (if s.host.posted.isEmpty then s.respond 0 0 [] 0 else s)
    else if pathOf r.addr < 16 || (s.firstOf 16).isSome || s.waitsHolder r then s
    else s.finishLocal r

/-- READ_NO_HOLDER_TIMEOUT (R90, R379, R386): 1 ms without any lane acting, for the read that has begun: the first of those
that the host has left, else the held one. -/
def doReadNoHolderTimeout (s : State) : State :=
  match s.firstOf 16, s.host.held with
  | some r, _ => if s.waitsHolder r then s.queuedDone 16 r abLane else s
  | none, none => s
  | none, some r => if pathOf r.addr = 16 && s.waitsHolder r then s.respond 1 0 [] abLane else s

/-- SYNC_TIMEOUT (R379, R385): 50 ms: of the first SYNC that waits; one whose frame was abandoned becomes a late error,
at its address 0 of the local path (log 39: DEDUCED). -/
def doSyncTimeout (s : State) : State :=
  if (s.firstOf 17).isSome then (s.popPath 17).lateError 16 0 abNoResponse
  else match s.host.held with
    | none => s
    | some r => if r.op = 8 then s.respond 1 0 [] abNoResponse else s

/-- FRAME_ABANDONED (R373, R379): HCS_N rises, an input that counts only with HVIO (R19). An incomplete request has done
nothing, and a response is driven no longer; a held access goes on inside, keeping its place, and is counted (log 39:
DEDUCED). -/
def doFrameAbandoned (s : State) : State :=
  match s.host.held with
  | none => if s.hostOn then { s with host := { s.host with answering := false } } else s
  | some r =>
    if !s.hostOn then s else
    let path := if r.op = 8 then 17 else pathOf r.addr
    let s := s.minc 0x59000C
    let s := { s with host := { s.host with held := none, posted := clearSyncs (s.host.posted ++ [(path, r)]) } }
    if path < 16 then s.updWin path (fun v => { v with posted := v.posted || v.active.isSome }) else s

/-! ### Remote windows (R389 to R392) -/

/-- What a window's access asks of its target: operation, object, data, length (R389, R390, R251) (log 23: DEDUCED). -/
def State.windowOp (s : State) (w : Nat) (r : HostReq) : Option (Nat × Nat × List Byte × Nat) :=
  let off := r.addr % 0x1000000
  let n := s.wordsInside r
  let inv := s.dataInvariant w
  if s.dictWindow w then
    match s.windowEntry w off with
    | none => none
    | some (index, sub, size) =>
      let v := r.data.headD 0 + (if size = 8 then s.mget 0x590002 * 2 ^ 32 else 0)
      let op := match r.op with
        | 1 => 1
        | 5 => 7
        | 6 => 8
        | 7 => 10
        | _ => 2
      some (op, index * 65536 + sub * 256, if isWriteOp op then toBytes size v else [], if op = 10 then 0 else size)
  else
    match r.op with
    | 1 => some (3, off, [], 4 * n)
    | 4 =>
      let (i, d) := enabledBytes inv r.count (r.data.headD 0)
      some (4, off + i, d, d.length)
    | 5 => some (5, off, [], 4 * n)
    | 6 =>
      let d := (r.data.take n).flatMap (wordBytes inv)
      some (6, off, d, d.length)
    | 7 => some (9, off, [], 0)
    | _ =>
      let d := (r.data.take n).flatMap (wordBytes inv)
      some (4, off, d, d.length)

/-- R271, R389: the transaction of window w: its settings, and the entries of session w that show it. -/
def State.openWindow (s : State) (w op object : Nat) (data : List Byte) (len : Nat) (prefetch : Bool) : State :=
  let byPos := decide (s.mget (winKey w 2) = 1)
  let target := if byPos then s.mget (winKey w 4) else s.mget (winKey w 3)
  let sel := s.mget (winKey w 5)
  let t := s.mget (winKey w 10) / (s.mget (winKey w 11) + 1)
  let s := (s.putNode (sesKey w 3) (if byPos then 0 else target)).putNode (sesKey w 4) (if byPos then target else 0)
  let s := ((s.putNode (sesKey w 5) sel).putNode (sesKey w 6) op).putNode (sesKey w 7) object
  let s := ((s.putNode (sesKey w 8) len).putNode (sesKey w 9) t).putNode (sesKey w 10) (s.mget (winKey w 11))
  s.openTransaction w (fun k => { k with
    op := op, sel := sel, byPosition := byPos, target := target, object := object, length := len, prefetch := prefetch
    data := data })

/-- R393: the data of a read that the prefetched block of a window holds whole. -/
def State.prefetched (s : State) (w : Nat) (r : HostReq) : Option (List Byte) :=
  match (s.win w).block with
  | none => none
  | some (o, d) =>
    let off := r.addr % 0x1000000
    if r.op ≠ 1 then none
    else if s.dictWindow w then (if off = o then some d else none)
    else if o ≤ off ∧ off + 4 * s.wordsInside r ≤ o + d.length then some (slice d (off - o) (4 * s.wordsInside r))
    else none

/-- R389, R393: window w takes up an access: served from its block, ended without a message, or sent (log 45: DEDUCED). -/
def State.startWindow (s : State) (w : Nat) (r : HostReq) (queued : Bool) : State :=
  let hit := s.prefetched w r
  let s := s.updWin w (fun v => { v with active := some r, posted := queued, lastRead := none })
  match hit with
  | some d => (s.minc (winKey w 17)).windowDone w 0 d
  | none =>
    let s := s.cancelPrefetch w
    let s := if r.op = 1 then s else s.updWin w (fun v => { v with block := none })
    match s.windowOp w r with
    | none => s.windowDone w abRange []
    | some (op, object, data, len) => s.openWindow w op object data len false

/-- The next access of a window begins: the first of its queue, else the held one (R384, R385). -/
def State.nextWindow (s : State) (w : Nat) : State :=
  if (s.win w).active.isSome then s
  else match s.firstOf w with
    | some r => s.startWindow w r true
    | none => match s.host.held with
      | some r => if r.op ≠ 8 ∧ pathOf r.addr = w ∧ r.isPosted = false then s.startWindow w r false else s
      | none => s

/-- REMOTE_WINDOW_ACCESS (R389, R390). -/
def doRemoteWindowAccess (w : Fin 16) (s : State) : State := s.nextWindow w.val

/-- POSTED_WRITE_EXECUTE (R379, R384, R386): the first access of a path's queue executes: on the local path at once, but
for a read that waits for a lane in possession, on a window's by its transaction. -/
def doPostedWriteExecute (path : Fin 17) (s : State) : State :=
  if path.val < 16 then s.nextWindow path.val
  else match s.firstOf 16 with
    | none => s
    | some r =>
      if s.waitsHolder r then s else
      let d := s.localAccess r
      d.state.queuedDone 16 r d.code

/-- WINDOW_HOLD_TIMEOUT (R385, R391): H ends for the first access of the window that is open: the one that runs, a
posted write or one that the host has left among them, else the held one (log 39: DEDUCED). -/
def doWindowHoldTimeout (w : Fin 16) (s : State) : State :=
  let heldHere := s.host.held.any (fun r => decide (r.op ≠ 8 ∧ pathOf r.addr = w.val))
  if (s.win w.val).active.isSome then
    if (s.session w.val).isOpen then s.noResponse w.val else s.windowDone w.val abNoResponse []
  else if heldHere then (s.respond 1 0 [] abNoResponse).minc (winKey w.val 15)
  else s

/-! ### Prefetch (R393) -/

/-- R393: what follows a read of n words at an offset: offset and words, up to the next 4 KiB boundary or the end of the
window; over the dictionary the next slot (log 45: DEDUCED). -/
def State.prefetchRange (s : State) (w off n : Nat) : Option (Nat × Nat) :=
  let o := off + 4 * n
  if s.dictWindow w then (if o < 0x1000000 ∧ (s.windowEntry w o).isSome then some (o, 1) else none)
  else if o < 0x100000 then some (o, min n (((o / 4096 + 1) * 4096 - o) / 4))
  else none

/-- PREFETCH (R393): after a read that completed, with prefetch enabled (log 45: DEDUCED). -/
def doPrefetch (w : Fin 16) (s : State) : State :=
  let v := s.win w.val
  match v.lastRead with
  | none => s
  | some (off, n) =>
    if s.mget (winKey w.val 9) ≠ 1 ∨ s.mget (winKey w.val 1) ≠ 1 ∨ v.active.isSome ∨ v.prefetching.isSome then s
    else
      let s := s.updWin w.val (fun v => { v with lastRead := none })
      match s.prefetchRange w.val off n with
      | none => s
      | some (o, m) =>
        let s := s.updWin w.val (fun v => { v with prefetching := some (o, m) })
        if s.dictWindow w.val then
          match s.windowEntry w.val o with
          | none => s
          | some (index, sub, size) => s.openWindow w.val 1 (index * 65536 + sub * 256) [] size true
        else s.openWindow w.val 3 o [] (4 * m) true

/-- PREFETCH_BLOCK_EXPIRY (R393): 1 ms after the block's response. -/
def doPrefetchBlockExpiry (w : Fin 16) (s : State) : State := s.updWin w.val (fun v => { v with block := none })

/-! ### Module reset (R399) -/

/-- R399: a lane enters reset by HRST_N (log 46: DEDUCED). -/
def State.moduleResetLane (s : State) (x : LaneId) : State :=
  if (s.lane x).awake then
    (s.laneReset x 5 5 0xFF).upd x (fun l => { l with poss := { l.poss with changing := false } })
  else s

/-- HRST_N (R399): low for 5 µs. The lane in possession releases first; both lanes and the host front reset (log 46:
DEDUCED). -/
def doHrstN (s : State) : State :=
  if !s.awake || !s.keeper.hvio || s.keeper.hrstLow then s
  else
    let s := (s.release .A 5).release .B 5
    let s := (s.moduleResetLane .A).moduleResetLane .B
    let s := s.hostOff keptStandby
    { s with keeper := { s.keeper with
      hrstLow := true, tossPending := true, tossWindow := false, askedA := false, firstInsertion := true
      sleepBeat := none, announce := 0 } }

/-- R43 step 3, R399: a lane boots from flash under the stored possession mode; its domains stay on if they are
(log 46: DEDUCED). -/
def LaneState.bootAgain (l : LaneState) : LaneState :=
  (if l.awake then { l with mode := .booting } else l.powerUp).bootWithStoredMode

/-- HRST_N_RISE (R24, R43, R399): start-up from step 3, with the slot code read again; an input that counts only with
HVIO (R19) (log 46: DEDUCED). -/
def doHrstNRise (reads : List (BitVec 4)) (s : State) : State :=
  if !s.keeper.hrstLow || !s.keeper.hvio || !s.awake then s
  else
    let s := { s with
      keeper := { s.keeper with hrstLow := false, knockDue := true }
      arb := { Arbiter.reset with running := true, changeAt := s.clock } }
    let s := (s.updBoth LaneState.bootAgain).knocks
    let s := s.mput 0x100800 (slotCodeOf reads)
    if s.mget 0x100800 = 0xFF then s.raise .module 135 else s

def execRd (op : Byte) (addr : BitVec 32) (count : Byte) (check : BitVec 16) (s : State) : Out :=
  .next (doRd op addr count check s)
def execWr (addr : BitVec 32) (count : Byte) (data : List (BitVec 32)) (check : BitVec 16) (s : State) : Out :=
  .next (doWr addr count data check s)
def execWrc (addr : BitVec 32) (count : Byte) (data : List (BitVec 32)) (check : BitVec 16) (s : State) : Out :=
  .next (doWrc addr count data check s)
def execWrm (addr : BitVec 32) (count : Byte) (data : BitVec 32) (check : BitVec 16) (s : State) : Out :=
  .next (doWrm addr count data check s)
def execLockrd (addr : BitVec 32) (count : Byte) (check : BitVec 16) (s : State) : Out :=
  .next (doLockrd addr count check s)
def execUnlockwr (addr : BitVec 32) (count : Byte) (data : List (BitVec 32)) (check : BitVec 16) (s : State) : Out :=
  .next (doUnlockwr addr count data check s)
def execUnlock (addr : BitVec 32) (count : Byte) (check : BitVec 16) (s : State) : Out :=
  .next (doUnlock addr count check s)
def execSync (addr : BitVec 32) (count : Byte) (check : BitVec 16) (s : State) : Out := .next (doSync addr count check s)
def execFrameAbandoned (s : State) : Out := .next (doFrameAbandoned s)
def execPostedWriteExecute (path : Fin 17) (s : State) : Out := .next (doPostedWriteExecute path s)
def execHostResponseReady (s : State) : Out := .next (doHostResponseReady s)
def execHighWordLatch (addr : BitVec 32) (write : Option (BitVec 32)) (s : State) : Out :=
  .next (doHighWordLatch addr write s)
def execRemoteWindowAccess (w : Fin 16) (s : State) : Out := .next (doRemoteWindowAccess w s)
def execWindowHoldTimeout (w : Fin 16) (s : State) : Out := .next (doWindowHoldTimeout w s)
def execPrefetch (w : Fin 16) (s : State) : Out := .next (doPrefetch w s)
def execPrefetchBlockExpiry (w : Fin 16) (s : State) : Out := .next (doPrefetchBlockExpiry w s)
def execHrstN (s : State) : Out := .next (doHrstN s)
def execHrstNRise (reads : List (BitVec 4)) (s : State) : Out := .next (doHrstNRise reads s)
def execReadNoHolderTimeout (s : State) : Out := .next (doReadNoHolderTimeout s)
def execSyncTimeout (s : State) : Out := .next (doSyncTimeout s)

end Sys2Proof.Machine
end

