-- ==== Sys2Proof/Machine/Service.lean ====
section
/-! DEFINITION. The service port X1: its frames, its four sessions, authentication on it (R27, R496 to R498). Transfers
of more than one segment use the transfer buffers of the lane in possession (R257 to R259), under UID 0 and the number
of the service session. -/

namespace Sys2Proof.Machine

/-! ### Frames on X1 (R134, R137, R249, R496) -/

/-- R496: the module's own address on X1 (entry 7000h:00h). -/
def State.serviceAddress (s : State) : Nat := 0x0A * 2 ^ 40 + s.uid % 2 ^ 40

/-- The message that an X1 frame carries: as an own message of UID 0, with the payload up to its p. -/
def serviceMsg (f : LineFrame) : MsgFrame where
  srcUid := 0
  srcPos := 0
  stamp := 0
  session := BitVec.ofNat 16 f.number
  seq := BitVec.ofNat 16 (numAt f.bytes 24 2)
  lastSeg := bitAt f.flags 4
  kind := BitVec.ofNat 8 (numAt f.bytes 30 1)
  op := BitVec.ofNat 8 (numAt f.bytes 31 1)
  selection := BitVec.ofNat 8 (numAt f.bytes 32 1)
  attempt := BitVec.ofNat 8 (numAt f.bytes 33 1)
  target := BitVec.ofNat 64 (numAt f.bytes 34 8)
  transaction := BitVec.ofNat 32 (numAt f.bytes 42 4)
  object := BitVec.ofNat 32 (numAt f.bytes 46 4)
  offset := BitVec.ofNat 32 (numAt f.bytes 50 4)
  length := BitVec.ofNat 32 (numAt f.bytes 54 4)
  status := BitVec.ofNat 32 (numAt f.bytes 58 4)
  data := slice f.bytes 62 (f.payload - 32)

/-- R496: a broadcast is accepted for a read of the entries 1000h to 100Ah only (log 47: DEDUCED). -/
def broadcastOk (m : MsgFrame) : Bool :=
  decide (m.kind = 1 ∧ m.op = 1 ∧ 0x1000 ≤ objectIndex m.object.toNat ∧ objectIndex m.object.toNat ≤ 0x100A)

/-- R496: the frames that X1 accepts: requests, and the acknowledges and cancels that belong to them, with no reserved
bit set, and no reserved lane selector but in a request, which has an answer (R11, R138, R249, R250; log 47: DEDUCED). -/
def State.serviceFrameOk (s : State) (f : LineFrame) : Bool :=
  let m := serviceMsg f
  f.isMessage && decide (numAt f.bytes 14 1 = 0x12) && decide (f.pos = 0 ∧ f.stamp = 0 ∧ f.number < 4)
    && decide (f.flags % 16 = 0 ∧ m.selection.toNat % 16 = 0) && decide (32 ≤ f.payload ∧ 30 + f.payload ≤ f.bytes.length)
    && decide (m.kind = 1 ∨ ((m.kind = 3 ∨ m.kind = 4) ∧ m.selection.toNat / 64 ≠ 3))
    && decide (m.target.toNat = s.uid) && !bitAt m.selection.toNat 5
    && (decide (f.dest = s.serviceAddress) || (decide (f.dest = ones 48) && broadcastOk m))

/-- R497: a tag over a frame: direction, header bytes 0 to 13, payload before the tag. -/
def serviceTag (key direction : Nat) (header payload : List Byte) : Nat :=
  (hmac128 (toBytes 16 key) (toBytes 1 direction ++ header.take 14 ++ payload)).toNat

/-- R497: a frame of an authenticated session: its tag is right, and its sequence number is newer than the last
(log 47: DEDUCED). -/
def ServiceSession.passes (k : ServiceSession) (f : LineFrame) : Bool :=
  let p := slice f.bytes 30 f.payload
  decide (48 ≤ p.length)
    && decide (serviceTag k.key 1 (slice f.bytes 14 16) (p.take (p.length - 16)) = numAt p (p.length - 16) 16)
    && k.seqIn.all (fun n => newer16 (numAt f.bytes 24 2) n)

/-- A session of the service port. -/
def State.service (s : State) (n : Nat) : ServiceSession := s.sec.sessions.getD n .reset

/-- R249: a message subheader. -/
def subheader (m : MsgFrame) : List Byte :=
  [m.kind, m.op, m.selection, m.attempt] ++ toBytes 8 m.target.toNat ++ toBytes 4 m.transaction.toNat
    ++ toBytes 4 m.object.toNat ++ toBytes 4 m.offset.toNat ++ toBytes 4 m.length.toNat ++ toBytes 4 m.status.toNat

/-- The octets of a frame that the module sends in a service session, with a tag under the key `tag` if there is one, padded
to 64 bytes (R135, R497). -/
def State.serviceBytes (s : State) (dest : Nat) (tag : Option Nat) (m : MsgFrame) : List Byte :=
  let n := m.session.toNat
  let payload := subheader m ++ m.data
  let p := payload.length + (if tag.isSome then 16 else 0)
  let header := ownHeader 2 (headerFlags (s.holder.getD .A) true false m.lastSeg) 0 0 n m.seq.toNat p
  let sealed := ((tag.map (fun k => toBytes 16 (serviceTag k 2 header payload))).getD [])
  let body := toBytes 6 dest ++ toBytes 6 s.serviceAddress ++ toBytes 2 0x88B5 ++ header ++ payload ++ sealed
  body ++ List.replicate (60 - body.length) 0

/-- A frame goes out on X1, with the next sequence number of its session (R137). -/
def State.serviceSend (s : State) (dest : Nat) (tag : Option Nat) (m : MsgFrame) : State :=
  let n := m.session.toNat
  let s := s.updService n (fun k => { k with seqOut := (k.seqOut + 1) % 65536, framesOut := k.framesOut + 1 })
  let m := { m with seq := BitVec.ofNat 16 (s.service n).seqOut, attempt := 0 }
  s.updSec (fun k => { k with lastAnswer := k.lastAnswer ++ [s.serviceBytes dest tag m] })

/-- A response to a request (log 47: DEDUCED). -/
def State.serviceAnswer (s : State) (dest : Nat) (tag : Option Nat) (m : MsgFrame) (status len off : Nat)
    (data : List Byte) (last : Bool) : State :=
  s.serviceSend dest tag { m with
    kind := 2, status := BitVec.ofNat 32 status, length := BitVec.ofNat 32 len, offset := BitVec.ofNat 32 off
    data := data, lastSeg := last }

/-- A response without data. -/
def State.serviceStatus (s : State) (dest : Nat) (tag : Option Nat) (m : MsgFrame) (code : Nat) : State :=
  s.serviceAnswer dest tag m code m.length.toNat 0 [] true

/-- An acknowledge of the bytes of a write that are held without a gap (R257). -/
def State.serviceAck (s : State) (dest : Nat) (tag : Option Nat) (m : MsgFrame) (held : Nat) : State :=
  s.serviceSend dest tag { m with kind := 3, status := 0, offset := BitVec.ofNat 32 held, data := [], lastSeg := true }

/-- The segments of a result from an offset on (R257). -/
def State.serviceResult (s : State) (dest : Nat) (tag : Option Nat) (m : MsgFrame) (data : List Byte) (off : Nat) : State :=
  if data = [] then s.serviceAnswer dest tag m 0 0 0 [] true
  else (segmentsFrom data off).foldl (fun s g => s.serviceAnswer dest tag m 0 data.length g.1 g.2.1 g.2.2) s

/-! ### Authentication (R481, R482, R497) -/

/-- R498: a session ends, with its transfers. -/
def State.endService (s : State) (n : Nat) : State :=
  (s.updService n ServiceSession.close).updBoth (fun l => l.freeBuffer 0 n)

/-- R481: a challenge of a service session: a free value, valid for one attempt. Its answer stands in `ans` (log 6:
DESIGN CHOICE). -/
def State.serviceNonce (s : State) (n : Nat) : State :=
  if s.sec.serviceLocked then s.abort abAuth
  else
    let (v, s) := s.free 128
    (s.updService n (fun k => { k with challenge := some v })).answerBytes (toBytes 16 v)

/-- R481, R497, R498: a proof in a service session. Whatever it proves, it ends the session that was open; a proof that
passes opens the session anew. -/
def State.serviceProof (s : State) (n : Nat) (data : List Byte) : State :=
  let r := numAt data 0 1
  let nt := slice data 1 16
  let nonce := (s.service n).challenge
  let s := s.endService n
  match nonce, s.sec.keyFor true r with
  | some v, some key =>
    let nm := toBytes 16 v
    if (hmac128 key (proofText nm nt s.uid r)).toNat = numAt data 17 16 then
      (s.updService n (fun k => { k with
        role := some r
        key := (hmac128 key ([0x53] ++ nm ++ nt)).toNat
        commissioning := s.sec.commissioning
        ended := false, framesIn := 0, framesOut := 0 })).answerBytes (toBytes 16 (hmac128 key (proofText nt nm s.uid r)).toNat)
    else s.authFailed true
  | _, _ => s.authFailed true

/-- R481, R497, R498: the data of operation 31h is 33 bytes. A path that is locked out refuses it, and the session that was
open ends; a challenge given before stands (log 40: DEDUCED, 47: DEDUCED). -/
def State.serviceLogin (s : State) (n : Nat) (data : List Byte) : State :=
  if 33 < data.length then s.abort abTooLong
  else if data.length ≠ 33 then s.abort abRange
  else if s.sec.serviceLocked then
    let c := (s.service n).challenge
    ((s.endService n).updService n (fun k => { k with challenge := c })).abort abAuth
  else s.serviceProof n data

/-- Service sessions are served by the lane in possession (R498). -/
def State.serviceReady (s : State) : Bool := s.awake && s.keeper.serviceLink && s.holder.isSome

/-- SERVICE_CHALLENGE (R481, R497): operation 30h of a service session. -/
def doServiceChallenge (n : Fin 4) (s : State) : State :=
  if s.serviceReady then s.serviceNonce n.val else s.abort abLane

/-- SERVICE_AUTHENTICATE (R481, R497): operation 31h of a service session. -/
def doServiceAuthenticate (n : Fin 4) (data : List Byte) (s : State) : State :=
  if s.serviceReady then s.serviceLogin n.val data else s.abort abLane

/-! ### Operations on X1 (R496, R498) -/

/-- A path and a transfer of service session n. -/
def servicePath (n : Nat) : Path := .service (finOf 3 n)

/-- The answer of an executed operation: its status, or its result in segments. A result of more than one segment is
held in a transfer buffer until its final acknowledge (R258). -/
def State.serviceDone (s : State) (x : LaneId) (dest : Nat) (tag : Option Nat) (m : MsgFrame) : State :=
  if s.ans.code ≠ 0 then s.serviceStatus dest tag m s.ans.code
  else if isWriteOp m.op.toNat then s.serviceAnswer dest tag m 0 m.length.toNat 0 [] true
  else
    let out := s.ans.data
    let s := if 1024 < out.length then s.upd x (fun l => l.holdBuffer { Transfer.ofMsg m with data := out }) else s
    s.serviceResult dest tag m out 0

/-- A transaction that needs a transfer buffer and finds none is busy (R259). -/
def State.serviceBusy (s : State) (x : LaneId) (dest : Nat) (tag : Option Nat) (m : MsgFrame) : State :=
  (s.inc x 0x39F004).serviceStatus dest tag m abBusy

/-- R251, R480, R496: an operation whose data is whole runs with its checks in their order, and is answered. -/
def State.serviceRun (s : State) (x : LaneId) (dest : Nat) (tag : Option Nat) (m : MsgFrame) (data : List Byte) : State :=
  let n := m.session.toNat
  let r := s.operate x (servicePath n) (Transfer.ofMsg m) data
  if r.ans.code = 0 ∧ 1024 < r.ans.data.length ∧ (s.lane x).bufferRoom 0 n = false then s.serviceBusy x dest tag m
  else r.serviceDone x dest tag m

/-- R251, R259, R480: a segmented write finds no free buffer: the first reason that stands before "busy", as this segment
shows it, else "busy". -/
def State.serviceNoBuffer (s : State) (x : LaneId) (dest : Nat) (tag : Option Nat) (m : MsgFrame) : State :=
  let t := Transfer.ofMsg m
  let r := s.operate x (servicePath t.session) t ((m.data ++ List.replicate t.length 0).take t.length)
  if r.ans.code ≠ 0 ∧ beforeBusy r.ans.code then r.serviceStatus dest tag m r.ans.code else s.serviceBusy x dest tag m

/-- A segment of a write of more than one (R257, R258) (log 47: DEDUCED). -/
def State.serviceSegment (s : State) (x : LaneId) (dest : Nat) (tag : Option Nat) (m : MsgFrame) : State :=
  let t0 := { Transfer.ofMsg m with srcPos := dest }
  let t := match (s.lane x).buffer 0 t0.session with
    | some b => if b.transaction = t0.transaction ∧ b.write then b else t0
    | none => t0
  if !(s.lane x).bufferRoom 0 t0.session then s.serviceNoBuffer x dest tag m
  else
    let (held, parts, got) := takeSegment t.data t.parts m.offset.toNat m.data
    let u := { t with data := held, parts := parts, sinceAck := (t.sinceAck + got) % 8 }
    if held.length = t.length then
      (s.upd x (fun l => l.freeBuffer 0 t0.session)).serviceRun x dest tag m held
    else
      let s := s.upd x (fun l => l.holdBuffer u)
      if 8 ≤ t.sinceAck + got then s.serviceAck dest tag m held.length else s

/-- A request: operations 01h, 02h, 30h and 31h; any other is out of range, and so is a reserved lane selector (R250, R496).
A 31h whose data has the right length ends the session, so its answer has no tag (R498; log 47: DEDUCED). -/
def State.serviceRequest (s : State) (x : LaneId) (dest : Nat) (tag : Option Nat) (m : MsgFrame) : State :=
  let n := m.session.toNat
  let login := decide (m.op = 0x30 ∨ m.op = 0x31)
  if (!login && decide (m.op ≠ 1 ∧ m.op ≠ 2)) || (login && (selOf m.selection.toNat).isNone) then
    s.serviceStatus dest tag m abRange
  else if m.op = 0x30 then (s.serviceNonce n).serviceDone x dest tag { m with length := 16 }
  else if m.op = 0x31 then
    (s.serviceLogin n m.data).serviceDone x dest (if m.data.length = 33 then none else tag) { m with length := 16 }
  else if m.op = 2 ∧ m.data.length < m.length.toNat ∧ opLengthCode m.op.toNat m.length.toNat = 0 then
    s.serviceSegment x dest tag m
  else (s.upd x (fun l => l.freeBuffer 0 n)).serviceRun x dest tag m m.data

/-- An acknowledge of a held result: the rest follows, and the final one frees the buffer (R258). A cancel frees the
buffer of its transaction (R259) (log 47: DEDUCED). -/
def State.serviceFollow (s : State) (x : LaneId) (dest : Nat) (tag : Option Nat) (m : MsgFrame) : State :=
  let n := m.session.toNat
  match (s.lane x).buffer 0 n with
  | none => s
  | some t =>
    if t.transaction ≠ m.transaction.toNat then s
    else if m.kind = 4 then s.upd x (fun l => l.freeBuffer 0 n)
    else if t.write then s
    else if t.data.length ≤ m.offset.toNat then s.upd x (fun l => l.freeBuffer 0 n)
    else
      let t := { t with acked := max t.acked m.offset.toNat }
      (s.upd x (fun l => l.holdBuffer t)).serviceResult dest tag m t.data t.acked

/-- A frame of a session without authentication: 30h and 31h run; an ended session fails; a tool without a tag is an
Observer while entry 7003h:00h is 1, and has no rights else (R497, R498) (log 47: DEDUCED). -/
def State.serviceOpen (s : State) (x : LaneId) (dest : Nat) (m : MsgFrame) : State :=
  if m.kind = 1 ∧ (m.op = 0x30 ∨ m.op = 0x31) then s.serviceRequest x dest none m
  else if m.kind ≠ 1 then (if s.mget 0x700300 = 1 then s.serviceFollow x dest none m else s)
  else if (s.service m.session.toNat).ended then s.serviceStatus dest none m abAuth
  else if s.mget 0x700300 = 1 then s.serviceRequest x dest none m
  else s.serviceStatus dest none m abDenied

/-- R498: an authenticated session ends after 30,000 frames in either direction. -/
def State.framesSpent (s : State) (n : Nat) : State :=
  let k := s.service n
  if k.role.isSome && decide (30000 ≤ k.framesIn ∨ 30000 ≤ k.framesOut) then s.endService n else s

/-- A message without the tag at the end of its payload (R497). -/
def untagged (m : MsgFrame) : MsgFrame := { m with data := m.data.take (m.data.length - 16) }

/-- R498: a request of a session that has ended, with the tag that it still has. -/
def ServiceSession.isLate (k : ServiceSession) (m : MsgFrame) : Bool :=
  k.ended && decide (m.kind = 1 ∧ m.op ≠ 0x30 ∧ m.op ≠ 0x31 ∧ 16 ≤ m.data.length) && msgOk (untagged m)

/-- A message of a frame that X1 accepts, at the lane in possession (log 47: DEDUCED). -/
def State.serviceMessage (s : State) (x : LaneId) (dest : Nat) (m : MsgFrame) : State :=
  let k := s.service m.session.toNat
  let t := if k.role.isSome then (untagged m) else m
  if (t.kind = 1 ∧ (t.op = 0x30 ∨ t.op = 0x31)) ∨ msgOk t then
    if k.role.isNone then s.serviceOpen x dest t
    else if t.kind = 1 then s.serviceRequest x dest (some k.key) t
    else s.serviceFollow x dest (some k.key) t
  else if k.role.isNone && k.isLate m then s.serviceStatus dest none m abAuth
  else s

/-- An accepted frame at the lane in possession (log 47: DEDUCED). -/
def State.serviceServe (s : State) (x : LaneId) (f : LineFrame) : State :=
  let s := (s.updSec (fun c => { c with lastAnswer := [] })).serviceMessage x f.source (serviceMsg f)
  (s.updService f.number (fun k => { k with seqIn := some (numAt f.bytes 24 2), framesIn := k.framesIn + 1 })).framesSpent
    f.number

/-- SERVICE_PORT_FRAME (R496, R497): a frame on X1, from its destination address to the octet before the FCS (log 47:
DEDUCED). -/
def doServicePortFrame (bytes : List Byte) (s : State) : State :=
  let f : LineFrame := ⟨bytes, .good, ⟨0, 0, 0⟩⟩
  let k := s.service f.number
  if !(s.awake && s.keeper.serviceLink) then s
  else if !s.serviceFrameOk f then s.minc 0x700402
  else if k.role.isSome && !k.passes f then s.minc 0x700403
  else
    let s := s.minc 0x700401
    match s.holder with
    | some x => s.serviceServe x f
    | none => s

/-- SERVICE_SESSION_END (R498): 10 minutes without a valid frame, 8 h, or 30,000 frames in either direction. -/
def doServiceSessionEnd (n : Fin 4) (_why : SessionEnd) (s : State) : State := s.endService n.val

/-- SERVICE_LINK_CHANGE (R498): the link of X1 comes up or goes down, which ends every session. -/
def doServiceLinkChange (up : Bool) (s : State) : State :=
  if up then (if s.awake then { s with keeper := { s.keeper with serviceLink := true } } else s)
  else ({ s with keeper := { s.keeper with serviceLink := false } } : State).endServiceSessions

/-- R257: a gap of a write on X1 has persisted for 2 ms: the acknowledge goes to the tool, whose address the
buffer holds in place of a position. -/
def State.serviceGapAck (s : State) (x : LaneId) (n : Nat) : State :=
  match (s.lane x).buffer 0 n with
  | none => s
  | some t =>
    if t.write ∧ t.parts ≠ [] then
      let m := { serviceMsg ⟨[], .good, ⟨0, 0, 0⟩⟩ with
        session := BitVec.ofNat 16 n, op := BitVec.ofNat 8 t.op, selection := BitVec.ofNat 8 t.selection
        target := BitVec.ofNat 64 s.uid, transaction := BitVec.ofNat 32 t.transaction
        object := BitVec.ofNat 32 t.object, length := BitVec.ofNat 32 t.length }
      ((s.updSec (fun c => { c with lastAnswer := [] })).serviceAck t.srcPos ((s.service n).role.map (fun _ => (s.service n).key)) m
        t.data.length).framesSpent n
    else s

def execSegmentGapAck (x : LaneId) (uid : BitVec 64) (n : BitVec 16) (s : State) : Out :=
  .next (if uid = 0 then s.serviceGapAck x n.toNat else doSegmentGapAck x uid n s)
def execServicePortFrame (bytes : List Byte) (s : State) : Out := .next (doServicePortFrame bytes s)
def execServiceChallenge (n : Fin 4) (s : State) : Out := .next (doServiceChallenge n s)
def execServiceAuthenticate (n : Fin 4) (data : List Byte) (s : State) : Out := .next (doServiceAuthenticate n data s)
def execServiceSessionEnd (n : Fin 4) (why : SessionEnd) (s : State) : Out := .next (doServiceSessionEnd n why s)
def execServiceLinkChange (up : Bool) (s : State) : Out := .next (doServiceLinkChange up s)

end Sys2Proof.Machine
end

