-- ==== Sys2Proof/Machine/Switch.lean ====
section
/-! DEFINITION. The switch beat of a Roll and the end of a late start (R118, R202 to R205, R392), and what the mirror
link carries (R66 to R68). -/

namespace Sys2Proof.Machine

/-! ### Line rates at the switch beat (R115, R116, R118) -/

/-- The entry of a node in a directory. -/
def entryFor (es : List DirEntry) (uid : Nat) : Option DirEntry := es.find? (fun d => decide (d.uid.toNat = uid))

/-- R115, R198: the supported code of the segment at an end of the own entry, from the entries of the close: the
slower of the two that the segment's ends report; none without a segment. -/
def segmentAt (line : LaneId) (uid : Nat) (e : EndId) (es : List DirEntry) : Option Nat :=
  let on := es.filter (fun d => d.reached line)
  let at_ := on.findIdx (fun d => decide (d.uid.toNat = uid))
  match on[at_]? with
  | none => none
  | some own =>
    let up := decide (highEnd own = e)
    let next := if up then on[at_ + 1]? else if at_ = 0 then none else on[at_ - 1]?
    let other := match next with
      | some d => supportedAt d line (if up then (highEnd d).other else highEnd d)
      | none => 15
    segmentCode (supportedAt own line e) other

/-- R115: the code r of the line holds a port down: its segment's code or the node's ceiling is slower. A port that
was held down already is no segment of the view, and goes by its own supported rate and its segment's at the hold (R116). -/
def LaneState.rateConflict (l : LaneState) (x : LaneId) (uid : Nat) (e : EndId) (r : Nat) (es : List DirEntry) : Bool :=
  let ceiling := ((((entryFor es uid).map (fun d => settingsOf d x)).filter (fun b => b ≠ 0xFF)).map (fun b => b % 16)).getD
    l.rateCeiling
  let own := l.get (key 0x2006 (endSub e))
  decide (r < ceiling) || (match segmentAt x uid e es with
    | some c => decide (r < c)
    | none => (l.port e).heldDown &&
      ((decide (own ≠ 0xFF) && decide (r < own)) || (decide ((l.port e).heldRate ≠ 0xFF) && decide (r < (l.port e).heldRate))))

/-- R116: a held-down port stays in the capability exchange: one that was up loses its link, after which the TDR runs
(R126); one that trains goes back to the exchange. -/
def State.holdBack (s : State) (x : LaneId) (e : EndId) : State :=
  match ((s.lane x).port e).step with
  | .up => s.dropPort x e .capability true
  | .probe => s.upd x (fun l => l.updPort e (fun p => { p with step := .capability }))
  | .proposal => s.upd x (fun l => l.updPort e (fun p => { p with step := .capability }))
  | .pma => s.upd x (fun l => l.updPort e (fun p => { p with step := .capability }))
  | .verify => s.upd x (fun l => l.updPort e (fun p => { p with step := .capability }))
  | _ => s

/-- R116: a port is held down, or no longer (log 48: DEDUCED). -/
def State.holdPort (s : State) (x : LaneId) (e : EndId) (r : Nat) (es : List DirEntry) : State :=
  if (s.lane x).rateConflict x s.uid e r es then
    let was := ((s.lane x).port e).heldDown
    let rate := (segmentAt x s.uid e es).getD (if was then ((s.lane x).port e).heldRate else 0xFF)
    let s := (s.holdBack x e).upd x (fun l => l.updPort e (fun p => { p with heldDown := true, heldRate := rate, heldCode := r, heldForce := (s.lane x).lineRate }))
    if was then s else s.raiseLane x 34
  else s.upd x (fun l => l.updPort e (fun p => { p with heldDown := false, heldRate := 0xFF, heldCode := 0xFF, heldForce := 0xFF }))

/-- R115, R116, R118: the rate of a close comes into force at a lane: by the code r that the view gives, ports are
held down or released, and ports at another rate retrain: also where this lane has the rate already and a coupling came up
at its partner's (R111). -/
def State.takeLineRate (s : State) (x : LaneId) (c : Close) : State :=
  let rate := c.rateOf x
  let s := s.put x 0x200500 rate
  let s := match computedRate x c.entries with
    | none => s
    | some r => ((s.holdPort x .e1 r c.entries).holdPort x .e2 r c.entries).followHeld x
  if rate = 0xFF then s else s.upd x (fun l => (l.orderedRetrain .e1 rate).orderedRetrain .e2 rate)

/-! ### Remote windows at the switch beat (R392, R393) -/

/-- The node at a position of a directory, 0 for none. -/
def uidAt (es : List DirEntry) (pos : Nat) : Nat :=
  ((es.find? (fun d => decide (d.pos.toNat = pos))).map (fun d => d.uid.toNat)).getD 0

/-- R379, R392: the posted writes queued on a window become late errors, and with them the writes and lock operations
that the host has abandoned; an abandoned read is discarded. -/
def State.dropQueued (s : State) (w : Nat) : State :=
  let mine (e : Nat × HostReq) : Bool := decide (e.1 = w)
  let gone := s.host.posted.filter (fun e => mine e && decide (e.2.op ≠ 1))
  let s := { s with host := { s.host with posted := clearSyncs (s.host.posted.filter (fun e => !mine e)) } }
  gone.foldl (fun s e => s.lateError w e.2.addr abTopology) s

/-- R392: the access of a window whose frame is held, which waits behind posted writes, ends. -/
def State.dropHeld (s : State) (w : Nat) : State :=
  if s.host.held.any (fun r => decide (r.op ≠ 8 ∧ pathOf r.addr = w)) then
    (s.respond 1 0 [] abTopology).minc (winKey w 15)
  else s

/-- R392: the node at a window's position has changed, or the position exists no longer (log 48: DEDUCED). -/
def State.retargetWindow (s : State) (w : Nat) : State :=
  let s := if (s.win w).active.isSome then s.endSession w abTopology else s
  let s := ((s.cancelPrefetch w).dropQueued w).dropHeld w
  (s.mput 0x590003 (withBit (s.mget 0x590003) 9 true)).minc (winKey w 19)

/-- The lane whose switch beats the remote windows follow: the lane in possession, while there is none the first that
is ready (log 48: DEDUCED). -/
def State.windowLane (s : State) : LaneId := s.holder.getD (if s.laneA.ready then .A else .B)

/-- R392, R393: one window at a switch beat of the lane that the windows follow. -/
def State.switchWindow (old : List DirEntry) (s : State) (w : Nat) : State :=
  let d := (s.lane s.windowLane).roll.directory
  let p := s.mget (winKey w 4)
  let s := s.updWin w (fun v => { v with block := none, lastRead := none })
  if s.mget (winKey w 1) = 1 ∧ s.mget (winKey w 2) = 1 ∧ uidAt old p ≠ 0 ∧ uidAt old p ≠ uidAt d p then
    s.retargetWindow w
  else s

/-- R392, R397: a new directory at the lane that the windows follow: the windows, and the switch beat cause. Both lanes of
the node have a switch beat of the close; the windows take the first at which the lane that they follow has it (log 48:
DEDUCED). -/
def State.switchWindows (s : State) (old : List DirEntry) : State :=
  let r := (s.lane s.windowLane).roll
  let close := (r.closedEpoch, (s.lane s.windowLane).stamp)
  if s.host.switched = some close then s
  else
    let s := (List.range 16).foldl (State.switchWindow old) { s with host := { s.host with switched := some close, skipped := none } }
    s.mput 0x590003 (withBit (s.mget 0x590003) 8 true)

/-- R392: a switch beat that the windows do not follow yet: the directory that they went by is kept (log 48: DEDUCED). -/
def State.skipWindows (s : State) : State :=
  { s with host := { s.host with
    skipped := s.host.skipped.or (some (s.lane s.windowLane).roll.directory) } }

/-- R392: the lane that takes possession may have had a switch beat that the windows have not: they take it now (log 48:
DEDUCED). -/
def State.followWindows (s : State) : State :=
  match s.host.skipped with
  | none => s
  | some old =>
    let s := s.switchWindows old
    { s with host := { s.host with skipped := none } }

/-- R366, R392: a switch beat at lane x: the windows, if the lane that they follow has the same close in force, and the
end-role pins of lane x (log 48: DEDUCED). -/
def State.switchHost (s : State) (x : LaneId) (old : List DirEntry) : State :=
  let same := decide ((s.lane s.windowLane).roll.closedEpoch = (s.lane x).roll.closedEpoch)
    && decide ((s.lane s.windowLane).stamp = (s.lane x).stamp)
  let s := if same then s.switchWindows old else s.skipWindows
  s.upd x (fun l => if l.field.linkUp then l.commandPins else l)

/-! ### Taking possession (R75, R81) -/

/-- R75: the arbiter grants possession. -/
def doGrant (x : LaneId) (s : State) : State := if s.mayGrant x then (s.take x).followWindows else s

/-- R81 steps 4 and 5: the peer is read again. Not acting: the lane acts. Acting or invalid: lane B lowers its pair
and lane A keeps its pair raised, acting once the peer's pair reads not acting. A lane that has become ineligible, or whose
turn the Toss has passed to its peer, lowers its pair (R69, R71, log 59: DEDUCED). -/
def doInterlockRecheck (x : LaneId) (s : State) : State :=
  let p := (s.lane x).poss
  if p.acq ≠ .raised ∧ p.acq ≠ .kept then s
  else if s.pairReading x = .notActing then (if s.mayAcquire x then (s.take x).followWindows else s.upd x LaneState.lowerPair)
  else match x with
    | .B => s.upd .B LaneState.lowerPair
    | .A => s.upd .A (fun l => { l with poss := { l.poss with acq := .kept } })

/-! ### The numbering (R203, R205) -/

/-- The entries of the numbering that come into force with a close (R203, R208) (log 48: DEDUCED). -/
def LaneState.takeNumbering (l : LaneState) (uid : Nat) (c : Close) : LaneState :=
  let f := c.fields
  let own := c.entries.find? (fun d => decide (d.uid.toNat = uid))
  let l := (((l.put 0x240200 f.stamp.toNat).put 0x240300 f.members.toNat).put 0x240400 f.vehicles.toNat).put 0x240500 f.flags.toNat
  let l := ((l.put 0x240600 f.switchBeat.toNat).put 0x240700 f.master.toNat).inc 0x240800
  let l := l.put 0x240B00 (f.rate1.toNat * 256 + f.rate2.toNat)
  (l.put 0x241003 ((own.map (fun d => d.pos.toNat)).getD 0)).put 0x241004 ((own.map (fun d => d.vpos.toNat)).getD 0)

/-- The Roll state once the close is in force: the previous stamp is in grace for 32 beats, the Roll has ended, a
trigger held for this beat waits for the spacing alone, and one from before the adoption waits on (R141, R174). -/
def RollState.switched (r : RollState) (oldStamp : Nat) (numbered held : Bool) (c : Close) : RollState :=
  { r with
    running := false, directory := c.entries, closedEpoch := c.epoch
    stampGrace := oldStamp, graceBeats := if oldStamp = 0 then 0 else 32
    trigger := match r.trigger with
      | some c => some c
      | none => if held then r.heldTrigger else none
    holdOff := r.holdOff && r.trigger.isSome && !(held && r.heldTrigger.isSome), heldTrigger := none
    line2Deferred := c.fields.flags.toNat.testBit 1, notNumbered := !numbered, listSent := false }

/-- R174, R203: the new-link mark of a port ends, but for a link that came up after the close was adopted. -/
def Port.marksEnd (p : Port) : Port := { p with newLink := p.newLink && p.lateLink, lateLink := false }

/-- R203: the close in force at a lane; the new-link marks end (log 48: DEDUCED). -/
def LaneState.switchRoll (l : LaneState) (uid : Nat) (held : Bool) (c : Close) : LaneState :=
  let old := l.stamp
  let numbered := c.entries.any (fun d => decide (d.uid.toNat = uid))
  let l := (l.takeNumbering uid c).put 0x400200 (withBit (l.get 0x400200) 3 false)
  let l := (l.updPort .e1 Port.marksEnd).updPort .e2 Port.marksEnd
  { l with roll := l.roll.switched old numbered held c }

/-! ### The schedule (R203, R204) -/

/-- R204: a late start: no schedule in force until the computation completes, so none with vital overload, and source 48 is
not in fault (R408, log 48: DEDUCED). -/
def State.startLate (s : State) (x : LaneId) : State :=
  let s := (s.lower (.lane x) 48).inc x 0x243106
  s.upd x (fun l => { l with
    roll := { l.roll with lateStart := true }
    flow := { l.flow with sched := none, launches := [], lateOwn := l.flow.announced } }.put 0x280000 0)

/-- R203, R204: the schedule of the close comes into force, or the lane starts late. -/
def State.switchSchedule (s : State) (x : LaneId) : State :=
  let l := s.lane x
  match l.flow.next with
  | some d =>
    if l.flow.computing then s.startLate x
    else (s.upd x (fun l => { l with roll := { l.roll with lateStart := false } })).enforce x d
  | none => s.startLate x

/-- Flags of a close that raise source 58: overlength, inner cab, lead conflict, line order conflict, vehicle conflict. -/
def closeConflict (flags : Nat) : Bool := decide (flags &&& 0x5D ≠ 0)

/-- R205: sources 57 and 58, and the count of closes that left the node out (log 48: DEDUCED). -/
def State.judgeClose (s : State) (x : LaneId) (c : Close) : State :=
  let s := if (s.lane x).roll.notNumbered then (s.inc x 0x243107).raiseLane x 57 else s.lower (.lane x) 57
  s.follow x 58 (closeConflict c.fields.flags.toNat)

/-- R232: a lane keeps the wave that ends at a switch beat, as its own time stands before any step there. -/
def LaneState.keepWave (l : LaneState) : LaneState :=
  let b := (l.nextSwitch.map (fun b => b.1 / 1000000)).getD ((l.trainTime + 500000) / 1000000)
  { l with flow := { l.flow with old := some ⟨l.flow.sched, l.lineRate, b, b, 0⟩ } }

/-- SWITCH_BEAT (R203): the switch beat of the adopted close has come at a lane (log 48: DEDUCED). -/
def doSwitchBeat (x : LaneId) (s : State) : State :=
  let l := s.lane x
  match l.roll.adopted with
  | none => s
  | some c =>
    if !l.roll.running || !l.ready then s
    else
      let old := l.roll.directory
      let s := s.upd x (fun l => l.keepWave.switchRoll s.uid s.keeper.sleepBeat.isNone c)
      let s := s.switchSchedule x
      let s := s.switchTime x (masterUid c.entries c.fields.master.toNat) c.fields.switchBeat.toNat old.isEmpty
      let s := s.takeLineRate x c
      let s := (s.upd x LaneState.resolveAtSwitch).disableRules x
      (s.judgeClose x c).switchHost x old

/-- LATE_START_END (R204): the computation is complete after the switch beat: the subscriptions are resolved, and
publishing and receiving begin at the next beat (log 48: DEDUCED). -/
def doLateStartEnd (x : LaneId) (s : State) : State :=
  let l := s.lane x
  match l.flow.next with
  | none => s
  | some d =>
    if !l.roll.lateStart || l.flow.computing || (l.roll.running && l.roll.adopted.isSome) then s
    else
      let s := s.upd x (fun l => { l with
        roll := { l.roll with lateStart := false }, flow := { l.flow with startsNext := true, launches := [] } })
      (s.enforce x d).upd x LaneState.resolveAll

/-! ### What the mirror carries (R67, R68) -/

/-- Node entries that a resync brings a lane: those that are written, and the results and counts of the node (log 49:
DEDUCED). -/
def mirroredEntry (k : Nat) : Bool :=
  let index := k / 256
  match entryRow index (k % 256) with
  | none => false
  | some r => decide (r.scope = .node) &&
      (decide (r.kind = .rw) || decide (index = 0x1012) || decide (0x1105 ≤ index ∧ index ≤ 0x1107)
        || decide (0x3800 ≤ index ∧ index ≤ 0x3902))

/-- Entries of the message sessions and the output image, mirrored as they change (log 49: DEDUCED). -/
def steadyEntry (k : Nat) : Bool :=
  decide (k = 0x510000) || decide (0x3800 ≤ k / 256 ∧ k / 256 ≤ 0x387F)

/-- R262, R267: a standby's mailbox as the mirror leaves it: the queue of the lane in possession, and behind it the
messages of the standby's own copies that the lane in possession has not executed yet (log 49: DEDUCED). -/
def LaneState.mirroredMail (l peer : LaneState) : List Mail :=
  peer.msg.mail ++ l.msg.mail.filter (fun m =>
    (l.answerRec m.uid m.session).any (fun r => !newer32 m.transaction r.transaction)
      && (peer.answerRec m.uid m.session).all (fun r => newer32 m.transaction r.transaction))

/-- R67, R247, R267: a standby with the session state, the mailbox and the output image of the lane in possession
(log 49: DEDUCED). -/
def LaneState.takeSteady (l peer : LaneState) : LaneState :=
  let l := l.copyEntries peer steadyEntry
  { l with msg := { l.msg with sessions := peer.msg.sessions, mail := l.mirroredMail peer } }

/-- R68, R98, R381: a setting of the lane in possession at the lane that takes it, with what its write does (log 49:
DEDUCED). -/
def LaneState.takeSetting (l peer : LaneState) (k : Nat) : LaneState :=
  let v := peer.get k
  let index := k / 256
  let sub := k % 256
  if patternKey k then
    let l := l.put k v
    if peer.shadowGet k = v then l else l.shadowPut k (peer.shadowGet k)
  else if l.get k = v then l
  else if index = 0x4401 ∨ index = 0x4402 then l.takeTiming k v false
  else if 0x4020 ≤ index ∧ index ≤ 0x4027 then
    if sub = 1 then l.writeMode (index - 0x4020) v else l.writePulse (index - 0x4020) sub v
  else if 0x4480 ≤ index ∧ index ≤ 0x44FE ∧ sub = 1 then (l.put k v).clearStations
  else if 0x4500 ≤ index ∧ index ≤ 0x451F then
    let kept := if sub = 1 then 0x41F00000 else 0
    (l.keepImage (index - 0x4500) (decide (32 ≤ sub))).put k ((l.get k &&& kept) ||| clearMask v kept)
  else if 0x5000 ≤ index ∧ index ≤ 0x5017 ∧ sub = 1 then l.changeFunction (index - 0x5000) v
  else l.put k v

/-- R98, R315: what both lanes run by and no lane keeps through its start: the pulse units, the transmit buffers' data, the
gates (log 49: DEDUCED). -/
def runKeys : List Nat :=
  (List.range 8).flatMap (fun u => [2, 3, 4, 5, 1].map (key (0x4020 + u)))
    ++ (List.range 32).flatMap (fun t => (List.range 32).map (fun k => key (0x4500 + t) (16 + k)))
    ++ (List.range 24).map (fun n => pinKey n 19)

/-- R68, R98, R320, R381: a returning lane's settings at its resync: what the lane in possession runs by, the beat of a
Pattern that is applied, and the writes owed to it (log 49: DEDUCED). -/
def LaneState.takeSettings (l peer : LaneState) (owed : List Nat) : LaneState :=
  let l := (runKeys ++ owed).foldl (fun l k => l.takeSetting peer k) l
  { l with can := { l.can with switchBeat := peer.can.switchBeat } }

/-- R68: a lane with the whole mirrored state of the lane in possession (log 49: DEDUCED). -/
def LaneState.takeWhole (l peer : LaneState) : LaneState :=
  let l := l.copyEntries peer mirroredEntry
  let l := { l with
    msg := { l.msg with
      sessions := peer.msg.sessions, records := peer.msg.records, locks := peer.msg.locks, mail := peer.msg.mail
      lastSleep := peer.msg.lastSleep }
    xmem := peer.xmem, echoSeq := peer.echoSeq
    flow := { l.flow with subs := l.flow.subs.filter (fun e => decide (l.ctxRole e.1 = 2)) } }
  l.resolveAll

/-- R67: what a valid frame on an up link brings: from the lane in possession its sessions and output image; from
either lane its Roll view, its gateway latches (R327), its cab-active inputs (R352) (log 38: DEDUCED, 49: DEDUCED). -/
def State.mirrorCopy (s : State) (x : LaneId) : State :=
  let s := if s.holder = some x.peer then s.upd x (fun l => l.takeSteady (s.lane x.peer)) else s
  let s := s.mirrorRoll x
  let s := s.upd x (fun l => l.takePeerLatches (s.lane x.peer))
  s.noteCab x

/-- R68, R491: what a resync brings, with an image that was applied while the lane was not awake (log 49: DEDUCED). -/
def State.mirrorCopyAll (s : State) (x : LaneId) : State :=
  if s.holder = some x.peer then
    let owed := (s.owed.filter (fun e => decide (e.1 = x))).map Prod.snd
    let s := s.upd x (fun l => (l.takeWhole (s.lane x.peer)).takeSettings (s.lane x.peer) owed)
    { s with owed := s.owed.filter (fun e => decide (e.1 ≠ x)) }.takeMissedImages x
  else s

/-- R66: whose count of possession changes a lane goes by: that of a peer in possession, of a peer that releases while
it does not itself, and of any peer while it has counted none since its own start (log 59: DEDUCED). -/
def LaneState.takesEpoch (l : LaneState) (w : Nat) : Bool :=
  decide (l.mode ≠ .possession) &&
    (decide (w / 4096 = 3) || (decide (w / 4096 = 4) && decide (l.mode ≠ .releasing)) || decide (l.poss.epoch = 0))

/-- MIRROR_FRAME (R66 to R68): a frame from the peer. A CRC error counts and is no frame; a valid frame brings the status
word, counts toward the link's return, and on an up link the mirrored state (log 49: DEDUCED). -/
def doMirrorFrame (x : LaneId) (crcOk : Bool) (s : State) : State :=
  if !s.mirrorAlive x then s
  else if !crcOk then
    s.upd x (fun l => { (l.inc 0x111100).sample 7 1 with poss := { l.poss with goodFrames := 0 } })
  else
    let w := s.statusWord x.peer
    let s := s.upd x (fun l => { l with poss := { l.poss with
      peerWord := w, mirrorSeen := l.poss.mirrorSeen || l.ready
      epoch := if l.takesEpoch w then w % 256 else l.poss.epoch
      goodFrames := if l.poss.mirrorUp then 0 else min 100 (l.poss.goodFrames + 1) } })
    let s := (s.holdCheck x).tossCheck
    if (s.lane x).poss.mirrorUp && (s.lane x.peer).ready then
      let s := s.mirrorCopy x
      s.peerRecorderFailed x
    else s


/-- RESYNC_COMPLETE (R68): the resync is complete: the whole mirrored state has come (log 49: DEDUCED). -/
def doResyncComplete (x : LaneId) (s : State) : State :=
  if (s.lane x).poss.mirrorUp && (s.lane x).poss.resync && s.mirrorAlive x then
    let s := s.upd x (fun l => { l with poss := { l.poss with resync := false } })
    (s.mirrorCopyAll x).peerRecorderFailed x
  else s

def execGrant (x : LaneId) (s : State) : Out := .next (doGrant x s)
def execInterlockRecheck (x : LaneId) (s : State) : Out := .next (doInterlockRecheck x s)
def execSwitchBeat (x : LaneId) (s : State) : Out := .next (doSwitchBeat x s)
def execLateStartEnd (x : LaneId) (s : State) : Out := .next (doLateStartEnd x s)
def execMirrorFrame (x : LaneId) (crcOk : Bool) (s : State) : Out := .next (doMirrorFrame x crcOk s)
def execResyncComplete (x : LaneId) (s : State) : Out := .next (doResyncComplete x s)

end Sys2Proof.Machine
end

