-- ==== Sys2Proof/Machine/Dispatch.lean ====
section
/-! DEFINITION. Which meaning each command has: one arm per command. -/

namespace Sys2Proof.Machine

/-- What a command does to everything but the queue. -/
def exec (i : Instr) (s : State) : Host.Outcome State Fault Refusal :=
  match i with
  | .presSClose => Sys2Proof.Machine.execPresSClose s
  | .mated reads temp => Sys2Proof.Machine.execMated reads temp s
  | .presSOpen => Sys2Proof.Machine.execPresSOpen s
  | .withdrawalConfirmed => Sys2Proof.Machine.execWithdrawalConfirmed s
  | .reinsertionAfterWithdrawal => Sys2Proof.Machine.execReinsertionAfterWithdrawal s
  | .locate acc n => Sys2Proof.Machine.execLocate acc n s
  | .locateExpiry => Sys2Proof.Machine.execLocateExpiry s
  | .supplyGood volts temp => Sys2Proof.Machine.execSupplyGood volts temp s
  | .coldStartRecheck temp => Sys2Proof.Machine.execColdStartRecheck temp s
  | .warmUpEnd => Sys2Proof.Machine.execWarmUpEnd s
  | .holdUpCharged => Sys2Proof.Machine.execHoldUpCharged s
  | .supplyLost volts => Sys2Proof.Machine.execSupplyLost volts s
  | .interruptionBridged micros lowest volts => Sys2Proof.Machine.execInterruptionBridged micros lowest volts s
  | .powerFailSequence => Sys2Proof.Machine.execPowerFailSequence s
  | .knock line end1 end2 => Sys2Proof.Machine.execKnock line end1 end2 s
  | .hwake => Sys2Proof.Machine.execHwake s
  | .fieldWake x pin => Sys2Proof.Machine.execFieldWake x pin s
  | .wakeFromStandby temp => Sys2Proof.Machine.execWakeFromStandby temp s
  | .localSleep acc => Sys2Proof.Machine.execLocalSleep acc s
  | .trainSleep acc => Sys2Proof.Machine.execTrainSleep acc s
  | .sleepBeat => Sys2Proof.Machine.execSleepBeat s
  | .sleepDeferredEnd => Sys2Proof.Machine.execSleepDeferredEnd s
  | .sleepEntry => Sys2Proof.Machine.execSleepEntry s
  | .peerLaneSleep acc => Sys2Proof.Machine.execPeerLaneSleep acc s
  | .peerLaneWake acc => Sys2Proof.Machine.execPeerLaneWake acc s
  | .mirrorFrame x crcOk => Sys2Proof.Machine.execMirrorFrame x crcOk s
  | .mirrorLost x => Sys2Proof.Machine.execMirrorLost x s
  | .mirrorCurrentAllowanceEnd x => Sys2Proof.Machine.execMirrorCurrentAllowanceEnd x s
  | .mirrorUp x => Sys2Proof.Machine.execMirrorUp x s
  | .resyncComplete x => Sys2Proof.Machine.execResyncComplete x s
  | .toss => Sys2Proof.Machine.execToss s
  | .tossBWindowExpiry => Sys2Proof.Machine.execTossBWindowExpiry s
  | .arbiterFrame x => Sys2Proof.Machine.execArbiterFrame x s
  | .arbiterLinkLost x => Sys2Proof.Machine.execArbiterLinkLost x s
  | .renewal x => Sys2Proof.Machine.execRenewal x s
  | .renewalAck x => Sys2Proof.Machine.execRenewalAck x s
  | .localLeaseEnd x => Sys2Proof.Machine.execLocalLeaseEnd x s
  | .leaseExpiry => Sys2Proof.Machine.execLeaseExpiry s
  | .grant x => Sys2Proof.Machine.execGrant x s
  | .release x => Sys2Proof.Machine.execRelease x s
  | .arbiterRestart => Sys2Proof.Machine.execArbiterRestart s
  | .arbiterRenewalWaitEnd => Sys2Proof.Machine.execArbiterRenewalWaitEnd s
  | .interlockPairInvalid x => Sys2Proof.Machine.execInterlockPairInvalid x s
  | .interlockAcquisition x => Sys2Proof.Machine.execInterlockAcquisition x s
  | .interlockConfirmEnd x => Sys2Proof.Machine.execInterlockConfirmEnd x s
  | .interlockRecheck x => Sys2Proof.Machine.execInterlockRecheck x s
  | .peerActingSeen x => Sys2Proof.Machine.execPeerActingSeen x s
  | .freezeEnd x => Sys2Proof.Machine.execFreezeEnd x s
  | .plannedChangeover acc => Sys2Proof.Machine.execPlannedChangeover acc s
  | .plannedChangeoverCheckEnd => Sys2Proof.Machine.execPlannedChangeoverCheckEnd s
  | .laneReset acc => Sys2Proof.Machine.execLaneReset acc s
  | .beginUpdate acc length protocol peerLow peerHigh => Sys2Proof.Machine.execBeginUpdate acc length protocol peerLow peerHigh s
  | .beginUpdateEraseDone x => Sys2Proof.Machine.execBeginUpdateEraseDone x s
  | .firmwareChunk acc data => Sys2Proof.Machine.execFirmwareChunk acc data s
  | .activate acc => Sys2Proof.Machine.execActivate acc s
  | .abandonUpdate acc => Sys2Proof.Machine.execAbandonUpdate acc s
  | .activationComplete x => Sys2Proof.Machine.execActivationComplete x s
  | .trainingBlock x e block => Sys2Proof.Machine.execTrainingBlock x e block s
  | .trainingStepTimeout x e => Sys2Proof.Machine.execTrainingStepTimeout x e s
  | .beacon x e => Sys2Proof.Machine.execBeacon x e s
  | .channelProbeDone x e probe => Sys2Proof.Machine.execChannelProbeDone x e probe s
  | .pmaTrainingDone x e => Sys2Proof.Machine.execPmaTrainingDone x e s
  | .linkVerification x e snr => Sys2Proof.Machine.execLinkVerification x e snr s
  | .linkDown x e => Sys2Proof.Machine.execLinkDown x e s
  | .marginUpdate x e snr returnLoss faster => Sys2Proof.Machine.execMarginUpdate x e snr returnLoss s faster
  | .marginAlarm x e => Sys2Proof.Machine.execMarginAlarm x e s
  | .segmentTakedown x e => Sys2Proof.Machine.execSegmentTakedown x e s
  | .takedownHoldEnd x e => Sys2Proof.Machine.execTakedownHoldEnd x e s
  | .portQuarantined x e => Sys2Proof.Machine.execPortQuarantined x e s
  | .quarantineEnd x e => Sys2Proof.Machine.execQuarantineEnd x e s
  | .runDiagnostics acc v => Sys2Proof.Machine.execRunDiagnostics acc v s
  | .diagnosticsDone x e kind reflection distance insulation limit => Sys2Proof.Machine.execDiagnosticsDone x e kind reflection distance insulation s limit
  | .insulationTest x e insulation limit => Sys2Proof.Machine.execInsulationTest x e insulation limit s
  | .portEnable acc e v => Sys2Proof.Machine.execPortEnable acc e v s
  | .insertion x => Sys2Proof.Machine.execInsertion x s
  | .laneBInsertionTimeout => Sys2Proof.Machine.execLaneBInsertionTimeout s
  | .orderedRetrainLate x e => Sys2Proof.Machine.execOrderedRetrainLate x e s
  | .line2DeferredDue x => Sys2Proof.Machine.execLine2DeferredDue x s
  | .frameDecisionPoint x e f time idle => Sys2Proof.Machine.execFrameDecisionPoint x e f time idle s
  | .stomp x e f => Sys2Proof.Machine.execStomp x e f s
  | .localPortSend x f node => Sys2Proof.Machine.execLocalPortSend x f node s
  | .unscheduledEgressStart x e time => Sys2Proof.Machine.execUnscheduledEgressStart x e time s
  | .gateOverrun x e => Sys2Proof.Machine.execGateOverrun x e s
  | .pauseReceived x e quanta => Sys2Proof.Machine.execPauseReceived x e quanta s
  | .pauseExpiry x e => Sys2Proof.Machine.execPauseExpiry x e s
  | .pauseSend x => Sys2Proof.Machine.execPauseSend x s
  | .pauseRepeat x e => Sys2Proof.Machine.execPauseRepeat x e s
  | .pauseRelease x => Sys2Proof.Machine.execPauseRelease x s
  | .receiveNoBuffer x e a => Sys2Proof.Machine.execReceiveNoBuffer x e a s
  | .ringChainReturn x => Sys2Proof.Machine.execRingChainReturn x s
  | .rollTrigger x code => Sys2Proof.Machine.execRollTrigger x code s
  | .holdOffEnd x => Sys2Proof.Machine.execHoldOffEnd x s
  | .rollSpacingEnd x => Sys2Proof.Machine.execRollSpacingEnd x s
  | .rollOriginate x => Sys2Proof.Machine.execRollOriginate x s
  | .rollFrame x src f => Sys2Proof.Machine.execRollFrame x src f s
  | .phase1Limit x => Sys2Proof.Machine.execPhase1Limit x s
  | .candidate x => Sys2Proof.Machine.execCandidate x s
  | .peerListWaitEnd x => Sys2Proof.Machine.execPeerListWaitEnd x s
  | .want x => Sys2Proof.Machine.execWant x s
  | .close x listLimit => Sys2Proof.Machine.execClose x s listLimit
  | .closeLimit x => Sys2Proof.Machine.execCloseLimit x s
  | .switchBeat x => Sys2Proof.Machine.execSwitchBeat x s
  | .lateStartEnd x => Sys2Proof.Machine.execLateStartEnd x s
  | .notNumberedRequest x => Sys2Proof.Machine.execNotNumberedRequest x s
  | .rollRequest acc v => Sys2Proof.Machine.execRollRequest acc v s
  | .leadDeclaration acc v => Sys2Proof.Machine.execLeadDeclaration acc v s
  | .scheduleComputation x => Sys2Proof.Machine.execScheduleComputation x s
  | .scheduleComputationDone x micros => Sys2Proof.Machine.execScheduleComputationDone x micros s
  | .flowConfigWrite acc ctx sub v => Sys2Proof.Machine.execFlowConfigWrite acc ctx sub v s
  | .beatStart x => Sys2Proof.Machine.execBeatStart x s
  | .samplePoint x => Sys2Proof.Machine.execSamplePoint x s
  | .waveLaunch x rising => Sys2Proof.Machine.execWaveLaunch x rising s
  | .waveSlip x => Sys2Proof.Machine.execWaveSlip x s
  | .publicationCommit acc ctx => Sys2Proof.Machine.execPublicationCommit acc ctx s
  | .fillIn x ctx => Sys2Proof.Machine.execFillIn x ctx s
  | .sessionStart acc n v => Sys2Proof.Machine.execSessionStart acc n v s
  | .messageRequest x m => Sys2Proof.Machine.execMessageRequest x m s
  | .messageResponse x m => Sys2Proof.Machine.execMessageResponse x m s
  | .segmentAck x m => Sys2Proof.Machine.execSegmentAck x m s
  | .segmentGapAck x uid n => Sys2Proof.Machine.execSegmentGapAck x uid n s
  | .segmentedWriteExecute x uid n => Sys2Proof.Machine.execSegmentedWriteExecute x uid n s
  | .transferBufferTimeout x uid n => Sys2Proof.Machine.execTransferBufferTimeout x uid n s
  | .sessionTimeout n => Sys2Proof.Machine.execSessionTimeout n s
  | .cancel x m => Sys2Proof.Machine.execCancel x m s
  | .lockExpiry x entry granule => Sys2Proof.Machine.execLockExpiry x entry granule s
  | .mailboxMessage x m => Sys2Proof.Machine.execMailboxMessage x m s
  | .mailboxRemoveHead v => Sys2Proof.Machine.execMailboxRemoveHead v s
  | .mailboxSourceUidRead => Sys2Proof.Machine.execMailboxSourceUidRead s
  | .sleepAnnouncement x beat => Sys2Proof.Machine.execSleepAnnouncement x beat s
  | .syncSend x => Sys2Proof.Machine.execSyncSend x s
  | .syncReceived x e m ingress egress => Sys2Proof.Machine.execSyncReceived x e m ingress egress s
  | .pdelayReq x e => Sys2Proof.Machine.execPdelayReq x e s
  | .pdelayResp x e m ingress => Sys2Proof.Machine.execPdelayResp x e m ingress s
  | .pdelayMeasurement x e t1 t4 m => Sys2Proof.Machine.execPdelayMeasurement x e t1 t4 m s
  | .pdelayRespTimeout x e => Sys2Proof.Machine.execPdelayRespTimeout x e s
  | .peerDelayFailure x e => Sys2Proof.Machine.execPeerDelayFailure x e s
  | .syncLoss x => Sys2Proof.Machine.execSyncLoss x s
  | .holdoverAlarm x => Sys2Proof.Machine.execHoldoverAlarm x s
  | .lockAcquisitionStep x => Sys2Proof.Machine.execLockAcquisitionStep x s
  | .lateDomainStep x => Sys2Proof.Machine.execLateDomainStep x s
  | .foundDomain x => Sys2Proof.Machine.execFoundDomain x s
  | .laneTimeCompare t1 t2 t3 t4 => Sys2Proof.Machine.execLaneTimeCompare t1 t2 t3 t4 s
  | .fastTimebaseRead high => Sys2Proof.Machine.execFastTimebaseRead high s
  | .pulseModeWrite acc u v => Sys2Proof.Machine.execPulseModeWrite acc u v s
  | .pulseEdge x u => Sys2Proof.Machine.execPulseEdge x u s
  | .baselineWrite acc v => Sys2Proof.Machine.execBaselineWrite acc v s
  | .fieldMapUnmapped x => Sys2Proof.Machine.execFieldMapUnmapped x s
  | .bitTimingWrite acc dataPhase v busyA busyB => Sys2Proof.Machine.execBitTimingWrite acc dataPhase v s busyA busyB
  | .integrationDone x => Sys2Proof.Machine.execIntegrationDone x s
  | .canFrameReceived x f time => Sys2Proof.Machine.execCanFrameReceived x f time s
  | .transmitCommit acc t => Sys2Proof.Machine.execTransmitCommit acc t s
  | .slotStart x col => Sys2Proof.Machine.execSlotStart x col s
  | .canFrameComplete x t time => Sys2Proof.Machine.execCanFrameComplete x t time s
  | .canFrameLate x t => Sys2Proof.Machine.execCanFrameLate x t s
  | .patternApply acc v => Sys2Proof.Machine.execPatternApply acc v s
  | .patternSwitch x => Sys2Proof.Machine.execPatternSwitch x s
  | .errorPassive x => Sys2Proof.Machine.execErrorPassive x s
  | .busOff x => Sys2Proof.Machine.execBusOff x s
  | .busOffRecoveryDone x => Sys2Proof.Machine.execBusOffRecoveryDone x s
  | .identifierCollision x t time => Sys2Proof.Machine.execIdentifierCollision x t time s
  | .listenOnlyChange x => Sys2Proof.Machine.execListenOnlyChange x s
  | .patternEnable acc v sending => Sys2Proof.Machine.execPatternEnable acc v s sending
  | .gatewayRuleEnable acc g v => Sys2Proof.Machine.execGatewayRuleEnable acc g v s
  | .fieldRunCommand x raw => Sys2Proof.Machine.execFieldRunCommand x raw s
  | .isolationFrame x toField ok correction => Sys2Proof.Machine.execIsolationFrame x toField ok correction s
  | .fieldLinkFailed x => Sys2Proof.Machine.execFieldLinkFailed x s
  | .fieldWatchdogExpiry x => Sys2Proof.Machine.execFieldWatchdogExpiry x s
  | .pinFunctionChange acc pin v => Sys2Proof.Machine.execPinFunctionChange acc pin v s
  | .inputFilterTick x raw time => Sys2Proof.Machine.execInputFilterTick x raw time s
  | .captureHeadRead acc pin => Sys2Proof.Machine.execCaptureHeadRead acc pin s
  | .inputDisagreement pin => Sys2Proof.Machine.execInputDisagreement pin s
  | .outputOverload x pin thermal => Sys2Proof.Machine.execOutputOverload x pin thermal s
  | .groupOverload x group currents => Sys2Proof.Machine.execGroupOverload x group currents s
  | .driverStuckOn x pin => Sys2Proof.Machine.execDriverStuckOn x pin s
  | .lampSample x pin mA => Sys2Proof.Machine.execLampSample x pin mA s
  | .pairedLampHoldOffEnd x => Sys2Proof.Machine.execPairedLampHoldOffEnd x s
  | .openLoadTest x pin before during => Sys2Proof.Machine.execOpenLoadTest x pin before during s
  | .learn acc pin v => Sys2Proof.Machine.execLearn acc pin v s
  | .learnDone x pin mean => Sys2Proof.Machine.execLearnDone x pin mean s
  | .endRoleGateWrite acc pin v => Sys2Proof.Machine.execEndRoleGateWrite acc pin v s
  | .fieldSupplyMeasure x v => Sys2Proof.Machine.execFieldSupplyMeasure x v s
  | .outputImage acc v => Sys2Proof.Machine.execOutputImage acc v s
  | .setOutputs acc v => Sys2Proof.Machine.execSetOutputs acc v s
  | .clearOutputs acc v => Sys2Proof.Machine.execClearOutputs acc v s
  | .rd op addr count check => Sys2Proof.Machine.execRd op addr count check s
  | .wr addr count data check => Sys2Proof.Machine.execWr addr count data check s
  | .wrc addr count data check => Sys2Proof.Machine.execWrc addr count data check s
  | .wrm addr count data check => Sys2Proof.Machine.execWrm addr count data check s
  | .lockrd addr count check => Sys2Proof.Machine.execLockrd addr count check s
  | .unlockwr addr count data check => Sys2Proof.Machine.execUnlockwr addr count data check s
  | .unlock addr count check => Sys2Proof.Machine.execUnlock addr count check s
  | .sync addr count check => Sys2Proof.Machine.execSync addr count check s
  | .frameAbandoned => Sys2Proof.Machine.execFrameAbandoned s
  | .postedWriteExecute path => Sys2Proof.Machine.execPostedWriteExecute path s
  | .hostResponseReady => Sys2Proof.Machine.execHostResponseReady s
  | .apertureCommit acc c len => Sys2Proof.Machine.execApertureCommit acc c len s
  | .highWordLatch addr write => Sys2Proof.Machine.execHighWordLatch addr write s
  | .remoteWindowAccess w => Sys2Proof.Machine.execRemoteWindowAccess w s
  | .windowHoldTimeout w => Sys2Proof.Machine.execWindowHoldTimeout w s
  | .prefetch w => Sys2Proof.Machine.execPrefetch w s
  | .prefetchBlockExpiry w => Sys2Proof.Machine.execPrefetchBlockExpiry w s
  | .hrstN => Sys2Proof.Machine.execHrstN s
  | .hrstNRise reads => Sys2Proof.Machine.execHrstNRise reads s
  | .endHostLinkSession acc v => Sys2Proof.Machine.execEndHostLinkSession acc v s
  | .hostLinkSessionExpiry => Sys2Proof.Machine.execHostLinkSessionExpiry s
  | .faultReaction c hits => Sys2Proof.Machine.execFaultReaction c hits s
  | .blockResetDone c source => Sys2Proof.Machine.execBlockResetDone c source s
  | .acknowledge acc module v hits => Sys2Proof.Machine.execAcknowledge acc module v s hits
  | .inject acc module source => Sys2Proof.Machine.execInject acc module source s
  | .fullReactionArm acc module source => Sys2Proof.Machine.execFullReactionArm acc module source s
  | .fullReactionArmLapse c => Sys2Proof.Machine.execFullReactionArmLapse c s
  | .recordWrite x first second closes later => Sys2Proof.Machine.execRecordWrite x first second s closes later
  | .eventLost x code => Sys2Proof.Machine.execEventLost x code s
  | .controlBlockRewrite x cut => Sys2Proof.Machine.execControlBlockRewrite x s cut
  | .clear acc v => Sys2Proof.Machine.execClear acc v s
  | .clearDone x badSlots controlOk => Sys2Proof.Machine.execClearDone x badSlots controlOk s
  | .timeTagRestore acc v => Sys2Proof.Machine.execTimeTagRestore acc v s
  | .recorderMemoryFailed x cause => Sys2Proof.Machine.execRecorderMemoryFailed x cause s
  | .rePlan x p => Sys2Proof.Machine.execRePlan x p s
  | .dailyRePlanDue x => Sys2Proof.Machine.execDailyRePlanDue x s
  | .rePlanNow acc v => Sys2Proof.Machine.execRePlanNow acc v s
  | .deferredRePlanStart x => Sys2Proof.Machine.execDeferredRePlanStart x s
  | .guardStep x => Sys2Proof.Machine.execGuardStep x s
  | .coreVoltageFault x => Sys2Proof.Machine.execCoreVoltageFault x s
  | .onResistanceMeasure x pin drop mA => Sys2Proof.Machine.execOnResistanceMeasure x pin drop mA s
  | .scrub x corrected uncorrectable => Sys2Proof.Machine.execScrub x corrected uncorrectable s
  | .equivalentHoursTick x temp rise => Sys2Proof.Machine.execEquivalentHoursTick x temp s rise
  | .planBoundWrite acc row ceiling v => Sys2Proof.Machine.execPlanBoundWrite acc row ceiling v s
  | .registerWrite acc index sub v => Sys2Proof.Machine.execRegisterWrite acc index sub v s
  | .restoreDefaults acc v => Sys2Proof.Machine.execRestoreDefaults acc v s
  | .imageChunk acc data => Sys2Proof.Machine.execImageChunk acc data s
  | .applyConfiguration acc len => Sys2Proof.Machine.execApplyConfiguration acc len s
  | .challenge acc => Sys2Proof.Machine.execChallenge acc s
  | .response acc data => Sys2Proof.Machine.execResponse acc data s
  | .authenticationLockoutEnd path => Sys2Proof.Machine.execAuthenticationLockoutEnd path s
  | .challengeExpiry path => Sys2Proof.Machine.execChallengeExpiry path s
  | .roleKey acc slot key => Sys2Proof.Machine.execRoleKey acc slot key s
  | .servicePortFrame bytes => Sys2Proof.Machine.execServicePortFrame bytes s
  | .serviceChallenge session => Sys2Proof.Machine.execServiceChallenge session s
  | .serviceAuthenticate session data => Sys2Proof.Machine.execServiceAuthenticate session data s
  | .serviceSessionEnd session why => Sys2Proof.Machine.execServiceSessionEnd session why s
  | .laneReady x scan => Sys2Proof.Machine.execLaneReady x scan s
  | .lockstepToggleStop x => Sys2Proof.Machine.execLockstepToggleStop x s
  | .changeoverLimitPassed x => Sys2Proof.Machine.execChangeoverLimitPassed x s
  | .readNoHolderTimeout => Sys2Proof.Machine.execReadNoHolderTimeout s
  | .syncTimeout => Sys2Proof.Machine.execSyncTimeout s
  | .sourceLeavesFault c source => Sys2Proof.Machine.execSourceLeavesFault c source s
  | .inrushWindowEnd x pin atLimit => Sys2Proof.Machine.execInrushWindowEnd x pin atLimit s
  | .canError x t kind inData more spared => Sys2Proof.Machine.execCanError x t kind inData more spared s
  | .arbitrationLost x t => Sys2Proof.Machine.execArbitrationLost x t s
  | .overvoltage => Sys2Proof.Machine.execOvervoltage s
  | .hvioAbsent => Sys2Proof.Machine.execHvioAbsent s
  | .hvioPresent => Sys2Proof.Machine.execHvioPresent s
  | .serviceLinkChange up => Sys2Proof.Machine.execServiceLinkChange up s
  | .marginAlarmRequestDue x e => Sys2Proof.Machine.execMarginAlarmRequestDue x e s
  | .lampTestEnd => Sys2Proof.Machine.execLampTestEnd s

end Sys2Proof.Machine
end

