-- ==== Sys2Proof/Machine/Tick.lean ====
section
/-! DEFINITION. One tick of the 125 MHz clock, which passes while no command waits (R274, R276, R429). -/

namespace Sys2Proof.Machine

/-- R274, R276: the timebase adds the increment in force: whole nanoseconds, fraction, carry, and the wrap count
(log 4: DESIGN CHOICE). -/
def LaneState.tickTime (l : LaneState) : TimeState :=
  let inc := l.get 0x400700
  let f := l.time.frac + inc % 16777216
  let ns := l.time.ns + inc / 16777216 + f / 16777216
  { l.time with ns := ns % 4294967296, frac := f % 16777216, wraps := l.time.wraps + ns / 4294967296 }

/-- R454: a locked lane, or one in mirror-follow, has kept its rate correction for 8 ns more. -/
def LaneState.tickRate (l : LaneState) : List RateSpan :=
  if l.timeState ≠ 2 ∧ l.timeState ≠ 4 then l.plan.rates
  else match l.plan.rates with
    | e :: t =>
      if e.rate = l.rate ∧ e.stop = l.log.opNs then ⟨e.stop + 8, e.ns + 8, e.rate⟩ :: t
      else ⟨l.log.opNs + 8, 8, l.rate⟩ :: e :: t
    | [] => [⟨l.log.opNs + 8, 8, l.rate⟩]

/-- A lane whose core is on counts train time and operating time (R274, R429, R454) (log 4: DESIGN CHOICE). -/
def LaneState.tick (l : LaneState) : LaneState :=
  if l.awake then
    { l with
      time := l.tickTime
      plan := { l.plan with rates := l.tickRate }
      log := { l.log with opNs := l.log.opNs + 8 } }
  else l

/-- R429, R504: 8 ns of a warm-up, in which the lane cores are on and no lane firmware runs: operating time, which the lanes
take over at their start. -/
def Keeper.tick (k : Keeper) : Keeper := { k with warmNs := k.warmNs + (if k.phase = .warmUp then 8 else 0) }

/-- 8 ns pass; the comparison after a planned changeover looks at the outputs throughout, and source 134 leaves fault
when its 10 s are over (R93, R408, log 4: DESIGN CHOICE). -/
def State.tick (s : State) : State :=
  (({ s.updBoth LaneState.tick with keeper := s.keeper.tick, clock := s.clock + 8 } : State).compareOutputs).hostLinkQuiet

end Sys2Proof.Machine
end

