-- ==== Sys2Proof/Machine/Step.lean ====
section
/-! DEFINITION. One step of the block: the command at the front of the queue, or a tick of the clock. -/

namespace Sys2Proof.Machine

/-- The command at the front of the queue is carried out with the queue's rest; while none waits, one tick passes
(log 1: DESIGN CHOICE, 2: DESIGN CHOICE, 4: DESIGN CHOICE). -/
def step (s : State) : Host.Outcome State Fault Refusal :=
  match s.pending with
  | [] => .next s.tick
  | c :: rest => exec c { s with pending := rest }

/-- A command put at the front of the queue (log 2: DESIGN CHOICE). -/
def State.push (s : State) (c : Instr) : State := { s with pending := c :: s.pending }

/-- The command that a word spells, at the front of the queue; the opcode table gives no row any bits, so no word spells
one (log 2: DESIGN CHOICE, 5: DESIGN CHOICE). -/
def State.withFetchWord (s : State) (nbits w : Nat) : State :=
  match decodeTableWord nbits w with
  | some c => s.push c
  | none => s

end Sys2Proof.Machine
end

