-- ==== Sys2Proof/Safety.lean ====
section
/-! DEFINITION. What a safe step is, which states are canonical, and the forms in which claims speak of commands. -/

namespace Sys2Proof

/-- A step that neither faults nor refuses. -/
def StepSafe (s : Machine.State) : Prop := ∃ t, Machine.step s = .next t

/-- A table with its entries in rising order of their numbers. -/
abbrev Rising {α : Type} (t : List (Nat × α)) : Prop := t.Pairwise (fun a b => a.1 < b.1)

/-- The tables of a collector are in canonical form. -/
abbrev CollCanon (c : Machine.Collector) : Prop :=
  Machine.tabCanon (fun _ => (0 : Nat)) c.level = true ∧ Machine.tabCanon (fun _ => (0 : Nat)) c.merged = true

/-- The tables of a lane are in canonical form: equal contents are equal data. Pins and sessions stand in rising order. -/
abbrev LaneCanon (l : Machine.LaneState) : Prop :=
  Machine.tabCanon Machine.regDefault l.reg = true ∧ Machine.tabCanon (fun _ => (0 : Byte)) l.xmem = true
    ∧ Rising l.field.pins ∧ Rising l.msg.sessions ∧ CollCanon l.coll

/-- The tables of the module are in canonical form: registers, collectors, windows, and those of its lanes. -/
abbrev Canon (s : Machine.State) : Prop :=
  Machine.tabCanon Machine.regDefault s.mreg = true ∧ CollCanon s.coll ∧ Rising s.host.wins
    ∧ LaneCanon s.laneA ∧ LaneCanon s.laneB

/-- At most one lane is in possession (R78, R80). -/
abbrev OneHolder (s : Machine.State) : Prop :=
  ¬(s.laneA.mode = Machine.Mode.possession ∧ s.laneB.mode = Machine.Mode.possession)

/-- A command takes effect: it answers a next state of which P holds. -/
def Leads (c : Instr) (s : Machine.State) (P : Machine.State → Prop) : Prop :=
  ∃ t, Machine.exec c s = .next t ∧ P t

/-- An access to a command entry of the lanes that passes availability and role (R471, R472, R480); over the host link,
while it takes inputs (R19). -/
abbrev Reaches (s : Machine.State) (a : Sys2Proof.Acc) (role : Nat) (x : LaneId) : Prop :=
  s.target a.sel = some x ∧ s.available x = true ∧ role ≤ s.role a.path ∧ (a.path = .host → s.hostOn = true)

/-- An access to a module-level command entry that passes availability and role (R471, R472, R480); over the host
link, while it takes inputs (R19). -/
abbrev ReachesModule (s : Machine.State) (a : Sys2Proof.Acc) (role : Nat) : Prop :=
  s.awake = true ∧ role ≤ s.role a.path ∧ (a.path = .host → s.hostOn = true)

/-- A lane's recorder takes events: nothing of R433, R436, R437, R440 and R443 holds it back. -/
abbrev CanRecord (l : Machine.LaneState) : Prop :=
  l.awake = true ∧ l.mode ≠ .stopped ∧ l.log.failed = none ∧ (l.log.full = false ∨ l.log.inClear = true)
    ∧ l.recorderResets = false ∧ l.log.queue.length < 256

/-- The event, with its tags and flags of the moment before the command, is the last in the lane's queue (R426, R428). -/
abbrev Queues (s t : Machine.State) (x : LaneId) (code : Nat) (data : List Byte) : Prop :=
  (t.lane x).log.queue = (s.lane x).log.queue ++ [(s.lane x).event s.keeper.onHoldUp code data]

/-- A source of a lane whose reaction neither releases nor resets anything: level and ceiling are at most 2 (R409, R417). -/
abbrev Quiet (s : Machine.State) (x : LaneId) (n : Nat) : Prop :=
  s.sourceLevel (.lane x) n ≤ 2 ∧ s.sourceCeiling (.lane x) n ≤ 2

end Sys2Proof
end

