-- ==== Sys2Proof/Certificates/Slice0/Obligations.lean ====
section
/-! DEFINITION. The claims made of the model, by family of commands. -/

section
open Sys2Proof Sys2Proof.Machine

/-! ### Presence, lamps, supply, wake and sleep (chapters 01 and 02) -/

/-- PRES_S is noted as it closes and opens; a module that opens it before it is mated waits for its insertion again. Mating
takes the slot code from eight equal reads, FFh for any others, begins the lamp test, and begins the start-up of a module
that waited for it; a start-up that runs already goes on to wait for the hold-up. A closure after a withdrawal ends the
withdrawal (R23, R24, R30, R34). A confirmed withdrawal of a mated module leaves both lanes unpowered, no lane in
possession, and the arbiter, the host front and the module's collector as after reset; the open challenge and the host
link session end, the keys stay; lanes that were on have field sides without power and empty record queues; a
module-level register that nonvolatile memory does not keep is back at its default, but that a live supply goes on
showing its voltage; without one the withdrawal is forgotten (R23, R32, R33, R34, R40). That PRES_S opening before the
module is mated puts it back to waiting for its insertion is the model's choice (log 58: DESIGN CHOICE). Where the manual
leaves a corner open, the model's choice: log entries 3, 8 and 58. -/
def Obligations.InsertionAndWithdrawal : Prop :=
  (∀ s : State, exec .presSClose s = .next { s with keeper := { s.keeper with presClosed := true } }) ∧
  (∀ s : State, s.keeper.mated = true →
    exec .presSOpen s = .next { s with keeper := { s.keeper with presClosed := false } }) ∧
  (∀ s : State, s.keeper.mated = false → s.keeper.phase ≠ .off → s.keeper.phase ≠ .awake →
    exec .presSOpen s = .next { s with keeper := { s.keeper with presClosed := false, phase := .unmated } }) ∧
  (∀ (s : State) (reads : List (BitVec 4)) (temp : Int), Canon s → s.keeper.presClosed = true →
    s.keeper.mated = false → s.keeper.withdrawn = false → s.keeper.phase = .unmated → s.keeper.charged = false →
    Leads (.mated reads temp) s fun t =>
      t.keeper.mated = true ∧ t.keeper.lampTest = true ∧
      (s.mget 0x120200 ≠ 1 → t.keeper.phase = coldPhase s.variant2 temp ∧ t.keeper.knockDue = true) ∧
      (s.mget 0x120200 = 1 → t.keeper.phase = .standby) ∧
      (∀ v : BitVec 4, reads.length = 8 → (∀ r ∈ reads, r = v) → t.mget 0x100800 = v.toNat) ∧
      (∀ r ∈ reads, ∀ q ∈ reads, r ≠ q → t.mget 0x100800 = 0xFF) ∧
      (reads.length ≠ 8 → t.mget 0x100800 = 0xFF) ∧
      t = { s with keeper := t.keeper, mreg := t.mreg, arb := { s.arb with changeAt := s.clock } }) ∧
  (∀ (s : State) (reads : List (BitVec 4)) (temp : Int), Canon s → s.keeper.presClosed = true →
    s.keeper.mated = false → s.keeper.withdrawn = false → s.keeper.phase = .charging → s.keeper.charged = false →
    Leads (.mated reads temp) s fun t =>
      t.keeper = { s.keeper with mated := true, lampTest := true } ∧
      (∀ v : BitVec 4, reads.length = 8 → (∀ r ∈ reads, r = v) → t.mget 0x100800 = v.toNat) ∧
      t = { s with keeper := t.keeper, mreg := t.mreg }) ∧
  (∀ s : State, s.keeper.withdrawn = true → s.keeper.presClosed = true →
    exec .reinsertionAfterWithdrawal s = .next { s with keeper := { s.keeper with withdrawn := false } }) ∧
  (∀ s : State, s.keeper.presClosed = false → s.keeper.mated = true →
    Leads .withdrawalConfirmed s fun t =>
      t.keeper.mated = false ∧ t.keeper.withdrawn = s.keeper.supplyGood ∧
      t.keeper.phase = (if s.keeper.supplyGood then .unmated else .off) ∧
      t.laneA.mode = .unpowered ∧ t.laneB.mode = .unpowered ∧ t.holder = none ∧
      t.arb = Arbiter.reset ∧ t.host = HostState.reset ∧ t.coll = Collector.empty ∧
      t.sec.hostRole = none ∧ t.sec.challenge = none ∧
      t.sec.roleKeys = s.sec.roleKeys ∧ t.sec.cfgKeys = s.sec.cfgKeys ∧ t.sec.fwKeys = s.sec.fwKeys ∧
      (∀ x, (s.lane x).awake = true → (t.lane x).field = FieldState.reset ∧ (t.lane x).log.queue = []) ∧
      (∀ k, keptModule k = false → k ≠ 0x120000 ∨ s.keeper.supplyGood = false → t.mget k = regDefault k) ∧
      (s.keeper.supplyGood = true → t.mget 0x120000 = s.mget 0x120000))

/-- The lamp test and Locate end; Locate takes a number of seconds up to 3,600 from an Operator, more is out of range and any
role below is denied; HVIO is noted as it comes and goes (R19, R30). The lane in possession, with its peer awake, free of
an update and a shutdown record and no Roll running, puts that peer to sleep: its field side has no power, and the lane
in possession records it; it wakes a peer that is off, which boots in its own possession mode and does not knock. Neither
is accepted at a lane that does not hold possession (R61, R97, R443). Where the manual leaves a corner open, the model's
choice: log entries 20 and 58. -/
def Obligations.LampsHvioAndPeerPower : Prop :=
  (∀ s : State, exec .lampTestEnd s = .next { s with keeper := { s.keeper with lampTest := false } }) ∧
  (∀ s : State, exec .locateExpiry s = .next { s with keeper := { s.keeper with locate := 0 } }) ∧
  (∀ s : State, exec .hvioAbsent s = .next { s with keeper := { s.keeper with hvio := false } }) ∧
  (∀ s : State, exec .hvioPresent s = .next { s with keeper := { s.keeper with hvio := true } }) ∧
  (∀ (s : State) (a : Sys2Proof.Acc) (n : BitVec 16), ReachesModule s a 1 → n.toNat ≤ 3600 →
    exec (.locate a n) s = .next ({ s with keeper := { s.keeper with locate := n.toNat } }.answer 0)) ∧
  (∀ (s : State) (a : Sys2Proof.Acc) (n : BitVec 16), ReachesModule s a 1 → 3600 < n.toNat →
    exec (.locate a n) s = .next (s.abort 0x01000005)) ∧
  (∀ (s : State) (a : Sys2Proof.Acc) (n : BitVec 16), s.awake = true → s.role a.path < 1 →
    (a.path = .host → s.hostOn = true) → exec (.locate a n) s = .next (s.abort 0x01000004)) ∧
  (∀ (s : State) (a : Sys2Proof.Acc) (x : LaneId), Reaches s a 1 x → s.peerMaySleep x = true →
    (s.lane x.peer).awake = true →
    Leads (.peerLaneSleep a) s fun t =>
      (t.lane x.peer).mode = .asleep ∧ (t.lane x.peer).field = FieldState.reset ∧ t.ans = ⟨0, 0, []⟩ ∧
      (t.lane x).mode = (s.lane x).mode ∧
      (CanRecord (s.lane x) → Queues s t x 0x0002 (shutdownData s x 4)) ∧
      t.mreg = s.mreg ∧ t.arb = s.arb ∧
      t.keeper = { s.keeper with tossWindow := t.keeper.tossWindow, askedA := t.keeper.askedA }) ∧
  (∀ (s : State) (a : Sys2Proof.Acc) (x : LaneId), Reaches s a 1 x → s.holder = some x →
    (s.lane x.peer).awake = false →
    Leads (.peerLaneWake a) s fun t =>
      (t.lane x.peer).mode = .booting ∧ t.ans = ⟨0, 0, []⟩ ∧
      (t.lane x.peer).poss.interlock = (s.lane x).poss.interlock ∧ (t.lane x).mode = (s.lane x).mode ∧
      t.get x.peer 0x123300 = s.get x.peer 0x123300 ∧ t.mreg = s.mreg ∧ t.keeper = s.keeper ∧ t.arb = s.arb) ∧
  (∀ (s : State) (a : Sys2Proof.Acc) (x : LaneId), Reaches s a 1 x → s.holder ≠ some x →
    exec (.peerLaneSleep a) s = .next (s.refuse a 0x1211 0) ∧
    exec (.peerLaneWake a) s = .next (s.refuse a 0x1211 0))

/-- A good supply of 8.80 V or more starts a module that is inserted and lets any other wait for its insertion; less does
nothing. The board temperature decides for each variant between waiting, warming up and going on to charge; so does each
later reading of a module that waits, and the end of the warm-up goes on to charge, with the times of the start counted
from it (R37, R43, R504). With the hold-up charged both lanes of a mated module boot, count a power cycle and take the
stored possession mode; a module that is not mated yet keeps its charge. A supply below 8.20 V leaves an awake module
running from the hold-up, but takes one that enters sleep through the power-fail sequence at once, and leaves any other
off, unmated and with both lanes unpowered. A bridged interruption counts and is recorded by each lane that records. The
power-fail sequence leaves the module off, with lanes unpowered, arbiter and host front as after reset, and no lane in
possession. An overvoltage that the keeper watches sets bit 1 of entry 1201h (R32, R38, R39, R40, R43, R60, R63, R97,
R429, R430). Where the manual leaves a corner open, the model's choice: log entries 25 and 65. -/
def Obligations.SupplyAndHoldUp : Prop :=
  (∀ (s : State) (volts : BitVec 16) (temp : Int), s.keeper.supplyGood = false → 880 ≤ volts.toNat →
    s.supplyWatched = true → s.keeper.phase = .off → s.keeper.presClosed = false →
    exec (.supplyGood volts temp) s = .next
      ({ s with keeper := { s.keeper with supplyGood := true, phase := .unmated } }.mput 0x120000 volts.toNat)) ∧
  (∀ (s : State) (volts : BitVec 16) (temp : Int), s.keeper.supplyGood = false → 880 ≤ volts.toNat →
    s.supplyWatched = true → s.keeper.phase = .off → s.keeper.presClosed = true → s.keeper.withdrawn = false →
    s.mget 0x120200 ≠ 1 →
    Leads (.supplyGood volts temp) s fun t =>
      t.keeper.supplyGood = true ∧ t.keeper.mated = s.keeper.mated ∧ t.keeper.knockDue = true ∧
      t = { s with keeper := t.keeper, mreg := t.mreg, arb := { s.arb with changeAt := s.clock } } ∧
      (s.variant2 = false → temp < -4000 → t.keeper.phase = .coldWait) ∧
      (s.variant2 = false → -4000 ≤ temp → t.keeper.phase = .charging) ∧
      (s.variant2 = true → temp < -5000 → t.keeper.phase = .coldWait) ∧
      (s.variant2 = true → -5000 ≤ temp → temp < -4000 → t.keeper.phase = .warmUp) ∧
      (s.variant2 = true → -4000 ≤ temp → t.keeper.phase = .charging)) ∧
  (∀ (s : State) (volts : BitVec 16) (temp : Int), volts.toNat < 880 → exec (.supplyGood volts temp) s = .next s) ∧
  (∀ (s : State) (temp : Int), s.keeper.phase = .coldWait → s.keeper.charged = false →
    -4000 ≤ temp → exec (.coldStartRecheck temp) s = .next { s with keeper := { s.keeper with phase := .charging } }) ∧
  (∀ (s : State) (temp : Int), s.keeper.phase = .coldWait → s.variant2 = true → -5000 ≤ temp → temp < -4000 →
    exec (.coldStartRecheck temp) s = .next { s with keeper := { s.keeper with phase := .warmUp } }) ∧
  (∀ (s : State) (temp : Int), s.keeper.phase = .coldWait → temp < -5000 ∨ (s.variant2 = false ∧ temp < -4000) →
    exec (.coldStartRecheck temp) s = .next s) ∧
  (∀ s : State, s.keeper.phase = .warmUp → s.keeper.charged = false →
    exec .warmUpEnd s = .next { s with
      keeper := { s.keeper with phase := .charging }, arb := { s.arb with changeAt := s.clock } }) ∧
  (∀ s : State, s.keeper.phase = .unmated → s.keeper.supplyGood = true →
    exec .holdUpCharged s = .next { s with keeper := { s.keeper with charged := true } }) ∧
  (∀ s : State, Canon s → s.keeper.phase = .charging → s.keeper.supplyGood = true → s.keeper.mated = true →
    s.mget 0x100800 ≠ 0xFF →
    Leads .holdUpCharged s fun t =>
      t.keeper = { s.keeper with phase := .awake, charged := true, knockDue := false } ∧
      t.arb = { Arbiter.reset with running := true, changeAt := s.arb.changeAt } ∧ t.mreg = s.mreg ∧
      (∀ x, (t.lane x).mode = .booting ∧ (t.lane x).get 0x140B01 = 6 ∧
        (∀ c, (s.lane x).log.vote = some c → (t.lane x).log.cycles = satInc 0xFFFFFF c.cycles) ∧
        (t.lane x).poss.interlock = decide ((s.lane x).get 0x110200 = 1) ∧ (t.lane x).xmem = (s.lane x).xmem)) ∧
  (∀ (s : State) (volts : BitVec 16), s.keeper.supplyGood = true → volts.toNat < 820 → s.supplyWatched = true →
    s.keeper.phase = .awake → s.keeper.sleeping = none →
    Leads (.supplyLost volts) s fun t =>
      t.keeper = { s.keeper with supplyGood := false, onHoldUp := true, charged := false } ∧
      t = { s with keeper := t.keeper, mreg := t.mreg }) ∧
  (∀ (s : State) (volts : BitVec 16) (cause : Nat), s.keeper.supplyGood = true → volts.toNat < 820 →
    s.supplyWatched = true → s.keeper.phase = .awake → s.keeper.sleeping = some cause →
    Leads (.supplyLost volts) s fun t =>
      t.keeper.phase = .off ∧ t.keeper.supplyGood = false ∧ t.keeper.sleeping = none ∧
      t.laneA.mode = .unpowered ∧ t.laneB.mode = .unpowered ∧ t.arb = Arbiter.reset ∧ t.host = HostState.reset ∧
      t.holder = none) ∧
  (∀ (s : State) (volts : BitVec 16), s.keeper.supplyGood = true → volts.toNat < 820 → s.supplyWatched = true →
    s.keeper.phase ≠ .awake →
    Leads (.supplyLost volts) s fun t =>
      t.keeper.phase = .off ∧ t.keeper.supplyGood = false ∧ t.keeper.mated = false ∧
      t.laneA = { s.laneA with mode := .unpowered } ∧ t.laneB = { s.laneB with mode := .unpowered } ∧
      t.arb = s.arb ∧ t.sec.roleKeys = s.sec.roleKeys) ∧
  (∀ (s : State) (micros : BitVec 32) (lowest volts : BitVec 16), Canon s → s.keeper.phase = .awake →
    s.keeper.onHoldUp = true → 880 ≤ volts.toNat → s.supplyWatched = true → s.mget 0x120300 < 100 →
    Leads (.interruptionBridged micros lowest volts) s fun t =>
      t.keeper = { s.keeper with supplyGood := true, onHoldUp := false } ∧
      t.mget 0x120300 = s.mget 0x120300 + 1 ∧ t.mget 0x120000 = volts.toNat ∧
      (∀ x, CanRecord (s.lane x) →
        Queues s t x 0x0004 (toBytes 4 micros.toNat ++ toBytes 2 lowest.toNat)) ∧
      (∀ x, (t.lane x).mode = (s.lane x).mode)) ∧
  (∀ s : State, s.keeper.phase = .awake → s.keeper.onHoldUp = true →
    Leads .powerFailSequence s fun t =>
      t.keeper.phase = .off ∧ t.keeper.supplyGood = false ∧ t.keeper.mated = false ∧
      t.laneA.mode = .unpowered ∧ t.laneB.mode = .unpowered ∧ t.arb = Arbiter.reset ∧ t.host = HostState.reset ∧ t.holder = none) ∧
  (∀ s : State, s.keeper.phase ≠ .off → s.supplyWatched = true →
    exec .overvoltage s = .next (s.mput 0x120100 (withBit (s.mget 0x120100) 1 true)))

/-- A knock at either end, HWAKE, and a rise of a pin with the wake function each mark their detector at a module in standby.
At an awake module a knock on the line of an awake lane counts in that lane's entry 1232h and changes nothing else, and
HWAKE and wake pins change nothing (R49, R51, R52, R54). A module in standby whose detectors fired wakes: its wake cause
goes to entry 1230h and no other register changes; the start-up knocks if a knock woke it, or HWAKE with its scope bit at
train, and does not if no knock woke it and both scope bits say local; from −40 °C on it goes on to charge (R53, R55,
R504). Where the manual leaves a corner open, the model's choice: log entries 29, 58 and 65. -/
def Obligations.WakeAndKnock : Prop :=
  (∀ (s : State) (line : LaneId) (e1 e2 : Bool), e1 = true ∨ e2 = true → s.keeper.phase = .awake →
    (s.lane line).awake = true → exec (.knock line e1 e2) s = .next (s.inc line 0x123200)) ∧
  (∀ (s : State) (line : LaneId) (e1 e2 : Bool), e1 = true ∨ e2 = true → s.keeper.phase = .standby →
    exec (.knock line e1 e2) s = .next { s with keeper := { s.keeper with
      fired := s.keeper.fired ||| (if line = .A then b2n e1 + 2 * b2n e2 else 4 * b2n e1 + 8 * b2n e2) } }) ∧
  (∀ s : State, s.keeper.phase = .standby →
    exec .hwake s = .next { s with keeper := { s.keeper with fired := s.keeper.fired ||| 16 } }) ∧
  (∀ (s : State) (x : LaneId) (pin : Fin 24), s.keeper.phase = .standby → (s.lane x).pinFunction pin.val = 4 →
    exec (.fieldWake x pin) s = .next { s with keeper := { s.keeper with
      fired := s.keeper.fired ||| (if x = .A then 64 else 128) } }) ∧
  (∀ s : State, s.keeper.phase = .awake → exec .hwake s = .next s) ∧
  (∀ (s : State) (x : LaneId) (pin : Fin 24), s.keeper.phase = .awake → exec (.fieldWake x pin) s = .next s) ∧
  (∀ (s : State) (temp : Int), Canon s → s.keeper.phase = .standby → s.keeper.fired ≠ 0 → s.keeper.fired < 65536 →
    Leads (.wakeFromStandby temp) s fun t =>
      t.mget 0x123000 = s.keeper.fired ∧ t.keeper.fired = 0 ∧ t.arb = { s.arb with changeAt := s.clock } ∧
      t = { s with keeper := t.keeper, mreg := t.mreg, arb := t.arb } ∧
      (∀ k, k ≠ 0x123000 → t.mget k = s.mget k) ∧
      (s.keeper.fired % 16 ≠ 0 → t.keeper.knockDue = true) ∧
      (s.keeper.fired % 16 = 0 → bitAt (s.mget 0x123100) 0 = true → bitAt (s.mget 0x123100) 1 = true →
        t.keeper.knockDue = false) ∧
      (bitAt s.keeper.fired 4 = true → bitAt (s.mget 0x123100) 0 = false → t.keeper.knockDue = true) ∧
      (-4000 ≤ temp → t.keeper.phase = .charging))

/-- Node sleep. Both commands of entry 1220h are refused and recorded while a Roll runs, an update is in progress in either
lane or a shutdown record is being written, and denied on remote and image paths. Else local sleep begins the sleep
entry, both lanes falling silent, and train sleep fixes the sleep beat and leaves 8 announcements due. At the sleep beat
the entry begins, or it is deferred and counted, and begins when nothing defers it. The entry leaves the module in
standby, both lanes asleep with their field sides without power, no lane in possession, arbiter and host front as after
reset, and the registers that the keeper holds as they were. An announced later beat is taken as the sleep beat by a
ready lane that has not acted on it; with a sleep beat fixed, Roll triggers are discarded (R57, R58, R59, R60, R270).
Where the manual leaves a corner open, the model's choice: log entries 19, 23 and 58. -/
def Obligations.NodeSleep : Prop :=
  (∀ (s : State) (a : Sys2Proof.Acc), sleepPath a.path = true → ReachesModule s a 1 → s.maySleep = true →
    exec (.localSleep a) s = .next ((s.beginSleep 2).answer 0)) ∧
  (∀ (s : State) (a : Sys2Proof.Acc), sleepPath a.path = true → ReachesModule s a 1 →
    s.rolling = true ∨ s.get .A 0x112000 ≠ 0 ∨ s.get .B 0x112000 ≠ 0 ∨ s.laneA.log.shutdown = true ∨
      s.laneB.log.shutdown = true →
    exec (.localSleep a) s = .next (s.refuse a 0x1220 0) ∧ exec (.trainSleep a) s = .next (s.refuse a 0x1220 0)) ∧
  (∀ (s : State) (a : Sys2Proof.Acc), a.path = .remote ∨ a.path = .image →
    exec (.localSleep a) s = .next (s.abort 0x01000004) ∧ exec (.trainSleep a) s = .next (s.abort 0x01000004)) ∧
  (∀ (s : State) (cause : Nat), (s.beginSleep cause).keeper.sleeping = some cause ∧
    (s.beginSleep cause).laneA.quiet = true ∧ (s.beginSleep cause).laneB.quiet = true) ∧
  (∀ (s : State) (a : Sys2Proof.Acc), sleepPath a.path = true → ReachesModule s a 1 → s.maySleep = true →
    exec (.trainSleep a) s = .next ({ s with keeper := { s.keeper with
      announce := 8
      sleepBeat := some (((s.lane (s.holder.getD .A)).trainTime / 1000000 + s.mget 0x122100) * 1000000) } }.answer 0)) ∧
  (∀ (s : State) (b : Nat), s.keeper.sleepBeat = some b → s.sleepDefers = false →
    exec .sleepBeat s = .next (s.beginSleep 3)) ∧
  (∀ (s : State) (b : Nat), s.keeper.sleepBeat = some b → s.sleepDefers = true →
    exec .sleepBeat s = .next (({ s with keeper := { s.keeper with
      sleepBeat := none, announce := 0, deferred := true } }).minc 0x122200)) ∧
  (∀ s : State, s.keeper.deferred = true → s.sleepDefers = false →
    exec .sleepDeferredEnd s = .next (s.beginSleep 3)) ∧
  (∀ (s : State) (cause : Nat), s.keeper.sleeping = some cause → s.laneA.awake = true → s.laneB.awake = true →
    Leads .sleepEntry s fun t =>
      t.keeper.phase = .standby ∧ t.keeper.sleeping = none ∧ t.laneA.mode = .asleep ∧ t.laneB.mode = .asleep ∧
      t.holder = none ∧ t.arb = Arbiter.reset ∧ t.host = HostState.reset ∧
      t.laneA.field = FieldState.reset ∧ t.laneB.field = FieldState.reset ∧
      (∀ k, keptStandby k = true → t.mget k = s.mget k)) ∧
  (∀ (s : State) (x : LaneId) (beat : BitVec 64), (s.lane x).ready = true →
    (s.lane x).trainTime / 1000000 * 1000000 < beat.toNat → (s.lane x).msg.lastSleep ≠ some beat.toNat →
    s.keeper.sleepBeat = none →
    Leads (.sleepAnnouncement x beat) s fun t =>
      t.keeper = { s.keeper with sleepBeat := some beat.toNat } ∧ (t.lane x).msg.lastSleep = some beat.toNat) ∧
  (∀ (s : State) (x : LaneId) (code : Nat), s.keeper.sleepBeat.isSome = true → s.rollTrigger x code = s)

/-! ### The mirror link, the arbiter, possession and changeover (chapter 03) -/

/-- A mirror frame with a CRC error counts in entry 1111h and begins the count of good frames anew. On a link that is down a
good frame brings the peer's status word, takes its epoch where the lane goes by it, and counts. A lane in arbiter-less
hold whose peer reaches the arbiter releases with the next good frame. After 100 good frames the link is up and source 96
leaves fault, with a resync if some lane holds possession; after fewer nothing happens. Loss counts in entry 1112h,
begins the allowance of 1 ms, and raises source 96; the allowance ends (R66, R68, R76). While the link is up and no Roll
runs at the peer, each good frame from the lane in possession brings the standby its sessions, its mailbox, its output
image and its epoch. The end of a resync brings its sessions, records, locks, mailbox and exchange memory, where no
missed configuration image waits, and changes the peer not at all (R66, R67, R68, R247, R267). Where the manual leaves a
corner open, the model's choice: log entries 49 and 59. -/
def Obligations.Mirror : Prop :=
  (∀ (s : State) (x : LaneId), s.mirrorAlive x = true →
    exec (.mirrorFrame x false) s = .next (s.upd x (fun l => { (l.inc 0x111100).sample 7 1 with
      poss := { l.poss with goodFrames := 0 } }))) ∧
  (∀ (s : State) (x : LaneId), s.mirrorAlive x = true → (s.lane x).poss.mirrorUp = false →
    (s.lane x).poss.hold = false → (s.lane x).poss.goodFrames < 100 →
    exec (.mirrorFrame x true) s = .next (s.upd x (fun l => { l with poss := { l.poss with
      peerWord := s.statusWord x.peer, mirrorSeen := l.poss.mirrorSeen || l.ready
      epoch := if l.takesEpoch (s.statusWord x.peer) then s.statusWord x.peer % 256 else l.poss.epoch
      goodFrames := l.poss.goodFrames + 1 } })).tossCheck) ∧
  (∀ (s : State) (x : LaneId), s.mirrorAlive x = true → (s.lane x).poss.hold = true →
    (s.lane x).mode = .possession → (s.lane x.peer).poss.arbLink = true →
    Leads (.mirrorFrame x true) s fun t =>
      (t.lane x).mode = .releasing ∧ (t.lane x).poss.releaseCause = 3 ∧ t.arb.changeAt = s.clock) ∧
  (∀ (s : State) (x : LaneId), s.mirrorAlive x = true → (s.lane x).poss.mirrorUp = false →
    (s.lane x).poss.goodFrames = 100 →
    exec (.mirrorUp x) s = .next ((s.upd x (fun l => { l with poss := { l.poss with
      mirrorUp := true, allowance := false, resync := s.holder.isSome, upNoHolder := s.holder.isNone
      goodFrames := 0 } })).lower (.lane x) 96).tossCheck) ∧
  (∀ (s : State) (x : LaneId), (s.lane x).poss.goodFrames < 100 → exec (.mirrorUp x) s = .next s) ∧
  (∀ (s : State) (x : LaneId), (s.lane x).awake = true → (s.lane x).poss.mirrorUp = true →
    (s.lane x).poss.hold = false →
    exec (.mirrorLost x) s = .next ((s.upd x (fun l => { l.inc 0x111200 with poss := { l.poss with
      mirrorUp := false, allowance := true, resync := false, goodFrames := 0 } })).raiseLane x 96)) ∧
  (∀ (s : State) (x : LaneId), exec (.mirrorCurrentAllowanceEnd x) s =
    .next (s.upd x (fun l => { l with poss := { l.poss with allowance := false } })).tossCheck) ∧
  (∀ (s : State) (x : LaneId), Canon s → s.mirrorAlive x = true → (s.lane x).poss.mirrorUp = true →
    (s.lane x).poss.hold = false → (s.lane x).mode = .standby → (s.lane x.peer).mode = .possession →
    (s.lane x.peer).roll.running = false →
    Leads (.mirrorFrame x true) s fun t =>
      (t.lane x).msg.sessions = (s.lane x.peer).msg.sessions ∧
      (t.lane x).msg.mail = (s.lane x).mirroredMail (s.lane x.peer) ∧
      t.get x 0x510000 = s.get x.peer 0x510000 % 2 ^ 32 ∧
      (t.lane x).poss.epoch = (s.lane x.peer).poss.epoch % 256 ∧
      (t.lane x).poss.peerWord / 4096 = 3 ∧ (t.lane x).mode = .standby ∧ (t.lane x.peer).mode = .possession) ∧
  (∀ (s : State) (x : LaneId), s.mirrorAlive x = true → (s.lane x).poss.mirrorUp = true →
    (s.lane x).poss.resync = true → (s.lane x).mode = .standby → (s.lane x.peer).mode = .possession →
    s.sec.missed = [] →
    Leads (.resyncComplete x) s fun t =>
      (t.lane x).poss.resync = false ∧ (t.lane x).msg.sessions = (s.lane x.peer).msg.sessions ∧
      (t.lane x).msg.records = (s.lane x.peer).msg.records ∧ (t.lane x).msg.locks = (s.lane x.peer).msg.locks ∧
      (t.lane x).msg.mail = (s.lane x.peer).msg.mail ∧ (t.lane x).xmem = (s.lane x.peer).xmem ∧
      t.lane x.peer = s.lane x.peer)

/-- In the Toss an eligible lane A asks: its request goes out with its view of its peer; where its arbiter link is down no
request goes out and it has not asked. Lane B's turn comes at the end of its 10 ms if no lane holds possession and lane A
has not asked; if lane A has asked, lane B's turn does not come (R71, R72, R73). A valid arbiter frame at a lane in
possession brings its link up and source 98 out of fault; the loss of the link withdraws the request, so that lane A has
not asked, and raises source 98. The arbiter takes a renewal of the holder whose lease runs, and its acknowledgement
renews the local lease and ends a hold. The lease of a holder expires at the running arbiter. A restart leaves it
running, waiting and without holder, and source 132 out of fault; the wait for renewals ends (R73, R74, R75, R76, R77).
At the end of the local lease a lane whose peer stands by without its arbiter link holds on. A lane with the mirror down,
or whose peer reaches the arbiter, releases with cause 3, and the changeover is timed from its last acknowledged renewal
(R76, R83). That lane A has not asked while its arbiter link is down, and that the loss of the link withdraws its
request, is the model's choice (log 59: DEDUCED), and so is that no renewal is accepted after the restart wait without a
holder (log 65: DESIGN CHOICE). Where the manual leaves a corner open, the model's choice: log entries 59 and 65. -/
def Obligations.ArbiterAndLeases : Prop :=
  (∀ s : State, s.holder = none → s.eligible .A = true → s.eligible .B = false → s.mayHold = true →
    s.laneA.poss.interlock = false → s.laneA.poss.arbLink = true →
    exec .toss s = .next { s with
      keeper := { s.keeper with askedA := true }
      laneA := { s.laneA with poss := { s.laneA.poss with
        request := true, view := s.laneA.poss.viewOfPeer } } }) ∧
  (∀ s : State, s.laneA.poss.arbLink = false → s.eligible .B = false → exec .toss s = .next s) ∧
  (∀ s : State, s.holder = none → s.eligible .B = true → s.keeper.askedA = false →
    exec .tossBWindowExpiry s = .next { s with keeper := { s.keeper with tossWindow := true } }) ∧
  (∀ s : State, s.keeper.askedA = true → exec .tossBWindowExpiry s = .next s) ∧
  (∀ s : State, s.keeper.askedA = true → s.tossAllows .B = false) ∧
  (∀ (s : State) (x : LaneId), (s.lane x).mode = .possession → s.arb.running = true →
    (s.lane x).coll.resetting .links = false →
    exec (.arbiterFrame x) s = .next ((s.upd x (fun l => { l with
      poss := { l.poss with arbLink := true } })).lower (.lane x) 98)) ∧
  (∀ (s : State) (x : LaneId), (s.lane x).poss.arbLink = true →
    exec (.arbiterLinkLost x) s = .next (((if x = .A then
      { s with keeper := { s.keeper with askedA := false } } else s).upd x (fun l => { l with
      poss := { l.poss with arbLink := false, request := false } })).raiseLane x 98)) ∧
  (∀ (s : State) (x : LaneId), (s.lane x).mode = .possession → (s.lane x).poss.interlock = false →
    s.arb.running = true → (s.lane x).poss.arbLink = true → s.arb.holder = some x → s.arb.expired = false →
    exec (.renewal x) s = .next { (s.upd x (fun l => { l with poss := { l.poss with
      view := l.poss.viewOfPeer, renewals := l.poss.renewals + 1 } })) with
      arb := { s.arb with holder := some x, expired := false, waiting := false } }) ∧
  (∀ (s : State) (x : LaneId), (s.lane x).mode = .possession → (s.lane x).poss.renewals ≠ 0 →
    exec (.renewalAck x) s = .next (s.upd x (fun l => { l with poss := { l.poss with
      lease := true, hold := false, renewals := 0, ackedAt := s.clock } }))) ∧
  (∀ s : State, s.arb.running = true → s.arb.holder.isSome = true →
    exec .leaseExpiry s = .next { s with arb := { s.arb with
      expired := true, granted := false } }) ∧
  (∀ s : State, s.awake = true →
    exec .arbiterRestart s = .next (({ s with arb := { s.arb with
      running := true, waiting := true, holder := none, expired := false, released := false
      granted := false } }).lower .module 132)) ∧
  (∀ s : State, exec .arbiterRenewalWaitEnd s = .next { s with arb := { s.arb with waiting := false } }) ∧
  (∀ (s : State) (x : LaneId), (s.lane x).mode = .possession → (s.lane x).poss.interlock = false →
    (s.lane x).poss.lease = true → (s.lane x).poss.mirrorUp = true → (s.lane x).poss.peerWord / 4096 = 2 →
    bitAt (s.lane x).poss.peerWord 10 = false →
    exec (.localLeaseEnd x) s =
      .next (s.upd x (fun l => { l with poss := { l.poss with lease := false, hold := true } }))) ∧
  (∀ (s : State) (x : LaneId), (s.lane x).mode = .possession → (s.lane x).poss.interlock = false →
    (s.lane x).poss.lease = true → (s.lane x).poss.mirrorUp = false →
    exec (.localLeaseEnd x) s = .next { s.release x 3 with
      arb := { (s.release x 3).arb with changeAt := (s.lane x).poss.ackedAt } }) ∧
  (∀ (s : State) (x : LaneId), (s.lane x).mode = .possession → (s.lane x).poss.interlock = false →
    (s.lane x).poss.lease = true → bitAt (s.lane x).poss.peerWord 10 = true →
    exec (.localLeaseEnd x) s = .next { s.release x 3 with
      arb := { (s.release x 3).arb with changeAt := (s.lane x).poss.ackedAt } })

/-- A release ends the lease and the pump, freezes the outputs and begins a changeover with its cause; the arbiter learns of
it in interlock mode or over the lane's link; neither lane's memory, nor the peer's registers, nor the log change, and
bit 7 of entry 5900h:03h is set. Only a lane in possession releases. A grant that R75 allows makes the lane act with the
next epoch and a lease of its own, and starts a resync at a peer whose mirror came up while no lane held possession; a
grant that R75 does not allow changes nothing, and R75 allows none to a lane that views its peer acting or has a class of
level 3 or more (R66, R69, R75, R84, R86, R87, R97, R397). In interlock mode an invalid pair reading counts in entry
1113h, breaks the pair and raises source 97. A lane that may acquire (eligible, its node may act, the peer reads not
acting, a changeover runs or the Toss lets it) begins, confirms, raises its pair and runs its pump, and acts when the
peer still reads not acting; a lane that may not go on lowers its pair and stands by. With the peer acting or invalid at
the last reading lane B lowers its pair and lane A keeps it raised. An acting lane that reads its peer acting releases
with cause 4 and raises source 99 (R69, R71, R72, R79, R80, R81, R82). That every grant sets bit 7 of entry 5900h:03h,
the first possession's too, is the model's choice (log 56: DEDUCED), and so is that lane B starts R81 only after its 10
ms (log 65: DESIGN CHOICE). Where the manual leaves a corner open, the model's choice: log entries 23, 37, 56, 59 and 65. -/
def Obligations.GrantReleaseAndInterlock : Prop :=
  (∀ (s : State) (x : LaneId), Canon s → (s.lane x).mode = .possession →
    Leads (.release x) s fun t =>
      (t.lane x).mode = .releasing ∧ (t.lane x).poss.frozen = true ∧ (t.lane x).poss.pump = false ∧
      (t.lane x).poss.lease = false ∧ (t.lane x).poss.changing = true ∧
      (t.lane x).poss.releaseCause =
        (if s.arb.planned.isSome then 2 else if (s.lane x).poss.interlock then 4 else 1) ∧
      ((s.lane x).poss.interlock = true ∨ (s.lane x).poss.arbLink = true → t.arb.holder = none ∧ t.arb.released = true) ∧
      ((s.lane x).poss.interlock = false → (s.lane x).poss.arbLink = false → t.arb.holder = s.arb.holder) ∧
      t.arb.changeAt = s.clock ∧
      (t.lane x.peer).mode = (s.lane x.peer).mode ∧ (t.lane x).xmem = (s.lane x).xmem ∧
      (t.lane x.peer).xmem = (s.lane x.peer).xmem ∧ (t.lane x.peer).reg = (s.lane x.peer).reg ∧ (t.lane x).log = (s.lane x).log ∧
      bitAt (t.mget 0x590003) 7 = true) ∧
  (∀ (s : State) (x : LaneId), (s.lane x).mode ≠ .possession → exec (.release x) s = .next s) ∧
  (∀ (s : State) (x : LaneId), Canon s → s.mayGrant x = true →
    Leads (.grant x) s fun t =>
      (t.lane x).mode = .possession ∧ (t.lane x).poss.epoch = ((s.lane x).poss.epoch + 1) % 256 ∧
      (t.lane x).poss.lease = true ∧ (t.lane x).poss.frozen = false ∧ (t.lane x).poss.request = false ∧
      t.arb.holder = some x ∧ t.arb.lastHolder = some x ∧ t.arb.expired = false ∧ t.arb.released = false ∧
      t.keeper.tossPending = false ∧ (t.lane x.peer).mode = (s.lane x.peer).mode ∧
      (t.lane x.peer).poss.resync = ((s.lane x.peer).poss.resync ||
        ((s.lane x.peer).poss.mirrorUp && (s.lane x.peer).poss.upNoHolder)) ∧
      bitAt (t.mget 0x590003) 7 = true ∧ (t.lane x).xmem = (s.lane x).xmem) ∧
  (∀ (s : State) (x : LaneId), s.mayGrant x = false → exec (.grant x) s = .next s) ∧
  (∀ (s : State) (x : LaneId), (s.lane x).poss.view = .acting → s.mayGrant x = false) ∧
  (∀ (s : State) (x : LaneId), (s.lane x).coll.highClasses ≠ 0 → s.mayGrant x = false) ∧
  (∀ (s : State) (x : LaneId), (s.lane x).awake = true → (s.lane x).poss.interlock = true →
    exec (.interlockPairInvalid x) s = .next ((s.upd x (fun l => { l.inc 0x111300 with
      poss := { l.poss with pairBroken := true } })).tossCheck.raiseLane x 97)) ∧
  (∀ s : State, s.laneB.poss.interlock = true → s.eligible .B = true → s.mayHold = true →
    s.pairReading .B = .notActing → s.laneB.poss.acq = .idle → s.changing = true →
    exec (.interlockAcquisition .B) s = .next { s with laneB := { s.laneB with
      poss := { s.laneB.poss with acq := .confirming } } }) ∧
  (∀ s : State, s.changing = false → s.tossAllows .B = false → exec (.interlockAcquisition .B) s = .next s) ∧
  (∀ (s : State) (x : LaneId), (s.lane x).poss.acq = .confirming → s.pairReading x = .notActing →
    s.eligible x = true → s.mayHold = true → s.changing = true →
    exec (.interlockConfirmEnd x) s = .next (s.upd x (fun l => { l with
      poss := { l.poss with acq := .raised, pump := true } }))) ∧
  (∀ (s : State) (x : LaneId), (s.lane x).poss.acq = .confirming → s.pairReading x = .acting →
    exec (.interlockConfirmEnd x) s = .next (s.upd x (fun l => { l with poss := { l.poss with acq := .idle } }))) ∧
  (∀ (s : State) (x : LaneId), (s.lane x).poss.acq = .raised → s.mayAcquire x = true →
    (s.lane x).poss.interlock = true →
    Leads (.interlockRecheck x) s fun t =>
      (t.lane x).mode = .possession ∧ (t.lane x).poss.pump = true ∧ (t.lane x).poss.lease = false ∧
      (t.lane x).poss.epoch = ((s.lane x).poss.epoch + 1) % 256 ∧ (t.lane x.peer).mode = (s.lane x.peer).mode) ∧
  (∀ (s : State) (x : LaneId), (s.lane x).poss.acq = .raised → s.pairReading x = .notActing → s.eligible x = false →
    exec (.interlockRecheck x) s = .next (s.upd x (fun l => { l with
      poss := { l.poss with acq := .idle, pump := false } }))) ∧
  (∀ s : State, s.laneB.poss.acq = .raised → s.pairReading .B ≠ .notActing →
    exec (.interlockRecheck .B) s = .next { s with laneB := { s.laneB with
      poss := { s.laneB.poss with acq := .idle, pump := false } } }) ∧
  (∀ s : State, s.laneA.poss.acq = .raised → s.pairReading .A ≠ .notActing →
    exec (.interlockRecheck .A) s = .next { s with laneA := { s.laneA with
      poss := { s.laneA.poss with acq := .kept } } }) ∧
  (∀ (s : State) (x : LaneId), (s.lane x).mode = .possession → (s.lane x).poss.interlock = true →
    s.pairReading x = .acting → exec (.peerActingSeen x) s = .next ((s.release x 4).raiseLane x 99))

/-- A releasing lane whose peer's word shows it in possession stands by, its freeze and changeover over, and its drivers
follow. At the changeover limit with no peer in possession the changeover ends, a releasing lane becomes eligible again,
and a planned changeover in the peer's favour shows result 3 in entry 1107h. A planned changeover that R92 allows is
answered and releases with cause 2; with an ineligible peer it is refused. At the end of the comparison entry 1107h shows
result 1 or 2 and the mismatches seen. A lane whose core stops in standby is dead, with bypass closed, ports off and the
field side as it stood; one that held possession leaves its outputs frozen and begins a changeover timed from that
moment, with cause 3, or 4 in interlock mode (R83, R87, R92, R93, R97, R120). A lane reset by a Maintainer puts the lane
into reset with cause 4 in entry 140Bh; its Roll, messages, time, collector, exchange memory and record queue are gone,
its field side keeps its power, and the peer keeps its mode and memory. A lane that held possession releases first with
cause 5, and the arbiter learns of it over the lane's link. A stopped lane restarts and its peer is not touched. Any role
below Maintainer is denied (R84, R97, R334, R413, R414). A lane that boots with a control block that the vote finds, no
torn or bad slot found, a passed self-test and room in its log stands by on the bank that its update marked; its power-up
re-plan is due, its log is scanned, event 0001h is the last in its queue where it can record, and its peer and the keeper
stay as they were, as do the module-level registers unless a persistent value lost its copies. A setting of the lane that
lost them reads its default, and bit 2 of entry 1010h:02h shows it (R43, R96, R430, R435, R446, R473). That the wait for
the changeover goes on through the reset is the model's choice (log 57: DEDUCED), and so is that the values a start finds
lost are an operand (log 54: DESIGN CHOICE). Where the manual leaves a corner open, the model's choice: log entries 9,
23, 54 and 57. -/
def Obligations.ChangeoverResetAndStart : Prop :=
  (∀ (s : State) (x : LaneId), (s.lane x).mode = .releasing → (s.lane x).poss.peerWord / 4096 = 3 →
    exec (.freezeEnd x) s = .next ((s.upd x (fun l => { l with
      mode := .standby
      poss := { l.poss with frozen := false, changing := false, limitPassed := false } })).outputsOff x)) ∧
  (∀ (s : State) (x : LaneId), (s.lane x).mode = .releasing → (s.lane x).poss.changing = true →
    (s.lane x.peer).mode ≠ .possession → s.arb.planned = none →
    exec (.changeoverLimitPassed x) s = .next (s.upd x (fun l => { l with
      poss := { l.poss with changing := false, limitPassed := true } }))) ∧
  (∀ (s : State) (x : LaneId), Canon s → (s.lane x).mode = .releasing → (s.lane x).poss.changing = true →
    (s.lane x.peer).mode ≠ .possession → s.arb.planned = some x.peer →
    Leads (.changeoverLimitPassed x) s fun t =>
      (t.lane x).poss.limitPassed = true ∧ t.arb.planned = none ∧ t.get .A 0x110701 = 3 ∧ t.get .B 0x110701 = 3) ∧
  (∀ (s : State) (a : Sys2Proof.Acc) (x y : LaneId), Reaches s a 1 x → s.mayPlan y = true →
    exec (.plannedChangeover a) s =
      .next (((({ s with arb := { s.arb with planned := some y.peer } }).release y 2)).answer 0)) ∧
  (∀ (s : State) (a : Sys2Proof.Acc) (x : LaneId), Reaches s a 1 x →
    (∀ y : LaneId, s.holder = some y → s.eligible y.peer = false) →
    exec (.plannedChangeover a) s = .next (s.refuse a 0x1103 0)) ∧
  (∀ (s : State) (x : LaneId), Canon s → s.arb.checking = some x → (s.lane x).mode = .possession →
    Leads .plannedChangeoverCheckEnd s fun t =>
      t.arb = { s.arb with checking := none, mismatch := 0 } ∧
      t.get x 0x110702 = (s.arb.mismatch ||| ((s.lane x).seeOutputs s.clock).mismatches s.clock) % 2 ^ 32 ∧
      t.get x 0x110701 =
        (if s.arb.mismatch ||| ((s.lane x).seeOutputs s.clock).mismatches s.clock = 0 then 1 else 2)) ∧
  (∀ (s : State) (x : LaneId), (s.lane x).mode = .standby →
    Leads (.lockstepToggleStop x) s fun t =>
      (t.lane x).mode = .dead ∧ (t.lane x).poss.pump = false ∧ (t.lane x).bypassOpen = false ∧
      (t.lane x).port1.step = .off ∧ (t.lane x).port2.step = .off ∧
      (t.lane x).field = (s.lane x).field ∧ t.lane x.peer = s.lane x.peer ∧ t.arb = s.arb) ∧
  (∀ (s : State) (x : LaneId), (s.lane x).mode = .possession →
    Leads (.lockstepToggleStop x) s fun t =>
      (t.lane x).mode = .dead ∧ (t.lane x).poss.frozen = true ∧ (t.lane x).poss.pump = false ∧
      (t.lane x).poss.changing = true ∧ (t.lane x).poss.releaseCause = (if (s.lane x).poss.interlock then 4 else 3) ∧
      t.arb.changeAt = s.clock ∧ (t.lane x.peer).mode = (s.lane x.peer).mode) ∧
  (∀ (s : State) (a : Sys2Proof.Acc) (x : LaneId), Canon s → Reaches s a 2 x →
    Leads (.laneReset a) s fun t =>
      (t.lane x).mode = .inReset ∧ (t.lane x).get 0x140B01 = 4 ∧ (t.lane x).get 0x140B02 = 0xFF ∧
      (t.lane x).roll = RollState.reset ∧ (t.lane x).msg = MsgState.reset ∧ (t.lane x).time = TimeState.reset ∧
      (t.lane x).coll = Collector.empty ∧ (t.lane x).xmem = [] ∧ (t.lane x).ins = .outside ∧
      (t.lane x).log.queue = [] ∧ (t.lane x).field.powered = true ∧ t.ans = ⟨0, 0, []⟩ ∧
      (t.lane x.peer).mode = (s.lane x.peer).mode ∧ (t.lane x.peer).xmem = (s.lane x.peer).xmem ∧
      ((s.lane x).mode = .possession →
        ((s.lane x).poss.arbLink = true → t.arb.released = true) ∧ (t.lane x).poss.changing = true ∧ (t.lane x).poss.releaseCause = 5)) ∧
  (∀ (s : State) (a : Sys2Proof.Acc) (x : LaneId), s.target a.sel = some x → s.awake = true →
    (s.lane x).mode = .stopped → 2 ≤ s.role a.path → (a.path = .host → s.hostOn = true) →
    Leads (.laneReset a) s fun t => (t.lane x).mode = .inReset ∧ t.ans = ⟨0, 0, []⟩ ∧ t.lane x.peer = s.lane x.peer) ∧
  (∀ (s : State) (a : Sys2Proof.Acc) (x : LaneId), s.target a.sel = some x → s.available x = true →
    s.role a.path < 2 → (a.path = .host → s.hostOn = true) →
    exec (.laneReset a) s = .next (s.abort 0x01000004)) ∧
  (∀ (s : State) (x : LaneId) (scan : StartScan), Canon s →
    (s.lane x).mode = .booting ∨ (s.lane x).mode = .inReset → s.awake = true → s.keeper.hrstLow = false →
    scan.spoiled = [] → (s.lane x).log.vote.isSome = true → scan.torn = false → scan.badSlots = [] →
    scan.selfTest = true → (s.lane x).upd.bootBank < 2 → (s.lane x).log.full = false → (s.lane x).log.failed = none →
    Leads (.laneReady x scan) s fun t =>
      (t.lane x).mode = .standby ∧ (t.lane x).selfTest = true ∧ (t.lane x).plan.due = some 2 ∧
      (t.lane x).get 0x112100 = (s.lane x).upd.bootBank ∧ (t.lane x).log.scanned = true ∧
      (CanRecord (s.lane x) → ∃ q, (t.lane x).log.queue = (s.lane x).log.queue ++ [q] ∧ q.code = 0x0001) ∧
      t.lane x.peer = s.lane x.peer ∧ (scan.lostValues = [] → scan.damaged = [] → t.mreg = s.mreg) ∧ t.keeper = s.keeper ∧
      (scan.lostValues ≠ [] → bitAt (t.get x 0x101002) 2 = true) ∧
      ∀ k ∈ scan.lostValues, (entryRow (k / 256) (k % 256)).any (fun r =>
        r.pers && decide (r.kind = .rw ∧ r.ty ≠ .octets ∧ r.scope ≠ .module)) = true → t.get x k = regDefault k)

/-- A standby lane whose peer holds possession takes an update of a compatible protocol and a length of 128 to 8,388,608
bytes, and records event 0040h; the lane in possession refuses it. A chunk is busy until the erase has ended, and then
joins the image at its offset. Abandoning ends the update. Activation of a complete image that checks resets the lane
into the other bank with activation running; one that does not check ends the update in the bank in use. A lane that fits
again ends the activation and its minimum security version rises (R94, R95, R96, R493, R494, R495). That the lane's own
download does not bar a Begin is the model's choice (log 65: DESIGN CHOICE). Where the manual leaves a corner open, the
model's choice: log entries 11, 24 and 65. -/
def Obligations.FirmwareUpdate : Prop :=
  (∀ (s : State) (a : Sys2Proof.Acc) (x : LaneId) (len : BitVec 32) (p lo hi : Byte), Reaches s a 2 x →
    s.mayUpdate x = true → 128 ≤ len.toNat → len.toNat ≤ 8388608 →
    compatible (s.lane x.peer).running p.toNat lo.toNat hi.toNat = true →
    exec (.beginUpdate a len p lo hi) s = .next (((s.upd x (fun l => { l.put 0x112000 1 with
      upd := { l.upd with length := len.toNat, erased := false, image := [] } })).record x 0x0040
        (updateData 1 (if s.get x 0x112100 = 0 then 1 else 0) 0)).answer 0)) ∧
  (∀ (s : State) (a : Sys2Proof.Acc) (x : LaneId) (len : BitVec 32) (p lo hi : Byte), Reaches s a 2 x →
    (s.lane x).mode = .possession → exec (.beginUpdate a len p lo hi) s = .next (s.refuse a 0x1641 0)) ∧
  (∀ (s : State) (x : LaneId), s.get x 0x112000 = 1 →
    exec (.beginUpdateEraseDone x) s =
      .next (s.upd x (fun l => { l with upd := { l.upd with erased := true } }))) ∧
  (∀ (s : State) (a : Sys2Proof.Acc) (x : LaneId) (d : List Byte), Reaches s a 2 x → s.get x 0x112000 = 1 →
    (s.lane x).upd.erased = false → exec (.firmwareChunk a d) s = .next (s.abort 0x02000004)) ∧
  (∀ (s : State) (a : Sys2Proof.Acc) (x : LaneId) (d : List Byte), Reaches s a 2 x → s.get x 0x112000 = 1 →
    (s.lane x).upd.erased = true → d.length ≤ 65536 → s.get x 0x164001 = (s.lane x).upd.image.length →
    (s.lane x).upd.image.length + d.length ≤ (s.lane x).upd.length →
    exec (.firmwareChunk a d) s = .next ((s.upd x (fun l => { l with
      upd := { l.upd with image := l.upd.image ++ d } })).answer 0)) ∧
  (∀ (s : State) (a : Sys2Proof.Acc) (x : LaneId), Canon s → Reaches s a 1 x → s.get x 0x112000 = 1 →
    Leads (.abandonUpdate a) s fun t =>
      t.get x 0x112000 = 0 ∧ (t.lane x).upd = { (s.lane x).upd with length := 0, erased := false, image := [] } ∧
      t.ans = ⟨0, 0, []⟩ ∧ t.lane x.peer = s.lane x.peer) ∧
  (∀ (s : State) (a : Sys2Proof.Acc) (x : LaneId), Canon s → Reaches s a 1 x → s.get x 0x112000 = 1 →
    (s.lane x).upd.image.length = (s.lane x).upd.length → s.firmwareCheck x = 0 →
    Leads (.activate a) s fun t =>
      (t.lane x).mode = .inReset ∧ t.get x 0x112000 = 2 ∧ t.ans = ⟨0, 0, []⟩ ∧
      (t.lane x).upd.bootBank = (if s.get x 0x112100 = 0 then 1 else 0)) ∧
  (∀ (s : State) (a : Sys2Proof.Acc) (x : LaneId), Canon s → Reaches s a 1 x → s.get x 0x112000 = 1 →
    (s.lane x).upd.image.length = (s.lane x).upd.length → s.firmwareCheck x ≠ 0 →
    Leads (.activate a) s fun t =>
      t.get x 0x112000 = 0 ∧ (t.lane x).mode = (s.lane x).mode ∧ (t.lane x).upd.bootBank = (s.lane x).upd.bootBank) ∧
  (∀ (s : State) (x : LaneId), Canon s → s.get x 0x112000 = 2 → (s.lane x).mode = .standby →
    s.fit x = true →
    Leads (.activationComplete x) s fun t =>
      t.get x 0x112000 = 0 ∧ t.get x 0x161200 = (max (s.lane x).running.security (s.get x 0x161200)) % 65536 ∧
      (t.lane x).mode = .standby)

/-! ### Coupler ports (chapter 04) -/

/-- A ready lane with its bypass open answers a beacon or capability block of another node of its line with its own
capability block, and learns master, rate and settings of its partner. A block of the other line, or of its own node,
sends the port back to beacons and raises source 32 or 33. A capability block brings a port that is not held down to the
probe, and the partner's proposal brings its estimate, the operating rate and PMA training. A block that is not valid
does nothing; a step without an answer returns to beacons; a port that seeks sends a beacon; and PMA training leads to
verification (R102, R107, R108, R109, R110, R111). Disabling an end by a Maintainer turns its port off, closes the
bypass, and leaves the other port listening if its end is enabled. Enabling an end beside an enabled one leaves both
ports off until the lane inserts, while the bypass is closed. A value over 1 is out of range. A lane that may insert
opens its bypass, whose on-resistance goes to row 8 of its plan and, at its limit, puts source 109 in fault, and its
ports seek, but for one that a test or a hold keeps down; it does not insert while its peer does. 2 s after lane A opened
its bypass the first insertion is over (R120, R121, R122, R123, R456, R459). That a capability block starts a port that
seeks, as a beacon does, is the model's choice (log 63: DEDUCED). Where the manual leaves a corner open, the model's
choice: log entries 6, 60 and 63. -/
def Obligations.InsertionAndTraining : Prop :=
  (∀ (s : State) (x : LaneId) (e : EndId) (b : List Byte), validBlock b = true → (s.lane x).ready = true →
    (s.lane x).bypassOpen = true → ((s.lane x).port e).step = .seeking → numAt b 0 1 ≤ 2 →
    numAt b 1 1 / 128 = laneBit x → numAt b 2 8 ≠ s.uid →
    Leads (.trainingBlock x e b) s fun t =>
      ((t.lane x).port e).step = .capability ∧
      ((t.lane x).port e).master = decide (s.uid < numAt b 2 8) ∧
      ((t.lane x).port e).partnerRate = numAt b 10 1 ∧ ((t.lane x).port e).partnerFloor = numAt b 13 1 ∧
      ((t.lane x).port e).partnerCeiling = numAt b 14 1 ∧ ((t.lane x).port e).sentBlock.head? = some 2 ∧
      (t.lane x).port e.other = (s.lane x).port e.other ∧ t.lane x.peer = s.lane x.peer ∧
      (∀ k, k ≠ key 0x200D (endSub e) → t.get x k = s.get x k)) ∧
  (∀ (s : State) (x : LaneId) (e : EndId) (b : List Byte), validBlock b = true → (s.lane x).ready = true →
    (s.lane x).bypassOpen = true → ((s.lane x).port e).step = .seeking → numAt b 0 1 ≤ 2 →
    numAt b 1 1 / 128 ≠ laneBit x → numAt b 2 8 ≠ s.uid →
    exec (.trainingBlock x e b) s = .next ((s.upd x (fun l => (l.toBeacons e).updPort e (fun p => { p with
      lineCross := true, loop := false }))).raiseLane x 32)) ∧
  (∀ (s : State) (x : LaneId) (e : EndId) (b : List Byte), validBlock b = true → (s.lane x).ready = true →
    (s.lane x).bypassOpen = true → ((s.lane x).port e).step = .seeking → numAt b 0 1 ≤ 2 →
    numAt b 1 1 / 128 = laneBit x → numAt b 2 8 = s.uid →
    exec (.trainingBlock x e b) s = .next ((s.upd x (fun l => (l.toBeacons e).updPort e (fun p => { p with
      lineCross := false, loop := true }))).raiseLane x 33)) ∧
  (∀ (s : State) (x : LaneId) (e : EndId) (b : List Byte), validBlock b = true → (s.lane x).ready = true →
    (s.lane x).bypassOpen = true → ((s.lane x).port e).step = .capability → numAt b 0 1 = 2 →
    numAt b 1 1 / 128 = laneBit x → numAt b 2 8 ≠ s.uid → ((s.lane x).port e).heldDown = false →
    (∀ m < 11, (s.lane x).rowConflict m = false) →
    Leads (.trainingBlock x e b) s fun t =>
      ((t.lane x).port e).step = .probe ∧ ((t.lane x).port e).partnerRate = numAt b 10 1 ∧
      (t.lane x).port e.other = (s.lane x).port e.other ∧ t.lane x.peer = s.lane x.peer) ∧
  (∀ (s : State) (x : LaneId) (e : EndId) (b : List Byte), validBlock b = true → (s.lane x).ready = true →
    (s.lane x).bypassOpen = true → ((s.lane x).port e).step = .proposal →
    numAt b 0 1 = (if ((s.lane x).port e).master then 4 else 3) → numAt b 15 1 ≤ 3 →
    Leads (.trainingBlock x e b) s fun t =>
      ((t.lane x).port e).step = .pma ∧
      (((t.lane x).port e).rate, ((t.lane x).port e).rateHeld) = operatingRate (s.lane x).lineRate
        ((s.lane x).port e).partnerRate (slowerRate ((s.lane x).port e).estimate (numAt b 15 1)) ∧
      ((t.lane x).port e).sentBlock.head? = some (if ((s.lane x).port e).master then 5 else 4) ∧
      (t.lane x).port e.other = (s.lane x).port e.other ∧ t.lane x.peer = s.lane x.peer) ∧
  (∀ (s : State) (x : LaneId) (e : EndId) (b : List Byte), validBlock b = false →
    exec (.trainingBlock x e b) s = .next s) ∧
  (∀ (s : State) (x : LaneId) (e : EndId),
    ((s.lane x).port e).step = .capability ∨ ((s.lane x).port e).step = .probe ∨
      ((s.lane x).port e).step = .proposal ∨ ((s.lane x).port e).step = .pma →
    exec (.trainingStepTimeout x e) s = .next (s.upd x (fun l => (l.updPort e (fun p => { p with
      step := .seeking, master := false, partnerRate := 0xFF, estimate := 0xFF })).put (key 0x200D (endSub e)) 0))) ∧
  (∀ (s : State) (x : LaneId) (e : EndId), (s.lane x).bypassOpen = true → ((s.lane x).port e).step = .seeking →
    exec (.beacon x e) s = .next (s.upd x (fun l => l.updPort e (fun p => { p with
      sentBlock := trainingBlockOf s.uid x e l 1 })))) ∧
  (∀ (s : State) (x : LaneId) (e : EndId), ((s.lane x).port e).step = .pma →
    exec (.pmaTrainingDone x e) s = .next (s.upd x (fun l => l.updPort e (fun p => { p with step := .verify })))) ∧
  (∀ (s : State) (a : Sys2Proof.Acc) (x : LaneId) (e : EndId), Canon s → Reaches s a 2 x →
    (s.lane x).enabled e = true → (s.lane x).portPowerOff = false →
    Leads (.portEnable a e 0) s fun t =>
      (t.lane x).enabled e = false ∧ (t.lane x).bypassOpen = false ∧ (t.lane x).ins = .outside ∧
      ((t.lane x).port e).step = .off ∧
      ((t.lane x).port e.other).step = (if (s.lane x).enabled e.other then .listening else .off) ∧
      t.ans = ⟨0, 0, []⟩ ∧ t.lane x.peer = s.lane x.peer) ∧
  (∀ (s : State) (a : Sys2Proof.Acc) (x : LaneId) (e : EndId), Canon s → Reaches s a 2 x →
    (s.lane x).enabled e = false → (s.lane x).enabled e.other = true → (s.lane x).bypassOpen = false →
    Leads (.portEnable a e 1) s fun t =>
      (t.lane x).enabled e = true ∧ ((t.lane x).port e).step = .off ∧ ((t.lane x).port e).uncounted = true ∧
      ((t.lane x).port e.other).step = .off ∧ t.ans = ⟨0, 0, []⟩) ∧
  (∀ (s : State) (a : Sys2Proof.Acc) (x : LaneId) (e : EndId) (v : Byte), Reaches s a 2 x → 1 < v.toNat →
    exec (.portEnable a e v) s = .next (s.abort 0x01000005)) ∧
  (∀ (s : State) (x : LaneId), Canon s → s.mayInsert x = true →
    bitAt (s.get x 0x130000) 0 = false ∨ Quiet s x 108 ∧ Quiet s x 109 →
    Leads (.insertion x) s fun t =>
      (t.lane x).bypassOpen = true ∧ (t.lane x).ins = .training ∧
      (∀ e, ((t.lane x).port e).step = (if ((s.lane x).port e).diag = true ∨ ((s.lane x).port e).takenDown = true ∨
        ((s.lane x).port e).quarantined = true then .down else .seeking)) ∧
      t.get x 0x131801 = (t.lane x).plan.bypassOhm ∧
      (bitAt (s.get x 0x130000) 0 = false → ∀ k, k ≠ 0x131801 → t.get x k = s.get x k) ∧
      (bitAt (s.get x 0x130000) 0 = true → 1000 ≤ (t.lane x).plan.bypassOhm →
        (t.lane x).coll.inFault.testBit 109 = true) ∧
      t.lane x.peer = s.lane x.peer) ∧
  (∀ (s : State) (x : LaneId), (s.lane x.peer).inserting = true → exec (.insertion x) s = .next s) ∧
  (∀ s : State, s.keeper.firstInsertion = true → s.laneA.bypassOpen = true → s.laneA.ins = .training →
    exec .laneBInsertionTimeout s = .next { s with
      keeper := { s.keeper with firstInsertion := false }
      laneA := { s.laneA with ins := .inserted } })

/-- The probe keeps the fastest rate with a margin of 4.0 dB as the estimate, plans its swing, and proposes; with no such
rate the port returns to beacons. The operating rate is the slower of the two ends' line rates if the segment supports
it, else the supported rate, rate-held, and with no line rate the supported one. Verification at 3.0 dB brings a counted
link up; less drops the supported rate one step, back to the proposal, and at the slowest code returns to beacons (R110,
R111, R114, R128). Where the manual leaves a corner open, the model's choice: log entries 6 and 60. -/
def Obligations.ProbeAndVerification : Prop :=
  (∀ (s : State) (x : LaneId) (e : EndId) (margins : List Int) (swings : List (List Int)) (r : Nat),
    Canon s → ((s.lane x).port e).step = .probe →
    r < 4 → 400 ≤ margins.getD r (-1) → (∀ q < r, margins.getD q (-1) < 400) →
    Leads (.channelProbeDone x e ⟨margins, swings⟩) s fun t =>
      ((t.lane x).port e).step = .proposal ∧ ((t.lane x).port e).estimate = r ∧
      t.get x (key 0x2009 (endSub e)) = swingOf r (swings.getD r []) ∧
      ((t.lane x).port e).sentBlock.head? = some (if ((s.lane x).port e).master then 3 else 2) ∧
      (t.lane x).port e.other = (s.lane x).port e.other ∧ t.lane x.peer = s.lane x.peer) ∧
  (∀ (s : State) (x : LaneId) (e : EndId) (margins : List Int) (swings : List (List Int)), ((s.lane x).port e).step = .probe →
    (∀ q < 4, margins.getD q (-1) < 400) →
    exec (.channelProbeDone x e ⟨margins, swings⟩) s = .next (s.upd x (fun l => l.toBeacons e))) ∧
  (∀ own partner sup : Nat, own < 4 → partner < 4 → sup ≤ max own partner →
    operatingRate own partner sup = (max own partner, false)) ∧
  (∀ own partner sup : Nat, own < 4 → partner < 4 → max own partner < sup →
    operatingRate own partner sup = (sup, true)) ∧
  (∀ sup : Nat, operatingRate 0xFF 0xFF sup = (sup, false)) ∧
  (∀ (s : State) (x : LaneId) (e : EndId) (snr : Int), Canon s → ((s.lane x).port e).step = .verify → 300 ≤ snr →
    ((s.lane x).port e).ordered = false → ((s.lane x).port e).diagForced = false →
    ((s.lane x).port e).uncounted = false →
    Leads (.linkVerification x e snr) s fun t =>
      ((t.lane x).port e).step = .up ∧ ((t.lane x).port e).fecErrors = 0 ∧
      ((t.lane x).port e).changes = recentChanges s.clock (s.clock :: ((s.lane x).port e).changes) ∧
      ((t.lane x).port e).newLink = true ∧ t.get x (key 0x2008 (endSub e)) = ofSigned 32 snr ∧
      t.lane x.peer = s.lane x.peer) ∧
  (∀ (s : State) (x : LaneId) (e : EndId) (snr : Int), Canon s → ((s.lane x).port e).step = .verify → snr < 300 →
    s.get x (key 0x2006 (endSub e)) < 3 →
    Leads (.linkVerification x e snr) s fun t =>
      ((t.lane x).port e).step = .proposal ∧
      ((t.lane x).port e).estimate = s.get x (key 0x2006 (endSub e)) + 1 ∧
      t.get x (key 0x2006 (endSub e)) = s.get x (key 0x2006 (endSub e)) + 1 ∧ (t.lane x).port e.other = (s.lane x).port e.other) ∧
  (∀ (s : State) (x : LaneId) (e : EndId) (snr : Int), ((s.lane x).port e).step = .verify → snr < 300 →
    3 ≤ s.get x (key 0x2006 (endSub e)) →
    exec (.linkVerification x e snr) s = .next (s.upd x (fun l => l.toBeacons e)))

/-- A link that is lost leaves its port down for the TDR, counts toward the quarantine, and asks for a Roll with code 1 after
the hold-off. More than 10 uncorrected frames in the window take a port down, count in entry 200Ch and raise source 35,
and no fewer do. Five counted changes within 10 s put it into quarantine, count in entry 200Bh and raise source 36, and
no fewer do. When a hold ends its source leaves fault; a port with no test or other hold seeks again, and its next
link-up does not count. An ordered retrain that is late counts and asks for a Roll with code 1; the deferred change of
line 2 asks with code 6 (R118, R119, R125, R126, R128, R171). The margin and return loss of an up link go to entries
2008h and 2013h, and from 1.5 dB on the alarm is over. Below 1.5 dB the alarm takes supported and proposed rate one step
slower, never beyond code 3, and requests a Roll at once if the port has requested none; within 10 s of its last request
the port waits, and then requests with code 5 (R124). That the end of a hold or of a quarantine at one port puts sources
35 and 36 out of fault, whatever the other port's state, is the model's choice (log 60: DESIGN CHOICE). Where the manual
leaves a corner open, the model's choice: log entry 60. -/
def Obligations.LinkSupervision : Prop :=
  (∀ (s : State) (x : LaneId) (e : EndId), ((s.lane x).port e).step = .up →
    Leads (.linkDown x e) s fun t =>
      ((t.lane x).port e).step = .down ∧ ((t.lane x).port e).diag = true ∧ ((t.lane x).port e).partnerRate = 0xFF ∧
      ((t.lane x).port e).changes = recentChanges s.clock (s.clock :: ((s.lane x).port e).changes) ∧
      ((s.lane x).ready = true → s.keeper.sleepBeat = none → (s.lane x).roll.running = false →
        (s.lane x).roll.trigger = none →
        (t.lane x).roll.trigger = some 1 ∧ (t.lane x).roll.holdOff = true) ∧
      t.lane x.peer = s.lane x.peer ∧ (t.lane x).port e.other = (s.lane x).port e.other) ∧
  (∀ (s : State) (x : LaneId) (e : EndId), ((s.lane x).port e).isUp = true → 10 < ((s.lane x).port e).fecErrors →
    exec (.segmentTakedown x e) s = .next (((s.dropPort x e .down false).upd x (fun l =>
      (l.updPort e (fun p => { p with takenDown := true })).inc (key 0x200C (endSub e)))).raiseLane x 35)) ∧
  (∀ (s : State) (x : LaneId) (e : EndId), ((s.lane x).port e).fecErrors ≤ 10 →
    exec (.segmentTakedown x e) s = .next s) ∧
  (∀ (s : State) (x : LaneId) (e : EndId), ((s.lane x).port e).takenDown = true →
    Leads (.takedownHoldEnd x e) s fun t =>
      ((t.lane x).port e).takenDown = false ∧ ((t.lane x).port e).uncounted = true ∧
      (t.lane x).coll.inFault.testBit 35 = false ∧ t.lane x.peer = s.lane x.peer ∧
      (((s.lane x).port e).step = .down → ((s.lane x).port e).diag = false → ((s.lane x).port e).quarantined = false →
        (s.lane x).enabled e = true → (s.lane x).bypassOpen = true → (s.lane x).portPowerOff = false →
        ((t.lane x).port e).step = .seeking) ∧
      (((s.lane x).port e).diag = true ∨ ((s.lane x).port e).quarantined = true →
        ((t.lane x).port e).step = ((s.lane x).port e).step)) ∧
  (∀ (s : State) (x : LaneId) (e : EndId), 5 ≤ (recentChanges s.clock ((s.lane x).port e).changes).length →
    ((s.lane x).port e).quarantined = false →
    exec (.portQuarantined x e) s = .next (((s.dropPort x e .down false).upd x (fun l =>
      (l.updPort e (fun p => { p with quarantined := true })).inc (key 0x200B (endSub e)))).raiseLane x 36)) ∧
  (∀ (s : State) (x : LaneId) (e : EndId), (recentChanges s.clock ((s.lane x).port e).changes).length < 5 →
    exec (.portQuarantined x e) s = .next s) ∧
  (∀ (s : State) (x : LaneId) (e : EndId), ((s.lane x).port e).quarantined = true →
    Leads (.quarantineEnd x e) s fun t =>
      ((t.lane x).port e).quarantined = false ∧ ((t.lane x).port e).changes = [] ∧
      ((t.lane x).port e).uncounted = true ∧ (t.lane x).coll.inFault.testBit 36 = false ∧ t.lane x.peer = s.lane x.peer ∧
      (((s.lane x).port e).step = .down → ((s.lane x).port e).diag = false → ((s.lane x).port e).takenDown = false →
        (s.lane x).enabled e = true → (s.lane x).bypassOpen = true → (s.lane x).portPowerOff = false →
        ((t.lane x).port e).step = .seeking)) ∧
  (∀ (s : State) (x : LaneId) (e : EndId), ((s.lane x).port e).ordered = true → ((s.lane x).port e).isUp = false →
    exec (.orderedRetrainLate x e) s = .next ((s.upd x (fun l => l.updPort e (fun p =>
      { p with ordered := false, changes := recentChanges s.clock (s.clock :: p.changes) }))).rollTrigger x 1)) ∧
  (∀ (s : State) (x : LaneId), (s.lane x).roll.line2Deferred = true →
    exec (.line2DeferredDue x) s = .next ((s.upd x (fun l => { l with
      roll := { l.roll with line2Deferred := false } })).rollTrigger x 6)) ∧
  (∀ (s : State) (x : LaneId) (e : EndId) (snr rl : Int), Canon s → ((s.lane x).port e).isUp = true → 150 ≤ snr →
    Leads (.marginUpdate x e snr rl) s fun t =>
      t.get x (key 0x2008 (endSub e)) = ofSigned 32 snr ∧ t.get x (key 0x2013 (endSub e)) = ofSigned 32 rl ∧
      ((t.lane x).port e).alarm = false ∧ ((t.lane x).port e).alarmArmed = true ∧ t.lane x.peer = s.lane x.peer) ∧
  (∀ (s : State) (x : LaneId) (e : EndId), Canon s → ((s.lane x).port e).isUp = true →
    ((s.lane x).port e).alarmArmed = true → toSigned 32 (s.get x (key 0x2008 (endSub e))) < 150 →
    ((s.lane x).port e).requestAt = none →
    Leads (.marginAlarm x e) s fun t =>
      t.get x (key 0x2006 (endSub e)) = min 3 (s.get x (key 0x2006 (endSub e)) + 1) ∧
      t.get x (key 0x2007 (endSub e)) = min 3 (s.get x (key 0x2007 (endSub e)) + 1) ∧
      ((t.lane x).port e).alarm = true ∧ ((t.lane x).port e).alarmArmed = false ∧
      ((t.lane x).port e).requestAt = some s.clock) ∧
  (∀ (s : State) (x : LaneId) (e : EndId) (at0 : Nat), ((s.lane x).port e).isUp = true →
    ((s.lane x).port e).alarmArmed = true → toSigned 32 (s.get x (key 0x2008 (endSub e))) < 150 →
    ((s.lane x).port e).requestAt = some at0 → s.clock < at0 + 10000000000 →
    Leads (.marginAlarm x e) s fun t =>
      ((t.lane x).port e).requestWaits = true ∧ (t.lane x).roll = (s.lane x).roll) ∧
  (∀ (s : State) (x : LaneId) (e : EndId), ((s.lane x).port e).requestWaits = true →
    exec (.marginAlarmRequestDue x e) s = .next ((s.upd x (fun l => l.updPort e (fun p => { p with
      requestWaits := false, requestAt := some s.clock }))).rollTrigger x 5))

/-- A port that is up refuses the tests without force; a port that is not up takes them. Force needs a Maintainer and both
ports of the peer up, and takes the port down. The TDR's result goes to entry 2011h, and after a command that of the
insulation to entry 2012h; a port that only the tests kept down trains again, where its end is enabled and its bypass
open. An insulation result goes to entry 2012h, and below the limit raises source 39, which otherwise leaves fault (R126,
R127). That the limit of source 39 comes with the result, and that a good result of one end lowers it whatever the other
end's, is the model's choice (log 65: DESIGN CHOICE). Where the manual leaves a corner open, the model's choice: log
entry 65. -/
def Obligations.CableDiagnostics : Prop :=
  (∀ (s : State) (a : Sys2Proof.Acc) (x : LaneId), Reaches s a 1 x → (s.lane x).port1.isUp = true →
    exec (.runDiagnostics a 1) s = .next (s.refuse a 0x2010 0)) ∧
  (∀ (s : State) (a : Sys2Proof.Acc) (x : LaneId), Reaches s a 1 x → (s.lane x).port1.isUp = false →
    exec (.runDiagnostics a 1) s = .next ((s.upd x (fun l => { l with
      port1 := { l.port1 with diag := true, diagCmd := true } })).answer 0)) ∧
  (∀ (s : State) (a : Sys2Proof.Acc) (x : LaneId), Reaches s a 2 x → (s.lane x.peer).port1.isUp = false →
    exec (.runDiagnostics a 0x81) s = .next (s.refuse a 0x2010 0)) ∧
  (∀ (s : State) (a : Sys2Proof.Acc) (x : LaneId), Reaches s a 2 x → (s.lane x.peer).port1.isUp = true →
    (s.lane x.peer).port2.isUp = true → (s.lane x).port1.isUp = true →
    Leads (.runDiagnostics a 0x81) s fun t =>
      (t.lane x).port1.step = .down ∧ (t.lane x).port1.diag = true ∧ (t.lane x).port1.diagForced = true ∧ (t.lane x).port1.diagCmd = true ∧
      (t.lane x).port2 = (s.lane x).port2 ∧ t.ans = ⟨0, 0, []⟩ ∧ t.lane x.peer = s.lane x.peer) ∧
  (∀ (s : State) (a : Sys2Proof.Acc) (x : LaneId), Reaches s a 1 x → s.role a.path = 1 →
    exec (.runDiagnostics a 0x81) s = .next (s.abort 0x01000004)) ∧
  (∀ (s : State) (x : LaneId) (e : EndId) (kind : BitVec 3) (refl : Byte) (dist : BitVec 16)
    (ins lim : BitVec 32), Canon s → ((s.lane x).port e).diag = true → ((s.lane x).port e).step = .down →
    ((s.lane x).port e).takenDown = false → ((s.lane x).port e).quarantined = false →
    ((s.lane x).port e).heldDown = false → (s.lane x).enabled e = true → (s.lane x).bypassOpen = true →
    (s.lane x).portPowerOff = false →
    (((s.lane x).port e).diagCmd = true → Quiet s x 39) →
    Leads (.diagnosticsDone x e kind refl dist ins lim) s fun t =>
      ((t.lane x).port e).step = .seeking ∧ ((t.lane x).port e).diag = false ∧
      t.get x (key 0x2011 (endSub e)) % 65536 = dist.toNat ∧
      (((s.lane x).port e).diagCmd = true → t.get x (key 0x2012 (endSub e)) = ins.toNat ∧
        ((t.lane x).coll.inFault.testBit 39 = true → ins.toNat < lim.toNat) ∧
        (s.collects (.lane x) = true → ins.toNat < lim.toNat → (t.lane x).coll.inFault.testBit 39 = true)) ∧
      (((s.lane x).port e).diagCmd = false → (t.lane x).coll = (s.lane x).coll ∧
        ∀ k, k ≠ key 0x2011 (endSub e) → t.get x k = s.get x k) ∧
      t.lane x.peer = s.lane x.peer) ∧
  (∀ (s : State) (x : LaneId) (e : EndId) (ins lim : BitVec 32), (s.lane x).ready = true → ins.toNat < lim.toNat →
    exec (.insulationTest x e ins lim) s =
      .next ((s.put x (key 0x2012 (endSub e)) ins.toNat).raiseLane x 39)) ∧
  (∀ (s : State) (x : LaneId) (e : EndId) (ins lim : BitVec 32), (s.lane x).ready = true → lim.toNat ≤ ins.toNat →
    exec (.insulationTest x e ins lim) s =
      .next ((s.put x (key 0x2012 (endSub e)) ins.toNat).lower (.lane x) 39))

/-! ### Frames, forwarding, PAUSE and the receive ring (chapter 05) -/

/-- A frame with a reason of its first bytes and a good end is counted and dropped under that reason. A good Roll frame,
which is not carried on and takes no buffer, is delivered. A good frame that no one here takes, and that may not start at
once, waits whole at the other port. A frame that ends with an error after its egress began counts where it entered and
leaves the other port with a stomped FCS; if its decision point has judged it, no more happens. An own-protocol frame
whose header check fails is dropped under code 7 (R141, R145, R148, R150, R151, R153, R157, R158). The local port sends a
Roll frame out of every up port, a message for all nodes out of both, and a message for a node whose position is unknown
out of both, with the address of the node's lane; a diagnostic frame counts in its identifier's own sequence. A port that
is not up, a message on a rate-held link and a full queue drop the frame under codes 21, 17 and 20; otherwise it waits in
the queue; and a lane that enters sleep sends no message. A PAUSE that fits leaves before another frame, and a Sync is
stamped as it leaves. A gate overrun counts in entry 211Ch (R60, R137, R143, R144, R148, R149, R154, R155, R156, R175,
R284). That a stomp after the decision point does no more is the model's choice (log 63: DEDUCED), and so are the
position and stamp of queueing and the flags of leaving that a queued frame carries (log 64: DESIGN CHOICE). Where the
manual leaves a corner open, the model's choice: log entries 6, 31, 33, 60, 63, 64 and 66. -/
def Obligations.FramesOnTheLine : Prop :=
  (∀ (s : State) (x : LaneId) (e : EndId) (f : LineFrame) (time : BitVec 64) (idle : Bool) (c : Nat),
    ((s.lane x).port e).hears = true → (s.lane x).ready = true → s.earlyDrop x e f time.toNat = some c →
    lateDrop f = none →
    exec (.frameDecisionPoint x e f time idle) s =
      .next (s.upd x (fun l => ((l.countReceived e f).countFec e s.clock f.fec).countDrop e c))) ∧
  (∀ (s : State) (x : LaneId) (e : EndId) (f : LineFrame) (time : BitVec 64) (idle : Bool),
    ((s.lane x).port e).isUp = true → (s.lane x).ready = true → s.earlyDrop x e f time.toNat = none →
    lateDrop f = none → f.isFlow = false → f.dest = rollGroup → ringFrame f = false → unstampedGroup f = false →
    exec (.frameDecisionPoint x e f time idle) s =
      .next (s.upd x (fun l => (((l.countReceived e f).countFec e s.clock f.fec).updPort e (fun p =>
        { p with judged := some f })).countPort e 0x211B))) ∧
  (∀ (s : State) (x : LaneId) (e : EndId) (f : LineFrame) (time : BitVec 64),
    ((s.lane x).port e).isUp = true → (s.lane x).ready = true → s.earlyDrop x e f time.toNat = none →
    lateDrop f = none → f.isFlow = false → s.forwards x f = true → s.forMe x f = false →
    ((s.lane x).port e.other).rateHeld = false → ((s.lane x).port e.other).refusesFrame (.forwarded f) = none →
    exec (.frameDecisionPoint x e f time false) s =
      .next (s.upd x (fun l => (((l.countReceived e f).countFec e s.clock f.fec).updPort e (fun p =>
        { p with judged := some f })).queueFrame e.other (.forwarded f)))) ∧
  (∀ (s : State) (x : LaneId) (e : EndId) (f : LineFrame) (c : Nat), lateDrop f = some c →
    ((s.lane x).port e).isUp = true → ((s.lane x).port e.other).isUp = true → (s.lane x).ready = true →
    s.forwards x f = true → s.forMe x f = false → ((s.lane x).port e).judged ≠ some f →
    exec (.stomp x e f) s =
      .next (s.upd x (fun l => (((l.countReceived e f).countFec e s.clock f.fec).countDrop e c).sendOut e.other true
        f.bytes .stomped))) ∧
  (∀ (s : State) (x : LaneId) (e : EndId) (f : LineFrame) (c : Nat), lateDrop f = some c →
    ((s.lane x).port e).isUp = true → ((s.lane x).port e.other).isUp = true → (s.lane x).ready = true →
    s.forwards x f = true → ((s.lane x).port e).judged = some f →
    exec (.stomp x e f) s = .next (s.upd x (fun l => l.updPort e (fun p => { p with judged := none })))) ∧
  (∀ (s : State) (x : LaneId) (e : EndId) (f : LineFrame) (time : Nat), 64 ≤ f.length → f.headerOk = false →
    f.own = true → foreignAddress x f = false → s.earlyDrop x e f time = some 7) ∧
  (∀ (s : State) (x : LaneId) (f : RollFrame) (node : Option (BitVec 64)), (s.lane x).ready = true →
    exec (.localPortSend x (.roll f) node) s = .next (s.upd x (fun l => l.nextRoll.emitUp none
      (.roll (l.head rollGroup ((l.roll.seq + 1) % 65536)) f)))) ∧
  (∀ (s : State) (x : LaneId) (m : MsgFrame), (s.lane x).ready = true →
    exec (.localPortSend x (.msg m) none) s = .next (s.upd x (fun l => l.emitBoth (.msg 0x03594C000001
      { m with srcPos := BitVec.ofNat 16 l.position, stamp := BitVec.ofNat 32 l.sentStamp })))) ∧
  (∀ (s : State) (x : LaneId) (u : BitVec 64) (m : MsgFrame), (s.lane x).ready = true →
    (s.lane x).positionOf u.toNat = 0 →
    exec (.localPortSend x (.msg m) (some u)) s = .next (s.upd x (fun l => l.emitBoth
      (.msg (BitVec.ofNat 48 (macAddress u.toNat x))
        { m with srcPos := BitVec.ofNat 16 l.position, stamp := BitVec.ofNat 32 l.sentStamp })))) ∧
  (∀ (s : State) (x : LaneId) (six : Bool) (ident : BitVec 16) (data : List Byte), (s.lane x).ready = true →
    Leads (.localPortSend x (.echo six ident data) none) s fun t =>
      (t.lane x).echoSeq = tabSet (fun _ => 0) ident.toNat
        ((tabGet (fun _ => 0) ident.toNat (s.lane x).echoSeq + 1) % 65536) (s.lane x).echoSeq ∧
      t.lane x.peer = s.lane x.peer) ∧
  (∀ (l : LaneState) (e : EndId) (f : OutFrame), l.quiet = false → (l.port e).isUp = false →
    l.emit e f = l.countDrop e 21) ∧
  (∀ (l : LaneState) (e : EndId) (d : BitVec 48) (m : MsgFrame), l.quiet = false → (l.port e).isUp = true →
    (l.port e).rateHeld = true → l.emit e (.msg d m) = l.countDrop e 17) ∧
  (∀ (l : LaneState) (e : EndId) (f : OutFrame), l.quiet = false → (l.port e).isUp = true →
    (l.port e).rateHeld = false → 65536 < (l.port e).fill + frameLength f → l.emit e f = l.countDrop e 20) ∧
  (∀ (l : LaneState) (e : EndId) (f : OutFrame), l.quiet = false → (l.port e).isUp = true →
    (l.port e).rateHeld = false → (l.port e).fill + frameLength f ≤ 65536 →
    ((l.emit e f).port e).queue = (l.port e).queue ++ [f] ∧ (l.emit e f).port e.other = l.port e.other) ∧
  (∀ (l : LaneState) (e : EndId) (d : BitVec 48) (m : MsgFrame), l.quiet = true → l.emit e (.msg d m) = l) ∧
  (∀ (s : State) (x : LaneId) (e : EndId) (time : BitVec 64) (f : OutFrame) (q : BitVec 16), Canon s →
    ((s.lane x).port e).isUp = true → ((s.lane x).port e).rateHeld = false →
    ((s.lane x).port e).queue = [f, .pause q] → sendKind f ≠ .pause →
    (s.lane x).fitsGap s.uid x time.toNat (wireTime ((s.lane x).port e).rate 64) = true →
    Leads (.unscheduledEgressStart x e time) s fun t =>
      ((t.lane x).port e).queue = [f] ∧ ((t.lane x).port e).sent = some ⟨outBytes s.uid x
        (decide ((s.lane x).mode = .possession)) (s.lane x).roll.running (.pause q), .good, ⟨0, 0, 0⟩⟩ ∧
      t.get x (key 0x2119 (endSub e)) = (s.get x (key 0x2119 (endSub e)) + 1) % 2 ^ 32 ∧
      (t.lane x).port e.other = (s.lane x).port e.other ∧ t.lane x.peer = s.lane x.peer) ∧
  (∀ (s : State) (x : LaneId) (e : EndId) (time : BitVec 64) (m : SyncMsg), Canon s →
    ((s.lane x).port e).isUp = true → ((s.lane x).port e).rateHeld = false → ((s.lane x).port e).paused = 0 →
    ((s.lane x).port e).queue = [.sync m] →
    (s.lane x).fitsGap s.uid x time.toNat (wireTime ((s.lane x).port e).rate (frameLength (.sync m))) = true →
    Leads (.unscheduledEgressStart x e time) s fun t =>
      ((t.lane x).port e).queue = [] ∧ ((t.lane x).port e).sent = some ⟨outBytes s.uid x
        (decide ((s.lane x).mode = .possession)) (s.lane x).roll.running (.sync { m with origin := time }), .good,
        ⟨0, 0, 0⟩⟩) ∧
  (∀ (s : State) (x : LaneId) (e : EndId), ((s.lane x).port e).isUp = true →
    exec (.gateOverrun x e) s = .next (s.upd x (fun l => l.countPort e 0x211C)))

/-- A received PAUSE counts in entry 2118h and, where entry 2205h is 1 and the port is up, holds the port for its quanta; its
time runs out. A lane whose free buffers fall below entry 2202h sends PAUSE out of every up port that does not send
already and has room, with the quanta of entry 2204h, and otherwise nothing happens; below entry 2203h it repeats, and
from there on no port sends any more (R160, R162, R166). A frame takes whole buffers of 256 bytes for its octets from the
destination address to the end of its payload, or, with too few free, none, and then the pool shows empty and the reason
is 19. RECEIVE_NO_BUFFER of such a frame, if it is not carried on and its decision point has not judged it, counts code
19 and changes the ring not at all. Firmware returns the oldest chain (R163, R164, R165). Where the manual leaves a
corner open, the model's choice: log entry 33. -/
def Obligations.PauseAndReceiveRing : Prop :=
  (∀ (s : State) (x : LaneId) (e : EndId) (q : BitVec 16), ((s.lane x).port e).isUp = true →
    (s.lane x).ready = true → s.get x 0x220500 = 1 →
    exec (.pauseReceived x e q) s = .next (s.upd x (fun l =>
      (l.countPort e 0x2118).updPort e (fun p => { p with paused := q.toNat })))) ∧
  (∀ (s : State) (x : LaneId) (e : EndId) (q : BitVec 16), ((s.lane x).port e).hears = true →
    (s.lane x).ready = true → s.get x 0x220500 = 0 →
    exec (.pauseReceived x e q) s = .next (s.upd x (fun l => l.countPort e 0x2118))) ∧
  (∀ (s : State) (x : LaneId) (e : EndId),
    exec (.pauseExpiry x e) s = .next (s.upd x (fun l => l.updPort e (fun p => { p with paused := 0 })))) ∧
  (∀ (s : State) (x : LaneId), (s.lane x).ready = true → s.get x 0x220600 < s.get x 0x220200 →
    Leads (.pauseSend x) s fun t =>
      t.lane x.peer = s.lane x.peer ∧
      (∀ e, ((s.lane x).port e).isUp = true → ((t.lane x).port e).sending = true) ∧
      (∀ e, ((s.lane x).port e).isUp = true → ((s.lane x).port e).sending = false →
        ((s.lane x).port e).fill + 64 ≤ 65536 →
        ((t.lane x).port e).queue =
          ((s.lane x).port e).queue ++ [.pause (BitVec.ofNat 16 (s.get x 0x220400))]) ∧
      (∀ e, ((s.lane x).port e).isUp = false → (t.lane x).port e = (s.lane x).port e)) ∧
  (∀ (s : State) (x : LaneId), s.get x 0x220200 ≤ s.get x 0x220600 → exec (.pauseSend x) s = .next s) ∧
  (∀ (s : State) (x : LaneId) (e : EndId), ((s.lane x).port e).sending = true → ((s.lane x).port e).isUp = true →
    s.get x 0x220600 < s.get x 0x220300 →
    exec (.pauseRepeat x e) s = .next (s.upd x (fun l => l.emit e (.pause (BitVec.ofNat 16 (s.get x 0x220400)))))) ∧
  (∀ (s : State) (x : LaneId), s.get x 0x220300 ≤ s.get x 0x220600 →
    Leads (.pauseRelease x) s fun t =>
      (∀ e, ((t.lane x).port e).sending = false) ∧ t.lane x.peer = s.lane x.peer) ∧
  (∀ (l : LaneState) (e : EndId) (f : LineFrame), Machine.tabCanon regDefault l.reg = true →
    buffersOf f.payload ≤ l.ringFree → l.ringFree ≤ 1024 →
    (l.enterRing e f).1 = none ∧ (l.enterRing e f).2.ring = l.ring ++ [slice f.bytes 0 (30 + f.payload)] ∧
    (l.enterRing e f).2.ringFree = l.ringFree - (30 + f.payload + 255) / 256) ∧
  (∀ (l : LaneState) (e : EndId) (f : LineFrame), Machine.tabCanon regDefault l.reg = true →
    l.ringFree < buffersOf f.payload →
    (l.enterRing e f).1 = some 19 ∧ (l.enterRing e f).2.get 0x220700 = 0 ∧ (l.enterRing e f).2.ring = l.ring ∧
    (l.enterRing e f).2.ringFree = l.ringFree) ∧
  (∀ (s : State) (x : LaneId) (e : EndId) (f : LineFrame) (time : BitVec 64) (idle : Bool), Canon s →
    ((s.lane x).port e).isUp = true → (s.lane x).ready = true → ((s.lane x).port e).judged ≠ some f →
    ringFrame f = true → f.isFlow = false → (s.lane x).ringFree < buffersOf f.payload → s.forMe x f = true →
    unstampedGroup f = false → s.earlyDrop x e f time.toNat = none → lateDrop f = none → s.forwards x f = false →
    Leads (.receiveNoBuffer x e ⟨f, time, idle⟩) s fun t =>
      t.get x 0x220700 = 0 ∧ (t.lane x).ring = (s.lane x).ring ∧ (t.lane x).ringFree = (s.lane x).ringFree ∧
      t.get x (key 0x2133 (endSub e)) = (s.get x (key 0x2133 (endSub e)) + 1) % 2 ^ 32 ∧
      ((t.lane x).port e).judged = none ∧ t.lane x.peer = s.lane x.peer) ∧
  (∀ (s : State) (x : LaneId) (c : List Byte) (rest : List (List Byte)), (s.lane x).ring = c :: rest →
    exec (.ringChainReturn x) s = .next (s.upd x (fun l => { l.put 0x220600 (l.get 0x220600 + (c.length + 255) / 256) with
      ring := rest })))

/-! ### Roll (chapter 06) -/

/-- Of two different epochs exactly one is newer, whatever their distance; one that leads by 1 to 32,767 is newer, and of two
that lie 32,768 apart the larger value (R175). Of two closes of one epoch the one with more members, or with as many and
the smaller stamp, is kept, and the worse one counts in entry 2431h:05h and is noted, so that the peer's copy of it
counts no more; the switch beat of a close lies at least 128 beats and less than 129 ahead, on a beat (R199, R200). Where
the manual leaves a corner open, the model's choice: log entry 60. -/
def Obligations.EpochAndCloseOrder : Prop :=
  (∀ a b : Nat, a < 65536 → b < 65536 → a ≠ b → epochNewer a b = !epochNewer b a) ∧
  (∀ a : Nat, epochNewer a a = false) ∧
  (∀ a b : Nat, a < 65536 → b < 65536 → 1 ≤ (a + 65536 - b) % 65536 → (a + 65536 - b) % 65536 ≤ 32767 →
    epochNewer a b = true) ∧
  (∀ a b : Nat, a < 65536 → b < 65536 → (a + 65536 - b) % 65536 = 32768 → epochNewer a b = decide (b < a)) ∧
  (∀ (s : State) (x : LaneId) (c k : Close), (s.lane x).roll.adopted = some k →
    c.fields.members.toNat < k.fields.members.toNat → s.offerClose x c = (s.upd x (fun l => { l with
      roll := { l.roll with offered := (c :: l.roll.offered).eraseDups } })).inc x 0x243105) ∧
  (∀ (s : State) (x : LaneId) (c k : Close), (s.lane x).roll.adopted = some k →
    k.fields.members.toNat < c.fields.members.toNat →
    ((s.offerClose x c).lane x).roll.adopted = some c) ∧
  (∀ (s : State) (x : LaneId) (c k : Close), (s.lane x).roll.adopted = some k →
    c.fields.members = k.fields.members → c.fields.stamp.toNat < k.fields.stamp.toNat →
    ((s.offerClose x c).lane x).roll.adopted = some c) ∧
  (∀ t : Int, 0 ≤ t → switchBeatAfter t % 1000000 = 0 ∧ t + 128000000 ≤ (switchBeatAfter t : Nat) ∧
    ((switchBeatAfter t : Nat) : Int) < t + 129000000)

/-- At a ready lane without an announced sleep a trigger waits, with the hold-off for codes 1 and 2 and without for the
others; one that comes while another waits joins it; after the adoption of a close it is held; with a sleep announced
nothing happens. Hold-off and spacing end. A lane that is not numbered asks with code 7. A Roll request of an Operator
triggers both lanes with code 4, and is refused while a sleep is announced. A lead declaration is written, triggers both
lanes with code 3 if it changes, and is noted at both (R58, R67, R171, R172, R173, R174, R205, R208). Where the manual
leaves a corner open, the model's choice: log entries 48 and 60. -/
def Obligations.RollTriggers : Prop :=
  (∀ (s : State) (x : LaneId) (code : Fin 10), code.val = 1 ∨ code.val = 2 → s.keeper.sleepBeat = none →
    (s.lane x).ready = true → (s.lane x).roll.running = false → (s.lane x).roll.trigger = none →
    exec (.rollTrigger x code) s = .next (s.upd x (fun l => { l with
      roll := { l.roll with trigger := some code.val, holdOff := true } }))) ∧
  (∀ (s : State) (x : LaneId) (code : Fin 10), 3 ≤ code.val → s.keeper.sleepBeat = none →
    (s.lane x).ready = true → (s.lane x).roll.adopted = none → (s.lane x).roll.trigger = none →
    exec (.rollTrigger x code) s = .next (s.upd x (fun l => { l with
      roll := { l.roll with trigger := some code.val, holdOff := false } }))) ∧
  (∀ (s : State) (x : LaneId) (code : Fin 10), (s.lane x).roll.adopted = none → (s.lane x).roll.trigger.isSome = true →
    exec (.rollTrigger x code) s = .next s) ∧
  (∀ (s : State) (x : LaneId) (code : Fin 10), 1 ≤ code.val → s.keeper.sleepBeat = none →
    (s.lane x).ready = true → (s.lane x).roll.running = true → (s.lane x).roll.adopted.isSome = true →
    (s.lane x).roll.heldTrigger = none →
    exec (.rollTrigger x code) s = .next (s.upd x (fun l => { l with
      roll := { l.roll with heldTrigger := some code.val } }))) ∧
  (∀ (s : State) (x : LaneId) (code : Fin 10), s.keeper.sleepBeat.isSome = true →
    exec (.rollTrigger x code) s = .next s) ∧
  (∀ (s : State) (x : LaneId), exec (.holdOffEnd x) s =
    .next (s.upd x (fun l => { l with roll := { l.roll with holdOff := false } }))) ∧
  (∀ (s : State) (x : LaneId), exec (.rollSpacingEnd x) s =
    .next (s.upd x (fun l => { l with roll := { l.roll with spaced := true } }))) ∧
  (∀ (s : State) (x : LaneId), (s.lane x).roll.notNumbered = true →
    exec (.notNumberedRequest x) s = .next (s.rollTrigger x 7)) ∧
  (∀ (s : State) (a : Sys2Proof.Acc) (x : LaneId), Reaches s a 1 x → s.keeper.sleepBeat = none →
    exec (.rollRequest a 1) s = .next (((s.rollTrigger .A 4).rollTrigger .B 4).answer 0)) ∧
  (∀ (s : State) (a : Sys2Proof.Acc) (x : LaneId), Reaches s a 1 x → s.keeper.sleepBeat.isSome = true →
    exec (.rollRequest a 1) s = .next (s.refuse a 0x2420 0)) ∧
  (∀ (s : State) (a : Sys2Proof.Acc) (x : LaneId) (v : Byte), Reaches s a 1 x → v.toNat ≤ 1 →
    s.get x 0x242100 ≠ v.toNat →
    exec (.leadDeclaration a v) s = .next ((((((s.writeNode a (fun l => l.put 0x242100 v.toNat)).rollTrigger .A 3).rollTrigger
      .B 3).noteCab .A).noteCab .B).answer 0)) ∧
  (∀ (s : State) (a : Sys2Proof.Acc) (x : LaneId) (v : Byte), Reaches s a 1 x → v.toNat ≤ 1 →
    s.get x 0x242100 = v.toNat →
    exec (.leadDeclaration a v) s = .next ((((s.writeNode a (fun l => l.put 0x242100 v.toNat)).noteCab .A).noteCab .B).answer 0))

/-- A lane whose trigger waits no longer for hold-off or spacing originates the epoch after the current one, as its own, with
what the Roll before gathered gone and the directory in force kept; before that it does not. A Start of a newer epoch
from a line port makes a lane join its Roll. A frame whose fields contradict each other counts in entry 2431h:03h. A
frame of an older epoch counts in 2431h:02h, and asks for a Roll with code 9, or, while a Roll runs, is answered with its
Start (R172, R173, R175, R176, R177, R180). A frame of a set other than a Want is handled once in a Roll, whichever way
it comes (R179, R195). At the phase-1 limit a lane without line list asks for a restart with code 8. At the end of the
wait for the peer's list the candidate is the own line list alone; with both lists it is their merge, lane A's first;
without the peer's list it is not formed while the mirror is current, and is the own line list alone while it is not. A
lane wants the lists that its candidate lacks. The first member of the candidate, with the lists asked for or past the
list limit, and with an offset to the master, adopts and sends its close, once; any other member does not, nor the first
without the lists before the limit. At the close limit a lane without close raises source 56 and asks with code 8 (R184,
R185, R194, R196, R197, R200). Where the manual leaves a corner open, the model's choice: log entries 26, 60 and 66. -/
def Obligations.RollFrames : Prop :=
  (∀ (s : State) (x : LaneId) (code : Nat), Canon s → (s.lane x).roll.trigger = some code →
    (s.lane x).roll.holdOff = false → (s.lane x).roll.spaced = true → (s.lane x).ready = true → code < 256 →
    Leads (.rollOriginate x) s fun t =>
      t.get x 0x240100 = (s.get x 0x240100 + 1) % 65536 ∧ t.get x 0x240A00 = code ∧
      (t.lane x).roll.running = true ∧ (t.lane x).roll.startCode = code ∧ (t.lane x).roll.startOrigin = s.uid ∧
      (t.lane x).roll.trigger = none ∧ (t.lane x).roll.spaced = false ∧ (t.lane x).roll.candidate = none ∧
      (t.lane x).roll.adopted = none ∧ (t.lane x).roll.directory = (s.lane x).roll.directory ∧
      (t.lane x).roll.end1 = !(s.lane x).port1.isUp ∧ (t.lane x).roll.end2 = !(s.lane x).port2.isUp ∧
      (t.lane x).flow.next = none ∧ t.lane x.peer = s.lane x.peer) ∧
  (∀ (s : State) (x : LaneId) (code : Nat), (s.lane x).roll.trigger = some code →
    (s.lane x).roll.holdOff = true ∨ (s.lane x).roll.spaced = false → exec (.rollOriginate x) s = .next s) ∧
  (∀ (s : State) (x : LaneId) (e : EndId) (ep : BitVec 16) (b : List Byte) (c : Byte), Canon s →
    (s.lane x).ready = true → ((s.lane x).port e).isUp = true → rollFrameOk (rollOf ep b) = true →
    (rollOf ep b).body = .start c → epochNewer ep.toNat (s.get x 0x240100) = true →
    Leads (.rollFrame x (.port e) ⟨ep, b⟩) s fun t =>
      t.get x 0x240100 = ep.toNat ∧ (t.lane x).roll.running = true ∧
      (t.lane x).roll.startOrigin = (rollOf ep b).origin.toNat ∧ (t.lane x).roll.startCode = c.toNat ∧
      (t.lane x).roll.candidate = none ∧ (t.lane x).roll.adopted = none ∧ (t.lane x).roll.trigger = none ∧
      t.lane x.peer = s.lane x.peer) ∧
  (∀ (s : State) (x : LaneId) (e : EndId) (ep : BitVec 16) (b : List Byte), (s.lane x).ready = true →
    ((s.lane x).port e).isUp = true → rollFrameOk (rollOf ep b) = false →
    exec (.rollFrame x (.port e) ⟨ep, b⟩) s = .next (s.inc x 0x243103)) ∧
  (∀ (s : State) (x : LaneId) (e : EndId) (ep : BitVec 16) (b : List Byte), (s.lane x).ready = true →
    ((s.lane x).port e).isUp = true → rollFrameOk (rollOf ep b) = true →
    epochNewer ep.toNat (s.get x 0x240100) = false → ep.toNat ≠ s.get x 0x240100 → (s.lane x).roll.running = false →
    exec (.rollFrame x (.port e) ⟨ep, b⟩) s = .next ((s.inc x 0x243102).rollTrigger x 9)) ∧
  (∀ (s : State) (x : LaneId) (e : EndId) (ep : BitVec 16) (b : List Byte), Canon s → (s.lane x).ready = true →
    ((s.lane x).port e).isUp = true → rollFrameOk (rollOf ep b) = true →
    epochNewer ep.toNat (s.get x 0x240100) = false → ep.toNat ≠ s.get x 0x240100 → (s.lane x).roll.running = true →
    exec (.rollFrame x (.port e) ⟨ep, b⟩) s = .next ((s.inc x 0x243102).upd x (fun l =>
      l.sendRollTo e (s.startFrame x)))) ∧
  (∀ (s : State) (x : LaneId) (src : RollSrc) (ep : BitVec 16) (b : List Byte), (s.lane x).ready = true →
    (match src with | .port e => ((s.lane x).port e).isUp | .peer => (s.lane x).poss.mirrorUp) = true →
    rollFrameOk (rollOf ep b) = true → ep.toNat = s.get x 0x240100 → rollKind (rollOf ep b).body ≠ 3 →
    (s.lane x).roll.seen.contains
      (rollKind (rollOf ep b).body, (rollOf ep b).origin.toNat, (rollOf ep b).index.toNat) = true →
    exec (.rollFrame x src ⟨ep, b⟩) s = .next s) ∧
  (∀ (s : State) (x : LaneId), (s.lane x).roll.running = true → (s.lane x).roll.lineList = none →
    exec (.phase1Limit x) s = .next (s.rollTrigger x 8)) ∧
  (∀ (s : State) (x : LaneId) (own : List DirEntry), (s.lane x).roll.running = true →
    (s.lane x).roll.candidate = none → (s.lane x).roll.lineList = some own → (s.lane x).roll.peerList = none →
    Leads (.peerListWaitEnd x) s fun t =>
      (t.lane x).roll.candidate = some (numberList s.uid true false (oneLine x false own)) ∧
      t.lane x.peer = s.lane x.peer) ∧
  (∀ (s : State) (x : LaneId) (own peer : List DirEntry), (s.lane x).roll.running = true →
    (s.lane x).roll.candidate = none → (s.lane x).roll.lineList = some own → (s.lane x).roll.peerList = some peer →
    Leads (.candidate x) s fun t =>
      (t.lane x).roll.candidate = some (if x = .A then numberList s.uid false (mergeLists own peer).2 (mergeLists own peer).1
        else numberList s.uid false (mergeLists peer own).2 (mergeLists peer own).1) ∧
      t.lane x.peer = s.lane x.peer) ∧
  (∀ (s : State) (x : LaneId), (s.lane x).roll.candidate = none → (s.lane x).roll.peerList = none →
    (s.lane x).poss.mirrorCurrent = true → exec (.candidate x) s = .next s) ∧
  (∀ (s : State) (x : LaneId) (c : Candidate), (s.lane x).roll.running = true → (s.lane x).roll.adopted = none →
    (s.lane x).roll.candidate = some c → c.entries ≠ [] → (s.lane x).roll.missing s.uid ≠ [] →
    exec (.want x) s = .next ((s.upd x (fun l => { l with roll := { l.roll with listSent := false } })).sendSet x none
      (s.rollFrame x 0 true (.want (BitVec.ofNat 32 (directoryStamp c.entries)) ((s.lane x).roll.missing s.uid))))) ∧
  (∀ (s : State) (x : LaneId) (limit : Bool) (c : Candidate) (d : DirEntry) (rest : List DirEntry),
    (s.lane x).roll.running = true → (s.lane x).roll.adopted = none → (s.lane x).roll.closed = false →
    (s.lane x).roll.candidate = some c → c.entries = d :: rest → d.uid.toNat = s.uid →
    limit = true ∨ (s.lane x).roll.hasWanted s.uid = true → s.hasOffset x (masterUid c.entries c.master) = true →
    Leads (.close x limit) s fun t =>
      (t.lane x).roll.adopted = some ⟨s.get x 0x240100, s.uid, s.closeFieldsOf x c, c.entries⟩ ∧
      (t.lane x).roll.closed = true ∧ (t.lane x).roll.trigger = (s.lane x).roll.trigger ∧ (t.lane x).flow.next = none ∧ (t.lane x).roll.running = true) ∧
  (∀ (s : State) (x : LaneId) (limit : Bool) (c : Candidate) (d : DirEntry) (rest : List DirEntry),
    (s.lane x).roll.candidate = some c → c.entries = d :: rest → d.uid.toNat ≠ s.uid →
    exec (.close x limit) s = .next s) ∧
  (∀ (s : State) (x : LaneId), (s.lane x).roll.hasWanted s.uid = false → exec (.close x false) s = .next s) ∧
  (∀ (s : State) (x : LaneId), (s.lane x).roll.running = true → (s.lane x).roll.adopted = none →
    exec (.closeLimit x) s = .next ((s.raiseLane x 56).rollTrigger x 8)) ∧
  (∀ (s : State) (x : LaneId) (own : List DirEntry), (s.lane x).roll.running = true →
    (s.lane x).roll.candidate = none → (s.lane x).roll.lineList = some own → (s.lane x).roll.peerList = none →
    (s.lane x).poss.mirrorCurrent = false →
    Leads (.candidate x) s fun t =>
      (t.lane x).roll.candidate = some (numberList s.uid true false (oneLine x false own)) ∧
      t.lane x.peer = s.lane x.peer)

/-- Members of a candidate are numbered 1, 2, 3 ... in order, at most 512 of them, and exactly the master's entry is marked
as the master (R186, R198). -/
def Obligations.NumberingIsConsecutive : Prop :=
  ∀ (uid : Nat) (single conflict : Bool) (l : List DirEntry),
    ((numberList uid single conflict l).entries.map (fun d => d.pos.toNat)) = List.range' 1 (min 512 l.length) ∧
    (∀ d ∈ (numberList uid single conflict l).entries,
      d.flag 3 = decide (d.pos.toNat = (numberList uid single conflict l).master)) ∧
    (l ≠ [] → 1 ≤ (numberList uid single conflict l).master ∧
      (numberList uid single conflict l).master ≤ min 512 l.length)

/-! ### The switch beat, schedules and flows (chapters 06 and 07) -/

/-- The switch beat of an adopted close, at a ready lane with its sources 34, 48, 57, 58 and 107 below level 3, ends the Roll
and brings stamp, counts, master, line rate and the own positions into force, or 0 and the mark of a lane that is not
numbered; the stamp before is in grace for 32 beats. A computed schedule comes into force; without one the lane starts
late. Without a close nothing happens (R115, R141, R203, R204, R205, R208). A ready lane in a Roll, with the close and
every list at hand, computes its schedule, and not with a list missing; the end of the computation shows its duration in
entry 2808h. With its schedule computed and source 48 below level 3, a late start ends: the schedule is in force, the
launches of before are gone, and the next beat begins it (R204, R222, R223, R224). Where the manual leaves a corner open,
the model's choice: log entries 31, 48 and 61. -/
def Obligations.SwitchBeatAndSchedule : Prop :=
  (∀ (s : State) (x : LaneId) (c : Close), Canon s → (s.lane x).roll.adopted = some c →
    (s.lane x).roll.running = true → (s.lane x).ready = true →
    Quiet s x 34 → Quiet s x 48 → Quiet s x 57 → Quiet s x 58 → Quiet s x 107 →
    Leads (.switchBeat x) s fun t =>
      (t.lane x).roll.running = false ∧ (t.lane x).roll.closedEpoch = c.epoch ∧
      (t.lane x).roll.stampGrace = (s.lane x).stamp ∧
      (t.lane x).roll.graceBeats = (if (s.lane x).stamp = 0 then 0 else 32) ∧
      t.get x 0x240200 = c.fields.stamp.toNat ∧ t.get x 0x240300 = c.fields.members.toNat ∧
      t.get x 0x240400 = c.fields.vehicles.toNat ∧ t.get x 0x240700 = c.fields.master.toNat ∧
      t.get x 0x200500 = c.rateOf x ∧
      (∀ d ∈ c.entries, d.uid.toNat = s.uid → (∀ d' ∈ c.entries, d'.uid.toNat = s.uid → d' = d) →
        t.get x 0x241003 = d.pos.toNat ∧ t.get x 0x241004 = d.vpos.toNat) ∧
      ((∀ d ∈ c.entries, d.uid.toNat ≠ s.uid) → t.get x 0x241003 = 0 ∧ (t.lane x).roll.notNumbered = true) ∧
      ((s.lane x).flow.next = none → (t.lane x).roll.lateStart = true ∧ (t.lane x).flow.sched = none) ∧
      (∀ d, (s.lane x).flow.next = some d → (s.lane x).flow.computing = false →
        (t.lane x).roll.lateStart = false ∧ (t.lane x).flow.sched = some d)) ∧
  (∀ (s : State) (x : LaneId), (s.lane x).roll.adopted = none → exec (.switchBeat x) s = .next s) ∧
  (∀ (s : State) (x : LaneId) (c : Close), (s.lane x).ready = true → (s.lane x).roll.running = true →
    (s.lane x).roll.adopted = some c → c.entries ≠ [] → (s.lane x).roll.missing s.uid = [] →
    (s.lane x).flow.next = none →
    exec (.scheduleComputation x) s = .next (s.upd x (fun l => { l with flow := { l.flow with
      next := some (l.schedule s.uid c.entries c.fields.rate1.toNat c.fields.rate2.toNat), computing := true } }))) ∧
  (∀ (s : State) (x : LaneId), (s.lane x).roll.missingOf s.uid (s.lane x).scheduleNumbering ≠ [] → exec (.scheduleComputation x) s = .next s) ∧
  (∀ (s : State) (x : LaneId) (us : BitVec 32), (s.lane x).flow.computing = true →
    exec (.scheduleComputationDone x us) s = .next (s.upd x (fun l =>
      { l.put 0x280800 us.toNat with flow := { l.flow with computing := false } }))) ∧
  (∀ (s : State) (x : LaneId) (d : Sched), (s.lane x).flow.next = some d → (s.lane x).roll.lateStart = true →
    (s.lane x).flow.computing = false → (s.lane x).roll.running = false → Quiet s x 48 →
    Leads (.lateStartEnd x) s fun t =>
      (t.lane x).roll.lateStart = false ∧ (t.lane x).flow.sched = some d ∧ (t.lane x).flow.next = none ∧
      (t.lane x).flow.startsNext = true ∧ (t.lane x).flow.launches = [] ∧
      (t.lane x).roll.directory = d.withRejected ∧ t.lane x.peer = s.lane x.peer)

/-- The computed schedule never loads a beat beyond its capacity, whatever flows the train announces without held offsets
(R219, R222). Where the manual leaves a corner open, the model's choice: log entry 36. -/
def Obligations.ScheduleWithinCapacity : Prop :=
  ∀ (C : Nat) (fs : List SFlow), (∀ f ∈ fs, f.offset = none ∧ f.rejected = false) →
    ∀ v ∈ (computeFlows C fs).2.1, v ≤ C

/-- A write of a flow context entry by a Maintainer, of a value in its range and with a configuration that R213 admits, is
carried out as a node entry, and the context resolves anew; subindices 1 to 5 of context 0 are refused as out of range. A
commit by an Operator marks the back buffer of a publication and writes no register and no memory. At the sample point of
a lane that may publish and runs no Roll, of a beat that no step cuts off, the publications due in the coming beat, if
there are any, are launched after those that wait, with the schedule's position, times and ends of the train, and the
stamp in force (R67, R213, R218, R226, R227, R234, R235, R236, R244). An old beat that a step cuts off never starts. Any
other starts at a ready lane that runs no Roll, with its source 75 below level 3: the beat is the train time's, fill-ins
begin anew, a late start has begun, and the stamp in grace has one beat less, and at its end none. A launch that is due
sends its frames by the port that faces that end of the train, at its time, if that port is up, not rate-held and not
new; it is then done with that way. A slip counts in entry 2811h, in a transition beat in 2812h (R141, R218, R226, R227,
R229, R232, R239, R296). A copy that a context accepts is held there with its number, data and active flag, as new data
of age 0; an older copy without the active flag only counts in subindex 0Ch. A lane that lacks what a record of its peer
of the last beat names, and whose turn it is, takes it from its peer, up to 16 KiB in a beat; beyond that the peer counts
in entry 2814h, the record is served either way, and a lane that does not ask takes nothing (R237, R238, R239). Where the
manual leaves a corner open, the model's choice: log entries 31 and 32. -/
def Obligations.FlowsAndWave : Prop :=
  (∀ (s : State) (a : Sys2Proof.Acc) (x : LaneId) (n : Fin 1024) (sub : Fin 9) (v : BitVec 64), Reaches s a 2 x →
    1 ≤ sub.val → (n.val ≠ 0 ∨ 6 ≤ sub.val) → ctxValueOk sub.val v.toNat = true →
    ((s.lane x).put (key (0x3000 + n.val) sub.val) v.toNat).ctxConfigOk n.val = true →
    exec (.flowConfigWrite a n sub v) s = .next ((s.writeNode a (fun l =>
      (l.put (key (0x3000 + n.val) sub.val) v.toNat).resolveChanged n.val)).answer 0)) ∧
  (∀ (s : State) (a : Sys2Proof.Acc) (x : LaneId) (sub : Fin 9) (v : BitVec 64), Reaches s a 2 x → 1 ≤ sub.val →
    sub.val ≤ 5 → exec (.flowConfigWrite a 0 sub v) s = .next (s.abort 0x01000005)) ∧
  (∀ (s : State) (a : Sys2Proof.Acc) (x : LaneId) (n : Fin 1024), Reaches s a 1 x → (s.lane x).ctxRole n.val = 1 →
    Leads (.publicationCommit a n) s fun t =>
      ((t.lane x).pub n.val).committed = true ∧ t.ans = ⟨0, 0, []⟩ ∧ (t.lane x).reg = (s.lane x).reg ∧
      t.mreg = s.mreg ∧ (t.lane x).xmem = (s.lane x).xmem) ∧
  (∀ (s : State) (x : LaneId) (d : Sched) (own : DirEntry) (beat : Nat), (s.lane x).mayPublish = true →
    (s.lane x).roll.running = false → beat = ((s.lane x).trainTime + 20000) / 1000000 → s.cutOff x beat = false →
    (s.lane x).position ≠ 0 →
    (s.lane x).flow.sched = some d → d.entries.find? (fun k => decide (k.uid.toNat = s.uid)) = some own →
    (s.lane x).flow.running.filter (fun p => PubEntryDue p.2 beat) ≠ [] →
    Leads (.samplePoint x) s fun t => t.lane x.peer = s.lane x.peer ∧ ∃ v : Launch,
      (t.lane x).flow.launches = (s.lane x).flow.launches ++ [v] ∧ v.beat = beat ∧ v.pos = own.pos.toNat ∧
      v.stamp = (s.lane x).stamp ∧ v.high = highEnd own ∧
      v.riseAt = beat * 1000000 + 2000 + d.lead true own.pos.toNat (s.lane x).lineRate beat ∧
      v.fallAt = beat * 1000000 + 2000 + d.lead false own.pos.toNat (s.lane x).lineRate beat ∧
      v.rises = decide (own.pos.toNat ≠ d.entries.length) ∧ v.falls = decide (own.pos.toNat ≠ 1) ∧
      v.frames.map SampledFrame.number = ((s.lane x).flow.running.filter (fun p => PubEntryDue p.2 beat)).map
        (fun p => p.2.number.toNat)) ∧
  (∀ (s : State) (x : LaneId), (s.lane x).mayPublish = false → exec (.samplePoint x) s = .next s) ∧
  (∀ (s : State) (x : LaneId), (s.lane x).ready = true → (s.lane x).roll.running = false → Quiet s x 75 →
    s.cutOff x ((s.lane x).trainTime / 1000000) = false →
    Leads (.beatStart x) s fun t =>
      (t.lane x).flow.beat = (s.lane x).trainTime / 1000000 ∧ (t.lane x).flow.fillBytes = 0 ∧
      (t.lane x).flow.fillLast = none ∧ (t.lane x).flow.startsNext = false ∧ (t.lane x).time = (s.lane x).time ∧
      ((s.lane x).flow.old = none → 2 ≤ (s.lane x).roll.graceBeats →
        (t.lane x).roll.graceBeats = (s.lane x).roll.graceBeats - 1 ∧
        (t.lane x).roll.stampGrace = (s.lane x).roll.stampGrace) ∧
      ((s.lane x).flow.old = none → (s.lane x).roll.graceBeats = 1 → (t.lane x).roll.stampGrace = 0)) ∧
  (∀ (s : State) (x : LaneId), s.cutOff x ((s.lane x).trainTime / 1000000) = true →
    exec (.beatStart x) s = .next s) ∧
  (∀ (s : State) (x : LaneId) (rising : Bool) (v : Launch) (rest : List Launch) (e : EndId),
    (s.lane x).flow.launches = v :: rest → v.due rising = true → e = (if rising then v.high else v.high.other) →
    (s.lane x).mayPublish = true → ((s.lane x).port e).isUp = true → ((s.lane x).port e).rateHeld = false →
    ((s.lane x).port e).newLink = false →
    Leads (.waveLaunch x rising) s fun t =>
      ((t.lane x).port e).launched = v.frames.map (s.flowFrame x v) ∧
      ((t.lane x).port e).launchAt = (if rising then v.riseAt else v.fallAt) ∧
      (t.lane x).flow.launches = (if v.due (!rising) then v.done rising :: rest else rest) ∧
      (t.lane x).port e.other = (s.lane x).port e.other ∧ t.lane x.peer = s.lane x.peer) ∧
  (∀ (s : State) (x : LaneId) (rising : Bool), (s.lane x).flow.launches = [] →
    exec (.waveLaunch x rising) s = .next s) ∧
  (∀ (s : State) (x : LaneId), (s.lane x).ready = true → (s.lane x).flow.transition = 0 →
    exec (.waveSlip x) s = .next (s.inc x 0x281100)) ∧
  (∀ (s : State) (x : LaneId), (s.lane x).ready = true → (s.lane x).flow.transition ≠ 0 →
    exec (.waveSlip x) s = .next (s.inc x 0x281200)) ∧
  (∀ (s : State) (x : LaneId) (n : Nat) (c : FlowCopy), ((s.lane x).sub n).accepts c = true →
    (((s.takeCopy x n c).lane x).sub n).held = true ∧ (((s.takeCopy x n c).lane x).sub n).seq = c.seq ∧
    (((s.takeCopy x n c).lane x).sub n).data = c.data ∧ (((s.takeCopy x n c).lane x).sub n).newData = true ∧
    (((s.takeCopy x n c).lane x).sub n).age = 0 ∧ (((s.takeCopy x n c).lane x).sub n).active = c.active) ∧
  (∀ (s : State) (x : LaneId) (n : Nat) (c : FlowCopy), ((s.lane x).sub n).held = true →
    ((s.lane x).sub n).anySeq = false → newer16 c.seq ((s.lane x).sub n).seq = false → c.active = false →
    s.takeCopy x n c = s.inc x (key (0x3000 + n) 12)) ∧
  (∀ (s : State) (x : LaneId) (n : Fin 1024) (r : CopyRec), s.asksFill x n.val = some r →
    s.fillTurn x n.val = true → 16384 < (s.lane x.peer).flow.fillBytes + r.data.length →
    exec (.fillIn x n) s = .next (s.upd x.peer (fun q => (q.served n.val r).inc 0x281400))) ∧
  (∀ (s : State) (x : LaneId) (n : Fin 1024) (r : CopyRec), s.asksFill x n.val = some r →
    s.fillTurn x n.val = true → ((s.lane x).sub n.val).held = false →
    (s.lane x.peer).flow.fillBytes + r.data.length ≤ 16384 →
    Leads (.fillIn x n) s fun t =>
      ((t.lane x).sub n.val).held = true ∧ ((t.lane x).sub n.val).seq = r.seq ∧
      ((t.lane x).sub n.val).data = r.data ∧ ((t.lane x).sub n.val).active = r.active ∧
      (t.lane x.peer).flow.fillBytes = (s.lane x.peer).flow.fillBytes + r.data.length ∧
      (t.lane x.peer).flow.subs = ((s.lane x.peer).served n.val r).flow.subs) ∧
  (∀ (s : State) (x : LaneId) (n : Fin 1024), s.asksFill x n.val = none → exec (.fillIn x n) s = .next s)

/-! ### Train time (chapter 09) -/

/-- While no command waits 8 ns pass: each lane whose core is on adds the increment in force to its train time, fraction and
all, and counts operating time; a lane without power changes not at all, nor do registers and keeper. The increment lies
within its limits, and without a rate correction is the baseline (R274, R275, R276, R429). A baseline within its limits,
written by a Maintainer, keeps the rate correction and moves the increment; one above them is out of range; the mean of
the rate begins anew. Without isolation frames the map to the field side is unmapped (R275, R302, R454). Where the manual
leaves a corner open, the model's choice: log entry 4. -/
def Obligations.TimebaseAndFieldTime : Prop :=
  (∀ s : State, s.pending = [] → ∃ t, step s = .next t ∧ t.clock = s.clock + 8 ∧ t.mreg = s.mreg ∧ t.keeper = s.keeper ∧
    (∀ x, (s.lane x).awake = true →
      (t.lane x).trainTime * 16777216 + (t.lane x).time.frac =
        (s.lane x).trainTime * 16777216 + (s.lane x).time.frac + s.get x 0x400700 ∧
      (t.lane x).log.opNs = (s.lane x).log.opNs + 8 ∧ (t.lane x).reg = (s.lane x).reg ∧
      (t.lane x).time.frac < 16777216 ∧ (t.lane x).time.ns < 4294967296) ∧
    (∀ x, (s.lane x).awake = false → t.lane x = s.lane x)) ∧
  (∀ (b : Nat) (r : Int), 0x07FDF3B7 ≤ incrementOf b r ∧ incrementOf b r ≤ 0x08020C49) ∧
  (∀ b : Nat, 0x07FDF3B7 ≤ b → b ≤ 0x08020C49 → incrementOf b 0 = b) ∧
  (∀ (s : State) (a : Sys2Proof.Acc) (x : LaneId) (v : BitVec 32), Canon s → Reaches s a 2 x →
    0x07FDF3B7 ≤ v.toNat → v.toNat ≤ 0x08020C49 →
    Leads (.baselineWrite a v) s fun t =>
      t.get x 0x400800 = v.toNat ∧ (t.lane x).rate = (s.lane x).rate ∧
      t.get x 0x400700 = incrementOf v.toNat (s.lane x).rate ∧ t.ans = ⟨0, 0, []⟩ ∧ (t.lane x).plan.rates = [] ∧
      (t.lane x).time = (s.lane x).time ∧ t.lane x.peer = s.lane x.peer) ∧
  (∀ (s : State) (a : Sys2Proof.Acc) (x : LaneId) (v : BitVec 32), Reaches s a 2 x → 0x08020C49 < v.toNat →
    exec (.baselineWrite a v) s = .next (s.abort 0x01000005)) ∧
  (∀ (s : State) (x : LaneId), exec (.fieldMapUnmapped x) s = .next (s.put x 0x403000 0))

/-- A lane that sends Syncs queues one at each up port with room, with its own identity, port, sequence number and domain,
and counts the sequence; one that does not changes nothing. A Sync with a header that the profile does not have, without
its TLV, or with a reserved flag set (R11), counts in entry 4012h; one that arrives without a valid peer delay counts in
400Fh. The first Sync of the master in force begins the acquisition, with the offset measured, and waits to go on at the
other port (R280, R281, R282, R283, R284, R285, R288, R291). An up port of a ready lane whose next scheduled window is
100 µs away asks with the next number and waits for its answer, beside those that it waits for already; an answer to none
of them changes nothing. A request of the profile is answered with its node and port, and with the turnaround that its
egress makes of the instant at which it came in. A measurement beyond the limits, and the missing answer to the oldest
request, count as failures in entry 400Dh; one within them joins the last eight, and their mean goes to entry 400Ch, 0
for fewer than four. A message with a wrong header counts in 4012h. A port without a valid measurement raises source 64
(R225, R281, R282, R286). That the halves round toward zero, and that the mean is taken of whole nanoseconds and kept in
picoseconds, is the model's choice (log 53: DEDUCED). Where the manual leaves a corner open, the model's choice: log
entries 35 and 53. -/
def Obligations.SyncAndPeerDelay : Prop :=
  (∀ (s : State) (x : LaneId), s.sendsSync x = true →
    Leads (.syncSend x) s fun t =>
      (t.lane x).time.syncSeq = ((s.lane x).time.syncSeq + 1) % 65536 ∧ t.lane x.peer = s.lane x.peer ∧
      (∀ e, ((s.lane x).port e).isUp = true → ((s.lane x).port e).fill + 78 ≤ 65536 →
        ∃ m, ((t.lane x).port e).queue = ((s.lane x).port e).queue ++ [.sync m] ∧ m.clock = BitVec.ofNat 64 s.uid ∧
          m.port = BitVec.ofNat 16 (portNumber x e) ∧ m.seqId = BitVec.ofNat 16 (s.lane x).time.syncSeq ∧
          m.domain = BitVec.ofNat 64 (s.get x 0x400900) ∧ m.correction = 0 ∧
          m.source = BitVec.ofNat 48 (macAddress s.uid x)) ∧
      (∀ e, ((s.lane x).port e).isUp = false → (t.lane x).port e = (s.lane x).port e)) ∧
  (∀ (s : State) (x : LaneId), s.sendsSync x = false → exec (.syncSend x) s = .next s) ∧
  (∀ (s : State) (x : LaneId) (e : EndId) (m : SyncMsg) (ing : Int) (cut : Option Int), (s.lane x).ready = true →
    ((s.lane x).port e).isUp = true →
    inProfile m.head = false ∨ m.head.messageType = 0 ∧ (m.tlv = false ∨ m.reserved ≠ 0) →
    exec (.syncReceived x e m ing cut) s = .next (s.inc x 0x401200)) ∧
  (∀ (s : State) (x : LaneId) (e : EndId) (m : SyncMsg) (ing : Int) (cut : Option Int), (s.lane x).ready = true →
    ((s.lane x).port e).isUp = true → inProfile m.head = true → m.head.messageType = 0 → m.tlv = true → m.reserved = 0 →
    (s.lane x).delayValid e = false →
    exec (.syncReceived x e m ing cut) s = .next (s.inc x 0x400F00)) ∧
  (∀ (s : State) (x : LaneId) (e : EndId) (m : SyncMsg) (ing : Int), Canon s → (s.lane x).ready = true →
    ((s.lane x).port e).isUp = true → inProfile m.head = true → m.head.messageType = 0 → m.tlv = true → m.reserved = 0 →
    (s.lane x).delayValid e = true → (s.lane x).roll.directory ≠ [] → (s.lane x).masterUid = m.clock.toNat →
    m.clock.toNat ≠ s.uid → (s.lane x).timeState = 0 → (s.lane x).time.sampleDomain = 0 →
    (s.lane x).time.lastSeq = none → (s.lane x).timeRuns = true →
    Leads (.syncReceived x e m ing none) s fun t =>
      (t.lane x).timeState = 1 ∧ t.get x 0x400500 = sat32 ((s.lane x).thetaOf e m ing) ∧
      (t.lane x).time.samples = ⟨(s.lane x).thetaOf e m ing, ing⟩ :: (s.lane x).time.samples ∧
      (t.lane x).time.lastSeq = some m.seqId.toNat ∧ (t.lane x).time.sampleDomain = m.domain.toNat ∧
      (((s.lane x).port e.other).isUp = true → ((s.lane x).port e.other).fill + 78 ≤ 65536 →
        ((t.lane x).port e.other).queue = ((s.lane x).port e.other).queue ++ [.syncOn m ing])) ∧
  (∀ (s : State) (x : LaneId) (e : EndId), ((s.lane x).port e).isUp = true → (s.lane x).ready = true →
    (s.lane x).fitsGap s.uid x (s.lane x).trainTime 100000 = true →
    exec (.pdelayReq x e) s = .next (s.upd x (fun l =>
      (l.emit e (.pdelayReq (BitVec.ofNat 16 (portNumber x e)) (BitVec.ofNat 16 ((s.lane x).port e).pdelaySeq))).updPort e
        (fun p => { p with
          pdelayWaits := p.pdelayWaits ++ [((s.lane x).port e).pdelaySeq]
          pdelaySeq := (((s.lane x).port e).pdelaySeq + 1) % 65536 })))) ∧
  (∀ (s : State) (x : LaneId) (e : EndId) (hd : PtpHead) (clock : BitVec 64) (q n : BitVec 16) (ing : Nat),
    ((s.lane x).port e).isUp = true → (s.lane x).ready = true → inProfile hd = true → hd.messageType = 2 →
    exec (.pdelayResp x e ⟨hd, clock, q, n⟩ ing) s = .next (s.upd x (fun l =>
      l.emit e (.pdelayOn (BitVec.ofNat 16 (portNumber x e)) n (ing : Int) clock q)))) ∧
  (∀ (s : State) (x : LaneId) (e : EndId) (hd : PtpHead) (clock : BitVec 64) (q n : BitVec 16) (ing : Nat),
    ((s.lane x).port e).isUp = true → (s.lane x).ready = true → inProfile hd = false →
    exec (.pdelayResp x e ⟨hd, clock, q, n⟩ ing) s = .next (s.inc x 0x401200)) ∧
  (∀ (s : State) (x : LaneId) (e : EndId) (hd : PtpHead) (t1 t4 ta : Int) (n : BitVec 16),
    ((s.lane x).port e).isUp = true → (s.lane x).ready = true → inProfile hd = true → hd.messageType = 3 →
    ((s.lane x).port e).pdelayWaits.contains n.toNat = true → 100000 < ta ∨ t4 - t1 < ta →
    exec (.pdelayMeasurement x e t1 t4 ⟨hd, ta, n⟩) s = .next (s.upd x (fun l => (l.updPort e (fun p => { p with
      pdelayWaits := othersWait n.toNat p.pdelayWaits, pdelayFails := p.pdelayFails + 1 })).inc (key 0x400D (endSub e))))) ∧
  (∀ (s : State) (x : LaneId) (e : EndId) (hd : PtpHead) (t1 t4 ta : Int) (n : BitVec 16), Canon s →
    ((s.lane x).port e).isUp = true → (s.lane x).ready = true → inProfile hd = true → hd.messageType = 3 →
    ((s.lane x).port e).pdelayWaits.contains n.toNat = true → ta ≤ 100000 → ta ≤ t4 - t1 → (t4 - t1 - ta).tdiv 2 ≤ 10000 →
    Quiet s x 49 →
    Leads (.pdelayMeasurement x e t1 t4 ⟨hd, ta, n⟩) s fun t =>
      ((t.lane x).port e).pdelays = ((t4 - t1 - ta).tdiv 2 :: ((s.lane x).port e).pdelays).take 8 ∧
      ((t.lane x).port e).pdelayWaits = othersWait n.toNat ((s.lane x).port e).pdelayWaits ∧ ((t.lane x).port e).pdelayFails = 0 ∧
      t.get x (key 0x400C (endSub e)) =
        meanDelay (((t4 - t1 - ta).tdiv 2 :: ((s.lane x).port e).pdelays).take 8) % 2 ^ 32 ∧
      (((s.lane x).port e).pdelays.length < 3 → t.get x (key 0x400C (endSub e)) = 0) ∧
      t.lane x.peer = s.lane x.peer) ∧
  (∀ (s : State) (x : LaneId) (e : EndId) (hd : PtpHead) (t1 t4 ta : Int) (n : BitVec 16),
    ((s.lane x).port e).isUp = true → (s.lane x).ready = true → inProfile hd = true →
    ((s.lane x).port e).pdelayWaits.contains n.toNat = false →
    exec (.pdelayMeasurement x e t1 t4 ⟨hd, ta, n⟩) s = .next s) ∧
  (∀ (s : State) (x : LaneId) (e : EndId) (n : Nat) (rest : List Nat), ((s.lane x).port e).pdelayWaits = n :: rest →
    exec (.pdelayRespTimeout x e) s = .next (s.upd x (fun l => (l.updPort e (fun p => { p with
      pdelayWaits := othersWait n p.pdelayWaits, pdelayFails := p.pdelayFails + 1 })).inc (key 0x400D (endSub e))))) ∧
  (∀ (s : State) (x : LaneId) (e : EndId), ((s.lane x).port e).isUp = true →
    exec (.peerDelayFailure x e) s = .next ((s.upd x (fun l => l.updPort e (fun p =>
      { p with pdelayLost := true }))).raiseLane x 64))

/-- A locked lane without Syncs follows a peer that it may follow, else holds over with the proportional part dropped; a long
holdover sets bit 8 of entry 4002h and raises source 66. The lane in possession without time, of the node that its
candidate names master, founds a domain unless a close has named another. With four Syncs of its master a lane that
acquires, or that is late for a new domain, steps once, as it reaches a beat boundary of the master's time, by its offset
to it; then it is locked, in the domain that it measured (R279, R287, R291, R292, R293, R297, R298). The lanes compare
nothing without both mirrors, or while a timebase resets (R412). In one domain and locked they show their offset in entry
4010h with opposite signs; a lane in holdover then follows its peer again. The first comparison beyond 2 µs counts and
raises nothing. The host reads the low word of the acting lane's train time, which latches the high word for the read
that follows (R277, R293, R295). How the mean offset, the rate and the extrapolation round is the model's choice (log 53:
DEDUCED). Where the manual leaves a corner open, the model's choice: log entries 35, 53 and 61. -/
def Obligations.TimeStatesAndComparison : Prop :=
  (∀ (s : State) (x : LaneId), Canon s → (s.lane x).timeState = 2 → s.mayFollow x = true →
    Leads (.syncLoss x) s fun t => (t.lane x).timeState = 4 ∧ t.lane x.peer = s.lane x.peer) ∧
  (∀ (s : State) (x : LaneId), Canon s → (s.lane x).timeState = 2 → s.mayFollow x = false →
    Leads (.syncLoss x) s fun t =>
      (t.lane x).timeState = 3 ∧ (t.lane x).time.holdSince = s.clock ∧ (t.lane x).time.iacc = (s.lane x).time.iacc ∧
      (t.lane x).time.ns = (s.lane x).time.ns ∧ t.get x 0x400600 = ofSigned 32 ((s.lane x).time.iacc.tdiv 32)) ∧
  (∀ (s : State) (x : LaneId), (s.lane x).timeState = 3 →
    exec (.holdoverAlarm x) s = .next ((s.put x 0x400200 (withBit (s.get x 0x400200) 8 true)).raiseLane x 66)) ∧
  (∀ (s : State) (x : LaneId) (c : Candidate), Canon s → (s.lane x).mode = .possession → (s.lane x).timeState ≤ 1 →
    (s.lane x).timeRuns = true →
    (s.lane x).roll.candidate = some c → masterUid c.entries c.master = s.uid → (s.lane x).namedMaster = some s.uid →
    Leads (.foundDomain x) s fun t =>
      (t.lane x).timeState = 5 ∧ t.mget 0x401300 = (s.mget 0x401300 + 1) % 65536 ∧
      (t.lane x).domain = s.uid % 2 ^ 48 * 65536 + (s.mget 0x401300 + 1) % 65536 ∧ (t.lane x).rate = 0 ∧
      t.lane x.peer = s.lane x.peer) ∧
  (∀ (s : State) (x : LaneId) (a b c d : Sample), Canon s → (s.lane x).timeState = 1 → (s.lane x).timeRuns = true →
    (s.lane x).ready = true → (s.lane x).time.samples = [a, b, c, d] → a.time < ((s.lane x).trainTime : Int) →
    0 ≤ ((s.lane x).trainTime : Int) - thetaAt a (rateOf d a) (s.lane x).trainTime →
    (((s.lane x).trainTime : Int) - thetaAt a (rateOf d a) (s.lane x).trainTime) % 1000000 < 9 →
    Leads (.lockAcquisitionStep x) s fun t =>
      (t.lane x).timeState = 2 ∧
      ((t.lane x).trainTime : Int) = ((s.lane x).trainTime : Int) - thetaAt a (rateOf d a) (s.lane x).trainTime ∧
      (t.lane x).domain = (s.lane x).time.sampleDomain % 2 ^ 64 ∧ bitAt (t.get x 0x400200) 6 = true ∧
      t.lane x.peer = s.lane x.peer) ∧
  (∀ (s : State) (x : LaneId) (a b c d : Sample), Canon s → (s.lane x).time.lateDomain = true →
    (s.lane x).time.candSamples = [a, b, c, d] → a.time < nearestBeat (s.lane x).trainTime →
    0 ≤ ((s.lane x).trainTime : Int) - thetaAt a (rateOf d a) (s.lane x).trainTime →
    (((s.lane x).trainTime : Int) - thetaAt a (rateOf d a) (s.lane x).trainTime) % 1000000 < 9 →
    Leads (.lateDomainStep x) s fun t =>
      (t.lane x).timeState = 2 ∧
      ((t.lane x).trainTime : Int) = ((s.lane x).trainTime : Int) - thetaAt a (rateOf d a) (s.lane x).trainTime ∧
      (t.lane x).domain = (s.lane x).time.candDomain % 2 ^ 64 ∧ (t.lane x).time.lateDomain = false ∧
      (t.lane x).time.samples = [a, b, c, d] ∧ (t.lane x).time.candUid = 0 ∧ t.lane x.peer = s.lane x.peer) ∧
  (∀ (s : State) (t1 t2 t3 t4 : Int), s.laneA.poss.mirrorCurrent = false →
    exec (.laneTimeCompare t1 t2 t3 t4) s = .next s) ∧
  (∀ (s : State) (x : LaneId) (t1 t2 t3 t4 : Int), (s.lane x).timeRuns = false →
    exec (.laneTimeCompare t1 t2 t3 t4) s = .next s) ∧
  (∀ (s : State) (t1 t2 t3 t4 : Int), Canon s → s.laneA.ready = true → s.laneB.ready = true →
    s.laneA.timeRuns = true → s.laneB.timeRuns = true →
    s.laneA.poss.mirrorCurrent = true → s.laneB.poss.mirrorCurrent = true → s.laneA.timeState = 2 →
    s.laneB.timeState = 2 → s.laneA.domain = s.laneB.domain → s.laneA.time.diverged = 0 →
    2000 < (((t2 - t1) - (t4 - t3)).tdiv 2).natAbs →
    Leads (.laneTimeCompare t1 t2 t3 t4) s fun t =>
      t.get .A 0x401000 = sat32 (((t2 - t1) - (t4 - t3)).tdiv 2) ∧
      t.get .B 0x401000 = sat32 (-(((t2 - t1) - (t4 - t3)).tdiv 2)) ∧
      t.laneA.time.diverged = 1 ∧ t.laneA.coll = s.laneA.coll ∧ t.laneB.coll = s.laneB.coll ∧
      t.laneA.timeState = 2) ∧
  (∀ (s : State) (t1 t2 t3 t4 : Int), Canon s → s.laneA.ready = true → s.laneB.ready = true →
    s.laneA.timeRuns = true → s.laneB.timeRuns = true →
    s.laneA.poss.mirrorCurrent = true → s.laneB.poss.mirrorCurrent = true → s.laneA.timeState = 3 →
    s.laneB.timeState = 2 → s.laneA.domain = s.laneB.domain → s.laneA.time.lateDomain = false → s.laneB.time.lateDomain = false →
    s.laneA.time.diverged = 0 → s.laneA.time.noLimit = false → s.laneA.time.outlierRun = 0 →
    Leads (.laneTimeCompare t1 t2 t3 t4) s fun t => t.laneA.timeState = 4 ∧ t.laneB.timeState = 2) ∧
  (∀ s : State, s.hostOn = true →
    exec (.fastTimebaseRead true) s = .next (s.answer s.host.fastHigh)) ∧
  (∀ (s : State) (x : LaneId), s.hostOn = true → s.holder = some x →
    exec (.fastTimebaseRead false) s = .next ({ s with host := { s.host with
      fastHigh := (s.lane x).trainTime / 2 ^ 32 % 2 ^ 32 } }.answer ((s.lane x).trainTime % 2 ^ 32)))

/-- A pulse mode written by an Operator reaches lane and peer, and arms the unit in each that has time, at the end of a pulse
in progress where one runs; without time it is refused. A one-shot nearer than 50 µs is not armed and is late; a periodic
unit takes its next start at or after the time. An edge begins the pulse of an armed unit, and counts it, and ends a
pulse in progress (R300, R301). -/
def Obligations.PulseUnits : Prop :=
  (∀ (s : State) (a : Sys2Proof.Acc) (x : LaneId) (u : Fin 8) (v : Byte), Reaches s a 1 x →
    (a.sel = .acting → (s.lane x).reached = true) → 2 ≤ (s.lane x).timeState → v.toNat ≤ 2 →
    Leads (.pulseModeWrite a u v) s fun t =>
      t.lane x = ((s.lane x).put (key (0x4020 + u.val) 1) v.toNat).rearm u.val ∧ t.ans = ⟨0, 0, []⟩ ∧
      ((s.lane x.peer).timeState < 2 → t.lane x.peer = s.lane x.peer)) ∧
  (∀ (s : State) (a : Sys2Proof.Acc) (x : LaneId) (u : Fin 8) (v : Byte), Reaches s a 1 x →
    (s.lane x).timeState < 2 →
    exec (.pulseModeWrite a u v) s = .next (s.refuse a (0x4020 + u.val) 1)) ∧
  (∀ (l : LaneState) (u : Nat), u < 8 → Machine.tabCanon regDefault l.reg = true →
    l.get (pulseKey u 1) = 1 → l.get (pulseKey u 2) < l.trainTime + 50000 →
    (l.armPulse u).pulseArmed u = false ∧ bitAt ((l.armPulse u).get (pulseKey u 6)) 2 = true) ∧
  (∀ start period t : Nat, 0 < period →
    t ≤ nextPeriodic start period t ∧ start ≤ nextPeriodic start period t ∧
    (nextPeriodic start period t - start) % period = 0 ∧
    (nextPeriodic start period t = start ∨ nextPeriodic start period t < t + period)) ∧
  (∀ (s : State) (x : LaneId) (u : Fin 8), Canon s → (s.lane x).ready = true →
    bitAt (s.get x (pulseKey u.val 6)) 0 = false → (s.lane x).pulseArmed u.val = true →
    s.get x (pulseKey u.val 1) = 1 → s.get x (pulseKey u.val 8) < 1000 →
    Leads (.pulseEdge x u) s fun t =>
      bitAt (t.get x (pulseKey u.val 6)) 0 = true ∧ (t.lane x).pulseArmed u.val = false ∧
      t.get x (pulseKey u.val 8) = s.get x (pulseKey u.val 8) + 1 ∧ t.lane x.peer = s.lane x.peer) ∧
  (∀ (s : State) (x : LaneId) (u : Fin 8), (s.lane x).ready = true →
    bitAt (s.get x (pulseKey u.val 6)) 0 = true →
    Leads (.pulseEdge x u) s fun t =>
      t = s.upd x (fun l => (l.endPulse u.val).drivePins) ∧
      (Canon s → (t.lane x).get (pulseKey u.val 8) = (s.lane x).get (pulseKey u.val 8)) ∧
      (bitAt (s.lane x).time.pulseRearm u.val = false → bitAt (t.get x (pulseKey u.val 6)) 0 = false))

/-! ### The car bus (chapter 10) -/

/-- The data lengths of the DLC codes: up to 8 as the code; above 8 they are 12, 16, 20, 24, 32, 48 and 64 bytes in an FD
frame and 8 in a classical one; a frame's data has that length, at most 64, and a remote frame has none (R307). A valid
frame counts in a lane on the bus, and one not on the bus takes none. In listen-only mode the error counts stay;
otherwise a receive error count of 5 becomes 4. The other lane is untouched. A stored frame has new data set, its length,
its identifier and its time (R311, R312, R321, R324). That a received frame shows the bus idle, so that a controller that
waits with a new timing integrates then, is the model's choice (log 62: DEDUCED). Where the manual leaves a corner open,
the model's choice: log entries 50 and 62. -/
def Obligations.CarBusReception : Prop :=
  (∀ (fdf : Bool) (n : Nat), n ≤ 8 → dlcBytes fdf n = n) ∧
  (∀ n : Nat, 9 ≤ n → n ≤ 15 → dlcBytes false n = 8) ∧
  ((List.range 7).map (fun i => dlcBytes true (9 + i)) = [12, 16, 20, 24, 32, 48, 64]) ∧
  (∀ f : CanFrame, (canData f).length = canLength f ∧ canLength f ≤ 64) ∧
  (∀ f : CanFrame, f.rtr = true → canLength f = 0) ∧
  (∀ (s : State) (x : LaneId) (f : CanFrame) (time : BitVec 64), (s.lane x).onBus = false →
    exec (.canFrameReceived x f time) s = .next s) ∧
  (∀ (s : State) (x : LaneId) (f : CanFrame) (time : BitVec 64), Canon s → (s.lane x).onBus = true →
    s.get x 0x440701 < 1000 →
    Leads (.canFrameReceived x f time) s fun t =>
      t.get x 0x440701 = s.get x 0x440701 + 1 ∧
      ((s.lane x).can.listen = true → t.get x 0x440601 = s.get x 0x440601 ∧ t.get x 0x440602 = s.get x 0x440602) ∧
      (s.get x 0x440602 = 5 → (s.lane x).can.listen = false → t.get x 0x440602 = 4) ∧
      ((s.lane x).can.retime = true → (t.lane x).can.integrating = true) ∧
      t.lane x.peer = s.lane x.peer) ∧
  (∀ (l : LaneState) (index : Nat) (f : CanFrame) (time : Nat), Machine.tabCanon regDefault l.reg = true →
    0x4520 ≤ index → index ≤ 0x4561 → time < 2 ^ 64 →
    bitAt ((l.storeFrame index f time).get (key index 1)) 31 = true ∧
    (l.storeFrame index f time).get (key index 1) % 65536 = canLength f ∧
    (l.storeFrame index f time).get (key index 2) = canWord f % 2 ^ 29 ∧
    (l.storeFrame index f time).get (key index 3) = time)

/-- A bit timing within the limits, written by a Maintainer, is taken by the lanes the selector names, and by a standby only
where it fits the other word there too; each integrates afresh at once on an idle bus, and from the next bus idle on
where its bus is busy. A reserved bit set in either word is refused as an invalid value. After 11 recessive bits the
controller of a lane whose car bus is on integrates no more. A timing within the limits has a data bit no longer than the
nominal bit (R309, R310, R381). A Pattern apply fixes in both lanes, if they run, the first beat that fits the rows at
least 2 beats ahead of the lane in possession; at that beat the shadow is in force and empty, and an entry that it does
not name keeps its value. Switched on, the Pattern only runs; switched off, it ends in each lane every pending buffer
that has not begun an attempt and whose frame is not on that lane's bus. A gateway rule is enabled where its range and
context allow it, and refused where not; value 0 always disables it. Listen-only mode taken drops every pending buffer
(R317, R320, R324, R325, R326). That the frame on the bus when the Pattern goes off, and whether the bus is idle when a
timing is written, are operands, and that a timing on a busy bus is taken at bus idle, is the model's choice (log 62:
DEDUCED). Where the manual leaves a corner open, the model's choice: log entries 6, 62 and 66. -/
def Obligations.BitTimingAndPattern : Prop :=
  (∀ (s : State) (a : Sys2Proof.Acc) (x : LaneId) (v : BitVec 32) (p q : Bool), Reaches s a 2 x →
    v.toNat &&& 1 = 0 → timingOk v.toNat (s.get x 0x440200) = true →
    exec (.bitTimingWrite a false v p q) s = .next ((s.fanOutEach a.sel (fun y l =>
      if timingOk v.toNat (l.get 0x440200) then l.takeTiming 0x440100 v.toNat (onLines p q y) else l)).answer 0)) ∧
  (∀ (s : State) (a : Sys2Proof.Acc) (x : LaneId) (v : BitVec 32) (p q : Bool), Reaches s a 2 x →
    v.toNat &&& 0xE0E0F0F0 = 0 → timingOk (s.get x 0x440100) v.toNat = true →
    exec (.bitTimingWrite a true v p q) s = .next ((s.fanOutEach a.sel (fun y l =>
      if timingOk (l.get 0x440100) v.toNat then l.takeTiming 0x440200 v.toNat (onLines p q y) else l)).answer 0)) ∧
  (∀ (s : State) (a : Sys2Proof.Acc) (x : LaneId) (data : Bool) (v : BitVec 32) (p q : Bool), Reaches s a 2 x →
    v.toNat &&& (if data then 0xE0E0F0F0 else 1) ≠ 0 →
    exec (.bitTimingWrite a data v p q) s = .next (s.abort 0x01000005)) ∧
  (∀ (l : LaneState) (k v : Nat), (l.takeTiming k v false).can.integrating = true ∧
    (l.takeTiming k v true).can.integrating = l.can.integrating ∧
    (l.takeTiming k v true).busIdle.can.integrating = true) ∧
  (∀ (s : State) (x : LaneId), (s.lane x).carBusOn x = true → exec (.integrationDone x) s =
    .next (s.upd x (fun l => { l with can := { l.can with integrating := false, retime := false } }))) ∧
  (∀ nominal data : Nat, timingOk nominal data = true →
    bitCycles (dataFields data) ≤ bitCycles (nominalFields nominal)) ∧
  (∀ (s : State) (a : Sys2Proof.Acc) (x : LaneId), Reaches s a 2 x → s.holder = some x →
    exec (.patternApply a 1) s = .next ((s.fanOut .acting (fun l => { l with can := { l.can with
      switchBeat := some (applyBeat ((s.lane x).trainTime / 1000000) ((s.lane x).shadowGet 0x440801)) } })).answer 0)) ∧
  (∀ now m : Nat, 0 < m → now + 2 ≤ applyBeat now m ∧ applyBeat now m % m = 0 ∧ applyBeat now m < now + 2 + m) ∧
  (∀ (s : State) (x : LaneId) (b : Nat), (s.lane x).can.switchBeat = some b →
    Leads (.patternSwitch x) s fun t =>
      (t.lane x).can.shadow = [] ∧ (t.lane x).can.switchBeat = none ∧ t.lane x.peer = s.lane x.peer ∧
      (∀ k, (∀ e ∈ (s.lane x).can.shadow, e.1 ≠ k) → t.get x k = s.get x k)) ∧
  (∀ (s : State) (a : Sys2Proof.Acc) (x : LaneId), Reaches s a 2 x → ∀ b : OnCarBus,
    exec (.patternEnable a 1 b) s = .next ((s.fanOut a.sel (fun l => l.put 0x440002 1)).answer 0)) ∧
  (∀ (s : State) (a : Sys2Proof.Acc) (x : LaneId) (b : OnCarBus), Canon s → Reaches s a 2 x →
    (a.sel = .acting → (s.lane x).reached = true) →
    Leads (.patternEnable a 0 b) s fun t =>
      t.lane x = ((s.lane x).put 0x440002 0).patternOff (OnCarBus.at_ b x) ∧ t.ans = ⟨0, 0, []⟩ ∧
      (a.sel = .acting → (s.lane x.peer).reached = true →
        t.lane x.peer = ((s.lane x.peer).put 0x440002 0).patternOff (OnCarBus.at_ b x.peer)) ∧
      (a.sel ≠ .acting ∨ (s.lane x.peer).reached = false → t.lane x.peer = s.lane x.peer) ∧
      (∀ n < 32, bitAt (s.lane x).can.tried n = false → OnCarBus.at_ b x ≠ some n → (t.lane x).txPending n = false)) ∧
  (∀ (s : State) (a : Sys2Proof.Acc) (x : LaneId) (g : Fin 64) (v : Byte), Reaches s a 2 x → v.toNat ≤ 2 →
    (v = 0 ∨ (s.lane x).ruleOk g.val v.toNat = true) →
    exec (.gatewayRuleEnable a g v) s =
      .next ((s.fanOut a.sel (fun l => l.put (ruleKey g.val 1) v.toNat)).answer 0)) ∧
  (∀ (s : State) (a : Sys2Proof.Acc) (x : LaneId) (g : Fin 64), Reaches s a 2 x →
    (s.lane x).ruleOk g.val 1 = false → exec (.gatewayRuleEnable a g 1) s = .next (s.abort 0x01000005)) ∧
  (∀ (s : State) (x : LaneId), Canon s → (s.lane x).ready = true → (s.lane x).can.errState ≠ 2 → s.get x 0x440001 = 1 →
    (s.lane x).can.listen = false →
    Leads (.listenOnlyChange x) s fun t =>
      (t.lane x).can.listen = true ∧ (∀ n < 32, (t.lane x).txPending n = false) ∧ t.lane x.peer = s.lane x.peer)

/-- A commit copies the staging area in the lanes the selector names. With the Pattern on and the car bus up, a slot makes
its buffer pending, its attempts not begun, and changes no register but the buffer's control word; a buffer still pending
counts a repeat; a slot of an on-update buffer without a change does nothing, listen-only mode or not; another in
listen-only mode is suppressed; with the Pattern off nothing happens. A completed frame is that of a buffer that may have
won the arbitration; it ends pending and the collision count, and counts, with its time; a change made since its attempt
began is still to be sent. A late frame counts once; a lost arbitration counts, and the buffer goes on contending (R315,
R316, R317, R318, R319, R323, R324). Where the manual leaves a corner open, the model's choice: log entries 6 and 62. -/
def Obligations.TransmitBuffers : Prop :=
  (∀ (s : State) (a : Sys2Proof.Acc) (x : LaneId) (t : Fin 32), Reaches s a 1 x →
    exec (.transmitCommit a t) s = .next ((s.fanOut a.sel (fun l => l.commitTx t.val)).answer 0)) ∧
  (∀ (s : State) (x : LaneId) (col : Fin 8) (t : Nat), (s.lane x).ready = true → (s.lane x).quiet = false →
    (s.lane x).carBusOn x = true → s.get x 0x440002 = 1 →
    col.val < s.get x 0x440802 → (s.lane x).cell ((s.lane x).flow.beat % s.get x 0x440801) col.val = some t →
    (s.lane x).can.listen = true → (s.lane x).txPending t = false →
    (bitAt (s.get x (txKey t 1)) 29 = true → bitAt (s.lane x).can.changed t = true) →
    exec (.slotStart x col) s = .next (s.upd x (fun l => (l.inc (txKey t 6)).inc 0x440706))) ∧
  (∀ (s : State) (x : LaneId) (col : Fin 8) (t : Nat),
    (s.lane x).cell ((s.lane x).flow.beat % s.get x 0x440801) col.val = some t → (s.lane x).txPending t = false →
    bitAt (s.get x (txKey t 1)) 29 = true → bitAt (s.lane x).can.changed t = false →
    exec (.slotStart x col) s = .next s) ∧
  (∀ (s : State) (x : LaneId) (col : Fin 8) (t : Nat), (s.lane x).ready = true → (s.lane x).quiet = false →
    (s.lane x).carBusOn x = true → s.get x 0x440002 = 1 →
    col.val < s.get x 0x440802 → (s.lane x).cell ((s.lane x).flow.beat % s.get x 0x440801) col.val = some t →
    (s.lane x).txPending t = true →
    exec (.slotStart x col) s = .next (s.upd x (fun l => (l.inc (txKey t 5)).inc 0x440705))) ∧
  (∀ (s : State) (x : LaneId) (col : Fin 8) (t : Nat), Canon s → (s.lane x).ready = true → (s.lane x).quiet = false →
    (s.lane x).carBusOn x = true → s.get x 0x440002 = 1 →
    col.val < s.get x 0x440802 → (s.lane x).cell ((s.lane x).flow.beat % s.get x 0x440801) col.val = some t →
    (s.lane x).can.listen = false → (s.lane x).txPending t = false →
    (bitAt (s.get x (txKey t 1)) 29 = true → bitAt (s.lane x).can.changed t = true) →
    Leads (.slotStart x col) s fun u =>
      (u.lane x).txPending t = true ∧ bitAt (u.lane x).can.tried t = false ∧ u.lane x.peer = s.lane x.peer ∧
      (∀ k, k ≠ txKey t 1 → u.get x k = s.get x k)) ∧
  (∀ (s : State) (x : LaneId) (col : Fin 8), s.get x 0x440002 ≠ 1 → exec (.slotStart x col) s = .next s) ∧
  (∀ (s : State) (x : LaneId) (t : Fin 32) (time : BitVec 64), Canon s →
    (s.lane x).mayWin t.val time.toNat = true → (s.lane x).onBus = true → s.get x 0x440703 < 1000 →
    Leads (.canFrameComplete x t time) s fun u =>
      (u.lane x).txPending t.val = false ∧ (u.lane x).collisions t.val = 0 ∧
      u.get x (txKey t.val 7) = time.toNat ∧ u.get x 0x440703 = s.get x 0x440703 + 1 ∧
      bitAt (u.lane x).can.changed t.val = (s.lane x).changedSince t.val time.toNat ∧
      (u.lane x).can.sent = some ((s.lane x).frameAt t.val time.toNat) ∧ u.lane x.peer = s.lane x.peer) ∧
  (∀ (s : State) (x : LaneId) (t : Fin 32) (time : BitVec 64), (s.lane x).mayWin t.val time.toNat = false →
    exec (.canFrameComplete x t time) s = .next s) ∧
  (∀ (s : State) (x : LaneId) (t : Fin 32), (s.lane x).ready = true → (s.lane x).txPending t.val = true →
    bitAt (s.lane x).can.late t.val = false →
    exec (.canFrameLate x t) s = .next (s.upd x (fun l => { (l.inc (txKey t.val 4)).inc 0x440704 with
      can := { l.can with late := withBit l.can.late t.val true } }))) ∧
  (∀ (s : State) (x : LaneId) (t : Fin 32), bitAt (s.lane x).can.late t.val = true →
    exec (.canFrameLate x t) s = .next s) ∧
  (∀ (s : State) (x : LaneId) (t : Fin 32), (s.lane x).onBus = true → (s.lane x).mayBeOnBus t.val = true →
    s.get x 0x440002 = 1 → (s.lane x).can.listen = false →
    exec (.arbitrationLost x t) s = .next (s.upd x (fun l => { l.inc 0x440707 with
      can := { l.can with tried := withBit l.can.tried t.val true, lastEnd := l.trainTime } })))

/-- An error in listen-only mode sets only the last error. An error of the frame being sent adds 8 to the transmit error
count, one of a frame received 1 to the receive error count, and either adds 8 for each further step of its flag; it
counts, with the last error. A count above 127 makes the controller error passive, a transmit error count above 255 makes
it bus-off, with sources 72 and 73; bus-off counts. Neither comes at lower counts. The recovery from bus-off has both
counts 0 and both sources left. A collision count of 3 starts again, and its buffer and time are recorded with bit 8 of
entry 4405h (R321, R322, R323, R324). Where the manual leaves a corner open, the model's choice: log entry 50. -/
def Obligations.CarBusErrors : Prop :=
  (∀ (s : State) (x : LaneId) (o : Option (Fin 32)) (k : CanErr) (d : Bool) (n : BitVec 16) (p : Bool), Canon s →
    (s.lane x).onBus = true → (s.lane x).can.listen = true →
    Leads (.canError x o k d n p) s fun t =>
      t.get x 0x440603 = canErrCode k ∧ (∀ j, j ≠ 0x440603 → t.get x j = s.get x j) ∧ t.lane x.peer = s.lane x.peer) ∧
  (∀ (s : State) (x : LaneId) (k : CanErr) (d : Bool) (n : BitVec 16), Canon s →
    (s.lane x).onBus = true → (s.lane x).can.listen = false →
    Leads (.canError x none k d n false) s fun t =>
      t.get x 0x440602 = min 255 (s.get x 0x440602 + 1 + 8 * n.toNat) ∧ t.get x 0x440601 = s.get x 0x440601 ∧
      t.get x 0x440603 = canErrCode k ∧ t.lane x.peer = s.lane x.peer) ∧
  (∀ (s : State) (x : LaneId) (u : Fin 32) (k : CanErr) (d : Bool) (n : BitVec 16), Canon s →
    (s.lane x).onBus = true → (s.lane x).can.listen = false → (s.lane x).mayBeOnBus u.val = true →
    Leads (.canError x (some u) k d n false) s fun t =>
      t.get x 0x440601 = min 256 (s.get x 0x440601 + 8 + 8 * n.toNat) ∧ t.get x 0x440602 = s.get x 0x440602 ∧
      t.get x 0x440603 = canErrCode k ∧ t.lane x.peer = s.lane x.peer) ∧
  (∀ (s : State) (x : LaneId), (s.lane x).ready = true → (s.lane x).can.errState = 0 →
    (s.lane x).can.listen = false → 127 < s.get x 0x440601 ∨ 127 < s.get x 0x440602 →
    exec (.errorPassive x) s = .next ((s.upd x (fun l => { l with can := { l.can with errState := 1 } })).raiseLane x 72)) ∧
  (∀ (s : State) (x : LaneId), (s.lane x).ready = true → (s.lane x).can.errState ≠ 2 →
    (s.lane x).can.listen = false → 255 < s.get x 0x440601 →
    exec (.busOff x) s = .next ((s.upd x (fun l => { l.inc 0x440604 with
      can := { l.can with errState := 2 } })).raiseLane x 73)) ∧
  (∀ (s : State) (x : LaneId), s.get x 0x440601 ≤ 127 → s.get x 0x440602 ≤ 127 →
    exec (.errorPassive x) s = .next s ∧ exec (.busOff x) s = .next s) ∧
  (∀ (s : State) (x : LaneId), Canon s → (s.lane x).can.errState = 2 →
    Leads (.busOffRecoveryDone x) s fun t =>
      (t.lane x).can.errState = 0 ∧ t.get x 0x440601 = 0 ∧ t.get x 0x440602 = 0 ∧
      (t.lane x).coll.inFault.testBit 72 = false ∧ (t.lane x).coll.inFault.testBit 73 = false) ∧
  (∀ (s : State) (x : LaneId) (t : Fin 32) (time : BitVec 64), Canon s → (s.lane x).ready = true →
    3 ≤ (s.lane x).collisions t.val → Quiet s x 74 →
    Leads (.identifierCollision x t time) s fun u =>
      (u.lane x).collisions t.val = 0 ∧ u.get x 0x440A01 = t.val ∧ u.get x 0x440A03 = time.toNat ∧
      bitAt (u.get x 0x440500) 8 = true)

/-! ### The field side (chapter 11) -/

/-- On a powered isolation link that frames use, a frame whose check fails counts and is a measurement of the margin plan. A
valid one toward the field side carries the commands of the pins and maps its counter reading to the train time; entry
4031h shows how far the mapping before was off. One toward the lane shows the link up and lowers source 80; if it reports
an expiry of the watchdog, bit 2 of entry 5103h is set and source 87 raised, and if the field side follows the lane,
source 87 is lowered. A link that fails counts and raises source 80. The first run command begins every filter from its
raw state, by the first sample of the pin; after an expiry of the watchdog none does anything before the lane starts anew
(R302, R335, R336, R337, R338, R340, R345). The field watchdog counts, asks for its report, and puts the output pins into
their programmed safe states: those programmed off are off, those programmed on are on unless latched or without supply,
and other pins stay as they are; then the field side takes no run command. Without a frame since the last expiry it does
not expire again (R338, R339, R340). Where the manual leaves a corner open, the model's choice: log entry 34. -/
def Obligations.IsolationAndWatchdog : Prop :=
  (∀ (s : State) (x : LaneId) (toField : Bool) (c : Nat), (s.lane x).framesField = true →
    (s.lane x).field.powered = true → exec (.isolationFrame x toField false c) s =
      .next ((s.inc x 0x510800).upd x (fun l => l.sample 6 1))) ∧
  (∀ (s : State) (x : LaneId) (c : Nat), (s.lane x).framesField = true → (s.lane x).field.powered = true →
    exec (.isolationFrame x true true c) s =
      .next ((s.upd x (fun l => (l.commandPins).mapFieldTime c)).clearPinSources x)) ∧
  (∀ (l : LaneState) (c c0 t0 : Nat), Machine.tabCanon regDefault l.reg = true → l.field.timeMap = some (c0, t0) →
    (l.mapFieldTime c).field.timeMap = some (c, l.trainTime) ∧ (l.mapFieldTime c).get 0x403000 = 1 ∧
    (l.mapFieldTime c).get 0x403100 = ofSigned 32 ((l.trainTime : Int) - ((t0 : Int) + 40 * ((c : Int) - c0)))) ∧
  (∀ (s : State) (x : LaneId) (c : Nat), (s.lane x).framesField = true → (s.lane x).field.powered = true →
    (s.lane x).field.report = false → (s.lane x).field.safe = false →
    exec (.isolationFrame x false true c) s = .next (((s.upd x (fun l => { l with
      field := { l.field with linkUp := true, report := false } })).lower (.lane x) 80).lower (.lane x) 87)) ∧
  (∀ (s : State) (x : LaneId) (c : Nat), (s.lane x).framesField = true → (s.lane x).field.powered = true →
    (s.lane x).field.report = true →
    exec (.isolationFrame x false true c) s = .next (((s.upd x (fun l => { l with
      field := { l.field with linkUp := true, report := false } }.put 0x510300
        (withBit (l.get 0x510300) 2 true))).lower (.lane x) 80).raiseLane x 87)) ∧
  (∀ (s : State) (x : LaneId), (s.lane x).framesField = true → (s.lane x).field.linkUp = true →
    exec (.fieldLinkFailed x) s = .next (((s.upd x (fun l => { l with
      field := { l.field with linkUp := false } })).inc x 0x510900).raiseLane x 80)) ∧
  (∀ (s : State) (x : LaneId) (volts : List Nat), (s.lane x).field.barred = true →
    exec (.fieldRunCommand x volts) s = .next s) ∧
  (∀ (s : State) (x : LaneId) (volts : List Nat), Canon s → (s.lane x).ready = true → (s.lane x).framesField = true →
    (s.lane x).field.powered = true → (s.lane x).field.barred = false → (s.lane x).field.run = false →
    Leads (.fieldRunCommand x volts) s fun t =>
      (t.lane x).field.run = true ∧ (t.lane x).field.safe = false ∧ (t.lane x).mode = (s.lane x).mode ∧
      (∀ n, n < 24 → ((t.lane x).pin n).filt = (s.lane x).rawOf n (volts.getD n 0) ∧ ((t.lane x).pin n).begun = true) ∧
      t.lane x.peer = s.lane x.peer) ∧
  (∀ (s : State) (x : LaneId), Canon s → (s.lane x).field.powered = true → (s.lane x).field.run = true →
    (s.lane x).field.fed = true → s.get x 0x510A00 < 1000 →
    Leads (.fieldWatchdogExpiry x) s fun t =>
      (t.lane x).field.safe = true ∧ (t.lane x).field.report = true ∧ (t.lane x).field.barred = true ∧
      t.get x 0x510A00 = s.get x 0x510A00 + 1 ∧
      (∀ n, n < 24 → isOutput ((s.lane x).pinFunction n) = true → s.get x (pinKey n 5) = 0 →
        ((t.lane x).pin n).driver = false) ∧
      (∀ n, n < 24 → isOutput ((s.lane x).pinFunction n) = true → s.get x (pinKey n 5) = 1 →
        (s.lane x).latched n = false → (s.lane x).supplyState < 2 → ((t.lane x).pin n).driver = true) ∧
      (∀ n, isOutput ((s.lane x).pinFunction n) = false → (t.lane x).pin n = (s.lane x).pin n) ∧
      (t.lane x).mode = (s.lane x).mode ∧ t.lane x.peer = s.lane x.peer) ∧
  (∀ (s : State) (x : LaneId), (s.lane x).field.fed = false → exec (.fieldWatchdogExpiry x) s = .next s)

/-- The counter of a filter moves by one with the raw state and the filtered state changes only at its bounds; without a
length it follows the raw state. A tick takes the raw states of all pins, by their voltages and input classes, and moves
the filter of each input; at or above 15 V a pin of class 1 reads on and up to 5 V off. A read of a capture head takes
the oldest record out of its FIFO; an empty FIFO reads as 16 zero bytes. A pair of inputs that differ is shown in both
lanes, and without a lane in possession nothing is raised (R345, R346, R350, R351). A function up to 6, written by a
Maintainer through a selector of one lane, is the pin's function there and only there, and the pin begins anew: driver
off, FIFO empty, filtered state as its raw state; a function above 6 is refused as an invalid value. A gate of an
end-role pin, written by an Operator, is stored as the selector says (R343, R344, R366). Where the manual leaves a corner
open, the model's choice: log entry 34. -/
def Obligations.InputsAndPinConfiguration : Prop :=
  (∀ (N c : Nat) (f : Bool), 0 < N → c + 1 < N → filterTick N c f true = (c + 1, f)) ∧
  (∀ (N c : Nat) (f : Bool), 0 < N → N ≤ c + 1 → filterTick N c f true = (N, true)) ∧
  (∀ (N c : Nat) (f : Bool), 0 < N → 1 < c → c ≤ N → filterTick N c f false = (c - 1, f)) ∧
  (∀ (N c : Nat) (f : Bool), 0 < N → c ≤ 1 → filterTick N c f false = (0, false)) ∧
  (∀ (c : Nat) (f r : Bool), filterTick 0 c f r = (0, r)) ∧
  (∀ (was : Bool) (mV : Nat), (15000 ≤ mV → readsOn 1 was mV = true) ∧ (mV ≤ 5000 → readsOn 1 was mV = false)) ∧
  (∀ (s : State) (x : LaneId) (volts edges : List Nat), Canon s → (s.lane x).field.powered = true →
    (s.lane x).field.run = true →
    Leads (.inputFilterTick x volts edges) s fun t =>
      (∀ n, n < 24 → ((t.lane x).pin n).raw = (s.lane x).rawOf n (volts.getD n 0)) ∧
      (∀ n, n < 24 → isInput ((s.lane x).pinFunction n) = true → ((s.lane x).pin n).begun = true →
        (((t.lane x).pin n).cnt, ((t.lane x).pin n).filt) =
          filterTick (s.get x (pinKey n 3)) ((s.lane x).pin n).cnt ((s.lane x).pin n).filt
            ((s.lane x).rawOf n (volts.getD n 0))) ∧
      (t.lane x).mode = (s.lane x).mode) ∧
  (∀ (s : State) (a : Sys2Proof.Acc) (x : LaneId) (n : Fin 24), Reaches s a 0 x →
    ((s.lane x).pin n.val).fifo = [] →
    Leads (.captureHeadRead a n) s fun t =>
      t.ans = ⟨0, 16, List.replicate 16 0⟩ ∧ (t.lane x).reg = (s.lane x).reg ∧ t.lane x.peer = s.lane x.peer ∧
      t.coll = s.coll ∧ t.mreg = s.mreg) ∧
  (∀ (s : State) (a : Sys2Proof.Acc) (x : LaneId) (n : Fin 24) (c : Capture) (rest : List Capture), Canon s →
    Reaches s a 0 x → ((s.lane x).pin n.val).fifo = c :: rest →
    Leads (.captureHeadRead a n) s fun t =>
      ((t.lane x).pin n.val).fifo = rest ∧ t.ans = ⟨0, 16, captureBytes c⟩ ∧ (t.lane x).reg = (s.lane x).reg ∧
      t.lane x.peer = s.lane x.peer) ∧
  (∀ (s : State) (n : Fin 24), Canon s → s.pairDiffers n.val = true → s.holder = none →
    Leads (.inputDisagreement n) s fun t =>
      t.laneA.pinBit n.val 6 = true ∧ t.laneB.pinBit n.val 6 = true ∧
      t.laneA.coll = s.laneA.coll ∧ t.laneB.coll = s.laneB.coll ∧
      bitAt (t.get .A 0x510B00) n.val = true ∧ bitAt (t.get .B 0x510B00) n.val = true) ∧
  (∀ (s : State) (a : Sys2Proof.Acc) (x : LaneId) (n : Fin 24) (v : Byte), Canon s → a.sel = .lane x →
    Reaches s a 2 x → v.toNat ≤ 6 →
    Leads (.pinFunctionChange a n v) s fun t =>
      (t.lane x).pinFunction n.val = v.toNat ∧ ((t.lane x).pin n.val).driver = false ∧
      ((t.lane x).pin n.val).fifo = [] ∧ ((t.lane x).pin n.val).filt = ((s.lane x).pin n.val).raw ∧
      (t.lane x.peer).pinFunction n.val = (s.lane x.peer).pinFunction n.val ∧ t.ans = ⟨0, 0, []⟩) ∧
  (∀ (s : State) (a : Sys2Proof.Acc) (x : LaneId) (n : Fin 24) (v : Byte), Reaches s a 2 x → 6 < v.toNat →
    exec (.pinFunctionChange a n v) s = .next (s.abort 0x01000005)) ∧
  (∀ (s : State) (a : Sys2Proof.Acc) (x : LaneId) (n : Fin 24) (v : Byte), Reaches s a 1 x → v.toNat ≤ 1 →
    exec (.endRoleGateWrite a n v) s =
      .next ((s.fanOut a.sel (fun l => l.put (pinKey n.val 19) v.toNat)).answer 0))

/-- A pin that is on and overloaded outside its inrush window, or still at its limit at the window's end, is switched off,
latched, and raises source 82; the overload counts, one inside the window does nothing, and a window that ends below the
limit only ends. The currents of a group are shown; with at most 9 A together no pin is latched, and above, with no pin
in its inrush window, the pin with the highest current of those not latched yet, the last of equals. A pin that is off
and passes current shows it and raises source 83 (R353, R356, R357, R358). The output image is one per node: a 24-bit
value that an Operator writes sets the bits of the pins of function 1 or 2, and only those, in both lanes, where a write
reaches both; a lane that it does not reach keeps its own, to be brought by the mirror's resync; set and clear commands
change those that they name, and no other register. A longer value is refused as invalid (R344, R370, R381). Where the
manual leaves a corner open, the model's choice: log entry 34. -/
def Obligations.OutputsAndProtection : Prop :=
  (∀ (s : State) (x : LaneId) (n : Fin 24), Canon s → s.collects (.lane x) = true →
    ((s.lane x).pin n.val).driver = true → (s.lane x).pinBit n.val 10 = false → Quiet s x 82 → s.get x (pinKey n.val 17) < 1000 →
    Leads (.outputOverload x n false) s fun t =>
      ((t.lane x).pin n.val).driver = false ∧ (t.lane x).pinBit n.val 13 = true ∧
      t.get x (pinKey n.val 17) = s.get x (pinKey n.val 17) + 1 ∧ (t.lane x).coll.inFault.testBit 82 = true ∧
      t.lane x.peer = s.lane x.peer) ∧
  (∀ (s : State) (x : LaneId) (n : Fin 24), ((s.lane x).pin n.val).driver = true →
    (s.lane x).pinBit n.val 10 = true → exec (.outputOverload x n false) s = .next s) ∧
  (∀ (s : State) (x : LaneId) (n : Fin 24), (s.lane x).pinBit n.val 10 = true →
    exec (.inrushWindowEnd x n false) s = .next (s.upd x (fun l => (l.setPinBit n.val 10 false).takeLimits))) ∧
  (∀ (s : State) (x : LaneId) (n : Fin 24), Canon s → s.collects (.lane x) = true → (s.lane x).pinBit n.val 10 = true →
    ((s.lane x).pin n.val).driver = true → Quiet s x 82 →
    Leads (.inrushWindowEnd x n true) s fun t =>
      (t.lane x).pinBit n.val 13 = true ∧ ((t.lane x).pin n.val).driver = false ∧
      (t.lane x).coll.inFault.testBit 82 = true) ∧
  (∀ (s : State) (x : LaneId) (g : Fin 3) (cs : List Nat), (s.lane x).field.powered = true →
    (cs.take 8).foldl (· + ·) 0 ≤ 9000 →
    exec (.groupOverload x g cs) s = .next ((s.upd x (fun l => (l.takeCurrents (8 * g.val) (cs.take 8)).put
      (key 0x5107 (g.val + 1)) (min 65535 ((cs.take 8).foldl (· + ·) 0)))).clearPinSources x)) ∧
  (∀ (s : State) (x : LaneId) (g : Fin 3) (cs : List Nat) (n : Nat), (s.lane x).field.powered = true →
    9000 < (cs.take 8).foldl (· + ·) 0 →
    (((s.upd x (fun l => (l.takeCurrents (8 * g.val) (cs.take 8)).put (key 0x5107 (g.val + 1))
      (min 65535 ((cs.take 8).foldl (· + ·) 0)))).clearPinSources x).lane x).highestPin (8 * g.val) (cs.take 8) = some n →
    (∀ j, j < 8 → ((((s.upd x (fun l => (l.takeCurrents (8 * g.val) (cs.take 8)).put (key 0x5107 (g.val + 1))
      (min 65535 ((cs.take 8).foldl (· + ·) 0)))).clearPinSources x).lane x).pinBit (j + 8 * g.val) 10) = false) →
    exec (.groupOverload x g cs) s = .next (((s.upd x (fun l => (l.takeCurrents (8 * g.val) (cs.take 8)).put
      (key 0x5107 (g.val + 1)) (min 65535 ((cs.take 8).foldl (· + ·) 0)))).clearPinSources x).latchPin x n false)) ∧
  (∀ (l : LaneState) (base : Nat) (cs : List Nat) (n : Nat), l.highestPin base cs = some n →
    base ≤ n ∧ n < base + cs.length ∧ l.latched n = false ∧
    (∀ j, j < cs.length → l.latched (base + j) = false →
      cs.getD j 0 ≤ cs.getD (n - base) 0 ∧ (n < base + j → cs.getD j 0 < cs.getD (n - base) 0))) ∧
  (∀ (cs : List Nat) (i c : Nat), highestAt 0 cs = some (i, c) →
    cs[i]? = some c ∧ (∀ j d : Nat, cs[j]? = some d → d ≤ c) ∧ (∀ j d : Nat, i < j → cs[j]? = some d → d < c)) ∧
  (∀ (s : State) (x : LaneId) (n : Fin 24), (s.lane x).ready = true → (s.lane x).field.powered = true →
    isOutput ((s.lane x).pinFunction n.val) = true → ((s.lane x).pin n.val).driver = false →
    exec (.driverStuckOn x n) s = .next ((s.upd x (fun l => l.setPinBit n.val 11 true)).raiseLane x 83)) ∧
  (∀ (s : State) (a : Sys2Proof.Acc) (x : LaneId) (v : BitVec 32), Reaches s a 1 x → v.toNat < 2 ^ 24 →
    s.laneA.reached = true → s.laneB.reached = true →
    exec (.outputImage a v) s = .next (((s.put .A 0x510000 (clearMask s.image s.imageMask + (v.toNat &&& s.imageMask))).put .B
      0x510000 (clearMask s.image s.imageMask + (v.toNat &&& s.imageMask))).answer 0)) ∧
  (∀ (s : State) (a : Sys2Proof.Acc) (x : LaneId) (v : BitVec 32), Canon s → Reaches s a 1 x → v.toNat < 2 ^ 24 →
    s.image < 2 ^ 24 → s.laneA.reached = true → s.laneB.reached = true →
    Leads (.setOutputs a v) s fun t =>
      t.get .A 0x510000 = t.get .B 0x510000 ∧ t.ans = ⟨0, 0, []⟩ ∧
      (∀ n, n < 24 → bitAt (t.get .A 0x510000) n = (bitAt s.image n || (bitAt v.toNat n && bitAt s.imageMask n))) ∧
      (∀ y k, k ≠ 0x510000 → t.get y k = s.get y k)) ∧
  (∀ (s : State) (a : Sys2Proof.Acc) (x : LaneId) (v : BitVec 32), Canon s → Reaches s a 1 x → v.toNat < 2 ^ 24 →
    s.image < 2 ^ 24 → s.laneA.reached = true → s.laneB.reached = true →
    Leads (.clearOutputs a v) s fun t =>
      t.get .A 0x510000 = t.get .B 0x510000 ∧ t.ans = ⟨0, 0, []⟩ ∧
      (∀ n, n < 24 → bitAt (t.get .A 0x510000) n = (bitAt s.image n && !(bitAt v.toNat n && bitAt s.imageMask n))) ∧
      (∀ y k, k ≠ 0x510000 → t.get y k = s.get y k)) ∧
  (∀ (s : State) (a : Sys2Proof.Acc) (x y : LaneId) (v : BitVec 32), Reaches s a 1 x → v.toNat < 2 ^ 24 →
    (s.lane y).reached = true → (s.lane y.peer).reached = false →
    Leads (.outputImage a v) s fun t =>
      t.lane y = (s.lane y).put 0x510000 (clearMask s.image s.imageMask + (v.toNat &&& s.imageMask)) ∧
      t.lane y.peer = s.lane y.peer ∧ t.ans = ⟨0, 0, []⟩) ∧
  (∀ (s : State) (a : Sys2Proof.Acc) (x : LaneId) (v : BitVec 32), Reaches s a 1 x → 2 ^ 24 ≤ v.toNat →
    exec (.outputImage a v) s = .next (s.abort 0x01000005))

/-- In the lane in possession, with its lamp on and supervised, a sample below the threshold is shown and is one more, and no
high one counts; the tenth makes the lamp dark: its bits are set and source 84 raised. The pair hold-off ends. A first
open-load test that finds the load open is counted and shown and makes no dark lamp yet. A learn begins where the lane
may learn and changes only the pin's status; its mean from 20 to 1000 mA becomes the nominal current in both lanes, a
higher one is not taken, and the learn ends (R360, R361, R362, R363, R364). The first measurement is shown and changes no
state, source or pin; the second that finds the supply missing, from good, sets the state, raises source 86, leaves
source 85 and switches all pins off. Missing ends at 9.5 V and low ends 0.5 V above the threshold (R367). Where the
manual leaves a corner open, the model's choice: log entries 7 and 34. -/
def Obligations.LampsAndFieldSupply : Prop :=
  (∀ (s : State) (x : LaneId) (n : Fin 24) (mA : BitVec 16), Canon s → (s.lane x).mode = .possession →
    isLamp ((s.lane x).pinFunction n.val) = true → ((s.lane x).pin n.val).driver = true →
    s.lampSkipped x n.val = false → mA.toNat * 100 < s.get x (pinKey n.val 9) * s.get x (pinKey n.val 8) →
    ((s.lane x).pin n.val).low < 9 →
    Leads (.lampSample x n mA) s fun t =>
      ((t.lane x).pin n.val).low = ((s.lane x).pin n.val).low + 1 ∧ ((t.lane x).pin n.val).high = 0 ∧
      t.get x (pinKey n.val 16) = mA.toNat ∧ (t.lane x).pinBit n.val 15 = (s.lane x).pinBit n.val 15 ∧
      (t.lane x).coll = (s.lane x).coll) ∧
  (∀ (s : State) (x : LaneId) (n : Fin 24) (mA : BitVec 16), Canon s → (s.lane x).mode = .possession →
    isLamp ((s.lane x).pinFunction n.val) = true → ((s.lane x).pin n.val).driver = true →
    s.lampSkipped x n.val = false → mA.toNat * 100 < s.get x (pinKey n.val 9) * s.get x (pinKey n.val 8) →
    9 ≤ ((s.lane x).pin n.val).low → (s.lane x).pinBit n.val 15 = false → Quiet s x 84 →
    Leads (.lampSample x n mA) s fun t =>
      (t.lane x).pinBit n.val 15 = true ∧ bitAt (t.get x 0x510C00) n.val = true ∧
      (t.lane x).coll.inFault.testBit 84 = true) ∧
  (∀ (s : State) (x : LaneId), exec (.pairedLampHoldOffEnd x) s =
    .next (s.upd x (fun l => { l with field := { l.field with holdOff := false } }))) ∧
  (∀ (s : State) (x : LaneId) (n : Fin 24) (before during : Nat), Canon s → (s.lane x).mode = .possession →
    isLamp ((s.lane x).pinFunction n.val) = true → (s.lane x).pinOption n.val 2 = true →
    ((s.lane x).pin n.val).driver = false → (s.lane x).supplyState = 0 → (s.lane x).pairWaits n.val = false →
    (s.lane x).field.powered = true → before < 3000 → 6000 ≤ during → ((s.lane x).pin n.val).opens = 0 →
    Leads (.openLoadTest x n before during) s fun t =>
      ((t.lane x).pin n.val).opens = 1 ∧ (t.lane x).pinBit n.val 14 = true ∧
      (t.lane x).pinBit n.val 15 = (s.lane x).pinBit n.val 15) ∧
  (∀ (s : State) (a : Sys2Proof.Acc) (x : LaneId) (n : Fin 24), Canon s → Reaches s a 2 x →
    (s.lane x).mayLearn n.val = true →
    Leads (.learn a n 1) s fun t =>
      (t.lane x).pinBit n.val 4 = true ∧ t.ans = ⟨0, 0, []⟩ ∧ t.lane x.peer = s.lane x.peer ∧
      (∀ k, k ≠ pinKey n.val 11 → t.get x k = s.get x k)) ∧
  (∀ (s : State) (x : LaneId) (n : Fin 24) (mean : BitVec 16), Canon s → (s.lane x).pinBit n.val 4 = true →
    20 ≤ mean.toNat → mean.toNat ≤ 1000 →
    Leads (.learnDone x n mean) s fun t =>
      t.get .A (pinKey n.val 9) = mean.toNat ∧ t.get .B (pinKey n.val 9) = mean.toNat ∧
      (t.lane x).pinBit n.val 4 = false) ∧
  (∀ (s : State) (x : LaneId) (n : Fin 24) (mean : BitVec 16), Canon s → (s.lane x).pinBit n.val 4 = true →
    1000 < mean.toNat →
    Leads (.learnDone x n mean) s fun t =>
      t.get x (pinKey n.val 9) = s.get x (pinKey n.val 9) ∧ (t.lane x).pinBit n.val 4 = false) ∧
  (∀ (s : State) (x : LaneId) (v : BitVec 16), Canon s → (s.lane x).field.powered = true →
    (s.lane x).field.measured = none →
    Leads (.fieldSupplyMeasure x v) s fun t =>
      t.get x 0x510400 = v.toNat ∧ (t.lane x).supplyState = (s.lane x).supplyState ∧
      (t.lane x).coll = (s.lane x).coll ∧ (t.lane x).field.pins = (s.lane x).field.pins ∧
      t.lane x.peer = s.lane x.peer) ∧
  (∀ (s : State) (x : LaneId) (v : BitVec 16), Canon s → s.collects (.lane x) = true → (s.lane x).field.powered = true →
    (s.lane x).field.supplyKnown = true → (s.lane x).supplyState = 0 → (s.lane x).field.measured = some 2 →
    v.toNat < 900 → Quiet s x 85 → Quiet s x 86 →
    Leads (.fieldSupplyMeasure x v) s fun t =>
      (t.lane x).supplyState = 2 ∧ (t.lane x).coll.inFault.testBit 85 = false ∧
      (t.lane x).coll.inFault.testBit 86 = true ∧
      (∀ n, n < 24 → ((t.lane x).pin n).driver = false)) ∧
  (∀ threshold v : Nat, 900 ≤ v → v < 950 → indicatedSupply 2 threshold v = 2) ∧
  (∀ threshold v : Nat, 950 ≤ threshold → threshold ≤ v → v < threshold + 50 →
    indicatedSupply 1 threshold v = 1 ∧ indicatedSupply 0 threshold v = 0)

/-! ### Faults and the recorder (chapters 13 and 14) -/

/-- A source that enters fault in a class without unacknowledged reactions reacts at its own level. At level 1 or 2 its bits,
its class level, the class's interrupt or trap and its count are set, the reaction is recorded, and lane and peer go on
as they were; at level 4 the lane is reset and at level 5 stopped, with cause and source in entry 140Bh. A source in
fault does not react again: only the Toss conditions are looked at anew, and a pair read invalid sets its sticky bits,
which a clear leaves while the fault lasts. A collector that does not run does nothing. In a class with unacknowledged
reactions the level rises at least one above the class's, up to the ceiling. A source that leaves fault lowers its bit,
that of an arbiter which has stopped only once it runs again; source 97 makes the peer's pair readable again, source 83
clears the stuck-on bits (R79, R358, R405, R409, R410, R413, R414, R415, R419, R425). Where the manual leaves a corner
open, the model's choice: log entries 9 and 59. -/
def Obligations.FaultReaction : Prop :=
  (∀ (s : State) (c : CollectorId) (hits : List SourceHit), s.collects c = false →
    exec (.faultReaction c hits) s = .next s) ∧
  (∀ (s : State) (c : CollectorId) (n d : Nat), s.collects c = true →
    (s.collector c).inFault.testBit (sourceBit c n) = true →
    exec (.faultReaction c [⟨n, false, d⟩]) s = .next s.tossCheck) ∧
  (∀ (s : State) (c : CollectorId) (n d : Nat), s.collects c = true → sourceIn c n = true →
    (s.collector c).inFault.testBit (sourceBit c n) = true →
    Leads (.faultReaction c [⟨n, true, d⟩]) s fun t =>
      t = (s.updColl c (fun k => k.readsInvalid (sourceBit c n))).tossCheck ∧
      (t.collector c).path.testBit (sourceBit c n) = true ∧ (t.collector c).sticky.testBit (sourceBit c n) = true) ∧
  (∀ (k : Collector) (sub v b : Nat), k.inFault.testBit b = true → (k.clearMap 0x1401 sub v).sticky.testBit b = true) ∧
  (∀ (s : State) (x : LaneId) (n d : Nat), Canon s → s.collects (.lane x) = true → sourceIn (.lane x) n = true →
    (s.lane x).coll.inFault.testBit n = false → (s.lane x).coll.classLevel (sourceClass n) = 0 →
    1 ≤ s.sourceLevel (.lane x) n → s.sourceLevel (.lane x) n ≤ 2 → s.get x (key (0x1410 + n) 3) < 1000 →
    Leads (.faultReaction (.lane x) [⟨n, false, d⟩]) s fun t =>
      (t.lane x).coll.inFault.testBit n = true ∧ (t.lane x).coll.sticky.testBit n = true ∧
      (∀ m, m ≠ n → (t.lane x).coll.inFault.testBit m = (s.lane x).coll.inFault.testBit m) ∧
      (t.lane x).coll.classLevel (sourceClass n) = s.sourceLevel (.lane x) n ∧
      (∀ k, k ≠ sourceClass n → (t.lane x).coll.classLevel k = (s.lane x).coll.classLevel k) ∧
      (s.sourceLevel (.lane x) n = 1 → (t.lane x).coll.intClasses.testBit (sourceClass n) = true) ∧
      (s.sourceLevel (.lane x) n = 2 → (t.lane x).coll.trapClasses.testBit (sourceClass n) = true) ∧
      t.get x (key (0x1410 + n) 3) = s.get x (key (0x1410 + n) 3) + 1 ∧
      (CanRecord (s.lane x) → Queues s t x 0x0010 (reactionData
        ⟨n, s.sourceLevel (.lane x) n, s.sourceLevel (.lane x) n, false, false, d⟩ false (s.lane x).time64)) ∧
      (t.lane x).mode = (s.lane x).mode ∧ (t.lane x).port1 = (s.lane x).port1 ∧ (t.lane x).field = (s.lane x).field ∧
      t.lane x.peer = s.lane x.peer ∧ t.mreg = s.mreg) ∧
  (∀ (s : State) (x : LaneId) (n d : Nat), Canon s → s.collects (.lane x) = true → sourceIn (.lane x) n = true →
    (s.lane x).coll.inFault.testBit n = false → (s.lane x).coll.classLevel (sourceClass n) = 0 →
    s.sourceLevel (.lane x) n = 4 →
    Leads (.faultReaction (.lane x) [⟨n, false, d⟩]) s fun t =>
      (t.lane x).mode = .inReset ∧ t.get x 0x140B01 = 1 ∧ t.get x 0x140B02 = n ∧
      (t.lane x.peer).mode = (s.lane x.peer).mode) ∧
  (∀ (s : State) (x : LaneId) (n d : Nat), Canon s → s.collects (.lane x) = true → sourceIn (.lane x) n = true →
    (s.lane x).coll.inFault.testBit n = false → (s.lane x).coll.classLevel (sourceClass n) = 0 →
    s.sourceLevel (.lane x) n = 5 →
    Leads (.faultReaction (.lane x) [⟨n, false, d⟩]) s fun t =>
      (t.lane x).mode = .stopped ∧ t.get x 0x140B01 = 2 ∧ t.get x 0x140B02 = n ∧
      (t.lane x.peer).mode = (s.lane x.peer).mode) ∧
  (∀ own ceil : Nat, decideLevel 0 own ceil = own) ∧
  (∀ cl own ceil : Nat, 1 ≤ cl → own ≤ ceil → own ≤ decideLevel cl own ceil ∧ decideLevel cl own ceil ≤ ceil ∧
    (cl < ceil → cl + 1 ≤ decideLevel cl own ceil)) ∧
  (∀ (s : State) (c : CollectorId) (n : Nat), sourceIn c n = true → s.collects c = true → n ≠ 83 → n ≠ 97 →
    (n = 132 → s.arb.running = true) → exec (.sourceLeavesFault c n) s = .next (s.lower c n)) ∧
  (∀ s : State, s.arb.running = false → exec (.sourceLeavesFault .module 132) s = .next s) ∧
  (∀ (s : State) (x : LaneId), s.collects (.lane x) = true →
    exec (.sourceLeavesFault (.lane x) 97) s = .next ((s.lower (.lane x) 97).upd x (fun l => { l with
      poss := { l.poss with pairBroken := false } }))) ∧
  (∀ (s : State) (x : LaneId), Canon s → s.collects (.lane x) = true →
    Leads (.sourceLeavesFault (.lane x) 83) s fun t =>
      (t.lane x).coll.inFault.testBit 83 = false ∧ (∀ n, n < 24 → (t.lane x).pinBit n 11 = false) ∧
      t.lane x.peer = s.lane x.peer) ∧
  (∀ (s : State) (c : CollectorId) (n : Nat),
    ((s.lower c n).collector c).inFault.testBit (sourceBit c n) = false)

/-- A block reset that ends runs no longer; one that does not run changes nothing; the arbiter's end restarts the arbiter,
and a field side's lets it take the run command. An acknowledgement by an Operator takes the named classes' levels,
injected marks and ineligibility away, leaves the sources as they are, and is recorded; a fault that enters in its
collector cycle keeps its own level; reserved bits are refused. An injection by a Maintainer into a source that is not
armed sets its injected bit and, if it has a level and is not in fault, its class's injected mark, and changes no mode
and no real fault; a source of another collector is refused. A full-reaction test is armed where it may be and refused
where not, and lapses (R412, R418, R420, R422, R424). Where the manual leaves a corner open, the model's choice: log
entries 21, 22 and 58. -/
def Obligations.FaultCommands : Prop :=
  (∀ (s : State) (c : CollectorId) (n : Nat), n ∉ (s.collector c).resets →
    exec (.blockResetDone c n) s = .next s) ∧
  (∀ (s : State) (x : LaneId) (n : Nat), n ∈ (s.lane x).coll.resets →
    (sourceRow n).map Source.block ≠ some .domain → (sourceRow n).map Source.block ≠ some .fieldSide →
    exec (.blockResetDone (.lane x) n) s = .next (s.upd x (fun l => { l with
      coll := { l.coll with resets := l.coll.resets.filter (· ≠ n) } }))) ∧
  (∀ (s : State) (x : LaneId), 80 ∈ (s.lane x).coll.resets →
    Leads (.blockResetDone (.lane x) 80) s fun t =>
      80 ∉ (t.lane x).coll.resets ∧ (t.lane x).field.barred = false ∧ t.lane x.peer = s.lane x.peer) ∧
  (∀ (s : State), 132 ∈ s.coll.resets → s.awake = true →
    Leads (.blockResetDone .module 132) s fun t =>
      132 ∉ t.coll.resets ∧ t.arb.running = true ∧ t.arb.waiting = true ∧ t.arb.holder = none) ∧
  (∀ (s : State) (a : Sys2Proof.Acc) (x : LaneId) (v : BitVec 16), Canon s → Reaches s a 1 x → v.toNat < 8192 →
    Leads (.acknowledge a false v) s fun t =>
      (∀ k, v.toNat.testBit k = true → (t.lane x).coll.classLevel k = 0 ∧ (t.lane x).coll.injUnack.testBit k = false ∧
        (t.lane x).coll.highClasses.testBit k = false) ∧
      (∀ k, v.toNat.testBit k = false → (t.lane x).coll.classLevel k = (s.lane x).coll.classLevel k) ∧
      (t.lane x).coll.inFault = (s.lane x).coll.inFault ∧ (t.lane x).coll.sticky = (s.lane x).coll.sticky ∧
      (CanRecord (s.lane x) → Queues s t x 0x0011 (toBytes 2 v.toNat ++ [0])) ∧
      t.lane x.peer = s.lane x.peer ∧ t.ans = ⟨0, 0, []⟩) ∧
  (∀ (s : State) (a : Sys2Proof.Acc) (x : LaneId) (v : BitVec 16) (n d : Nat), Canon s → Reaches s a 1 x → v.toNat < 8192 →
    s.collects (.lane x) = true → sourceIn (.lane x) n = true → (s.lane x).coll.inFault.testBit n = false →
    (s.lane x).coll.classLevel (sourceClass n) = 0 → 1 ≤ s.sourceLevel (.lane x) n → s.sourceLevel (.lane x) n ≤ 2 →
    Leads (.acknowledge a false v [⟨n, false, d⟩]) s fun t =>
      (t.lane x).coll.inFault.testBit n = true ∧
      (t.lane x).coll.classLevel (sourceClass n) = s.sourceLevel (.lane x) n ∧
      (∀ k, k ≠ sourceClass n → v.toNat.testBit k = true → (t.lane x).coll.classLevel k = 0) ∧
      (t.lane x).mode = (s.lane x).mode ∧ t.lane x.peer = s.lane x.peer ∧ t.ans = ⟨0, 0, []⟩) ∧
  (∀ (s : State) (a : Sys2Proof.Acc) (v : BitVec 16), ReachesModule s a 1 → v.toNat < 8192 →
    exec (.acknowledge a true v) s = .next ((({ s with coll := s.coll.acknowledge v.toNat }).recordBoth 0x0011
      (toBytes 2 v.toNat ++ [1])).answer 0)) ∧
  (∀ (s : State) (a : Sys2Proof.Acc) (x : LaneId) (v : BitVec 16), Reaches s a 1 x → 8192 ≤ v.toNat →
    exec (.acknowledge a false v) s = .next (s.abort 0x01000005)) ∧
  (∀ (s : State) (a : Sys2Proof.Acc) (x : LaneId) (n : Byte), Reaches s a 2 x →
    sourceIn (.lane x) n.toNat = true → (s.lane x).coll.armed ≠ some n.toNat →
    Leads (.inject a false n) s fun t =>
      (t.lane x).coll.injected.testBit n.toNat = true ∧ (t.lane x).coll.inFault = (s.lane x).coll.inFault ∧
      (t.lane x).coll.sticky = (s.lane x).coll.sticky ∧ (t.lane x).coll.level = (s.lane x).coll.level ∧
      ((s.lane x).coll.inFault.testBit n.toNat = false → 1 ≤ s.sourceLevel (.lane x) n.toNat →
        (t.lane x).coll.injUnack.testBit (sourceClass n.toNat) = true) ∧
      (t.lane x).mode = (s.lane x).mode ∧ t.lane x.peer = s.lane x.peer ∧ t.ans = ⟨0, 0, []⟩) ∧
  (∀ (s : State) (a : Sys2Proof.Acc) (x : LaneId) (n : Byte), Reaches s a 2 x → sourceIn (.lane x) n.toNat = false →
    exec (.inject a false n) s = .next (s.abort 0x01000005)) ∧
  (∀ (s : State) (a : Sys2Proof.Acc) (n : Byte), ReachesModule s a 2 → sourceIn .module n.toNat = true →
    s.coll.inFault.testBit (n.toNat - 128) = true →
    exec (.inject a true n) s = .next (({ s with coll := { s.coll with
      injected := withBit s.coll.injected (n.toNat - 128) true
      armed := if s.coll.armed = some n.toNat then none else s.coll.armed } }).answer 0)) ∧
  (∀ (s : State) (a : Sys2Proof.Acc) (x : LaneId) (n : Byte), Reaches s a 2 x → sourceIn (.lane x) n.toNat = true →
    s.mayArm (.lane x) n.toNat = true →
    exec (.fullReactionArm a false n) s = .next ((s.upd x (fun l => { l with
      coll := { l.coll with armed := some n.toNat } })).answer 0)) ∧
  (∀ (s : State) (a : Sys2Proof.Acc) (x : LaneId) (n : Byte), Reaches s a 2 x → s.mayArm (.lane x) n.toNat = false →
    exec (.fullReactionArm a false n) s = .next (s.refuse a 0x140A 1)) ∧
  (∀ (s : State) (a : Sys2Proof.Acc) (n : Byte), ReachesModule s a 2 → sourceIn .module n.toNat = true →
    s.mayArm .module n.toNat = true →
    exec (.fullReactionArm a true n) s = .next ({ s with coll := { s.coll with armed := some n.toNat } }.answer 0)) ∧
  (∀ (s : State) (c : CollectorId), exec (.fullReactionArmLapse c) s =
    .next (s.updColl c (fun k => { k with armed := none })))

/-- A queued event takes the next slot and the next number, with the tags and the hold-up flag of the moment at which it is
written; a slot that fails twice is bad, counted, and leaves the event waiting; the record in slot 131,070 closes the log
with event 0062h and source 105, or, where that event cannot be verified, fails the memory with cause 4. An event that
finds the queue full is counted as lost with its code, in every copy of the control block; one that could be recorded is
not. The memory fails once, of a cause from 1 to 4: source 104, and event 0061h alone in the final-record block (R427,
R433, R436, R437, R439, R440). The three copies of the control block take the counters' values, one after the other; two
that pass their check and agree are the vote. A clear that a Maintainer orders marks itself and who ordered it; it is
refused while one runs, and for another value than 1. Its end leaves one record, of itself, in an empty log, no events
lost, no failure, and neither source 104 nor 105. A time tag restore makes the tags valid, rewrites the control block and
lowers source 106; with valid tags it is refused (R430, R431, R438, R480). Where the manual leaves a corner open, the
model's choice: log entry 28. -/
def Obligations.Recorder : Prop :=
  (∀ (s : State) (x : LaneId) (a b c : Bool) (later : List Bool) (q : Queued) (rest : List Queued), Canon s →
    a = true ∨ b = true → CanRecord (s.lane x) → (s.lane x).log.scanned = true → (s.lane x).log.inClear = false →
    (s.lane x).log.worn.contains (s.lane x).log.slots.length = false → (s.lane x).log.queue = q :: rest →
    (s.lane x).log.slots.length < 131070 → s.get x 0x150200 < 1000000 →
    Leads (.recordWrite x a b c later) s fun t =>
      (t.lane x).log.slots = (s.lane x).log.slots ++ [.record ⟨s.get x 0x150200,
        { q with tags := (s.lane x).log.tagsValid, holdUp := s.keeper.onHoldUp }⟩] ∧
      (t.lane x).log.queue = rest ∧ t.get x 0x150200 = s.get x 0x150200 + 1 ∧
      t.get x 0x150100 = (s.lane x).log.slots.length + 1 ∧ (t.lane x).coll = (s.lane x).coll ∧
      (t.lane x).mode = (s.lane x).mode ∧ t.lane x.peer = s.lane x.peer ∧ t.mreg = s.mreg) ∧
  (∀ (s : State) (x : LaneId) (c : Bool) (later : List Bool) (q : Queued) (rest : List Queued), Canon s →
    CanRecord (s.lane x) → (s.lane x).log.scanned = true → (s.lane x).log.inClear = false →
    (s.lane x).log.worn.contains (s.lane x).log.slots.length = false → (s.lane x).log.queue = q :: rest →
    (s.lane x).log.slots.length < 131070 → (s.lane x).log.lastBad = false → s.get x 0x150A01 < 16 →
    Leads (.recordWrite x false false c later) s fun t =>
      (t.lane x).log.slots = (s.lane x).log.slots ++ [.bad] ∧ (t.lane x).log.queue = q :: rest ∧
      t.get x 0x150A01 = s.get x 0x150A01 + 1 ∧ t.get x 0x150200 = s.get x 0x150200 ∧
      t.lane x.peer = s.lane x.peer) ∧
  (∀ (s : State) (x : LaneId) (later : List Bool) (q : Queued) (rest : List Queued), CanRecord (s.lane x) →
    (s.lane x).log.scanned = true → (s.lane x).log.inClear = false → (s.lane x).log.worn = [] →
    (s.lane x).log.queue = q :: rest → (s.lane x).log.slots.length = 131070 → Quiet s x 104 → Quiet s x 105 →
    Leads (.recordWrite x true true false later) s fun t =>
      (t.lane x).log.slots.length = 131072 ∧ (t.lane x).log.failed = some 4 ∧
      (t.lane x).coll.inFault.testBit 104 = true ∧ t.lane x.peer = s.lane x.peer) ∧
  (∀ (s : State) (x : LaneId) (later : List Bool) (q : Queued) (rest : List Queued), CanRecord (s.lane x) →
    (s.lane x).log.scanned = true → (s.lane x).log.inClear = false → (s.lane x).log.worn = [] →
    (s.lane x).log.queue = q :: rest → (s.lane x).log.slots.length = 131070 → Quiet s x 105 →
    Leads (.recordWrite x true true true later) s fun t =>
      (t.lane x).log.slots.length = 131072 ∧ (t.lane x).log.full = true ∧
      (∃ r : EventRec, (t.lane x).log.slots.getLast? = some (.record r) ∧ r.event.code = 0x0062) ∧
      (t.lane x).coll.inFault.testBit 105 = true ∧ t.lane x.peer = s.lane x.peer) ∧
  (∀ (s : State) (x : LaneId) (code : BitVec 16), Canon s → (s.lane x).awake = true → (s.lane x).mode ≠ .stopped →
    (s.lane x).log.failed = none → 256 ≤ (s.lane x).log.queue.length → s.get x 0x150300 < 1000 →
    (s.lane x).log.full = false → (s.lane x).recorderResets = false →
    Leads (.eventLost x code) s fun t =>
      t.get x 0x150300 = s.get x 0x150300 + 1 ∧ t.get x 0x150301 = code.toNat ∧
      (t.lane x).log = { (s.lane x).log with
        overflow := true, ctl := (s.lane x).log.ctl.map (fun c => { c with lost := s.get x 0x150300 + 1 }) } ∧
      t.lane x.peer = s.lane x.peer) ∧
  (∀ (s : State) (x : LaneId) (code : BitVec 16), CanRecord (s.lane x) → exec (.eventLost x code) s = .next s) ∧
  (∀ (s : State) (x : LaneId) (cause : Byte), Canon s → 1 ≤ cause.toNat → cause.toNat ≤ 4 →
    (s.lane x).log.failed = none → (s.lane x).awake = true → (s.lane x).mode ≠ .stopped → Quiet s x 104 →
    (s.lane x).log.finals = [] → (s.lane x).log.tagsValid = true →
    Leads (.recorderMemoryFailed x cause) s fun t =>
      (t.lane x).log.failed = some cause.toNat ∧ (t.lane x).coll.inFault.testBit 104 = true ∧
      (∃ r : EventRec, (t.lane x).log.finals = [r] ∧ r.event.code = 0x0061) ∧
      (cause ≠ 4 ∨ (s.lane x).log.slots.length ≠ 131072 → (t.lane x).log.slots = (s.lane x).log.slots) ∧
      t.lane x.peer = s.lane x.peer) ∧
  (∀ (s : State) (x : LaneId) (cause : Byte), (s.lane x).log.failed.isSome = true →
    exec (.recorderMemoryFailed x cause) s = .next s) ∧
  (∀ (s : State) (x : LaneId) (cause : Byte), 4 < cause.toNat → exec (.recorderMemoryFailed x cause) s = .next s) ∧
  (∀ (s : State) (x : LaneId), (s.lane x).awake = true →
    exec (.controlBlockRewrite x) s = .next (s.upd x (fun l => { l with log := { l.log with
      ctl := List.replicate 3 ⟨l.log.opNs / 1000000, l.log.cycles, l.get 0x150200, l.get 0x150300, true⟩ } }))) ∧
  (∀ (s : State) (x : LaneId) (k : Fin 3), (s.lane x).awake = true →
    exec (.controlBlockRewrite x (some k)) s = .next (s.upd x (fun l => l.cutRewrite k.val))) ∧
  (∀ (l : LaneState) (k j : Nat) (c : CtlCopy), j < 3 → l.log.ctl[j]? = some c →
    (l.cutRewrite k).log.ctl[j]? =
      some (if j < k then l.ctlNow else if j = k then { l.ctlNow with ok := false } else c)) ∧
  (∀ (r : Sys2Proof.Machine.Recorder) (a b c : CtlCopy), r.ctl = [a, b, c] → a.ok = true → b = a → r.vote = some a) ∧
  (∀ (s : State) (a : Sys2Proof.Acc) (x : LaneId), Reaches s a 2 x → (s.lane x).log.shutdown = false →
    (s.lane x).log.inClear = false →
    Leads (.clear a 1) s fun t =>
      (t.lane x).log.clearing = true ∧ (t.lane x).log.clearMark = true ∧ (t.lane x).log.slots = (s.lane x).log.slots ∧
      (t.lane x).log.clearBy = (s.role a.path, pathCode a.path) ∧ t.ans = ⟨0, 0, []⟩ ∧ t.lane x.peer = s.lane x.peer ∧
      (t.lane x).reg = (s.lane x).reg) ∧
  (∀ (s : State) (a : Sys2Proof.Acc) (x : LaneId) (v : Byte), Reaches s a 2 x → (s.lane x).log.clearing = true →
    exec (.clear a v) s = .next (s.refuse a 0x1506 0)) ∧
  (∀ (s : State) (a : Sys2Proof.Acc) (x : LaneId) (v : Byte), Reaches s a 2 x → (s.lane x).log.shutdown = false →
    (s.lane x).log.inClear = false → v.toNat ≠ 1 → exec (.clear a v) s = .next (s.abort 0x01000005)) ∧
  (∀ (s : State) (x : LaneId), Canon s → (s.lane x).log.clearing = true → (s.lane x).ready = true →
    s.get x 0x150200 < 1000000 →
    Leads (.clearDone x [] true) s fun t =>
      (∃ q : Queued, (t.lane x).log.slots = [.record ⟨s.get x 0x150200, q⟩] ∧ q.code = 0x0063) ∧
      t.get x 0x150200 = s.get x 0x150200 + 1 ∧ t.get x 0x150100 = 1 ∧ t.get x 0x150300 = 0 ∧
      (t.lane x).log.inClear = false ∧ (t.lane x).log.failed = none ∧ (t.lane x).log.queue = (s.lane x).log.queue ∧
      (t.lane x).coll.inFault.testBit 104 = false ∧ (t.lane x).coll.inFault.testBit 105 = false ∧
      t.lane x.peer = s.lane x.peer) ∧
  (∀ (s : State) (a : Sys2Proof.Acc) (x : LaneId), Reaches s a 2 x → (s.lane x).log.tagsValid = false →
    Leads (.timeTagRestore a 1) s fun t =>
      (t.lane x).log.tagsValid = true ∧ (∀ c ∈ (t.lane x).log.ctl, c.ok = true ∧
        c.ms = (s.lane x).log.opNs / 1000000 ∧ c.cycles = (s.lane x).log.cycles ∧ c.seq = s.get x 0x150200) ∧
      (t.lane x).coll.inFault.testBit 106 = false ∧
      t.ans = ⟨0, 0, []⟩ ∧ t.lane x.peer = s.lane x.peer) ∧
  (∀ (s : State) (a : Sys2Proof.Acc) (x : LaneId) (v : Byte), Reaches s a 2 x → (s.lane x).log.tagsValid = true →
    exec (.timeTagRestore a v) s = .next (s.refuse a 0x1509 0))

/-! ### Ageing (chapter 15) -/

/-- A re-plan that is not due does nothing; one that must wait is marked deferred, and nothing else changes; one that runs
sets the core voltage within its bounds, dates and counts itself, adds to the history of at most 90, and is due no
longer. The daily one becomes due where none is. A Maintainer's command makes one due now, and is refused while one must
wait. A deferred one starts when nothing makes it wait (R446, R447, R449, R450, R464). Where the manual leaves a corner
open, the model's choice: log entry 30. -/
def Obligations.RePlan : Prop :=
  (∀ (s : State) (x : LaneId) (p : PlanInputs), (s.lane x).plan.due = none → exec (.rePlan x p) s = .next s) ∧
  (∀ (s : State) (x : LaneId) (p : PlanInputs), Canon s → (s.lane x).plan.due.isSome = true →
    (s.lane x).ready = true → bitAt (s.get x 0x130000) 5 = false → (s.lane x).planBlocked = true →
    Leads (.rePlan x p) s fun t =>
      bitAt (t.get x 0x130000) 5 = true ∧ (t.lane x).plan = (s.lane x).plan ∧ t.lane x.peer = s.lane x.peer ∧
      (∀ k, k ≠ 0x130000 → t.get x k = s.get x k)) ∧
  (∀ (s : State) (x : LaneId) (p : PlanInputs), Canon s → (s.lane x).plan.due.isSome = true →
    (s.lane x).ready = true → bitAt (s.get x 0x130000) 5 = false → (s.lane x).planBlocked = false →
    Quiet s x 107 → Quiet s x 108 → Quiet s x 109 → s.get x 0x130300 < 1000 →
    Leads (.rePlan x p) s fun t =>
      (t.lane x).plan.due = none ∧
      (t.lane x).plan.history.length = min 90 ((s.lane x).plan.history.length + 1) ∧
      bitAt (t.get x 0x130000) 0 = true ∧ t.get x 0x130300 = s.get x 0x130300 + 1 ∧
      t.get x 0x130100 = (s.lane x).log.opNs / 1000000 % 2 ^ 64 ∧
      t.get x 0x131003 =
        clampNat ((p.vreq + 24) / 5 * 5) (s.get x 0x131004) (s.get x 0x131005) % 2 ^ 32 ∧
      (t.lane x).mode = (s.lane x).mode ∧ t.lane x.peer = s.lane x.peer ∧ t.mreg = s.mreg) ∧
  (∀ (s : State) (x : LaneId), (s.lane x).ready = true →
    exec (.dailyRePlanDue x) s = .next (s.upd x (fun l => { l with
      plan := { l.plan with due := some (l.plan.due.getD 1) } }.deferPlan))) ∧
  (∀ (s : State) (a : Sys2Proof.Acc) (x : LaneId), Canon s → Reaches s a 2 x → (s.lane x).planBlocked = false →
    Leads (.rePlanNow a 1) s fun t =>
      (t.lane x).plan.due = some 3 ∧ bitAt (t.get x 0x130000) 5 = false ∧ t.ans = ⟨0, 0, []⟩ ∧
      t.lane x.peer = s.lane x.peer) ∧
  (∀ (s : State) (a : Sys2Proof.Acc) (x : LaneId) (v : Byte), Reaches s a 2 x → (s.lane x).planBlocked = true →
    exec (.rePlanNow a v) s = .next (s.refuse a 0x1302 0)) ∧
  (∀ (s : State) (x : LaneId), (s.lane x).planBlocked = true → exec (.deferredRePlanStart x) s = .next s) ∧
  (∀ (s : State) (x : LaneId), (s.lane x).planBlocked = false →
    exec (.deferredRePlanStart x) s =
      .next (s.put x 0x130000 (withBit (s.get x 0x130000) 5 false)))

/-- A guard step raises the core voltage by 10 mV up to the ceiling, counts, and stops there; a core voltage fault raises
source 2. An on-resistance sample at 200 mA or more, and a scrub, are measurements of the margin plan with their
operating time; an uncorrectable error raises source 18, and the interval that waited for the end of a scrub applies. A
minute adds its equivalent hours and shows the temperature, and its readings of the converter are measurements; at 55 °C
it adds a minute; at the limit of row 10 it puts source 108 in fault, and a converter above 125 °C source 3. A bound
within its row's range, written by a Maintainer, is stored beside the other bound; one outside is refused, and so is one
of a row without bounds (R451, R453, R455, R457, R459, R460, R509). Where the manual leaves a corner open, the model's
choice: log entries 10 and 30. -/
def Obligations.AgeingBetweenRePlans : Prop :=
  (∀ (s : State) (x : LaneId), Canon s → (s.lane x).awake = true → (s.lane x).mode ≠ .stopped →
    s.get x 0x131003 < s.get x 0x131005 → s.get x 0x131005 < 2 ^ 32 → s.get x 0x130500 < 1000 →
    Leads (.guardStep x) s fun t =>
      t.get x 0x131003 = min (s.get x 0x131005) (s.get x 0x131003 + 10) ∧
      t.get x 0x130500 = s.get x 0x130500 + 1 ∧ (t.lane x).mode = (s.lane x).mode ∧
      (t.lane x).coll = (s.lane x).coll ∧ t.lane x.peer = s.lane x.peer) ∧
  (∀ (s : State) (x : LaneId), s.get x 0x131005 ≤ s.get x 0x131003 → exec (.guardStep x) s = .next s) ∧
  (∀ (s : State) (x : LaneId), exec (.coreVoltageFault x) s = .next (s.raiseLane x 2)) ∧
  (∀ (s : State) (x : LaneId) (n : Fin 24) (drop mA : Nat), (s.lane x).ready = true →
    ((s.lane x).pin n.val).driver = true → (s.lane x).pinBit n.val 10 = false → 200 ≤ mA →
    exec (.onResistanceMeasure x n drop mA) s = .next (s.upd x (fun l => { l with plan := { l.plan with
      samples := PlanSample.mk (l.log.opNs / 1000000) (17 + n.val) (drop * 1000 / mA) :: l.plan.samples } }))) ∧
  (∀ (s : State) (x : LaneId) (n : Fin 24) (drop mA : Nat), mA < 200 →
    exec (.onResistanceMeasure x n drop mA) s = .next s) ∧
  (∀ (s : State) (x : LaneId) (k : Nat), (s.lane x).ready = true →
    exec (.scrub x k false) s = .next (s.upd x (fun l => { l with plan := { l.plan with
      samples := PlanSample.mk (l.log.opNs / 1000000) 5 k :: l.plan.samples } }.takeInterval))) ∧
  (∀ (s : State) (x : LaneId) (k : Nat), (s.lane x).ready = true →
    exec (.scrub x k true) s = .next ((s.upd x (fun l => { l with plan := { l.plan with
      samples := PlanSample.mk (l.log.opNs / 1000000) 5 k :: l.plan.samples } }.takeInterval)).raiseLane x 18)) ∧
  (∀ (l : LaneState) (v : Nat), Machine.tabCanon regDefault l.reg = true → l.plan.nextScrub = some v →
    v < 2 ^ 32 → l.get 0x131504 ≤ v → v ≤ l.get 0x131505 →
    l.takeInterval.get 0x131503 = v ∧ l.takeInterval.plan.nextScrub = none) ∧
  (∀ (s : State) (x : LaneId) (temp : Int) (r : RiseReading), Canon s → (s.lane x).awake = true → (s.lane x).mode ≠ .stopped →
    (s.lane x).mode ≠ .dead → bitAt (s.get x 0x130000) 0 = false ∨ Quiet s x 108 → r.converter ≤ 1250 →
    Leads (.equivalentHoursTick x temp (some r)) s fun t =>
      (t.lane x).plan.hours = (s.lane x).plan.hours + ageingPerMinute temp ∧ t.get x 0x130600 = ofSigned 32 temp ∧
      t.get x 0x131A01 = ((s.lane x).plan.hours + ageingPerMinute temp) / 1000000 % 2 ^ 32 ∧
      (t.lane x).plan.samples = PlanSample.mk ((s.lane x).log.opNs / 1000000) 10 r.power ::
        PlanSample.mk ((s.lane x).log.opNs / 1000000) 9 (r.converter - r.inlet) :: (s.lane x).plan.samples ∧
      t.lane x.peer = s.lane x.peer) ∧
  (∀ (s : State) (x : LaneId) (temp : Int), Canon s → (s.lane x).awake = true → (s.lane x).mode ≠ .stopped →
    (s.lane x).mode ≠ .dead → bitAt (s.get x 0x130000) 0 = false ∨ Quiet s x 108 →
    Leads (.equivalentHoursTick x temp) s fun t =>
      (t.lane x).plan.hours = (s.lane x).plan.hours + ageingPerMinute temp ∧ t.get x 0x130600 = ofSigned 32 temp ∧
      (t.lane x).plan.samples = (s.lane x).plan.samples ∧ t.lane x.peer = s.lane x.peer) ∧
  (∀ (s : State) (x : LaneId) (temp : Int), Canon s → s.collects (.lane x) = true → (s.lane x).mode ≠ .stopped →
    (s.lane x).mode ≠ .dead → bitAt (s.get x 0x130000) 0 = true → Quiet s x 108 →
    197100 ≤ ((s.lane x).plan.hours + ageingPerMinute temp) / 1000000 →
    ((s.lane x).plan.hours + ageingPerMinute temp) / 1000000 < 2 ^ 31 →
    Leads (.equivalentHoursTick x temp) s fun t => (t.lane x).coll.inFault.testBit 108 = true) ∧
  (∀ (s : State) (x : LaneId) (temp : Int) (r : RiseReading), Canon s → s.collects (.lane x) = true →
    (s.lane x).mode ≠ .stopped → (s.lane x).mode ≠ .dead → bitAt (s.get x 0x130000) 0 = false → 1250 < r.converter →
    Quiet s x 3 → Leads (.equivalentHoursTick x temp (some r)) s fun t => (t.lane x).coll.inFault.testBit 3 = true) ∧
  (16666 ≤ ageingPerMinute 5500 ∧ ageingPerMinute 5500 ≤ 16667) ∧
  (∀ (s : State) (a : Sys2Proof.Acc) (x : LaneId) (row : Fin 11) (up : Bool) (v : BitVec 32), Canon s →
    Reaches s a 2 x → boundRow row.val = true → (s.lane x).boundOk row.val up v.toNat = true → Quiet s x 107 →
    Leads (.planBoundWrite a row up v) s fun t =>
      t.get x (rowKey row.val (if up then 5 else 4)) = v.toNat ∧
      t.get x (rowKey row.val (if up then 4 else 5)) = s.get x (rowKey row.val (if up then 4 else 5)) ∧
      t.ans = ⟨0, 0, []⟩ ∧ (t.lane x).mode = (s.lane x).mode ∧ t.lane x.peer = s.lane x.peer) ∧
  (∀ (s : State) (a : Sys2Proof.Acc) (x : LaneId) (row : Fin 11) (up : Bool) (v : BitVec 32), Reaches s a 2 x →
    boundRow row.val = false → exec (.planBoundWrite a row up v) s = .next (s.abort 0x01000002)) ∧
  (∀ (s : State) (a : Sys2Proof.Acc) (x : LaneId) (row : Fin 11) (up : Bool) (v : BitVec 32), Reaches s a 2 x →
    boundRow row.val = true → (s.lane x).boundOk row.val up v.toNat = false →
    exec (.planBoundWrite a row up v) s = .next (s.abort 0x01000005))

/-! ### Images (chapter 16) -/

/-- A configuration image of good form and signature is refused with "image mismatch" if its node UID or its slot code is
another's, and with "image rollback" if these fit and its counter is below entry 1012h:01h, keys and module registers as
they were; an image whose checks and records pass leaves its counter there at every lane that it reaches (R489, R490). -/
def Obligations.ImageCounterAndNode : Prop :=
  (∀ (s : State) (a : Sys2Proof.Acc) (x : LaneId) (n : BitVec 32) (k : List Byte), Reaches s a 2 x → s.rolling = false →
    1 ≤ n.toNat → n.toNat ≤ 1048576 → cfgHeaderOk (s.sec.staged n.toNat) = true →
    s.sec.cfgKeys.getD (numAt (s.sec.staged n.toNat) 5 1) [] = k → k ≠ [] →
    signatureOk k ((s.sec.staged n.toNat).take ((s.sec.staged n.toNat).length - 64))
      ((s.sec.staged n.toNat).drop ((s.sec.staged n.toNat).length - 64)) = true →
    (numAt (s.sec.staged n.toNat) 8 8 ≠ 0 ∧ numAt (s.sec.staged n.toNat) 8 8 ≠ s.uid) ∨
      (numAt (s.sec.staged n.toNat) 6 1 ≠ 255 ∧ numAt (s.sec.staged n.toNat) 6 1 ≠ s.mget 0x100800) →
    Quiet s .A 27 → Quiet s .B 27 →
    Leads (.applyConfiguration a n) s fun t => t.ans = ⟨0x04000002, 0, []⟩ ∧ t.sec = s.sec ∧ t.mreg = s.mreg) ∧
  (∀ (s : State) (a : Sys2Proof.Acc) (x : LaneId) (n : BitVec 32) (k : List Byte), Reaches s a 2 x → s.rolling = false →
    1 ≤ n.toNat → n.toNat ≤ 1048576 → cfgHeaderOk (s.sec.staged n.toNat) = true →
    s.sec.cfgKeys.getD (numAt (s.sec.staged n.toNat) 5 1) [] = k → k ≠ [] →
    signatureOk k ((s.sec.staged n.toNat).take ((s.sec.staged n.toNat).length - 64))
      ((s.sec.staged n.toNat).drop ((s.sec.staged n.toNat).length - 64)) = true →
    numAt (s.sec.staged n.toNat) 8 8 = 0 ∨ numAt (s.sec.staged n.toNat) 8 8 = s.uid →
    numAt (s.sec.staged n.toNat) 6 1 = 255 ∨ numAt (s.sec.staged n.toNat) 6 1 = s.mget 0x100800 →
    (∀ y ∈ x :: s.imageLanes a.sel, numAt (s.sec.staged n.toNat) 16 4 < s.get y 0x101201) →
    Quiet s .A 27 → Quiet s .B 27 →
    Leads (.applyConfiguration a n) s fun t => t.ans = ⟨0x04000005, 0, []⟩ ∧ t.sec = s.sec ∧ t.mreg = s.mreg) ∧
  (∀ (s : State) (a : Sys2Proof.Acc) (x : LaneId) (n : BitVec 32), Canon s → Reaches s a 2 x → s.rolling = false →
    1 ≤ n.toNat → n.toNat ≤ 1048576 →
    (∀ y ∈ x :: s.imageLanes a.sel, (s.imageOutcome y (s.sec.staged n.toNat)).ans.code = 0) →
    Leads (.applyConfiguration a n) s fun t => s.get x 0x101201 ≤ numAt (s.sec.staged n.toNat) 16 4 ∧
      t.ans = ⟨0, 0, []⟩ ∧ ∀ y ∈ s.imageLanes a.sel, t.get y 0x101201 = numAt (s.sec.staged n.toNat) 16 4)

/-- Two firmware images are compatible when each side's mirror protocol lies in the other's range. A Maintainer's begin
command with another image is refused with "incompatible image" and changes nothing (R493). -/
def Obligations.FirmwareCompatibility : Prop :=
  (∀ (peer : Firmware) (p lo hi : Nat),
    compatible peer p lo hi = true ↔ (peer.peerLow ≤ p ∧ p ≤ peer.peerHigh) ∧ lo ≤ peer.protocol ∧ peer.protocol ≤ hi) ∧
  (∀ (s : State) (a : Sys2Proof.Acc) (x : LaneId) (len : BitVec 32) (p lo hi : Byte), Reaches s a 2 x →
    s.mayUpdate x = true → 128 ≤ len.toNat → len.toNat ≤ 8388608 →
    compatible (s.lane x.peer).running p.toNat lo.toNat hi.toNat = false →
    exec (.beginUpdate a len p lo hi) s = .next (s.abort 0x04000003))

/-! ### The object dictionary and security (chapter 16) -/

/-- A write of an unknown entry, of an entry at a lane that is not available, with too low a role, and of an RO entry, ends
with its code. A source's level takes a value within its bounds and its ceiling, at the lanes that the selector names,
and no other register changes; one above the ceiling is refused as invalid. The interrupt enables take an Operator's
value (R408, R417, R471, R472, R479, R480). That the acting selector without a holder, and a dead lane, end with lane not
available is the model's choice (log 20: DEDUCED). Where the manual leaves a corner open, the model's choice: log entries
19, 20, 23 and 42. -/
def Obligations.RegisterWrite : Prop :=
  (∀ (s : State) (a : Sys2Proof.Acc) (i : BitVec 16) (u : Byte) (v : BitVec 64), lookupRow i.toNat u.toNat = none →
    (a.path = .host → s.hostOn = true) →
    exec (.registerWrite a i u v) s = .next (s.abort 0x01000001)) ∧
  (∀ (s : State) (a : Sys2Proof.Acc) (i : BitVec 16) (u : Byte) (v : BitVec 64) (r : Row),
    lookupRow i.toNat u.toNat = some r → i ≠ 0x1104 → s.reach r a.sel = none →
    (a.path = .host → s.hostOn = true) →
    exec (.registerWrite a i u v) s = .next (s.abort 0x02000002)) ∧
  (∀ (s : State) (a : Sys2Proof.Acc) (i : BitVec 16) (u : Byte) (v : BitVec 64) (r : Row) (x : LaneId),
    lookupRow i.toNat u.toNat = some r → i ≠ 0x1104 → s.reach r a.sel = some x → r.kind ≠ .cmd →
    s.role a.path < r.role → (a.path = .host → s.hostOn = true) →
    exec (.registerWrite a i u v) s = .next (s.abort 0x01000004)) ∧
  (∀ (s : State) (a : Sys2Proof.Acc) (i : BitVec 16) (u : Byte) (v : BitVec 64) (r : Row) (x : LaneId),
    lookupRow i.toNat u.toNat = some r → i ≠ 0x1104 → s.reach r a.sel = some x → r.kind = .ro →
    r.role ≤ s.role a.path → (a.path = .host → s.hostOn = true) →
    exec (.registerWrite a i u v) s = .next (s.abort 0x01000002)) ∧
  (∀ (s : State) (a : Sys2Proof.Acc) (x : LaneId) (n : Nat) (r : Source) (v : BitVec 64), Canon s → Reaches s a 2 x →
    (a.sel = .acting → (s.lane x).reached = true) → n < 128 → sourceRow n = some r → r.lo ≤ v.toNat → v.toNat ≤ r.hi → v.toNat ≤ 5 →
    v.toNat ≤ s.sourceCeiling (.lane x) n →
    Leads (.registerWrite a (BitVec.ofNat 16 (0x1410 + n)) 1 v) s fun t =>
      t.sourceLevel (.lane x) n = v.toNat ∧ t.ans = ⟨0, 0, []⟩ ∧
      (∀ k, k ≠ key (0x1410 + n) 1 → t.get x k = s.get x k ∧ t.get x.peer k = s.get x.peer k) ∧
      (a.sel = .lane x → t.lane x.peer = s.lane x.peer)) ∧
  (∀ (s : State) (a : Sys2Proof.Acc) (x : LaneId) (n : Nat) (v : BitVec 64), Reaches s a 2 x → n < 128 →
    (sourceRow n).isSome = true → v.toNat < 256 → s.sourceCeiling (.lane x) n < v.toNat →
    exec (.registerWrite a (BitVec.ofNat 16 (0x1410 + n)) 1 v) s = .next (s.abort 0x01000005)) ∧
  (∀ (s : State) (a : Sys2Proof.Acc) (v : BitVec 64), ReachesModule s a 1 → v.toNat < 1024 →
    exec (.registerWrite a 0x5900 4 v) s = .next ((s.mput 0x590004 v.toNat).answer 0))

/-- Restoring defaults is only marked as pending; another value than 1 is refused. A Maintainer's chunk of an image goes to
its offset; one longer than 65,536 bytes is refused. An image is refused while a Roll runs; one whose check fails changes
no key, no module register, no mode, and of the lanes' registers only what counts lost events, records and the reaction
of source 27, which is then in fault where that resets nothing; one that passes at each lane it reaches sets its label
and counter and lowers source 27. A bad form, a missing key and a low counter fail the check (R475, R484, R485, R488,
R489, R490, R491). That source 27 enters fault at the lanes that refuse an image and leaves it at those that apply one is
the model's choice (log 55: DEDUCED). Where the manual leaves a corner open, the model's choice: log entries 23, 41 and
55. -/
def Obligations.Configuration : Prop :=
  (∀ (s : State) (a : Sys2Proof.Acc) (x : LaneId), Canon s → Reaches s a 2 x →
    Leads (.restoreDefaults a 1) s fun t =>
      bitAt (t.get x 0x101002) 1 = true ∧ t.ans = ⟨0, 0, []⟩ ∧ (∀ k, k ≠ 0x101002 → t.get x k = s.get x k) ∧
      t.mreg = s.mreg) ∧
  (∀ (s : State) (a : Sys2Proof.Acc) (x : LaneId) (v : Byte), Reaches s a 2 x → v.toNat ≠ 1 →
    exec (.restoreDefaults a v) s = .next (s.abort 0x01000005)) ∧
  (∀ (s : State) (a : Sys2Proof.Acc) (x : LaneId) (d : List Byte), Reaches s a 2 x → d.length ≤ 65536 →
    s.get x 0x163001 + d.length ≤ 1048576 →
    exec (.imageChunk a d) s = .next ({ s with sec := { s.sec with
      image := tabSetAll (fun _ => 0) (s.get x 0x163001) d s.sec.image } }.answer 0)) ∧
  (∀ (s : State) (a : Sys2Proof.Acc) (x : LaneId) (d : List Byte), Reaches s a 2 x → 65536 < d.length →
    exec (.imageChunk a d) s = .next (s.abort 0x01000006)) ∧
  (∀ (s : State) (a : Sys2Proof.Acc) (x : LaneId) (n : BitVec 32), Reaches s a 2 x → s.rolling = true →
    exec (.applyConfiguration a n) s = .next (s.refuse a 0x1631 0)) ∧
  (∀ (s : State) (a : Sys2Proof.Acc) (x : LaneId) (n : BitVec 32), Canon s → Reaches s a 2 x → s.rolling = false →
    1 ≤ n.toNat → n.toNat ≤ 1048576 → s.imageCheck x (s.sec.staged n.toNat) ≠ 0 →
    (∀ y ∈ s.imageLanes a.sel, (s.imageOutcome y (s.sec.staged n.toNat)).ans.code ≠ 0) →
    (∀ y ∈ s.imageLanes a.sel, (s.imageOutcome y (s.sec.staged n.toNat)).ans.code ≠ 0x02000001) →
    Quiet s .A 27 → Quiet s .B 27 →
    Leads (.applyConfiguration a n) s fun t =>
      t.ans = ⟨s.imageCheck x (s.sec.staged n.toNat), 0, []⟩ ∧ t.sec = s.sec ∧ t.mreg = s.mreg ∧
      (∀ y, (t.lane y).mode = (s.lane y).mode ∧ (t.lane y).field = (s.lane y).field ∧ (t.lane y).flow = (s.lane y).flow ∧
        ∀ k, k ≠ 0x150300 → k ≠ 0x150301 → k ≠ 0x150C02 → k ≠ 0x142B03 → t.get y k = s.get y k) ∧
      (∀ y ∈ s.imageLanes a.sel, s.collects (.lane y) = true → (t.lane y).coll.inFault.testBit 27 = true)) ∧
  (∀ (s : State) (a : Sys2Proof.Acc) (x : LaneId) (n : BitVec 32), Canon s → Reaches s a 2 x → s.rolling = false →
    1 ≤ n.toNat → n.toNat ≤ 1048576 →
    (∀ y ∈ x :: s.imageLanes a.sel, (s.imageOutcome y (s.sec.staged n.toNat)).ans.code = 0) →
    Leads (.applyConfiguration a n) s fun t =>
      t.ans = ⟨0, 0, []⟩ ∧ t.sec.label = slice (s.sec.staged n.toNat) 32 16 ∧
      (∀ y ∈ s.imageLanes a.sel, t.get y 0x101201 = numAt (s.sec.staged n.toNat) 16 4 % 2 ^ 32 ∧
        (t.lane y).coll.inFault.testBit 27 = false)) ∧
  (∀ (s : State) (x : LaneId) (img : List Byte), cfgHeaderOk img = false → s.imageCheck x img = 0x04000004) ∧
  (∀ (s : State) (x : LaneId) (img : List Byte), cfgHeaderOk img = true →
    s.sec.cfgKeys.getD (numAt img 5 1) [] = [] → s.imageCheck x img = 0x04000001) ∧
  (∀ (s : State) (x : LaneId) (img : List Byte), s.imageCheck x img = 0 → s.get x 0x101201 ≤ numAt img 16 4)

/-- Outside a lockout a challenge on the host link is a fresh value, and inside one it is refused. A proof, which takes an
Operator at least (R467), under the role's key opens the session, answers with the module's own proof, and uses the
challenge up; another fails and counts, the fifth within 60 s locks the path, and a long one is refused. The host link
grants no role above Maintainer. Lockouts and challenges end on both paths. A key, of 16 bytes or none, needs the role of
its slot, and no less. The host link session ends on command and by expiry (R481, R482, R483, R500). Where the manual
leaves a corner open, the model's choice: log entries 6, 11 and 40. -/
def Obligations.HostAuthentication : Prop :=
  (∀ (s : State) (sel : Sel), s.hostOn = true → s.awake = true → s.sec.hostLocked = false →
    Leads (.challenge ⟨.host, sel⟩) s fun t =>
      ∃ n, t = { s with
        fresh := s.fresh + 1, sec := { s.sec with challenge := some n }, ans := ⟨0, 16, toBytes 16 n⟩ }) ∧
  (∀ (s : State) (sel : Sel), s.hostOn = true → s.awake = true → s.sec.hostLocked = true →
    exec (.challenge ⟨.host, sel⟩) s = .next (s.abort 0x04000006)) ∧
  (∀ (s : State) (sel : Sel) (d k : List Byte) (n : Nat), s.hostOn = true → s.awake = true →
    s.sec.hostLocked = false → 1 ≤ s.role .host → d.length = 33 →
    s.sec.challenge = some n → s.sec.keyFor false (numAt d 0 1) = some k →
    (hmac128 k (proofText (toBytes 16 n) (slice d 1 16) s.uid (numAt d 0 1))).toNat = numAt d 17 16 →
    Leads (.response ⟨.host, sel⟩ d) s fun t =>
      t.sec.hostRole = some (numAt d 0 1) ∧ t.sec.challenge = none ∧ t.ans = ⟨0, 0, []⟩ ∧
      t.sec.proof = (hmac128 k (proofText (slice d 1 16) (toBytes 16 n) s.uid (numAt d 0 1))).toNat ∧
      t.sec.hostFails = s.sec.hostFails ∧ t = { s with sec := t.sec, ans := t.ans }) ∧
  (∀ (s : State) (sel : Sel) (d k : List Byte) (n : Nat), Canon s → s.hostOn = true → s.awake = true →
    s.sec.hostLocked = false → 1 ≤ s.role .host → d.length = 33 →
    s.sec.challenge = some n → s.sec.keyFor false (numAt d 0 1) = some k → s.mget 0x160200 < 1000 →
    (hmac128 k (proofText (toBytes 16 n) (slice d 1 16) s.uid (numAt d 0 1))).toNat ≠ numAt d 17 16 →
    Leads (.response ⟨.host, sel⟩ d) s fun t =>
      t.ans = ⟨0x04000006, 0, []⟩ ∧ t.sec.hostRole = s.sec.hostRole ∧ t.sec.challenge = none ∧
      t.mget 0x160200 = s.mget 0x160200 + 1 ∧
      (4 ≤ (recentFails s.clock s.sec.hostFails).length → t.sec.hostLocked = true) ∧
      ((recentFails s.clock s.sec.hostFails).length < 4 → t.sec.hostLocked = false)) ∧
  (∀ (s : State) (sel : Sel) (d : List Byte), s.hostOn = true → s.awake = true → 1 ≤ s.role .host →
    d.length = 33 → s.sec.hostLocked = true →
    exec (.response ⟨.host, sel⟩ d) s = .next (s.abort 0x04000006)) ∧
  (∀ (s : State) (sel : Sel) (d : List Byte), s.hostOn = true → s.awake = true → 1 ≤ s.role .host →
    33 < d.length → exec (.response ⟨.host, sel⟩ d) s = .next (s.abort 0x01000006)) ∧
  (∀ (s : State) (sel : Sel) (d : List Byte), s.hostOn = true → s.awake = true → s.role .host = 0 →
    exec (.response ⟨.host, sel⟩ d) s = .next (s.abort 0x01000004)) ∧
  (∀ (k : Security) (r : Nat), 3 ≤ r → k.keyFor false r = none) ∧
  (∀ s : State, exec (.authenticationLockoutEnd .host) s =
    .next { s with sec := { s.sec with hostLocked := false } }) ∧
  (∀ (s : State) (n : Fin 4), exec (.authenticationLockoutEnd (.service n)) s =
    .next { s with sec := { s.sec with serviceLocked := false } }) ∧
  (∀ s : State, exec (.challengeExpiry .host) s = .next { s with sec := { s.sec with challenge := none } }) ∧
  (∀ (s : State) (n : Fin 4), exec (.challengeExpiry (.service n)) s = .next { s with sec := { s.sec with
    sessions := s.sec.sessions.modify n.val (fun k => { k with challenge := none }) } }) ∧
  (∀ (s : State) (a : Sys2Proof.Acc) (n : Fin 3) (k : List Byte), ReachesModule s a (n.val + 1) →
    k.length = 16 ∨ k = [] →
    Leads (.roleKey a n k) s fun t =>
      t.sec.roleKeys = s.sec.roleKeys.set n.val k ∧ t.sec.cfgKeys = s.sec.cfgKeys ∧ t.ans = ⟨0, 0, []⟩ ∧
      t = { s with sec := t.sec, ans := t.ans }) ∧
  (∀ (s : State) (a : Sys2Proof.Acc) (n : Fin 3) (k : List Byte), s.awake = true → s.role a.path ≤ n.val →
    (a.path = .host → s.hostOn = true) →
    exec (.roleKey a n k) s = .next (s.abort 0x01000004)) ∧
  (∀ (s : State) (a : Sys2Proof.Acc), ReachesModule s a 0 →
    exec (.endHostLinkSession a 1) s = .next ({ s with sec := { s.sec with hostRole := none } }.answer 0)) ∧
  (∀ s : State, exec .hostLinkSessionExpiry s = .next { s with sec := { s.sec with hostRole := none } })

/-! ### Messages (chapter 08) -/

/-- A session started by an Operator on its own path opens the next transaction, its first attempt, with the operation and
object that its entries name; an open session and another path are refused, and a session of a remote window is read
only. A malformed response counts. A response to an open transaction ends its session: with its status if that is not 0,
completed for an operation that reads nothing, and completed with its data for a read that one segment answers. A timeout
does nothing without an open transaction, makes the next attempt while retries remain, and else ends the session with "no
response" (R246, R248, R250, R254, R257, R260, R271). Where the manual leaves a corner open, the model's choice: log
entry 38. -/
def Obligations.RequesterSessions : Prop :=
  (∀ (s : State) (a : Sys2Proof.Acc) (x : LaneId) (n : Fin 128), Canon s → Reaches s a 1 x → 16 ≤ n.val →
    sessionPath n.val a.path = true → (s.session n.val).isOpen = false →
    Leads (.sessionStart a n 1) s fun t =>
      (t.session n.val).transaction = ((s.session n.val).transaction + 1) % 2 ^ 32 ∧
      (t.session n.val).attempt = 0 ∧ (t.session n.val).op = s.get x (sesKey n.val 6) ∧
      (t.session n.val).object = s.get x (sesKey n.val 7) ∧ t.ans = ⟨0, 0, []⟩ ∧
      (∀ y, (t.lane y).mode = (s.lane y).mode) ∧ t.mreg = s.mreg) ∧
  (∀ (s : State) (a : Sys2Proof.Acc) (x : LaneId) (n : Fin 128) (v : Byte), Reaches s a 1 x → 16 ≤ n.val →
    (s.session n.val).isOpen = true → exec (.sessionStart a n v) s = .next (s.refuse a (0x3800 + n.val) 11)) ∧
  (∀ (s : State) (a : Sys2Proof.Acc) (x : LaneId) (n : Fin 128) (v : Byte), Reaches s a 1 x → 16 ≤ n.val →
    sessionPath n.val a.path = false → exec (.sessionStart a n v) s = .next (s.refuse a (0x3800 + n.val) 11)) ∧
  (∀ (s : State) (a : Sys2Proof.Acc) (x : LaneId) (n : Fin 128) (v : Byte), Reaches s a 1 x → n.val < 16 →
    exec (.sessionStart a n v) s = .next (s.abort 0x01000002)) ∧
  (∀ (s : State) (x : LaneId) (m : MsgFrame), (s.lane x).ready = true → msgOk m = false →
    exec (.messageResponse x m) s = .next (s.inc x 0x39F007)) ∧
  (∀ (s : State) (x : LaneId) (m : MsgFrame), Canon s → msgOk m = true → m.kind = 2 →
    s.reachesSession x = true → 16 ≤ m.session.toNat → m.session.toNat < 128 →
    s.answers (s.session m.session.toNat) m = true → m.status ≠ 0 →
    Leads (.messageResponse x m) s fun t =>
      (t.session m.session.toNat).state = 4 ∧
      (∀ y, t.get y (sesKey m.session.toNat 12) = m.status.toNat) ∧ (∀ y, (t.lane y).mode = (s.lane y).mode)) ∧
  (∀ (s : State) (x : LaneId) (m : MsgFrame), Canon s → msgOk m = true → m.kind = 2 →
    s.reachesSession x = true → 16 ≤ m.session.toNat → m.session.toNat < 128 →
    s.answers (s.session m.session.toNat) m = true → m.status = 0 → isReadOp m.op.toNat = false →
    Leads (.messageResponse x m) s fun t =>
      (t.session m.session.toNat).state = 3 ∧
      (∀ y, t.get y (sesKey m.session.toNat 12) = 0)) ∧
  (∀ (s : State) (x : LaneId) (m : MsgFrame), Canon s → msgOk m = true → m.kind = 2 →
    s.reachesSession x = true → 16 ≤ m.session.toNat → m.session.toNat < 128 →
    s.answers (s.session m.session.toNat) m = true → m.status = 0 → isReadOp m.op.toNat = true →
    (s.session m.session.toNat).data = [] → (s.session m.session.toNat).parts = [] → m.offset = 0 →
    m.data ≠ [] → m.length.toNat = m.data.length →
    Leads (.messageResponse x m) s fun t =>
      (t.session m.session.toNat).state = 3 ∧ (t.session m.session.toNat).data = m.data ∧
      (∀ y, t.get y (sesKey m.session.toNat 12) = 0)) ∧
  (∀ (s : State) (n : Fin 128), (s.session n.val).isOpen = false → exec (.sessionTimeout n) s = .next s) ∧
  (∀ (s : State) (n : Fin 128), Canon s → 16 ≤ n.val → (s.session n.val).isOpen = true →
    (s.session n.val).attempt < s.retries n.val →
    Leads (.sessionTimeout n) s fun t =>
      (t.session n.val).attempt = (s.session n.val).attempt + 1 ∧
      (t.session n.val).transaction = (s.session n.val).transaction ∧
      (∀ y, (t.lane y).mode = (s.lane y).mode)) ∧
  (∀ (s : State) (n : Fin 128), Canon s → 16 ≤ n.val → (s.session n.val).isOpen = true →
    s.retries n.val ≤ (s.session n.val).attempt →
    Leads (.sessionTimeout n) s fun t =>
      ((t.lane (s.sessionLane n.val)).session n.val).state = 4 ∧ (∀ y, t.get y (sesKey n.val 12) = 0x03000003))

/-- A lane that does not run takes no request. A request for another node counts as discarded; one by position with another
stamp counts and is answered "topology changed". A write whose transaction has its record is answered from it and not
executed; a request older than the record counts. A write of exchange memory, whole in one frame and with no buffer or
freed transaction of its session, stores its bytes, and no others, and leaves its record (R250, R251, R253, R254, R261).
Where the manual leaves a corner open, the model's choice: log entries 44 and 60. -/
def Obligations.TargetRequests : Prop :=
  (∀ (s : State) (x : LaneId) (m : MsgFrame), (s.lane x).ready = false → exec (.messageRequest x m) s = .next s) ∧
  (∀ (s : State) (x : LaneId) (m : MsgFrame), (s.lane x).ready = true → m.kind = 1 → m.session.toNat < 128 →
    msgOk m = true → bitAt m.selection.toNat 5 = false → m.target.toNat ≠ s.uid →
    exec (.messageRequest x m) s = .next (s.inc x 0x39F007)) ∧
  (∀ (s : State) (x : LaneId) (m : MsgFrame), s.holder = some x → m.kind = 1 → m.session.toNat < 128 →
    msgOk m = true → bitAt m.selection.toNat 5 = true → m.stamp.toNat ≠ (s.lane x).stamp →
    exec (.messageRequest x m) s =
      .next ((s.inc x 0x39F006).answerStatus x (Transfer.ofMsg m) 0x03000002)) ∧
  (∀ (s : State) (x : LaneId) (m : MsgFrame) (r : AnswerRec), s.holder = some x → m.kind = 1 →
    m.session.toNat < 128 → msgOk m = true → bitAt m.selection.toNat 5 = false → m.target.toNat = s.uid →
    isWriteOp m.op.toNat = true →
    (s.lane x).answerRec m.srcUid.toNat m.session.toNat = some r → r.transaction = m.transaction.toNat →
    exec (.messageRequest x m) s =
      .next ((s.inc x 0x39F002).answerStatus x (Transfer.ofMsg m) r.status)) ∧
  (∀ (s : State) (x : LaneId) (m : MsgFrame) (r : AnswerRec), (s.lane x).ready = true → m.kind = 1 →
    m.session.toNat < 128 → msgOk m = true → bitAt m.selection.toNat 5 = false → m.target.toNat = s.uid →
    knownOp m.op.toNat = true →
    (s.lane x).answerRec m.srcUid.toNat m.session.toNat = some r → r.transaction ≠ m.transaction.toNat →
    newer32 m.transaction.toNat r.transaction = false →
    exec (.messageRequest x m) s = .next (s.inc x 0x39F003)) ∧
  (∀ (s : State) (x : LaneId) (m : MsgFrame), Canon s → s.holder = some x → m.kind = 1 → m.session.toNat < 128 →
    msgOk m = true → m.selection = 0 → m.target.toNat = s.uid → m.op = 4 → m.data ≠ [] →
    m.length.toNat = m.data.length → m.object.toNat + m.data.length ≤ 0x100000 →
    (s.lane x).answerRec m.srcUid.toNat m.session.toNat = none → (s.lane x).msg.records.length < 1024 →
    (s.lane x).buffer m.srcUid.toNat m.session.toNat = none →
    (s.lane x).isFreed m.srcUid.toNat m.session.toNat m.transaction.toNat = false → (s.lane x).reached = true →
    Leads (.messageRequest x m) s fun t =>
      (t.lane x).readXmem m.object.toNat m.data.length = m.data ∧
      (∀ k, k < m.object.toNat ∨ m.object.toNat + m.data.length ≤ k →
        tabGet (fun _ => (0 : Byte)) k (t.lane x).xmem = tabGet (fun _ => 0) k (s.lane x).xmem) ∧
      (∃ r, (t.lane x).answerRec m.srcUid.toNat m.session.toNat = some r ∧ r.transaction = m.transaction.toNat ∧
        r.status = 0) ∧
      t.holder = some x ∧ (t.lane x).field = (s.lane x).field)

/-- An acknowledge of a write reaches its session: the acknowledged offset never falls. The last acknowledge of a read frees
its buffer; one without a buffer counts if its transaction's buffer has been freed, and does nothing else. A gap in a
write is acknowledged by the lane in possession, on the service port if its UID is 0, and without a buffer nothing
happens. A write whose segments are all there is executed, and else not yet. A timeout and a cancel free the buffer of
their transaction, and no other; a cancel for a freed one counts. A lock ends with its lease, and no other lock (R257,
R258, R259, R265). A message for this node with no record yet joins the mailbox of the lane in possession, where there is
room and the host takes messages, and its sender's record is kept. The host removes the head, and reads the low word of
its source while the high one is latched; a value above 1 is refused, and without a lane in possession a read is; while
the host link takes no inputs neither does anything (R19, R253, R261, R267, R268). Where the manual leaves a corner open,
the model's choice: log entries 38, 44 and 66. -/
def Obligations.TransfersLocksAndMailbox : Prop :=
  (∀ (s : State) (x : LaneId) (m : MsgFrame), Canon s → (s.lane x).ready = true → m.kind = 3 → msgOk m = true →
    isWriteOp m.op.toNat = true → s.reachesSession x = true → 16 ≤ m.session.toNat → m.session.toNat < 128 →
    s.answers (s.session m.session.toNat) m = true → (s.session m.session.toNat).isNew m = true →
    m.offset.toNat ≤ (s.session m.session.toNat).length →
    Leads (.segmentAck x m) s fun t =>
      (t.session m.session.toNat).acked = max (s.session m.session.toNat).acked m.offset.toNat ∧
      (t.session m.session.toNat).taken = some m.seq.toNat ∧
      (t.session m.session.toNat).transaction = (s.session m.session.toNat).transaction) ∧
  (∀ (s : State) (x : LaneId) (m : MsgFrame) (b : Transfer), (s.lane x).ready = true → m.kind = 3 →
    msgOk m = true → isWriteOp m.op.toNat = false →
    (s.lane x).buffer m.srcUid.toNat m.session.toNat = some b → b.transaction = m.transaction.toNat →
    b.write = false → b.data.length ≤ m.offset.toNat →
    exec (.segmentAck x m) s =
      .next (s.upd x (fun l => l.freeBuffer m.srcUid.toNat m.session.toNat))) ∧
  (∀ (s : State) (x : LaneId) (m : MsgFrame), (s.lane x).ready = true → m.kind = 3 → msgOk m = true →
    isWriteOp m.op.toNat = false → (s.lane x).buffer m.srcUid.toNat m.session.toNat = none →
    exec (.segmentAck x m) s = .next (if (s.lane x).isFreed m.srcUid.toNat m.session.toNat m.transaction.toNat
      then s.inc x 0x39F003 else s)) ∧
  (∀ (s : State) (x : LaneId) (u : BitVec 64) (n : BitVec 16) (b : Transfer), s.holder = some x → u ≠ 0 →
    u.toNat ≠ s.uid → (s.lane x).buffer u.toNat n.toNat = some b → b.write = true → b.parts ≠ [] →
    exec (.segmentGapAck x u n) s = .next (s.sendAnswer b 3 0 b.length b.data.length [] true)) ∧
  (∀ (s : State) (x : LaneId) (n : BitVec 16), exec (.segmentGapAck x 0 n) s = .next (s.serviceGapAck x n.toNat)) ∧
  (∀ (s : State) (x : LaneId) (u : BitVec 64) (n : BitVec 16), u.toNat ≠ s.uid →
    (s.lane x).buffer u.toNat n.toNat = none → exec (.segmentGapAck x u n) s = .next s) ∧
  (∀ (s : State) (x : LaneId) (u : BitVec 64) (n : BitVec 16) (b : Transfer), (s.lane x).ready = true →
    (s.lane x).buffer u.toNat n.toNat = some b → b.uid ≠ 0 → b.write = true → b.data.length = b.length →
    exec (.segmentedWriteExecute x u n) s = .next (s.execute x b b.data)) ∧
  (∀ (s : State) (x : LaneId) (u : BitVec 64) (n : BitVec 16) (b : Transfer),
    (s.lane x).buffer u.toNat n.toNat = some b → b.data.length ≠ b.length →
    exec (.segmentedWriteExecute x u n) s = .next s) ∧
  (∀ (s : State) (x : LaneId) (u : BitVec 64) (n : BitVec 16),
    Leads (.transferBufferTimeout x u n) s fun t =>
      (t.lane x).buffer u.toNat n.toNat = none ∧
      (∀ v m, v ≠ u.toNat ∨ m ≠ n.toNat → (t.lane x).buffer v m = (s.lane x).buffer v m) ∧
      (t.lane x).reg = (s.lane x).reg ∧ t.lane x.peer = s.lane x.peer) ∧
  (∀ (s : State) (x : LaneId) (m : MsgFrame) (b : Transfer), (s.lane x).ready = true → m.kind = 4 →
    msgOk m = true → (s.lane x).buffer m.srcUid.toNat m.session.toNat = some b →
    b.transaction = m.transaction.toNat →
    exec (.cancel x m) s = .next (s.upd x (fun l => l.freeBuffer m.srcUid.toNat m.session.toNat))) ∧
  (∀ (s : State) (x : LaneId) (m : MsgFrame), (s.lane x).ready = true → m.kind = 4 → msgOk m = true →
    (s.lane x).buffer m.srcUid.toNat m.session.toNat = none →
    exec (.cancel x m) s = .next (if (s.lane x).isFreed m.srcUid.toNat m.session.toNat m.transaction.toNat
      then s.inc x 0x39F003 else s)) ∧
  (∀ (s : State) (x : LaneId) (e : Bool) (g : Nat),
    Leads (.lockExpiry x e g) s fun t =>
      (t.lane x).lockOn e g = none ∧
      (∀ f h, f ≠ e ∨ h ≠ g → (t.lane x).lockOn f h = (s.lane x).lockOn f h) ∧ t.lane x.peer = s.lane x.peer) ∧
  (∀ (s : State) (x : LaneId) (m : MsgFrame), s.holder = some x → m.session.toNat < 128 → m.selection = 0 →
    m.target.toNat = s.uid → m.data ≠ [] → m.data.length ≤ 4096 → m.object.toNat < 65536 →
    (s.lane x).answerRec m.srcUid.toNat m.session.toNat = none → (s.lane x).msg.records.length < 1024 →
    (s.lane x).buffer m.srcUid.toNat m.session.toNat = none →
    (s.lane x).isFreed m.srcUid.toNat m.session.toNat m.transaction.toNat = false →
    (s.lane x).get 0x390400 ≠ 0 → (s.lane x).msg.mail.length < 64 →
    (s.lane x).mailBytes + m.data.length ≤ 65536 →
    Leads (.mailboxMessage x m) s fun t =>
      (t.lane x).msg.mail = (s.lane x).msg.mail ++
        [⟨m.object.toNat, m.srcPos.toNat, m.srcUid.toNat, (s.lane x).trainTime % 2 ^ 32, m.data,
          m.session.toNat, m.transaction.toNat⟩] ∧
      (∃ r, (t.lane x).answerRec m.srcUid.toNat m.session.toNat = some r ∧
        r.transaction = m.transaction.toNat) ∧ t.holder = some x) ∧
  (∀ (s : State) (x : LaneId), s.hostOn = true → s.awake = true → s.holder = some x → (s.lane x).reached = true →
    Leads (.mailboxRemoveHead 1) s fun t =>
      (t.lane x).msg.mail = (s.lane x).msg.mail.drop 1 ∧ t.ans = ⟨0, 0, []⟩ ∧ (t.lane x).reg = (s.lane x).reg ∧
      (t.lane x).msg.records = (s.lane x).msg.records ∧ t.mreg = s.mreg) ∧
  (∀ (s : State) (v : BitVec 32), s.hostOn = true → s.awake = true → s.holder ≠ none → 1 < v.toNat →
    exec (.mailboxRemoveHead v) s = .next (s.abort 0x01000005)) ∧
  (∀ (s : State) (x : LaneId) (m : Mail) (rest : List Mail), s.hostOn = true → s.awake = true → s.holder = some x →
    (s.lane x).msg.mail = m :: rest →
    exec .mailboxSourceUidRead s =
      .next ({ s with host := { s.host with mailHigh := m.uid / 2 ^ 32 } }.answer (m.uid % 2 ^ 32))) ∧
  (∀ s : State, s.hostOn = true → s.awake = true → s.holder = none → exec .mailboxSourceUidRead s = .next (s.abort 0x02000002)) ∧
  (∀ (s : State) (v : BitVec 32), s.hostOn = false →
    exec (.mailboxRemoveHead v) s = .next s ∧ exec .mailboxSourceUidRead s = .next s)

/-! ### The host link and the bridge (chapter 12) -/

/-- A request of the host link is ignored while an access is held or the link is off, and answered with status 02h, and
counted, if its check fails, the answer then being driven; the 16th within a second puts source 134 in fault where that
resets nothing. On the local path a read, a confirmed write, a locked read, an unlocking write, an unlock and a SYNC are
held, with no answer driven; a posted write, masked or not, is queued with its words and answered, where there is room
and the region is written; an address outside the map ends at once (R373, R374, R375, R376, R378, R380, R384, R387,
R408). Where the manual leaves a corner open, the model's choice: log entries 39 and 45. -/
def Obligations.HostRequests : Prop :=
  (∀ (s : State) (op count : Byte) (addr : BitVec 32) (check : BitVec 16), s.host.held.isSome = true →
    exec (.rd op addr count check) s = .next s) ∧
  (∀ (s : State) (op count : Byte) (addr : BitVec 32) (check : BitVec 16), s.hostOn = false →
    exec (.rd op addr count check) s = .next s) ∧
  (∀ (s : State) (op count : Byte) (addr : BitVec 32) (check : BitVec 16), Canon s → s.hostOn = true →
    s.host.held = none → s.frameOk ⟨op.toNat, addr.toNat, count.toNat, []⟩ check.toNat = false →
    (s.host.rejects.filter (fun t => decide (s.clock < t + 1000000000))).length < 15 →
    Leads (.rd op addr count check) s fun t =>
      t.host = { s.host with
        resp := some ⟨2, 0, [], 0⟩
        answering := true
        rejects := s.clock :: s.host.rejects.filter (fun t => decide (s.clock < t + 1000000000)) } ∧
      t.mreg = ((s.minc 0x59000A).minc 0x59000B).mreg ∧ t.coll = s.coll ∧ t.laneA = s.laneA ∧ t.laneB = s.laneB) ∧
  (∀ (s : State) (op count : Byte) (addr : BitVec 32) (check : BitVec 16), Canon s → s.hostOn = true →
    s.host.held = none → s.frameOk ⟨op.toNat, addr.toNat, count.toNat, []⟩ check.toNat = false →
    15 ≤ (s.host.rejects.filter (fun t => decide (s.clock < t + 1000000000))).length →
    s.sourceLevel .module 134 ≤ 2 → s.sourceCeiling .module 134 ≤ 2 →
    Leads (.rd op addr count check) s fun t =>
      t.host.resp = some ⟨2, 0, [], 0⟩ ∧ t.coll.inFault.testBit 6 = true) ∧
  (∀ (s : State) (r : HostReq) (check : Nat), crc16 r.bytes ≠ check → s.frameOk r check = false) ∧
  (∀ (s : State) (addr : BitVec 32) (count : Byte) (check : BitVec 16), Canon s → s.hostOn = true →
    s.host.held = none → s.frameOk ⟨1, addr.toNat, count.toNat, []⟩ check.toNat = true →
    pathOf addr.toNat = 16 → s.region addr.toNat ≠ none →
    exec (.rd 1 addr count check) s = .next { s.minc 0x59000A with
      host := { s.host with held := some ⟨1, addr.toNat, count.toNat, []⟩, answering := false } }) ∧
  (∀ (s : State) (addr : BitVec 32) (count : Byte) (check : BitVec 16), Canon s → s.hostOn = true →
    s.host.held = none → s.frameOk ⟨1, addr.toNat, count.toNat, []⟩ check.toNat = true →
    pathOf addr.toNat = 16 → s.region addr.toNat = none →
    exec (.rd 1 addr count check) s = .next ((s.minc 0x59000A).respond 1 0 [] 0x03000005)) ∧
  (∀ (s : State) (addr : BitVec 32) (count : Byte) (d : List (BitVec 32)) (check : BitVec 16), Canon s →
    s.hostOn = true → s.host.held = none →
    s.frameOk ⟨2, addr.toNat, count.toNat, wordList d⟩ check.toNat = true → pathOf addr.toNat = 16 →
    (s.region addr.toNat).map Prod.fst ≠ some .timebase →
    s.postRoom ⟨2, addr.toNat, count.toNat, wordList d⟩ = true → d.length = count.toNat + 1 →
    s.wordsInside ⟨2, addr.toNat, count.toNat, wordList d⟩ = count.toNat + 1 →
    Leads (.wr addr count d check) s fun t =>
      t.host.posted = s.host.posted ++ [(16, ⟨2, addr.toNat, count.toNat, wordList d⟩)] ∧
      t.host.held = none ∧ t.host.resp = some ⟨0, count.toNat + 1, [], 0⟩ ∧
      t = { s with mreg := t.mreg, host := t.host }) ∧
  (∀ (s : State) (addr v : BitVec 32) (count : Byte) (check : BitVec 16), Canon s → s.hostOn = true →
    s.host.held = none → s.frameOk ⟨4, addr.toNat, count.toNat, [v.toNat]⟩ check.toNat = true →
    pathOf addr.toNat = 16 → s.postRoom ⟨4, addr.toNat, count.toNat, [v.toNat]⟩ = true →
    s.wordsInside ⟨4, addr.toNat, count.toNat, [v.toNat]⟩ = 1 →
    Leads (.wrm addr count v check) s fun t =>
      t.host.posted = s.host.posted ++ [(16, ⟨4, addr.toNat, count.toNat, [v.toNat]⟩)] ∧
      t.host.resp = some ⟨0, 1, [], 0⟩ ∧ t = { s with mreg := t.mreg, host := t.host }) ∧
  (∀ (s : State) (addr : BitVec 32) (count : Byte) (d : List (BitVec 32)) (check : BitVec 16), Canon s → s.hostOn = true →
    s.host.held = none → s.frameOk ⟨3, addr.toNat, count.toNat, wordList d⟩ check.toNat = true →
    pathOf addr.toNat = 16 → s.region addr.toNat ≠ none →
    exec (.wrc addr count d check) s = .next { s.minc 0x59000A with
      host := { s.host with held := some ⟨3, addr.toNat, count.toNat, wordList d⟩, answering := false } }) ∧
  (∀ (s : State) (addr : BitVec 32) (count : Byte) (d : List (BitVec 32)) (check : BitVec 16), Canon s → s.hostOn = true →
    s.host.held = none → s.frameOk ⟨6, addr.toNat, count.toNat, wordList d⟩ check.toNat = true →
    pathOf addr.toNat = 16 → s.region addr.toNat ≠ none →
    exec (.unlockwr addr count d check) s = .next { s.minc 0x59000A with
      host := { s.host with held := some ⟨6, addr.toNat, count.toNat, wordList d⟩, answering := false } }) ∧
  (∀ (s : State) (addr : BitVec 32) (count : Byte) (check : BitVec 16), Canon s → s.hostOn = true →
    s.host.held = none → s.frameOk ⟨5, addr.toNat, count.toNat, []⟩ check.toNat = true →
    pathOf addr.toNat = 16 → s.region addr.toNat ≠ none →
    exec (.lockrd addr count check) s = .next { s.minc 0x59000A with
      host := { s.host with held := some ⟨5, addr.toNat, count.toNat, []⟩, answering := false } }) ∧
  (∀ (s : State) (addr : BitVec 32) (count : Byte) (check : BitVec 16), Canon s → s.hostOn = true →
    s.host.held = none → s.frameOk ⟨7, addr.toNat, count.toNat, []⟩ check.toNat = true →
    pathOf addr.toNat = 16 → s.region addr.toNat ≠ none →
    exec (.unlock addr count check) s = .next { s.minc 0x59000A with
      host := { s.host with held := some ⟨7, addr.toNat, count.toNat, []⟩, answering := false } }) ∧
  (∀ (s : State) (check : BitVec 16), Canon s → s.hostOn = true → s.host.held = none →
    s.frameOk ⟨8, 0, 0, []⟩ check.toNat = true →
    exec (.sync 0 0 check) s = .next { s.minc 0x59000A with host := { s.host with held := some ⟨8, 0, 0, []⟩, answering := false } })

/-- A held read of an entry is answered with its value; a posted write of exchange memory executes, at its word alone. A SYNC
is answered once no write is posted, and else by its timeout, and one whose frame was abandoned becomes a late error
there; a local read without a lane in possession is answered "lane not available" by its timeout, and one that the host
has left waits until then and is discarded. A held access that the host abandons counts and goes on as a posted one. An
aperture commit, by an Operator, writes the staged bytes to the OCTETS entry that the channel names, and another entry is
refused. A 64-bit entry is read with its high word latched, and written with the latched high word; nothing happens where
nothing is held or posted (R379, R380, R383, R384, R385, R386, R388). Where the manual leaves a corner open, the model's
choice: log entries 39 and 45. -/
def Obligations.HostAccesses : Prop :=
  (∀ s : State, s.host.held = none → exec .hostResponseReady s = .next s) ∧
  (∀ s : State, s.awake = true → s.keeper.hvio = true → s.host.held = some ⟨1, 0x9640010, 0, []⟩ → s.firstOf 16 = none →
    s.mget 0x590004 < 2 ^ 32 →
    Leads .hostResponseReady s fun t =>
      t.host.held = none ∧ t.host.resp = some ⟨0, 1, [s.mget 0x590004], 0⟩ ∧ t.mreg = s.mreg ∧
      t.laneA = s.laneA ∧ t.laneB = s.laneB) ∧
  (∀ (s : State) (x : LaneId) (o v : Nat), Canon s → s.holder = some x → o % 4 = 0 → o + 4 ≤ 0x100000 → v < 2 ^ 32 →
    s.firstOf 16 = some ⟨2, 0x10000000 + o, 0, [v]⟩ → (s.lane x).reached = true →
    Leads (.postedWriteExecute 16) s fun t =>
      (t.lane x).readXmem o 4 = toBytes 4 v ∧
      (∀ k, k < o ∨ o + 4 ≤ k →
        tabGet (fun _ => (0 : Byte)) k (t.lane x).xmem = tabGet (fun _ => 0) k (s.lane x).xmem) ∧
      (t.lane x).reg = (s.lane x).reg ∧ t.mreg = s.mreg ∧
      t.host.posted = clearSyncs (dropPath 16 s.host.posted)) ∧
  (∀ s : State, s.firstOf 16 = none → exec (.postedWriteExecute 16) s = .next s) ∧
  (∀ s : State, s.host.held = some ⟨8, 0, 0, []⟩ → s.host.posted = [] →
    exec .hostResponseReady s = .next (s.respond 0 0 [] 0)) ∧
  (∀ s : State, s.host.held = some ⟨8, 0, 0, []⟩ → s.host.posted ≠ [] → exec .hostResponseReady s = .next s) ∧
  (∀ (s : State) (r : HostReq), s.firstOf 17 = some r →
    exec .syncTimeout s = .next ((s.popPath 17).lateError 16 0 0x03000003)) ∧
  (∀ s : State, s.firstOf 17 = none → s.host.held = some ⟨8, 0, 0, []⟩ → exec .syncTimeout s = .next (s.respond 1 0 [] 0x03000003)) ∧
  (∀ (s : State) (r : HostReq), s.host.held = some r → pathOf r.addr = 16 → s.waitsHolder r = true →
    s.firstOf 16 = none → exec .readNoHolderTimeout s = .next (s.respond 1 0 [] 0x02000002)) ∧
  (∀ (s : State) (r : HostReq), s.host.held = some r → s.waitsHolder r = false →
    s.firstOf 16 = none → exec .readNoHolderTimeout s = .next s) ∧
  (∀ (s : State) (r : HostReq), s.firstOf 16 = some r → r.op = 1 → s.waitsHolder r = true →
    exec (.postedWriteExecute 16) s = .next s ∧ exec .readNoHolderTimeout s = .next (s.popPath 16)) ∧
  (∀ s : State, s.hostOn = false → exec .frameAbandoned s = .next s) ∧
  (∀ s : State, s.hostOn = true → s.host.held = none →
    exec .frameAbandoned s = .next { s with host := { s.host with answering := false } }) ∧
  (∀ (s : State) (r : HostReq), s.hostOn = true → s.host.held = some r → pathOf r.addr = 16 → r.op ≠ 8 →
    s.host.posted = [] →
    exec .frameAbandoned s = .next { s.minc 0x59000C with
      host := { s.host with held := none, posted := [(16, r)] } }) ∧
  (∀ (s : State) (a : Sys2Proof.Acc) (c : Fin 16) (len : BitVec 32) (i u : Nat) (sel : Sel), ReachesModule s a 1 →
    s.binding c.val = (i, u, sel) → bindsOctets i u = true → 1 ≤ len.toNat → len.toNat ≤ octetsMax i u →
    len.toNat ≤ 65536 →
    exec (.apertureCommit a c len) s = .next (s.octetsWrite ⟨a.path, sel⟩ i u
      (tabGetAll (fun _ => 0) (c.val * 65536) len.toNat s.host.staging))) ∧
  (∀ (s : State) (a : Sys2Proof.Acc) (c : Fin 16) (len : BitVec 32) (i u : Nat) (sel : Sel), ReachesModule s a 1 →
    s.binding c.val = (i, u, sel) → bindsOctets i u = false → 1 ≤ len.toNat → len.toNat ≤ 65536 →
    exec (.apertureCommit a c len) s = .next (s.abort 0x01000005)) ∧
  (∀ s : State, Canon s → s.hostOn = true →
    Leads (.highWordLatch 0x8401400 none) s fun t =>
      t.ans = ⟨0, s.uid % 2 ^ 32, []⟩ ∧ t.mget 0x590002 = s.uid / 2 ^ 32 % 2 ^ 32) ∧
  (∀ (s : State) (v : BitVec 32), Canon s → s.hostOn = true → 1 ≤ s.role .host → s.mget 0x590002 < 2 ^ 32 →
    s.mget 0x580001 = 0 →
    Leads (.highWordLatch 0x960000C (some v)) s fun t =>
      t.mget 0x580003 = s.mget 0x590002 * 2 ^ 32 + v.toNat ∧ t.ans = ⟨0, 0, []⟩)

/-- A read through a free window opens the next transaction of the window's session, a read of exchange memory of the
window's target, and the access stays held; a locked read becomes operation 5 likewise, and a posted write operation 4,
with no access held for it. One that outlasts its hold is answered with "no response", and ends the session and the
window's access; a posted one ends without an answer; without an access nothing happens. A prefetch, where it is enabled,
follows the last read up to the next 4 KiB boundary, and its block expires without touching another window (R389, R391,
R393). HRST_N, while HVIO is there and the module is awake, releases possession and resets the host front, but for the
times of rejected frames that source 134 waits on, the module's fault collector, the arbiter's view and both lanes that
are awake, with cause 5, and keeps the module's persistent registers; a lane that is not awake keeps its mode and
registers. At the rise both lanes boot, the arbiter starts anew, and the slot code is read again (R24, R43, R69, R399).
That HRST_N keeps the times of the host's rejected frames while it resets the host front is the model's choice (log 65:
DESIGN CHOICE). Where the manual leaves a corner open, the model's choice: log entries 38, 45, 46 and 65. -/
def Obligations.RemoteWindowsAndModuleReset : Prop :=
  (∀ (s : State) (w : Fin 16), (s.win w.val).active.isSome = true → exec (.remoteWindowAccess w) s = .next s) ∧
  (∀ (s : State) (w : Fin 16) (x : LaneId) (d : DirEntry) (off count : Nat), Canon s →
    s.host.held = some ⟨1, 0x20000000 + w.val * 0x1000000 + off, count, []⟩ → off < 0x100000 →
    s.win w.val = .idle → s.firstOf w.val = none → s.mget (winKey w.val 6) ≠ 1 → s.mget (winKey w.val 2) ≠ 1 →
    s.holder = some x →
    (s.lane x).roll.directory.find? (fun d => decide (d.uid.toNat = s.mget (winKey w.val 3))) = some d →
    Leads (.remoteWindowAccess w) s fun t =>
      (t.win w.val).active = some ⟨1, 0x20000000 + w.val * 0x1000000 + off, count, []⟩ ∧
      (t.session w.val).op = 3 ∧ (t.session w.val).object = off ∧ (t.session w.val).state = 2 ∧
      (t.session w.val).target = s.mget (winKey w.val 3) ∧
      (t.session w.val).transaction = ((s.session w.val).transaction + 1) % 2 ^ 32 ∧
      t.host.held = s.host.held ∧ t.host.resp = s.host.resp) ∧
  (∀ (s : State) (w : Fin 16) (x : LaneId) (d : DirEntry) (off count : Nat), Canon s →
    s.host.held = some ⟨5, 0x20000000 + w.val * 0x1000000 + off, count, []⟩ → off < 0x100000 →
    s.win w.val = .idle → s.firstOf w.val = none → s.mget (winKey w.val 6) ≠ 1 → s.mget (winKey w.val 2) ≠ 1 →
    s.holder = some x →
    (s.lane x).roll.directory.find? (fun d => decide (d.uid.toNat = s.mget (winKey w.val 3))) = some d →
    Leads (.remoteWindowAccess w) s fun t =>
      (t.session w.val).op = 5 ∧ (t.session w.val).object = off ∧ (t.session w.val).state = 2 ∧
      (t.win w.val).posted = false ∧ t.host.held = s.host.held ∧ t.host.resp = s.host.resp) ∧
  (∀ (s : State) (w : Fin 16) (x : LaneId) (d : DirEntry) (off count : Nat) (v : BitVec 32), Canon s →
    s.firstOf w.val = some ⟨2, 0x20000000 + w.val * 0x1000000 + off, count, [v.toNat]⟩ → off < 0x100000 →
    s.win w.val = .idle → s.mget (winKey w.val 6) ≠ 1 → s.mget (winKey w.val 2) ≠ 1 →
    s.holder = some x →
    (s.lane x).roll.directory.find? (fun d => decide (d.uid.toNat = s.mget (winKey w.val 3))) = some d →
    Leads (.remoteWindowAccess w) s fun t =>
      (t.session w.val).op = 4 ∧ (t.session w.val).object = off ∧ (t.session w.val).state = 2 ∧
      (t.win w.val).posted = true ∧ t.host.held = s.host.held ∧ t.host.resp = s.host.resp) ∧
  (∀ (s : State) (w : Fin 16) (r : HostReq), Canon s → (s.win w.val).active = some r →
    (s.win w.val).posted = false → (s.session w.val).isOpen = true → s.keeper.hvio = true →
    Leads (.windowHoldTimeout w) s fun t =>
      t.host.held = none ∧ t.host.resp = some ⟨1, 0, [], 0x03000003⟩ ∧ ((t.lane (s.sessionLane w.val)).session w.val).state = 4 ∧
      (t.win w.val).active = none) ∧
  (∀ (s : State) (w : Fin 16) (r : HostReq), Canon s → (s.win w.val).active = some r →
    (s.win w.val).posted = true → (s.session w.val).isOpen = true →
    Leads (.windowHoldTimeout w) s fun t =>
      t.host.held = s.host.held ∧ t.host.resp = s.host.resp ∧ ((t.lane (s.sessionLane w.val)).session w.val).state = 4 ∧
      (t.win w.val).active = none) ∧
  (∀ (s : State) (w : Fin 16), s.host.held = none → (s.win w.val).active = none →
    exec (.windowHoldTimeout w) s = .next s) ∧
  (∀ (s : State) (w : Fin 16), (s.win w.val).lastRead = none → exec (.prefetch w) s = .next s) ∧
  (∀ (s : State) (w : Fin 16), s.mget (winKey w.val 9) ≠ 1 → exec (.prefetch w) s = .next s) ∧
  (∀ (s : State) (w : Fin 16) (x : LaneId) (d : DirEntry) (off n : Nat), Canon s →
    (s.win w.val).lastRead = some (off, n) → (s.win w.val).active = none → (s.win w.val).prefetching = none →
    s.mget (winKey w.val 9) = 1 → s.mget (winKey w.val 1) = 1 → s.mget (winKey w.val 6) ≠ 1 →
    s.mget (winKey w.val 2) ≠ 1 → off + 4 * n < 0x100000 → s.holder = some x →
    (s.lane x).roll.directory.find? (fun d => decide (d.uid.toNat = s.mget (winKey w.val 3))) = some d →
    Leads (.prefetch w) s fun t =>
      (t.win w.val).prefetching = some (off + 4 * n, min n ((((off + 4 * n) / 4096 + 1) * 4096 - (off + 4 * n)) / 4)) ∧
      (t.win w.val).lastRead = none ∧ (t.session w.val).op = 3 ∧ (t.session w.val).prefetch = true ∧
      (t.session w.val).object = off + 4 * n ∧ t.host.held = s.host.held) ∧
  (∀ (s : State) (w : Fin 16), Canon s →
    Leads (.prefetchBlockExpiry w) s fun t =>
      (t.win w.val).block = none ∧ (t.win w.val).active = (s.win w.val).active ∧
      (∀ v, v ≠ w.val → t.win v = s.win v) ∧ t = { s with host := t.host }) ∧
  (∀ s : State, s.awake = false → exec .hrstN s = .next s) ∧
  (∀ s : State, s.keeper.hvio = false → exec .hrstN s = .next s) ∧
  (∀ s : State, Canon s → s.awake = true → s.keeper.hvio = true → s.keeper.hrstLow = false →
    Leads .hrstN s fun t =>
      t.keeper.hrstLow = true ∧ t.keeper.tossPending = true ∧ t.keeper.phase = .awake ∧ t.holder = none ∧
      t.host = { HostState.reset with rejects := s.host.rejects } ∧ t.sec.hostRole = none ∧ t.sec.challenge = none ∧ t.coll = Collector.empty ∧
      (∀ x, (s.lane x).awake = true → (t.lane x).mode = .inReset ∧ t.get x 0x140B01 = 5 ∧ t.get x 0x140B02 = 0xFF ∧
        (t.lane x).msg = MsgState.reset ∧ (t.lane x).log.queue = []) ∧
      (∀ x, (s.lane x).awake = false → (t.lane x).mode = (s.lane x).mode ∧ (t.lane x).reg = (s.lane x).reg) ∧
      (∀ k, keptModule k = true → t.mget k = s.mget k)) ∧
  (∀ (s : State) (reads : List (BitVec 4)), s.keeper.hrstLow = false → exec (.hrstNRise reads) s = .next s) ∧
  (∀ (s : State) (reads : List (BitVec 4)), s.awake = false → exec (.hrstNRise reads) s = .next s) ∧
  (∀ (s : State) (reads : List (BitVec 4)), Canon s → s.keeper.hrstLow = true → s.keeper.hvio = true → s.awake = true →
    Leads (.hrstNRise reads) s fun t =>
      t.keeper.hrstLow = false ∧ t.arb = { Arbiter.reset with running := true, changeAt := s.clock } ∧
      t.laneA.mode = .booting ∧ t.laneB.mode = .booting ∧ t.mget 0x100800 = slotCodeOf reads)

/-! ### The service port (chapters 01 and 16) -/

/-- X1: without a link nothing is taken; a frame that X1 does not accept, and one without a fitting tag in a session with a
role, counts; a challenge request that names a lane or the acting one counts, is answered with one frame, and leaves its
challenge and sequence number. A challenge is fresh and of its session alone, and refused in a lockout or without a lane
in possession. A proof under the role's key opens its session, uses the challenge up and is answered with the module's
own; one without a challenge fails and counts. The end of a session takes its role and its buffers away, and of no other
session; 30,000 frames in either direction, and no fewer, end one; the end of the link takes all roles (R481, R496, R497,
R498). That a proof without a challenge, one never given included, fails and counts is the model's choice (log 40:
DEDUCED). Where the manual leaves a corner open, the model's choice: log entries 6, 11, 40, 47 and 66. -/
def Obligations.ServicePort : Prop :=
  (∀ (s : State) (b : List Byte), s.keeper.serviceLink = false → exec (.servicePortFrame b) s = .next s) ∧
  (∀ (s : State) (b : List Byte), s.awake = true → s.keeper.serviceLink = true → s.serviceFrameOk ⟨b, .good, ⟨0, 0, 0⟩⟩ = false →
    exec (.servicePortFrame b) s = .next (s.minc 0x700402)) ∧
  (∀ (s : State) (b : List Byte) (r : Nat), s.awake = true → s.keeper.serviceLink = true →
    s.serviceFrameOk ⟨b, .good, ⟨0, 0, 0⟩⟩ = true → (s.service (LineFrame.mk b .good ⟨0, 0, 0⟩).number).role = some r →
    (s.service (LineFrame.mk b .good ⟨0, 0, 0⟩).number).passes ⟨b, .good, ⟨0, 0, 0⟩⟩ = false →
    exec (.servicePortFrame b) s = .next (s.minc 0x700403)) ∧
  (∀ (s : State) (b : List Byte) (x : LaneId), Canon s → s.awake = true → s.keeper.serviceLink = true →
    s.serviceFrameOk ⟨b, .good, ⟨0, 0, 0⟩⟩ = true → (s.service (LineFrame.mk b .good ⟨0, 0, 0⟩).number).role = none →
    (serviceMsg ⟨b, .good, ⟨0, 0, 0⟩⟩).kind = 1 → (serviceMsg ⟨b, .good, ⟨0, 0, 0⟩⟩).op = 0x30 →
    (serviceMsg ⟨b, .good, ⟨0, 0, 0⟩⟩).selection.toNat / 64 ≠ 3 → s.sec.serviceLocked = false →
    s.sec.sessions.length = 4 → s.mget 0x700401 < 1000 → s.holder = some x →
    Leads (.servicePortFrame b) s fun t =>
      (t.service (LineFrame.mk b .good ⟨0, 0, 0⟩).number).challenge.isSome = true ∧
      (t.service (LineFrame.mk b .good ⟨0, 0, 0⟩).number).seqIn = some (numAt b 24 2) ∧ t.sec.lastAnswer.length = 1 ∧
      t.mget 0x700401 = s.mget 0x700401 + 1 ∧ t.laneA = s.laneA ∧ t.laneB = s.laneB) ∧
  (∀ (s : State) (n : Fin 4), s.serviceReady = true → s.sec.serviceLocked = false → s.sec.sessions.length = 4 →
    Leads (.serviceChallenge n) s fun t =>
      ∃ v, (t.service n.val).challenge = some v ∧ t.ans = ⟨0, 16, toBytes 16 v⟩ ∧ t.fresh = s.fresh + 1 ∧
        (∀ m, m ≠ n.val → t.service m = s.service m)) ∧
  (∀ (s : State) (n : Fin 4), s.serviceReady = true → s.sec.serviceLocked = true →
    exec (.serviceChallenge n) s = .next (s.abort 0x04000006)) ∧
  (∀ (s : State) (n : Fin 4), s.serviceReady = false → exec (.serviceChallenge n) s = .next (s.abort 0x02000002)) ∧
  (∀ (s : State) (n : Fin 4) (d k : List Byte) (v : Nat), s.serviceReady = true → s.sec.serviceLocked = false →
    d.length = 33 →
    s.sec.sessions.length = 4 → (s.service n.val).challenge = some v → s.sec.keyFor true (numAt d 0 1) = some k →
    (hmac128 k (proofText (toBytes 16 v) (slice d 1 16) s.uid (numAt d 0 1))).toNat = numAt d 17 16 →
    Leads (.serviceAuthenticate n d) s fun t =>
      (t.service n.val).role = some (numAt d 0 1) ∧ (t.service n.val).challenge = none ∧
      (t.service n.val).ended = false ∧ t.ans.code = 0 ∧
      t.ans.data = toBytes 16 (hmac128 k (proofText (slice d 1 16) (toBytes 16 v) s.uid (numAt d 0 1))).toNat ∧
      (∀ m, m ≠ n.val → t.service m = s.service m)) ∧
  (∀ (s : State) (n : Fin 4) (d : List Byte), Canon s → s.serviceReady = true → s.sec.serviceLocked = false →
    d.length = 33 →
    (s.service n.val).challenge = none → s.mget 0x160200 < 1000 →
    Leads (.serviceAuthenticate n d) s fun t =>
      t.ans = ⟨0x04000006, 0, []⟩ ∧ (t.service n.val).role = none ∧ t.mget 0x160200 = s.mget 0x160200 + 1) ∧
  (∀ (s : State) (n : Fin 4) (w : SessionEnd),
    Leads (.serviceSessionEnd n w) s fun t =>
      (t.service n.val).role = none ∧ (∀ m, m ≠ n.val → t.service m = s.service m) ∧
      t.laneA.buffer 0 n.val = none ∧ t.laneB.buffer 0 n.val = none ∧ t.laneA.reg = s.laneA.reg ∧ t.mreg = s.mreg) ∧
  (∀ (s : State) (n : Nat), 30000 ≤ (s.service n).framesIn ∨ 30000 ≤ (s.service n).framesOut →
    ((s.framesSpent n).service n).role = none) ∧
  (∀ (s : State) (n : Nat), (s.service n).framesIn < 30000 → (s.service n).framesOut < 30000 → s.framesSpent n = s) ∧
  (∀ s : State, s.awake = true →
    exec (.serviceLinkChange true) s = .next { s with keeper := { s.keeper with serviceLink := true } }) ∧
  (∀ s : State, Leads (.serviceLinkChange false) s fun t =>
    t.keeper = { s.keeper with serviceLink := false } ∧ (∀ m, (t.service m).role = none) ∧
    t.laneA.reg = s.laneA.reg ∧ t.mreg = s.mreg)

/-! ### The whole module -/

/-- A step carries out the command at the front of the queue with the queue's rest, and nothing else, and a command put at
the front is the one that runs; on an empty queue one tick of 8 ns passes, in which a lane whose core is on counts its
operating time and registers, modes and keeper stay; no word of the opcode table spells a command (the queue, the tick
and the words are the model's choice: log entries 2, 4 and 5). No command faults and none is refused by the model: every
step answers a next state. -/
def Obligations.StepRunsFront : Prop :=
  (∀ (c : Instr) (rest : List Instr) (s : State), s.pending = c :: rest →
    step s = exec c { s with pending := rest }) ∧
  (∀ (c : Instr) (s : State), step (s.push c) = exec c s) ∧
  (∀ s : State, s.pending = [] →
    ∃ t, step s = .next t ∧ t.clock = s.clock + 8 ∧ t.pending = [] ∧ t.mreg = s.mreg ∧ t.keeper = s.keeper ∧
      ∀ x, (t.lane x).reg = (s.lane x).reg ∧ (t.lane x).mode = (s.lane x).mode ∧
        (t.lane x).log.opNs = (s.lane x).log.opNs + (if (s.lane x).awake then 8 else 0)) ∧
  (∀ (s : State) (nbits w : Nat), s.withFetchWord nbits w = s) ∧
  (∀ s : State, StepSafe s)

/-- The module as it leaves the factory: no supply, both lanes off, keys empty, the register defaults in place, each log with
its one event 0063h, and every table in canonical form (R482, R512; the remaining values are the model's, log entry 3). -/
def Obligations.ResetState : Prop :=
  Canon State.reset ∧ State.reset.pending = [] ∧ State.reset.keeper.phase = .off ∧
  State.reset.keeper.mated = false ∧ State.reset.holder = none ∧ State.reset.sec.commissioning = true ∧
  State.reset.sec.roleKeys = [[], [], []] ∧ State.reset.sec.cfgKeys = [[], [], [], []] ∧
  (∀ x, (State.reset.lane x).mode = .unpowered ∧ (State.reset.lane x).roll.directory = [] ∧
    (State.reset.lane x).log.slots.map (fun
      | .record r => some r.event.code
      | .bad => none) = [some 0x0063]) ∧
  (∀ x k, k ≠ 0x150100 → k ≠ 0x150200 → State.reset.get x k = regDefault k) ∧
  (∀ k, State.reset.mget k = regDefault k)

/-- The dictionary's tables: a read after a write gives the value written, cut to the entry's width, and leaves every other
entry alone; exchange memory likewise; writes keep the canonical form, in which tables of equal contents are equal. Where
the manual leaves a corner open, the model's choice: log entry 14. -/
def Obligations.TablesReadAfterWrite : Prop :=
  (∀ (l : LaneState) (k v : Nat), tabCanon regDefault l.reg = true →
    (l.put k v).get k = v % 2 ^ regWidth k ∧ tabCanon regDefault (l.put k v).reg = true ∧
    ∀ j, j ≠ k → (l.put k v).get j = l.get j) ∧
  (∀ (s : State) (k v : Nat), tabCanon regDefault s.mreg = true →
    (s.mput k v).mget k = v % 2 ^ regWidth k ∧ tabCanon regDefault (s.mput k v).mreg = true ∧
    ∀ j, j ≠ k → (s.mput k v).mget j = s.mget j) ∧
  (∀ (a : Nat) (d : List Byte) (t : List (Nat × Byte)), tabCanon (fun _ => (0 : Byte)) t = true →
    tabCanon (fun _ => (0 : Byte)) (tabSetAll (fun _ => 0) a d t) = true ∧
    tabGetAll (fun _ => (0 : Byte)) a d.length (tabSetAll (fun _ => 0) a d t) = d ∧
    ∀ j, j < a ∨ a + d.length ≤ j →
      tabGet (fun _ => (0 : Byte)) j (tabSetAll (fun _ => 0) a d t) = tabGet (fun _ => 0) j t) ∧
  (∀ t u : List (Nat × Nat), tabCanon regDefault t = true → tabCanon regDefault u = true →
    (∀ k, tabGet regDefault k t = tabGet regDefault k u) → t = u)

/-- Every step keeps the canonical form: equal contents of registers, exchange memory, pins, sessions, windows and collectors
are equal data, from every state and under every command. Where the manual leaves a corner open, the model's choice: log
entry 14. -/
def Obligations.StepKeepsCanon : Prop :=
  ∀ s t : State, Canon s → step s = .next t → Canon t

/-- What no step changes: commands leave the queue first in, first out, and none is added; the module's identity and its
firmware keys stay; time passes in steps of 8 ns only while no command waits. Where the manual leaves a corner open, the
model's choice: log entries 2 and 4. -/
def Obligations.StepKeepsIdentity : Prop :=
  ∀ s t : State, step s = .next t →
    t.pending = s.pending.tail ∧ t.uid = s.uid ∧ t.variant2 = s.variant2 ∧ t.sec.fwKeys = s.sec.fwKeys ∧
    t.clock = s.clock + (if s.pending = [] then 8 else 0)

/-- Possession comes from the arbiter's grant or from the interlock's recheck alone: a lane in possession after any other
command was in possession before it (R69, R73, R80). -/
def Obligations.PossessionOnlyByGrant : Prop :=
  ∀ (c : Instr) (s t : State) (x : LaneId), exec c s = .next t → (t.lane x).mode = .possession →
    c = .grant x ∨ c = .interlockRecheck x ∨ (s.lane x).mode = .possession

/-- The log only grows: whatever a command does to a lane, resets, power loss and withdrawal among it, the slots written stay
as they are; only the end of a clear takes them away. A slot whose check fails at the scan of a start, and the last one
of a full log where it cannot be verified, become bad, the last used slot is erased by a start at which its check fails,
and no slot becomes anything else (R427, R433, R434, R435, R436, R438, R439). Where the manual leaves a corner open, the
model's choice: log entry 28. -/
def Obligations.LogOnlyGrows : Prop :=
  (∀ (c : Instr) (s t : State) (x : LaneId), exec c s = .next t → (∀ bad ok, c ≠ .clearDone x bad ok) →
    (∀ scan, c ≠ .laneReady x scan) → c ≠ .recorderMemoryFailed x 4 →
    (s.lane x).log.slots <+: (t.lane x).log.slots) ∧
  (∀ (c : Instr) (s t : State) (x : LaneId) (i : Nat) (r : Slot), exec c s = .next t → (∀ bad ok, c ≠ .clearDone x bad ok) →
    (s.lane x).log.slots[i]? = some r → (t.lane x).log.slots[i]? = some r ∨ (t.lane x).log.slots[i]? = some .bad ∨
      ∃ scan, c = .laneReady x scan ∧ (scan.badSlots.contains i = true ∨ r = .bad) ∧ i + 1 = (s.lane x).log.slots.length ∧
        (t.lane x).log.slots[i]? = none)

/-- A reaction below level 3 changes, in its lane, the collector, the source's count and the log, whose written slots stay,
and beyond it only whether the Toss still runs; no condition, port, pin, flow, session or register of another entry, and
nothing else of the other lane or the module (R71, R407, R409, R419). Where the manual leaves a corner open, the model's
choice: log entry 9. -/
def Obligations.QuietReactionFrame : Prop :=
  ∀ (s : State) (x : LaneId) (n : Nat), Canon s → Quiet s x n → ∃ coll log reg window asked,
    s.raiseLane x n = { s.upd x (fun l => { l with coll := coll, log := log, reg := reg }) with
      keeper := { s.keeper with tossWindow := window, askedA := asked } } ∧
    log.slots = (s.lane x).log.slots ∧
    (∀ k, k ≠ key (0x1410 + n) 3 → k ≠ 0x150300 → k ≠ 0x150301 → k ≠ 0x150C02 →
      tabGet regDefault k reg = s.get x k)

end
end

