-- ==== Sys2Proof/Laws/State.lean ====
section
/-! SUPPORT. What each update of the state leaves alone and what it sets, field by field. -/

namespace Sys2Proof.Machine

/-! ### Lanes of the module -/

@[simp] theorem State.lane_A (s : State) : s.lane .A = s.laneA := rfl
@[simp] theorem State.lane_B (s : State) : s.lane .B = s.laneB := rfl
@[simp] theorem peer_peer (x : LaneId) : x.peer.peer = x := by cases x <;> rfl
@[simp] theorem peer_ne (x : LaneId) : x.peer ≠ x := by cases x <;> decide
@[simp] theorem ne_peer (x : LaneId) : x ≠ x.peer := by cases x <;> decide
theorem eq_peer_of_ne (x y : LaneId) (h : y ≠ x) : y = x.peer := by cases x <;> cases y <;> first | rfl | exact absurd rfl h

/-! ### `State.setLane` -/

@[simp] theorem State.setLane_lane_self (s : State) (x : LaneId) (l : LaneState) : (s.setLane x l).lane x = l := by cases x <;> rfl
@[simp] theorem State.setLane_lane_peer (s : State) (x : LaneId) (l : LaneState) : (s.setLane x l).lane x.peer = s.lane x.peer := by cases x <;> rfl
@[simp] theorem State.setLane_pending (s : State) (x : LaneId) (l : LaneState) : (s.setLane x l).pending = s.pending := by cases x <;> rfl
@[simp] theorem State.setLane_clock (s : State) (x : LaneId) (l : LaneState) : (s.setLane x l).clock = s.clock := by cases x <;> rfl
@[simp] theorem State.setLane_fresh (s : State) (x : LaneId) (l : LaneState) : (s.setLane x l).fresh = s.fresh := by cases x <;> rfl
@[simp] theorem State.setLane_variant2 (s : State) (x : LaneId) (l : LaneState) : (s.setLane x l).variant2 = s.variant2 := by cases x <;> rfl
@[simp] theorem State.setLane_uid (s : State) (x : LaneId) (l : LaneState) : (s.setLane x l).uid = s.uid := by cases x <;> rfl
@[simp] theorem State.setLane_mreg (s : State) (x : LaneId) (l : LaneState) : (s.setLane x l).mreg = s.mreg := by cases x <;> rfl
@[simp] theorem State.setLane_keeper (s : State) (x : LaneId) (l : LaneState) : (s.setLane x l).keeper = s.keeper := by cases x <;> rfl
@[simp] theorem State.setLane_arb (s : State) (x : LaneId) (l : LaneState) : (s.setLane x l).arb = s.arb := by cases x <;> rfl
@[simp] theorem State.setLane_coll (s : State) (x : LaneId) (l : LaneState) : (s.setLane x l).coll = s.coll := by cases x <;> rfl
@[simp] theorem State.setLane_ans (s : State) (x : LaneId) (l : LaneState) : (s.setLane x l).ans = s.ans := by cases x <;> rfl
@[simp] theorem State.setLane_sec (s : State) (x : LaneId) (l : LaneState) : (s.setLane x l).sec = s.sec := by cases x <;> rfl
@[simp] theorem State.setLane_host (s : State) (x : LaneId) (l : LaneState) : (s.setLane x l).host = s.host := by cases x <;> rfl
@[simp] theorem State.setLane_owed (s : State) (x : LaneId) (l : LaneState) : (s.setLane x l).owed = s.owed := by cases x <;> rfl

/-! ### `State.upd` -/

@[simp] theorem State.upd_lane_self (s : State) (x : LaneId) (f : LaneState → LaneState) : (s.upd x f).lane x = f (s.lane x) := by cases x <;> rfl
@[simp] theorem State.upd_lane_peer (s : State) (x : LaneId) (f : LaneState → LaneState) : (s.upd x f).lane x.peer = s.lane x.peer := by cases x <;> rfl
@[simp] theorem State.upd_pending (s : State) (x : LaneId) (f : LaneState → LaneState) : (s.upd x f).pending = s.pending := by cases x <;> rfl
@[simp] theorem State.upd_clock (s : State) (x : LaneId) (f : LaneState → LaneState) : (s.upd x f).clock = s.clock := by cases x <;> rfl
@[simp] theorem State.upd_fresh (s : State) (x : LaneId) (f : LaneState → LaneState) : (s.upd x f).fresh = s.fresh := by cases x <;> rfl
@[simp] theorem State.upd_variant2 (s : State) (x : LaneId) (f : LaneState → LaneState) : (s.upd x f).variant2 = s.variant2 := by cases x <;> rfl
@[simp] theorem State.upd_uid (s : State) (x : LaneId) (f : LaneState → LaneState) : (s.upd x f).uid = s.uid := by cases x <;> rfl
@[simp] theorem State.upd_mreg (s : State) (x : LaneId) (f : LaneState → LaneState) : (s.upd x f).mreg = s.mreg := by cases x <;> rfl
@[simp] theorem State.upd_keeper (s : State) (x : LaneId) (f : LaneState → LaneState) : (s.upd x f).keeper = s.keeper := by cases x <;> rfl
@[simp] theorem State.upd_arb (s : State) (x : LaneId) (f : LaneState → LaneState) : (s.upd x f).arb = s.arb := by cases x <;> rfl
@[simp] theorem State.upd_coll (s : State) (x : LaneId) (f : LaneState → LaneState) : (s.upd x f).coll = s.coll := by cases x <;> rfl
@[simp] theorem State.upd_ans (s : State) (x : LaneId) (f : LaneState → LaneState) : (s.upd x f).ans = s.ans := by cases x <;> rfl
@[simp] theorem State.upd_sec (s : State) (x : LaneId) (f : LaneState → LaneState) : (s.upd x f).sec = s.sec := by cases x <;> rfl
@[simp] theorem State.upd_host (s : State) (x : LaneId) (f : LaneState → LaneState) : (s.upd x f).host = s.host := by cases x <;> rfl
@[simp] theorem State.upd_owed (s : State) (x : LaneId) (f : LaneState → LaneState) : (s.upd x f).owed = s.owed := by cases x <;> rfl

/-! ### `State.put` -/

@[simp] theorem State.put_lane_self (s : State) (x : LaneId) (k v : Nat) : (s.put x k v).lane x = (s.lane x).put k v := by cases x <;> rfl
@[simp] theorem State.put_lane_peer (s : State) (x : LaneId) (k v : Nat) : (s.put x k v).lane x.peer = s.lane x.peer := by cases x <;> rfl
@[simp] theorem State.put_pending (s : State) (x : LaneId) (k v : Nat) : (s.put x k v).pending = s.pending := by cases x <;> rfl
@[simp] theorem State.put_clock (s : State) (x : LaneId) (k v : Nat) : (s.put x k v).clock = s.clock := by cases x <;> rfl
@[simp] theorem State.put_fresh (s : State) (x : LaneId) (k v : Nat) : (s.put x k v).fresh = s.fresh := by cases x <;> rfl
@[simp] theorem State.put_variant2 (s : State) (x : LaneId) (k v : Nat) : (s.put x k v).variant2 = s.variant2 := by cases x <;> rfl
@[simp] theorem State.put_uid (s : State) (x : LaneId) (k v : Nat) : (s.put x k v).uid = s.uid := by cases x <;> rfl
@[simp] theorem State.put_mreg (s : State) (x : LaneId) (k v : Nat) : (s.put x k v).mreg = s.mreg := by cases x <;> rfl
@[simp] theorem State.put_keeper (s : State) (x : LaneId) (k v : Nat) : (s.put x k v).keeper = s.keeper := by cases x <;> rfl
@[simp] theorem State.put_arb (s : State) (x : LaneId) (k v : Nat) : (s.put x k v).arb = s.arb := by cases x <;> rfl
@[simp] theorem State.put_coll (s : State) (x : LaneId) (k v : Nat) : (s.put x k v).coll = s.coll := by cases x <;> rfl
@[simp] theorem State.put_ans (s : State) (x : LaneId) (k v : Nat) : (s.put x k v).ans = s.ans := by cases x <;> rfl
@[simp] theorem State.put_sec (s : State) (x : LaneId) (k v : Nat) : (s.put x k v).sec = s.sec := by cases x <;> rfl
@[simp] theorem State.put_host (s : State) (x : LaneId) (k v : Nat) : (s.put x k v).host = s.host := by cases x <;> rfl
@[simp] theorem State.put_owed (s : State) (x : LaneId) (k v : Nat) : (s.put x k v).owed = s.owed := by cases x <;> rfl

/-! ### `State.inc` -/

@[simp] theorem State.inc_lane_self (s : State) (x : LaneId) (k : Nat) : (s.inc x k).lane x = (s.lane x).inc k := by cases x <;> rfl
@[simp] theorem State.inc_lane_peer (s : State) (x : LaneId) (k : Nat) : (s.inc x k).lane x.peer = s.lane x.peer := by cases x <;> rfl
@[simp] theorem State.inc_pending (s : State) (x : LaneId) (k : Nat) : (s.inc x k).pending = s.pending := by cases x <;> rfl
@[simp] theorem State.inc_clock (s : State) (x : LaneId) (k : Nat) : (s.inc x k).clock = s.clock := by cases x <;> rfl
@[simp] theorem State.inc_fresh (s : State) (x : LaneId) (k : Nat) : (s.inc x k).fresh = s.fresh := by cases x <;> rfl
@[simp] theorem State.inc_variant2 (s : State) (x : LaneId) (k : Nat) : (s.inc x k).variant2 = s.variant2 := by cases x <;> rfl
@[simp] theorem State.inc_uid (s : State) (x : LaneId) (k : Nat) : (s.inc x k).uid = s.uid := by cases x <;> rfl
@[simp] theorem State.inc_mreg (s : State) (x : LaneId) (k : Nat) : (s.inc x k).mreg = s.mreg := by cases x <;> rfl
@[simp] theorem State.inc_keeper (s : State) (x : LaneId) (k : Nat) : (s.inc x k).keeper = s.keeper := by cases x <;> rfl
@[simp] theorem State.inc_arb (s : State) (x : LaneId) (k : Nat) : (s.inc x k).arb = s.arb := by cases x <;> rfl
@[simp] theorem State.inc_coll (s : State) (x : LaneId) (k : Nat) : (s.inc x k).coll = s.coll := by cases x <;> rfl
@[simp] theorem State.inc_ans (s : State) (x : LaneId) (k : Nat) : (s.inc x k).ans = s.ans := by cases x <;> rfl
@[simp] theorem State.inc_sec (s : State) (x : LaneId) (k : Nat) : (s.inc x k).sec = s.sec := by cases x <;> rfl
@[simp] theorem State.inc_host (s : State) (x : LaneId) (k : Nat) : (s.inc x k).host = s.host := by cases x <;> rfl
@[simp] theorem State.inc_owed (s : State) (x : LaneId) (k : Nat) : (s.inc x k).owed = s.owed := by cases x <;> rfl

/-! ### Both lanes -/

@[simp] theorem State.updBoth_lane (s : State) (f : LaneState → LaneState) (x : LaneId) : (s.updBoth f).lane x = f (s.lane x) := by cases x <;> rfl
@[simp] theorem State.updBoth_pending (s : State) (f : LaneState → LaneState) : (s.updBoth f).pending = s.pending := rfl
@[simp] theorem State.updBoth_clock (s : State) (f : LaneState → LaneState) : (s.updBoth f).clock = s.clock := rfl
@[simp] theorem State.updBoth_fresh (s : State) (f : LaneState → LaneState) : (s.updBoth f).fresh = s.fresh := rfl
@[simp] theorem State.updBoth_variant2 (s : State) (f : LaneState → LaneState) : (s.updBoth f).variant2 = s.variant2 := rfl
@[simp] theorem State.updBoth_uid (s : State) (f : LaneState → LaneState) : (s.updBoth f).uid = s.uid := rfl
@[simp] theorem State.updBoth_mreg (s : State) (f : LaneState → LaneState) : (s.updBoth f).mreg = s.mreg := rfl
@[simp] theorem State.updBoth_keeper (s : State) (f : LaneState → LaneState) : (s.updBoth f).keeper = s.keeper := rfl
@[simp] theorem State.updBoth_arb (s : State) (f : LaneState → LaneState) : (s.updBoth f).arb = s.arb := rfl
@[simp] theorem State.updBoth_coll (s : State) (f : LaneState → LaneState) : (s.updBoth f).coll = s.coll := rfl
@[simp] theorem State.updBoth_ans (s : State) (f : LaneState → LaneState) : (s.updBoth f).ans = s.ans := rfl
@[simp] theorem State.updBoth_sec (s : State) (f : LaneState → LaneState) : (s.updBoth f).sec = s.sec := rfl
@[simp] theorem State.updBoth_host (s : State) (f : LaneState → LaneState) : (s.updBoth f).host = s.host := rfl
@[simp] theorem State.updBoth_owed (s : State) (f : LaneState → LaneState) : (s.updBoth f).owed = s.owed := rfl
@[simp] theorem State.putNode_lane (s : State) (k v : Nat) (x : LaneId) : (s.putNode k v).lane x = (s.lane x).put k v := by cases x <;> rfl
@[simp] theorem State.putNode_pending (s : State) (k v : Nat) : (s.putNode k v).pending = s.pending := rfl
@[simp] theorem State.putNode_clock (s : State) (k v : Nat) : (s.putNode k v).clock = s.clock := rfl
@[simp] theorem State.putNode_fresh (s : State) (k v : Nat) : (s.putNode k v).fresh = s.fresh := rfl
@[simp] theorem State.putNode_variant2 (s : State) (k v : Nat) : (s.putNode k v).variant2 = s.variant2 := rfl
@[simp] theorem State.putNode_uid (s : State) (k v : Nat) : (s.putNode k v).uid = s.uid := rfl
@[simp] theorem State.putNode_mreg (s : State) (k v : Nat) : (s.putNode k v).mreg = s.mreg := rfl
@[simp] theorem State.putNode_keeper (s : State) (k v : Nat) : (s.putNode k v).keeper = s.keeper := rfl
@[simp] theorem State.putNode_arb (s : State) (k v : Nat) : (s.putNode k v).arb = s.arb := rfl
@[simp] theorem State.putNode_coll (s : State) (k v : Nat) : (s.putNode k v).coll = s.coll := rfl
@[simp] theorem State.putNode_ans (s : State) (k v : Nat) : (s.putNode k v).ans = s.ans := rfl
@[simp] theorem State.putNode_sec (s : State) (k v : Nat) : (s.putNode k v).sec = s.sec := rfl
@[simp] theorem State.putNode_host (s : State) (k v : Nat) : (s.putNode k v).host = s.host := rfl
@[simp] theorem State.putNode_owed (s : State) (k v : Nat) : (s.putNode k v).owed = s.owed := rfl

/-! ### `State.mput` -/

@[simp] theorem State.mput_pending (s : State) (k v : Nat) : (s.mput k v).pending = s.pending := rfl
@[simp] theorem State.mput_clock (s : State) (k v : Nat) : (s.mput k v).clock = s.clock := rfl
@[simp] theorem State.mput_fresh (s : State) (k v : Nat) : (s.mput k v).fresh = s.fresh := rfl
@[simp] theorem State.mput_variant2 (s : State) (k v : Nat) : (s.mput k v).variant2 = s.variant2 := rfl
@[simp] theorem State.mput_uid (s : State) (k v : Nat) : (s.mput k v).uid = s.uid := rfl
@[simp] theorem State.mput_keeper (s : State) (k v : Nat) : (s.mput k v).keeper = s.keeper := rfl
@[simp] theorem State.mput_arb (s : State) (k v : Nat) : (s.mput k v).arb = s.arb := rfl
@[simp] theorem State.mput_coll (s : State) (k v : Nat) : (s.mput k v).coll = s.coll := rfl
@[simp] theorem State.mput_ans (s : State) (k v : Nat) : (s.mput k v).ans = s.ans := rfl
@[simp] theorem State.mput_sec (s : State) (k v : Nat) : (s.mput k v).sec = s.sec := rfl
@[simp] theorem State.mput_host (s : State) (k v : Nat) : (s.mput k v).host = s.host := rfl
@[simp] theorem State.mput_owed (s : State) (k v : Nat) : (s.mput k v).owed = s.owed := rfl
@[simp] theorem State.mput_laneA (s : State) (k v : Nat) : (s.mput k v).laneA = s.laneA := rfl
@[simp] theorem State.mput_laneB (s : State) (k v : Nat) : (s.mput k v).laneB = s.laneB := rfl
@[simp] theorem State.mput_lane (s : State) (k v : Nat) (x : LaneId) : (s.mput k v).lane x = s.lane x := by cases x <;> rfl
@[simp] theorem State.mput_get (s : State) (k v : Nat) (x : LaneId) (j : Nat) : (s.mput k v).get x j = s.get x j := by cases x <;> rfl

/-! ### `State.minc` -/

@[simp] theorem State.minc_pending (s : State) (k : Nat) : (s.minc k).pending = s.pending := rfl
@[simp] theorem State.minc_clock (s : State) (k : Nat) : (s.minc k).clock = s.clock := rfl
@[simp] theorem State.minc_fresh (s : State) (k : Nat) : (s.minc k).fresh = s.fresh := rfl
@[simp] theorem State.minc_variant2 (s : State) (k : Nat) : (s.minc k).variant2 = s.variant2 := rfl
@[simp] theorem State.minc_uid (s : State) (k : Nat) : (s.minc k).uid = s.uid := rfl
@[simp] theorem State.minc_keeper (s : State) (k : Nat) : (s.minc k).keeper = s.keeper := rfl
@[simp] theorem State.minc_arb (s : State) (k : Nat) : (s.minc k).arb = s.arb := rfl
@[simp] theorem State.minc_coll (s : State) (k : Nat) : (s.minc k).coll = s.coll := rfl
@[simp] theorem State.minc_ans (s : State) (k : Nat) : (s.minc k).ans = s.ans := rfl
@[simp] theorem State.minc_sec (s : State) (k : Nat) : (s.minc k).sec = s.sec := rfl
@[simp] theorem State.minc_host (s : State) (k : Nat) : (s.minc k).host = s.host := rfl
@[simp] theorem State.minc_owed (s : State) (k : Nat) : (s.minc k).owed = s.owed := rfl
@[simp] theorem State.minc_laneA (s : State) (k : Nat) : (s.minc k).laneA = s.laneA := rfl
@[simp] theorem State.minc_laneB (s : State) (k : Nat) : (s.minc k).laneB = s.laneB := rfl
@[simp] theorem State.minc_lane (s : State) (k : Nat) (x : LaneId) : (s.minc k).lane x = s.lane x := by cases x <;> rfl
@[simp] theorem State.minc_get (s : State) (k : Nat) (x : LaneId) (j : Nat) : (s.minc k).get x j = s.get x j := by cases x <;> rfl

/-! ### `State.answer` -/

@[simp] theorem State.answer_pending (s : State) (v : Nat) : (s.answer v).pending = s.pending := rfl
@[simp] theorem State.answer_clock (s : State) (v : Nat) : (s.answer v).clock = s.clock := rfl
@[simp] theorem State.answer_fresh (s : State) (v : Nat) : (s.answer v).fresh = s.fresh := rfl
@[simp] theorem State.answer_variant2 (s : State) (v : Nat) : (s.answer v).variant2 = s.variant2 := rfl
@[simp] theorem State.answer_uid (s : State) (v : Nat) : (s.answer v).uid = s.uid := rfl
@[simp] theorem State.answer_mreg (s : State) (v : Nat) : (s.answer v).mreg = s.mreg := rfl
@[simp] theorem State.answer_keeper (s : State) (v : Nat) : (s.answer v).keeper = s.keeper := rfl
@[simp] theorem State.answer_arb (s : State) (v : Nat) : (s.answer v).arb = s.arb := rfl
@[simp] theorem State.answer_coll (s : State) (v : Nat) : (s.answer v).coll = s.coll := rfl
@[simp] theorem State.answer_ans (s : State) (v : Nat) : (s.answer v).ans = ⟨0, v, []⟩ := rfl
@[simp] theorem State.answer_sec (s : State) (v : Nat) : (s.answer v).sec = s.sec := rfl
@[simp] theorem State.answer_host (s : State) (v : Nat) : (s.answer v).host = s.host := rfl
@[simp] theorem State.answer_owed (s : State) (v : Nat) : (s.answer v).owed = s.owed := rfl
@[simp] theorem State.answer_laneA (s : State) (v : Nat) : (s.answer v).laneA = s.laneA := rfl
@[simp] theorem State.answer_laneB (s : State) (v : Nat) : (s.answer v).laneB = s.laneB := rfl
@[simp] theorem State.answer_lane (s : State) (v : Nat) (x : LaneId) : (s.answer v).lane x = s.lane x := by cases x <;> rfl
@[simp] theorem State.answer_mget (s : State) (v : Nat) (j : Nat) : (s.answer v).mget j = s.mget j := rfl
@[simp] theorem State.answer_get (s : State) (v : Nat) (x : LaneId) (j : Nat) : (s.answer v).get x j = s.get x j := by cases x <;> rfl

/-! ### `State.answerBytes` -/

@[simp] theorem State.answerBytes_pending (s : State) (d : List Byte) : (s.answerBytes d).pending = s.pending := rfl
@[simp] theorem State.answerBytes_clock (s : State) (d : List Byte) : (s.answerBytes d).clock = s.clock := rfl
@[simp] theorem State.answerBytes_fresh (s : State) (d : List Byte) : (s.answerBytes d).fresh = s.fresh := rfl
@[simp] theorem State.answerBytes_variant2 (s : State) (d : List Byte) : (s.answerBytes d).variant2 = s.variant2 := rfl
@[simp] theorem State.answerBytes_uid (s : State) (d : List Byte) : (s.answerBytes d).uid = s.uid := rfl
@[simp] theorem State.answerBytes_mreg (s : State) (d : List Byte) : (s.answerBytes d).mreg = s.mreg := rfl
@[simp] theorem State.answerBytes_keeper (s : State) (d : List Byte) : (s.answerBytes d).keeper = s.keeper := rfl
@[simp] theorem State.answerBytes_arb (s : State) (d : List Byte) : (s.answerBytes d).arb = s.arb := rfl
@[simp] theorem State.answerBytes_coll (s : State) (d : List Byte) : (s.answerBytes d).coll = s.coll := rfl
@[simp] theorem State.answerBytes_ans (s : State) (d : List Byte) : (s.answerBytes d).ans = ⟨0, d.length, d⟩ := rfl
@[simp] theorem State.answerBytes_sec (s : State) (d : List Byte) : (s.answerBytes d).sec = s.sec := rfl
@[simp] theorem State.answerBytes_host (s : State) (d : List Byte) : (s.answerBytes d).host = s.host := rfl
@[simp] theorem State.answerBytes_owed (s : State) (d : List Byte) : (s.answerBytes d).owed = s.owed := rfl
@[simp] theorem State.answerBytes_laneA (s : State) (d : List Byte) : (s.answerBytes d).laneA = s.laneA := rfl
@[simp] theorem State.answerBytes_laneB (s : State) (d : List Byte) : (s.answerBytes d).laneB = s.laneB := rfl
@[simp] theorem State.answerBytes_lane (s : State) (d : List Byte) (x : LaneId) : (s.answerBytes d).lane x = s.lane x := by cases x <;> rfl
@[simp] theorem State.answerBytes_mget (s : State) (d : List Byte) (j : Nat) : (s.answerBytes d).mget j = s.mget j := rfl
@[simp] theorem State.answerBytes_get (s : State) (d : List Byte) (x : LaneId) (j : Nat) : (s.answerBytes d).get x j = s.get x j := by cases x <;> rfl

/-! ### `State.abort` -/

@[simp] theorem State.abort_pending (s : State) (code : Nat) : (s.abort code).pending = s.pending := rfl
@[simp] theorem State.abort_clock (s : State) (code : Nat) : (s.abort code).clock = s.clock := rfl
@[simp] theorem State.abort_fresh (s : State) (code : Nat) : (s.abort code).fresh = s.fresh := rfl
@[simp] theorem State.abort_variant2 (s : State) (code : Nat) : (s.abort code).variant2 = s.variant2 := rfl
@[simp] theorem State.abort_uid (s : State) (code : Nat) : (s.abort code).uid = s.uid := rfl
@[simp] theorem State.abort_mreg (s : State) (code : Nat) : (s.abort code).mreg = s.mreg := rfl
@[simp] theorem State.abort_keeper (s : State) (code : Nat) : (s.abort code).keeper = s.keeper := rfl
@[simp] theorem State.abort_arb (s : State) (code : Nat) : (s.abort code).arb = s.arb := rfl
@[simp] theorem State.abort_coll (s : State) (code : Nat) : (s.abort code).coll = s.coll := rfl
@[simp] theorem State.abort_ans (s : State) (code : Nat) : (s.abort code).ans = ⟨code, 0, []⟩ := rfl
@[simp] theorem State.abort_sec (s : State) (code : Nat) : (s.abort code).sec = s.sec := rfl
@[simp] theorem State.abort_host (s : State) (code : Nat) : (s.abort code).host = s.host := rfl
@[simp] theorem State.abort_owed (s : State) (code : Nat) : (s.abort code).owed = s.owed := rfl
@[simp] theorem State.abort_laneA (s : State) (code : Nat) : (s.abort code).laneA = s.laneA := rfl
@[simp] theorem State.abort_laneB (s : State) (code : Nat) : (s.abort code).laneB = s.laneB := rfl
@[simp] theorem State.abort_lane (s : State) (code : Nat) (x : LaneId) : (s.abort code).lane x = s.lane x := by cases x <;> rfl
@[simp] theorem State.abort_mget (s : State) (code : Nat) (j : Nat) : (s.abort code).mget j = s.mget j := rfl
@[simp] theorem State.abort_get (s : State) (code : Nat) (x : LaneId) (j : Nat) : (s.abort code).get x j = s.get x j := by cases x <;> rfl

/-! ### `State.push` -/

@[simp] theorem State.push_pending (s : State) (c : Instr) : (s.push c).pending = c :: s.pending := rfl
@[simp] theorem State.push_clock (s : State) (c : Instr) : (s.push c).clock = s.clock := rfl
@[simp] theorem State.push_fresh (s : State) (c : Instr) : (s.push c).fresh = s.fresh := rfl
@[simp] theorem State.push_variant2 (s : State) (c : Instr) : (s.push c).variant2 = s.variant2 := rfl
@[simp] theorem State.push_uid (s : State) (c : Instr) : (s.push c).uid = s.uid := rfl
@[simp] theorem State.push_mreg (s : State) (c : Instr) : (s.push c).mreg = s.mreg := rfl
@[simp] theorem State.push_keeper (s : State) (c : Instr) : (s.push c).keeper = s.keeper := rfl
@[simp] theorem State.push_arb (s : State) (c : Instr) : (s.push c).arb = s.arb := rfl
@[simp] theorem State.push_coll (s : State) (c : Instr) : (s.push c).coll = s.coll := rfl
@[simp] theorem State.push_ans (s : State) (c : Instr) : (s.push c).ans = s.ans := rfl
@[simp] theorem State.push_sec (s : State) (c : Instr) : (s.push c).sec = s.sec := rfl
@[simp] theorem State.push_host (s : State) (c : Instr) : (s.push c).host = s.host := rfl
@[simp] theorem State.push_owed (s : State) (c : Instr) : (s.push c).owed = s.owed := rfl
@[simp] theorem State.push_laneA (s : State) (c : Instr) : (s.push c).laneA = s.laneA := rfl
@[simp] theorem State.push_laneB (s : State) (c : Instr) : (s.push c).laneB = s.laneB := rfl
@[simp] theorem State.push_lane (s : State) (c : Instr) (x : LaneId) : (s.push c).lane x = s.lane x := by cases x <;> rfl
@[simp] theorem State.push_mget (s : State) (c : Instr) (j : Nat) : (s.push c).mget j = s.mget j := rfl
@[simp] theorem State.push_get (s : State) (c : Instr) (x : LaneId) (j : Nat) : (s.push c).get x j = s.get x j := by cases x <;> rfl

/-! ### `State.updSec` -/

@[simp] theorem State.updSec_pending (s : State) (f : Security → Security) : (s.updSec f).pending = s.pending := rfl
@[simp] theorem State.updSec_clock (s : State) (f : Security → Security) : (s.updSec f).clock = s.clock := rfl
@[simp] theorem State.updSec_fresh (s : State) (f : Security → Security) : (s.updSec f).fresh = s.fresh := rfl
@[simp] theorem State.updSec_variant2 (s : State) (f : Security → Security) : (s.updSec f).variant2 = s.variant2 := rfl
@[simp] theorem State.updSec_uid (s : State) (f : Security → Security) : (s.updSec f).uid = s.uid := rfl
@[simp] theorem State.updSec_mreg (s : State) (f : Security → Security) : (s.updSec f).mreg = s.mreg := rfl
@[simp] theorem State.updSec_keeper (s : State) (f : Security → Security) : (s.updSec f).keeper = s.keeper := rfl
@[simp] theorem State.updSec_arb (s : State) (f : Security → Security) : (s.updSec f).arb = s.arb := rfl
@[simp] theorem State.updSec_coll (s : State) (f : Security → Security) : (s.updSec f).coll = s.coll := rfl
@[simp] theorem State.updSec_ans (s : State) (f : Security → Security) : (s.updSec f).ans = s.ans := rfl
@[simp] theorem State.updSec_sec (s : State) (f : Security → Security) : (s.updSec f).sec = f s.sec := rfl
@[simp] theorem State.updSec_host (s : State) (f : Security → Security) : (s.updSec f).host = s.host := rfl
@[simp] theorem State.updSec_owed (s : State) (f : Security → Security) : (s.updSec f).owed = s.owed := rfl
@[simp] theorem State.updSec_laneA (s : State) (f : Security → Security) : (s.updSec f).laneA = s.laneA := rfl
@[simp] theorem State.updSec_laneB (s : State) (f : Security → Security) : (s.updSec f).laneB = s.laneB := rfl
@[simp] theorem State.updSec_lane (s : State) (f : Security → Security) (x : LaneId) : (s.updSec f).lane x = s.lane x := by cases x <;> rfl
@[simp] theorem State.updSec_mget (s : State) (f : Security → Security) (j : Nat) : (s.updSec f).mget j = s.mget j := rfl
@[simp] theorem State.updSec_get (s : State) (f : Security → Security) (x : LaneId) (j : Nat) : (s.updSec f).get x j = s.get x j := by cases x <;> rfl

/-! ### Registers and ports of a lane -/

@[simp] theorem LaneState.put_mode (l : LaneState) (k v : Nat) : (l.put k v).mode = l.mode := rfl
@[simp] theorem LaneState.put_selfTest (l : LaneState) (k v : Nat) : (l.put k v).selfTest = l.selfTest := rfl
@[simp] theorem LaneState.put_poss (l : LaneState) (k v : Nat) : (l.put k v).poss = l.poss := rfl
@[simp] theorem LaneState.put_port1 (l : LaneState) (k v : Nat) : (l.put k v).port1 = l.port1 := rfl
@[simp] theorem LaneState.put_port2 (l : LaneState) (k v : Nat) : (l.put k v).port2 = l.port2 := rfl
@[simp] theorem LaneState.put_bypassOpen (l : LaneState) (k v : Nat) : (l.put k v).bypassOpen = l.bypassOpen := rfl
@[simp] theorem LaneState.put_ins (l : LaneState) (k v : Nat) : (l.put k v).ins = l.ins := rfl
@[simp] theorem LaneState.put_roll (l : LaneState) (k v : Nat) : (l.put k v).roll = l.roll := rfl
@[simp] theorem LaneState.put_coll (l : LaneState) (k v : Nat) : (l.put k v).coll = l.coll := rfl
@[simp] theorem LaneState.put_log (l : LaneState) (k v : Nat) : (l.put k v).log = l.log := rfl
@[simp] theorem LaneState.put_plan (l : LaneState) (k v : Nat) : (l.put k v).plan = l.plan := rfl
@[simp] theorem LaneState.put_upd (l : LaneState) (k v : Nat) : (l.put k v).upd = l.upd := rfl
@[simp] theorem LaneState.put_time (l : LaneState) (k v : Nat) : (l.put k v).time = l.time := rfl
@[simp] theorem LaneState.put_flow (l : LaneState) (k v : Nat) : (l.put k v).flow = l.flow := rfl
@[simp] theorem LaneState.put_msg (l : LaneState) (k v : Nat) : (l.put k v).msg = l.msg := rfl
@[simp] theorem LaneState.put_can (l : LaneState) (k v : Nat) : (l.put k v).can = l.can := rfl
@[simp] theorem LaneState.put_field (l : LaneState) (k v : Nat) : (l.put k v).field = l.field := rfl
@[simp] theorem LaneState.put_ring (l : LaneState) (k v : Nat) : (l.put k v).ring = l.ring := rfl
@[simp] theorem LaneState.put_echoSeq (l : LaneState) (k v : Nat) : (l.put k v).echoSeq = l.echoSeq := rfl
@[simp] theorem LaneState.put_xmem (l : LaneState) (k v : Nat) : (l.put k v).xmem = l.xmem := rfl
@[simp] theorem LaneState.put_quiet (l : LaneState) (k v : Nat) : (l.put k v).quiet = l.quiet := rfl
@[simp] theorem LaneState.put_awake (l : LaneState) (k v : Nat) : (l.put k v).awake = l.awake := rfl
@[simp] theorem LaneState.put_ready (l : LaneState) (k v : Nat) : (l.put k v).ready = l.ready := rfl
@[simp] theorem LaneState.inc_mode (l : LaneState) (k : Nat) : (l.inc k).mode = l.mode := rfl
@[simp] theorem LaneState.inc_selfTest (l : LaneState) (k : Nat) : (l.inc k).selfTest = l.selfTest := rfl
@[simp] theorem LaneState.inc_poss (l : LaneState) (k : Nat) : (l.inc k).poss = l.poss := rfl
@[simp] theorem LaneState.inc_port1 (l : LaneState) (k : Nat) : (l.inc k).port1 = l.port1 := rfl
@[simp] theorem LaneState.inc_port2 (l : LaneState) (k : Nat) : (l.inc k).port2 = l.port2 := rfl
@[simp] theorem LaneState.inc_bypassOpen (l : LaneState) (k : Nat) : (l.inc k).bypassOpen = l.bypassOpen := rfl
@[simp] theorem LaneState.inc_ins (l : LaneState) (k : Nat) : (l.inc k).ins = l.ins := rfl
@[simp] theorem LaneState.inc_roll (l : LaneState) (k : Nat) : (l.inc k).roll = l.roll := rfl
@[simp] theorem LaneState.inc_coll (l : LaneState) (k : Nat) : (l.inc k).coll = l.coll := rfl
@[simp] theorem LaneState.inc_log (l : LaneState) (k : Nat) : (l.inc k).log = l.log := rfl
@[simp] theorem LaneState.inc_plan (l : LaneState) (k : Nat) : (l.inc k).plan = l.plan := rfl
@[simp] theorem LaneState.inc_upd (l : LaneState) (k : Nat) : (l.inc k).upd = l.upd := rfl
@[simp] theorem LaneState.inc_time (l : LaneState) (k : Nat) : (l.inc k).time = l.time := rfl
@[simp] theorem LaneState.inc_flow (l : LaneState) (k : Nat) : (l.inc k).flow = l.flow := rfl
@[simp] theorem LaneState.inc_msg (l : LaneState) (k : Nat) : (l.inc k).msg = l.msg := rfl
@[simp] theorem LaneState.inc_can (l : LaneState) (k : Nat) : (l.inc k).can = l.can := rfl
@[simp] theorem LaneState.inc_field (l : LaneState) (k : Nat) : (l.inc k).field = l.field := rfl
@[simp] theorem LaneState.inc_ring (l : LaneState) (k : Nat) : (l.inc k).ring = l.ring := rfl
@[simp] theorem LaneState.inc_echoSeq (l : LaneState) (k : Nat) : (l.inc k).echoSeq = l.echoSeq := rfl
@[simp] theorem LaneState.inc_xmem (l : LaneState) (k : Nat) : (l.inc k).xmem = l.xmem := rfl
@[simp] theorem LaneState.inc_quiet (l : LaneState) (k : Nat) : (l.inc k).quiet = l.quiet := rfl
@[simp] theorem LaneState.inc_awake (l : LaneState) (k : Nat) : (l.inc k).awake = l.awake := rfl
@[simp] theorem LaneState.inc_ready (l : LaneState) (k : Nat) : (l.inc k).ready = l.ready := rfl
@[simp] theorem LaneState.sample_mode (l : LaneState) (k : Nat) (v : Int) : (l.sample k v).mode = l.mode := rfl
@[simp] theorem LaneState.sample_selfTest (l : LaneState) (k : Nat) (v : Int) : (l.sample k v).selfTest = l.selfTest := rfl
@[simp] theorem LaneState.sample_reg (l : LaneState) (k : Nat) (v : Int) : (l.sample k v).reg = l.reg := rfl
@[simp] theorem LaneState.sample_poss (l : LaneState) (k : Nat) (v : Int) : (l.sample k v).poss = l.poss := rfl
@[simp] theorem LaneState.sample_port1 (l : LaneState) (k : Nat) (v : Int) : (l.sample k v).port1 = l.port1 := rfl
@[simp] theorem LaneState.sample_port2 (l : LaneState) (k : Nat) (v : Int) : (l.sample k v).port2 = l.port2 := rfl
@[simp] theorem LaneState.sample_bypassOpen (l : LaneState) (k : Nat) (v : Int) : (l.sample k v).bypassOpen = l.bypassOpen := rfl
@[simp] theorem LaneState.sample_ins (l : LaneState) (k : Nat) (v : Int) : (l.sample k v).ins = l.ins := rfl
@[simp] theorem LaneState.sample_roll (l : LaneState) (k : Nat) (v : Int) : (l.sample k v).roll = l.roll := rfl
@[simp] theorem LaneState.sample_coll (l : LaneState) (k : Nat) (v : Int) : (l.sample k v).coll = l.coll := rfl
@[simp] theorem LaneState.sample_log (l : LaneState) (k : Nat) (v : Int) : (l.sample k v).log = l.log := rfl
@[simp] theorem LaneState.sample_upd (l : LaneState) (k : Nat) (v : Int) : (l.sample k v).upd = l.upd := rfl
@[simp] theorem LaneState.sample_time (l : LaneState) (k : Nat) (v : Int) : (l.sample k v).time = l.time := rfl
@[simp] theorem LaneState.sample_flow (l : LaneState) (k : Nat) (v : Int) : (l.sample k v).flow = l.flow := rfl
@[simp] theorem LaneState.sample_msg (l : LaneState) (k : Nat) (v : Int) : (l.sample k v).msg = l.msg := rfl
@[simp] theorem LaneState.sample_can (l : LaneState) (k : Nat) (v : Int) : (l.sample k v).can = l.can := rfl
@[simp] theorem LaneState.sample_field (l : LaneState) (k : Nat) (v : Int) : (l.sample k v).field = l.field := rfl
@[simp] theorem LaneState.sample_ring (l : LaneState) (k : Nat) (v : Int) : (l.sample k v).ring = l.ring := rfl
@[simp] theorem LaneState.sample_echoSeq (l : LaneState) (k : Nat) (v : Int) : (l.sample k v).echoSeq = l.echoSeq := rfl
@[simp] theorem LaneState.sample_xmem (l : LaneState) (k : Nat) (v : Int) : (l.sample k v).xmem = l.xmem := rfl
@[simp] theorem LaneState.sample_quiet (l : LaneState) (k : Nat) (v : Int) : (l.sample k v).quiet = l.quiet := rfl
@[simp] theorem LaneState.sample_get (l : LaneState) (k : Nat) (v : Int) (j : Nat) : (l.sample k v).get j = l.get j := rfl
@[simp] theorem LaneState.sample_awake (l : LaneState) (k : Nat) (v : Int) : (l.sample k v).awake = l.awake := rfl
@[simp] theorem LaneState.sample_ready (l : LaneState) (k : Nat) (v : Int) : (l.sample k v).ready = l.ready := rfl
@[simp] theorem LaneState.setPinBit_mode (l : LaneState) (n i : Nat) (b : Bool) : (l.setPinBit n i b).mode = l.mode := rfl
@[simp] theorem LaneState.setPinBit_selfTest (l : LaneState) (n i : Nat) (b : Bool) : (l.setPinBit n i b).selfTest = l.selfTest := rfl
@[simp] theorem LaneState.setPinBit_poss (l : LaneState) (n i : Nat) (b : Bool) : (l.setPinBit n i b).poss = l.poss := rfl
@[simp] theorem LaneState.setPinBit_port1 (l : LaneState) (n i : Nat) (b : Bool) : (l.setPinBit n i b).port1 = l.port1 := rfl
@[simp] theorem LaneState.setPinBit_port2 (l : LaneState) (n i : Nat) (b : Bool) : (l.setPinBit n i b).port2 = l.port2 := rfl
@[simp] theorem LaneState.setPinBit_bypassOpen (l : LaneState) (n i : Nat) (b : Bool) : (l.setPinBit n i b).bypassOpen = l.bypassOpen := rfl
@[simp] theorem LaneState.setPinBit_ins (l : LaneState) (n i : Nat) (b : Bool) : (l.setPinBit n i b).ins = l.ins := rfl
@[simp] theorem LaneState.setPinBit_roll (l : LaneState) (n i : Nat) (b : Bool) : (l.setPinBit n i b).roll = l.roll := rfl
@[simp] theorem LaneState.setPinBit_coll (l : LaneState) (n i : Nat) (b : Bool) : (l.setPinBit n i b).coll = l.coll := rfl
@[simp] theorem LaneState.setPinBit_log (l : LaneState) (n i : Nat) (b : Bool) : (l.setPinBit n i b).log = l.log := rfl
@[simp] theorem LaneState.setPinBit_plan (l : LaneState) (n i : Nat) (b : Bool) : (l.setPinBit n i b).plan = l.plan := rfl
@[simp] theorem LaneState.setPinBit_upd (l : LaneState) (n i : Nat) (b : Bool) : (l.setPinBit n i b).upd = l.upd := rfl
@[simp] theorem LaneState.setPinBit_time (l : LaneState) (n i : Nat) (b : Bool) : (l.setPinBit n i b).time = l.time := rfl
@[simp] theorem LaneState.setPinBit_flow (l : LaneState) (n i : Nat) (b : Bool) : (l.setPinBit n i b).flow = l.flow := rfl
@[simp] theorem LaneState.setPinBit_msg (l : LaneState) (n i : Nat) (b : Bool) : (l.setPinBit n i b).msg = l.msg := rfl
@[simp] theorem LaneState.setPinBit_can (l : LaneState) (n i : Nat) (b : Bool) : (l.setPinBit n i b).can = l.can := rfl
@[simp] theorem LaneState.setPinBit_field (l : LaneState) (n i : Nat) (b : Bool) : (l.setPinBit n i b).field = l.field := rfl
@[simp] theorem LaneState.setPinBit_ring (l : LaneState) (n i : Nat) (b : Bool) : (l.setPinBit n i b).ring = l.ring := rfl
@[simp] theorem LaneState.setPinBit_echoSeq (l : LaneState) (n i : Nat) (b : Bool) : (l.setPinBit n i b).echoSeq = l.echoSeq := rfl
@[simp] theorem LaneState.setPinBit_xmem (l : LaneState) (n i : Nat) (b : Bool) : (l.setPinBit n i b).xmem = l.xmem := rfl
@[simp] theorem LaneState.setPinBit_quiet (l : LaneState) (n i : Nat) (b : Bool) : (l.setPinBit n i b).quiet = l.quiet := rfl
@[simp] theorem LaneState.setPinBit_awake (l : LaneState) (n i : Nat) (b : Bool) : (l.setPinBit n i b).awake = l.awake := rfl
@[simp] theorem LaneState.setPinBit_ready (l : LaneState) (n i : Nat) (b : Bool) : (l.setPinBit n i b).ready = l.ready := rfl
@[simp] theorem LaneState.setPending_mode (l : LaneState) (t : Nat) (b : Bool) : (l.setPending t b).mode = l.mode := rfl
@[simp] theorem LaneState.setPending_selfTest (l : LaneState) (t : Nat) (b : Bool) : (l.setPending t b).selfTest = l.selfTest := rfl
@[simp] theorem LaneState.setPending_poss (l : LaneState) (t : Nat) (b : Bool) : (l.setPending t b).poss = l.poss := rfl
@[simp] theorem LaneState.setPending_port1 (l : LaneState) (t : Nat) (b : Bool) : (l.setPending t b).port1 = l.port1 := rfl
@[simp] theorem LaneState.setPending_port2 (l : LaneState) (t : Nat) (b : Bool) : (l.setPending t b).port2 = l.port2 := rfl
@[simp] theorem LaneState.setPending_bypassOpen (l : LaneState) (t : Nat) (b : Bool) : (l.setPending t b).bypassOpen = l.bypassOpen := rfl
@[simp] theorem LaneState.setPending_ins (l : LaneState) (t : Nat) (b : Bool) : (l.setPending t b).ins = l.ins := rfl
@[simp] theorem LaneState.setPending_roll (l : LaneState) (t : Nat) (b : Bool) : (l.setPending t b).roll = l.roll := rfl
@[simp] theorem LaneState.setPending_coll (l : LaneState) (t : Nat) (b : Bool) : (l.setPending t b).coll = l.coll := rfl
@[simp] theorem LaneState.setPending_log (l : LaneState) (t : Nat) (b : Bool) : (l.setPending t b).log = l.log := rfl
@[simp] theorem LaneState.setPending_plan (l : LaneState) (t : Nat) (b : Bool) : (l.setPending t b).plan = l.plan := rfl
@[simp] theorem LaneState.setPending_upd (l : LaneState) (t : Nat) (b : Bool) : (l.setPending t b).upd = l.upd := rfl
@[simp] theorem LaneState.setPending_time (l : LaneState) (t : Nat) (b : Bool) : (l.setPending t b).time = l.time := rfl
@[simp] theorem LaneState.setPending_flow (l : LaneState) (t : Nat) (b : Bool) : (l.setPending t b).flow = l.flow := rfl
@[simp] theorem LaneState.setPending_msg (l : LaneState) (t : Nat) (b : Bool) : (l.setPending t b).msg = l.msg := rfl
@[simp] theorem LaneState.setPending_can (l : LaneState) (t : Nat) (b : Bool) : (l.setPending t b).can = l.can := rfl
@[simp] theorem LaneState.setPending_field (l : LaneState) (t : Nat) (b : Bool) : (l.setPending t b).field = l.field := rfl
@[simp] theorem LaneState.setPending_ring (l : LaneState) (t : Nat) (b : Bool) : (l.setPending t b).ring = l.ring := rfl
@[simp] theorem LaneState.setPending_echoSeq (l : LaneState) (t : Nat) (b : Bool) : (l.setPending t b).echoSeq = l.echoSeq := rfl
@[simp] theorem LaneState.setPending_xmem (l : LaneState) (t : Nat) (b : Bool) : (l.setPending t b).xmem = l.xmem := rfl
@[simp] theorem LaneState.setPending_quiet (l : LaneState) (t : Nat) (b : Bool) : (l.setPending t b).quiet = l.quiet := rfl
@[simp] theorem LaneState.setPending_awake (l : LaneState) (t : Nat) (b : Bool) : (l.setPending t b).awake = l.awake := rfl
@[simp] theorem LaneState.setPending_ready (l : LaneState) (t : Nat) (b : Bool) : (l.setPending t b).ready = l.ready := rfl
@[simp] theorem LaneState.updPin_mode (l : LaneState) (n : Nat) (f : Pin → Pin) : (l.updPin n f).mode = l.mode := rfl
@[simp] theorem LaneState.updPin_selfTest (l : LaneState) (n : Nat) (f : Pin → Pin) : (l.updPin n f).selfTest = l.selfTest := rfl
@[simp] theorem LaneState.updPin_reg (l : LaneState) (n : Nat) (f : Pin → Pin) : (l.updPin n f).reg = l.reg := rfl
@[simp] theorem LaneState.updPin_poss (l : LaneState) (n : Nat) (f : Pin → Pin) : (l.updPin n f).poss = l.poss := rfl
@[simp] theorem LaneState.updPin_port1 (l : LaneState) (n : Nat) (f : Pin → Pin) : (l.updPin n f).port1 = l.port1 := rfl
@[simp] theorem LaneState.updPin_port2 (l : LaneState) (n : Nat) (f : Pin → Pin) : (l.updPin n f).port2 = l.port2 := rfl
@[simp] theorem LaneState.updPin_bypassOpen (l : LaneState) (n : Nat) (f : Pin → Pin) : (l.updPin n f).bypassOpen = l.bypassOpen := rfl
@[simp] theorem LaneState.updPin_ins (l : LaneState) (n : Nat) (f : Pin → Pin) : (l.updPin n f).ins = l.ins := rfl
@[simp] theorem LaneState.updPin_roll (l : LaneState) (n : Nat) (f : Pin → Pin) : (l.updPin n f).roll = l.roll := rfl
@[simp] theorem LaneState.updPin_coll (l : LaneState) (n : Nat) (f : Pin → Pin) : (l.updPin n f).coll = l.coll := rfl
@[simp] theorem LaneState.updPin_log (l : LaneState) (n : Nat) (f : Pin → Pin) : (l.updPin n f).log = l.log := rfl
@[simp] theorem LaneState.updPin_plan (l : LaneState) (n : Nat) (f : Pin → Pin) : (l.updPin n f).plan = l.plan := rfl
@[simp] theorem LaneState.updPin_upd (l : LaneState) (n : Nat) (f : Pin → Pin) : (l.updPin n f).upd = l.upd := rfl
@[simp] theorem LaneState.updPin_time (l : LaneState) (n : Nat) (f : Pin → Pin) : (l.updPin n f).time = l.time := rfl
@[simp] theorem LaneState.updPin_flow (l : LaneState) (n : Nat) (f : Pin → Pin) : (l.updPin n f).flow = l.flow := rfl
@[simp] theorem LaneState.updPin_msg (l : LaneState) (n : Nat) (f : Pin → Pin) : (l.updPin n f).msg = l.msg := rfl
@[simp] theorem LaneState.updPin_can (l : LaneState) (n : Nat) (f : Pin → Pin) : (l.updPin n f).can = l.can := rfl
@[simp] theorem LaneState.updPin_ring (l : LaneState) (n : Nat) (f : Pin → Pin) : (l.updPin n f).ring = l.ring := rfl
@[simp] theorem LaneState.updPin_echoSeq (l : LaneState) (n : Nat) (f : Pin → Pin) : (l.updPin n f).echoSeq = l.echoSeq := rfl
@[simp] theorem LaneState.updPin_xmem (l : LaneState) (n : Nat) (f : Pin → Pin) : (l.updPin n f).xmem = l.xmem := rfl
@[simp] theorem LaneState.updPin_quiet (l : LaneState) (n : Nat) (f : Pin → Pin) : (l.updPin n f).quiet = l.quiet := rfl
@[simp] theorem LaneState.updPin_get (l : LaneState) (n : Nat) (f : Pin → Pin) (j : Nat) : (l.updPin n f).get j = l.get j := rfl
@[simp] theorem LaneState.updPin_awake (l : LaneState) (n : Nat) (f : Pin → Pin) : (l.updPin n f).awake = l.awake := rfl
@[simp] theorem LaneState.updPin_ready (l : LaneState) (n : Nat) (f : Pin → Pin) : (l.updPin n f).ready = l.ready := rfl
@[simp] theorem LaneState.updField_mode (l : LaneState) (f : FieldState → FieldState) : (l.updField f).mode = l.mode := rfl
@[simp] theorem LaneState.updField_selfTest (l : LaneState) (f : FieldState → FieldState) : (l.updField f).selfTest = l.selfTest := rfl
@[simp] theorem LaneState.updField_reg (l : LaneState) (f : FieldState → FieldState) : (l.updField f).reg = l.reg := rfl
@[simp] theorem LaneState.updField_poss (l : LaneState) (f : FieldState → FieldState) : (l.updField f).poss = l.poss := rfl
@[simp] theorem LaneState.updField_port1 (l : LaneState) (f : FieldState → FieldState) : (l.updField f).port1 = l.port1 := rfl
@[simp] theorem LaneState.updField_port2 (l : LaneState) (f : FieldState → FieldState) : (l.updField f).port2 = l.port2 := rfl
@[simp] theorem LaneState.updField_bypassOpen (l : LaneState) (f : FieldState → FieldState) : (l.updField f).bypassOpen = l.bypassOpen := rfl
@[simp] theorem LaneState.updField_ins (l : LaneState) (f : FieldState → FieldState) : (l.updField f).ins = l.ins := rfl
@[simp] theorem LaneState.updField_roll (l : LaneState) (f : FieldState → FieldState) : (l.updField f).roll = l.roll := rfl
@[simp] theorem LaneState.updField_coll (l : LaneState) (f : FieldState → FieldState) : (l.updField f).coll = l.coll := rfl
@[simp] theorem LaneState.updField_log (l : LaneState) (f : FieldState → FieldState) : (l.updField f).log = l.log := rfl
@[simp] theorem LaneState.updField_plan (l : LaneState) (f : FieldState → FieldState) : (l.updField f).plan = l.plan := rfl
@[simp] theorem LaneState.updField_upd (l : LaneState) (f : FieldState → FieldState) : (l.updField f).upd = l.upd := rfl
@[simp] theorem LaneState.updField_time (l : LaneState) (f : FieldState → FieldState) : (l.updField f).time = l.time := rfl
@[simp] theorem LaneState.updField_flow (l : LaneState) (f : FieldState → FieldState) : (l.updField f).flow = l.flow := rfl
@[simp] theorem LaneState.updField_msg (l : LaneState) (f : FieldState → FieldState) : (l.updField f).msg = l.msg := rfl
@[simp] theorem LaneState.updField_can (l : LaneState) (f : FieldState → FieldState) : (l.updField f).can = l.can := rfl
@[simp] theorem LaneState.updField_ring (l : LaneState) (f : FieldState → FieldState) : (l.updField f).ring = l.ring := rfl
@[simp] theorem LaneState.updField_echoSeq (l : LaneState) (f : FieldState → FieldState) : (l.updField f).echoSeq = l.echoSeq := rfl
@[simp] theorem LaneState.updField_xmem (l : LaneState) (f : FieldState → FieldState) : (l.updField f).xmem = l.xmem := rfl
@[simp] theorem LaneState.updField_quiet (l : LaneState) (f : FieldState → FieldState) : (l.updField f).quiet = l.quiet := rfl
@[simp] theorem LaneState.updField_get (l : LaneState) (f : FieldState → FieldState) (j : Nat) : (l.updField f).get j = l.get j := rfl
@[simp] theorem LaneState.updField_awake (l : LaneState) (f : FieldState → FieldState) : (l.updField f).awake = l.awake := rfl
@[simp] theorem LaneState.updField_ready (l : LaneState) (f : FieldState → FieldState) : (l.updField f).ready = l.ready := rfl
@[simp] theorem LaneState.setPort_port_self (l : LaneState) (e : EndId) (p : Port) : (l.setPort e p).port e = p := by cases e <;> rfl
@[simp] theorem LaneState.setPort_port_other (l : LaneState) (e : EndId) (p : Port) : (l.setPort e p).port e.other = l.port e.other := by cases e <;> rfl
@[simp] theorem LaneState.setPort_mode (l : LaneState) (e : EndId) (p : Port) : (l.setPort e p).mode = l.mode := by cases e <;> rfl
@[simp] theorem LaneState.setPort_selfTest (l : LaneState) (e : EndId) (p : Port) : (l.setPort e p).selfTest = l.selfTest := by cases e <;> rfl
@[simp] theorem LaneState.setPort_reg (l : LaneState) (e : EndId) (p : Port) : (l.setPort e p).reg = l.reg := by cases e <;> rfl
@[simp] theorem LaneState.setPort_poss (l : LaneState) (e : EndId) (p : Port) : (l.setPort e p).poss = l.poss := by cases e <;> rfl
@[simp] theorem LaneState.setPort_bypassOpen (l : LaneState) (e : EndId) (p : Port) : (l.setPort e p).bypassOpen = l.bypassOpen := by cases e <;> rfl
@[simp] theorem LaneState.setPort_ins (l : LaneState) (e : EndId) (p : Port) : (l.setPort e p).ins = l.ins := by cases e <;> rfl
@[simp] theorem LaneState.setPort_roll (l : LaneState) (e : EndId) (p : Port) : (l.setPort e p).roll = l.roll := by cases e <;> rfl
@[simp] theorem LaneState.setPort_coll (l : LaneState) (e : EndId) (p : Port) : (l.setPort e p).coll = l.coll := by cases e <;> rfl
@[simp] theorem LaneState.setPort_log (l : LaneState) (e : EndId) (p : Port) : (l.setPort e p).log = l.log := by cases e <;> rfl
@[simp] theorem LaneState.setPort_plan (l : LaneState) (e : EndId) (p : Port) : (l.setPort e p).plan = l.plan := by cases e <;> rfl
@[simp] theorem LaneState.setPort_upd (l : LaneState) (e : EndId) (p : Port) : (l.setPort e p).upd = l.upd := by cases e <;> rfl
@[simp] theorem LaneState.setPort_time (l : LaneState) (e : EndId) (p : Port) : (l.setPort e p).time = l.time := by cases e <;> rfl
@[simp] theorem LaneState.setPort_flow (l : LaneState) (e : EndId) (p : Port) : (l.setPort e p).flow = l.flow := by cases e <;> rfl
@[simp] theorem LaneState.setPort_msg (l : LaneState) (e : EndId) (p : Port) : (l.setPort e p).msg = l.msg := by cases e <;> rfl
@[simp] theorem LaneState.setPort_can (l : LaneState) (e : EndId) (p : Port) : (l.setPort e p).can = l.can := by cases e <;> rfl
@[simp] theorem LaneState.setPort_field (l : LaneState) (e : EndId) (p : Port) : (l.setPort e p).field = l.field := by cases e <;> rfl
@[simp] theorem LaneState.setPort_ring (l : LaneState) (e : EndId) (p : Port) : (l.setPort e p).ring = l.ring := by cases e <;> rfl
@[simp] theorem LaneState.setPort_echoSeq (l : LaneState) (e : EndId) (p : Port) : (l.setPort e p).echoSeq = l.echoSeq := by cases e <;> rfl
@[simp] theorem LaneState.setPort_xmem (l : LaneState) (e : EndId) (p : Port) : (l.setPort e p).xmem = l.xmem := by cases e <;> rfl
@[simp] theorem LaneState.setPort_quiet (l : LaneState) (e : EndId) (p : Port) : (l.setPort e p).quiet = l.quiet := by cases e <;> rfl
@[simp] theorem LaneState.setPort_get (l : LaneState) (e : EndId) (p : Port) (j : Nat) : (l.setPort e p).get j = l.get j := by cases e <;> rfl
@[simp] theorem LaneState.setPort_awake (l : LaneState) (e : EndId) (p : Port) : (l.setPort e p).awake = l.awake := by cases e <;> rfl
@[simp] theorem LaneState.setPort_ready (l : LaneState) (e : EndId) (p : Port) : (l.setPort e p).ready = l.ready := by cases e <;> rfl
@[simp] theorem LaneState.updPort_port_self (l : LaneState) (e : EndId) (f : Port → Port) : (l.updPort e f).port e = f (l.port e) := by cases e <;> rfl
@[simp] theorem LaneState.updPort_port_other (l : LaneState) (e : EndId) (f : Port → Port) : (l.updPort e f).port e.other = l.port e.other := by cases e <;> rfl
@[simp] theorem LaneState.updPort_mode (l : LaneState) (e : EndId) (f : Port → Port) : (l.updPort e f).mode = l.mode := by cases e <;> rfl
@[simp] theorem LaneState.updPort_selfTest (l : LaneState) (e : EndId) (f : Port → Port) : (l.updPort e f).selfTest = l.selfTest := by cases e <;> rfl
@[simp] theorem LaneState.updPort_reg (l : LaneState) (e : EndId) (f : Port → Port) : (l.updPort e f).reg = l.reg := by cases e <;> rfl
@[simp] theorem LaneState.updPort_poss (l : LaneState) (e : EndId) (f : Port → Port) : (l.updPort e f).poss = l.poss := by cases e <;> rfl
@[simp] theorem LaneState.updPort_bypassOpen (l : LaneState) (e : EndId) (f : Port → Port) : (l.updPort e f).bypassOpen = l.bypassOpen := by cases e <;> rfl
@[simp] theorem LaneState.updPort_ins (l : LaneState) (e : EndId) (f : Port → Port) : (l.updPort e f).ins = l.ins := by cases e <;> rfl
@[simp] theorem LaneState.updPort_roll (l : LaneState) (e : EndId) (f : Port → Port) : (l.updPort e f).roll = l.roll := by cases e <;> rfl
@[simp] theorem LaneState.updPort_coll (l : LaneState) (e : EndId) (f : Port → Port) : (l.updPort e f).coll = l.coll := by cases e <;> rfl
@[simp] theorem LaneState.updPort_log (l : LaneState) (e : EndId) (f : Port → Port) : (l.updPort e f).log = l.log := by cases e <;> rfl
@[simp] theorem LaneState.updPort_plan (l : LaneState) (e : EndId) (f : Port → Port) : (l.updPort e f).plan = l.plan := by cases e <;> rfl
@[simp] theorem LaneState.updPort_upd (l : LaneState) (e : EndId) (f : Port → Port) : (l.updPort e f).upd = l.upd := by cases e <;> rfl
@[simp] theorem LaneState.updPort_time (l : LaneState) (e : EndId) (f : Port → Port) : (l.updPort e f).time = l.time := by cases e <;> rfl
@[simp] theorem LaneState.updPort_flow (l : LaneState) (e : EndId) (f : Port → Port) : (l.updPort e f).flow = l.flow := by cases e <;> rfl
@[simp] theorem LaneState.updPort_msg (l : LaneState) (e : EndId) (f : Port → Port) : (l.updPort e f).msg = l.msg := by cases e <;> rfl
@[simp] theorem LaneState.updPort_can (l : LaneState) (e : EndId) (f : Port → Port) : (l.updPort e f).can = l.can := by cases e <;> rfl
@[simp] theorem LaneState.updPort_field (l : LaneState) (e : EndId) (f : Port → Port) : (l.updPort e f).field = l.field := by cases e <;> rfl
@[simp] theorem LaneState.updPort_ring (l : LaneState) (e : EndId) (f : Port → Port) : (l.updPort e f).ring = l.ring := by cases e <;> rfl
@[simp] theorem LaneState.updPort_echoSeq (l : LaneState) (e : EndId) (f : Port → Port) : (l.updPort e f).echoSeq = l.echoSeq := by cases e <;> rfl
@[simp] theorem LaneState.updPort_xmem (l : LaneState) (e : EndId) (f : Port → Port) : (l.updPort e f).xmem = l.xmem := by cases e <;> rfl
@[simp] theorem LaneState.updPort_quiet (l : LaneState) (e : EndId) (f : Port → Port) : (l.updPort e f).quiet = l.quiet := by cases e <;> rfl
@[simp] theorem LaneState.updPort_get (l : LaneState) (e : EndId) (f : Port → Port) (j : Nat) : (l.updPort e f).get j = l.get j := by cases e <;> rfl
@[simp] theorem LaneState.updPort_awake (l : LaneState) (e : EndId) (f : Port → Port) : (l.updPort e f).awake = l.awake := by cases e <;> rfl
@[simp] theorem LaneState.updPort_ready (l : LaneState) (e : EndId) (f : Port → Port) : (l.updPort e f).ready = l.ready := by cases e <;> rfl

end Sys2Proof.Machine
end

