-- ==== Sys2Proof/Laws/Tables.lean ====
section
/-! SUPPORT. The sparse tables of the state: reading after writing, the canonical form, and that equal contents in
canonical form are equal data; rising tables; bytes and numbers. -/

namespace Sys2Proof.Machine

section tables

variable {α : Type} [DecidableEq α] {d : Nat → α}

/-! ### Canonical tables -/

/-- A table that is canonical from a bound on is canonical from any lower bound on. -/
theorem tabCanonFrom_mono {b c : Nat} {t : List (Nat × α)} (h : c ≤ b) (ht : tabCanonFrom d b t = true) :
    tabCanonFrom d c t = true := by
  cases t with
  | nil => rfl
  | cons e t =>
    obtain ⟨k, v⟩ := e
    simp only [tabCanonFrom, Bool.and_eq_true, decide_eq_true_eq] at ht ⊢
    exact ⟨⟨Nat.le_trans h ht.1.1, ht.1.2⟩, ht.2⟩

/-- Below the bound of a canonical table, nothing is listed. -/
theorem tabGet_below {b k : Nat} {t : List (Nat × α)} (h : k < b) (ht : tabCanonFrom d b t = true) : tabGet d k t = d k := by
  induction t generalizing b with
  | nil => rfl
  | cons e t ih =>
    obtain ⟨j, v⟩ := e
    simp only [tabCanonFrom, Bool.and_eq_true, decide_eq_true_eq] at ht
    have hj : j ≠ k := by omega
    simp only [tabGet, if_neg hj]
    exact ih (by omega) ht.2

/-- A write changes no other key. -/
theorem tabGet_tabSet_ne {j k : Nat} (h : j ≠ k) (v : α) (t : List (Nat × α)) : tabGet d j (tabSet d k v t) = tabGet d j t := by
  induction t with
  | nil =>
    simp only [tabSet]
    split <;> simp [tabGet, Ne.symm h]
  | cons e t ih =>
    obtain ⟨i, w⟩ := e
    simp only [tabSet]
    split
    · split <;> simp [tabGet, Ne.symm h]
    · split
      · subst_vars
        split <;> simp [tabGet, Ne.symm h]
      · simp only [tabGet, ih]

/-- What a canonical table lists from a key on is canonical after a write at that key or above. -/
theorem tabCanonFrom_tabSet {b k : Nat} (h : b ≤ k) (v : α) {t : List (Nat × α)} (ht : tabCanonFrom d b t = true) :
    tabCanonFrom d b (tabSet d k v t) = true := by
  induction t generalizing b with
  | nil =>
    simp only [tabSet]
    split
    · rfl
    · simp [tabCanonFrom, *]
  | cons e t ih =>
    obtain ⟨i, w⟩ := e
    have hc := ht
    simp only [tabCanonFrom, Bool.and_eq_true, decide_eq_true_eq] at ht
    simp only [tabSet]
    split
    · split
      · exact hc
      · simp only [tabCanonFrom, Bool.and_eq_true, decide_eq_true_eq]
        exact ⟨⟨h, ‹_›⟩, ⟨by omega, ht.1.2⟩, ht.2⟩
    · split
      · subst_vars
        split
        · exact tabCanonFrom_mono (by omega) ht.2
        · simp only [tabCanonFrom, Bool.and_eq_true, decide_eq_true_eq]
          exact ⟨⟨h, ‹_›⟩, ht.2⟩
      · simp only [tabCanonFrom, Bool.and_eq_true, decide_eq_true_eq]
        exact ⟨ht.1, ih (by omega) ht.2⟩

/-- A write keeps the canonical form. -/
theorem tabCanon_tabSet (k : Nat) (v : α) {t : List (Nat × α)} (ht : tabCanon d t = true) :
    tabCanon d (tabSet d k v t) = true := tabCanonFrom_tabSet (Nat.zero_le k) v ht

/-- A read after a write to the same key of a canonical table gives the value written. -/
theorem tabGet_tabSet_from {b k : Nat} (v : α) {t : List (Nat × α)} (ht : tabCanonFrom d b t = true) :
    tabGet d k (tabSet d k v t) = v := by
  induction t generalizing b with
  | nil =>
    simp only [tabSet]
    split <;> simp [tabGet, *]
  | cons e t ih =>
    obtain ⟨i, w⟩ := e
    have hc := ht
    simp only [tabCanonFrom, Bool.and_eq_true, decide_eq_true_eq] at ht
    simp only [tabSet]
    split
    · split
      · have hi : i ≠ k := by omega
        rw [‹v = d k›]
        simp only [tabGet, if_neg hi]
        exact tabGet_below (by omega) ht.2
      · simp [tabGet]
    · split
      · subst_vars
        split
        · rw [tabGet_below (by omega) ht.2]
          exact (‹_› : v = d _).symm
        · simp [tabGet]
      · have hi : i ≠ k := by omega
        simp only [tabGet, if_neg hi]
        exact ih ht.2

/-- A read after a write to the same key gives the value written. -/
theorem tabGet_tabSet_self (k : Nat) (v : α) {t : List (Nat × α)} (ht : tabCanon d t = true) :
    tabGet d k (tabSet d k v t) = v := tabGet_tabSet_from v ht

/-- Writes to consecutive keys keep the canonical form. -/
theorem tabCanon_tabSetAll (k : Nat) (vs : List α) {t : List (Nat × α)} (ht : tabCanon d t = true) :
    tabCanon d (tabSetAll d k vs t) = true := by
  induction vs generalizing k t with
  | nil => exact ht
  | cons v vs ih => exact ih (k + 1) (tabCanon_tabSet k v ht)

/-- Writes to consecutive keys change no key outside them. -/
theorem tabGet_tabSetAll_outside {j k : Nat} (vs : List α) (t : List (Nat × α)) (h : j < k ∨ k + vs.length ≤ j) :
    tabGet d j (tabSetAll d k vs t) = tabGet d j t := by
  induction vs generalizing k t with
  | nil => rfl
  | cons v vs ih =>
    simp only [List.length_cons] at h
    rw [tabSetAll, ih _ (by omega), tabGet_tabSet_ne (by omega)]

/-- Two canonical tables that read alike from their bound on are one table. -/
theorem tab_ext_from {b : Nat} {t u : List (Nat × α)} (ht : tabCanonFrom d b t = true) (hu : tabCanonFrom d b u = true)
    (h : ∀ k, b ≤ k → tabGet d k t = tabGet d k u) : t = u := by
  induction t generalizing b u with
  | nil =>
    cases u with
    | nil => rfl
    | cons e u =>
      obtain ⟨k, v⟩ := e
      simp only [tabCanonFrom, Bool.and_eq_true, decide_eq_true_eq] at hu
      have := h k hu.1.1
      simp only [tabGet, if_pos] at this
      exact absurd this.symm hu.1.2
  | cons e t ih =>
    obtain ⟨k, v⟩ := e
    simp only [tabCanonFrom, Bool.and_eq_true, decide_eq_true_eq] at ht
    cases u with
    | nil =>
      have := h k ht.1.1
      simp only [tabGet, if_pos] at this
      exact absurd this ht.1.2
    | cons e u =>
      obtain ⟨j, w⟩ := e
      simp only [tabCanonFrom, Bool.and_eq_true, decide_eq_true_eq] at hu
      rcases Nat.lt_trichotomy k j with hkj | hkj | hkj
      · have := h k ht.1.1
        simp only [tabGet, if_pos, if_neg (Nat.ne_of_gt hkj)] at this
        rw [tabGet_below (by omega) hu.2] at this
        exact absurd this ht.1.2
      · subst hkj
        have hv := h k ht.1.1
        simp only [tabGet, if_pos] at hv
        subst hv
        rw [ih ht.2 hu.2 (fun i hi => by
          have := h i (by omega)
          simpa only [tabGet, if_neg (show k ≠ i by omega)] using this)]
      · have := h j hu.1.1
        simp only [tabGet, if_pos, if_neg (Nat.ne_of_gt hkj)] at this
        rw [tabGet_below (by omega) ht.2] at this
        exact absurd this.symm hu.1.2

end tables

/-! ### Rising tables -/

section rising

variable {α : Type}

/-- A change at a key of a table whose keys are at least b keeps them so if the key is. -/
theorem changeAt_keys (z : α) (n : Nat) (f : α → α) (t : List (Nat × α)) :
    ∀ e ∈ changeAt z n f t, e.1 = n ∨ ∃ e' ∈ t, e'.1 = e.1 := by
  induction t with
  | nil => simp [changeAt]
  | cons a t ih =>
    obtain ⟨k, v⟩ := a
    intro e he
    simp only [changeAt] at he
    split at he
    · simp only [List.mem_cons] at he
      rcases he with rfl | rfl | he
      · exact .inl rfl
      · exact .inr ⟨_, by simp, rfl⟩
      · exact .inr ⟨e, by simp [he], rfl⟩
    · split at he
      · simp only [List.mem_cons] at he
        rcases he with rfl | he
        · exact .inr ⟨(k, v), by simp, rfl⟩
        · exact .inr ⟨e, by simp [he], rfl⟩
      · simp only [List.mem_cons] at he
        rcases he with rfl | he
        · exact .inr ⟨_, by simp, rfl⟩
        · rcases ih e he with h | ⟨e', h, h'⟩
          · exact .inl h
          · exact .inr ⟨e', by simp [h], h'⟩

/-- A change keeps a table rising. -/
theorem rising_changeAt (z : α) (n : Nat) (f : α → α) {t : List (Nat × α)} (h : Rising t) : Rising (changeAt z n f t) := by
  induction t with
  | nil => simp [changeAt]
  | cons a t ih =>
    obtain ⟨k, v⟩ := a
    have h := List.pairwise_cons.mp h
    simp only [changeAt]
    split
    · refine List.pairwise_cons.mpr ⟨fun e he => ?_, List.pairwise_cons.mpr h⟩
      rcases List.mem_cons.mp he with rfl | he
      · assumption
      · exact Nat.lt_trans ‹_› (h.1 e he)
    · split
      · exact List.pairwise_cons.mpr ⟨h.1, h.2⟩
      · refine List.pairwise_cons.mpr ⟨fun e he => ?_, ih h.2⟩
        rcases changeAt_keys z n f t e he with h' | ⟨e', he', h'⟩
        · simp only [h']
          omega
        · rw [← h']
          exact h.1 e' he'

/-- A lookup after a change at another key. -/
theorem lookupD_changeAt_ne (z : α) {m n : Nat} (h : m ≠ n) (f : α → α) (t : List (Nat × α)) :
    lookupD z m (changeAt z n f t) = lookupD z m t := by
  induction t with
  | nil => simp [changeAt, lookupD, Ne.symm h]
  | cons a t ih =>
    obtain ⟨k, v⟩ := a
    simp only [changeAt]
    split
    · simp [lookupD, Ne.symm h]
    · split
      · subst_vars
        simp [lookupD, Ne.symm h]
      · by_cases hk : k = m
        · simp [lookupD, hk]
        · simpa [lookupD, List.find?_cons, hk] using ih

/-- In a rising table whose keys are above n, n is not listed. -/
theorem lookupD_above (z : α) {n : Nat} {t : List (Nat × α)} (h : ∀ e ∈ t, n < e.1) : lookupD z n t = z := by
  induction t with
  | nil => rfl
  | cons a t ih =>
    have ha : a.1 ≠ n := Nat.ne_of_gt (h a (by simp))
    simpa [lookupD, List.find?_cons, ha] using ih (fun e he => h e (by simp [he]))

/-- A lookup after a change at the same key of a rising table. -/
theorem lookupD_changeAt_self (z : α) (n : Nat) (f : α → α) {t : List (Nat × α)} (h : Rising t) :
    lookupD z n (changeAt z n f t) = f (lookupD z n t) := by
  induction t with
  | nil => simp [changeAt, lookupD]
  | cons a t ih =>
    obtain ⟨k, v⟩ := a
    have h := List.pairwise_cons.mp h
    simp only [changeAt]
    split
    · have : lookupD z n ((k, v) :: t) = z :=
        lookupD_above z (fun e he => by
          rcases List.mem_cons.mp he with rfl | he
          · assumption
          · exact Nat.lt_trans ‹_› (h.1 e he))
      rw [this]
      simp [lookupD]
    · split
      · subst_vars
        simp [lookupD]
      · have hk : k ≠ n := fun h => ‹¬ n = k› h.symm
        simpa [lookupD, List.find?_cons, hk] using ih h.2

end rising

/-! ### Bytes (R10) -/

/-- A number of k bytes has k bytes. -/
@[simp] theorem toBytes_length (k n : Nat) : (toBytes k n).length = k := by
  induction k with
  | zero => rfl
  | succ k ih => simp [toBytes, ih]

/-- The number that bytes spell, from a start value on. -/
theorem foldl_bytes (l : List Byte) (a : Nat) :
    l.foldl (fun a b => a * 256 + b.toNat) a = a * 256 ^ l.length + fromBytes l := by
  induction l generalizing a with
  | nil => simp [fromBytes]
  | cons b l ih =>
    have h : fromBytes (b :: l) = (0 * 256 + b.toNat) * 256 ^ l.length + fromBytes l := by
      rw [fromBytes, List.foldl_cons, ih]
    rw [List.foldl_cons, ih, h, List.length_cons, Nat.pow_succ]
    ring

/-- The bytes of a number spell it, cut to their width. -/
theorem fromBytes_toBytes (k n : Nat) : fromBytes (toBytes k n) = n % 256 ^ k := by
  induction k with
  | zero => simp [toBytes, fromBytes, Nat.mod_one]
  | succ k ih =>
    rw [toBytes, fromBytes, List.foldl_cons, foldl_bytes, ih, toBytes_length, Nat.zero_mul, Nat.zero_add,
      BitVec.toNat_ofNat, Nat.shiftRight_eq_div_pow, Nat.pow_mul, show (2 ^ 8 : Nat) = 256 from rfl, Nat.pow_succ,
      Nat.mod_mul, Nat.mul_comm (n / 256 ^ k % 256), Nat.add_comm]

end Sys2Proof.Machine
end

