-- ==== Sys2Proof/Laws/Registers.lean ====
section
/-! SUPPORT. Registers of lanes and of the module: a read after a write, and the canonical form of the state. -/

namespace Sys2Proof.Machine

/-! ### A lane -/

/-- A read of the register written gives the value, cut to the entry's width. -/
theorem LaneState.put_get_self (l : LaneState) (k v : Nat) (h : tabCanon regDefault l.reg = true) :
    (l.put k v).get k = v % 2 ^ regWidth k := tabGet_tabSet_self k _ h

/-- A read of another register gives what it held. -/
theorem LaneState.put_get_ne (l : LaneState) {j k : Nat} (h : j ≠ k) (v : Nat) : (l.put k v).get j = l.get j :=
  tabGet_tabSet_ne h _ _

/-- A counter read after it was advanced. -/
theorem LaneState.inc_get_self (l : LaneState) (k : Nat) (h : tabCanon regDefault l.reg = true)
    (hk : l.get k + 1 < 2 ^ regWidth k) : (l.inc k).get k = l.get k + 1 := by
  rw [LaneState.inc, LaneState.put_get_self _ _ _ h, countUp, if_pos hk, Nat.mod_eq_of_lt hk]

/-- A counter advanced leaves every other register alone. -/
theorem LaneState.inc_get_ne (l : LaneState) {j k : Nat} (h : j ≠ k) : (l.inc k).get j = l.get j :=
  l.put_get_ne h _

/-- A register written keeps the canonical form. -/
theorem LaneState.put_canon (l : LaneState) (k v : Nat) (h : tabCanon regDefault l.reg = true) :
    tabCanon regDefault (l.put k v).reg = true := tabCanon_tabSet k _ h

/-- A counter advanced keeps the canonical form. -/
theorem LaneState.inc_canon (l : LaneState) (k : Nat) (h : tabCanon regDefault l.reg = true) :
    tabCanon regDefault (l.inc k).reg = true := l.put_canon k _ h

/-! ### The module -/

/-- The registers of a lane of a canonical state are canonical. -/
theorem lane_regs_canon {s : State} (h : Canon s) (x : LaneId) : tabCanon regDefault (s.lane x).reg = true := by
  cases x
  · exact h.2.2.2.1.1
  · exact h.2.2.2.2.1

/-- The lanes of a canonical state are canonical. -/
theorem lane_canon {s : State} (h : Canon s) (x : LaneId) : LaneCanon (s.lane x) := by
  cases x
  · exact h.2.2.2.1
  · exact h.2.2.2.2

/-- A read of the lane's register that was written. -/
theorem State.put_get_self {s : State} (h : Canon s) (x : LaneId) (k v : Nat) :
    (s.put x k v).get x k = v % 2 ^ regWidth k := by
  rw [State.get, State.put_lane_self]
  exact LaneState.put_get_self _ k v (lane_regs_canon h x)

/-- A read of another register of the lane. -/
theorem State.put_get_ne (s : State) (x : LaneId) {j k : Nat} (h : j ≠ k) (v : Nat) : (s.put x k v).get x j = s.get x j := by
  rw [State.get, State.put_lane_self]
  exact LaneState.put_get_ne _ h v

/-- A register of the other lane. -/
theorem State.put_get_peer (s : State) (x : LaneId) (j k v : Nat) : (s.put x k v).get x.peer j = s.get x.peer j := by
  rw [State.get, State.put_lane_peer, State.get]

/-- A read of the module-level register that was written. -/
theorem State.mput_mget_self {s : State} (h : Canon s) (k v : Nat) : (s.mput k v).mget k = v % 2 ^ regWidth k :=
  tabGet_tabSet_self k _ h.1

/-- A read of another module-level register. -/
theorem State.mput_mget_ne (s : State) {j k : Nat} (h : j ≠ k) (v : Nat) : (s.mput k v).mget j = s.mget j :=
  tabGet_tabSet_ne h _ _

/-- A module-level counter advanced. -/
theorem State.minc_mget_self {s : State} (h : Canon s) (k : Nat) (hk : s.mget k + 1 < 2 ^ regWidth k) :
    (s.minc k).mget k = s.mget k + 1 := by
  rw [State.minc, State.mput_mget_self h, countUp, if_pos hk, Nat.mod_eq_of_lt hk]

/-! ### The canonical form of the state -/

/-- A change of a lane that keeps the lane canonical keeps the state so. -/
theorem canon_upd {s : State} (h : Canon s) (x : LaneId) (f : LaneState → LaneState) (hf : LaneCanon (f (s.lane x))) :
    Canon (s.upd x f) := by
  obtain ⟨h1, h2, h3, h4, h5⟩ := h
  cases x
  · exact ⟨h1, h2, h3, hf, h5⟩
  · exact ⟨h1, h2, h3, h4, hf⟩

/-- A change of both lanes alike. -/
theorem canon_updBoth {s : State} (h : Canon s) (f : LaneState → LaneState) (hf : ∀ l, LaneCanon l → LaneCanon (f l)) :
    Canon (s.updBoth f) :=
  canon_upd (canon_upd h .A f (hf _ (lane_canon h .A))) .B f (hf _ (lane_canon h .B))

/-- A register written keeps a lane canonical. -/
theorem laneCanon_put {l : LaneState} (h : LaneCanon l) (k v : Nat) : LaneCanon (l.put k v) :=
  ⟨l.put_canon k v h.1, h.2⟩

/-- A counter advanced keeps a lane canonical. -/
theorem laneCanon_inc {l : LaneState} (h : LaneCanon l) (k : Nat) : LaneCanon (l.inc k) := laneCanon_put h k _

/-- A pin changed keeps a lane canonical. -/
theorem laneCanon_updPin {l : LaneState} (h : LaneCanon l) (n : Nat) (f : Pin → Pin) : LaneCanon (l.updPin n f) :=
  ⟨h.1, h.2.1, rising_changeAt _ _ _ h.2.2.1, h.2.2.2⟩

/-- A port changed keeps a lane canonical. -/
theorem laneCanon_updPort {l : LaneState} (h : LaneCanon l) (e : EndId) (f : Port → Port) : LaneCanon (l.updPort e f) := by
  cases e <;> exact h

/-- A register written keeps the state canonical. -/
theorem canon_put {s : State} (h : Canon s) (x : LaneId) (k v : Nat) : Canon (s.put x k v) :=
  canon_upd h x _ (laneCanon_put (lane_canon h x) k v)

/-- A counter advanced keeps the state canonical. -/
theorem canon_inc {s : State} (h : Canon s) (x : LaneId) (k : Nat) : Canon (s.inc x k) :=
  canon_upd h x _ (laneCanon_inc (lane_canon h x) k)

/-- A module-level register written keeps the state canonical. -/
theorem canon_mput {s : State} (h : Canon s) (k v : Nat) : Canon (s.mput k v) := ⟨tabCanon_tabSet k _ h.1, h.2⟩

/-- A module-level counter advanced keeps the state canonical. -/
theorem canon_minc {s : State} (h : Canon s) (k : Nat) : Canon (s.minc k) := canon_mput h k _

/-- A collector's class level raised keeps its tables canonical. -/
theorem collCanon_level {c : Collector} (h : CollCanon c) (k v : Nat) :
    CollCanon { c with level := tabSet (fun _ => 0) k v c.level } := ⟨tabCanon_tabSet k v h.1, h.2⟩

/-- A collector changed keeps the state canonical if it stays so itself. -/
theorem canon_updColl {s : State} (h : Canon s) (c : CollectorId) (f : Collector → Collector)
    (hf : CollCanon (f (s.collector c))) : Canon (s.updColl c f) := by
  cases c with
  | lane x => exact canon_upd h x _ ⟨(lane_canon h x).1, (lane_canon h x).2.1, (lane_canon h x).2.2.1, (lane_canon h x).2.2.2.1, hf⟩
  | module => exact ⟨h.1, hf, h.2.2⟩

/-- A write of exchange memory keeps a lane canonical. -/
theorem laneCanon_xmem {l : LaneState} (h : LaneCanon l) (o : Nat) (d : List Byte) :
    LaneCanon { l with xmem := tabSetAll (fun _ => 0) o d l.xmem } := ⟨h.1, tabCanon_tabSetAll o d h.2.1, h.2.2⟩

end Sys2Proof.Machine
end

