-- ==== Sys2Proof/Laws/Operations.lean ====
section
/-! SUPPORT. What the shared operations can do: the checks of an access, fanning out, recording an event, a refusal, a Roll
trigger, and a collector that does not run. -/

namespace Sys2Proof.Machine

/-! ### The checks of an access (R480) -/

/-- A command that passes its checks runs at the lane that its selector reaches. -/
theorem State.command_runs {s : State} {a : Acc} {x : LaneId} {index sub role : Nat} {state : LaneId → Bool} {value : Bool}
    {run : LaneId → State} (h : Reaches s a role x) (hs : state x = true) (hv : value = true) :
    s.command a index sub role state value run = run x := by
  obtain ⟨h1, h2, h3, -⟩ := h
  simp [State.command, State.commandAt, h1, h2, Nat.not_lt.mpr h3, hs, hv]

/-- A command whose state check fails is refused and recorded. -/
theorem State.command_refused {s : State} {a : Acc} {x : LaneId} {index sub role : Nat} {state : LaneId → Bool}
    {value : Bool} {run : LaneId → State} (h : Reaches s a role x) (hs : state x = false) :
    s.command a index sub role state value run = s.refuse a index sub := by
  obtain ⟨h1, h2, h3, -⟩ := h
  simp [State.command, State.commandAt, h1, h2, Nat.not_lt.mpr h3, hs]

/-- A command whose value is out of range. -/
theorem State.command_range {s : State} {a : Acc} {x : LaneId} {index sub role : Nat} {state : LaneId → Bool} {value : Bool}
    {run : LaneId → State} (h : Reaches s a role x) (hs : state x = true) (hv : value = false) :
    s.command a index sub role state value run = s.abort abRange := by
  obtain ⟨h1, h2, h3, -⟩ := h
  simp [State.command, State.commandAt, h1, h2, Nat.not_lt.mpr h3, hs, hv]

/-- Everything that a command can come to. -/
theorem State.command_cases (s : State) (a : Acc) (index sub role : Nat) (state : LaneId → Bool) (value : Bool)
    (run : LaneId → State) :
    s.command a index sub role state value run = s.abort abLane ∨
    s.command a index sub role state value run = s.abort abDenied ∨
    s.command a index sub role state value run = s.refuse a index sub ∨
    s.command a index sub role state value run = s.abort abRange ∨
    ∃ x, (s.target a.sel = some x ∧ s.available x = true ∧ role ≤ s.role a.path) ∧ state x = true ∧ value = true ∧
      s.command a index sub role state value run = run x := by
  unfold State.command State.commandAt
  split
  · exact .inl rfl
  · split
    · exact .inl rfl
    · split
      · exact .inr (.inl rfl)
      · split
        · exact .inr (.inr (.inl rfl))
        · split
          · exact .inr (.inr (.inr (.inl rfl)))
          · rename_i x ht ha hr hst hv
            exact .inr (.inr (.inr (.inr ⟨x, ⟨ht, by simpa using ha, Nat.not_lt.mp hr⟩, by simpa using hst, by simpa using hv, rfl⟩)))

/-- A module-level command that passes its checks runs. -/
theorem State.moduleCommand_runs {s : State} {a : Acc} {index sub role : Nat} {state value : Bool} {run : State}
    (h : ReachesModule s a role) (hs : state = true) (hv : value = true) :
    s.moduleCommand a index sub role state value run = run := by
  simp [State.moduleCommand, h.1, Nat.not_lt.mpr h.2.1, hs, hv]

/-- Everything that a module-level command can come to. -/
theorem State.moduleCommand_cases (s : State) (a : Acc) (index sub role : Nat) (state value : Bool) (run : State) :
    s.moduleCommand a index sub role state value run = s.abort abLane ∨
    s.moduleCommand a index sub role state value run = s.abort abDenied ∨
    s.moduleCommand a index sub role state value run = s.refuse a index sub ∨
    s.moduleCommand a index sub role state value run = s.abort abRange ∨
    ((s.awake = true ∧ role ≤ s.role a.path) ∧ state = true ∧ value = true ∧ s.moduleCommand a index sub role state value run = run) := by
  unfold State.moduleCommand
  split
  · exact .inl rfl
  · split
    · exact .inr (.inl rfl)
    · split
      · exact .inr (.inr (.inl rfl))
      · split
        · exact .inr (.inr (.inr (.inl rfl)))
        · rename_i ha hr hst hv
          exact .inr (.inr (.inr (.inr ⟨⟨by simpa using ha, Nat.not_lt.mp hr⟩, by simpa using hst, by simpa using hv, rfl⟩)))

/-! ### Fanning out (R471) -/

/-- What is owed to a lane changes nothing else. -/
theorem State.owes_frame (s t : State) : ∃ o, s.owes t = { t with owed := o } := by
  unfold State.owes
  split <;> exact ⟨_, rfl⟩

/-- A write that is owed leaves the lanes as it left them. -/
theorem State.owes_lane (s t : State) (x : LaneId) : (s.owes t).lane x = t.lane x := by
  obtain ⟨o, h⟩ := s.owes_frame t
  rw [h]
  cases x <;> rfl

/-- What a lane holds after a fan out: its change, or what it held. -/
theorem State.fanOutEach_lane (s : State) (sel : Sel) (f : LaneId → LaneState → LaneState) (x : LaneId) :
    (s.fanOutEach sel f).lane x = f x (s.lane x) ∨ (s.fanOutEach sel f).lane x = s.lane x := by
  cases sel with
  | lane y =>
    cases x <;> cases y <;> first
      | exact .inl rfl
      | exact .inr rfl
  | acting =>
    simp only [State.fanOutEach, State.owes_lane]
    cases x <;> split <;> split <;> first
      | exact .inl rfl
      | exact .inr rfl

/-- A fan out of one change: the change, or what the lane held. -/
theorem State.fanOut_lane (s : State) (sel : Sel) (f : LaneState → LaneState) (x : LaneId) :
    (s.fanOut sel f).lane x = f (s.lane x) ∨ (s.fanOut sel f).lane x = s.lane x :=
  s.fanOutEach_lane sel (fun _ => f) x

/-- A fan out changes the lanes, and what is owed to one, alone. -/
theorem State.fanOutEach_frame (s : State) (sel : Sel) (f : LaneId → LaneState → LaneState) :
    ∃ a b o, s.fanOutEach sel f = { s with laneA := a, laneB := b, owed := o } := by
  cases sel with
  | lane y => cases y <;> exact ⟨_, _, _, rfl⟩
  | acting =>
    simp only [State.fanOutEach]
    split <;> split <;> (obtain ⟨o, h⟩ := State.owes_frame s _; rw [h]; exact ⟨_, _, _, rfl⟩)

/-- A fan out of changes that keep lanes canonical. -/
theorem canon_fanOutEach {s : State} (h : Canon s) (sel : Sel) (f : LaneId → LaneState → LaneState)
    (hf : ∀ x l, LaneCanon l → LaneCanon (f x l)) : Canon (s.fanOutEach sel f) := by
  have owes (t : State) (ht : Canon t) : Canon (s.owes t) := by
    obtain ⟨o, e⟩ := s.owes_frame t
    rw [e]
    exact ht
  cases sel with
  | lane y => exact canon_upd h y (f y) (hf _ _ (lane_canon h y))
  | acting =>
    simp only [State.fanOutEach]
    split <;> split <;> first
      | exact owes _ (canon_upd (canon_upd h .A (f .A) (hf _ _ h.2.2.2.1)) .B (f .B) (hf _ _ h.2.2.2.2))
      | exact owes _ (canon_upd h .A (f .A) (hf _ _ h.2.2.2.1))
      | exact owes _ (canon_upd h .B (f .B) (hf _ _ h.2.2.2.2))
      | exact owes _ h

/-- A fan out of a change that keeps lanes canonical. -/
theorem canon_fanOut {s : State} (h : Canon s) (sel : Sel) (f : LaneState → LaneState)
    (hf : ∀ l, LaneCanon l → LaneCanon (f l)) : Canon (s.fanOut sel f) :=
  canon_fanOutEach h sel (fun _ => f) (fun _ => hf)

/-! ### Recording (R426 to R440) -/

/-- An event that is not recorded is counted, in a register and in the copies that outlive it, and nothing else changes. -/
theorem LaneState.lose_frame (l : LaneState) (code : Nat) : ∃ ctl die reg,
    l.lose code = { l with log := { l.log with ctl := ctl, die := die }, reg := reg } ∧
    (∀ k, k ≠ 0x150300 → k ≠ 0x150301 → k ≠ 0x150C02 → tabGet regDefault k reg = l.get k) ∧
    (tabCanon regDefault l.reg = true → tabCanon regDefault reg = true) := by
  unfold LaneState.lose
  split
  · exact ⟨l.log.ctl, _, _, rfl,
      fun k _ h2 h3 => by rw [LaneState.put, tabGet_tabSet_ne h2]; exact tabGet_tabSet_ne h3 _ _,
      fun h => tabCanon_tabSet _ _ (tabCanon_tabSet _ _ h)⟩
  · exact ⟨_, l.log.die, _, rfl,
      fun k h1 h2 _ => by rw [LaneState.put, tabGet_tabSet_ne h2]; exact tabGet_tabSet_ne h1 _ _,
      fun h => tabCanon_tabSet _ _ (tabCanon_tabSet _ _ h)⟩

/-- An event that reaches a recorder changes its queue, its mark of overflow and the counts of lost events, and nothing
else. -/
theorem LaneState.record_frame (l : LaneState) (holdUp : Bool) (code : Nat) (data : List Byte) :
    ∃ log reg, l.record holdUp code data = { l with log := log, reg := reg } ∧ log.slots = l.log.slots ∧
      (∀ k, k ≠ 0x150300 → k ≠ 0x150301 → k ≠ 0x150C02 → tabGet regDefault k reg = l.get k) ∧
      (tabCanon regDefault l.reg = true → tabCanon regDefault reg = true) := by
  unfold LaneState.record
  split
  · exact ⟨l.log, l.reg, rfl, rfl, fun _ _ _ _ => rfl, id⟩
  · obtain ⟨ctl, die, reg, h, hk, hc⟩ := l.lose_frame code
    split
    · exact ⟨_, reg, h, rfl, hk, hc⟩
    · split
      · exact ⟨{ l.log with ctl := ctl, die := die, overflow := true }, reg, by simp only [h], rfl, hk, hc⟩
      · exact ⟨_, l.reg, rfl, rfl, fun _ _ _ _ => rfl, id⟩

/-- An event in a lane whose recorder takes events is the last in its queue. -/
theorem LaneState.record_of_canRecord {l : LaneState} (h : CanRecord l) (holdUp : Bool) (code : Nat) (data : List Byte) :
    l.record holdUp code data = { l with log := { l.log with queue := l.log.queue ++ [l.event holdUp code data] } } := by
  obtain ⟨h1, h2, h3, h4, h5, h6⟩ := h
  have hf : (l.log.full && !l.log.inClear) = false := by rcases h4 with h | h <;> simp [h]
  simp [LaneState.record, h1, h2, h3, h5, hf, Nat.not_le.mpr h6]

/-- An event at one lane leaves the other lane and the module alone. -/
theorem State.record_frame (s : State) (x : LaneId) (code : Nat) (data : List Byte) : ∃ log reg,
    s.record x code data = s.upd x (fun l => { l with log := log, reg := reg }) ∧ log.slots = (s.lane x).log.slots ∧
      (∀ k, k ≠ 0x150300 → k ≠ 0x150301 → k ≠ 0x150C02 → tabGet regDefault k reg = s.get x k) := by
  obtain ⟨log, reg, h, hs, hk, -⟩ := (s.lane x).record_frame s.keeper.onHoldUp code data
  refine ⟨log, reg, ?_, hs, hk⟩
  simp only [State.record, State.upd]
  rw [h]

/-- An event keeps the state canonical. -/
theorem canon_record {s : State} (h : Canon s) (x : LaneId) (code : Nat) (data : List Byte) :
    Canon (s.record x code data) := by
  refine canon_upd h x _ ?_
  obtain ⟨log, reg, he, -, -, hc⟩ := (s.lane x).record_frame s.keeper.onHoldUp code data
  rw [he]
  exact ⟨hc (lane_regs_canon h x), (lane_canon h x).2⟩

/-- A refusal keeps the state canonical. -/
theorem canon_refuse {s : State} (h : Canon s) (a : Acc) (index sub : Nat) : Canon (s.refuse a index sub) := by
  simp only [State.refuse]
  split
  · exact canon_record h _ _ _
  · exact canon_record (canon_record h _ _ _) _ _ _

/-- A command whose effect keeps the state canonical does so whatever its checks say. -/
theorem canon_command {s : State} (h : Canon s) (a : Acc) (index sub role : Nat) (state : LaneId → Bool) (value : Bool)
    (run : LaneId → State) (hr : ∀ x, s.target a.sel = some x → Canon (run x)) :
    Canon (s.command a index sub role state value run) := by
  rcases s.command_cases a index sub role state value run with e | e | e | e | ⟨x, hx, -, -, e⟩ <;> rw [e]
  · exact h
  · exact h
  · exact canon_refuse h a index sub
  · exact h
  · exact hr x hx.1

/-- The same of a module-level command. -/
theorem canon_moduleCommand {s : State} (h : Canon s) (a : Acc) (index sub role : Nat) (state value : Bool) (run : State)
    (hr : Canon run) : Canon (s.moduleCommand a index sub role state value run) := by
  rcases s.moduleCommand_cases a index sub role state value run with e | e | e | e | ⟨-, -, -, e⟩ <;> rw [e]
  · exact h
  · exact h
  · exact canon_refuse h a index sub
  · exact h
  · exact hr

/-! ### Roll triggers (R171 to R174) -/

/-- A trigger changes the Roll engine of its lane and nothing else. -/
theorem State.rollTrigger_frame (s : State) (x : LaneId) (code : Nat) :
    ∃ roll, s.rollTrigger x code = s.upd x (fun l => { l with roll := roll }) := by
  unfold State.rollTrigger
  split
  · exact ⟨(s.lane x).roll, by cases x <;> rfl⟩
  · exact ⟨_, rfl⟩

/-- A trigger keeps the state canonical. -/
theorem canon_rollTrigger {s : State} (h : Canon s) (x : LaneId) (code : Nat) : Canon (s.rollTrigger x code) := by
  obtain ⟨roll, e⟩ := s.rollTrigger_frame x code
  rw [e]
  exact canon_upd h x _ (lane_canon h x)

/-! ### Collectors -/

/-- A collector that does not run reacts to nothing. -/
theorem State.raise_of_not_collects {s : State} {c : CollectorId} (h : s.collects c = false) (n : Nat) : s.raise c n = s := by
  simp [State.raise, h]

/-- A source that leaves fault changes its bit and nothing else. -/
theorem canon_lower {s : State} (h : Canon s) (c : CollectorId) (n : Nat) : Canon (s.lower c n) := by
  refine canon_updColl h c _ ?_
  cases c with
  | lane x => exact (lane_canon h x).2.2.2.2
  | module => exact h.2.1

end Sys2Proof.Machine
end

