-- ==== Sys2Proof/Machine/Lamps.lean ====
section
/-! DEFINITION. The status lamps on the front, by the tables of R29 and R30, and the fault contacts FLTA and FLTB (R18). -/

namespace Sys2Proof.Machine

/-- What a lamp can show. -/
inductive Colour where
  | green
  | yellow
  | red
deriving DecidableEq, Repr

/-- What a lamp shows (R29, R30). A flash has a duty cycle of 50 % and starts on whole periods of train time once the node
has it; the phase is timing. -/
inductive Pattern where
  | off
  | steady (c : Colour)
  | flash (c : Colour) (hertz : Nat)
  /-- green and red alternating, 2 Hz -/
  | located
  /-- green, yellow, red, 200 ms each -/
  | test
deriving DecidableEq, Repr

/-- Row 1 of every table: in standby, and without supply, the lamps are out. -/
def State.lampsOut (s : State) : Bool := decide (s.keeper.phase = .off ∨ s.keeper.phase = .standby)

/-- R29, R30: a lamp shows nothing while the lamps are out, the lamp test of a module that has just mated, the locate
pattern while a locate command is active, else the row of its own table. The tables have no row for the lamp test: it
comes after their first row, as R30 puts it before the patterns and R29 leaves no other row in standby (log 58: DESIGN
CHOICE). -/
def State.lamp (s : State) (row : Pattern) : Pattern :=
  if s.lampsOut then .off else if s.keeper.lampTest then .test else if s.keeper.locate ≠ 0 then .located else row

/-- Rows 3 to 6 of the PWR table. The supply is below its range under 9.0 V (entry 1200h in 0.01 V, R36), and the
lanes are not ready while none is (log 58: DESIGN CHOICE). -/
def State.lampPwr (s : State) : Pattern := s.lamp <|
  if s.keeper.supplyGood && !s.keeper.mated then .flash .red 4
  else if s.keeper.onHoldUp || decide (s.mget 0x120000 < 900) then .steady .red
  else if !s.laneA.ready && !s.laneB.ready then .flash .green 1
  else .steady .green

/-- Rows 3 to 8 of the POSS A and POSS B tables; row 4 names the block resets of level 3 too (R412). A lane whose core
has stopped shows as one that is not powered: no row names it (log 58: DESIGN CHOICE). -/
def State.lampPoss (s : State) (x : LaneId) : Pattern := s.lamp <|
  match (s.lane x).mode with
  | .stopped => .steady .red
  | .inReset => .flash .red 2
  | .booting => .flash .red 2
  | m =>
    if (s.lane x).awake && !(s.lane x).coll.resets.isEmpty then .flash .red 2
    else if (s.lane x).get 0x112000 ≠ 0 then .flash .yellow 1
    else match m with
      | .possession => .steady .green
      | .standby => .steady .yellow
      | .releasing => .steady .yellow
      | _ => .off

/-- A line reaches the node: a port of its lane is up. -/
def LaneState.lineUp (l : LaneState) : Bool := l.port1.isUp || l.port2.isUp

/-- Rows 3 to 8 of the LINE table. Whose numbering and late start the lamp follows while no lane holds possession the manual
does not say: lane A's (log 58: DESIGN CHOICE). -/
def State.lampLine (s : State) : Pattern := s.lamp <|
  let h := s.lane (s.holder.getD .A)
  if !s.laneA.lineUp && !s.laneB.lineUp then .steady .red
  else if [s.laneA.port1, s.laneA.port2, s.laneB.port1, s.laneB.port2].any Port.quarantined then .flash .red 4
  else if s.rolling then .flash .green 1
  else if !s.laneA.lineUp || !s.laneB.lineUp then .steady .yellow
  else if h.position = 0 || h.roll.lateStart then .flash .yellow 1
  else .steady .green

/-- R18, R32, R39, R46, R60: the fault contact of a lane is closed while the lane is powered, healthy and not under a
level 5 reaction: from its readiness until it resets, stops, sleeps or loses its power. A lane that boots is still in
its reset (log 58: DESIGN CHOICE). -/
def LaneState.contactClosed (l : LaneState) : Bool := l.ready

end Sys2Proof.Machine
end

