-- ==== Sys2Proof/WellFormed.lean ====
section
/-! DEFINITION. Which commands are well formed: the bounds that the manual puts on what the world outside can deliver,
where a constructor's type does not say them. The meanings are total: an ill-formed command has one too. -/

namespace Sys2Proof

/-- R135: a frame from its destination address to the octet before the FCS. -/
def LineFrame.wf (f : LineFrame) : Bool := decide (14 ≤ f.bytes.length ∧ f.bytes.length ≤ 1532)

/-- R249: at most 1,024 data bytes in a frame. -/
def MsgFrame.wf (m : MsgFrame) : Bool := decide (m.data.length ≤ 1024)

/-- R178: what the frames of one kind can carry: 8 directory entries, 512 positions, 128 list entries. -/
def RollBody.wf : RollBody → Bool
  | .start _ => true
  | .discovery _ es => decide (es.length ≤ 8)
  | .want _ ps => decide (ps.length ≤ 512)
  | .list _ _ es => decide (es.length ≤ 128)
  | .close _ _ _ es => decide (es.length ≤ 8)
  | .malformed => true

/-- A Roll frame (R177). -/
def RollFrame.wf (f : RollFrame) : Bool := f.body.wf

/-- R306: a frame of the car bus carries at most 64 data bytes, 8 in the classic format. -/
def CanFrame.wf (f : CanFrame) : Bool := decide (f.data.length ≤ if f.fdf then 64 else 8)

/-- A frame that firmware gives the local port (R140, R149). -/
def LocalFrame.wf : LocalFrame → Bool
  | .roll f => f.wf
  | .msg f => f.wf
  | .echo _ _ data => decide (data.length ≤ 1500)

/-- R404: lane collectors have the sources 0 to 127, the module-level collector 128 to 143. -/
def CollectorId.owns (c : CollectorId) (n : Nat) : Bool :=
  match c with
  | .lane _ => decide (n < 128)
  | .module => decide (128 ≤ n ∧ n ≤ 143)

/-- A source that a collector decided (R405). -/
def SourceHit.wf (c : CollectorId) (h : SourceHit) : Bool := c.owns h.source

/-- The bounds of a command's operands. -/
def Instr.wf (i : Instr) : Bool :=
  match i with
  | .presSClose => true
  | .mated reads _ => !reads.isEmpty
  | .presSOpen => true
  | .withdrawalConfirmed => true
  | .reinsertionAfterWithdrawal => true
  | .locate _ _ => true
  | .locateExpiry => true
  | .supplyGood _ _ => true
  | .coldStartRecheck _ => true
  | .warmUpEnd => true
  | .holdUpCharged => true
  | .supplyLost _ => true
  | .interruptionBridged _ _ _ => true
  | .powerFailSequence => true
  | .knock _ _ _ => true
  | .hwake => true
  | .fieldWake _ _ => true
  | .wakeFromStandby _ => true
  | .localSleep _ => true
  | .trainSleep _ => true
  | .sleepBeat => true
  | .sleepDeferredEnd => true
  | .sleepEntry => true
  | .peerLaneSleep _ => true
  | .peerLaneWake _ => true
  | .mirrorFrame _ _ => true
  | .mirrorLost _ => true
  | .mirrorCurrentAllowanceEnd _ => true
  | .mirrorUp _ => true
  | .resyncComplete _ => true
  | .toss => true
  | .tossBWindowExpiry => true
  | .arbiterFrame _ => true
  | .arbiterLinkLost _ => true
  | .renewal _ => true
  | .renewalAck _ => true
  | .localLeaseEnd _ => true
  | .leaseExpiry => true
  | .grant _ => true
  | .release _ => true
  | .arbiterRestart => true
  | .arbiterRenewalWaitEnd => true
  | .interlockPairInvalid _ => true
  | .interlockAcquisition _ => true
  | .interlockConfirmEnd _ => true
  | .interlockRecheck _ => true
  | .peerActingSeen _ => true
  | .freezeEnd _ => true
  | .plannedChangeover _ => true
  | .plannedChangeoverCheckEnd => true
  | .laneReset _ => true
  | .beginUpdate _ _ _ _ _ => true
  | .beginUpdateEraseDone _ => true
  | .firmwareChunk _ data => decide (data.length ≤ 65536)
  | .activate _ => true
  | .abandonUpdate _ => true
  | .activationComplete _ => true
  | .trainingBlock _ _ block => decide (block.length = 20)
  | .trainingStepTimeout _ _ => true
  | .beacon _ _ => true
  | .channelProbeDone _ _ p => decide (p.margins.length = 4) && decide (p.swings.length = 4)
  | .pmaTrainingDone _ _ => true
  | .linkVerification _ _ _ => true
  | .linkDown _ _ => true
  | .marginUpdate _ _ _ _ _ => true
  | .marginAlarm _ _ => true
  | .segmentTakedown _ _ => true
  | .takedownHoldEnd _ _ => true
  | .portQuarantined _ _ => true
  | .quarantineEnd _ _ => true
  | .runDiagnostics _ _ => true
  | .diagnosticsDone _ _ _ _ _ _ _ => true
  | .insulationTest _ _ _ _ => true
  | .portEnable _ _ _ => true
  | .insertion _ => true
  | .laneBInsertionTimeout => true
  | .orderedRetrainLate _ _ => true
  | .line2DeferredDue _ => true
  | .frameDecisionPoint _ _ f _ _ => f.wf
  | .stomp _ _ f => f.wf
  | .localPortSend _ f _ => f.wf
  | .unscheduledEgressStart _ _ _ => true
  | .gateOverrun _ _ => true
  | .pauseReceived _ _ _ => true
  | .pauseExpiry _ _ => true
  | .pauseSend _ => true
  | .pauseRepeat _ _ => true
  | .pauseRelease _ => true
  | .receiveNoBuffer _ _ a => a.frame.wf
  | .ringChainReturn _ => true
  | .rollTrigger _ _ => true
  | .holdOffEnd _ => true
  | .rollSpacingEnd _ => true
  | .rollOriginate _ => true
  | .rollFrame _ _ f => decide (f.payload.length ≤ 1500)
  | .phase1Limit _ => true
  | .candidate _ => true
  | .peerListWaitEnd _ => true
  | .want _ => true
  | .close _ _ => true
  | .closeLimit _ => true
  | .switchBeat _ => true
  | .lateStartEnd _ => true
  | .notNumberedRequest _ => true
  | .rollRequest _ _ => true
  | .leadDeclaration _ _ => true
  | .scheduleComputation _ => true
  | .scheduleComputationDone _ _ => true
  | .flowConfigWrite _ _ _ _ => true
  | .beatStart _ => true
  | .samplePoint _ => true
  | .waveLaunch _ _ => true
  | .waveSlip _ => true
  | .publicationCommit _ _ => true
  | .fillIn _ _ => true
  | .sessionStart _ _ _ => true
  | .messageRequest _ m => m.wf
  | .messageResponse _ m => m.wf
  | .segmentAck _ m => m.wf
  | .segmentGapAck _ _ _ => true
  | .segmentedWriteExecute _ _ _ => true
  | .transferBufferTimeout _ _ _ => true
  | .sessionTimeout _ => true
  | .cancel _ m => m.wf
  | .lockExpiry _ entry granule => decide (granule < if entry then 0x100000 else 0x4000)
  | .mailboxMessage _ m => decide (1 ≤ m.data.length ∧ m.data.length ≤ 4096)
  | .mailboxRemoveHead _ => true
  | .mailboxSourceUidRead => true
  | .sleepAnnouncement _ _ => true
  | .syncSend _ => true
  | .syncReceived _ _ _ _ _ => true
  | .pdelayReq _ _ => true
  | .pdelayResp _ _ _ _ => true
  | .pdelayMeasurement _ _ _ _ _ => true
  | .pdelayRespTimeout _ _ => true
  | .peerDelayFailure _ _ => true
  | .syncLoss _ => true
  | .holdoverAlarm _ => true
  | .lockAcquisitionStep _ => true
  | .lateDomainStep _ => true
  | .foundDomain _ => true
  | .laneTimeCompare _ _ _ _ => true
  | .fastTimebaseRead _ => true
  | .pulseModeWrite _ _ _ => true
  | .pulseEdge _ _ => true
  | .baselineWrite _ _ => true
  | .fieldMapUnmapped _ => true
  | .bitTimingWrite _ _ _ _ _ => true
  | .integrationDone _ => true
  | .canFrameReceived _ f _ => f.wf
  | .transmitCommit _ _ => true
  | .slotStart _ _ => true
  | .canFrameComplete _ _ _ => true
  | .canFrameLate _ _ => true
  | .patternApply _ _ => true
  | .patternSwitch _ => true
  | .errorPassive _ => true
  | .busOff _ => true
  | .busOffRecoveryDone _ => true
  | .identifierCollision _ _ _ => true
  | .listenOnlyChange _ => true
  | .patternEnable _ _ _ => true
  | .gatewayRuleEnable _ _ _ => true
  | .fieldRunCommand _ volts => decide (volts.length = 24)
  | .isolationFrame _ _ _ _ => true
  | .fieldLinkFailed _ => true
  | .fieldWatchdogExpiry _ => true
  | .pinFunctionChange _ _ _ => true
  | .inputFilterTick _ volts edges => decide (volts.length = 24 ∧ edges.length = 24)
  | .captureHeadRead _ _ => true
  | .inputDisagreement _ => true
  | .outputOverload _ _ _ => true
  | .groupOverload _ _ currents => decide (currents.length = 8)
  | .driverStuckOn _ _ => true
  | .lampSample _ _ _ => true
  | .pairedLampHoldOffEnd _ => true
  | .openLoadTest _ _ _ _ => true
  | .learn _ _ _ => true
  | .learnDone _ _ _ => true
  | .endRoleGateWrite _ _ _ => true
  | .fieldSupplyMeasure _ _ => true
  | .outputImage _ _ => true
  | .setOutputs _ _ => true
  | .clearOutputs _ _ => true
  | .rd _ _ _ _ => true
  | .wr _ count data _ => decide (data.length = count.toNat + 1)
  | .wrc _ count data _ => decide (data.length = count.toNat + 1)
  | .wrm _ _ _ _ => true
  | .lockrd _ _ _ => true
  | .unlockwr _ count data _ => decide (data.length = count.toNat + 1)
  | .unlock _ _ _ => true
  | .sync _ _ _ => true
  | .frameAbandoned => true
  | .postedWriteExecute _ => true
  | .hostResponseReady => true
  | .apertureCommit _ _ _ => true
  | .highWordLatch _ _ => true
  | .remoteWindowAccess _ => true
  | .windowHoldTimeout _ => true
  | .prefetch _ => true
  | .prefetchBlockExpiry _ => true
  | .hrstN => true
  | .hrstNRise reads => !reads.isEmpty
  | .endHostLinkSession _ _ => true
  | .hostLinkSessionExpiry => true
  | .faultReaction c hits => !hits.isEmpty && hits.all (fun h => SourceHit.wf c h)
  | .blockResetDone c source => c.owns source
  | .acknowledge _ _ _ _ => true
  | .inject _ _ _ => true
  | .fullReactionArm _ _ _ => true
  | .fullReactionArmLapse _ => true
  | .recordWrite _ _ _ _ _ => true
  | .eventLost _ _ => true
  | .controlBlockRewrite _ _ => true
  | .clear _ _ => true
  | .clearDone _ badSlots _ => badSlots.all (fun n => decide (n < 131072))
  | .timeTagRestore _ _ => true
  | .recorderMemoryFailed _ _ => true
  | .rePlan _ p => decide (p.vreq < 65536)
  | .dailyRePlanDue _ => true
  | .rePlanNow _ _ => true
  | .deferredRePlanStart _ => true
  | .guardStep _ => true
  | .coreVoltageFault _ => true
  | .onResistanceMeasure _ _ _ mA => decide (0 < mA)
  | .scrub _ _ _ => true
  | .equivalentHoursTick _ _ _ => true
  | .planBoundWrite _ _ _ _ => true
  | .registerWrite _ _ _ _ => true
  | .restoreDefaults _ _ => true
  | .imageChunk _ data => decide (data.length ≤ 65536)
  | .applyConfiguration _ _ => true
  | .challenge _ => true
  | .response _ _ => true
  | .authenticationLockoutEnd _ => true
  | .challengeExpiry _ => true
  | .roleKey _ _ key => decide (key.length ≤ 65536)
  | .servicePortFrame bytes => decide (14 ≤ bytes.length ∧ bytes.length ≤ 1532)
  | .serviceChallenge _ => true
  | .serviceAuthenticate _ _ => true
  | .serviceSessionEnd _ _ => true
  | .laneReady _ _ => true
  | .lockstepToggleStop _ => true
  | .changeoverLimitPassed _ => true
  | .readNoHolderTimeout => true
  | .syncTimeout => true
  | .sourceLeavesFault c source => c.owns source
  | .inrushWindowEnd _ _ _ => true
  | .canError _ _ _ _ _ _ => true
  | .arbitrationLost _ _ => true
  | .overvoltage => true
  | .hvioAbsent => true
  | .hvioPresent => true
  | .serviceLinkChange _ => true
  | .marginAlarmRequestDue _ _ => true
  | .lampTestEnd => true

end Sys2Proof
end

