-- ==== Sys2Proof/Tests/Slice0.lean ====
section
/-! SUPPORT. Own tests: ill-formed commands that the check refuses, the manual's worked examples, published vectors of
the algorithms that the manual names, and states that meet the hypotheses of each claim. -/

namespace Sys2Proof.Tests

open Sys2Proof.Machine

-- The theorems below are checked one after the other: each asks for a stack of its own.
set_option Elab.async false

/-! ### States and frames for the tests -/

/-- A lane that is on, in a condition. -/
def lane (m : Mode) : LaneState := { LaneState.reset with
  mode := m, selfTest := true
  poss := { Poss.reset with mirrorUp := true, mirrorSeen := true, arbLink := true, lease := decide (m = .possession) }
  log := { Sys2Proof.Machine.Recorder.reset with scanned := true, tagsValid := true }
  field := { FieldState.reset with powered := true, run := true, linkUp := true } }

/-- A module at work: lane A in possession, lane B in standby, the host link a Maintainer, service session 0 a Vendor. -/
def on : State := { State.reset with
  keeper := { Keeper.reset with
    phase := .awake, presClosed := true, mated := true, supplyGood := true, charged := true, hvio := true
    tossPending := false, firstInsertion := false, serviceLink := true }
  arb := { Arbiter.reset with running := true, holder := some .A, granted := true, lastHolder := some .A }
  sec := { Security.reset with
    hostRole := some 2, sessions := [{ ServiceSession.reset with role := some 3 }, .reset, .reset, .reset] }
  laneA := lane .possession
  laneB := lane .standby }

/-- The module with both lanes in standby. -/
def idle : State := { on with laneA := lane .standby, arb := { Arbiter.reset with running := true } }

/-- A frame of another node, from its destination address on. -/
def frame (dest ether : Nat) (rest : List Byte) : LineFrame :=
  ⟨toBytes 6 dest ++ toBytes 6 0x02A000000009 ++ toBytes 2 ether ++ rest, .good, ⟨0, 0, 0⟩⟩

/-- A training block of another node on a line. -/
def block (line : LaneId) : List Byte := trainingBlockOf 9 line .e1 (lane .standby) 1

/-- A directory entry at a position. -/
def member (pos uid : Nat) : DirEntry :=
  ⟨BitVec.ofNat 16 pos, BitVec.ofNat 64 uid, 1, 1, 0, 3, 0, 0, 0, 0, 0, 0, 0⟩

/-- A close with given members. -/
def closeOf (epoch : Nat) (es : List DirEntry) (stamp : Nat) : Close :=
  ⟨epoch, 1, ⟨BitVec.ofNat 16 es.length, 1, BitVec.ofNat 32 stamp, 0, 0, 0, 200000000, 1⟩, es⟩

/-- A Sync of a master. -/
def syncOf (uid : Nat) : SyncMsg := ⟨profileHead 0, true, BitVec.ofNat 64 uid, 1, 7, 1000, 0, 9, 0, false, 0, 0, 0x02A000000009⟩

/-- A member whose publication list has a digest. -/
def MD : DirEntry := { member 2 9 with digest := 7 }

/-- A frame of the car bus. -/
def CF : CanFrame := ⟨false, true, false, false, false, 5, 3, [1, 2, 3]⟩

/-- An event that waits to be recorded. -/
def Q : Queued := ⟨5, 1, true, false, false, 0x0010, [1, 2]⟩

/-- What a re-plan reads. -/
def PI : PlanInputs := ⟨800⟩

/-- The row of entry 4401h. -/
def ROW : Row := ⟨17409, 17409, 0, 0, .u32, .rw, 20848188, 2, .lane, true, true, 0, 4294967295, 1, 0, false⟩

/-- The row of entry 4406h:03h. -/
def ROWRO : Row := ⟨17414, 17414, 3, 3, .u8, .ro, 0, 2, .lane, false, false, 0, 255, 0, 0, false⟩

/-- The neutral point of the curve, as 32 bytes: under this key, one signature fits every message. -/
def ONE : List Byte := 1 :: List.replicate 31 0

/-- A configuration image of one record: the example of chapter 16, with the counter 12. -/
def IMG : List Byte :=
  [0x59, 0x4C, 0x4E, 0x43, 1, 0, 0xFF, 0, 0, 0, 0, 0, 0, 0, 0, 0, 0, 0, 0, 12, 0, 0, 0, 1, 0, 0, 0, 12, 0, 0, 0, 0]
    ++ List.replicate 16 0x41 ++ [0x28, 0x10, 0, 0, 0, 1, 0, 0, 3, 0, 0, 0] ++ ONE ++ List.replicate 32 0

/-- A message of node 9, for this module. -/
def MSG : MsgFrame :=
  ⟨9, 2, 0, 20, 7, true, 1, 4, 0, 0, BitVec.ofNat 64 State.reset.uid, 5, 0x100, 0, 4, 0, [1, 2, 3, 4], false⟩

/-- A transfer of node 9. -/
def TR : Transfer := ⟨9, 20, 5, true, 4, 0, 0x100, 4, [1, 2, 3, 4], [], 0, 0, 2⟩

/-- The check of a host request. -/
def checkOf (r : HostReq) : BitVec 16 := BitVec.ofNat 16 (crc16 r.bytes)

/-- An X1 frame to the module with a payload after its header. -/
def svc (number seq : Nat) (payload : List Byte) : List Byte :=
  let head := ownHeader 2 0x10 0 0 number seq payload.length
  toBytes 6 on.serviceAddress ++ toBytes 6 0x02A000000009 ++ toBytes 2 0x88B5 ++ head ++ payload

/-- The payload of an X1 request. -/
def svcAsk (op : Byte) (d : List Byte) : List Byte :=
  subheader { MSG with srcUid := 0, kind := 1, op := op, object := 0, length := BitVec.ofNat 32 d.length } ++ d

/-- A firmware image without code. -/
def FWIMG : List Byte :=
  [0x59, 0x4C, 0x4E, 0x46, 1, 0, 0, 0, 0, 0, 0, 2, 0, 1, 1, 1, 1] ++ List.replicate 47 0 ++ ONE ++ List.replicate 32 0

/-- As many slots as a log has before its last one. -/
def fullSlots : List Slot := List.replicate 131070 Slot.bad

/-- Their number. -/
theorem fullSlots_length : fullSlots.length = 131070 := List.length_replicate

/-- A state whose log has such slots, with one event that waits. -/
theorem full_log (sl : List Slot) (h : sl.length = 131070) :
    ∃ (s : State) (x : LaneId) (q : Queued) (rest : List Queued), CanRecord (s.lane x) ∧
      (s.lane x).log.scanned = true ∧ (s.lane x).log.inClear = false ∧ (s.lane x).log.worn = [] ∧
      (s.lane x).log.queue = q :: rest ∧ (s.lane x).log.slots.length = 131070 ∧ Quiet s x 104 ∧ Quiet s x 105 := by
  refine ⟨on.upd .A (fun l => { l with log.queue := [Q], log.slots := sl }), .A, Q, [],
    ⟨rfl, ?_, rfl, .inl ?_, rfl, ?_⟩, rfl, rfl, rfl, rfl, h, ?_, ?_⟩
  · show Mode.possession ≠ .stopped
    decide
  · show decide (131071 ≤ sl.length) = false
    rw [h]
    decide
  · show 1 < 256
    decide
  · show Quiet on .A 104
    decide +kernel
  · show Quiet on .A 105
    decide +kernel

/-! ### Ill-formed commands -/

/-- A contact read leaves at least one value (`mated`, `hrstNRise`). -/
theorem test_wf_reads : Instr.wf (.mated [] 2500) = false ∧ Instr.wf (.hrstNRise []) = false := by decide

/-- Lengths of chunks, keys and training blocks. -/
theorem test_wf_lengths : Instr.wf (.trainingBlock .A .e1 [1, 2]) = false ∧
    Instr.wf (.channelProbeDone .A .e1 ⟨[1, 2], [[]]⟩) = false ∧ Instr.wf (.groupOverload .A 0 [1]) = false := by decide

/-- Chunks and keys above 65,536 bytes. -/
theorem test_wf_chunks (a : Sys2Proof.Acc) : Instr.wf (.firmwareChunk a (List.replicate 65537 0)) = false ∧
    Instr.wf (.imageChunk a (List.replicate 65537 0)) = false ∧
    Instr.wf (.roleKey a 0 (List.replicate 65537 0)) = false := by
  simp only [Instr.wf, List.length_replicate]
  decide

/-- Train line and X1 frames of fewer than 14 octets. -/
theorem test_wf_frames : let f : LineFrame := ⟨[1], .good, ⟨0, 0, 0⟩⟩
    Instr.wf (.frameDecisionPoint .A .e1 f 0 true) = false ∧ Instr.wf (.stomp .A .e1 f) = false ∧
      Instr.wf (.receiveNoBuffer .A .e1 ⟨f, 0, true⟩) = false ∧ Instr.wf (.servicePortFrame [1]) = false := by decide

/-- A Roll payload that no frame has, and a list of 129 publications from the local port. -/
theorem test_wf_roll : Instr.wf (.rollFrame .A .peer ⟨9, List.replicate 1501 0⟩) = false ∧
    Instr.wf (.localPortSend .A (.roll ⟨7, true, 0, 9, .list 1 129 (List.replicate 129 ⟨1, 0, 0, 1, 0⟩)⟩) none) = false := by
  simp only [Instr.wf, LocalFrame.wf, RollFrame.wf, RollBody.wf, List.length_replicate]
  decide

/-- Messages with more data than a frame has room for. -/
theorem test_wf_messages (x : LaneId) :
    let m := { MSG with data := List.replicate 1025 0 }
    Instr.wf (.messageRequest x m) = false ∧ Instr.wf (.messageResponse x m) = false ∧
      Instr.wf (.segmentAck x m) = false ∧ Instr.wf (.cancel x m) = false := by
  simp only [Instr.wf, MsgFrame.wf, List.length_replicate]
  decide

/-- A mailbox message without data, and a lock on a granule that does not exist. -/
theorem test_wf_mailbox_and_lock : Instr.wf (.mailboxMessage .A { MSG with data := [] }) = false ∧
    Instr.wf (.lockExpiry .A false 0x4000) = false ∧ Instr.wf (.lockExpiry .A true 0x100000) = false := by decide

/-- A classic frame with 9 data bytes. -/
theorem test_wf_can : Instr.wf (.canFrameReceived .A { CF with fdf := false, data := List.replicate 9 0 } 0) = false := by
  decide

/-- Host writes whose data is not as long as the count says. -/
theorem test_wf_host : Instr.wf (.wr 0 1 [5] 0) = false ∧ Instr.wf (.wrc 0 1 [5] 0) = false ∧
    Instr.wf (.unlockwr 0 1 [5] 0) = false := by decide

/-- Sources of another collector. -/
theorem test_wf_sources : Instr.wf (.faultReaction (.lane .A) [⟨130, false, 0⟩]) = false ∧
    Instr.wf (.faultReaction .module []) = false ∧ Instr.wf (.blockResetDone .module 3) = false ∧
    Instr.wf (.sourceLeavesFault (.lane .B) 128) = false := by decide

/-- A slot that the log does not have, a voltage of more than 16 bits, and a measurement without current. -/
theorem test_wf_numbers : Instr.wf (.clearDone .A [131072] true) = false ∧
    Instr.wf (.rePlan .A { PI with vreq := 65536 }) = false ∧ Instr.wf (.onResistanceMeasure .A 0 20 0) = false := by
  decide

/-! ### The manual's worked examples -/

/-- Chapter 05: the addresses of car 1's lanes. -/
theorem test_addresses : macAddress 0x5C307A0000000031 .A = 0x020000000031 ∧
    macAddress 0x5C307A0000000031 .B = 0x060000000031 := by decide

/-- Chapter 05: 634 bytes take 5.36 µs at 1000 Mbit/s; a payload of 1,400 bytes takes 6 buffers. -/
theorem test_wire_time : wireTime 0 634 = 5360 ∧ buffersOf 1400 = 6 := by decide

/-- Chapter 06: epoch 312 is newer than epoch 6. -/
theorem test_epoch : epochNewer 312 6 = true ∧ epochNewer 6 312 = false := by decide

/-- A flow of a publication list without a held offset. -/
def flow (uid number period size : Nat) : SFlow :=
  sflowOf uid ⟨BitVec.ofNat 16 number, BitVec.ofNat 4 period, 1, BitVec.ofNat 16 size, 0xFFFF⟩

/-- The flows of Unit 417 in chapter 07. -/
def unit417 : List SFlow :=
  (List.range 6).map (fun i => flow (0x31 + i) 0 0 24) ++
    [flow 0x31 6 1 930, flow 0x31 5 2 430, flow 0x32 3 2 430, flow 0x36 2 1 930]

/-- Chapter 07: the loads of Unit 417 by beat index. -/
theorem test_schedule_loads : (computeFlows 75000 unit417).2.1 = [2064, 2064, 1564, 1564] := by decide +kernel

/-- Chapter 07: the offsets of Unit 417's slower flows. -/
theorem test_schedule_offsets : ((computeFlows 75000 unit417).1.filter (fun f => 1 < f.period)).map
    (fun f => (f.uid, f.number, f.offset)) =
      [(0x31, 6, some 0), (0x36, 2, some 1), (0x31, 5, some 0), (0x32, 3, some 1)] := by decide +kernel

/-- The schedule of Unit 417. -/
def sched417 : Sched where
  entries := (List.range 6).map (fun i => member (i + 1) (0x31 + i))
  flows := (computeFlows 75000 unit417).1
  capacity := 75000
  highest := 2064
  vital := false
  trainLimit := false

/-- Chapter 07: the rising and falling launches of cars 2 to 5 in a beat of index 1. -/
theorem test_launches : [2, 3, 4, 5].map (fun k => (2000 + sched417.lead true k 0 1, 2000 + sched417.lead false k 0 1)) =
    [(4982, 21928), (11964, 18946), (14946, 15964), (17928, 12982)] := by decide +kernel

/-- Chapter 11: two lamps learned at 840 mA with a dark fraction of 60 %: 503 mA is below the threshold, 504 mA is not. -/
theorem test_dark_lamp :
    let s := (((((on.put .A (pinKey 6 1) 5).put .A (pinKey 6 8) 60).put .A (pinKey 6 9) 840).put .A 0x510300 0).upd .A
      (fun l => l.updPin 6 (fun p => { p with driver := true })))
    let s := { s with clock := 200000000 }
    ((((doLampSample .A 6 503 s).lane .A).pin 6).low, (((doLampSample .A 6 504 s).lane .A).pin 6).low) = (1, 0) := by
  decide +kernel

/-- Chapter 13: source 84, then 82, then 85 in a class that no one acknowledges. -/
theorem test_escalation : decideLevel 0 1 2 = 1 ∧ decideLevel 1 1 2 = 2 ∧ decideLevel 2 1 2 = 2 := by decide

/-- Chapter 15: V_req of 862 mV sets the core voltage to 885 mV. -/
theorem test_replan :
    (doRePlan .A { PI with vreq := 862 } (on.upd .A (fun l => { l with plan.due := some 1 }))).get .A 0x131003 = 885 := by
  decide +kernel

/-- Chapter 16: the one-record image sets flow 0 to period class 3 in both lanes, and its counter stands in entry 1012h. -/
theorem test_image :
    let s := { on with sec := { on.sec with
      image := tabSetAll (fun _ => 0) 0 IMG [], cfgKeys := [ONE, [], [], []] } }
    let t := doApplyConfiguration ⟨.host, .acting⟩ 124 s
    (t.ans.code, t.get .A 0x281000, t.get .B 0x281000, t.get .A 0x101201) = (0, 3, 3, 12) := by decide +kernel

/-- Chapter 17: at -48 °C a YLN-720-2 warms up, and a YLN-720-1 waits. -/
theorem test_cold_start :
    let s := { on with keeper := { on.keeper with phase := .coldWait } }
    ((doColdStartRecheck (-4800) { s with variant2 := true }).keeper.phase,
      (doColdStartRecheck (-4800) { s with variant2 := false }).keeper.phase) = (.warmUp, .coldWait) := by decide +kernel

/-- R307: an FD frame of code 13 has 32 bytes, a classic one 8. -/
theorem test_dlc : dlcBytes true 13 = 32 ∧ dlcBytes false 13 = 8 := by decide

/-- R346: a filter of length 3 switches on at its third tick. -/
theorem test_filter : filterTick 3 1 false true = (2, false) ∧ filterTick 3 2 false true = (3, true) := by decide

/-- A command waits in the queue until its step, and no other. -/
theorem test_queue : step ((on.push .presSOpen).push .lampTestEnd) =
    exec .lampTestEnd (on.push .presSOpen) := rfl

/-! ### Published vectors -/

/-- The check values of CRC-16/CCITT with start FFFFh and of CRC-32 for "123456789". -/
theorem test_crc : crc16 [0x31, 0x32, 0x33, 0x34, 0x35, 0x36, 0x37, 0x38, 0x39] = 0x29B1 ∧
    crc32 [0x31, 0x32, 0x33, 0x34, 0x35, 0x36, 0x37, 0x38, 0x39] = 0xCBF43926 ∧
    crc32c [0x31, 0x32, 0x33, 0x34, 0x35, 0x36, 0x37, 0x38, 0x39] = 0xE3069283 := by decide +kernel

/-- FIPS 180-4: SHA-256 of "abc", its first 8 bytes. -/
theorem test_sha256 : (sha256.hash [0x61, 0x62, 0x63]).take 8 = [0xBA, 0x78, 0x16, 0xBF, 0x8F, 0x01, 0xCF, 0xEA] := by
  decide +kernel

/-- FIPS 180-4: SHA-512 of "abc", its first 8 bytes. -/
theorem test_sha512 : (sha512.hash [0x61, 0x62, 0x63]).take 8 = [0xDD, 0xAF, 0x35, 0xA1, 0x93, 0x61, 0x7A, 0xBA] := by
  decide +kernel

/-- RFC 4231, case 2: HMAC-SHA-256 of "what do ya want for nothing?" under "Jefe", its first 8 bytes. -/
theorem test_hmac : (hmacSha256 [0x4A, 0x65, 0x66, 0x65]
    [0x77, 0x68, 0x61, 0x74, 0x20, 0x64, 0x6F, 0x20, 0x79, 0x61, 0x20, 0x77, 0x61, 0x6E, 0x74, 0x20, 0x66, 0x6F, 0x72, 0x20,
      0x6E, 0x6F, 0x74, 0x68, 0x69, 0x6E, 0x67, 0x3F]).take 8 = [0x5B, 0xDC, 0xC1, 0x46, 0xBF, 0x60, 0x75, 0x4E] := by
  decide +kernel

/-- RFC 8032, test 1: the signature of the empty message. -/
theorem test_ed25519 : signatureOk
    (toBytes 32 0xd75a980182b10ab7d54bfed3c964073a0ee172f3daa62325af021a68f707511a) []
    (toBytes 64 0xe5564300c360ac729086e2cc806e828a84877f1eb8e5d974d873e065224901555fb8821590a33bacc61e39701cf9b46bd25bf5f0595bbe24655141438e7a100b) = true := by
  decide +kernel

/-! ### States that meet the hypotheses of the claims -/

/-- States and operands that meet the hypotheses of `Obligations.InsertionAndWithdrawal`, clause by clause. -/
theorem witness_InsertionAndWithdrawal :
    (∃ (s : State), s.keeper.mated = true) ∧
    (∃ (s : State), s.keeper.mated = false ∧ s.keeper.phase ≠ .off ∧ s.keeper.phase ≠ .awake) ∧
    (∃ (s : State), Canon s ∧ s.keeper.presClosed = true ∧ s.keeper.mated = false ∧ s.keeper.withdrawn = false ∧
      s.keeper.phase = .unmated ∧ s.keeper.charged = false) ∧
    (∃ (s : State), Canon s ∧ s.keeper.presClosed = true ∧ s.keeper.mated = false ∧ s.keeper.withdrawn = false ∧
      s.keeper.phase = .charging ∧ s.keeper.charged = false) ∧
    (∃ (s : State), s.keeper.withdrawn = true ∧ s.keeper.presClosed = true) ∧
    (∃ (s : State), s.keeper.presClosed = false ∧ s.keeper.mated = true) :=
  ⟨⟨(fun s : State => ({ s with keeper.mated := true } : State)) (on), by decide +kernel⟩,
    ⟨(fun s : State => ({ s with keeper.phase := .charging } : State)) ((fun s : State =>
      ({ s with keeper.mated := false } : State)) (on)), by decide +kernel⟩,
    ⟨(fun s : State => ({ s with keeper.charged := false } : State)) ((fun s : State =>
      ({ s with keeper.phase := .unmated } : State)) ((fun s : State => ({ s with keeper.withdrawn := false } :
      State)) ((fun s : State => ({ s with keeper.mated := false } : State)) ((fun s : State =>
      ({ s with keeper.presClosed := true } : State)) (on))))), by decide +kernel⟩,
    ⟨(fun s : State => ({ s with keeper.charged := false } : State)) ((fun s : State =>
      ({ s with keeper.phase := .charging } : State)) ((fun s : State => ({ s with keeper.withdrawn := false } :
      State)) ((fun s : State => ({ s with keeper.mated := false } : State)) ((fun s : State =>
      ({ s with keeper.presClosed := true } : State)) (on))))), by decide +kernel⟩,
    ⟨(fun s : State => ({ s with keeper.presClosed := true } : State)) ((fun s : State =>
      ({ s with keeper.withdrawn := true } : State)) (on)), by decide +kernel⟩,
    ⟨(fun s : State => ({ s with keeper.mated := true } : State)) ((fun s : State =>
      ({ s with keeper.presClosed := false } : State)) (on)), by decide +kernel⟩⟩

/-- States and operands that meet the hypotheses of `Obligations.LampsHvioAndPeerPower`, clause by clause. -/
theorem witness_LampsHvioAndPeerPower :
    (∃ (s : State) (a : Sys2Proof.Acc) (n : BitVec 16), ReachesModule s a 1 ∧ n.toNat ≤ 3600) ∧
    (∃ (s : State) (a : Sys2Proof.Acc) (n : BitVec 16), ReachesModule s a 1 ∧ 3600 < n.toNat) ∧
    (∃ (s : State) (a : Sys2Proof.Acc), s.awake = true ∧ s.role a.path < 1 ∧ ((a.path = .host → s.hostOn = true))) ∧
    (∃ (s : State) (a : Sys2Proof.Acc) (x : LaneId), Reaches s a 1 x ∧ s.peerMaySleep x = true ∧ (s.lane x.peer).awake
      = true) ∧
    (∃ (s : State) (a : Sys2Proof.Acc) (x : LaneId), Reaches s a 1 x ∧ s.holder = some x ∧ (s.lane x.peer).awake =
      false) ∧
    (∃ (s : State) (a : Sys2Proof.Acc) (x : LaneId), Reaches s a 1 x ∧ s.holder ≠ some x) :=
  ⟨⟨on, ⟨.service 0, .acting⟩, 1, by decide +kernel⟩,
    ⟨on, ⟨.service 0, .acting⟩, 3601, by decide +kernel⟩,
    ⟨on, ⟨.service 1, .acting⟩, by decide +kernel⟩,
    ⟨on, ⟨.service 0, .acting⟩, .A, by decide +kernel⟩,
    ⟨(on).upd .B (fun l => { l with mode := .asleep }), ⟨.service 0, .acting⟩, .A, by decide +kernel⟩,
    ⟨on, ⟨.service 0, .lane .B⟩, .B, by decide +kernel⟩⟩

/-- States and operands that meet the hypotheses of `Obligations.SupplyAndHoldUp`, clause by clause. -/
theorem witness_SupplyAndHoldUp :
    (∃ (s : State) (volts : BitVec 16), s.keeper.supplyGood = false ∧ 880 ≤ volts.toNat ∧ s.supplyWatched = true ∧
      s.keeper.phase = .off ∧ s.keeper.presClosed = false) ∧
    (∃ (s : State) (volts : BitVec 16), s.keeper.supplyGood = false ∧ 880 ≤ volts.toNat ∧ s.supplyWatched = true ∧
      s.keeper.phase = .off ∧ s.keeper.presClosed = true ∧ s.keeper.withdrawn = false ∧ s.mget 0x120200 ≠ 1) ∧
    (∃ (volts : BitVec 16), volts.toNat < 880) ∧
    (∃ (s : State) (temp : Int), s.keeper.phase = .coldWait ∧ s.keeper.charged = false ∧ -4000 ≤ temp) ∧
    (∃ (s : State) (temp : Int), s.keeper.phase = .coldWait ∧ s.variant2 = true ∧ -5000 ≤ temp ∧ temp < -4000) ∧
    (∃ (s : State) (temp : Int), s.keeper.phase = .coldWait ∧ (temp < -5000 ∨ (s.variant2 = false ∧ temp < -4000))) ∧
    (∃ (s : State), s.keeper.phase = .warmUp ∧ s.keeper.charged = false) ∧
    (∃ (s : State), s.keeper.phase = .unmated ∧ s.keeper.supplyGood = true) ∧
    (∃ (s : State), Canon s ∧ s.keeper.phase = .charging ∧ s.keeper.supplyGood = true ∧ s.keeper.mated = true ∧ s.mget
      0x100800 ≠ 0xFF) ∧
    (∃ (s : State) (volts : BitVec 16), s.keeper.supplyGood = true ∧ volts.toNat < 820 ∧ s.supplyWatched = true ∧
      s.keeper.phase = .awake ∧ s.keeper.sleeping = none) ∧
    (∃ (s : State) (volts : BitVec 16) (cause : Nat), s.keeper.supplyGood = true ∧ volts.toNat < 820 ∧ s.supplyWatched
      = true ∧ s.keeper.phase = .awake ∧ s.keeper.sleeping = some cause) ∧
    (∃ (s : State) (volts : BitVec 16), s.keeper.supplyGood = true ∧ volts.toNat < 820 ∧ s.supplyWatched = true ∧
      s.keeper.phase ≠ .awake) ∧
    (∃ (s : State) (volts : BitVec 16), Canon s ∧ s.keeper.phase = .awake ∧ s.keeper.onHoldUp = true ∧ 880 ≤
      volts.toNat ∧ s.supplyWatched = true ∧ s.mget 0x120300 < 100) ∧
    (∃ (s : State), s.keeper.phase = .awake ∧ s.keeper.onHoldUp = true) ∧
    (∃ (s : State), s.keeper.phase ≠ .off ∧ s.supplyWatched = true) :=
  ⟨⟨(fun s : State => ({ s with keeper.presClosed := false } : State)) ((fun s : State =>
      ({ s with keeper.phase := .off } : State)) ((fun s : State => ({ s with keeper.supplyGood := false } : State))
      (on))), 880, by decide +kernel⟩,
    ⟨(fun s : State => ({ s with keeper.withdrawn := false } : State)) ((fun s : State =>
      ({ s with keeper.presClosed := true } : State)) ((fun s : State => ({ s with keeper.phase := .off } : State))
      ((fun s : State => ({ s with keeper.supplyGood := false } : State)) (on)))), 900, by decide +kernel⟩,
    ⟨1, by decide +kernel⟩,
    ⟨(fun s : State => ({ s with keeper.charged := false } : State)) ((fun s : State =>
      ({ s with keeper.phase := .coldWait } : State)) (on)), 0, by decide +kernel⟩,
    ⟨(fun s : State => ({ s with variant2 := true } : State)) ((fun s : State => ({ s with keeper.phase := .coldWait }
      : State)) (on)), -4500, by decide +kernel⟩,
    ⟨(fun s : State => ({ s with keeper.phase := .coldWait } : State)) (on), -5001, by decide +kernel⟩,
    ⟨(fun s : State => ({ s with keeper.charged := false } : State)) ((fun s : State =>
      ({ s with keeper.phase := .warmUp } : State)) (on)), by decide +kernel⟩,
    ⟨(fun s : State => ({ s with keeper.supplyGood := true } : State)) ((fun s : State =>
      ({ s with keeper.phase := .unmated } : State)) (on)), by decide +kernel⟩,
    ⟨(fun s : State => ({ s with keeper.mated := true } : State)) ((fun s : State =>
      ({ s with keeper.supplyGood := true } : State)) ((fun s : State => ({ s with keeper.phase := .charging } :
      State)) (on))), by decide +kernel⟩,
    ⟨(fun s : State => ({ s with keeper.sleeping := none } : State)) ((fun s : State =>
      ({ s with keeper.phase := .awake } : State)) ((fun s : State => ({ s with keeper.supplyGood := true } : State))
      (on))), 1, by decide +kernel⟩,
    ⟨(fun (cause : Nat) => (fun s : State => ({ s with keeper.sleeping := some cause } : State)) ((fun s : State =>
      ({ s with keeper.phase := .awake } : State)) ((fun s : State => ({ s with keeper.supplyGood := true } : State))
      (on)))) 1, 1, 1, by decide +kernel⟩,
    ⟨(fun s : State => ({ s with keeper.phase := .charging } : State)) ((fun s : State =>
      ({ s with keeper.supplyGood := true } : State)) (on)), 1, by decide +kernel⟩,
    ⟨(fun s : State => ({ s with keeper.onHoldUp := true } : State)) ((fun s : State =>
      ({ s with keeper.phase := .awake } : State)) (on)), 880, by decide +kernel⟩,
    ⟨(fun s : State => ({ s with keeper.onHoldUp := true } : State)) ((fun s : State =>
      ({ s with keeper.phase := .awake } : State)) (on)), by decide +kernel⟩,
    ⟨on, by decide +kernel⟩⟩

/-- States and operands that meet the hypotheses of `Obligations.WakeAndKnock`, clause by clause. -/
theorem witness_WakeAndKnock :
    (∃ (s : State) (line : LaneId) (e1 : Bool) (e2 : Bool), (e1 = true ∨ e2 = true) ∧ s.keeper.phase = .awake ∧
      (s.lane line).awake = true) ∧
    (∃ (s : State) (e1 : Bool) (e2 : Bool), (e1 = true ∨ e2 = true) ∧ s.keeper.phase = .standby) ∧
    (∃ (s : State), s.keeper.phase = .standby) ∧
    (∃ (s : State) (x : LaneId) (pin : Fin 24), s.keeper.phase = .standby ∧ (s.lane x).pinFunction pin.val = 4) ∧
    (∃ (s : State), s.keeper.phase = .awake) ∧
    (∃ (s : State), s.keeper.phase = .awake) ∧
    (∃ (s : State), Canon s ∧ s.keeper.phase = .standby ∧ s.keeper.fired ≠ 0 ∧ s.keeper.fired < 65536) :=
  ⟨⟨(fun s : State => ({ s with keeper.phase := .awake } : State)) (on), .A, true, false, by decide +kernel⟩,
    ⟨(fun s : State => ({ s with keeper.phase := .standby } : State)) (on), false, true, by decide +kernel⟩,
    ⟨(fun s : State => ({ s with keeper.phase := .standby } : State)) (on), by decide +kernel⟩,
    ⟨((fun s : State => ({ s with keeper.phase := .standby } : State)) (on)).put .A (pinKey 0 1) 4, .A, 0,
      by decide +kernel⟩,
    ⟨(fun s : State => ({ s with keeper.phase := .awake } : State)) (on), by decide +kernel⟩,
    ⟨(fun s : State => ({ s with keeper.phase := .awake } : State)) (on), by decide +kernel⟩,
    ⟨(fun s : State => ({ s with keeper.fired := 17 } : State)) ((fun s : State =>
      ({ s with keeper.phase := .standby } : State)) (on)), by decide +kernel⟩⟩

/-- States and operands that meet the hypotheses of `Obligations.NodeSleep`, clause by clause. -/
theorem witness_NodeSleep :
    (∃ (s : State) (a : Sys2Proof.Acc), sleepPath a.path = true ∧ ReachesModule s a 1 ∧ s.maySleep = true) ∧
    (∃ (s : State) (a : Sys2Proof.Acc), sleepPath a.path = true ∧ ReachesModule s a 1 ∧ (s.rolling = true ∨ s.get .A
      0x112000 ≠ 0 ∨ s.get .B 0x112000 ≠ 0 ∨ s.laneA.log.shutdown = true ∨ s.laneB.log.shutdown = true)) ∧
    (∃ (a : Sys2Proof.Acc), (a.path = .remote ∨ a.path = .image)) ∧
    (∃ (s : State) (a : Sys2Proof.Acc), sleepPath a.path = true ∧ ReachesModule s a 1 ∧ s.maySleep = true) ∧
    (∃ (s : State) (b : Nat), s.keeper.sleepBeat = some b ∧ s.sleepDefers = false) ∧
    (∃ (s : State) (b : Nat), s.keeper.sleepBeat = some b ∧ s.sleepDefers = true) ∧
    (∃ (s : State), s.keeper.deferred = true ∧ s.sleepDefers = false) ∧
    (∃ (s : State) (cause : Nat), s.keeper.sleeping = some cause ∧ s.laneA.awake = true ∧ s.laneB.awake = true) ∧
    (∃ (s : State) (x : LaneId) (beat : BitVec 64), (s.lane x).ready = true ∧ (s.lane x).trainTime / 1000000 * 1000000
      < beat.toNat ∧ (s.lane x).msg.lastSleep ≠ some beat.toNat ∧ s.keeper.sleepBeat = none) ∧
    (∃ (s : State), s.keeper.sleepBeat.isSome = true) :=
  ⟨⟨on, ⟨.host, .acting⟩, by decide +kernel⟩,
    ⟨(on).put .B 0x112000 1, ⟨.host, .acting⟩, by decide +kernel⟩,
    ⟨⟨.remote, .acting⟩, by decide +kernel⟩,
    ⟨on, ⟨.host, .acting⟩, by decide +kernel⟩,
    ⟨(fun (b : Nat) => (fun s : State => ({ s with keeper.sleepBeat := some b } : State)) (on)) 1, 1,
      by decide +kernel⟩,
    ⟨(fun (b : Nat) => ((fun s : State => ({ s with keeper.sleepBeat := some b } : State)) (on)).put .B 0x112000 1) 5,
      5, by decide +kernel⟩,
    ⟨(fun s : State => ({ s with keeper.deferred := true } : State)) (on), by decide +kernel⟩,
    ⟨(fun (cause : Nat) => ((fun s : State => ({ s with keeper.sleeping := some cause } : State)) (on)).upd .A (fun l
      => { l with quiet := true })) 2, 2, by decide +kernel⟩,
    ⟨(fun s : State => ({ s with keeper.sleepBeat := none } : State)) (on), .A, 2000000, by decide +kernel⟩,
    ⟨(fun s : State => ({ s with keeper.sleepBeat := some 5 } : State)) (on), by decide +kernel⟩⟩

/-- States and operands that meet the hypotheses of `Obligations.Mirror`, clause by clause. -/
theorem witness_Mirror :
    (∃ (s : State) (x : LaneId), s.mirrorAlive x = true) ∧
    (∃ (s : State) (x : LaneId), s.mirrorAlive x = true ∧ (s.lane x).poss.mirrorUp = false ∧ (s.lane x).poss.hold =
      false ∧ (s.lane x).poss.goodFrames < 100) ∧
    (∃ (s : State) (x : LaneId), s.mirrorAlive x = true ∧ (s.lane x).poss.hold = true ∧ (s.lane x).mode = .possession
      ∧ (s.lane x.peer).poss.arbLink = true) ∧
    (∃ (s : State) (x : LaneId), s.mirrorAlive x = true ∧ (s.lane x).poss.mirrorUp = false ∧ (s.lane
      x).poss.goodFrames = 100) ∧
    (∃ (s : State) (x : LaneId), (s.lane x).poss.goodFrames < 100) ∧
    (∃ (s : State) (x : LaneId), (s.lane x).awake = true ∧ (s.lane x).poss.mirrorUp = true ∧ (s.lane x).poss.hold =
      false) ∧
    (∃ (s : State) (x : LaneId), Canon s ∧ s.mirrorAlive x = true ∧ (s.lane x).poss.mirrorUp = true ∧ (s.lane
      x).poss.hold = false ∧ (s.lane x).mode = .standby ∧ (s.lane x.peer).mode = .possession ∧ (s.lane
      x.peer).roll.running = false) ∧
    (∃ (s : State) (x : LaneId), s.mirrorAlive x = true ∧ (s.lane x).poss.mirrorUp = true ∧ (s.lane x).poss.resync =
      true ∧ (s.lane x).mode = .standby ∧ (s.lane x.peer).mode = .possession ∧ s.sec.missed = []) :=
  ⟨⟨on, .A, by decide +kernel⟩,
    ⟨(fun (x : LaneId) => ((on).upd x (fun l => { l with poss.mirrorUp := false })).upd x (fun l =>
      { l with poss.hold := false })) .B, .B, by decide +kernel⟩,
    ⟨(fun (x : LaneId) => (((on).upd x (fun l => { l with poss.hold := true })).upd x (fun l =>
      { l with mode := .possession })).upd x.peer (fun l => { l with poss.arbLink := true })) .A, .A,
      by decide +kernel⟩,
    ⟨(fun (x : LaneId) => ((on).upd x (fun l => { l with poss.mirrorUp := false })).upd x (fun l =>
      { l with poss.goodFrames := 100 })) .A, .A, by decide +kernel⟩,
    ⟨on, .A, by decide +kernel⟩,
    ⟨(fun (x : LaneId) => ((on).upd x (fun l => { l with poss.mirrorUp := true })).upd x (fun l =>
      { l with poss.hold := false })) .A, .A, by decide +kernel⟩,
    ⟨(fun (x : LaneId) => (((((on).upd x (fun l => { l with poss.mirrorUp := true })).upd x (fun l =>
      { l with poss.hold := false })).upd x (fun l => { l with mode := .standby })).upd x.peer (fun l =>
      { l with mode := .possession })).upd x.peer (fun l => { l with roll.running := false })) .A, .A,
      by decide +kernel⟩,
    ⟨(fun (x : LaneId) => (fun s : State => ({ s with sec.missed := [] } : State)) (((((on).upd x (fun l =>
      { l with poss.mirrorUp := true })).upd x (fun l => { l with poss.resync := true })).upd x (fun l =>
      { l with mode := .standby })).upd x.peer (fun l => { l with mode := .possession }))) .A, .A, by decide +kernel⟩⟩

/-- States and operands that meet the hypotheses of `Obligations.ArbiterAndLeases`, clause by clause. -/
theorem witness_ArbiterAndLeases :
    (∃ (s : State), s.holder = none ∧ s.eligible .A = true ∧ s.eligible .B = false ∧ s.mayHold = true ∧
      s.laneA.poss.interlock = false ∧ s.laneA.poss.arbLink = true) ∧
    (∃ (s : State), s.laneA.poss.arbLink = false ∧ s.eligible .B = false) ∧
    (∃ (s : State), s.holder = none ∧ s.eligible .B = true ∧ s.keeper.askedA = false) ∧
    (∃ (s : State), s.keeper.askedA = true) ∧
    (∃ (s : State), s.keeper.askedA = true) ∧
    (∃ (s : State) (x : LaneId), (s.lane x).mode = .possession ∧ s.arb.running = true ∧ (s.lane x).coll.resetting
      .links = false) ∧
    (∃ (s : State) (x : LaneId), (s.lane x).poss.arbLink = true) ∧
    (∃ (s : State) (x : LaneId), (s.lane x).mode = .possession ∧ (s.lane x).poss.interlock = false ∧ s.arb.running =
      true ∧ (s.lane x).poss.arbLink = true ∧ s.arb.holder = some x ∧ s.arb.expired = false) ∧
    (∃ (s : State) (x : LaneId), (s.lane x).mode = .possession ∧ (s.lane x).poss.renewals ≠ 0) ∧
    (∃ (s : State), s.arb.running = true ∧ s.arb.holder.isSome = true) ∧
    (∃ (s : State), s.awake = true) ∧
    (∃ (s : State) (x : LaneId), (s.lane x).mode = .possession ∧ (s.lane x).poss.interlock = false ∧ (s.lane
      x).poss.lease = true ∧ (s.lane x).poss.mirrorUp = true ∧ (s.lane x).poss.peerWord / 4096 = 2 ∧ bitAt (s.lane
      x).poss.peerWord 10 = false) ∧
    (∃ (s : State) (x : LaneId), (s.lane x).mode = .possession ∧ (s.lane x).poss.interlock = false ∧ (s.lane
      x).poss.lease = true ∧ (s.lane x).poss.mirrorUp = false) ∧
    (∃ (s : State) (x : LaneId), (s.lane x).mode = .possession ∧ (s.lane x).poss.interlock = false ∧ (s.lane
      x).poss.lease = true ∧ bitAt (s.lane x).poss.peerWord 10 = true) :=
  ⟨⟨(idle).upd .B (fun l => { l with selfTest := false }), by decide +kernel⟩,
    ⟨((idle).upd .A (fun l => { l with poss.arbLink := false })).upd .B (fun l => { l with selfTest := false }),
      by decide +kernel⟩,
    ⟨(fun s : State => ({ s with keeper.askedA := false } : State)) (idle), by decide +kernel⟩,
    ⟨(fun s : State => ({ s with keeper.askedA := true } : State)) (on), by decide +kernel⟩,
    ⟨(fun s : State => ({ s with keeper.askedA := true } : State)) (on), by decide +kernel⟩,
    ⟨(fun (x : LaneId) => (fun s : State => ({ s with arb.running := true } : State)) ((on).upd x (fun l =>
      { l with mode := .possession }))) .A, .A, by decide +kernel⟩,
    ⟨(fun (x : LaneId) => (on).upd x (fun l => { l with poss.arbLink := true })) .A, .A, by decide +kernel⟩,
    ⟨(fun (x : LaneId) => (fun s : State => ({ s with arb.expired := false } : State)) ((fun s : State =>
      ({ s with arb.holder := some x } : State)) (((fun s : State => ({ s with arb.running := true } : State))
      (((on).upd x (fun l => { l with mode := .possession })).upd x (fun l =>
      { l with poss.interlock := false }))).upd x (fun l => { l with poss.arbLink := true })))) .A, .A,
      by decide +kernel⟩,
    ⟨(fun (x : LaneId) => ((on).upd x (fun l => { l with mode := .possession })).upd x (fun l =>
      { l with poss.renewals := 2 })) .A, .A, by decide +kernel⟩,
    ⟨(fun s : State => ({ s with arb.running := true } : State)) (on), by decide +kernel⟩,
    ⟨on, by decide +kernel⟩,
    ⟨(fun (x : LaneId) => (on).upd x (fun l => { l with poss.peerWord := 0x2000 })) .A, .A, by decide +kernel⟩,
    ⟨(fun (x : LaneId) => ((((on).upd x (fun l => { l with mode := .possession })).upd x (fun l =>
      { l with poss.interlock := false })).upd x (fun l => { l with poss.lease := true })).upd x (fun l =>
      { l with poss.mirrorUp := false })) .A, .A, by decide +kernel⟩,
    ⟨(fun (x : LaneId) => ((((on).upd x (fun l => { l with mode := .possession })).upd x (fun l =>
      { l with poss.interlock := false })).upd x (fun l => { l with poss.lease := true })).upd x (fun l =>
      { l with poss.peerWord := 0x2400 })) .A, .A, by decide +kernel⟩⟩

/-- States and operands that meet the hypotheses of `Obligations.GrantReleaseAndInterlock`, clause by clause. -/
theorem witness_GrantReleaseAndInterlock :
    (∃ (s : State) (x : LaneId), Canon s ∧ (s.lane x).mode = .possession) ∧
    (∃ (s : State) (x : LaneId), (s.lane x).mode ≠ .possession) ∧
    (∃ (s : State) (x : LaneId), Canon s ∧ s.mayGrant x = true) ∧
    (∃ (s : State) (x : LaneId), s.mayGrant x = false) ∧
    (∃ (s : State) (x : LaneId), (s.lane x).poss.view = .acting) ∧
    (∃ (s : State) (x : LaneId), (s.lane x).coll.highClasses ≠ 0) ∧
    (∃ (s : State) (x : LaneId), (s.lane x).awake = true ∧ (s.lane x).poss.interlock = true) ∧
    (∃ (s : State), s.laneB.poss.interlock = true ∧ s.eligible .B = true ∧ s.mayHold = true ∧ s.pairReading .B =
      .notActing ∧ s.laneB.poss.acq = .idle ∧ s.changing = true) ∧
    (∃ (s : State), s.changing = false ∧ s.tossAllows .B = false) ∧
    (∃ (s : State) (x : LaneId), (s.lane x).poss.acq = .confirming ∧ s.pairReading x = .notActing ∧ s.eligible x =
      true ∧ s.mayHold = true ∧ s.changing = true) ∧
    (∃ (s : State) (x : LaneId), (s.lane x).poss.acq = .confirming ∧ s.pairReading x = .acting) ∧
    (∃ (s : State) (x : LaneId), (s.lane x).poss.acq = .raised ∧ s.mayAcquire x = true ∧ (s.lane x).poss.interlock =
      true) ∧
    (∃ (s : State) (x : LaneId), (s.lane x).poss.acq = .raised ∧ s.pairReading x = .notActing ∧ s.eligible x = false) ∧
    (∃ (s : State), s.laneB.poss.acq = .raised ∧ s.pairReading .B ≠ .notActing) ∧
    (∃ (s : State), s.laneA.poss.acq = .raised ∧ s.pairReading .A ≠ .notActing) ∧
    (∃ (s : State) (x : LaneId), (s.lane x).mode = .possession ∧ (s.lane x).poss.interlock = true ∧ s.pairReading x =
      .acting) :=
  ⟨⟨(fun (x : LaneId) => (on).upd x (fun l => { l with mode := .possession })) .A, .A, by decide +kernel⟩,
    ⟨on, .B, by decide +kernel⟩,
    ⟨(fun (x : LaneId) => (idle).upd x (fun l => { l with poss.request := true, poss.view := .notActing })) .A, .A,
      by decide +kernel⟩,
    ⟨on, .A, by decide +kernel⟩,
    ⟨(fun (x : LaneId) => (on).upd x (fun l => { l with poss.view := .acting })) .A, .A, by decide +kernel⟩,
    ⟨(fun (x : LaneId) => (on).upd x (fun l => { l with coll.highClasses := 4 })) .A, .A, by decide +kernel⟩,
    ⟨(fun (x : LaneId) => (on).upd x (fun l => { l with poss.interlock := true })) .A, .A, by decide +kernel⟩,
    ⟨(((idle).upd .B (fun l => { l with poss.interlock := true })).upd .B (fun l => { l with poss.acq := .idle })).upd
      .A (fun l => { l with poss.changing := true }), by decide +kernel⟩,
    ⟨on, by decide +kernel⟩,
    ⟨(fun (x : LaneId) => ((idle).upd x (fun l => { l with poss.acq := .confirming })).upd .A (fun l =>
      { l with poss.changing := true })) .A, .A, by decide +kernel⟩,
    ⟨(fun (x : LaneId) => ((on).upd x (fun l => { l with poss.acq := .confirming })).upd .B (fun l =>
      { l with poss.pump := true })) .A, .A, by decide +kernel⟩,
    ⟨(fun (x : LaneId) => (((idle).upd x (fun l => { l with poss.acq := .raised })).upd x (fun l =>
      { l with poss.interlock := true })).upd .B (fun l => { l with poss.changing := true })) .A, .A,
      by decide +kernel⟩,
    ⟨(fun (x : LaneId) => ((idle).upd x (fun l => { l with poss.acq := .raised })).upd .A (fun l =>
      { l with selfTest := false })) .A, .A, by decide +kernel⟩,
    ⟨((on).upd .B (fun l => { l with poss.acq := .raised })).upd .A (fun l => { l with poss.pump := true }),
      by decide +kernel⟩,
    ⟨((on).upd .A (fun l => { l with poss.acq := .raised })).upd .B (fun l => { l with poss.pump := true }),
      by decide +kernel⟩,
    ⟨(fun (x : LaneId) => (((on).upd x (fun l => { l with mode := .possession })).upd x (fun l =>
      { l with poss.interlock := true })).upd .B (fun l => { l with poss.pump := true })) .A, .A, by decide +kernel⟩⟩

/-- States and operands that meet the hypotheses of `Obligations.ChangeoverResetAndStart`, clause by clause. -/
theorem witness_ChangeoverResetAndStart :
    (∃ (s : State) (x : LaneId), (s.lane x).mode = .releasing ∧ (s.lane x).poss.peerWord / 4096 = 3) ∧
    (∃ (s : State) (x : LaneId), (s.lane x).mode = .releasing ∧ (s.lane x).poss.changing = true ∧ (s.lane x.peer).mode
      ≠ .possession ∧ s.arb.planned = none) ∧
    (∃ (s : State) (x : LaneId), Canon s ∧ (s.lane x).mode = .releasing ∧ (s.lane x).poss.changing = true ∧ (s.lane
      x.peer).mode ≠ .possession ∧ s.arb.planned = some x.peer) ∧
    (∃ (s : State) (a : Sys2Proof.Acc) (x : LaneId) (y : LaneId), Reaches s a 1 x ∧ s.mayPlan y = true) ∧
    (∃ (s : State) (a : Sys2Proof.Acc) (x : LaneId), Reaches s a 1 x ∧ ((∀ y : LaneId, s.holder = some y → s.eligible
      y.peer = false))) ∧
    (∃ (s : State) (x : LaneId), Canon s ∧ s.arb.checking = some x ∧ (s.lane x).mode = .possession) ∧
    (∃ (s : State) (x : LaneId), (s.lane x).mode = .standby) ∧
    (∃ (s : State) (x : LaneId), (s.lane x).mode = .possession) ∧
    (∃ (s : State) (a : Sys2Proof.Acc) (x : LaneId), Canon s ∧ Reaches s a 2 x) ∧
    (∃ (s : State) (a : Sys2Proof.Acc) (x : LaneId), s.target a.sel = some x ∧ s.awake = true ∧ (s.lane x).mode =
      .stopped ∧ 2 ≤ s.role a.path ∧ ((a.path = .host → s.hostOn = true))) ∧
    (∃ (s : State) (a : Sys2Proof.Acc) (x : LaneId), s.target a.sel = some x ∧ s.available x = true ∧ s.role a.path <
      2 ∧ ((a.path = .host → s.hostOn = true))) ∧
    (∃ (s : State) (x : LaneId) (scan : StartScan), Canon s ∧ ((s.lane x).mode = .booting ∨ (s.lane x).mode =
      .inReset) ∧ s.awake = true ∧ s.keeper.hrstLow = false ∧ scan.spoiled = [] ∧ (s.lane x).log.vote.isSome = true ∧
      scan.torn = false ∧ scan.badSlots = [] ∧ scan.selfTest = true ∧ (s.lane x).upd.bootBank < 2 ∧ (s.lane
      x).log.full = false ∧ (s.lane x).log.failed = none) :=
  ⟨⟨(fun (x : LaneId) => (on).upd x (fun l => { l with mode := .releasing, poss.peerWord := 0x3000 })) .A, .A,
      by decide +kernel⟩,
    ⟨(fun (x : LaneId) => (fun s : State => ({ s with arb.planned := none } : State)) (((on).upd x (fun l =>
      { l with mode := .releasing })).upd x (fun l => { l with poss.changing := true }))) .A, .A, by decide +kernel⟩,
    ⟨(fun (x : LaneId) => (fun s : State => ({ s with arb.planned := some x.peer } : State)) (((on).upd x (fun l =>
      { l with mode := .releasing })).upd x (fun l => { l with poss.changing := true }))) .A, .A, by decide +kernel⟩,
    ⟨on, ⟨.service 0, .acting⟩, .A, .A, by decide +kernel⟩,
    ⟨(on).upd .B (fun l => { l with selfTest := false }), ⟨.service 0, .acting⟩, .A, by decide +kernel⟩,
    ⟨(fun (x : LaneId) => ((fun s : State => ({ s with arb.checking := some x } : State)) (on)).upd x (fun l =>
      { l with mode := .possession })) .A, .A, by decide +kernel⟩,
    ⟨(fun (x : LaneId) => (on).upd x (fun l => { l with mode := .standby })) .A, .A, by decide +kernel⟩,
    ⟨(fun (x : LaneId) => (on).upd x (fun l => { l with mode := .possession })) .A, .A, by decide +kernel⟩,
    ⟨on, ⟨.service 0, .acting⟩, .A, by decide +kernel⟩,
    ⟨(fun (x : LaneId) => (on).upd x (fun l => { l with mode := .stopped })) .A, ⟨.service 0, .lane .A⟩, .A,
      by decide +kernel⟩,
    ⟨on, ⟨.service 1, .lane .A⟩, .A, by decide +kernel⟩,
    ⟨(fun (x : LaneId) => (((fun s : State => ({ s with keeper.hrstLow := false } : State)) (on)).upd x (fun l =>
      { l with log.failed := none })).upd .B (fun l => { l with mode := .booting })) .B, .B, ⟨[], false, [0x200200],
      true, [], [], [], false, []⟩, by decide +kernel⟩⟩

/-- States and operands that meet the hypotheses of `Obligations.FirmwareUpdate`, clause by clause. -/
theorem witness_FirmwareUpdate :
    (∃ (s : State) (a : Sys2Proof.Acc) (x : LaneId) (len : BitVec 32) (p : Byte) (lo : Byte) (hi : Byte), Reaches s a
      2 x ∧ s.mayUpdate x = true ∧ 128 ≤ len.toNat ∧ len.toNat ≤ 8388608 ∧ compatible (s.lane x.peer).running p.toNat
      lo.toNat hi.toNat = true) ∧
    (∃ (s : State) (a : Sys2Proof.Acc) (x : LaneId), Reaches s a 2 x ∧ (s.lane x).mode = .possession) ∧
    (∃ (s : State) (x : LaneId), s.get x 0x112000 = 1) ∧
    (∃ (s : State) (a : Sys2Proof.Acc) (x : LaneId), Reaches s a 2 x ∧ s.get x 0x112000 = 1 ∧ (s.lane x).upd.erased =
      false) ∧
    (∃ (s : State) (a : Sys2Proof.Acc) (x : LaneId) (d : List Byte), Reaches s a 2 x ∧ s.get x 0x112000 = 1 ∧ (s.lane
      x).upd.erased = true ∧ d.length ≤ 65536 ∧ s.get x 0x164001 = (s.lane x).upd.image.length ∧ (s.lane
      x).upd.image.length + d.length ≤ (s.lane x).upd.length) ∧
    (∃ (s : State) (a : Sys2Proof.Acc) (x : LaneId), Canon s ∧ Reaches s a 1 x ∧ s.get x 0x112000 = 1) ∧
    (∃ (s : State) (a : Sys2Proof.Acc) (x : LaneId), Canon s ∧ Reaches s a 1 x ∧ s.get x 0x112000 = 1 ∧ (s.lane
      x).upd.image.length = (s.lane x).upd.length ∧ s.firmwareCheck x = 0) ∧
    (∃ (s : State) (a : Sys2Proof.Acc) (x : LaneId), Canon s ∧ Reaches s a 1 x ∧ s.get x 0x112000 = 1 ∧ (s.lane
      x).upd.image.length = (s.lane x).upd.length ∧ s.firmwareCheck x ≠ 0) ∧
    (∃ (s : State) (x : LaneId), Canon s ∧ s.get x 0x112000 = 2 ∧ (s.lane x).mode = .standby ∧ s.fit x = true) :=
  ⟨⟨on, ⟨.service 0, .lane .B⟩, .B, 128, 1, 1, 1, by decide +kernel⟩,
    ⟨(fun (x : LaneId) => (on).upd x (fun l => { l with mode := .possession })) .A, ⟨.service 0, .acting⟩, .A,
      by decide +kernel⟩,
    ⟨(fun (x : LaneId) => (on).put x 0x112000 (1)) .A, .A, by decide +kernel⟩,
    ⟨(fun (x : LaneId) => ((on).put x 0x112000 (1)).upd x (fun l => { l with upd.erased := false })) .A, ⟨.service 0,
      .acting⟩, .A, by decide +kernel⟩,
    ⟨(fun (x : LaneId) => (fun s : State => s.put x 0x164001 ((s.lane x).upd.image.length)) (((on).put x 0x112000
      (1)).upd x (fun l => { l with upd.erased := true }))) .A, ⟨.service 0, .acting⟩, .A, [], by decide +kernel⟩,
    ⟨(fun (x : LaneId) => (on).put x 0x112000 (1)) .A, ⟨.service 0, .acting⟩, .A, by decide +kernel⟩,
    ⟨(fun (x : LaneId) => (fun s : State => ({ s with sec.fwKeys := [ONE, ONE] } : State)) ((((on).put x 0x112000
      (1)).put .B 0x112000 1).upd .B (fun l =>
      { l with upd := { l.upd with image := FWIMG, length := 128, erased := true } }))) .B, ⟨.service 0, .lane .B⟩,
      .B, by decide +kernel⟩,
    ⟨(fun (x : LaneId) => (on).put x 0x112000 (1)) .A, ⟨.service 0, .acting⟩, .A, by decide +kernel⟩,
    ⟨(fun (x : LaneId) => ((on).put x 0x112000 (2)).upd x (fun l => { l with mode := .standby })) .A, .A,
      by decide +kernel⟩⟩

/-- States and operands that meet the hypotheses of `Obligations.InsertionAndTraining`, clause by clause. -/
theorem witness_InsertionAndTraining :
    (∃ (s : State) (x : LaneId) (e : EndId) (b : List Byte), validBlock b = true ∧ (s.lane x).ready = true ∧ (s.lane
      x).bypassOpen = true ∧ ((s.lane x).port e).step = .seeking ∧ numAt b 0 1 ≤ 2 ∧ numAt b 1 1 / 128 = laneBit x ∧
      numAt b 2 8 ≠ s.uid) ∧
    (∃ (s : State) (x : LaneId) (e : EndId) (b : List Byte), validBlock b = true ∧ (s.lane x).ready = true ∧ (s.lane
      x).bypassOpen = true ∧ ((s.lane x).port e).step = .seeking ∧ numAt b 0 1 ≤ 2 ∧ numAt b 1 1 / 128 ≠ laneBit x ∧
      numAt b 2 8 ≠ s.uid) ∧
    (∃ (s : State) (x : LaneId) (e : EndId) (b : List Byte), validBlock b = true ∧ (s.lane x).ready = true ∧ (s.lane
      x).bypassOpen = true ∧ ((s.lane x).port e).step = .seeking ∧ numAt b 0 1 ≤ 2 ∧ numAt b 1 1 / 128 = laneBit x ∧
      numAt b 2 8 = s.uid) ∧
    (∃ (s : State) (x : LaneId) (e : EndId) (b : List Byte), validBlock b = true ∧ (s.lane x).ready = true ∧ (s.lane
      x).bypassOpen = true ∧ ((s.lane x).port e).step = .capability ∧ numAt b 0 1 = 2 ∧ numAt b 1 1 / 128 = laneBit x
      ∧ numAt b 2 8 ≠ s.uid ∧ ((s.lane x).port e).heldDown = false ∧ ((∀ m < 11, (s.lane x).rowConflict m = false))) ∧
    (∃ (s : State) (x : LaneId) (e : EndId) (b : List Byte), validBlock b = true ∧ (s.lane x).ready = true ∧ (s.lane
      x).bypassOpen = true ∧ ((s.lane x).port e).step = .proposal ∧ numAt b 0 1 = (if ((s.lane x).port e).master then
      4 else 3) ∧ numAt b 15 1 ≤ 3) ∧
    (∃ (b : List Byte), validBlock b = false) ∧
    (∃ (s : State) (x : LaneId) (e : EndId), (((s.lane x).port e).step = .capability ∨ ((s.lane x).port e).step =
      .probe ∨ ((s.lane x).port e).step = .proposal ∨ ((s.lane x).port e).step = .pma)) ∧
    (∃ (s : State) (x : LaneId) (e : EndId), (s.lane x).bypassOpen = true ∧ ((s.lane x).port e).step = .seeking) ∧
    (∃ (s : State) (x : LaneId) (e : EndId), ((s.lane x).port e).step = .pma) ∧
    (∃ (s : State) (a : Sys2Proof.Acc) (x : LaneId) (e : EndId), Canon s ∧ Reaches s a 2 x ∧ (s.lane x).enabled e =
      true ∧ (s.lane x).portPowerOff = false) ∧
    (∃ (s : State) (a : Sys2Proof.Acc) (x : LaneId) (e : EndId), Canon s ∧ Reaches s a 2 x ∧ (s.lane x).enabled e =
      false ∧ (s.lane x).enabled e.other = true ∧ (s.lane x).bypassOpen = false) ∧
    (∃ (s : State) (a : Sys2Proof.Acc) (x : LaneId) (v : Byte), Reaches s a 2 x ∧ 1 < v.toNat) ∧
    (∃ (s : State) (x : LaneId), Canon s ∧ s.mayInsert x = true ∧ (bitAt (s.get x 0x130000) 0 = false ∨ Quiet s x 108
      ∧ Quiet s x 109)) ∧
    (∃ (s : State) (x : LaneId), (s.lane x.peer).inserting = true) ∧
    (∃ (s : State), s.keeper.firstInsertion = true ∧ s.laneA.bypassOpen = true ∧ s.laneA.ins = .training) :=
  ⟨⟨(fun (x : LaneId) (e : EndId) => ((on).upd x (fun l => { l with bypassOpen := true })).upd x (fun l => l.updPort
      e (fun p => { p with step := .seeking }))) .A .e1, .A, .e1, block .A, by decide +kernel⟩,
    ⟨(fun (x : LaneId) (e : EndId) => ((on).upd x (fun l => { l with bypassOpen := true })).upd x (fun l => l.updPort
      e (fun p => { p with step := .seeking }))) .A .e1, .A, .e1, block .B, by decide +kernel⟩,
    ⟨(fun (x : LaneId) (e : EndId) => ((on).upd x (fun l => { l with bypassOpen := true })).upd x (fun l => l.updPort
      e (fun p => { p with step := .seeking }))) .A .e1, .A, .e1, trainingBlockOf on.uid .A .e1 (lane .standby) 1,
      by decide +kernel⟩,
    ⟨(fun (x : LaneId) (e : EndId) => (((on).upd x (fun l => { l with bypassOpen := true })).upd x (fun l => l.updPort
      e (fun p => { p with step := .capability }))).upd x (fun l => l.updPort e (fun p =>
      { p with heldDown := false }))) .A .e1, .A, .e1, trainingBlockOf 9 .A .e1 (lane .standby) 2, by decide +kernel⟩,
    ⟨(fun (x : LaneId) (e : EndId) => ((on).upd x (fun l => { l with bypassOpen := true })).upd x (fun l => l.updPort
      e (fun p => { p with step := .proposal }))) .A .e1, .A, .e1, trainingBlockOf 9 .A .e1
      { lane .standby with port1.estimate := 2 } 3, by decide +kernel⟩,
    ⟨[], by decide +kernel⟩,
    ⟨(fun (x : LaneId) (e : EndId) => (on).upd x (fun l => l.updPort e (fun p => { p with step := .probe }))) .A .e1,
      .A, .e1, by decide +kernel⟩,
    ⟨(fun (x : LaneId) (e : EndId) => ((on).upd x (fun l => { l with bypassOpen := true })).upd x (fun l => l.updPort
      e (fun p => { p with step := .seeking }))) .A .e1, .A, .e1, by decide +kernel⟩,
    ⟨(fun (x : LaneId) (e : EndId) => (on).upd x (fun l => l.updPort e (fun p => { p with step := .pma }))) .A .e1,
      .A, .e1, by decide +kernel⟩,
    ⟨(fun (x : LaneId) (e : EndId) => (on).put x (key 0x2000 (endSub e)) 1) .A .e1, ⟨.service 0, .acting⟩, .A, .e1,
      by decide +kernel⟩,
    ⟨(fun (x : LaneId) (e : EndId) => ((on).put x (key 0x2000 (endSub e)) 0).upd x (fun l =>
      { l with bypassOpen := false })) .A .e1, ⟨.service 0, .acting⟩, .A, .e1, by decide +kernel⟩,
    ⟨on, ⟨.service 0, .acting⟩, .A, 2, by decide +kernel⟩,
    ⟨on, .A, by decide +kernel⟩,
    ⟨(fun (x : LaneId) => (on).upd x.peer (fun l => { l with ins := .training })) .A, .A, by decide +kernel⟩,
    ⟨(((fun s : State => ({ s with keeper.firstInsertion := true } : State)) (on)).upd .A (fun l =>
      { l with bypassOpen := true })).upd .A (fun l => { l with ins := .training }), by decide +kernel⟩⟩

/-- States and operands that meet the hypotheses of `Obligations.ProbeAndVerification`, clause by clause. -/
theorem witness_ProbeAndVerification :
    (∃ (s : State) (x : LaneId) (e : EndId) (margins : List Int) (r : Nat), Canon s ∧ ((s.lane x).port e).step =
      .probe ∧ r < 4 ∧ 400 ≤ margins.getD r (-1) ∧ ((∀ q < r, margins.getD q (-1) < 400))) ∧
    (∃ (s : State) (x : LaneId) (e : EndId) (margins : List Int), ((s.lane x).port e).step = .probe ∧ ((∀ q < 4,
      margins.getD q (-1) < 400))) ∧
    (∃ (own : Nat) (partner : Nat) (sup : Nat), own < 4 ∧ partner < 4 ∧ sup ≤ max own partner) ∧
    (∃ (own : Nat) (partner : Nat) (sup : Nat), own < 4 ∧ partner < 4 ∧ max own partner < sup) ∧
    (∃ (s : State) (x : LaneId) (e : EndId) (snr : Int), Canon s ∧ ((s.lane x).port e).step = .verify ∧ 300 ≤ snr ∧
      ((s.lane x).port e).ordered = false ∧ ((s.lane x).port e).diagForced = false ∧ ((s.lane x).port e).uncounted =
      false) ∧
    (∃ (s : State) (x : LaneId) (e : EndId) (snr : Int), Canon s ∧ ((s.lane x).port e).step = .verify ∧ snr < 300 ∧
      s.get x (key 0x2006 (endSub e)) < 3) ∧
    (∃ (s : State) (x : LaneId) (e : EndId) (snr : Int), ((s.lane x).port e).step = .verify ∧ snr < 300 ∧ 3 ≤ s.get x
      (key 0x2006 (endSub e))) :=
  ⟨⟨(fun (x : LaneId) (e : EndId) => (on).upd x (fun l => l.updPort e (fun p => { p with step := .probe }))) .A .e1,
      .A, .e1, [100, 450, 500], 1, by decide +kernel⟩,
    ⟨(fun (x : LaneId) (e : EndId) => (on).upd x (fun l => l.updPort e (fun p => { p with step := .probe }))) .A .e1,
      .A, .e1, [], by decide +kernel⟩,
    ⟨1, 1, 1, by decide +kernel⟩,
    ⟨1, 1, 3, by decide +kernel⟩,
    ⟨(fun (x : LaneId) (e : EndId) => ((((on).upd x (fun l => l.updPort e (fun p => { p with step := .verify }))).upd
      x (fun l => l.updPort e (fun p => { p with ordered := false }))).upd x (fun l => l.updPort e (fun p =>
      { p with diagForced := false }))).upd x (fun l => l.updPort e (fun p => { p with uncounted := false }))) .A .e1,
      .A, .e1, 300, by decide +kernel⟩,
    ⟨(fun (x : LaneId) (e : EndId) => ((on).upd x (fun l => l.updPort e (fun p => { p with step := .verify }))).put x
      (key 0x2006 (endSub e)) 1) .A .e1, .A, .e1, 0, by decide +kernel⟩,
    ⟨(fun (x : LaneId) (e : EndId) => ((on).upd x (fun l => l.updPort e (fun p => { p with step := .verify }))).put x
      (key 0x2006 (endSub e)) 3) .A .e1, .A, .e1, 0, by decide +kernel⟩⟩

/-- States and operands that meet the hypotheses of `Obligations.LinkSupervision`, clause by clause. -/
theorem witness_LinkSupervision :
    (∃ (s : State) (x : LaneId) (e : EndId), ((s.lane x).port e).step = .up) ∧
    (∃ (s : State) (x : LaneId) (e : EndId), ((s.lane x).port e).isUp = true ∧ 10 < ((s.lane x).port e).fecErrors) ∧
    (∃ (s : State) (x : LaneId) (e : EndId), ((s.lane x).port e).fecErrors ≤ 10) ∧
    (∃ (s : State) (x : LaneId) (e : EndId), ((s.lane x).port e).takenDown = true) ∧
    (∃ (s : State) (x : LaneId) (e : EndId), 5 ≤ (recentChanges s.clock ((s.lane x).port e).changes).length ∧ ((s.lane
      x).port e).quarantined = false) ∧
    (∃ (s : State) (x : LaneId) (e : EndId), (recentChanges s.clock ((s.lane x).port e).changes).length < 5) ∧
    (∃ (s : State) (x : LaneId) (e : EndId), ((s.lane x).port e).quarantined = true) ∧
    (∃ (s : State) (x : LaneId) (e : EndId), ((s.lane x).port e).ordered = true ∧ ((s.lane x).port e).isUp = false) ∧
    (∃ (s : State) (x : LaneId), (s.lane x).roll.line2Deferred = true) ∧
    (∃ (s : State) (x : LaneId) (e : EndId) (snr : Int), Canon s ∧ ((s.lane x).port e).isUp = true ∧ 150 ≤ snr) ∧
    (∃ (s : State) (x : LaneId) (e : EndId), Canon s ∧ ((s.lane x).port e).isUp = true ∧ ((s.lane x).port
      e).alarmArmed = true ∧ toSigned 32 (s.get x (key 0x2008 (endSub e))) < 150 ∧ ((s.lane x).port e).requestAt =
      none) ∧
    (∃ (s : State) (x : LaneId) (e : EndId) (at0 : Nat), ((s.lane x).port e).isUp = true ∧ ((s.lane x).port
      e).alarmArmed = true ∧ toSigned 32 (s.get x (key 0x2008 (endSub e))) < 150 ∧ ((s.lane x).port e).requestAt =
      some at0 ∧ s.clock < at0 + 10000000000) ∧
    (∃ (s : State) (x : LaneId) (e : EndId), ((s.lane x).port e).requestWaits = true) :=
  ⟨⟨(fun (x : LaneId) (e : EndId) => (on).upd x (fun l => l.updPort e (fun p => { p with step := .up }))) .A .e1, .A,
      .e1, by decide +kernel⟩,
    ⟨(fun (x : LaneId) (e : EndId) => ((on).upd x (fun l => l.updPort e (fun p => { p with step := .up }))).upd x (fun
      l => l.updPort e (fun p => { p with fecErrors := 11 }))) .A .e1, .A, .e1, by decide +kernel⟩,
    ⟨on, .A, .e1, by decide +kernel⟩,
    ⟨(fun (x : LaneId) (e : EndId) => ((on).upd x (fun l => l.updPort e (fun p => { p with takenDown := true }))).upd
      x (fun l => { l with bypassOpen := true, port1.step := .down })) .A .e1, .A, .e1, by decide +kernel⟩,
    ⟨(fun (x : LaneId) (e : EndId) => ((on).upd x (fun l => l.updPort e (fun p =>
      { p with quarantined := false }))).upd x (fun l => l.updPort e (fun p =>
      { p with changes := [1, 2, 3, 4, 5] }))) .A .e1, .A, .e1, by decide +kernel⟩,
    ⟨on, .A, .e1, by decide +kernel⟩,
    ⟨(fun (x : LaneId) (e : EndId) => (on).upd x (fun l => l.updPort e (fun p => { p with quarantined := true }))) .A
      .e1, .A, .e1, by decide +kernel⟩,
    ⟨(fun (x : LaneId) (e : EndId) => ((on).upd x (fun l => l.updPort e (fun p => { p with ordered := true }))).upd x
      (fun l => l.updPort e (fun p => { p with step := .seeking }))) .A .e1, .A, .e1, by decide +kernel⟩,
    ⟨(fun (x : LaneId) => (on).upd x (fun l => { l with roll.line2Deferred := true })) .A, .A, by decide +kernel⟩,
    ⟨(fun (x : LaneId) (e : EndId) => (on).upd x (fun l => l.updPort e (fun p => { p with step := .up }))) .A .e1, .A,
      .e1, 150, by decide +kernel⟩,
    ⟨(fun (x : LaneId) (e : EndId) => (((on).upd x (fun l => l.updPort e (fun p => { p with step := .up }))).upd x
      (fun l => l.updPort e (fun p => { p with alarmArmed := true }))).upd x (fun l => l.updPort e (fun p =>
      { p with requestAt := none }))) .A .e1, .A, .e1, by decide +kernel⟩,
    ⟨(fun (x : LaneId) (e : EndId) (at0 : Nat) => (((on).upd x (fun l => l.updPort e (fun p =>
      { p with step := .up }))).upd x (fun l => l.updPort e (fun p => { p with alarmArmed := true }))).upd x (fun l =>
      l.updPort e (fun p => { p with requestAt := some at0 }))) .A .e1 1, .A, .e1, 1, by decide +kernel⟩,
    ⟨(fun (x : LaneId) (e : EndId) => (on).upd x (fun l => l.updPort e (fun p => { p with requestWaits := true }))) .A
      .e1, .A, .e1, by decide +kernel⟩⟩

/-- States and operands that meet the hypotheses of `Obligations.CableDiagnostics`, clause by clause. -/
theorem witness_CableDiagnostics :
    (∃ (s : State) (a : Sys2Proof.Acc) (x : LaneId), Reaches s a 1 x ∧ (s.lane x).port1.isUp = true) ∧
    (∃ (s : State) (a : Sys2Proof.Acc) (x : LaneId), Reaches s a 1 x ∧ (s.lane x).port1.isUp = false) ∧
    (∃ (s : State) (a : Sys2Proof.Acc) (x : LaneId), Reaches s a 2 x ∧ (s.lane x.peer).port1.isUp = false) ∧
    (∃ (s : State) (a : Sys2Proof.Acc) (x : LaneId), Reaches s a 2 x ∧ (s.lane x.peer).port1.isUp = true ∧ (s.lane
      x.peer).port2.isUp = true ∧ (s.lane x).port1.isUp = true) ∧
    (∃ (s : State) (a : Sys2Proof.Acc) (x : LaneId), Reaches s a 1 x ∧ s.role a.path = 1) ∧
    (∃ (s : State) (x : LaneId) (e : EndId), Canon s ∧ ((s.lane x).port e).diag = true ∧ ((s.lane x).port e).step =
      .down ∧ ((s.lane x).port e).takenDown = false ∧ ((s.lane x).port e).quarantined = false ∧ ((s.lane x).port
      e).heldDown = false ∧ (s.lane x).enabled e = true ∧ (s.lane x).bypassOpen = true ∧ (s.lane x).portPowerOff =
      false ∧ ((((s.lane x).port e).diagCmd = true → Quiet s x 39))) ∧
    (∃ (s : State) (x : LaneId) (ins : BitVec 32) (lim : BitVec 32), (s.lane x).ready = true ∧ ins.toNat < lim.toNat) ∧
    (∃ (s : State) (x : LaneId) (ins : BitVec 32) (lim : BitVec 32), (s.lane x).ready = true ∧ lim.toNat ≤ ins.toNat) :=
  ⟨⟨(fun (x : LaneId) => (on).upd x (fun l => l.updPort .e1 (fun p => { p with step := .up }))) .A, ⟨.service 0,
      .acting⟩, .A, by decide +kernel⟩,
    ⟨(fun (x : LaneId) => (on).upd x (fun l => l.updPort .e1 (fun p => { p with step := .seeking }))) .A, ⟨.service 0,
      .acting⟩, .A, by decide +kernel⟩,
    ⟨(fun (x : LaneId) => (on).upd x.peer (fun l => l.updPort .e1 (fun p => { p with step := .seeking }))) .A,
      ⟨.service 0, .acting⟩, .A, by decide +kernel⟩,
    ⟨(fun (x : LaneId) => ((on).upd x.peer (fun l => { l with port1.step := .up, port2.step := .up })).upd x (fun l =>
      { l with port1.step := .up })) .A, ⟨.service 0, .acting⟩, .A, by decide +kernel⟩,
    ⟨(fun s : State => ({ s with sec.sessions := [{ ServiceSession.reset with role := some 1 }] } : State)) (on),
      ⟨.service 0, .acting⟩, .A, by decide +kernel⟩,
    ⟨(fun (x : LaneId) (e : EndId) => (((((((on).upd x (fun l => l.updPort e (fun p => { p with diag := true }))).upd
      x (fun l => l.updPort e (fun p => { p with step := .down }))).upd x (fun l => l.updPort e (fun p =>
      { p with takenDown := false }))).upd x (fun l => l.updPort e (fun p => { p with quarantined := false }))).upd x
      (fun l => l.updPort e (fun p => { p with heldDown := false }))).put x (key 0x2000 (endSub e)) 1).upd x (fun l =>
      { l with bypassOpen := true })) .A .e1, .A, .e1, by decide +kernel⟩,
    ⟨on, .A, 1, 2, by decide +kernel⟩,
    ⟨on, .A, 1, 1, by decide +kernel⟩⟩

/-- States and operands that meet the hypotheses of `Obligations.FramesOnTheLine`, clause by clause. -/
theorem witness_FramesOnTheLine :
    (∃ (s : State) (x : LaneId) (e : EndId) (f : LineFrame) (time : BitVec 64) (c : Nat), ((s.lane x).port e).hears =
      true ∧ (s.lane x).ready = true ∧ s.earlyDrop x e f time.toNat = some c ∧ lateDrop f = none) ∧
    (∃ (s : State) (x : LaneId) (e : EndId) (f : LineFrame) (time : BitVec 64), ((s.lane x).port e).isUp = true ∧
      (s.lane x).ready = true ∧ s.earlyDrop x e f time.toNat = none ∧ lateDrop f = none ∧ f.isFlow = false ∧ f.dest =
      rollGroup ∧ ringFrame f = false ∧ unstampedGroup f = false) ∧
    (∃ (s : State) (x : LaneId) (e : EndId) (f : LineFrame) (time : BitVec 64), ((s.lane x).port e).isUp = true ∧
      (s.lane x).ready = true ∧ s.earlyDrop x e f time.toNat = none ∧ lateDrop f = none ∧ f.isFlow = false ∧
      s.forwards x f = true ∧ s.forMe x f = false ∧ ((s.lane x).port e.other).rateHeld = false ∧ ((s.lane x).port
      e.other).refusesFrame (.forwarded f) = none) ∧
    (∃ (s : State) (x : LaneId) (e : EndId) (f : LineFrame) (c : Nat), lateDrop f = some c ∧ ((s.lane x).port e).isUp
      = true ∧ ((s.lane x).port e.other).isUp = true ∧ (s.lane x).ready = true ∧ s.forwards x f = true ∧ s.forMe x f =
      false ∧ ((s.lane x).port e).judged ≠ some f) ∧
    (∃ (s : State) (x : LaneId) (e : EndId) (f : LineFrame) (c : Nat), lateDrop f = some c ∧ ((s.lane x).port e).isUp
      = true ∧ ((s.lane x).port e.other).isUp = true ∧ (s.lane x).ready = true ∧ s.forwards x f = true ∧ ((s.lane
      x).port e).judged = some f) ∧
    (∃ (x : LaneId) (f : LineFrame), 64 ≤ f.length ∧ f.headerOk = false ∧ f.own = true ∧ foreignAddress x f = false) ∧
    (∃ (s : State) (x : LaneId), (s.lane x).ready = true) ∧
    (∃ (s : State) (x : LaneId), (s.lane x).ready = true) ∧
    (∃ (s : State) (x : LaneId) (u : BitVec 64), (s.lane x).ready = true ∧ (s.lane x).positionOf u.toNat = 0) ∧
    (∃ (s : State) (x : LaneId), (s.lane x).ready = true) ∧
    (∃ (l : LaneState) (e : EndId), l.quiet = false ∧ (l.port e).isUp = false) ∧
    (∃ (l : LaneState) (e : EndId), l.quiet = false ∧ (l.port e).isUp = true ∧ (l.port e).rateHeld = true) ∧
    (∃ (l : LaneState) (e : EndId) (f : OutFrame), l.quiet = false ∧ (l.port e).isUp = true ∧ (l.port e).rateHeld =
      false ∧ 65536 < (l.port e).fill + frameLength f) ∧
    (∃ (l : LaneState) (e : EndId) (f : OutFrame), l.quiet = false ∧ (l.port e).isUp = true ∧ (l.port e).rateHeld =
      false ∧ (l.port e).fill + frameLength f ≤ 65536) ∧
    (∃ (l : LaneState), l.quiet = true) ∧
    (∃ (s : State) (x : LaneId) (e : EndId) (time : BitVec 64) (f : OutFrame) (q : BitVec 16), Canon s ∧ ((s.lane
      x).port e).isUp = true ∧ ((s.lane x).port e).rateHeld = false ∧ ((s.lane x).port e).queue = [f, .pause q] ∧
      sendKind f ≠ .pause ∧ (s.lane x).fitsGap s.uid x time.toNat (wireTime ((s.lane x).port e).rate 64) = true) ∧
    (∃ (s : State) (x : LaneId) (e : EndId) (time : BitVec 64) (m : SyncMsg), Canon s ∧ ((s.lane x).port e).isUp =
      true ∧ ((s.lane x).port e).rateHeld = false ∧ ((s.lane x).port e).paused = 0 ∧ ((s.lane x).port e).queue =
      [.sync m] ∧ (s.lane x).fitsGap s.uid x time.toNat (wireTime ((s.lane x).port e).rate (frameLength (.sync m))) =
      true) ∧
    (∃ (s : State) (x : LaneId) (e : EndId), ((s.lane x).port e).isUp = true) :=
  ⟨⟨(fun (x : LaneId) (e : EndId) => (on).upd x (fun l => l.updPort e (fun p => { p with step := .up }))) .A .e1, .A,
      .e1, frame 0x020000000000 0x88B5 (List.replicate 50 0), 1, 7, by decide +kernel⟩,
    ⟨(fun (x : LaneId) (e : EndId) => (on).upd x (fun l => l.updPort e (fun p => { p with step := .up }))) .A .e1, .A,
      .e1, frame rollGroup 0x88B5 (ownHeader 0 0 0 0 0 0 40 ++ List.replicate 40 0), 1, by decide +kernel⟩,
    ⟨(fun (x : LaneId) (e : EndId) => (((on).upd x (fun l => l.updPort e (fun p => { p with step := .up }))).upd x
      (fun l => l.updPort e.other (fun p => { p with rateHeld := false }))).upd x (fun l => l.updPort e.other (fun p
      => { p with step := .up }))) .A .e1, .A, .e1, frame 0x020000000007 0x88F7 (List.replicate 64 0), 1,
      by decide +kernel⟩,
    ⟨(fun (x : LaneId) (e : EndId) => ((on).upd x (fun l => l.updPort e (fun p => { p with step := .up }))).upd x (fun
      l => l.updPort e.other (fun p => { p with step := .up }))) .A .e1, .A, .e1,
      { frame 0x020000000007 0x88F7 (List.replicate 64 0) with fcs := .bad }, 1, by decide +kernel⟩,
    ⟨(fun (x : LaneId) (e : EndId) (f : LineFrame) => (((on).upd x (fun l => l.updPort e (fun p =>
      { p with step := .up }))).upd x (fun l => l.updPort e.other (fun p => { p with step := .up }))).upd x (fun l =>
      l.updPort e (fun p => { p with judged := some f }))) .A .e1
      ({ frame 0x020000000007 0x88F7 (List.replicate 64 0) with fcs := .bad }), .A, .e1,
      { frame 0x020000000007 0x88F7 (List.replicate 64 0) with fcs := .bad }, 1, by decide +kernel⟩,
    ⟨.A, frame 0x020000000007 0x88B5 (List.replicate 64 0), by decide +kernel⟩,
    ⟨(fun (x : LaneId) => (on).upd x (fun l => l.updPort .e1 (fun p => { p with step := .up }))) .A, .A,
      by decide +kernel⟩,
    ⟨(fun (x : LaneId) => (on).upd x (fun l => l.updPort .e1 (fun p => { p with step := .up }))) .A, .A,
      by decide +kernel⟩,
    ⟨(fun (x : LaneId) => (on).upd x (fun l => l.updPort .e1 (fun p => { p with step := .up }))) .A, .A, 9,
      by decide +kernel⟩,
    ⟨on, .A, by decide +kernel⟩,
    ⟨lane .possession, .e1, by decide +kernel⟩,
    ⟨(lane .possession).updPort .e1 (fun p => { p with step := .up, rateHeld := true }), .e1, by decide +kernel⟩,
    ⟨(lane .possession).updPort .e1 (fun p =>
      { p with step := .up, queue := List.replicate 65 (.msg 0 { MSG with data := List.replicate 1000 0 }) }), .e1,
      .pause 5, by decide +kernel⟩,
    ⟨(lane .possession).updPort .e1 (fun p => { p with step := .up }), .e1, .pause 5, by decide +kernel⟩,
    ⟨{ lane .possession with quiet := true }, by decide +kernel⟩,
    ⟨(fun (x : LaneId) (e : EndId) (f : OutFrame) (q : BitVec 16) => (((on).upd x (fun l => l.updPort e (fun p =>
      { p with step := .up }))).upd x (fun l => l.updPort e (fun p => { p with rateHeld := false }))).upd x (fun l =>
      l.updPort e (fun p => { p with queue := [f, .pause q] }))) .A .e1 (.pdelayReq 1 1) 1, .A, .e1, 1, .pdelayReq 1
      1, 1, by decide +kernel⟩,
    ⟨(fun (x : LaneId) (e : EndId) (m : SyncMsg) => ((((on).upd x (fun l => l.updPort e (fun p =>
      { p with step := .up }))).upd x (fun l => l.updPort e (fun p => { p with rateHeld := false }))).upd x (fun l =>
      l.updPort e (fun p => { p with paused := 0 }))).upd x (fun l => l.updPort e (fun p =>
      { p with queue := [.sync m] }))) .A .e1 (syncOf 9), .A, .e1, 1, syncOf 9, by decide +kernel⟩,
    ⟨(fun (x : LaneId) (e : EndId) => (on).upd x (fun l => l.updPort e (fun p => { p with step := .up }))) .A .e1, .A,
      .e1, by decide +kernel⟩⟩

/-- States and operands that meet the hypotheses of `Obligations.PauseAndReceiveRing`, clause by clause. -/
theorem witness_PauseAndReceiveRing :
    (∃ (s : State) (x : LaneId) (e : EndId), ((s.lane x).port e).isUp = true ∧ (s.lane x).ready = true ∧ s.get x
      0x220500 = 1) ∧
    (∃ (s : State) (x : LaneId) (e : EndId), ((s.lane x).port e).hears = true ∧ (s.lane x).ready = true ∧ s.get x
      0x220500 = 0) ∧
    (∃ (s : State) (x : LaneId), (s.lane x).ready = true ∧ s.get x 0x220600 < s.get x 0x220200) ∧
    (∃ (s : State) (x : LaneId), s.get x 0x220200 ≤ s.get x 0x220600) ∧
    (∃ (s : State) (x : LaneId) (e : EndId), ((s.lane x).port e).sending = true ∧ ((s.lane x).port e).isUp = true ∧
      s.get x 0x220600 < s.get x 0x220300) ∧
    (∃ (s : State) (x : LaneId), s.get x 0x220300 ≤ s.get x 0x220600) ∧
    (∃ (l : LaneState) (f : LineFrame), Machine.tabCanon regDefault l.reg = true ∧ buffersOf f.payload ≤ l.ringFree ∧
      l.ringFree ≤ 1024) ∧
    (∃ (l : LaneState) (f : LineFrame), Machine.tabCanon regDefault l.reg = true ∧ l.ringFree < buffersOf f.payload) ∧
    (∃ (s : State) (x : LaneId) (e : EndId) (f : LineFrame) (time : BitVec 64), Canon s ∧ ((s.lane x).port e).isUp =
      true ∧ (s.lane x).ready = true ∧ ((s.lane x).port e).judged ≠ some f ∧ ringFrame f = true ∧ f.isFlow = false ∧
      (s.lane x).ringFree < buffersOf f.payload ∧ s.forMe x f = true ∧ unstampedGroup f = false ∧ s.earlyDrop x e f
      time.toNat = none ∧ lateDrop f = none ∧ s.forwards x f = false) ∧
    (∃ (s : State) (x : LaneId) (c : List Byte) (rest : List (List Byte)), (s.lane x).ring = c :: rest) :=
  ⟨⟨(fun (x : LaneId) (e : EndId) => ((on).upd x (fun l => l.updPort e (fun p => { p with step := .up }))).put x
      0x220500 (1)) .A .e1, .A, .e1, by decide +kernel⟩,
    ⟨(fun (x : LaneId) (e : EndId) => ((on).upd x (fun l => l.updPort e (fun p => { p with step := .up }))).put x
      0x220500 (0)) .A .e1, .A, .e1, by decide +kernel⟩,
    ⟨(fun (x : LaneId) => ((on).put x 0x220600 5).upd x (fun l => l.updPort .e1 (fun p => { p with step := .up })))
      .A, .A, by decide +kernel⟩,
    ⟨on, .A, by decide +kernel⟩,
    ⟨(fun (x : LaneId) (e : EndId) => (((on).upd x (fun l => l.updPort e (fun p => { p with sending := true }))).upd x
      (fun l => l.updPort e (fun p => { p with step := .up }))).put x 0x220600 5) .A .e1, .A, .e1, by decide +kernel⟩,
    ⟨on, .A, by decide +kernel⟩,
    ⟨lane .possession, frame messageGroup 0x88B5 (ownHeader 2 0 0 0 0 0 300 ++ List.replicate 300 0),
      by decide +kernel⟩,
    ⟨(lane .possession).put 0x220600 1, frame messageGroup 0x88B5 (ownHeader 2 0 0 0 0 0 300 ++ List.replicate 300 0),
      by decide +kernel⟩,
    ⟨(fun (x : LaneId) (e : EndId) => ((on).upd x (fun l => l.updPort e (fun p => { p with step := .up }))).put x
      0x220600 1) .A .e1, .A, .e1, frame (macAddress on.uid .A) 0x88B5 (ownHeader 2 0 0 0 0 0 300 ++ List.replicate
      300 0), 1, by decide +kernel⟩,
    ⟨(fun (x : LaneId) (c : List Byte) (rest : List (List Byte)) => (on).upd x (fun l =>
      { l with ring := c :: rest })) .A ([]) ([]), .A, [], [], by decide +kernel⟩⟩

/-- States and operands that meet the hypotheses of `Obligations.EpochAndCloseOrder`, clause by clause. -/
theorem witness_EpochAndCloseOrder :
    (∃ (a : Nat) (b : Nat), a < 65536 ∧ b < 65536 ∧ a ≠ b) ∧
    (∃ (a : Nat) (b : Nat), a < 65536 ∧ b < 65536 ∧ 1 ≤ (a + 65536 - b) % 65536 ∧ (a + 65536 - b) % 65536 ≤ 32767) ∧
    (∃ (a : Nat) (b : Nat), a < 65536 ∧ b < 65536 ∧ (a + 65536 - b) % 65536 = 32768) ∧
    (∃ (s : State) (x : LaneId) (c : Close) (k : Close), (s.lane x).roll.adopted = some k ∧ c.fields.members.toNat <
      k.fields.members.toNat) ∧
    (∃ (s : State) (x : LaneId) (c : Close) (k : Close), (s.lane x).roll.adopted = some k ∧ k.fields.members.toNat <
      c.fields.members.toNat) ∧
    (∃ (s : State) (x : LaneId) (c : Close) (k : Close), (s.lane x).roll.adopted = some k ∧ c.fields.members =
      k.fields.members ∧ c.fields.stamp.toNat < k.fields.stamp.toNat) ∧
    (∃ (t : Int), 0 ≤ t) :=
  ⟨⟨1, 40000, by decide +kernel⟩,
    ⟨2, 1, by decide +kernel⟩,
    ⟨40768, 8000, by decide +kernel⟩,
    ⟨(fun (x : LaneId) (k : Close) => (on).upd x (fun l => { l with roll.adopted := some k })) .A (closeOf 1 [member 1
      9, member 2 8] 5), .A, closeOf 1 [member 1 9] 5, closeOf 1 [member 1 9, member 2 8] 5, by decide +kernel⟩,
    ⟨(fun (x : LaneId) (k : Close) => (on).upd x (fun l => { l with roll.adopted := some k })) .A (closeOf 1 [member 1
      9] 5), .A, closeOf 1 [member 1 9, member 2 8] 5, closeOf 1 [member 1 9] 5, by decide +kernel⟩,
    ⟨(fun (x : LaneId) (k : Close) => (on).upd x (fun l => { l with roll.adopted := some k })) .A (closeOf 1 [member 1
      9] 5), .A, closeOf 1 [member 1 9] 4, closeOf 1 [member 1 9] 5, by decide +kernel⟩,
    ⟨0, by decide +kernel⟩⟩

/-- States and operands that meet the hypotheses of `Obligations.RollTriggers`, clause by clause. -/
theorem witness_RollTriggers :
    (∃ (s : State) (x : LaneId) (code : Fin 10), (code.val = 1 ∨ code.val = 2) ∧ s.keeper.sleepBeat = none ∧ (s.lane
      x).ready = true ∧ (s.lane x).roll.running = false ∧ (s.lane x).roll.trigger = none) ∧
    (∃ (s : State) (x : LaneId) (code : Fin 10), 3 ≤ code.val ∧ s.keeper.sleepBeat = none ∧ (s.lane x).ready = true ∧
      (s.lane x).roll.adopted = none ∧ (s.lane x).roll.trigger = none) ∧
    (∃ (s : State) (x : LaneId), (s.lane x).roll.adopted = none ∧ (s.lane x).roll.trigger.isSome = true) ∧
    (∃ (s : State) (x : LaneId) (code : Fin 10), 1 ≤ code.val ∧ s.keeper.sleepBeat = none ∧ (s.lane x).ready = true ∧
      (s.lane x).roll.running = true ∧ (s.lane x).roll.adopted.isSome = true ∧ (s.lane x).roll.heldTrigger = none) ∧
    (∃ (s : State), s.keeper.sleepBeat.isSome = true) ∧
    (∃ (s : State) (x : LaneId), (s.lane x).roll.notNumbered = true) ∧
    (∃ (s : State) (a : Sys2Proof.Acc) (x : LaneId), Reaches s a 1 x ∧ s.keeper.sleepBeat = none) ∧
    (∃ (s : State) (a : Sys2Proof.Acc) (x : LaneId), Reaches s a 1 x ∧ s.keeper.sleepBeat.isSome = true) ∧
    (∃ (s : State) (a : Sys2Proof.Acc) (x : LaneId) (v : Byte), Reaches s a 1 x ∧ v.toNat ≤ 1 ∧ s.get x 0x242100 ≠
      v.toNat) ∧
    (∃ (s : State) (a : Sys2Proof.Acc) (x : LaneId) (v : Byte), Reaches s a 1 x ∧ v.toNat ≤ 1 ∧ s.get x 0x242100 =
      v.toNat) :=
  ⟨⟨(fun (x : LaneId) => (((fun s : State => ({ s with keeper.sleepBeat := none } : State)) (on)).upd x (fun l =>
      { l with roll.running := false })).upd x (fun l => { l with roll.trigger := none })) .A, .A, 1,
      by decide +kernel⟩,
    ⟨(fun (x : LaneId) => (((fun s : State => ({ s with keeper.sleepBeat := none } : State)) (on)).upd x (fun l =>
      { l with roll.adopted := none })).upd x (fun l => { l with roll.trigger := none })) .A, .A, 3,
      by decide +kernel⟩,
    ⟨(fun (x : LaneId) => ((on).upd x (fun l => { l with roll.adopted := none })).upd x (fun l =>
      { l with roll.trigger := some 2 })) .A, .A, by decide +kernel⟩,
    ⟨(fun (x : LaneId) => ((((fun s : State => ({ s with keeper.sleepBeat := none } : State)) (on)).upd x (fun l =>
      { l with roll.running := true })).upd x (fun l => { l with roll.heldTrigger := none })).upd x (fun l =>
      { l with roll.adopted := some (closeOf 1 [] 1) })) .A, .A, 1, by decide +kernel⟩,
    ⟨(fun s : State => ({ s with keeper.sleepBeat := some 5 } : State)) (on), by decide +kernel⟩,
    ⟨(fun (x : LaneId) => (on).upd x (fun l => { l with roll.notNumbered := true })) .A, .A, by decide +kernel⟩,
    ⟨(fun s : State => ({ s with keeper.sleepBeat := none } : State)) (on), ⟨.service 0, .acting⟩, .A,
      by decide +kernel⟩,
    ⟨(fun s : State => ({ s with keeper.sleepBeat := some 5 } : State)) (on), ⟨.service 0, .acting⟩, .A,
      by decide +kernel⟩,
    ⟨on, ⟨.service 0, .acting⟩, .A, 1, by decide +kernel⟩,
    ⟨(fun (x : LaneId) (v : Byte) => (on).put x 0x242100 (v.toNat)) .A 1, ⟨.service 0, .acting⟩, .A, 1,
      by decide +kernel⟩⟩

/-- States and operands that meet the hypotheses of `Obligations.RollFrames`, clause by clause. -/
theorem witness_RollFrames :
    (∃ (s : State) (x : LaneId) (code : Nat), Canon s ∧ (s.lane x).roll.trigger = some code ∧ (s.lane x).roll.holdOff
      = false ∧ (s.lane x).roll.spaced = true ∧ (s.lane x).ready = true ∧ code < 256) ∧
    (∃ (s : State) (x : LaneId) (code : Nat), (s.lane x).roll.trigger = some code ∧ ((s.lane x).roll.holdOff = true ∨
      (s.lane x).roll.spaced = false)) ∧
    (∃ (s : State) (x : LaneId) (e : EndId) (ep : BitVec 16) (b : List Byte) (c : Byte), Canon s ∧ (s.lane x).ready =
      true ∧ ((s.lane x).port e).isUp = true ∧ rollFrameOk (rollOf ep b) = true ∧ (rollOf ep b).body = .start c ∧
      epochNewer ep.toNat (s.get x 0x240100) = true) ∧
    (∃ (s : State) (x : LaneId) (e : EndId) (ep : BitVec 16) (b : List Byte), (s.lane x).ready = true ∧ ((s.lane
      x).port e).isUp = true ∧ rollFrameOk (rollOf ep b) = false) ∧
    (∃ (s : State) (x : LaneId) (e : EndId) (ep : BitVec 16) (b : List Byte), (s.lane x).ready = true ∧ ((s.lane
      x).port e).isUp = true ∧ rollFrameOk (rollOf ep b) = true ∧ epochNewer ep.toNat (s.get x 0x240100) = false ∧
      ep.toNat ≠ s.get x 0x240100 ∧ (s.lane x).roll.running = false) ∧
    (∃ (s : State) (x : LaneId) (e : EndId) (ep : BitVec 16) (b : List Byte), Canon s ∧ (s.lane x).ready = true ∧
      ((s.lane x).port e).isUp = true ∧ rollFrameOk (rollOf ep b) = true ∧ epochNewer ep.toNat (s.get x 0x240100) =
      false ∧ ep.toNat ≠ s.get x 0x240100 ∧ (s.lane x).roll.running = true) ∧
    (∃ (s : State) (x : LaneId) (src : RollSrc) (ep : BitVec 16) (b : List Byte), (s.lane x).ready = true ∧
      (match src with | .port e => ((s.lane x).port e).isUp | .peer => (s.lane x).poss.mirrorUp) = true ∧ rollFrameOk
      (rollOf ep b) = true ∧ ep.toNat = s.get x 0x240100 ∧ rollKind (rollOf ep b).body ≠ 3 ∧ (s.lane
      x).roll.seen.contains (rollKind (rollOf ep b).body, (rollOf ep b).origin.toNat, (rollOf ep b).index.toNat) =
      true) ∧
    (∃ (s : State) (x : LaneId), (s.lane x).roll.running = true ∧ (s.lane x).roll.lineList = none) ∧
    (∃ (s : State) (x : LaneId) (own : List DirEntry), (s.lane x).roll.running = true ∧ (s.lane x).roll.candidate =
      none ∧ (s.lane x).roll.lineList = some own ∧ (s.lane x).roll.peerList = none) ∧
    (∃ (s : State) (x : LaneId) (own : List DirEntry) (peer : List DirEntry), (s.lane x).roll.running = true ∧ (s.lane
      x).roll.candidate = none ∧ (s.lane x).roll.lineList = some own ∧ (s.lane x).roll.peerList = some peer) ∧
    (∃ (s : State) (x : LaneId), (s.lane x).roll.candidate = none ∧ (s.lane x).roll.peerList = none ∧ (s.lane
      x).poss.mirrorCurrent = true) ∧
    (∃ (s : State) (x : LaneId) (c : Candidate), (s.lane x).roll.running = true ∧ (s.lane x).roll.adopted = none ∧
      (s.lane x).roll.candidate = some c ∧ c.entries ≠ [] ∧ (s.lane x).roll.missing s.uid ≠ []) ∧
    (∃ (s : State) (x : LaneId) (limit : Bool) (c : Candidate) (d : DirEntry) (rest : List DirEntry), (s.lane
      x).roll.running = true ∧ (s.lane x).roll.adopted = none ∧ (s.lane x).roll.closed = false ∧ (s.lane
      x).roll.candidate = some c ∧ c.entries = d :: rest ∧ d.uid.toNat = s.uid ∧ (limit = true ∨ (s.lane
      x).roll.hasWanted s.uid = true) ∧ s.hasOffset x (masterUid c.entries c.master) = true) ∧
    (∃ (s : State) (x : LaneId) (c : Candidate) (d : DirEntry) (rest : List DirEntry), (s.lane x).roll.candidate =
      some c ∧ c.entries = d :: rest ∧ d.uid.toNat ≠ s.uid) ∧
    (∃ (s : State) (x : LaneId), (s.lane x).roll.hasWanted s.uid = false) ∧
    (∃ (s : State) (x : LaneId), (s.lane x).roll.running = true ∧ (s.lane x).roll.adopted = none) ∧
    (∃ (s : State) (x : LaneId) (own : List DirEntry), (s.lane x).roll.running = true ∧ (s.lane x).roll.candidate =
      none ∧ (s.lane x).roll.lineList = some own ∧ (s.lane x).roll.peerList = none ∧ (s.lane x).poss.mirrorCurrent =
      false) :=
  ⟨⟨(fun (x : LaneId) (code : Nat) => (((on).upd x (fun l => { l with roll.trigger := some code })).upd x (fun l =>
      { l with roll.holdOff := false })).upd x (fun l => { l with roll.spaced := true })) .A 1, .A, 1,
      by decide +kernel⟩,
    ⟨(fun (x : LaneId) (code : Nat) => ((on).upd x (fun l => { l with roll.trigger := some code })).upd x (fun l =>
      { l with roll.holdOff := true })) .A 1, .A, 1, by decide +kernel⟩,
    ⟨(fun (x : LaneId) (e : EndId) => (on).upd x (fun l => l.updPort e (fun p => { p with step := .up }))) .A .e1, .A,
      .e1, 5, [1, 0x80, 0, 0, 0, 0, 0, 0, 0, 0, 0, 9, 1, 0, 0, 0], 1, by decide +kernel⟩,
    ⟨(fun (x : LaneId) (e : EndId) => (on).upd x (fun l => l.updPort e (fun p => { p with step := .up }))) .A .e1, .A,
      .e1, 5, [], by decide +kernel⟩,
    ⟨(fun (x : LaneId) (e : EndId) => ((on).upd x (fun l => l.updPort e (fun p => { p with step := .up }))).upd x (fun
      l => { l with roll.running := false })) .A .e1, .A, .e1, 65535, [1, 0x80, 0, 0, 0, 0, 0, 0, 0, 0, 0, 9, 1, 0, 0,
      0], by decide +kernel⟩,
    ⟨(fun (x : LaneId) (e : EndId) => ((on).upd x (fun l => l.updPort e (fun p => { p with step := .up }))).upd x (fun
      l => { l with roll.running := true })) .A .e1, .A, .e1, 65535, [1, 0x80, 0, 0, 0, 0, 0, 0, 0, 0, 0, 9, 1, 0, 0,
      0], by decide +kernel⟩,
    ⟨(fun (x : LaneId) => (on).upd x (fun l => { l with roll.seen := [(rollKind (.start 1), 9, 0)] })) .A, .A, .peer,
      0, [1, 0x80, 0, 0, 0, 0, 0, 0, 0, 0, 0, 9, 1, 0, 0, 0], by decide +kernel⟩,
    ⟨(fun (x : LaneId) => ((on).upd x (fun l => { l with roll.running := true })).upd x (fun l =>
      { l with roll.lineList := none })) .A, .A, by decide +kernel⟩,
    ⟨(fun (x : LaneId) (own : List DirEntry) => ((((on).upd x (fun l => { l with roll.running := true })).upd x (fun l
      => { l with roll.candidate := none })).upd x (fun l => { l with roll.lineList := some own })).upd x (fun l =>
      { l with roll.peerList := none })) .A ([]), .A, [], by decide +kernel⟩,
    ⟨(fun (x : LaneId) (own : List DirEntry) (peer : List DirEntry) => ((((on).upd x (fun l =>
      { l with roll.running := true })).upd x (fun l => { l with roll.candidate := none })).upd x (fun l =>
      { l with roll.lineList := some own })).upd x (fun l => { l with roll.peerList := some peer })) .A ([]) ([]), .A,
      [], [], by decide +kernel⟩,
    ⟨(fun (x : LaneId) => ((on).upd x (fun l => { l with roll.candidate := none })).upd x (fun l =>
      { l with roll.peerList := none })) .A, .A, by decide +kernel⟩,
    ⟨(fun (x : LaneId) => (fun s : State => s.upd x (fun l =>
      { l with roll.running := true, roll.candidate := some ⟨[member 1 s.uid, MD], 0, 1, false⟩ })) (on)) .A, .A,
      ⟨[member 1 State.reset.uid, MD], 0, 1, false⟩, by decide +kernel⟩,
    ⟨(fun (x : LaneId) (c : Candidate) => ((((on).upd x (fun l => { l with roll.running := true })).upd x (fun l =>
      { l with roll.adopted := none })).upd x (fun l => { l with roll.closed := false })).upd x (fun l =>
      { l with roll.candidate := some c })) .A (⟨[member 1 State.reset.uid, member 2 9], 0, 1, false⟩), .A, false,
      ⟨[member 1 State.reset.uid, member 2 9], 0, 1, false⟩, member 1 State.reset.uid, [member 2 9],
      by decide +kernel⟩,
    ⟨(fun (x : LaneId) (c : Candidate) => (on).upd x (fun l => { l with roll.candidate := some c })) .A (⟨[member 1
      9], 0, 1, false⟩), .A, ⟨[member 1 9], 0, 1, false⟩, member 1 9, [], by decide +kernel⟩,
    ⟨(fun (x : LaneId) => (on).upd x (fun l => { l with roll.wanted := [(9, 7)] })) .A, .A, by decide +kernel⟩,
    ⟨(fun (x : LaneId) => ((on).upd x (fun l => { l with roll.running := true })).upd x (fun l =>
      { l with roll.adopted := none })) .A, .A, by decide +kernel⟩,
    ⟨(fun (x : LaneId) (own : List DirEntry) => (((((on).upd x (fun l => { l with roll.running := true })).upd x (fun
      l => { l with roll.candidate := none })).upd x (fun l => { l with roll.lineList := some own })).upd x (fun l =>
      { l with roll.peerList := none })).upd x (fun l => { l with poss.mirrorUp := false, poss.allowance := false }))
      .A ([]), .A, [], by decide +kernel⟩⟩

/-- States and operands that meet the hypotheses of `Obligations.SwitchBeatAndSchedule`, clause by clause. -/
theorem witness_SwitchBeatAndSchedule :
    (∃ (s : State) (x : LaneId) (c : Close), Canon s ∧ (s.lane x).roll.adopted = some c ∧ (s.lane x).roll.running =
      true ∧ (s.lane x).ready = true ∧ Quiet s x 34 ∧ Quiet s x 48 ∧ Quiet s x 57 ∧ Quiet s x 58 ∧ Quiet s x 107) ∧
    (∃ (s : State) (x : LaneId), (s.lane x).roll.adopted = none) ∧
    (∃ (s : State) (x : LaneId) (c : Close), (s.lane x).ready = true ∧ (s.lane x).roll.running = true ∧ (s.lane
      x).roll.adopted = some c ∧ c.entries ≠ [] ∧ (s.lane x).roll.missing s.uid = [] ∧ (s.lane x).flow.next = none) ∧
    (∃ (s : State) (x : LaneId), (s.lane x).roll.missingOf s.uid (s.lane x).scheduleNumbering ≠ []) ∧
    (∃ (s : State) (x : LaneId), (s.lane x).flow.computing = true) ∧
    (∃ (s : State) (x : LaneId) (d : Sched), (s.lane x).flow.next = some d ∧ (s.lane x).roll.lateStart = true ∧
      (s.lane x).flow.computing = false ∧ (s.lane x).roll.running = false ∧ Quiet s x 48) :=
  ⟨⟨(fun (x : LaneId) (c : Close) => ((on).upd x (fun l => { l with roll.adopted := some c })).upd x (fun l =>
      { l with roll.running := true })) .A (closeOf 0 [member 1 State.reset.uid, member 2 9] 77), .A, closeOf 0
      [member 1 State.reset.uid, member 2 9] 77, by decide +kernel⟩,
    ⟨(fun (x : LaneId) => (on).upd x (fun l => { l with roll.adopted := none })) .A, .A, by decide +kernel⟩,
    ⟨(fun (x : LaneId) (c : Close) => (((on).upd x (fun l => { l with roll.running := true })).upd x (fun l =>
      { l with roll.adopted := some c })).upd x (fun l => { l with flow.next := none })) .A (closeOf 0 [member 1
      State.reset.uid] 77), .A, closeOf 0 [member 1 State.reset.uid] 77, by decide +kernel⟩,
    ⟨(fun (x : LaneId) => (fun s : State => s.upd x (fun l =>
      { l with roll.running := true, roll.candidate := some ⟨[member 1 s.uid, member 2 9], 0, 1, false⟩, roll.adopted := some (closeOf 0 [member 1 s.uid, MD] 77) }))
      (on)) .A, .A, by decide +kernel⟩,
    ⟨(fun (x : LaneId) => (on).upd x (fun l => { l with flow.computing := true })) .A, .A, by decide +kernel⟩,
    ⟨(fun (x : LaneId) (d : Sched) => ((((on).upd x (fun l => { l with flow.next := some d })).upd x (fun l =>
      { l with roll.lateStart := true })).upd x (fun l => { l with flow.computing := false })).upd x (fun l =>
      { l with roll.running := false })) .A (⟨[], [], 100, 0, false, false⟩), .A, ⟨[], [], 100, 0, false, false⟩,
      by decide +kernel⟩⟩

/-- States and operands that meet the hypotheses of `Obligations.ScheduleWithinCapacity`, clause by clause. -/
theorem witness_ScheduleWithinCapacity :
    (∃ (fs : List SFlow), ((∀ f ∈ fs, f.offset = none ∧ f.rejected = false))) :=
  ⟨[], by decide +kernel⟩

/-- States and operands that meet the hypotheses of `Obligations.FlowsAndWave`, clause by clause. -/
theorem witness_FlowsAndWave :
    (∃ (s : State) (a : Sys2Proof.Acc) (x : LaneId) (n : Fin 1024) (sub : Fin 9) (v : BitVec 64), Reaches s a 2 x ∧ 1
      ≤ sub.val ∧ ((n.val ≠ 0 ∨ 6 ≤ sub.val)) ∧ ctxValueOk sub.val v.toNat = true ∧ ((s.lane x).put (key (0x3000 +
      n.val) sub.val) v.toNat).ctxConfigOk n.val = true) ∧
    (∃ (s : State) (a : Sys2Proof.Acc) (x : LaneId) (sub : Fin 9), Reaches s a 2 x ∧ 1 ≤ sub.val ∧ sub.val ≤ 5) ∧
    (∃ (s : State) (a : Sys2Proof.Acc) (x : LaneId) (n : Fin 1024), Reaches s a 1 x ∧ (s.lane x).ctxRole n.val = 1) ∧
    (∃ (s : State) (x : LaneId) (d : Sched) (own : DirEntry) (beat : Nat), (s.lane x).mayPublish = true ∧ (s.lane
      x).roll.running = false ∧ beat = ((s.lane x).trainTime + 20000) / 1000000 ∧ s.cutOff x beat = false ∧ (s.lane
      x).position ≠ 0 ∧ (s.lane x).flow.sched = some d ∧ d.entries.find? (fun k => decide (k.uid.toNat = s.uid)) =
      some own ∧ (s.lane x).flow.running.filter (fun p => PubEntryDue p.2 beat) ≠ []) ∧
    (∃ (s : State) (x : LaneId), (s.lane x).mayPublish = false) ∧
    (∃ (s : State) (x : LaneId), (s.lane x).ready = true ∧ (s.lane x).roll.running = false ∧ Quiet s x 75 ∧ s.cutOff x
      ((s.lane x).trainTime / 1000000) = false) ∧
    (∃ (s : State) (x : LaneId), s.cutOff x ((s.lane x).trainTime / 1000000) = true) ∧
    (∃ (s : State) (x : LaneId) (rising : Bool) (v : Launch) (rest : List Launch) (e : EndId), (s.lane
      x).flow.launches = v :: rest ∧ v.due rising = true ∧ e = (if rising then v.high else v.high.other) ∧ (s.lane
      x).mayPublish = true ∧ ((s.lane x).port e).isUp = true ∧ ((s.lane x).port e).rateHeld = false ∧ ((s.lane x).port
      e).newLink = false) ∧
    (∃ (s : State) (x : LaneId), (s.lane x).flow.launches = []) ∧
    (∃ (s : State) (x : LaneId), (s.lane x).ready = true ∧ (s.lane x).flow.transition = 0) ∧
    (∃ (s : State) (x : LaneId), (s.lane x).ready = true ∧ (s.lane x).flow.transition ≠ 0) ∧
    (∃ (s : State) (x : LaneId) (n : Nat) (c : FlowCopy), ((s.lane x).sub n).accepts c = true) ∧
    (∃ (s : State) (x : LaneId) (n : Nat) (c : FlowCopy), ((s.lane x).sub n).held = true ∧ ((s.lane x).sub n).anySeq =
      false ∧ newer16 c.seq ((s.lane x).sub n).seq = false ∧ c.active = false) ∧
    (∃ (s : State) (x : LaneId) (n : Fin 1024) (r : CopyRec), s.asksFill x n.val = some r ∧ s.fillTurn x n.val = true
      ∧ 16384 < (s.lane x.peer).flow.fillBytes + r.data.length) ∧
    (∃ (s : State) (x : LaneId) (n : Fin 1024) (r : CopyRec), s.asksFill x n.val = some r ∧ s.fillTurn x n.val = true
      ∧ ((s.lane x).sub n.val).held = false ∧ (s.lane x.peer).flow.fillBytes + r.data.length ≤ 16384) ∧
    (∃ (s : State) (x : LaneId) (n : Fin 1024), s.asksFill x n.val = none) :=
  ⟨⟨on, ⟨.service 0, .acting⟩, .A, 5, 4, 1, by decide +kernel⟩,
    ⟨on, ⟨.service 0, .acting⟩, .A, 1, by decide +kernel⟩,
    ⟨on, ⟨.service 0, .acting⟩, .A, 0, by decide +kernel⟩,
    ⟨(fun (x : LaneId) (d : Sched) => ((((on).upd x (fun l => { l with flow.sched := some d })).upd x (fun l =>
      { l with flow.running := [(1, { number := 7, period := 0, priority := 0, size := 4, held := 0 })] })).put x
      0x241003 2).put x 0x400100 2) .A (⟨[member 1 9, member 2 State.reset.uid, member 3 7], [], 100, 0, false,
      false⟩), .A, ⟨[member 1 9, member 2 State.reset.uid, member 3 7], [], 100, 0, false, false⟩, member 2
      State.reset.uid, 0, by decide +kernel⟩,
    ⟨on, .A, by decide +kernel⟩,
    ⟨(fun (x : LaneId) => (on).upd x (fun l => { l with roll.running := false })) .A, .A, by decide +kernel⟩,
    ⟨(fun (x : LaneId) => ((on).put x 0x400100 1).upd x (fun l =>
      { l with time := { l.time with ns := 50000000, samples := [⟨0, 400⟩, ⟨0, 300⟩, ⟨0, 200⟩, ⟨0, 100⟩] } })) .A, .A,
      by decide +kernel⟩,
    ⟨(fun (x : LaneId) (v : Launch) => (((on).upd x (fun l => { l with flow.launches := [v] })).put x 0x400100 2).upd
      x (fun l => (l.updPort .e1 (fun p => { p with step := .up })).updPort .e2 (fun p => { p with step := .up }))) .A
      (⟨5, 2, 77, .e2, 900, 950, true, true, [⟨7, 1, [1, 2]⟩]⟩), .A, true, ⟨5, 2, 77, .e2, 900, 950, true, true, [⟨7,
      1, [1, 2]⟩]⟩, [], .e2, by decide +kernel⟩,
    ⟨(fun (x : LaneId) => (on).upd x (fun l => { l with flow.launches := [] })) .A, .A, by decide +kernel⟩,
    ⟨(fun (x : LaneId) => (on).upd x (fun l => { l with flow.transition := 0 })) .A, .A, by decide +kernel⟩,
    ⟨(fun (x : LaneId) => (on).upd x (fun l => { l with flow.transition := 3 })) .A, .A, by decide +kernel⟩,
    ⟨on, .A, 1, ⟨5, true, false, 9, [1, 2]⟩, by decide +kernel⟩,
    ⟨(fun (x : LaneId) (n : Nat) => (on).upd x (fun l => l.updSub n (fun k => { k with held := true, seq := 5 }))) .A
      1, .A, 1, ⟨5, false, false, 9, []⟩, by decide +kernel⟩,
    ⟨(fun (r : CopyRec) => ((((on).put .A (key 0x3001 1) 2).upd .A (fun l => l.updSub 1 (fun k =>
      { k with resolution := 1 }))).upd .B (fun l => l.updSub 1 (fun k => { k with records := [r] }))).upd .B (fun l
      => { l with flow.fillBytes := 16384 })) (⟨4, true, 9, [1, 2]⟩), .A, 1, ⟨4, true, 9, [1, 2]⟩, by decide +kernel⟩,
    ⟨(fun (r : CopyRec) => (((on).put .A (key 0x3001 1) 2).upd .A (fun l => l.updSub 1 (fun k =>
      { k with resolution := 1 }))).upd .B (fun l => l.updSub 1 (fun k => { k with records := [r] }))) (⟨4, true, 9,
      [1, 2]⟩), .A, 1, ⟨4, true, 9, [1, 2]⟩, by decide +kernel⟩,
    ⟨on, .A, 0, by decide +kernel⟩⟩

/-- States and operands that meet the hypotheses of `Obligations.TimebaseAndFieldTime`, clause by clause. -/
theorem witness_TimebaseAndFieldTime :
    (∃ (s : State), s.pending = []) ∧
    (∃ (b : Nat), 0x07FDF3B7 ≤ b ∧ b ≤ 0x08020C49) ∧
    (∃ (s : State) (a : Sys2Proof.Acc) (x : LaneId) (v : BitVec 32), Canon s ∧ Reaches s a 2 x ∧ 0x07FDF3B7 ≤ v.toNat
      ∧ v.toNat ≤ 0x08020C49) ∧
    (∃ (s : State) (a : Sys2Proof.Acc) (x : LaneId) (v : BitVec 32), Reaches s a 2 x ∧ 0x08020C49 < v.toNat) :=
  ⟨⟨(fun s : State => ({ s with pending := [] } : State)) (on), by decide +kernel⟩,
    ⟨0x08000000, by decide +kernel⟩,
    ⟨on, ⟨.service 0, .acting⟩, .A, 0x08020C49, by decide +kernel⟩,
    ⟨on, ⟨.service 0, .acting⟩, .A, 0x08020C4A, by decide +kernel⟩⟩

/-- States and operands that meet the hypotheses of `Obligations.SyncAndPeerDelay`, clause by clause. -/
theorem witness_SyncAndPeerDelay :
    (∃ (s : State) (x : LaneId), s.sendsSync x = true) ∧
    (∃ (s : State) (x : LaneId), s.sendsSync x = false) ∧
    (∃ (s : State) (x : LaneId) (e : EndId) (m : SyncMsg), (s.lane x).ready = true ∧ ((s.lane x).port e).isUp = true ∧
      (inProfile m.head = false ∨ m.head.messageType = 0 ∧ (m.tlv = false ∨ m.reserved ≠ 0))) ∧
    (∃ (s : State) (x : LaneId) (e : EndId) (m : SyncMsg), (s.lane x).ready = true ∧ ((s.lane x).port e).isUp = true ∧
      inProfile m.head = true ∧ m.head.messageType = 0 ∧ m.tlv = true ∧ m.reserved = 0 ∧ (s.lane x).delayValid e =
      false) ∧
    (∃ (s : State) (x : LaneId) (e : EndId) (m : SyncMsg), Canon s ∧ (s.lane x).ready = true ∧ ((s.lane x).port
      e).isUp = true ∧ inProfile m.head = true ∧ m.head.messageType = 0 ∧ m.tlv = true ∧ m.reserved = 0 ∧ (s.lane
      x).delayValid e = true ∧ (s.lane x).roll.directory ≠ [] ∧ (s.lane x).masterUid = m.clock.toNat ∧ m.clock.toNat ≠
      s.uid ∧ (s.lane x).timeState = 0 ∧ (s.lane x).time.sampleDomain = 0 ∧ (s.lane x).time.lastSeq = none ∧ (s.lane
      x).timeRuns = true) ∧
    (∃ (s : State) (x : LaneId) (e : EndId), ((s.lane x).port e).isUp = true ∧ (s.lane x).ready = true ∧ (s.lane
      x).fitsGap s.uid x (s.lane x).trainTime 100000 = true) ∧
    (∃ (s : State) (x : LaneId) (e : EndId) (hd : PtpHead), ((s.lane x).port e).isUp = true ∧ (s.lane x).ready = true
      ∧ inProfile hd = true ∧ hd.messageType = 2) ∧
    (∃ (s : State) (x : LaneId) (e : EndId) (hd : PtpHead), ((s.lane x).port e).isUp = true ∧ (s.lane x).ready = true
      ∧ inProfile hd = false) ∧
    (∃ (s : State) (x : LaneId) (e : EndId) (hd : PtpHead) (t1 : Int) (t4 : Int) (ta : Int) (n : BitVec 16), ((s.lane
      x).port e).isUp = true ∧ (s.lane x).ready = true ∧ inProfile hd = true ∧ hd.messageType = 3 ∧ ((s.lane x).port
      e).pdelayWaits.contains n.toNat = true ∧ (100000 < ta ∨ t4 - t1 < ta)) ∧
    (∃ (s : State) (x : LaneId) (e : EndId) (hd : PtpHead) (t1 : Int) (t4 : Int) (ta : Int) (n : BitVec 16), Canon s ∧
      ((s.lane x).port e).isUp = true ∧ (s.lane x).ready = true ∧ inProfile hd = true ∧ hd.messageType = 3 ∧ ((s.lane
      x).port e).pdelayWaits.contains n.toNat = true ∧ ta ≤ 100000 ∧ ta ≤ t4 - t1 ∧ (t4 - t1 - ta).tdiv 2 ≤ 10000 ∧
      Quiet s x 49) ∧
    (∃ (s : State) (x : LaneId) (e : EndId) (hd : PtpHead) (n : BitVec 16), ((s.lane x).port e).isUp = true ∧ (s.lane
      x).ready = true ∧ inProfile hd = true ∧ ((s.lane x).port e).pdelayWaits.contains n.toNat = false) ∧
    (∃ (s : State) (x : LaneId) (e : EndId) (n : Nat) (rest : List Nat), ((s.lane x).port e).pdelayWaits = n :: rest) ∧
    (∃ (s : State) (x : LaneId) (e : EndId), ((s.lane x).port e).isUp = true) :=
  ⟨⟨(fun (x : LaneId) => (((on).put x 0x400900 7).put x 0x400200 8).upd x (fun l => l.updPort .e1 (fun p =>
      { p with step := .up }))) .A, .A, by decide +kernel⟩,
    ⟨on, .A, by decide +kernel⟩,
    ⟨(fun (x : LaneId) (e : EndId) => (on).upd x (fun l => l.updPort e (fun p => { p with step := .up }))) .A .e1, .A,
      .e1, { syncOf 9 with tlv := false }, by decide +kernel⟩,
    ⟨(fun (x : LaneId) (e : EndId) => (on).upd x (fun l => l.updPort e (fun p => { p with step := .up }))) .A .e1, .A,
      .e1, syncOf 9, by decide +kernel⟩,
    ⟨(fun (x : LaneId) => ((((on).put x 0x400A00 9).upd x (fun l => { l with roll.directory := [member 1 9] })).upd x
      (fun l => (l.updPort .e1 (fun p => { p with step := .up, pdelays := [5, 5, 5, 5] })).updPort .e2 (fun p =>
      { p with step := .up }))).put x (key 0x400C 1) 5) .A, .A, .e1, syncOf 9, by decide +kernel⟩,
    ⟨(fun (x : LaneId) (e : EndId) => (on).upd x (fun l => l.updPort e (fun p => { p with step := .up }))) .A .e1, .A,
      .e1, by decide +kernel⟩,
    ⟨(fun (x : LaneId) (e : EndId) => (on).upd x (fun l => l.updPort e (fun p => { p with step := .up }))) .A .e1, .A,
      .e1, profileHead 2, by decide +kernel⟩,
    ⟨(fun (x : LaneId) (e : EndId) => (on).upd x (fun l => l.updPort e (fun p => { p with step := .up }))) .A .e1, .A,
      .e1, { profileHead 2 with version := 1 }, by decide +kernel⟩,
    ⟨(fun (x : LaneId) (e : EndId) => ((on).upd x (fun l => l.updPort e (fun p => { p with step := .up }))).upd x (fun
      l => l.updPort e (fun p => { p with pdelayWaits := [7, 1] }))) .A .e1, .A, .e1, profileHead 3, 0, 0, 100001, 1,
      by decide +kernel⟩,
    ⟨(fun (x : LaneId) (e : EndId) => ((on).upd x (fun l => l.updPort e (fun p => { p with step := .up }))).upd x (fun
      l => l.updPort e (fun p => { p with pdelayWaits := [7, 1] }))) .A .e1, .A, .e1, profileHead 3, 0, 300, 0, 1,
      by decide +kernel⟩,
    ⟨(fun (x : LaneId) (e : EndId) => ((on).upd x (fun l => l.updPort e (fun p => { p with step := .up }))).upd x (fun
      l => l.updPort e (fun p => { p with pdelayWaits := [7] }))) .A .e1, .A, .e1, profileHead 3, 1,
      by decide +kernel⟩,
    ⟨(fun (x : LaneId) (e : EndId) (n : Nat) (rest : List Nat) => (on).upd x (fun l => l.updPort e (fun p =>
      { p with pdelayWaits := n :: rest }))) .A .e1 7 ([8]), .A, .e1, 7, [8], by decide +kernel⟩,
    ⟨(fun (x : LaneId) (e : EndId) => (on).upd x (fun l => l.updPort e (fun p => { p with step := .up }))) .A .e1, .A,
      .e1, by decide +kernel⟩⟩

/-- States and operands that meet the hypotheses of `Obligations.TimeStatesAndComparison`, clause by clause. -/
theorem witness_TimeStatesAndComparison :
    (∃ (s : State) (x : LaneId), Canon s ∧ (s.lane x).timeState = 2 ∧ s.mayFollow x = true) ∧
    (∃ (s : State) (x : LaneId), Canon s ∧ (s.lane x).timeState = 2 ∧ s.mayFollow x = false) ∧
    (∃ (s : State) (x : LaneId), (s.lane x).timeState = 3) ∧
    (∃ (s : State) (x : LaneId) (c : Candidate), Canon s ∧ (s.lane x).mode = .possession ∧ (s.lane x).timeState ≤ 1 ∧
      (s.lane x).timeRuns = true ∧ (s.lane x).roll.candidate = some c ∧ masterUid c.entries c.master = s.uid ∧ (s.lane
      x).namedMaster = some s.uid) ∧
    (∃ (s : State) (x : LaneId) (a : Sample) (b : Sample) (c : Sample) (d : Sample), Canon s ∧ (s.lane x).timeState =
      1 ∧ (s.lane x).timeRuns = true ∧ (s.lane x).ready = true ∧ (s.lane x).time.samples = [a, b, c, d] ∧ a.time <
      ((s.lane x).trainTime : Int) ∧ 0 ≤ ((s.lane x).trainTime : Int) - thetaAt a (rateOf d a) (s.lane x).trainTime ∧
      (((s.lane x).trainTime : Int) - thetaAt a (rateOf d a) (s.lane x).trainTime) % 1000000 < 9) ∧
    (∃ (s : State) (x : LaneId) (a : Sample) (b : Sample) (c : Sample) (d : Sample), Canon s ∧ (s.lane
      x).time.lateDomain = true ∧ (s.lane x).time.candSamples = [a, b, c, d] ∧ a.time < nearestBeat (s.lane
      x).trainTime ∧ 0 ≤ ((s.lane x).trainTime : Int) - thetaAt a (rateOf d a) (s.lane x).trainTime ∧ (((s.lane
      x).trainTime : Int) - thetaAt a (rateOf d a) (s.lane x).trainTime) % 1000000 < 9) ∧
    (∃ (s : State), s.laneA.poss.mirrorCurrent = false) ∧
    (∃ (s : State) (x : LaneId), (s.lane x).timeRuns = false) ∧
    (∃ (s : State) (t1 : Int) (t2 : Int) (t3 : Int) (t4 : Int), Canon s ∧ s.laneA.ready = true ∧ s.laneB.ready = true
      ∧ s.laneA.timeRuns = true ∧ s.laneB.timeRuns = true ∧ s.laneA.poss.mirrorCurrent = true ∧
      s.laneB.poss.mirrorCurrent = true ∧ s.laneA.timeState = 2 ∧ s.laneB.timeState = 2 ∧ s.laneA.domain =
      s.laneB.domain ∧ s.laneA.time.diverged = 0 ∧ 2000 < (((t2 - t1) - (t4 - t3)).tdiv 2).natAbs) ∧
    (∃ (s : State), Canon s ∧ s.laneA.ready = true ∧ s.laneB.ready = true ∧ s.laneA.timeRuns = true ∧ s.laneB.timeRuns
      = true ∧ s.laneA.poss.mirrorCurrent = true ∧ s.laneB.poss.mirrorCurrent = true ∧ s.laneA.timeState = 3 ∧
      s.laneB.timeState = 2 ∧ s.laneA.domain = s.laneB.domain ∧ s.laneA.time.lateDomain = false ∧
      s.laneB.time.lateDomain = false ∧ s.laneA.time.diverged = 0 ∧ s.laneA.time.noLimit = false ∧
      s.laneA.time.outlierRun = 0) ∧
    (∃ (s : State), s.hostOn = true) ∧
    (∃ (s : State) (x : LaneId), s.hostOn = true ∧ s.holder = some x) :=
  ⟨⟨(fun (x : LaneId) => ((on).put x 0x400100 2).put x.peer 0x400100 2) .A, .A, by decide +kernel⟩,
    ⟨(fun (x : LaneId) => (on).put x 0x400100 2) .A, .A, by decide +kernel⟩,
    ⟨(fun (x : LaneId) => (on).put x 0x400100 3) .A, .A, by decide +kernel⟩,
    ⟨(fun (x : LaneId) (c : Candidate) => (fun s : State => s.upd x (fun l =>
      { l with roll := { l.roll with adopted := some (closeOf 0 [member 1 s.uid] 77) } })) (((on).upd x (fun l =>
      { l with mode := .possession })).upd x (fun l => { l with roll.candidate := some c }))) .A (⟨[member 1
      State.reset.uid], 0, 1, false⟩), .A, ⟨[member 1 State.reset.uid], 0, 1, false⟩, by decide +kernel⟩,
    ⟨(fun (x : LaneId) (a : Sample) (b : Sample) (c : Sample) (d : Sample) => (((on).upd x (fun l =>
      { l with time.samples := [a, b, c, d] })).put x 0x400100 1).upd x (fun l => { l with time.ns := 5000000 })) .A
      (⟨0, 400⟩) (⟨0, 300⟩) (⟨0, 200⟩) (⟨0, 100⟩), .A, ⟨0, 400⟩, ⟨0, 300⟩, ⟨0, 200⟩, ⟨0, 100⟩, by decide +kernel⟩,
    ⟨(fun (x : LaneId) (a : Sample) (b : Sample) (c : Sample) (d : Sample) => (((on).upd x (fun l =>
      { l with time.lateDomain := true })).upd x (fun l => { l with time.candSamples := [a, b, c, d] })).upd x (fun l
      => { l with time.ns := 5000000 })) .A (⟨0, 400⟩) (⟨0, 300⟩) (⟨0, 200⟩) (⟨0, 100⟩), .A, ⟨0, 400⟩, ⟨0, 300⟩, ⟨0,
      200⟩, ⟨0, 100⟩, by decide +kernel⟩,
    ⟨(on).upd .A (fun l => { l with poss.mirrorUp := false }), by decide +kernel⟩,
    ⟨(fun (x : LaneId) => (on).upd x (fun l => { l with coll.resets := [9] })) .A, .A, by decide +kernel⟩,
    ⟨((on).put .A 0x400100 2).put .B 0x400100 2, 0, 5000, 0, 0, by decide +kernel⟩,
    ⟨((on).put .A 0x400100 3).put .B 0x400100 2, by decide +kernel⟩,
    ⟨on, by decide +kernel⟩,
    ⟨on, .A, by decide +kernel⟩⟩

/-- States and operands that meet the hypotheses of `Obligations.PulseUnits`, clause by clause. -/
theorem witness_PulseUnits :
    (∃ (s : State) (a : Sys2Proof.Acc) (x : LaneId) (v : Byte), Reaches s a 1 x ∧ ((a.sel = .acting → (s.lane
      x).reached = true)) ∧ 2 ≤ (s.lane x).timeState ∧ v.toNat ≤ 2) ∧
    (∃ (s : State) (a : Sys2Proof.Acc) (x : LaneId), Reaches s a 1 x ∧ (s.lane x).timeState < 2) ∧
    (∃ (l : LaneState) (u : Nat), u < 8 ∧ Machine.tabCanon regDefault l.reg = true ∧ l.get (pulseKey u 1) = 1 ∧ l.get
      (pulseKey u 2) < l.trainTime + 50000) ∧
    (∃ (period : Nat), 0 < period) ∧
    (∃ (s : State) (x : LaneId) (u : Fin 8), Canon s ∧ (s.lane x).ready = true ∧ bitAt (s.get x (pulseKey u.val 6)) 0
      = false ∧ (s.lane x).pulseArmed u.val = true ∧ s.get x (pulseKey u.val 1) = 1 ∧ s.get x (pulseKey u.val 8) <
      1000) ∧
    (∃ (s : State) (x : LaneId) (u : Fin 8), (s.lane x).ready = true ∧ bitAt (s.get x (pulseKey u.val 6)) 0 = true) :=
  ⟨⟨(fun (x : LaneId) => (on).put x 0x400100 2) .A, ⟨.service 0, .acting⟩, .A, 1, by decide +kernel⟩,
    ⟨on, ⟨.service 0, .acting⟩, .A, by decide +kernel⟩,
    ⟨(lane .possession).put (pulseKey 1 1) 1, 1, by decide +kernel⟩,
    ⟨1, by decide +kernel⟩,
    ⟨(fun (x : LaneId) (u : Fin 8) => ((on).put x (pulseKey u.val 1) (1)).upd x (fun l => l.put (pulseKey u.val 6) 2))
      .A 0, .A, 0, by decide +kernel⟩,
    ⟨(fun (x : LaneId) (u : Fin 8) => (on).put x (pulseKey u.val 6) 1) .A 0, .A, 0, by decide +kernel⟩⟩

/-- States and operands that meet the hypotheses of `Obligations.CarBusReception`, clause by clause. -/
theorem witness_CarBusReception :
    (∃ (n : Nat), n ≤ 8) ∧
    (∃ (n : Nat), 9 ≤ n ∧ n ≤ 15) ∧
    (∃ (f : CanFrame), f.rtr = true) ∧
    (∃ (s : State) (x : LaneId), (s.lane x).onBus = false) ∧
    (∃ (s : State) (x : LaneId), Canon s ∧ (s.lane x).onBus = true ∧ s.get x 0x440701 < 1000) ∧
    (∃ (l : LaneState) (index : Nat) (time : Nat), Machine.tabCanon regDefault l.reg = true ∧ 0x4520 ≤ index ∧ index ≤
      0x4561 ∧ time < 2 ^ 64) :=
  ⟨⟨1, by decide +kernel⟩,
    ⟨9, by decide +kernel⟩,
    ⟨{ CF with rtr := true }, by decide +kernel⟩,
    ⟨on, .A, by decide +kernel⟩,
    ⟨(fun (x : LaneId) => (on).upd x (fun l => { l with can.integrating := false })) .A, .A, by decide +kernel⟩,
    ⟨lane .possession, 0x4521, 77, by decide +kernel⟩⟩

/-- States and operands that meet the hypotheses of `Obligations.BitTimingAndPattern`, clause by clause. -/
theorem witness_BitTimingAndPattern :
    (∃ (s : State) (a : Sys2Proof.Acc) (x : LaneId) (v : BitVec 32), Reaches s a 2 x ∧ v.toNat &&& 1 = 0 ∧ timingOk
      v.toNat (s.get x 0x440200) = true) ∧
    (∃ (s : State) (a : Sys2Proof.Acc) (x : LaneId) (v : BitVec 32), Reaches s a 2 x ∧ v.toNat &&& 0xE0E0F0F0 = 0 ∧
      timingOk (s.get x 0x440100) v.toNat = true) ∧
    (∃ (s : State) (a : Sys2Proof.Acc) (x : LaneId) (data : Bool) (v : BitVec 32), Reaches s a 2 x ∧ v.toNat &&& (if
      data then 0xE0E0F0F0 else 1) ≠ 0) ∧
    (∃ (s : State) (x : LaneId), (s.lane x).carBusOn x = true) ∧
    (∃ (nominal : Nat) (data : Nat), timingOk nominal data = true) ∧
    (∃ (s : State) (a : Sys2Proof.Acc) (x : LaneId), Reaches s a 2 x ∧ s.holder = some x) ∧
    (∃ (m : Nat), 0 < m) ∧
    (∃ (s : State) (x : LaneId) (b : Nat), (s.lane x).can.switchBeat = some b) ∧
    (∃ (s : State) (a : Sys2Proof.Acc) (x : LaneId), Reaches s a 2 x) ∧
    (∃ (s : State) (a : Sys2Proof.Acc) (x : LaneId), Canon s ∧ Reaches s a 2 x ∧ ((a.sel = .acting → (s.lane
      x).reached = true))) ∧
    (∃ (s : State) (a : Sys2Proof.Acc) (x : LaneId) (g : Fin 64) (v : Byte), Reaches s a 2 x ∧ v.toNat ≤ 2 ∧ ((v = 0 ∨
      (s.lane x).ruleOk g.val v.toNat = true))) ∧
    (∃ (s : State) (a : Sys2Proof.Acc) (x : LaneId) (g : Fin 64), Reaches s a 2 x ∧ (s.lane x).ruleOk g.val 1 = false) ∧
    (∃ (s : State) (x : LaneId), Canon s ∧ (s.lane x).ready = true ∧ (s.lane x).can.errState ≠ 2 ∧ s.get x 0x440001 =
      1 ∧ (s.lane x).can.listen = false) :=
  ⟨⟨on, ⟨.service 0, .acting⟩, .A, BitVec.ofNat 32 (on.get .A 0x440100), by decide +kernel⟩,
    ⟨on, ⟨.service 0, .acting⟩, .A, BitVec.ofNat 32 (on.get .A 0x440200), by decide +kernel⟩,
    ⟨on, ⟨.service 0, .acting⟩, .A, false, 1, by decide +kernel⟩,
    ⟨on, .A, by decide +kernel⟩,
    ⟨on.get .A 0x440100, on.get .A 0x440200, by decide +kernel⟩,
    ⟨on, ⟨.service 0, .acting⟩, .A, by decide +kernel⟩,
    ⟨1, by decide +kernel⟩,
    ⟨(fun (x : LaneId) (b : Nat) => (on).upd x (fun l => { l with can.switchBeat := some b })) .A 1, .A, 1,
      by decide +kernel⟩,
    ⟨on, ⟨.service 0, .acting⟩, .A, by decide +kernel⟩,
    ⟨on, ⟨.service 0, .acting⟩, .A, by decide +kernel⟩,
    ⟨on, ⟨.service 0, .acting⟩, .A, 0, 0, by decide +kernel⟩,
    ⟨on, ⟨.service 0, .acting⟩, .A, 0, by decide +kernel⟩,
    ⟨(fun (x : LaneId) => ((on).put x 0x440001 (1)).upd x (fun l => { l with can.listen := false })) .A, .A,
      by decide +kernel⟩⟩

/-- States and operands that meet the hypotheses of `Obligations.TransmitBuffers`, clause by clause. -/
theorem witness_TransmitBuffers :
    (∃ (s : State) (a : Sys2Proof.Acc) (x : LaneId), Reaches s a 1 x) ∧
    (∃ (s : State) (x : LaneId) (col : Fin 8) (t : Nat), (s.lane x).ready = true ∧ (s.lane x).quiet = false ∧ (s.lane
      x).carBusOn x = true ∧ s.get x 0x440002 = 1 ∧ col.val < s.get x 0x440802 ∧ (s.lane x).cell ((s.lane x).flow.beat
      % s.get x 0x440801) col.val = some t ∧ (s.lane x).can.listen = true ∧ (s.lane x).txPending t = false ∧ ((bitAt
      (s.get x (txKey t 1)) 29 = true → bitAt (s.lane x).can.changed t = true))) ∧
    (∃ (s : State) (x : LaneId) (col : Fin 8) (t : Nat), (s.lane x).cell ((s.lane x).flow.beat % s.get x 0x440801)
      col.val = some t ∧ (s.lane x).txPending t = false ∧ bitAt (s.get x (txKey t 1)) 29 = true ∧ bitAt (s.lane
      x).can.changed t = false) ∧
    (∃ (s : State) (x : LaneId) (col : Fin 8) (t : Nat), (s.lane x).ready = true ∧ (s.lane x).quiet = false ∧ (s.lane
      x).carBusOn x = true ∧ s.get x 0x440002 = 1 ∧ col.val < s.get x 0x440802 ∧ (s.lane x).cell ((s.lane x).flow.beat
      % s.get x 0x440801) col.val = some t ∧ (s.lane x).txPending t = true) ∧
    (∃ (s : State) (x : LaneId) (col : Fin 8) (t : Nat), Canon s ∧ (s.lane x).ready = true ∧ (s.lane x).quiet = false
      ∧ (s.lane x).carBusOn x = true ∧ s.get x 0x440002 = 1 ∧ col.val < s.get x 0x440802 ∧ (s.lane x).cell ((s.lane
      x).flow.beat % s.get x 0x440801) col.val = some t ∧ (s.lane x).can.listen = false ∧ (s.lane x).txPending t =
      false ∧ ((bitAt (s.get x (txKey t 1)) 29 = true → bitAt (s.lane x).can.changed t = true))) ∧
    (∃ (s : State) (x : LaneId), s.get x 0x440002 ≠ 1) ∧
    (∃ (s : State) (x : LaneId) (t : Fin 32) (time : BitVec 64), Canon s ∧ (s.lane x).mayWin t.val time.toNat = true ∧
      (s.lane x).onBus = true ∧ s.get x 0x440703 < 1000) ∧
    (∃ (s : State) (x : LaneId) (t : Fin 32) (time : BitVec 64), (s.lane x).mayWin t.val time.toNat = false) ∧
    (∃ (s : State) (x : LaneId) (t : Fin 32), (s.lane x).ready = true ∧ (s.lane x).txPending t.val = true ∧ bitAt
      (s.lane x).can.late t.val = false) ∧
    (∃ (s : State) (x : LaneId) (t : Fin 32), bitAt (s.lane x).can.late t.val = true) ∧
    (∃ (s : State) (x : LaneId) (t : Fin 32), (s.lane x).onBus = true ∧ (s.lane x).mayBeOnBus t.val = true ∧ s.get x
      0x440002 = 1 ∧ (s.lane x).can.listen = false) :=
  ⟨⟨on, ⟨.service 0, .acting⟩, .A, by decide +kernel⟩,
    ⟨(fun (x : LaneId) => (((((((on).upd x (fun l => { l with quiet := false })).put x 0x440002 (1)).upd x (fun l =>
      { l with can.listen := true })).put x 0x440801 4).put x 0x440802 8).put x (key 0x4410 1) 5).upd x (fun l =>
      l.put (key (0x4410 + l.flow.beat % 4) 1) 5)) .A, .A, 0, 5, by decide +kernel⟩,
    ⟨(fun (x : LaneId) => ((((on).put x 0x440801 4).put x 0x440802 8).upd x (fun l => l.put (key (0x4410 + l.flow.beat
      % 4) 1) 5)).put x (txKey 5 1) (2 ^ 29)) .A, .A, 0, 5, by decide +kernel⟩,
    ⟨(fun (x : LaneId) => ((((((on).upd x (fun l => { l with quiet := false })).put x 0x440002 (1)).put x 0x440801
      4).put x 0x440802 8).upd x (fun l => l.put (key (0x4410 + l.flow.beat % 4) 1) 5)).upd x (fun l => l.setPending 5
      true)) .A, .A, 0, 5, by decide +kernel⟩,
    ⟨(fun (x : LaneId) => ((((((on).upd x (fun l => { l with quiet := false })).put x 0x440002 (1)).upd x (fun l =>
      { l with can.listen := false })).put x 0x440801 4).put x 0x440802 8).upd x (fun l => l.put (key (0x4410 +
      l.flow.beat % 4) 1) 5)) .A, .A, 0, 5, by decide +kernel⟩,
    ⟨on, .A, by decide +kernel⟩,
    ⟨(fun (x : LaneId) => ((on).upd x (fun l => { l with can.integrating := false })).upd x (fun l => l.setPending 1
      true)) .A, .A, 1, 1, by decide +kernel⟩,
    ⟨on, .A, 0, 1, by decide +kernel⟩,
    ⟨(fun (x : LaneId) => (on).upd x (fun l => l.setPending 1 true)) .A, .A, 1, by decide +kernel⟩,
    ⟨(fun (x : LaneId) => (on).upd x (fun l => { l with can.late := 0xFFFFFFFF })) .A, .A, 1, by decide +kernel⟩,
    ⟨(fun (x : LaneId) => ((((on).put x 0x440002 (1)).upd x (fun l => { l with can.listen := false })).upd x (fun l =>
      { l with can.integrating := false })).upd x (fun l => l.setPending 1 true)) .A, .A, 1, by decide +kernel⟩⟩

/-- States and operands that meet the hypotheses of `Obligations.CarBusErrors`, clause by clause. -/
theorem witness_CarBusErrors :
    (∃ (s : State) (x : LaneId), Canon s ∧ (s.lane x).onBus = true ∧ (s.lane x).can.listen = true) ∧
    (∃ (s : State) (x : LaneId), Canon s ∧ (s.lane x).onBus = true ∧ (s.lane x).can.listen = false) ∧
    (∃ (s : State) (x : LaneId) (u : Fin 32), Canon s ∧ (s.lane x).onBus = true ∧ (s.lane x).can.listen = false ∧
      (s.lane x).mayBeOnBus u.val = true) ∧
    (∃ (s : State) (x : LaneId), (s.lane x).ready = true ∧ (s.lane x).can.errState = 0 ∧ (s.lane x).can.listen = false
      ∧ (127 < s.get x 0x440601 ∨ 127 < s.get x 0x440602)) ∧
    (∃ (s : State) (x : LaneId), (s.lane x).ready = true ∧ (s.lane x).can.errState ≠ 2 ∧ (s.lane x).can.listen = false
      ∧ 255 < s.get x 0x440601) ∧
    (∃ (s : State) (x : LaneId), s.get x 0x440601 ≤ 127 ∧ s.get x 0x440602 ≤ 127) ∧
    (∃ (s : State) (x : LaneId), Canon s ∧ (s.lane x).can.errState = 2) ∧
    (∃ (s : State) (x : LaneId) (t : Fin 32), Canon s ∧ (s.lane x).ready = true ∧ 3 ≤ (s.lane x).collisions t.val ∧
      Quiet s x 74) :=
  ⟨⟨(fun (x : LaneId) => ((on).upd x (fun l => { l with can.listen := true })).upd x (fun l =>
      { l with can.integrating := false })) .A, .A, by decide +kernel⟩,
    ⟨(fun (x : LaneId) => ((on).upd x (fun l => { l with can.listen := false })).upd x (fun l =>
      { l with can.integrating := false })) .A, .A, by decide +kernel⟩,
    ⟨(fun (x : LaneId) => (((on).upd x (fun l => { l with can.listen := false })).upd x (fun l =>
      { l with can.integrating := false })).upd x (fun l => l.setPending 1 true)) .A, .A, 1, by decide +kernel⟩,
    ⟨(fun (x : LaneId) => (((on).upd x (fun l => { l with can.errState := 0 })).upd x (fun l =>
      { l with can.listen := false })).put x 0x440601 128) .A, .A, by decide +kernel⟩,
    ⟨(fun (x : LaneId) => ((on).upd x (fun l => { l with can.listen := false })).put x 0x440601 256) .A, .A,
      by decide +kernel⟩,
    ⟨on, .A, by decide +kernel⟩,
    ⟨(fun (x : LaneId) => (on).upd x (fun l => { l with can.errState := 2 })) .A, .A, by decide +kernel⟩,
    ⟨(fun (x : LaneId) => (on).upd x (fun l => l.setCollisions 1 3)) .A, .A, 1, by decide +kernel⟩⟩

/-- States and operands that meet the hypotheses of `Obligations.IsolationAndWatchdog`, clause by clause. -/
theorem witness_IsolationAndWatchdog :
    (∃ (s : State) (x : LaneId), (s.lane x).framesField = true ∧ (s.lane x).field.powered = true) ∧
    (∃ (s : State) (x : LaneId), (s.lane x).framesField = true ∧ (s.lane x).field.powered = true) ∧
    (∃ (l : LaneState) (c0 : Nat) (t0 : Nat), Machine.tabCanon regDefault l.reg = true ∧ l.field.timeMap = some (c0,
      t0)) ∧
    (∃ (s : State) (x : LaneId), (s.lane x).framesField = true ∧ (s.lane x).field.powered = true ∧ (s.lane
      x).field.report = false ∧ (s.lane x).field.safe = false) ∧
    (∃ (s : State) (x : LaneId), (s.lane x).framesField = true ∧ (s.lane x).field.powered = true ∧ (s.lane
      x).field.report = true) ∧
    (∃ (s : State) (x : LaneId), (s.lane x).framesField = true ∧ (s.lane x).field.linkUp = true) ∧
    (∃ (s : State) (x : LaneId), (s.lane x).field.barred = true) ∧
    (∃ (s : State) (x : LaneId), Canon s ∧ (s.lane x).ready = true ∧ (s.lane x).framesField = true ∧ (s.lane
      x).field.powered = true ∧ (s.lane x).field.barred = false ∧ (s.lane x).field.run = false) ∧
    (∃ (s : State) (x : LaneId), Canon s ∧ (s.lane x).field.powered = true ∧ (s.lane x).field.run = true ∧ (s.lane
      x).field.fed = true ∧ s.get x 0x510A00 < 1000) ∧
    (∃ (s : State) (x : LaneId), (s.lane x).field.fed = false) :=
  ⟨⟨(fun (x : LaneId) => (on).upd x (fun l => { l with field.powered := true })) .A, .A, by decide +kernel⟩,
    ⟨(fun (x : LaneId) => (on).upd x (fun l => { l with field.powered := true })) .A, .A, by decide +kernel⟩,
    ⟨(lane .possession).updField (fun f => { f with timeMap := some (1, 1) }), 1, 1, by decide +kernel⟩,
    ⟨(fun (x : LaneId) => (((on).upd x (fun l => { l with field.powered := true })).upd x (fun l =>
      { l with field.report := false })).upd x (fun l => { l with field.safe := false })) .A, .A, by decide +kernel⟩,
    ⟨(fun (x : LaneId) => ((on).upd x (fun l => { l with field.powered := true })).upd x (fun l =>
      { l with field.report := true })) .A, .A, by decide +kernel⟩,
    ⟨(fun (x : LaneId) => (on).upd x (fun l => { l with field.linkUp := true })) .A, .A, by decide +kernel⟩,
    ⟨(fun (x : LaneId) => (on).upd x (fun l => { l with field.barred := true })) .A, .A, by decide +kernel⟩,
    ⟨(fun (x : LaneId) => (((on).upd x (fun l => { l with field.powered := true })).upd x (fun l =>
      { l with field.barred := false })).upd x (fun l => { l with field.run := false })) .A, .A, by decide +kernel⟩,
    ⟨(fun (x : LaneId) => (((on).upd x (fun l => { l with field.powered := true })).upd x (fun l =>
      { l with field.run := true })).upd x (fun l => { l with field.fed := true })) .A, .A, by decide +kernel⟩,
    ⟨(fun (x : LaneId) => (on).upd x (fun l => { l with field.fed := false })) .A, .A, by decide +kernel⟩⟩

/-- States and operands that meet the hypotheses of `Obligations.InputsAndPinConfiguration`, clause by clause. -/
theorem witness_InputsAndPinConfiguration :
    (∃ (N : Nat) (c : Nat), 0 < N ∧ c + 1 < N) ∧
    (∃ (N : Nat) (c : Nat), 0 < N ∧ N ≤ c + 1) ∧
    (∃ (N : Nat) (c : Nat), 0 < N ∧ 1 < c ∧ c ≤ N) ∧
    (∃ (N : Nat) (c : Nat), 0 < N ∧ c ≤ 1) ∧
    (∃ (s : State) (x : LaneId), Canon s ∧ (s.lane x).field.powered = true ∧ (s.lane x).field.run = true) ∧
    (∃ (s : State) (a : Sys2Proof.Acc) (x : LaneId) (n : Fin 24), Reaches s a 0 x ∧ ((s.lane x).pin n.val).fifo = []) ∧
    (∃ (s : State) (a : Sys2Proof.Acc) (x : LaneId) (n : Fin 24) (c : Capture) (rest : List Capture), Canon s ∧
      Reaches s a 0 x ∧ ((s.lane x).pin n.val).fifo = c :: rest) ∧
    (∃ (s : State) (n : Fin 24), Canon s ∧ s.pairDiffers n.val = true ∧ s.holder = none) ∧
    (∃ (s : State) (a : Sys2Proof.Acc) (x : LaneId) (v : Byte), Canon s ∧ a.sel = .lane x ∧ Reaches s a 2 x ∧ v.toNat
      ≤ 6) ∧
    (∃ (s : State) (a : Sys2Proof.Acc) (x : LaneId) (v : Byte), Reaches s a 2 x ∧ 6 < v.toNat) ∧
    (∃ (s : State) (a : Sys2Proof.Acc) (x : LaneId) (v : Byte), Reaches s a 1 x ∧ v.toNat ≤ 1) :=
  ⟨⟨5, 1, by decide +kernel⟩,
    ⟨1, 1, by decide +kernel⟩,
    ⟨5, 3, by decide +kernel⟩,
    ⟨1, 1, by decide +kernel⟩,
    ⟨(fun (x : LaneId) => ((on).upd x (fun l => { l with field.powered := true })).upd x (fun l =>
      { l with field.run := true })) .A, .A, by decide +kernel⟩,
    ⟨(fun (x : LaneId) (n : Fin 24) => (on).upd x (fun l => l.updPin n.val (fun p => { p with fifo := [] }))) .A 0,
      ⟨.service 0, .acting⟩, .A, 0, by decide +kernel⟩,
    ⟨(fun (x : LaneId) (n : Fin 24) (c : Capture) (rest : List Capture) => (on).upd x (fun l => l.updPin n.val (fun p
      => { p with fifo := c :: rest }))) .A 0 (⟨5, 1, 1⟩) ([]), ⟨.service 0, .acting⟩, .A, 0, ⟨5, 1, 1⟩, [],
      by decide +kernel⟩,
    ⟨(((idle).put .A (pinKey 0 6) 1).put .B (pinKey 0 6) 1).upd .A (fun l => l.updPin 0 (fun p =>
      { p with filt := true })), 0, by decide +kernel⟩,
    ⟨on, ⟨.service 0, .lane .A⟩, .A, 1, by decide +kernel⟩,
    ⟨on, ⟨.service 0, .acting⟩, .A, 7, by decide +kernel⟩,
    ⟨on, ⟨.service 0, .acting⟩, .A, 1, by decide +kernel⟩⟩

/-- States and operands that meet the hypotheses of `Obligations.OutputsAndProtection`, clause by clause. -/
theorem witness_OutputsAndProtection :
    (∃ (s : State) (x : LaneId) (n : Fin 24), Canon s ∧ s.collects (.lane x) = true ∧ ((s.lane x).pin n.val).driver =
      true ∧ (s.lane x).pinBit n.val 10 = false ∧ Quiet s x 82 ∧ s.get x (pinKey n.val 17) < 1000) ∧
    (∃ (s : State) (x : LaneId) (n : Fin 24), ((s.lane x).pin n.val).driver = true ∧ (s.lane x).pinBit n.val 10 =
      true) ∧
    (∃ (s : State) (x : LaneId) (n : Fin 24), (s.lane x).pinBit n.val 10 = true) ∧
    (∃ (s : State) (x : LaneId) (n : Fin 24), Canon s ∧ s.collects (.lane x) = true ∧ (s.lane x).pinBit n.val 10 =
      true ∧ ((s.lane x).pin n.val).driver = true ∧ Quiet s x 82) ∧
    (∃ (s : State) (x : LaneId) (cs : List Nat), (s.lane x).field.powered = true ∧ (cs.take 8).foldl (· + ·) 0 ≤ 9000) ∧
    (∃ (s : State) (x : LaneId) (g : Fin 3) (cs : List Nat) (n : Nat), (s.lane x).field.powered = true ∧ 9000 <
      (cs.take 8).foldl (· + ·) 0 ∧ (((s.upd x (fun l => (l.takeCurrents (8 * g.val) (cs.take 8)).put (key 0x5107
      (g.val + 1)) (min 65535 ((cs.take 8).foldl (· + ·) 0)))).clearPinSources x).lane x).highestPin (8 * g.val)
      (cs.take 8) = some n ∧ ((∀ j, j < 8 → ((((s.upd x (fun l => (l.takeCurrents (8 * g.val) (cs.take 8)).put (key
      0x5107 (g.val + 1)) (min 65535 ((cs.take 8).foldl (· + ·) 0)))).clearPinSources x).lane x).pinBit (j + 8 *
      g.val) 10) = false))) ∧
    (∃ (l : LaneState) (base : Nat) (cs : List Nat) (n : Nat), l.highestPin base cs = some n) ∧
    (∃ (cs : List Nat) (i : Nat) (c : Nat), highestAt 0 cs = some (i, c)) ∧
    (∃ (s : State) (x : LaneId) (n : Fin 24), (s.lane x).ready = true ∧ (s.lane x).field.powered = true ∧ isOutput
      ((s.lane x).pinFunction n.val) = true ∧ ((s.lane x).pin n.val).driver = false) ∧
    (∃ (s : State) (a : Sys2Proof.Acc) (x : LaneId) (v : BitVec 32), Reaches s a 1 x ∧ v.toNat < 2 ^ 24 ∧
      s.laneA.reached = true ∧ s.laneB.reached = true) ∧
    (∃ (s : State) (a : Sys2Proof.Acc) (x : LaneId) (v : BitVec 32), Canon s ∧ Reaches s a 1 x ∧ v.toNat < 2 ^ 24 ∧
      s.image < 2 ^ 24 ∧ s.laneA.reached = true ∧ s.laneB.reached = true) ∧
    (∃ (s : State) (a : Sys2Proof.Acc) (x : LaneId) (v : BitVec 32), Canon s ∧ Reaches s a 1 x ∧ v.toNat < 2 ^ 24 ∧
      s.image < 2 ^ 24 ∧ s.laneA.reached = true ∧ s.laneB.reached = true) ∧
    (∃ (s : State) (a : Sys2Proof.Acc) (x : LaneId) (y : LaneId) (v : BitVec 32), Reaches s a 1 x ∧ v.toNat < 2 ^ 24 ∧
      (s.lane y).reached = true ∧ (s.lane y.peer).reached = false) ∧
    (∃ (s : State) (a : Sys2Proof.Acc) (x : LaneId) (v : BitVec 32), Reaches s a 1 x ∧ 2 ^ 24 ≤ v.toNat) :=
  ⟨⟨(fun (x : LaneId) (n : Fin 24) => ((on).upd x (fun l => l.updPin n.val (fun p => { p with driver := true }))).upd
      x (fun l => l.setPinBit n.val 10 false)) .A 0, .A, 0, by decide +kernel⟩,
    ⟨(fun (x : LaneId) (n : Fin 24) => ((on).upd x (fun l => l.updPin n.val (fun p => { p with driver := true }))).upd
      x (fun l => l.setPinBit n.val 10 true)) .A 0, .A, 0, by decide +kernel⟩,
    ⟨(fun (x : LaneId) (n : Fin 24) => (on).upd x (fun l => l.setPinBit n.val 10 true)) .A 0, .A, 0,
      by decide +kernel⟩,
    ⟨(fun (x : LaneId) (n : Fin 24) => ((on).upd x (fun l => l.setPinBit n.val 10 true)).upd x (fun l => l.updPin
      n.val (fun p => { p with driver := true }))) .A 0, .A, 0, by decide +kernel⟩,
    ⟨(fun (x : LaneId) => (on).upd x (fun l => { l with field.powered := true })) .A, .A, [100, 200],
      by decide +kernel⟩,
    ⟨(fun (x : LaneId) => (on).upd x (fun l => { l with field.powered := true })) .A, .A, 0, [4000, 7000], 1,
      by decide +kernel⟩,
    ⟨lane .possession, 8, [4, 7, 3], 9, by decide +kernel⟩,
    ⟨[4, 7, 3], 1, 7, by decide +kernel⟩,
    ⟨(fun (x : LaneId) (n : Fin 24) => (((on).upd x (fun l => { l with field.powered := true })).upd x (fun l =>
      l.updPin n.val (fun p => { p with driver := false }))).put x (pinKey 0 1) 1) .A 0, .A, 0, by decide +kernel⟩,
    ⟨on, ⟨.service 0, .acting⟩, .A, 1, by decide +kernel⟩,
    ⟨on, ⟨.service 0, .acting⟩, .A, 1, by decide +kernel⟩,
    ⟨on, ⟨.service 0, .acting⟩, .A, 1, by decide +kernel⟩,
    ⟨(on).upd .B (fun l => { l with mode := .asleep }), ⟨.service 0, .acting⟩, .A, .A, 1, by decide +kernel⟩,
    ⟨on, ⟨.service 0, .acting⟩, .A, 0x1000000, by decide +kernel⟩⟩

/-- States and operands that meet the hypotheses of `Obligations.LampsAndFieldSupply`, clause by clause. -/
theorem witness_LampsAndFieldSupply :
    (∃ (s : State) (x : LaneId) (n : Fin 24) (mA : BitVec 16), Canon s ∧ (s.lane x).mode = .possession ∧ isLamp
      ((s.lane x).pinFunction n.val) = true ∧ ((s.lane x).pin n.val).driver = true ∧ s.lampSkipped x n.val = false ∧
      mA.toNat * 100 < s.get x (pinKey n.val 9) * s.get x (pinKey n.val 8) ∧ ((s.lane x).pin n.val).low < 9) ∧
    (∃ (s : State) (x : LaneId) (n : Fin 24) (mA : BitVec 16), Canon s ∧ (s.lane x).mode = .possession ∧ isLamp
      ((s.lane x).pinFunction n.val) = true ∧ ((s.lane x).pin n.val).driver = true ∧ s.lampSkipped x n.val = false ∧
      mA.toNat * 100 < s.get x (pinKey n.val 9) * s.get x (pinKey n.val 8) ∧ 9 ≤ ((s.lane x).pin n.val).low ∧ (s.lane
      x).pinBit n.val 15 = false ∧ Quiet s x 84) ∧
    (∃ (s : State) (x : LaneId) (n : Fin 24) (before : Nat) (during : Nat), Canon s ∧ (s.lane x).mode = .possession ∧
      isLamp ((s.lane x).pinFunction n.val) = true ∧ (s.lane x).pinOption n.val 2 = true ∧ ((s.lane x).pin
      n.val).driver = false ∧ (s.lane x).supplyState = 0 ∧ (s.lane x).pairWaits n.val = false ∧ (s.lane
      x).field.powered = true ∧ before < 3000 ∧ 6000 ≤ during ∧ ((s.lane x).pin n.val).opens = 0) ∧
    (∃ (s : State) (a : Sys2Proof.Acc) (x : LaneId) (n : Fin 24), Canon s ∧ Reaches s a 2 x ∧ (s.lane x).mayLearn
      n.val = true) ∧
    (∃ (s : State) (x : LaneId) (n : Fin 24) (mean : BitVec 16), Canon s ∧ (s.lane x).pinBit n.val 4 = true ∧ 20 ≤
      mean.toNat ∧ mean.toNat ≤ 1000) ∧
    (∃ (s : State) (x : LaneId) (n : Fin 24) (mean : BitVec 16), Canon s ∧ (s.lane x).pinBit n.val 4 = true ∧ 1000 <
      mean.toNat) ∧
    (∃ (s : State) (x : LaneId), Canon s ∧ (s.lane x).field.powered = true ∧ (s.lane x).field.measured = none) ∧
    (∃ (s : State) (x : LaneId) (v : BitVec 16), Canon s ∧ s.collects (.lane x) = true ∧ (s.lane x).field.powered =
      true ∧ (s.lane x).field.supplyKnown = true ∧ (s.lane x).supplyState = 0 ∧ (s.lane x).field.measured = some 2 ∧
      v.toNat < 900 ∧ Quiet s x 85 ∧ Quiet s x 86) ∧
    (∃ (v : Nat), 900 ≤ v ∧ v < 950) ∧
    (∃ (threshold : Nat) (v : Nat), 950 ≤ threshold ∧ threshold ≤ v ∧ v < threshold + 50) :=
  ⟨⟨(fun (x : LaneId) (n : Fin 24) => (((fun s : State => ({ s with clock := 200000000 } : State)) ((((((on).upd x
      (fun l => { l with mode := .possession })).upd x (fun l => l.updPin n.val (fun p =>
      { p with driver := true }))).put x (pinKey 0 1) 2).upd x (fun l => l.updPin 0 (fun p =>
      { p with driver := true }))).put x 0x510300 0)).put x (pinKey 0 9) 300).put x (pinKey 0 8) 50) .A 0, .A, 0, 1,
      by decide +kernel⟩,
    ⟨(fun (x : LaneId) (n : Fin 24) => ((((fun s : State => ({ s with clock := 200000000 } : State)) (((((((on).upd x
      (fun l => { l with mode := .possession })).upd x (fun l => l.updPin n.val (fun p =>
      { p with driver := true }))).upd x (fun l => l.setPinBit n.val 15 false)).put x (pinKey 0 1) 2).upd x (fun l =>
      l.updPin 0 (fun p => { p with driver := true }))).put x 0x510300 0)).put x (pinKey 0 9) 300).put x (pinKey 0 8)
      50).upd x (fun l => l.updPin 0 (fun p => { p with low := 9 }))) .A 0, .A, 0, 1, by decide +kernel⟩,
    ⟨(fun (x : LaneId) (n : Fin 24) => ((((fun s : State => ({ s with clock := 200000000 } : State)) ((((((((on).upd x
      (fun l => { l with mode := .possession })).upd x (fun l => l.updPin n.val (fun p =>
      { p with driver := false }))).upd x (fun l => { l with field.powered := true })).upd x (fun l => l.updPin n.val
      (fun p => { p with opens := 0 }))).put x (pinKey 0 1) 2).upd x (fun l => l.updPin 0 (fun p =>
      { p with driver := true }))).put x 0x510300 0)).put x (pinKey 0 9) 300).put x (pinKey 0 6) 4).upd x (fun l =>
      l.updPin 0 (fun p => { p with driver := false }))) .A 0, .A, 0, 100, 7000, by decide +kernel⟩,
    ⟨(fun (x : LaneId) => (((fun s : State => ({ s with clock := 200000000 } : State)) ((((on).put x (pinKey 0 1)
      2).upd x (fun l => l.updPin 0 (fun p => { p with driver := true }))).put x 0x510300 0)).put x (pinKey 0 9)
      300).put x (pinKey 0 8) 50) .A, ⟨.service 0, .acting⟩, .A, 0, by decide +kernel⟩,
    ⟨(fun (x : LaneId) (n : Fin 24) => (on).upd x (fun l => l.setPinBit n.val 4 true)) .A 0, .A, 0, 500,
      by decide +kernel⟩,
    ⟨(fun (x : LaneId) (n : Fin 24) => (on).upd x (fun l => l.setPinBit n.val 4 true)) .A 0, .A, 0, 2000,
      by decide +kernel⟩,
    ⟨(fun (x : LaneId) => ((on).upd x (fun l => { l with field.powered := true })).upd x (fun l =>
      { l with field.measured := none })) .A, .A, by decide +kernel⟩,
    ⟨(fun (x : LaneId) => ((((on).upd x (fun l => { l with field.powered := true })).upd x (fun l =>
      { l with field.supplyKnown := true })).upd x (fun l => { l with field.measured := some 2 })).put x 0x510300 0)
      .A, .A, 800, by decide +kernel⟩,
    ⟨920, by decide +kernel⟩,
    ⟨1000, 1020, by decide +kernel⟩⟩

/-- States and operands that meet the hypotheses of `Obligations.FaultReaction`, clause by clause. -/
theorem witness_FaultReaction :
    (∃ (s : State) (c : CollectorId), s.collects c = false) ∧
    (∃ (s : State) (c : CollectorId) (n : Nat), s.collects c = true ∧ (s.collector c).inFault.testBit (sourceBit c n)
      = true) ∧
    (∃ (s : State) (c : CollectorId) (n : Nat), s.collects c = true ∧ sourceIn c n = true ∧ (s.collector
      c).inFault.testBit (sourceBit c n) = true) ∧
    (∃ (k : Collector) (b : Nat), k.inFault.testBit b = true) ∧
    (∃ (s : State) (x : LaneId) (n : Nat), Canon s ∧ s.collects (.lane x) = true ∧ sourceIn (.lane x) n = true ∧
      (s.lane x).coll.inFault.testBit n = false ∧ (s.lane x).coll.classLevel (sourceClass n) = 0 ∧ 1 ≤ s.sourceLevel
      (.lane x) n ∧ s.sourceLevel (.lane x) n ≤ 2 ∧ s.get x (key (0x1410 + n) 3) < 1000) ∧
    (∃ (s : State) (x : LaneId) (n : Nat), Canon s ∧ s.collects (.lane x) = true ∧ sourceIn (.lane x) n = true ∧
      (s.lane x).coll.inFault.testBit n = false ∧ (s.lane x).coll.classLevel (sourceClass n) = 0 ∧ s.sourceLevel
      (.lane x) n = 4) ∧
    (∃ (s : State) (x : LaneId) (n : Nat), Canon s ∧ s.collects (.lane x) = true ∧ sourceIn (.lane x) n = true ∧
      (s.lane x).coll.inFault.testBit n = false ∧ (s.lane x).coll.classLevel (sourceClass n) = 0 ∧ s.sourceLevel
      (.lane x) n = 5) ∧
    (∃ (cl : Nat) (own : Nat) (ceil : Nat), 1 ≤ cl ∧ own ≤ ceil) ∧
    (∃ (s : State) (c : CollectorId) (n : Nat), sourceIn c n = true ∧ s.collects c = true ∧ n ≠ 83 ∧ n ≠ 97 ∧ ((n =
      132 → s.arb.running = true))) ∧
    (∃ (s : State), s.arb.running = false) ∧
    (∃ (s : State) (x : LaneId), s.collects (.lane x) = true) ∧
    (∃ (s : State) (x : LaneId), Canon s ∧ s.collects (.lane x) = true) :=
  ⟨⟨(on).upd .A (fun l => { l with mode := .stopped }), .lane .A, by decide +kernel⟩,
    ⟨(on).upd .A (fun l => { l with coll.inFault := 8 }), .lane .A, 3, by decide +kernel⟩,
    ⟨(on).upd .A (fun l => { l with coll.inFault := 8 }), .lane .A, 3, by decide +kernel⟩,
    ⟨{ Collector.empty with inFault := 8 }, 3, by decide +kernel⟩,
    ⟨on, .A, 3, by decide +kernel⟩,
    ⟨on, .A, 0, by decide +kernel⟩,
    ⟨on, .A, 26, by decide +kernel⟩,
    ⟨1, 1, 1, by decide +kernel⟩,
    ⟨on, .lane .A, 1, by decide +kernel⟩,
    ⟨(fun s : State => ({ s with arb.running := false } : State)) (on), by decide +kernel⟩,
    ⟨on, .A, by decide +kernel⟩,
    ⟨on, .A, by decide +kernel⟩⟩

/-- States and operands that meet the hypotheses of `Obligations.FaultCommands`, clause by clause. -/
theorem witness_FaultCommands :
    (∃ (s : State) (c : CollectorId) (n : Nat), n ∉ (s.collector c).resets) ∧
    (∃ (s : State) (x : LaneId) (n : Nat), n ∈ (s.lane x).coll.resets ∧ (sourceRow n).map Source.block ≠ some .domain
      ∧ (sourceRow n).map Source.block ≠ some .fieldSide) ∧
    (∃ (s : State) (x : LaneId), 80 ∈ (s.lane x).coll.resets) ∧
    (∃ (s : State), 132 ∈ s.coll.resets ∧ s.awake = true) ∧
    (∃ (s : State) (a : Sys2Proof.Acc) (x : LaneId) (v : BitVec 16), Canon s ∧ Reaches s a 1 x ∧ v.toNat < 8192) ∧
    (∃ (s : State) (a : Sys2Proof.Acc) (x : LaneId) (v : BitVec 16) (n : Nat), Canon s ∧ Reaches s a 1 x ∧ v.toNat <
      8192 ∧ s.collects (.lane x) = true ∧ sourceIn (.lane x) n = true ∧ (s.lane x).coll.inFault.testBit n = false ∧
      (s.lane x).coll.classLevel (sourceClass n) = 0 ∧ 1 ≤ s.sourceLevel (.lane x) n ∧ s.sourceLevel (.lane x) n ≤ 2) ∧
    (∃ (s : State) (a : Sys2Proof.Acc) (v : BitVec 16), ReachesModule s a 1 ∧ v.toNat < 8192) ∧
    (∃ (s : State) (a : Sys2Proof.Acc) (x : LaneId) (v : BitVec 16), Reaches s a 1 x ∧ 8192 ≤ v.toNat) ∧
    (∃ (s : State) (a : Sys2Proof.Acc) (x : LaneId) (n : Byte), Reaches s a 2 x ∧ sourceIn (.lane x) n.toNat = true ∧
      (s.lane x).coll.armed ≠ some n.toNat) ∧
    (∃ (s : State) (a : Sys2Proof.Acc) (x : LaneId) (n : Byte), Reaches s a 2 x ∧ sourceIn (.lane x) n.toNat = false) ∧
    (∃ (s : State) (a : Sys2Proof.Acc) (n : Byte), ReachesModule s a 2 ∧ sourceIn .module n.toNat = true ∧
      s.coll.inFault.testBit (n.toNat - 128) = true) ∧
    (∃ (s : State) (a : Sys2Proof.Acc) (x : LaneId) (n : Byte), Reaches s a 2 x ∧ sourceIn (.lane x) n.toNat = true ∧
      s.mayArm (.lane x) n.toNat = true) ∧
    (∃ (s : State) (a : Sys2Proof.Acc) (x : LaneId) (n : Byte), Reaches s a 2 x ∧ s.mayArm (.lane x) n.toNat = false) ∧
    (∃ (s : State) (a : Sys2Proof.Acc) (n : Byte), ReachesModule s a 2 ∧ sourceIn .module n.toNat = true ∧ s.mayArm
      .module n.toNat = true) :=
  ⟨⟨on, .lane .A, 1, by decide +kernel⟩,
    ⟨(fun (x : LaneId) => (on).upd x (fun l => { l with coll.resets := [18] })) .A, .A, 18, by decide +kernel⟩,
    ⟨(fun (x : LaneId) => (on).upd x (fun l => { l with coll.resets := [80] })) .A, .A, by decide +kernel⟩,
    ⟨(fun s : State => ({ s with coll.resets := [132] } : State)) (on), by decide +kernel⟩,
    ⟨on, ⟨.service 0, .acting⟩, .A, 1, by decide +kernel⟩,
    ⟨((on).put .A (key 0x1413 1) 1).put .A (key 0x1413 2) 2, ⟨.service 0, .acting⟩, .A, 1, 3, by decide +kernel⟩,
    ⟨on, ⟨.service 0, .acting⟩, 1, by decide +kernel⟩,
    ⟨on, ⟨.service 0, .acting⟩, .A, 8192, by decide +kernel⟩,
    ⟨on, ⟨.service 0, .acting⟩, .A, 1, by decide +kernel⟩,
    ⟨on, ⟨.service 0, .acting⟩, .A, 4, by decide +kernel⟩,
    ⟨(fun s : State => ({ s with coll.inFault := 4 } : State)) (on), ⟨.service 0, .acting⟩, 130, by decide +kernel⟩,
    ⟨on, ⟨.service 0, .acting⟩, .A, 1, by decide +kernel⟩,
    ⟨(on).put .A 0x112000 1, ⟨.service 0, .acting⟩, .A, 1, by decide +kernel⟩,
    ⟨on, ⟨.service 0, .acting⟩, 130, by decide +kernel⟩⟩

/-- States and operands that meet the hypotheses of `Obligations.Recorder`, clause by clause. -/
theorem witness_Recorder :
    (∃ (s : State) (x : LaneId) (a : Bool) (b : Bool) (q : Queued) (rest : List Queued), Canon s ∧ (a = true ∨ b =
      true) ∧ CanRecord (s.lane x) ∧ (s.lane x).log.scanned = true ∧ (s.lane x).log.inClear = false ∧ (s.lane
      x).log.worn.contains (s.lane x).log.slots.length = false ∧ (s.lane x).log.queue = q :: rest ∧ (s.lane
      x).log.slots.length < 131070 ∧ s.get x 0x150200 < 1000000) ∧
    (∃ (s : State) (x : LaneId) (q : Queued) (rest : List Queued), Canon s ∧ CanRecord (s.lane x) ∧ (s.lane
      x).log.scanned = true ∧ (s.lane x).log.inClear = false ∧ (s.lane x).log.worn.contains (s.lane
      x).log.slots.length = false ∧ (s.lane x).log.queue = q :: rest ∧ (s.lane x).log.slots.length < 131070 ∧ (s.lane
      x).log.lastBad = false ∧ s.get x 0x150A01 < 16) ∧
    (∃ (s : State) (x : LaneId) (q : Queued) (rest : List Queued), CanRecord (s.lane x) ∧ (s.lane x).log.scanned =
      true ∧ (s.lane x).log.inClear = false ∧ (s.lane x).log.worn = [] ∧ (s.lane x).log.queue = q :: rest ∧ (s.lane
      x).log.slots.length = 131070 ∧ Quiet s x 104 ∧ Quiet s x 105) ∧
    (∃ (s : State) (x : LaneId) (q : Queued) (rest : List Queued), CanRecord (s.lane x) ∧ (s.lane x).log.scanned =
      true ∧ (s.lane x).log.inClear = false ∧ (s.lane x).log.worn = [] ∧ (s.lane x).log.queue = q :: rest ∧ (s.lane
      x).log.slots.length = 131070 ∧ Quiet s x 105) ∧
    (∃ (s : State) (x : LaneId), Canon s ∧ (s.lane x).awake = true ∧ (s.lane x).mode ≠ .stopped ∧ (s.lane
      x).log.failed = none ∧ 256 ≤ (s.lane x).log.queue.length ∧ s.get x 0x150300 < 1000 ∧ (s.lane x).log.full = false
      ∧ (s.lane x).recorderResets = false) ∧
    (∃ (s : State) (x : LaneId), CanRecord (s.lane x)) ∧
    (∃ (s : State) (x : LaneId) (cause : Byte), Canon s ∧ 1 ≤ cause.toNat ∧ cause.toNat ≤ 4 ∧ (s.lane x).log.failed =
      none ∧ (s.lane x).awake = true ∧ (s.lane x).mode ≠ .stopped ∧ Quiet s x 104 ∧ (s.lane x).log.finals = [] ∧
      (s.lane x).log.tagsValid = true) ∧
    (∃ (s : State) (x : LaneId), (s.lane x).log.failed.isSome = true) ∧
    (∃ (cause : Byte), 4 < cause.toNat) ∧
    (∃ (s : State) (x : LaneId), (s.lane x).awake = true) ∧
    (∃ (s : State) (x : LaneId), (s.lane x).awake = true) ∧
    (∃ (l : LaneState) (j : Nat) (c : CtlCopy), j < 3 ∧ l.log.ctl[j]? = some c) ∧
    (∃ (r : Sys2Proof.Machine.Recorder) (a : CtlCopy) (b : CtlCopy) (c : CtlCopy), r.ctl = [a, b, c] ∧ a.ok = true ∧ b
      = a) ∧
    (∃ (s : State) (a : Sys2Proof.Acc) (x : LaneId), Reaches s a 2 x ∧ (s.lane x).log.shutdown = false ∧ (s.lane
      x).log.inClear = false) ∧
    (∃ (s : State) (a : Sys2Proof.Acc) (x : LaneId), Reaches s a 2 x ∧ (s.lane x).log.clearing = true) ∧
    (∃ (s : State) (a : Sys2Proof.Acc) (x : LaneId) (v : Byte), Reaches s a 2 x ∧ (s.lane x).log.shutdown = false ∧
      (s.lane x).log.inClear = false ∧ v.toNat ≠ 1) ∧
    (∃ (s : State) (x : LaneId), Canon s ∧ (s.lane x).log.clearing = true ∧ (s.lane x).ready = true ∧ s.get x 0x150200
      < 1000000) ∧
    (∃ (s : State) (a : Sys2Proof.Acc) (x : LaneId), Reaches s a 2 x ∧ (s.lane x).log.tagsValid = false) ∧
    (∃ (s : State) (a : Sys2Proof.Acc) (x : LaneId), Reaches s a 2 x ∧ (s.lane x).log.tagsValid = true) :=
  ⟨⟨(fun (x : LaneId) (q : Queued) (rest : List Queued) => ((on).upd x (fun l => { l with log.scanned := true })).upd
      x (fun l => { l with log.queue := q :: rest })) .A Q ([]), .A, true, false, Q, [], by decide +kernel⟩,
    ⟨(fun (x : LaneId) (q : Queued) (rest : List Queued) => ((on).upd x (fun l => { l with log.scanned := true })).upd
      x (fun l => { l with log.queue := q :: rest })) .A Q ([]), .A, Q, [], by decide +kernel⟩,
    full_log fullSlots fullSlots_length,
    let ⟨s, x, q, r, a, b, c, d, e, f, _, g⟩ := full_log fullSlots fullSlots_length; ⟨s, x, q, r, a, b, c, d, e, f, g⟩,
    ⟨(fun (x : LaneId) => ((on).upd x (fun l => { l with log.failed := none })).upd x (fun l =>
      { l with log.queue := List.replicate 256 Q })) .A, .A, by decide +kernel⟩,
    ⟨on, .A, by decide +kernel⟩,
    ⟨(fun (x : LaneId) => (((on).upd x (fun l => { l with log.failed := none })).upd x (fun l =>
      { l with log.finals := [] })).upd x (fun l => { l with log.tagsValid := true })) .A, .A, 1, by decide +kernel⟩,
    ⟨(fun (x : LaneId) => (on).upd x (fun l => { l with log.failed := some 2 })) .A, .A, by decide +kernel⟩,
    ⟨5, by decide +kernel⟩,
    ⟨on, .A, by decide +kernel⟩,
    ⟨on, .A, by decide +kernel⟩,
    ⟨{ lane .possession with log.ctl := [⟨1, 2, 3, 4, true⟩, ⟨1, 2, 3, 4, true⟩, ⟨1, 2, 3, 4, true⟩] }, 0, ⟨1, 2, 3,
      4, true⟩, by decide +kernel⟩,
    ⟨{ Sys2Proof.Machine.Recorder.reset with ctl := [⟨1, 2, 3, 4, true⟩, ⟨1, 2, 3, 4, true⟩, ⟨1, 2, 3, 5, true⟩] },
      ⟨1, 2, 3, 4, true⟩, ⟨1, 2, 3, 4, true⟩, ⟨1, 2, 3, 5, true⟩, by decide +kernel⟩,
    ⟨(fun (x : LaneId) => (on).upd x (fun l => { l with log.shutdown := false })) .A, ⟨.service 0, .acting⟩, .A,
      by decide +kernel⟩,
    ⟨(fun (x : LaneId) => (on).upd x (fun l => { l with log.clearing := true })) .A, ⟨.service 0, .acting⟩, .A,
      by decide +kernel⟩,
    ⟨(fun (x : LaneId) => (on).upd x (fun l => { l with log.shutdown := false })) .A, ⟨.service 0, .acting⟩, .A, 2,
      by decide +kernel⟩,
    ⟨(fun (x : LaneId) => (on).upd x (fun l => { l with log.clearing := true })) .A, .A, by decide +kernel⟩,
    ⟨(fun (x : LaneId) => (on).upd x (fun l => { l with log.tagsValid := false })) .A, ⟨.service 0, .acting⟩, .A,
      by decide +kernel⟩,
    ⟨(fun (x : LaneId) => (on).upd x (fun l => { l with log.tagsValid := true })) .A, ⟨.service 0, .acting⟩, .A,
      by decide +kernel⟩⟩

/-- States and operands that meet the hypotheses of `Obligations.RePlan`, clause by clause. -/
theorem witness_RePlan :
    (∃ (s : State) (x : LaneId), (s.lane x).plan.due = none) ∧
    (∃ (s : State) (x : LaneId), Canon s ∧ (s.lane x).plan.due.isSome = true ∧ (s.lane x).ready = true ∧ bitAt (s.get
      x 0x130000) 5 = false ∧ (s.lane x).planBlocked = true) ∧
    (∃ (s : State) (x : LaneId), Canon s ∧ (s.lane x).plan.due.isSome = true ∧ (s.lane x).ready = true ∧ bitAt (s.get
      x 0x130000) 5 = false ∧ (s.lane x).planBlocked = false ∧ Quiet s x 107 ∧ Quiet s x 108 ∧ Quiet s x 109 ∧ s.get x
      0x130300 < 1000) ∧
    (∃ (s : State) (x : LaneId), (s.lane x).ready = true) ∧
    (∃ (s : State) (a : Sys2Proof.Acc) (x : LaneId), Canon s ∧ Reaches s a 2 x ∧ (s.lane x).planBlocked = false) ∧
    (∃ (s : State) (a : Sys2Proof.Acc) (x : LaneId), Reaches s a 2 x ∧ (s.lane x).planBlocked = true) ∧
    (∃ (s : State) (x : LaneId), (s.lane x).planBlocked = true) ∧
    (∃ (s : State) (x : LaneId), (s.lane x).planBlocked = false) :=
  ⟨⟨(fun (x : LaneId) => (on).upd x (fun l => { l with plan.due := none })) .A, .A, by decide +kernel⟩,
    ⟨(fun (x : LaneId) => (on).upd x (fun l => { l with plan.due := some 1, roll.running := true })) .A, .A,
      by decide +kernel⟩,
    ⟨(fun (x : LaneId) => (on).upd x (fun l => { l with plan.due := some 1 })) .A, .A, by decide +kernel⟩,
    ⟨on, .A, by decide +kernel⟩,
    ⟨on, ⟨.service 0, .acting⟩, .A, by decide +kernel⟩,
    ⟨(fun (x : LaneId) => (on).upd x (fun l => { l with roll.running := true })) .A, ⟨.service 0, .acting⟩, .A,
      by decide +kernel⟩,
    ⟨(fun (x : LaneId) => (on).upd x (fun l => { l with roll.running := true })) .A, .A, by decide +kernel⟩,
    ⟨on, .A, by decide +kernel⟩⟩

/-- States and operands that meet the hypotheses of `Obligations.AgeingBetweenRePlans`, clause by clause. -/
theorem witness_AgeingBetweenRePlans :
    (∃ (s : State) (x : LaneId), Canon s ∧ (s.lane x).awake = true ∧ (s.lane x).mode ≠ .stopped ∧ s.get x 0x131003 <
      s.get x 0x131005 ∧ s.get x 0x131005 < 2 ^ 32 ∧ s.get x 0x130500 < 1000) ∧
    (∃ (s : State) (x : LaneId), s.get x 0x131005 ≤ s.get x 0x131003) ∧
    (∃ (s : State) (x : LaneId) (n : Fin 24) (mA : Nat), (s.lane x).ready = true ∧ ((s.lane x).pin n.val).driver =
      true ∧ (s.lane x).pinBit n.val 10 = false ∧ 200 ≤ mA) ∧
    (∃ (mA : Nat), mA < 200) ∧
    (∃ (s : State) (x : LaneId), (s.lane x).ready = true) ∧
    (∃ (s : State) (x : LaneId), (s.lane x).ready = true) ∧
    (∃ (l : LaneState) (v : Nat), Machine.tabCanon regDefault l.reg = true ∧ l.plan.nextScrub = some v ∧ v < 2 ^ 32 ∧
      l.get 0x131504 ≤ v ∧ v ≤ l.get 0x131505) ∧
    (∃ (s : State) (x : LaneId) (r : RiseReading), Canon s ∧ (s.lane x).awake = true ∧ (s.lane x).mode ≠ .stopped ∧
      (s.lane x).mode ≠ .dead ∧ (bitAt (s.get x 0x130000) 0 = false ∨ Quiet s x 108) ∧ r.converter ≤ 1250) ∧
    (∃ (s : State) (x : LaneId), Canon s ∧ (s.lane x).awake = true ∧ (s.lane x).mode ≠ .stopped ∧ (s.lane x).mode ≠
      .dead ∧ (bitAt (s.get x 0x130000) 0 = false ∨ Quiet s x 108)) ∧
    (∃ (s : State) (x : LaneId) (temp : Int), Canon s ∧ s.collects (.lane x) = true ∧ (s.lane x).mode ≠ .stopped ∧
      (s.lane x).mode ≠ .dead ∧ bitAt (s.get x 0x130000) 0 = true ∧ Quiet s x 108 ∧ 197100 ≤ ((s.lane x).plan.hours +
      ageingPerMinute temp) / 1000000 ∧ ((s.lane x).plan.hours + ageingPerMinute temp) / 1000000 < 2 ^ 31) ∧
    (∃ (s : State) (x : LaneId) (r : RiseReading), Canon s ∧ s.collects (.lane x) = true ∧ (s.lane x).mode ≠ .stopped
      ∧ (s.lane x).mode ≠ .dead ∧ bitAt (s.get x 0x130000) 0 = false ∧ 1250 < r.converter ∧ Quiet s x 3) ∧
    (∃ (s : State) (a : Sys2Proof.Acc) (x : LaneId) (row : Fin 11) (up : Bool) (v : BitVec 32), Canon s ∧ Reaches s a
      2 x ∧ boundRow row.val = true ∧ (s.lane x).boundOk row.val up v.toNat = true ∧ Quiet s x 107) ∧
    (∃ (s : State) (a : Sys2Proof.Acc) (x : LaneId) (row : Fin 11), Reaches s a 2 x ∧ boundRow row.val = false) ∧
    (∃ (s : State) (a : Sys2Proof.Acc) (x : LaneId) (row : Fin 11) (up : Bool) (v : BitVec 32), Reaches s a 2 x ∧
      boundRow row.val = true ∧ (s.lane x).boundOk row.val up v.toNat = false) :=
  ⟨⟨(fun (x : LaneId) => ((on).put x 0x131003 500).put x 0x131005 1000) .A, .A, by decide +kernel⟩,
    ⟨on, .A, by decide +kernel⟩,
    ⟨(fun (x : LaneId) (n : Fin 24) => ((on).upd x (fun l => l.updPin n.val (fun p => { p with driver := true }))).upd
      x (fun l => l.setPinBit n.val 10 false)) .A 0, .A, 0, 300, by decide +kernel⟩,
    ⟨1, by decide +kernel⟩,
    ⟨on, .A, by decide +kernel⟩,
    ⟨on, .A, by decide +kernel⟩,
    ⟨{ lane .possession with plan := { (lane .possession).plan with nextScrub := some 24 } }, 24, by decide +kernel⟩,
    ⟨on, .A, ⟨50, 40, 3000⟩, by decide +kernel⟩,
    ⟨on, .A, by decide +kernel⟩,
    ⟨(fun (x : LaneId) => ((((on).put x 0x130000 1).put .A (key (0x1410 + 108) 1) 1).put .A (key (0x1410 + 108) 2)
      2).upd x (fun l => { l with plan.hours := 197100000000 })) .A, .A, (-30000), by decide +kernel⟩,
    ⟨((on).put .A (key (0x1410 + 3) 1) 1).put .A (key (0x1410 + 3) 2) 2, .A, ⟨1300, 40, 3000⟩, by decide +kernel⟩,
    ⟨on, ⟨.service 0, .acting⟩, .A, 0, false, 900, by decide +kernel⟩,
    ⟨on, ⟨.service 0, .acting⟩, .A, 1, by decide +kernel⟩,
    ⟨on, ⟨.service 0, .acting⟩, .A, 0, false, 1, by decide +kernel⟩⟩

/-- States and operands that meet the hypotheses of `Obligations.ImageCounterAndNode`, clause by clause. -/
theorem witness_ImageCounterAndNode :
    (∃ (s : State) (a : Sys2Proof.Acc) (x : LaneId) (n : BitVec 32) (k : List Byte), Reaches s a 2 x ∧ s.rolling =
      false ∧ 1 ≤ n.toNat ∧ n.toNat ≤ 1048576 ∧ cfgHeaderOk (s.sec.staged n.toNat) = true ∧ s.sec.cfgKeys.getD (numAt
      (s.sec.staged n.toNat) 5 1) [] = k ∧ k ≠ [] ∧ signatureOk k ((s.sec.staged n.toNat).take ((s.sec.staged
      n.toNat).length - 64)) ((s.sec.staged n.toNat).drop ((s.sec.staged n.toNat).length - 64)) = true ∧ ((numAt
      (s.sec.staged n.toNat) 8 8 ≠ 0 ∧ numAt (s.sec.staged n.toNat) 8 8 ≠ s.uid) ∨ (numAt (s.sec.staged n.toNat) 6 1 ≠
      255 ∧ numAt (s.sec.staged n.toNat) 6 1 ≠ s.mget 0x100800)) ∧ Quiet s .A 27 ∧ Quiet s .B 27) ∧
    (∃ (s : State) (a : Sys2Proof.Acc) (x : LaneId) (n : BitVec 32) (k : List Byte), Reaches s a 2 x ∧ s.rolling =
      false ∧ 1 ≤ n.toNat ∧ n.toNat ≤ 1048576 ∧ cfgHeaderOk (s.sec.staged n.toNat) = true ∧ s.sec.cfgKeys.getD (numAt
      (s.sec.staged n.toNat) 5 1) [] = k ∧ k ≠ [] ∧ signatureOk k ((s.sec.staged n.toNat).take ((s.sec.staged
      n.toNat).length - 64)) ((s.sec.staged n.toNat).drop ((s.sec.staged n.toNat).length - 64)) = true ∧ (numAt
      (s.sec.staged n.toNat) 8 8 = 0 ∨ numAt (s.sec.staged n.toNat) 8 8 = s.uid) ∧ (numAt (s.sec.staged n.toNat) 6 1 =
      255 ∨ numAt (s.sec.staged n.toNat) 6 1 = s.mget 0x100800) ∧ ((∀ y ∈ x :: s.imageLanes a.sel, numAt (s.sec.staged
      n.toNat) 16 4 < s.get y 0x101201)) ∧ Quiet s .A 27 ∧ Quiet s .B 27) ∧
    (∃ (s : State) (a : Sys2Proof.Acc) (x : LaneId) (n : BitVec 32), Canon s ∧ Reaches s a 2 x ∧ s.rolling = false ∧ 1
      ≤ n.toNat ∧ n.toNat ≤ 1048576 ∧ ((∀ y ∈ x :: s.imageLanes a.sel, (s.imageOutcome y (s.sec.staged
      n.toNat)).ans.code = 0))) :=
  ⟨⟨(fun s : State => ({ s with uid := 9, sec.image := tabSetAll (fun _ => 0) 8 [1] s.sec.image } : State)) (((fun s
      : State => ({ s with sec.image := tabSetAll (fun _ => 0) 0 IMG [], sec.cfgKeys := [ONE, [], [], []] } : State))
      (on)).mput 0x100800 3), ⟨.service 0, .acting⟩, .A, 124, ONE, by decide +kernel⟩,
    ⟨(((fun s : State => ({ s with sec.image := tabSetAll (fun _ => 0) 0 IMG [], sec.cfgKeys := [ONE, [], [], []] } :
      State)) (on)).put .A 0x101201 13).put .B 0x101201 13, ⟨.service 0, .acting⟩, .A, 124, ONE, by decide +kernel⟩,
    ⟨(fun s : State => ({ s with sec.image := tabSetAll (fun _ => 0) 0 IMG [], sec.cfgKeys := [ONE, [], [], []] } :
      State)) (on), ⟨.service 0, .acting⟩, .A, 124, by decide +kernel⟩⟩

/-- States and operands that meet the hypotheses of `Obligations.FirmwareCompatibility`, clause by clause. -/
theorem witness_FirmwareCompatibility :
    (∃ (s : State) (a : Sys2Proof.Acc) (x : LaneId) (len : BitVec 32) (p : Byte) (lo : Byte) (hi : Byte), Reaches s a
      2 x ∧ s.mayUpdate x = true ∧ 128 ≤ len.toNat ∧ len.toNat ≤ 8388608 ∧ compatible (s.lane x.peer).running p.toNat
      lo.toNat hi.toNat = false) :=
  ⟨on, ⟨.service 0, .lane .B⟩, .B, 128, 9, 1, 1, by decide +kernel⟩

/-- States and operands that meet the hypotheses of `Obligations.RegisterWrite`, clause by clause. -/
theorem witness_RegisterWrite :
    (∃ (s : State) (a : Sys2Proof.Acc) (i : BitVec 16) (u : Byte), lookupRow i.toNat u.toNat = none ∧ ((a.path = .host
      → s.hostOn = true))) ∧
    (∃ (s : State) (a : Sys2Proof.Acc) (i : BitVec 16) (u : Byte) (r : Row), lookupRow i.toNat u.toNat = some r ∧ i ≠
      0x1104 ∧ s.reach r a.sel = none ∧ ((a.path = .host → s.hostOn = true))) ∧
    (∃ (s : State) (a : Sys2Proof.Acc) (i : BitVec 16) (u : Byte) (r : Row) (x : LaneId), lookupRow i.toNat u.toNat =
      some r ∧ i ≠ 0x1104 ∧ s.reach r a.sel = some x ∧ r.kind ≠ .cmd ∧ s.role a.path < r.role ∧ ((a.path = .host →
      s.hostOn = true))) ∧
    (∃ (s : State) (a : Sys2Proof.Acc) (i : BitVec 16) (u : Byte) (r : Row) (x : LaneId), lookupRow i.toNat u.toNat =
      some r ∧ i ≠ 0x1104 ∧ s.reach r a.sel = some x ∧ r.kind = .ro ∧ r.role ≤ s.role a.path ∧ ((a.path = .host →
      s.hostOn = true))) ∧
    (∃ (s : State) (a : Sys2Proof.Acc) (x : LaneId) (n : Nat) (r : Source) (v : BitVec 64), Canon s ∧ Reaches s a 2 x
      ∧ ((a.sel = .acting → (s.lane x).reached = true)) ∧ n < 128 ∧ sourceRow n = some r ∧ r.lo ≤ v.toNat ∧ v.toNat ≤
      r.hi ∧ v.toNat ≤ 5 ∧ v.toNat ≤ s.sourceCeiling (.lane x) n) ∧
    (∃ (s : State) (a : Sys2Proof.Acc) (x : LaneId) (n : Nat) (v : BitVec 64), Reaches s a 2 x ∧ n < 128 ∧ (sourceRow
      n).isSome = true ∧ v.toNat < 256 ∧ s.sourceCeiling (.lane x) n < v.toNat) ∧
    (∃ (s : State) (a : Sys2Proof.Acc) (v : BitVec 64), ReachesModule s a 1 ∧ v.toNat < 1024) :=
  ⟨⟨on, ⟨.service 0, .acting⟩, 1, 1, by decide +kernel⟩,
    ⟨(on).upd .B (fun l => { l with mode := .asleep }), ⟨.service 0, .lane .B⟩, 0x4401, 0, ROW, by decide +kernel⟩,
    ⟨on, ⟨.service 1, .acting⟩, 0x4401, 0, ROW, .A, by decide +kernel⟩,
    ⟨on, ⟨.service 0, .acting⟩, 0x4406, 3, ROWRO, .A, by decide +kernel⟩,
    ⟨on, ⟨.service 0, .acting⟩, .A, 3, ⟨3, 0, 1, 0, 5, .domain⟩, 2, by decide +kernel⟩,
    ⟨on, ⟨.service 0, .acting⟩, .A, 3, 200, by decide +kernel⟩,
    ⟨on, ⟨.service 0, .acting⟩, 1, by decide +kernel⟩⟩

/-- States and operands that meet the hypotheses of `Obligations.Configuration`, clause by clause. -/
theorem witness_Configuration :
    (∃ (s : State) (a : Sys2Proof.Acc) (x : LaneId), Canon s ∧ Reaches s a 2 x) ∧
    (∃ (s : State) (a : Sys2Proof.Acc) (x : LaneId) (v : Byte), Reaches s a 2 x ∧ v.toNat ≠ 1) ∧
    (∃ (s : State) (a : Sys2Proof.Acc) (x : LaneId) (d : List Byte), Reaches s a 2 x ∧ d.length ≤ 65536 ∧ s.get x
      0x163001 + d.length ≤ 1048576) ∧
    (∃ (s : State) (a : Sys2Proof.Acc) (x : LaneId) (d : List Byte), Reaches s a 2 x ∧ 65536 < d.length) ∧
    (∃ (s : State) (a : Sys2Proof.Acc) (x : LaneId), Reaches s a 2 x ∧ s.rolling = true) ∧
    (∃ (s : State) (a : Sys2Proof.Acc) (x : LaneId) (n : BitVec 32), Canon s ∧ Reaches s a 2 x ∧ s.rolling = false ∧ 1
      ≤ n.toNat ∧ n.toNat ≤ 1048576 ∧ s.imageCheck x (s.sec.staged n.toNat) ≠ 0 ∧ ((∀ y ∈ s.imageLanes a.sel,
      (s.imageOutcome y (s.sec.staged n.toNat)).ans.code ≠ 0)) ∧ ((∀ y ∈ s.imageLanes a.sel, (s.imageOutcome y
      (s.sec.staged n.toNat)).ans.code ≠ 0x02000001)) ∧ Quiet s .A 27 ∧ Quiet s .B 27) ∧
    (∃ (s : State) (a : Sys2Proof.Acc) (x : LaneId) (n : BitVec 32), Canon s ∧ Reaches s a 2 x ∧ s.rolling = false ∧ 1
      ≤ n.toNat ∧ n.toNat ≤ 1048576 ∧ ((∀ y ∈ x :: s.imageLanes a.sel, (s.imageOutcome y (s.sec.staged
      n.toNat)).ans.code = 0))) ∧
    (∃ (img : List Byte), cfgHeaderOk img = false) ∧
    (∃ (s : State) (img : List Byte), cfgHeaderOk img = true ∧ s.sec.cfgKeys.getD (numAt img 5 1) [] = []) ∧
    (∃ (s : State) (x : LaneId) (img : List Byte), s.imageCheck x img = 0) :=
  ⟨⟨on, ⟨.service 0, .acting⟩, .A, by decide +kernel⟩,
    ⟨on, ⟨.service 0, .acting⟩, .A, 2, by decide +kernel⟩,
    ⟨on, ⟨.service 0, .acting⟩, .A, [], by decide +kernel⟩,
    ⟨on, ⟨.service 0, .acting⟩, .A, List.replicate 65537 0, by decide +kernel, Nat.lt_of_lt_of_eq (by decide : 65536 <
      65537) List.length_replicate.symm⟩,
    ⟨(on).upd .A (fun l => { l with roll.running := true }), ⟨.service 0, .acting⟩, .A, by decide +kernel⟩,
    ⟨on, ⟨.service 0, .acting⟩, .A, 124, by decide +kernel⟩,
    ⟨(fun s : State => ({ s with sec.image := tabSetAll (fun _ => 0) 0 IMG [], sec.cfgKeys := [ONE, [], [], []] } :
      State)) (on), ⟨.service 0, .acting⟩, .A, 124, by decide +kernel⟩,
    ⟨[], by decide +kernel⟩,
    ⟨on, IMG, by decide +kernel⟩,
    ⟨(fun s : State => ({ s with sec.image := tabSetAll (fun _ => 0) 0 IMG [], sec.cfgKeys := [ONE, [], [], []] } :
      State)) (on), .A, IMG, by decide +kernel⟩⟩

/-- States and operands that meet the hypotheses of `Obligations.HostAuthentication`, clause by clause. -/
theorem witness_HostAuthentication :
    (∃ (s : State), s.hostOn = true ∧ s.awake = true ∧ s.sec.hostLocked = false) ∧
    (∃ (s : State), s.hostOn = true ∧ s.awake = true ∧ s.sec.hostLocked = true) ∧
    (∃ (s : State) (d : List Byte) (k : List Byte) (n : Nat), s.hostOn = true ∧ s.awake = true ∧ s.sec.hostLocked =
      false ∧ 1 ≤ s.role .host ∧ d.length = 33 ∧ s.sec.challenge = some n ∧ s.sec.keyFor false (numAt d 0 1) = some k
      ∧ (hmac128 k (proofText (toBytes 16 n) (slice d 1 16) s.uid (numAt d 0 1))).toNat = numAt d 17 16) ∧
    (∃ (s : State) (d : List Byte) (k : List Byte) (n : Nat), Canon s ∧ s.hostOn = true ∧ s.awake = true ∧
      s.sec.hostLocked = false ∧ 1 ≤ s.role .host ∧ d.length = 33 ∧ s.sec.challenge = some n ∧ s.sec.keyFor false
      (numAt d 0 1) = some k ∧ s.mget 0x160200 < 1000 ∧ (hmac128 k (proofText (toBytes 16 n) (slice d 1 16) s.uid
      (numAt d 0 1))).toNat ≠ numAt d 17 16) ∧
    (∃ (s : State) (d : List Byte), s.hostOn = true ∧ s.awake = true ∧ 1 ≤ s.role .host ∧ d.length = 33 ∧
      s.sec.hostLocked = true) ∧
    (∃ (s : State) (d : List Byte), s.hostOn = true ∧ s.awake = true ∧ 1 ≤ s.role .host ∧ 33 < d.length) ∧
    (∃ (s : State), s.hostOn = true ∧ s.awake = true ∧ s.role .host = 0) ∧
    (∃ (r : Nat), 3 ≤ r) ∧
    (∃ (s : State) (a : Sys2Proof.Acc) (n : Fin 3) (k : List Byte), ReachesModule s a (n.val + 1) ∧ (k.length = 16 ∨ k
      = [])) ∧
    (∃ (s : State) (a : Sys2Proof.Acc) (n : Fin 3), s.awake = true ∧ s.role a.path ≤ n.val ∧ ((a.path = .host →
      s.hostOn = true))) ∧
    (∃ (s : State) (a : Sys2Proof.Acc), ReachesModule s a 0) :=
  ⟨⟨(fun s : State => ({ s with sec.hostLocked := false } : State)) (on), by decide +kernel⟩,
    ⟨(fun s : State => ({ s with sec.hostLocked := true } : State)) (on), by decide +kernel⟩,
    ⟨(fun s : State => ({ s with sec.challenge := some 7, sec.roleKeys := [[9, 9], [], []] } : State)) (on), [1] ++
      List.replicate 16 0 ++ toBytes 16 (hmac128 [9, 9] (proofText (toBytes 16 7) (List.replicate 16 0)
      State.reset.uid 1)).toNat, [9, 9], 7, by decide +kernel⟩,
    ⟨(fun s : State => ({ s with sec.challenge := some 7, sec.roleKeys := [[9, 9], [], []] } : State)) (on), [1] ++
      List.replicate 32 0, [9, 9], 7, by decide +kernel⟩,
    ⟨(fun s : State => ({ s with sec.hostLocked := true } : State)) ((fun s : State =>
      ({ s with sec.hostLocked := true } : State)) (on)), List.replicate 33 0, by decide +kernel⟩,
    ⟨on, List.replicate 34 0, by decide +kernel⟩,
    ⟨(fun s : State => ({ s with sec.hostRole := none } : State)) ((on).mput 0x590001 0), by decide +kernel⟩,
    ⟨3, by decide +kernel⟩,
    ⟨on, ⟨.service 0, .acting⟩, 0, [], by decide +kernel⟩,
    ⟨on, ⟨.service 1, .acting⟩, 0, by decide +kernel⟩,
    ⟨on, ⟨.service 0, .acting⟩, by decide +kernel⟩⟩

/-- States and operands that meet the hypotheses of `Obligations.RequesterSessions`, clause by clause. -/
theorem witness_RequesterSessions :
    (∃ (s : State) (a : Sys2Proof.Acc) (x : LaneId) (n : Fin 128), Canon s ∧ Reaches s a 1 x ∧ 16 ≤ n.val ∧
      sessionPath n.val a.path = true ∧ (s.session n.val).isOpen = false) ∧
    (∃ (s : State) (a : Sys2Proof.Acc) (x : LaneId) (n : Fin 128), Reaches s a 1 x ∧ 16 ≤ n.val ∧ (s.session
      n.val).isOpen = true) ∧
    (∃ (s : State) (a : Sys2Proof.Acc) (x : LaneId) (n : Fin 128), Reaches s a 1 x ∧ 16 ≤ n.val ∧ sessionPath n.val
      a.path = false) ∧
    (∃ (s : State) (a : Sys2Proof.Acc) (x : LaneId) (n : Fin 128), Reaches s a 1 x ∧ n.val < 16) ∧
    (∃ (s : State) (x : LaneId) (m : MsgFrame), (s.lane x).ready = true ∧ msgOk m = false) ∧
    (∃ (s : State) (x : LaneId) (m : MsgFrame), Canon s ∧ msgOk m = true ∧ m.kind = 2 ∧ s.reachesSession x = true ∧ 16
      ≤ m.session.toNat ∧ m.session.toNat < 128 ∧ s.answers (s.session m.session.toNat) m = true ∧ m.status ≠ 0) ∧
    (∃ (s : State) (x : LaneId) (m : MsgFrame), Canon s ∧ msgOk m = true ∧ m.kind = 2 ∧ s.reachesSession x = true ∧ 16
      ≤ m.session.toNat ∧ m.session.toNat < 128 ∧ s.answers (s.session m.session.toNat) m = true ∧ m.status = 0 ∧
      isReadOp m.op.toNat = false) ∧
    (∃ (s : State) (x : LaneId) (m : MsgFrame), Canon s ∧ msgOk m = true ∧ m.kind = 2 ∧ s.reachesSession x = true ∧ 16
      ≤ m.session.toNat ∧ m.session.toNat < 128 ∧ s.answers (s.session m.session.toNat) m = true ∧ m.status = 0 ∧
      isReadOp m.op.toNat = true ∧ (s.session m.session.toNat).data = [] ∧ (s.session m.session.toNat).parts = [] ∧
      m.offset = 0 ∧ m.data ≠ [] ∧ m.length.toNat = m.data.length) ∧
    (∃ (s : State) (n : Fin 128), (s.session n.val).isOpen = false) ∧
    (∃ (s : State) (n : Fin 128), Canon s ∧ 16 ≤ n.val ∧ (s.session n.val).isOpen = true ∧ (s.session n.val).attempt <
      s.retries n.val) ∧
    (∃ (s : State) (n : Fin 128), Canon s ∧ 16 ≤ n.val ∧ (s.session n.val).isOpen = true ∧ s.retries n.val ≤
      (s.session n.val).attempt) :=
  ⟨⟨((on).put .A (sesKey 20 6) 2).put .B (sesKey 20 6) 2, ⟨.host, .acting⟩, .A, 20, by decide +kernel⟩,
    ⟨(on).upd .A (fun l => l.updSession 20 (fun k =>
      { k with state := 2, transaction := 5, op := 4, target := 9, length := 4 })), ⟨.service 0, .acting⟩, .A, 20,
      by decide +kernel⟩,
    ⟨on, ⟨.service 0, .acting⟩, .A, 20, by decide +kernel⟩,
    ⟨on, ⟨.service 0, .acting⟩, .A, 0, by decide +kernel⟩,
    ⟨on, .A, { MSG with kind := 9 }, by decide +kernel⟩,
    ⟨(on).upd .A (fun l => l.updSession 20 (fun k =>
      { k with state := 2, transaction := 5, op := 4, target := 9, length := 4 })), .A,
      { MSG with kind := 2, data := [], status := 5 }, by decide +kernel⟩,
    ⟨(on).upd .A (fun l => l.updSession 20 (fun k =>
      { k with state := 2, transaction := 5, op := 4, target := 9, length := 4 })), .A,
      { MSG with kind := 2, data := [] }, by decide +kernel⟩,
    ⟨(on).upd .A (fun l => l.updSession 20 (fun k =>
      { k with state := 2, transaction := 5, op := 3, target := 9, length := 4 })), .A,
      { MSG with kind := 2, op := 3 }, by decide +kernel⟩,
    ⟨on, 0, by decide +kernel⟩,
    ⟨((on).upd .A (fun l => l.updSession 20 (fun k =>
      { k with state := 2, transaction := 5, op := 4, target := 9, length := 4 }))).put .A (sesKey 20 10) 3, 20,
      by decide +kernel⟩,
    ⟨((on).upd .A (fun l => l.updSession 20 (fun k =>
      { k with state := 2, transaction := 5, op := 4, target := 9, length := 4 }))).put .A (sesKey 20 10) 0, 20,
      by decide +kernel⟩⟩

/-- States and operands that meet the hypotheses of `Obligations.TargetRequests`, clause by clause. -/
theorem witness_TargetRequests :
    (∃ (s : State) (x : LaneId), (s.lane x).ready = false) ∧
    (∃ (s : State) (x : LaneId) (m : MsgFrame), (s.lane x).ready = true ∧ m.kind = 1 ∧ m.session.toNat < 128 ∧ msgOk m
      = true ∧ bitAt m.selection.toNat 5 = false ∧ m.target.toNat ≠ s.uid) ∧
    (∃ (s : State) (x : LaneId) (m : MsgFrame), s.holder = some x ∧ m.kind = 1 ∧ m.session.toNat < 128 ∧ msgOk m =
      true ∧ bitAt m.selection.toNat 5 = true ∧ m.stamp.toNat ≠ (s.lane x).stamp) ∧
    (∃ (s : State) (x : LaneId) (m : MsgFrame) (r : AnswerRec), s.holder = some x ∧ m.kind = 1 ∧ m.session.toNat < 128
      ∧ msgOk m = true ∧ bitAt m.selection.toNat 5 = false ∧ m.target.toNat = s.uid ∧ isWriteOp m.op.toNat = true ∧
      (s.lane x).answerRec m.srcUid.toNat m.session.toNat = some r ∧ r.transaction = m.transaction.toNat) ∧
    (∃ (s : State) (x : LaneId) (m : MsgFrame) (r : AnswerRec), (s.lane x).ready = true ∧ m.kind = 1 ∧ m.session.toNat
      < 128 ∧ msgOk m = true ∧ bitAt m.selection.toNat 5 = false ∧ m.target.toNat = s.uid ∧ knownOp m.op.toNat = true
      ∧ (s.lane x).answerRec m.srcUid.toNat m.session.toNat = some r ∧ r.transaction ≠ m.transaction.toNat ∧ newer32
      m.transaction.toNat r.transaction = false) ∧
    (∃ (s : State) (x : LaneId) (m : MsgFrame), Canon s ∧ s.holder = some x ∧ m.kind = 1 ∧ m.session.toNat < 128 ∧
      msgOk m = true ∧ m.selection = 0 ∧ m.target.toNat = s.uid ∧ m.op = 4 ∧ m.data ≠ [] ∧ m.length.toNat =
      m.data.length ∧ m.object.toNat + m.data.length ≤ 0x100000 ∧ (s.lane x).answerRec m.srcUid.toNat m.session.toNat
      = none ∧ (s.lane x).msg.records.length < 1024 ∧ (s.lane x).buffer m.srcUid.toNat m.session.toNat = none ∧
      (s.lane x).isFreed m.srcUid.toNat m.session.toNat m.transaction.toNat = false ∧ (s.lane x).reached = true) :=
  ⟨⟨(on).upd .A (fun l => { l with mode := .booting }), .A, by decide +kernel⟩,
    ⟨on, .A, { MSG with target := 77 }, by decide +kernel⟩,
    ⟨on, .A, { MSG with selection := 32, stamp := 99 }, by decide +kernel⟩,
    ⟨(on).upd .A (fun l => l.keepRecord ⟨9, 20, 5, 0, 0, false⟩), .A, MSG, ⟨9, 20, 5, 0, 0, false⟩, by decide +kernel⟩,
    ⟨(on).upd .A (fun l => l.keepRecord ⟨9, 20, 6, 0, 0, false⟩), .A, MSG, ⟨9, 20, 6, 0, 0, false⟩, by decide +kernel⟩,
    ⟨on, .A, MSG, by decide +kernel⟩⟩

/-- States and operands that meet the hypotheses of `Obligations.TransfersLocksAndMailbox`, clause by clause. -/
theorem witness_TransfersLocksAndMailbox :
    (∃ (s : State) (x : LaneId) (m : MsgFrame), Canon s ∧ (s.lane x).ready = true ∧ m.kind = 3 ∧ msgOk m = true ∧
      isWriteOp m.op.toNat = true ∧ s.reachesSession x = true ∧ 16 ≤ m.session.toNat ∧ m.session.toNat < 128 ∧
      s.answers (s.session m.session.toNat) m = true ∧ (s.session m.session.toNat).isNew m = true ∧ m.offset.toNat ≤
      (s.session m.session.toNat).length) ∧
    (∃ (s : State) (x : LaneId) (m : MsgFrame) (b : Transfer), (s.lane x).ready = true ∧ m.kind = 3 ∧ msgOk m = true ∧
      isWriteOp m.op.toNat = false ∧ (s.lane x).buffer m.srcUid.toNat m.session.toNat = some b ∧ b.transaction =
      m.transaction.toNat ∧ b.write = false ∧ b.data.length ≤ m.offset.toNat) ∧
    (∃ (s : State) (x : LaneId) (m : MsgFrame), (s.lane x).ready = true ∧ m.kind = 3 ∧ msgOk m = true ∧ isWriteOp
      m.op.toNat = false ∧ (s.lane x).buffer m.srcUid.toNat m.session.toNat = none) ∧
    (∃ (s : State) (x : LaneId) (u : BitVec 64) (n : BitVec 16) (b : Transfer), s.holder = some x ∧ u ≠ 0 ∧ u.toNat ≠
      s.uid ∧ (s.lane x).buffer u.toNat n.toNat = some b ∧ b.write = true ∧ b.parts ≠ []) ∧
    (∃ (s : State) (x : LaneId) (u : BitVec 64) (n : BitVec 16), u.toNat ≠ s.uid ∧ (s.lane x).buffer u.toNat n.toNat =
      none) ∧
    (∃ (s : State) (x : LaneId) (u : BitVec 64) (n : BitVec 16) (b : Transfer), (s.lane x).ready = true ∧ (s.lane
      x).buffer u.toNat n.toNat = some b ∧ b.uid ≠ 0 ∧ b.write = true ∧ b.data.length = b.length) ∧
    (∃ (s : State) (x : LaneId) (u : BitVec 64) (n : BitVec 16) (b : Transfer), (s.lane x).buffer u.toNat n.toNat =
      some b ∧ b.data.length ≠ b.length) ∧
    (∃ (s : State) (x : LaneId) (m : MsgFrame) (b : Transfer), (s.lane x).ready = true ∧ m.kind = 4 ∧ msgOk m = true ∧
      (s.lane x).buffer m.srcUid.toNat m.session.toNat = some b ∧ b.transaction = m.transaction.toNat) ∧
    (∃ (s : State) (x : LaneId) (m : MsgFrame), (s.lane x).ready = true ∧ m.kind = 4 ∧ msgOk m = true ∧ (s.lane
      x).buffer m.srcUid.toNat m.session.toNat = none) ∧
    (∃ (s : State) (x : LaneId) (m : MsgFrame), s.holder = some x ∧ m.session.toNat < 128 ∧ m.selection = 0 ∧
      m.target.toNat = s.uid ∧ m.data ≠ [] ∧ m.data.length ≤ 4096 ∧ m.object.toNat < 65536 ∧ (s.lane x).answerRec
      m.srcUid.toNat m.session.toNat = none ∧ (s.lane x).msg.records.length < 1024 ∧ (s.lane x).buffer m.srcUid.toNat
      m.session.toNat = none ∧ (s.lane x).isFreed m.srcUid.toNat m.session.toNat m.transaction.toNat = false ∧ (s.lane
      x).get 0x390400 ≠ 0 ∧ (s.lane x).msg.mail.length < 64 ∧ (s.lane x).mailBytes + m.data.length ≤ 65536) ∧
    (∃ (s : State) (x : LaneId), s.hostOn = true ∧ s.awake = true ∧ s.holder = some x ∧ (s.lane x).reached = true) ∧
    (∃ (s : State) (v : BitVec 32), s.hostOn = true ∧ s.awake = true ∧ s.holder ≠ none ∧ 1 < v.toNat) ∧
    (∃ (s : State) (x : LaneId) (m : Mail) (rest : List Mail), s.hostOn = true ∧ s.awake = true ∧ s.holder = some x ∧
      (s.lane x).msg.mail = m :: rest) ∧
    (∃ (s : State), s.hostOn = true ∧ s.awake = true ∧ s.holder = none) ∧
    (∃ (s : State), s.hostOn = false) :=
  ⟨⟨(on).upd .A (fun l => l.updSession 20 (fun k =>
      { k with state := 2, transaction := 5, op := 4, target := 9, length := 4 })), .A,
      { MSG with kind := 3, data := [], offset := 3 }, by decide +kernel⟩,
    ⟨(fun (b : Transfer) => (on).upd .A (fun l => l.holdBuffer b)) ({ TR with write := false, op := 3 }), .A,
      { MSG with kind := 3, op := 3, data := [], offset := 4 }, { TR with write := false, op := 3 },
      by decide +kernel⟩,
    ⟨on, .A, { MSG with kind := 3, op := 3, data := [] }, by decide +kernel⟩,
    ⟨(fun (b : Transfer) => (on).upd .A (fun l => l.holdBuffer b)) ({ TR with parts := [(8, [1])] }), .A, 9, 20,
      { TR with parts := [(8, [1])] }, by decide +kernel⟩,
    ⟨on, .A, 9, 1, by decide +kernel⟩,
    ⟨(fun (b : Transfer) => (on).upd .A (fun l => l.holdBuffer b)) TR, .A, 9, 20, TR, by decide +kernel⟩,
    ⟨(fun (b : Transfer) => (on).upd .A (fun l => l.holdBuffer b)) ({ TR with length := 9 }), .A, 9, 20,
      { TR with length := 9 }, by decide +kernel⟩,
    ⟨(fun (b : Transfer) => (on).upd .A (fun l => l.holdBuffer b)) TR, .A, { MSG with kind := 4, data := [] }, TR,
      by decide +kernel⟩,
    ⟨on, .A, { MSG with kind := 4, data := [] }, by decide +kernel⟩,
    ⟨(on).put .A 0x390400 1, .A, MSG, by decide +kernel⟩,
    ⟨on, .A, by decide +kernel⟩,
    ⟨on, 2, by decide +kernel⟩,
    ⟨(fun (x : LaneId) (m : Mail) (rest : List Mail) => (on).upd x (fun l => { l with msg.mail := m :: rest })) .A
      (⟨1, 2, 9, 5, [1, 2], 20, 7⟩) ([]), .A, ⟨1, 2, 9, 5, [1, 2], 20, 7⟩, [], by decide +kernel⟩,
    ⟨idle, by decide +kernel⟩,
    ⟨(fun s : State => ({ s with keeper.hvio := false } : State)) (on), by decide +kernel⟩⟩

/-- States and operands that meet the hypotheses of `Obligations.HostRequests`, clause by clause. -/
theorem witness_HostRequests :
    (∃ (s : State), s.host.held.isSome = true) ∧
    (∃ (s : State), s.hostOn = false) ∧
    (∃ (s : State) (op : Byte) (count : Byte) (addr : BitVec 32) (check : BitVec 16), Canon s ∧ s.hostOn = true ∧
      s.host.held = none ∧ s.frameOk ⟨op.toNat, addr.toNat, count.toNat, []⟩ check.toNat = false ∧
      (s.host.rejects.filter (fun t => decide (s.clock < t + 1000000000))).length < 15) ∧
    (∃ (s : State) (op : Byte) (count : Byte) (addr : BitVec 32) (check : BitVec 16), Canon s ∧ s.hostOn = true ∧
      s.host.held = none ∧ s.frameOk ⟨op.toNat, addr.toNat, count.toNat, []⟩ check.toNat = false ∧ 15 ≤
      (s.host.rejects.filter (fun t => decide (s.clock < t + 1000000000))).length ∧ s.sourceLevel .module 134 ≤ 2 ∧
      s.sourceCeiling .module 134 ≤ 2) ∧
    (∃ (r : HostReq) (check : Nat), crc16 r.bytes ≠ check) ∧
    (∃ (s : State) (addr : BitVec 32) (count : Byte) (check : BitVec 16), Canon s ∧ s.hostOn = true ∧ s.host.held =
      none ∧ s.frameOk ⟨1, addr.toNat, count.toNat, []⟩ check.toNat = true ∧ pathOf addr.toNat = 16 ∧ s.region
      addr.toNat ≠ none) ∧
    (∃ (s : State) (addr : BitVec 32) (count : Byte) (check : BitVec 16), Canon s ∧ s.hostOn = true ∧ s.host.held =
      none ∧ s.frameOk ⟨1, addr.toNat, count.toNat, []⟩ check.toNat = true ∧ pathOf addr.toNat = 16 ∧ s.region
      addr.toNat = none) ∧
    (∃ (s : State) (addr : BitVec 32) (count : Byte) (d : List (BitVec 32)) (check : BitVec 16), Canon s ∧ s.hostOn =
      true ∧ s.host.held = none ∧ s.frameOk ⟨2, addr.toNat, count.toNat, wordList d⟩ check.toNat = true ∧ pathOf
      addr.toNat = 16 ∧ (s.region addr.toNat).map Prod.fst ≠ some .timebase ∧ s.postRoom ⟨2, addr.toNat, count.toNat,
      wordList d⟩ = true ∧ d.length = count.toNat + 1 ∧ s.wordsInside ⟨2, addr.toNat, count.toNat, wordList d⟩ =
      count.toNat + 1) ∧
    (∃ (s : State) (addr : BitVec 32) (v : BitVec 32) (count : Byte) (check : BitVec 16), Canon s ∧ s.hostOn = true ∧
      s.host.held = none ∧ s.frameOk ⟨4, addr.toNat, count.toNat, [v.toNat]⟩ check.toNat = true ∧ pathOf addr.toNat =
      16 ∧ s.postRoom ⟨4, addr.toNat, count.toNat, [v.toNat]⟩ = true ∧ s.wordsInside ⟨4, addr.toNat, count.toNat,
      [v.toNat]⟩ = 1) ∧
    (∃ (s : State) (addr : BitVec 32) (count : Byte) (d : List (BitVec 32)) (check : BitVec 16), Canon s ∧ s.hostOn =
      true ∧ s.host.held = none ∧ s.frameOk ⟨3, addr.toNat, count.toNat, wordList d⟩ check.toNat = true ∧ pathOf
      addr.toNat = 16 ∧ s.region addr.toNat ≠ none) ∧
    (∃ (s : State) (addr : BitVec 32) (count : Byte) (d : List (BitVec 32)) (check : BitVec 16), Canon s ∧ s.hostOn =
      true ∧ s.host.held = none ∧ s.frameOk ⟨6, addr.toNat, count.toNat, wordList d⟩ check.toNat = true ∧ pathOf
      addr.toNat = 16 ∧ s.region addr.toNat ≠ none) ∧
    (∃ (s : State) (addr : BitVec 32) (count : Byte) (check : BitVec 16), Canon s ∧ s.hostOn = true ∧ s.host.held =
      none ∧ s.frameOk ⟨5, addr.toNat, count.toNat, []⟩ check.toNat = true ∧ pathOf addr.toNat = 16 ∧ s.region
      addr.toNat ≠ none) ∧
    (∃ (s : State) (addr : BitVec 32) (count : Byte) (check : BitVec 16), Canon s ∧ s.hostOn = true ∧ s.host.held =
      none ∧ s.frameOk ⟨7, addr.toNat, count.toNat, []⟩ check.toNat = true ∧ pathOf addr.toNat = 16 ∧ s.region
      addr.toNat ≠ none) ∧
    (∃ (s : State) (check : BitVec 16), Canon s ∧ s.hostOn = true ∧ s.host.held = none ∧ s.frameOk ⟨8, 0, 0, []⟩
      check.toNat = true) :=
  ⟨⟨(fun s : State => ({ s with host.held := some ⟨8, 0, 0, []⟩ } : State)) (on), by decide +kernel⟩,
    ⟨(fun s : State => ({ s with keeper.hvio := false } : State)) (on), by decide +kernel⟩,
    ⟨(fun s : State => ({ s with host.held := none } : State)) (on), 1, 1, 1, 1, by decide +kernel⟩,
    ⟨(fun s : State => ({ s with host.rejects := List.replicate 15 s.clock } : State)) ((fun s : State =>
      ({ s with host.held := none } : State)) (on)), 1, 1, 1, 1, by decide +kernel⟩,
    ⟨⟨1, 0, 0, []⟩, 0, by decide +kernel⟩,
    ⟨(fun s : State => ({ s with host.held := none } : State)) (on), 0x10000000, 1, checkOf ⟨1, 0x10000000, 1, []⟩,
      by decide +kernel⟩,
    ⟨(fun s : State => ({ s with host.held := none } : State)) (on), 0x50000000, 1, checkOf ⟨1, 0x50000000, 1, []⟩,
      by decide +kernel⟩,
    ⟨(fun s : State => ({ s with host.held := none } : State)) (on), 0x10000000, 1, [5, 6], checkOf ⟨2, 0x10000000, 1,
      [5, 6]⟩, by decide +kernel⟩,
    ⟨(fun s : State => ({ s with host.held := none } : State)) (on), 0x10000000, 5, 1, checkOf ⟨4, 0x10000000, 1,
      [5]⟩, by decide +kernel⟩,
    ⟨(fun s : State => ({ s with host.held := none } : State)) (on), 0x10000000, 1, [5, 6], checkOf ⟨3, 0x10000000, 1,
      [5, 6]⟩, by decide +kernel⟩,
    ⟨(fun s : State => ({ s with host.held := none } : State)) (on), 0x10000000, 1, [5, 6], checkOf ⟨6, 0x10000000, 1,
      [5, 6]⟩, by decide +kernel⟩,
    ⟨(fun s : State => ({ s with host.held := none } : State)) (on), 0x10000000, 1, checkOf ⟨5, 0x10000000, 1, []⟩,
      by decide +kernel⟩,
    ⟨(fun s : State => ({ s with host.held := none } : State)) (on), 0x10000000, 1, checkOf ⟨7, 0x10000000, 1, []⟩,
      by decide +kernel⟩,
    ⟨(fun s : State => ({ s with host.held := none } : State)) (on), checkOf ⟨8, 0, 0, []⟩, by decide +kernel⟩⟩

/-- States and operands that meet the hypotheses of `Obligations.HostAccesses`, clause by clause. -/
theorem witness_HostAccesses :
    (∃ (s : State), s.host.held = none) ∧
    (∃ (s : State), s.awake = true ∧ s.keeper.hvio = true ∧ s.host.held = some ⟨1, 0x9640010, 0, []⟩ ∧ s.firstOf 16 =
      none ∧ s.mget 0x590004 < 2 ^ 32) ∧
    (∃ (s : State) (x : LaneId) (o : Nat) (v : Nat), Canon s ∧ s.holder = some x ∧ o % 4 = 0 ∧ o + 4 ≤ 0x100000 ∧ v <
      2 ^ 32 ∧ s.firstOf 16 = some ⟨2, 0x10000000 + o, 0, [v]⟩ ∧ (s.lane x).reached = true) ∧
    (∃ (s : State), s.firstOf 16 = none) ∧
    (∃ (s : State), s.host.held = some ⟨8, 0, 0, []⟩ ∧ s.host.posted = []) ∧
    (∃ (s : State), s.host.held = some ⟨8, 0, 0, []⟩ ∧ s.host.posted ≠ []) ∧
    (∃ (s : State) (r : HostReq), s.firstOf 17 = some r) ∧
    (∃ (s : State), s.firstOf 17 = none ∧ s.host.held = some ⟨8, 0, 0, []⟩) ∧
    (∃ (s : State) (r : HostReq), s.host.held = some r ∧ pathOf r.addr = 16 ∧ s.waitsHolder r = true ∧ s.firstOf 16 =
      none) ∧
    (∃ (s : State) (r : HostReq), s.host.held = some r ∧ s.waitsHolder r = false ∧ s.firstOf 16 = none) ∧
    (∃ (s : State) (r : HostReq), s.firstOf 16 = some r ∧ r.op = 1 ∧ s.waitsHolder r = true) ∧
    (∃ (s : State), s.hostOn = false) ∧
    (∃ (s : State), s.hostOn = true ∧ s.host.held = none) ∧
    (∃ (s : State) (r : HostReq), s.hostOn = true ∧ s.host.held = some r ∧ pathOf r.addr = 16 ∧ r.op ≠ 8 ∧
      s.host.posted = []) ∧
    (∃ (s : State) (a : Sys2Proof.Acc) (c : Fin 16) (len : BitVec 32) (i : Nat) (u : Nat) (sel : Sel), ReachesModule s
      a 1 ∧ s.binding c.val = (i, u, sel) ∧ bindsOctets i u = true ∧ 1 ≤ len.toNat ∧ len.toNat ≤ octetsMax i u ∧
      len.toNat ≤ 65536) ∧
    (∃ (s : State) (a : Sys2Proof.Acc) (c : Fin 16) (len : BitVec 32) (i : Nat) (u : Nat) (sel : Sel), ReachesModule s
      a 1 ∧ s.binding c.val = (i, u, sel) ∧ bindsOctets i u = false ∧ 1 ≤ len.toNat ∧ len.toNat ≤ 65536) ∧
    (∃ (s : State), Canon s ∧ s.hostOn = true) ∧
    (∃ (s : State), Canon s ∧ s.hostOn = true ∧ 1 ≤ s.role .host ∧ s.mget 0x590002 < 2 ^ 32 ∧ s.mget 0x580001 = 0) :=
  ⟨⟨(fun s : State => ({ s with host.held := none } : State)) (on), by decide +kernel⟩,
    ⟨(fun s : State => ({ s with host.held := some ⟨1, 0x9640010, 0, []⟩ } : State)) ((fun s : State =>
      ({ s with keeper.hvio := true } : State)) (on)), by decide +kernel⟩,
    ⟨(fun (o : Nat) (v : Nat) => (fun s : State => ({ s with host.posted := [(16, ⟨2, 0x10000000 + o, 0, [v]⟩)] } :
      State)) (on)) 8 77, .A, 8, 77, by decide +kernel⟩,
    ⟨on, by decide +kernel⟩,
    ⟨(fun s : State => ({ s with host.posted := [] } : State)) ((fun s : State =>
      ({ s with host.held := some ⟨8, 0, 0, []⟩ } : State)) (on)), by decide +kernel⟩,
    ⟨(fun s : State => ({ s with host.posted := [(16, ⟨2, 0x10000000, 0, [1]⟩)] } : State)) ((fun s : State =>
      ({ s with host.held := some ⟨8, 0, 0, []⟩ } : State)) (on)), by decide +kernel⟩,
    ⟨(fun s : State => ({ s with host.posted := [(17, ⟨8, 0, 0, []⟩)] } : State)) (on), ⟨8, 0, 0, []⟩,
      by decide +kernel⟩,
    ⟨(fun s : State => ({ s with host.held := some ⟨8, 0, 0, []⟩ } : State)) (on), by decide +kernel⟩,
    ⟨(fun (r : HostReq) => (fun s : State => ({ s with laneB := lane .asleep } : State)) ((fun s : State =>
      ({ s with host.held := some r } : State)) (idle))) (⟨1, 0x10000000, 0, []⟩), ⟨1, 0x10000000, 0, []⟩,
      by decide +kernel⟩,
    ⟨(fun (r : HostReq) => (fun s : State => ({ s with host.held := some r } : State)) (on)) (⟨1, 0x10000000, 0, []⟩),
      ⟨1, 0x10000000, 0, []⟩, by decide +kernel⟩,
    ⟨(fun (r : HostReq) => (fun s : State => ({ s with host.posted := [(16, r)] } : State)) (idle)) (⟨1, 0x10000000,
      0, []⟩), ⟨1, 0x10000000, 0, []⟩, by decide +kernel⟩,
    ⟨(fun s : State => ({ s with keeper.hvio := false } : State)) (on), by decide +kernel⟩,
    ⟨(fun s : State => ({ s with host.held := none } : State)) (on), by decide +kernel⟩,
    ⟨(fun (r : HostReq) => (fun s : State => ({ s with host.posted := [] } : State)) ((fun s : State =>
      ({ s with host.held := some r } : State)) (on))) (⟨1, 0x10000000, 0, []⟩), ⟨1, 0x10000000, 0, []⟩,
      by decide +kernel⟩,
    ⟨(on).mput (key 0x5900 16) 0x16300200, ⟨.service 0, .acting⟩, 0, 1, 0x1630, 2, .acting, by decide +kernel⟩,
    ⟨(on).mput (key 0x5900 16) 0x10000000, ⟨.service 0, .acting⟩, 0, 1, 0x1000, 0, .acting, by decide +kernel⟩,
    ⟨on, by decide +kernel⟩,
    ⟨(on).mput 0x580001 (0), by decide +kernel⟩⟩

/-- States and operands that meet the hypotheses of `Obligations.RemoteWindowsAndModuleReset`, clause by clause. -/
theorem witness_RemoteWindowsAndModuleReset :
    (∃ (s : State) (w : Fin 16), (s.win w.val).active.isSome = true) ∧
    (∃ (s : State) (w : Fin 16) (x : LaneId) (d : DirEntry) (off : Nat) (count : Nat), Canon s ∧ s.host.held = some
      ⟨1, 0x20000000 + w.val * 0x1000000 + off, count, []⟩ ∧ off < 0x100000 ∧ s.win w.val = .idle ∧ s.firstOf w.val =
      none ∧ s.mget (winKey w.val 6) ≠ 1 ∧ s.mget (winKey w.val 2) ≠ 1 ∧ s.holder = some x ∧ (s.lane
      x).roll.directory.find? (fun d => decide (d.uid.toNat = s.mget (winKey w.val 3))) = some d) ∧
    (∃ (s : State) (w : Fin 16) (x : LaneId) (d : DirEntry) (off : Nat) (count : Nat), Canon s ∧ s.host.held = some
      ⟨5, 0x20000000 + w.val * 0x1000000 + off, count, []⟩ ∧ off < 0x100000 ∧ s.win w.val = .idle ∧ s.firstOf w.val =
      none ∧ s.mget (winKey w.val 6) ≠ 1 ∧ s.mget (winKey w.val 2) ≠ 1 ∧ s.holder = some x ∧ (s.lane
      x).roll.directory.find? (fun d => decide (d.uid.toNat = s.mget (winKey w.val 3))) = some d) ∧
    (∃ (s : State) (w : Fin 16) (x : LaneId) (d : DirEntry) (off : Nat) (count : Nat) (v : BitVec 32), Canon s ∧
      s.firstOf w.val = some ⟨2, 0x20000000 + w.val * 0x1000000 + off, count, [v.toNat]⟩ ∧ off < 0x100000 ∧ s.win
      w.val = .idle ∧ s.mget (winKey w.val 6) ≠ 1 ∧ s.mget (winKey w.val 2) ≠ 1 ∧ s.holder = some x ∧ (s.lane
      x).roll.directory.find? (fun d => decide (d.uid.toNat = s.mget (winKey w.val 3))) = some d) ∧
    (∃ (s : State) (w : Fin 16) (r : HostReq), Canon s ∧ (s.win w.val).active = some r ∧ (s.win w.val).posted = false
      ∧ (s.session w.val).isOpen = true ∧ s.keeper.hvio = true) ∧
    (∃ (s : State) (w : Fin 16) (r : HostReq), Canon s ∧ (s.win w.val).active = some r ∧ (s.win w.val).posted = true ∧
      (s.session w.val).isOpen = true) ∧
    (∃ (s : State) (w : Fin 16), s.host.held = none ∧ (s.win w.val).active = none) ∧
    (∃ (s : State) (w : Fin 16), (s.win w.val).lastRead = none) ∧
    (∃ (s : State) (w : Fin 16), s.mget (winKey w.val 9) ≠ 1) ∧
    (∃ (s : State) (w : Fin 16) (x : LaneId) (d : DirEntry) (off : Nat) (n : Nat), Canon s ∧ (s.win w.val).lastRead =
      some (off, n) ∧ (s.win w.val).active = none ∧ (s.win w.val).prefetching = none ∧ s.mget (winKey w.val 9) = 1 ∧
      s.mget (winKey w.val 1) = 1 ∧ s.mget (winKey w.val 6) ≠ 1 ∧ s.mget (winKey w.val 2) ≠ 1 ∧ off + 4 * n < 0x100000
      ∧ s.holder = some x ∧ (s.lane x).roll.directory.find? (fun d => decide (d.uid.toNat = s.mget (winKey w.val 3)))
      = some d) ∧
    (∃ (s : State), Canon s) ∧
    (∃ (s : State), s.awake = false) ∧
    (∃ (s : State), s.keeper.hvio = false) ∧
    (∃ (s : State), Canon s ∧ s.awake = true ∧ s.keeper.hvio = true ∧ s.keeper.hrstLow = false) ∧
    (∃ (s : State), s.keeper.hrstLow = false) ∧
    (∃ (s : State), s.awake = false) ∧
    (∃ (s : State), Canon s ∧ s.keeper.hrstLow = true ∧ s.keeper.hvio = true ∧ s.awake = true) :=
  ⟨⟨(fun s : State => ({ s with host.wins := [(0, { Win.idle with active := some ⟨1, 0x20000000, 0, []⟩ })] } :
      State)) (on), 0, by decide +kernel⟩,
    ⟨(fun (w : Fin 16) (d : DirEntry) (off : Nat) (count : Nat) => (((fun s : State =>
      ({ s with host.held := some ⟨1, 0x20000000 + w.val * 0x1000000 + off, count, []⟩ } : State)) (on)).mput (winKey
      0 3) 9).upd .A (fun l => { l with roll.directory := [d] })) 0 (member 2 9) 16 1, 0, .A, member 2 9, 16, 1,
      by decide +kernel⟩,
    ⟨(fun (w : Fin 16) (d : DirEntry) (off : Nat) (count : Nat) => (((fun s : State =>
      ({ s with host.held := some ⟨5, 0x20000000 + w.val * 0x1000000 + off, count, []⟩ } : State)) (on)).mput (winKey
      0 3) 9).upd .A (fun l => { l with roll.directory := [d] })) 0 (member 2 9) 16 1, 0, .A, member 2 9, 16, 1,
      by decide +kernel⟩,
    ⟨(fun (d : DirEntry) (v : BitVec 32) => (fun s : State =>
      ({ s with host.posted := [(0, ⟨2, 0x20000000 + 16, 1, [v.toNat]⟩)] } : State)) (((on).mput (winKey 0 3) 9).upd
      .A (fun l => { l with roll.directory := [d] }))) (member 2 9) 1, 0, .A, member 2 9, 16, 1, 1, by decide +kernel⟩,
    ⟨((fun s : State =>
      ({ s with host.wins := [(0, { Win.idle with active := some ⟨1, 0x20000000, 0, []⟩ })], host.held := some ⟨1, 0x20000000, 0, []⟩ }
      : State)) ((fun s : State => ({ s with keeper.hvio := true } : State)) (on))).upd .A (fun l => l.updSession 0
      (fun k => { k with state := 2 })), 0, ⟨1, 0x20000000, 0, []⟩, by decide +kernel⟩,
    ⟨((fun s : State =>
      ({ s with host.wins := [(0, { Win.idle with active := some ⟨2, 0x20000000, 0, [1]⟩, posted := true })] } :
      State)) (on)).upd .A (fun l => l.updSession 0 (fun k => { k with state := 2 })), 0, ⟨2, 0x20000000, 0, [1]⟩,
      by decide +kernel⟩,
    ⟨(fun s : State => ({ s with host.held := none } : State)) (on), 0, by decide +kernel⟩,
    ⟨on, 0, by decide +kernel⟩,
    ⟨on, 0, by decide +kernel⟩,
    ⟨(fun (w : Fin 16) (d : DirEntry) => (fun s : State =>
      ({ s with host.wins := [(0, { Win.idle with lastRead := some (16, 2) })] } : State)) (((((((on).mput (winKey
      w.val 9) (1)).mput (winKey w.val 1) (1)).mput (winKey 0 3) 9).upd .A (fun l =>
      { l with roll.directory := [d] })).mput (winKey 0 9) 1).mput (winKey 0 1) 1)) 0 (member 2 9), 0, .A, member 2 9,
      16, 2, by decide +kernel⟩,
    ⟨on, by decide +kernel⟩,
    ⟨(fun s : State => ({ s with keeper.phase := .standby } : State)) (on), by decide +kernel⟩,
    ⟨(fun s : State => ({ s with keeper.hvio := false } : State)) (on), by decide +kernel⟩,
    ⟨(fun s : State => ({ s with keeper.hrstLow := false } : State)) ((fun s : State =>
      ({ s with keeper.hvio := true } : State)) (on)), by decide +kernel⟩,
    ⟨(fun s : State => ({ s with keeper.hrstLow := false } : State)) (on), by decide +kernel⟩,
    ⟨(fun s : State => ({ s with keeper.phase := .standby } : State)) (on), by decide +kernel⟩,
    ⟨(fun s : State => ({ s with keeper.hvio := true } : State)) ((fun s : State => ({ s with keeper.hrstLow := true }
      : State)) (on)), by decide +kernel⟩⟩

/-- States and operands that meet the hypotheses of `Obligations.ServicePort`, clause by clause. -/
theorem witness_ServicePort :
    (∃ (s : State), s.keeper.serviceLink = false) ∧
    (∃ (s : State) (b : List Byte), s.awake = true ∧ s.keeper.serviceLink = true ∧ s.serviceFrameOk ⟨b, .good, ⟨0, 0,
      0⟩⟩ = false) ∧
    (∃ (s : State) (b : List Byte) (r : Nat), s.awake = true ∧ s.keeper.serviceLink = true ∧ s.serviceFrameOk ⟨b,
      .good, ⟨0, 0, 0⟩⟩ = true ∧ (s.service (LineFrame.mk b .good ⟨0, 0, 0⟩).number).role = some r ∧ (s.service
      (LineFrame.mk b .good ⟨0, 0, 0⟩).number).passes ⟨b, .good, ⟨0, 0, 0⟩⟩ = false) ∧
    (∃ (s : State) (b : List Byte) (x : LaneId), Canon s ∧ s.awake = true ∧ s.keeper.serviceLink = true ∧
      s.serviceFrameOk ⟨b, .good, ⟨0, 0, 0⟩⟩ = true ∧ (s.service (LineFrame.mk b .good ⟨0, 0, 0⟩).number).role = none
      ∧ (serviceMsg ⟨b, .good, ⟨0, 0, 0⟩⟩).kind = 1 ∧ (serviceMsg ⟨b, .good, ⟨0, 0, 0⟩⟩).op = 0x30 ∧ (serviceMsg ⟨b,
      .good, ⟨0, 0, 0⟩⟩).selection.toNat / 64 ≠ 3 ∧ s.sec.serviceLocked = false ∧ s.sec.sessions.length = 4 ∧ s.mget
      0x700401 < 1000 ∧ s.holder = some x) ∧
    (∃ (s : State), s.serviceReady = true ∧ s.sec.serviceLocked = false ∧ s.sec.sessions.length = 4) ∧
    (∃ (s : State), s.serviceReady = true ∧ s.sec.serviceLocked = true) ∧
    (∃ (s : State), s.serviceReady = false) ∧
    (∃ (s : State) (n : Fin 4) (d : List Byte) (k : List Byte) (v : Nat), s.serviceReady = true ∧ s.sec.serviceLocked
      = false ∧ d.length = 33 ∧ s.sec.sessions.length = 4 ∧ (s.service n.val).challenge = some v ∧ s.sec.keyFor true
      (numAt d 0 1) = some k ∧ (hmac128 k (proofText (toBytes 16 v) (slice d 1 16) s.uid (numAt d 0 1))).toNat = numAt
      d 17 16) ∧
    (∃ (s : State) (n : Fin 4) (d : List Byte), Canon s ∧ s.serviceReady = true ∧ s.sec.serviceLocked = false ∧
      d.length = 33 ∧ (s.service n.val).challenge = none ∧ s.mget 0x160200 < 1000) ∧
    (∃ (s : State) (n : Nat), (30000 ≤ (s.service n).framesIn ∨ 30000 ≤ (s.service n).framesOut)) ∧
    (∃ (s : State) (n : Nat), (s.service n).framesIn < 30000 ∧ (s.service n).framesOut < 30000) ∧
    (∃ (s : State), s.awake = true) :=
  ⟨⟨(fun s : State => ({ s with keeper.serviceLink := false } : State)) (on), by decide +kernel⟩,
    ⟨(fun s : State => ({ s with keeper.serviceLink := true } : State)) (on), [], by decide +kernel⟩,
    ⟨(fun s : State => ({ s with keeper.serviceLink := true } : State)) (on), svc 0 1 (svcAsk 2 []), 3,
      by decide +kernel⟩,
    ⟨(fun s : State => ({ s with sec.serviceLocked := false } : State)) ((fun s : State =>
      ({ s with keeper.serviceLink := true } : State)) (on)), svc 1 1 (svcAsk 0x30 []), .A, by decide +kernel⟩,
    ⟨(fun s : State => ({ s with sec.serviceLocked := false } : State)) (on), by decide +kernel⟩,
    ⟨(fun s : State => ({ s with sec.serviceLocked := true } : State)) (on), by decide +kernel⟩,
    ⟨(fun s : State => ({ s with keeper.serviceLink := false } : State)) (on), by decide +kernel⟩,
    ⟨(fun s : State =>
      ({ s with sec.sessions := s.sec.sessions.set 1 { ServiceSession.reset with challenge := some 7 } } : State))
      ((fun s : State => ({ s with sec.serviceLocked := false } : State)) (on)), 1, [2] ++ List.replicate 16 0 ++
      toBytes 16 (hmac128 (List.replicate 16 0) (proofText (toBytes 16 7) (List.replicate 16 0) State.reset.uid
      2)).toNat, List.replicate 16 0, 7, by decide +kernel⟩,
    ⟨(fun s : State => ({ s with sec.serviceLocked := false } : State)) (on), 1, List.replicate 33 1,
      by decide +kernel⟩,
    ⟨(fun s : State =>
      ({ s with sec.sessions := [{ ServiceSession.reset with role := some 1, framesIn := 30000 }, .reset, .reset, .reset] }
      : State)) (on), 0, by decide +kernel⟩,
    ⟨on, 1, by decide +kernel⟩,
    ⟨on, by decide +kernel⟩⟩

/-- States and operands that meet the hypotheses of `Obligations.StepRunsFront`, clause by clause. -/
theorem witness_StepRunsFront :
    (∃ (c : Instr) (rest : List Instr) (s : State), s.pending = c :: rest) ∧
    (∃ s : State, s.pending = []) :=
  ⟨⟨.presSClose, [], on.push .presSClose, rfl⟩,
    ⟨on, rfl⟩⟩

/-- States and operands that meet the hypotheses of `Obligations.ResetState`, clause by clause. -/
theorem witness_ResetState :
    (∃ k : Nat, k ≠ 0x150100 ∧ k ≠ 0x150200) :=
  ⟨0, by decide⟩

/-- States and operands that meet the hypotheses of `Obligations.TablesReadAfterWrite`, clause by clause. -/
theorem witness_TablesReadAfterWrite :
    (∃ l : LaneState, tabCanon regDefault l.reg = true) ∧
    (∃ (s : State) (j k : Nat), tabCanon regDefault s.mreg = true ∧ j ≠ k) ∧
    (∃ t : List (Nat × Byte), tabCanon (fun _ => (0 : Byte)) t = true) ∧
    (∃ t u : List (Nat × Nat), tabCanon regDefault t = true ∧ tabCanon regDefault u = true ∧       ∀ k, tabGet
      regDefault k t = tabGet regDefault k u) :=
  ⟨⟨(on.put .A 0x110300 1).laneA, by decide +kernel⟩,
    ⟨on.mput 0x100800 3, 1, 2, by decide +kernel⟩,
    ⟨[(5, 1)], by decide⟩,
    ⟨[], [], by decide, by decide, fun _ => rfl⟩⟩

/-- States and operands that meet the hypotheses of `Obligations.StepKeepsCanon`, clause by clause. -/
theorem witness_StepKeepsCanon :
    (∃ s t : State, Canon s ∧ step s = .next t) :=
  ⟨on.push .presSClose, { on with keeper := { on.keeper with presClosed := true } }, by decide +kernel, rfl⟩

/-- States and operands that meet the hypotheses of `Obligations.StepKeepsIdentity`, clause by clause. -/
theorem witness_StepKeepsIdentity :
    (∃ s t : State, step s = .next t) :=
  ⟨on.push .presSClose, { on with keeper := { on.keeper with presClosed := true } }, rfl⟩

/-- States and operands that meet the hypotheses of `Obligations.PossessionOnlyByGrant`, clause by clause. -/
theorem witness_PossessionOnlyByGrant :
    (∃ (c : Instr) (s t : State) (x : LaneId), exec c s = .next t ∧ (t.lane x).mode = .possession) :=
  ⟨.presSClose, on, { on with keeper := { on.keeper with presClosed := true } }, .A, rfl, by decide⟩

/-- States and operands that meet the hypotheses of `Obligations.LogOnlyGrows`, clause by clause. -/
theorem witness_LogOnlyGrows :
    (∃ (c : Instr) (s t : State) (x : LaneId), exec c s = .next t ∧ (∀ bad ok, c ≠ .clearDone x bad ok) ∧ (∀ scan, c ≠
      .laneReady x scan) ∧ c ≠ .recorderMemoryFailed x 4) ∧
    (∃ (c : Instr) (s t : State) (x : LaneId) (i : Nat) (r : Slot), exec c s = .next t ∧ (∀ bad ok, c ≠ .clearDone x
      bad ok) ∧ (s.lane x).log.slots[i]? = some r) :=
  ⟨⟨.presSClose, on, { on with keeper := { on.keeper with presClosed := true } }, .A, rfl, fun _ _ => nofun, fun _ =>
      nofun, nofun⟩,
    ⟨.presSClose, on.upd .A (fun l => { l with log.slots := [.bad] }),
      { on.upd .A (fun l => { l with log.slots := [.bad] }) with keeper := { on.keeper with presClosed := true } },
      .A, 0, .bad, rfl, fun _ _ => nofun, rfl⟩⟩

/-- States and operands that meet the hypotheses of `Obligations.QuietReactionFrame`, clause by clause. -/
theorem witness_QuietReactionFrame :
    (∃ (s : State) (x : LaneId) (n : Nat), Canon s ∧ Quiet s x n) :=
  ⟨(on.put .A (key 0x1413 1) 1).put .A (key 0x1413 2) 2, .A, 3, by decide +kernel⟩

end Sys2Proof.Tests
end

namespace Sys2Proof.Machine

/-! ### Firmware images (R493) -/

/-- An access that reaches a lane is not held back by a host link that takes no inputs (R19, R400). -/
theorem State.through_of_reaches {s : State} {a : Acc} {role : Nat} {x : LaneId} (h : Reaches s a role x) (t : State) :
    s.through a t = t := by
  obtain ⟨-, -, -, hhost⟩ := h
  have hpass : (a.path == .host && !s.hostOn) = false := by
    by_cases hp : a.path = .host
    · simp [hhost hp]
    · simp [hp]
  simp [State.through, hpass]

/-- The check of R493, side by side. -/
theorem compatible_iff (peer : Firmware) (p lo hi : Nat) :
    compatible peer p lo hi = true ↔
      (peer.peerLow ≤ p ∧ p ≤ peer.peerHigh) ∧ lo ≤ peer.protocol ∧ peer.protocol ≤ hi := by
  simp only [compatible, Bool.and_eq_true, decide_eq_true_eq, and_assoc]

/-- A begin command that reaches a lane which may update, with an incompatible image, ends there. -/
theorem doBeginUpdate_of_incompatible {s : State} {a : Acc} {x : LaneId} {len : BitVec 32} {p lo hi : Byte}
    (hr : Reaches s a 2 x) (hmay : s.mayUpdate x = true) (hmin : 128 ≤ len.toNat) (hmax : len.toNat ≤ 8388608)
    (hc : compatible (s.lane x.peer).running p.toNat lo.toNat hi.toNat = false) :
    doBeginUpdate a len p lo hi s = s.abort abIncompatible := by
  rw [doBeginUpdate, State.command_runs hr hmay (by simp [hmin, hmax])]
  simp [hc]

/-- Settles O42: the check says both ranges, and the begin command makes it before it changes anything. -/
theorem firmwareCompatibility : Obligations.FirmwareCompatibility := by
  refine ⟨compatible_iff, fun s a x len p lo hi hr hmay hmin hmax hc => ?_⟩
  change Host.Outcome.next (s.through a (doBeginUpdate a len p lo hi s)) = _
  rw [State.through_of_reaches hr, doBeginUpdate_of_incompatible hr hmay hmin hmax hc]
  rfl

/-! ### A quiet source (R409, R419) -/

/-- A reaction of level 2 or less. -/
theorem decideLevel_le {cl own ceil n : Nat} (hown : own ≤ n) (hceil : ceil ≤ n) : decideLevel cl own ceil ≤ n := by
  unfold decideLevel
  split <;> omega

/-- The largest of numbers that are at most n is at most n. -/
theorem foldl_max_le {n : Nat} {ls : List Nat} (h : ∀ v ∈ ls, v ≤ n) : ls.foldl max 0 ≤ n :=
  List.foldlRecOn (motive := (· ≤ n)) ls max (Nat.zero_le n) fun _ hb v hv => Nat.max_le.mpr ⟨hb, h v hv⟩

/-- `t` is `s` but for the collector of lane x. -/
def CollectorOnly (x : LaneId) (s t : State) : Prop := ∃ k, t = s.upd x (fun l => { l with coll := k })

theorem CollectorOnly.refl (x : LaneId) (s : State) : CollectorOnly x s s := ⟨(s.lane x).coll, by cases x <;> rfl⟩

theorem CollectorOnly.updColl {x : LaneId} {s t : State} (h : CollectorOnly x s t) (f : Collector → Collector) :
    CollectorOnly x s (t.updColl (.lane x) f) := by
  obtain ⟨k, rfl⟩ := h
  exact ⟨f k, by cases x <;> rfl⟩

theorem CollectorOnly.get {x : LaneId} {s t : State} (h : CollectorOnly x s t) (y : LaneId) (k : Nat) :
    t.get y k = s.get y k := by
  obtain ⟨_, rfl⟩ := h
  cases x <;> cases y <;> rfl

/-- A lane's collector is no part of its sources' levels. -/
theorem CollectorOnly.quiet {x : LaneId} {s t : State} (h : CollectorOnly x s t) {n : Nat} (hq : Quiet s x n) :
    Quiet t x n := by
  obtain ⟨hl, hc⟩ := hq
  exact ⟨by simpa only [State.sourceLevel, h.get] using hl, by simpa only [State.sourceCeiling, h.get] using hc⟩

/-- The reaction of a class changes the lane's collector alone. -/
theorem CollectorOnly.classReaction {x : LaneId} {s t : State} (h : CollectorOnly x s t) (hits : List SourceHit) (cls : Nat) :
    CollectorOnly x s (t.classReaction (.lane x) hits cls).2 := by
  unfold State.classReaction
  extract_lets mine cl lv taken reacted
  split
  · exact h
  · split
    · dsimp only
      exact h.updColl _
    · change CollectorOnly x s (if 1 ≤ lv then _ else t)
      split
      · exact h.updColl _
      · exact h

/-- The reaction of a class to quiet sources takes no level above 2. -/
theorem State.classReaction_low {s : State} {x : LaneId} {hits : List SourceHit} (h : ∀ r ∈ hits, Quiet s x r.source)
    (cls : Nat) : ∀ r ∈ (s.classReaction (.lane x) hits cls).1, r.level ≤ 2 := by
  unfold State.classReaction
  extract_lets mine cl lv taken
  have hlv : lv ≤ 2 := foldl_max_le fun v hv => by
    obtain ⟨hit, hmine, rfl⟩ := List.mem_map.mp hv
    obtain ⟨hl, hc⟩ := h hit (List.mem_of_mem_filter hmine)
    exact decideLevel_le hl hc
  split
  · nofun
  · split
    · nofun
    · intro r hr
      obtain ⟨_, -, rfl⟩ := List.mem_map.mp hr
      exact hlv

/-- Faults, as they are decided, change the lane's collector alone; of quiet sources no level above 2 is taken. -/
theorem State.decideFaults_lane (s : State) (x : LaneId) (hits : List SourceHit) :
    CollectorOnly x s (s.decideFaults (.lane x) hits).2 ∧
      ((∀ r ∈ hits, Quiet s x r.source) → ∀ r ∈ (s.decideFaults (.lane x) hits).1, r.level ≤ 2) := by
  unfold State.decideFaults
  refine List.foldlRecOn (motive := fun acc : List Taken × State =>
    CollectorOnly x s acc.2 ∧ ((∀ r ∈ hits, Quiet s x r.source) → ∀ r ∈ acc.1, r.level ≤ 2)) _ _ ⟨?_, nofun⟩ ?_
  · simpa only [reduceCtorEq, false_and, if_false] using ((CollectorOnly.refl x s).updColl _).updColl _
  · rintro ⟨taken, t⟩ ⟨hs, hlow⟩ cls -
    refine ⟨hs.classReaction _ cls, fun hq r hr => (List.mem_append.mp hr).elim (hlow hq r) ?_⟩
    exact State.classReaction_low (fun r hr => hs.quiet (hq r (List.mem_of_mem_filter hr))) cls r

/-- From `s` to `t`, what happened at lane x left the keys, the module registers and the other lane alone. -/
structure LaneOnly (x : LaneId) (s t : State) : Prop where
  sec : t.sec = s.sec
  mreg : t.mreg = s.mreg
  peer : t.lane x.peer = s.lane x.peer

theorem LaneOnly.refl (x : LaneId) (s : State) : LaneOnly x s s := ⟨rfl, rfl, rfl⟩

theorem LaneOnly.upd {x : LaneId} {s t : State} (h : LaneOnly x s t) (f : LaneState → LaneState) :
    LaneOnly x s (t.upd x f) :=
  ⟨(t.upd_sec x f).trans h.sec, (t.upd_mreg x f).trans h.mreg, (t.upd_lane_peer x f).trans h.peer⟩

theorem LaneOnly.record {x : LaneId} {s t : State} (h : LaneOnly x s t) (code : Nat) (data : List Byte) :
    LaneOnly x s (t.record x code data) := h.upd _

theorem LaneOnly.tossCheck {x : LaneId} {s t : State} (h : LaneOnly x s t) : LaneOnly x s t.tossCheck :=
  ⟨h.sec, h.mreg, by cases x <;> exact h.peer⟩

theorem CollectorOnly.laneOnly {x : LaneId} {s t : State} (h : CollectorOnly x s t) : LaneOnly x s t := by
  obtain ⟨k, rfl⟩ := h
  exact (LaneOnly.refl x s).upd _

/-- A reaction at a lane is recorded and counted there. -/
theorem LaneOnly.recordReaction {x : LaneId} {s t : State} (h : LaneOnly x s t) (r : Taken) :
    LaneOnly x s (t.recordReaction (.lane x) r) := by
  unfold State.recordReaction
  exact (h.record _ _).upd _

/-- No level above 2 resets anything. -/
theorem State.carryOut_of_low {x : LaneId} {taken : List Taken} (h : ∀ r ∈ taken, r.level ≤ 2) (s : State) :
    s.carryOut (.lane x) taken = s := by
  have htop : (taken.map Taken.level).foldl max 0 < 3 := Nat.lt_succ_of_le <| foldl_max_le fun v hv => by
    obtain ⟨r, hr, rfl⟩ := List.mem_map.mp hv
    exact h r hr
  exact if_pos htop

/-- A quiet source that a rule raises leaves keys, module registers and the other lane alone. -/
theorem State.raiseLane_laneOnly {s : State} {x : LaneId} {n : Nat} (h : Quiet s x n) : LaneOnly x s (s.raiseLane x n) := by
  unfold State.raiseLane State.raise
  split
  · obtain ⟨hcoll, hlow⟩ := s.decideFaults_lane x [⟨n, false, 0⟩]
    have hquiet : ∀ r ∈ [(⟨n, false, 0⟩ : SourceHit)], Quiet s x r.source := List.forall_mem_singleton.mpr h
    rw [State.enterFaults, State.react, State.carryOut_of_low (hlow hquiet)]
    exact (List.foldlRecOn (motive := LaneOnly x s) _ _ hcoll.laneOnly fun _ ht r _ => ht.recordReaction r).tossCheck
  · exact .refl x s

/-! ### Images that every lane refuses (R488 to R490) -/

/-- An event is no part of a source's levels. -/
theorem quiet_record {s : State} {x : LaneId} {n : Nat} (hn : n < 128) (h : Quiet s x n) (code : Nat) (data : List Byte) :
    Quiet (s.record x code data) x n := by
  obtain ⟨log, reg, he, -, hreg⟩ := s.record_frame x code data
  have hget (j : Nat) (hj : j ≤ 2) : (s.record x code data).get x (key (0x1410 + n) j) = s.get x (key (0x1410 + n) j) := by
    have hk := hreg (key (0x1410 + n) j)
    simp only [key] at hk ⊢
    rw [State.get, he, State.upd_lane_self]
    exact hk (by omega) (by omega) (by omega)
  obtain ⟨hl, hc⟩ := h
  exact ⟨(hget 1 (by decide)).trans_le hl, (hget 2 (by decide)).trans_le hc⟩

/-- A refusal of an image at a lane where source 27 is quiet leaves keys, module registers and the other lane alone. -/
theorem State.imageDone_refused {s : State} {x : LaneId} {o : Answer} (h0 : o.code ≠ 0) (hst : o.code ≠ abState)
    (hq : Quiet s x 27) (img : List Byte) : LaneOnly x s (s.imageDone x o img) := by
  simp only [State.imageDone, if_neg h0, if_neg hst, State.follow, decide_eq_true h0, if_true]
  have hrec := (LaneOnly.refl x s).record 0x0041 (imageData o.code img)
  have hraise := State.raiseLane_laneOnly (quiet_record (by decide) hq 0x0041 (imageData o.code img))
  exact ⟨hraise.sec.trans hrec.sec, hraise.mreg.trans hrec.mreg, hraise.peer.trans hrec.peer⟩

/-- Lanes that refuse an image one after the other leave keys and module registers alone. -/
theorem State.foldl_imageDone_refused {o : LaneId → Answer} {img : List Byte} (xs : List LaneId) (hnodup : xs.Nodup)
    (ho : ∀ y ∈ xs, (o y).code ≠ 0 ∧ (o y).code ≠ abState) {s : State} (hq : ∀ y ∈ xs, Quiet s y 27) :
    (xs.foldl (fun t y => t.imageDone y (o y) img) s).sec = s.sec ∧
      (xs.foldl (fun t y => t.imageDone y (o y) img) s).mreg = s.mreg := by
  induction xs generalizing s with
  | nil => exact ⟨rfl, rfl⟩
  | cons y ys ih =>
    obtain ⟨hy, hys⟩ := List.nodup_cons.mp hnodup
    obtain ⟨h0, hst⟩ := ho y List.mem_cons_self
    have hone := State.imageDone_refused h0 hst (hq y List.mem_cons_self) img
    have hquiet : ∀ z ∈ ys, Quiet (s.imageDone y (o y) img) z 27 := fun z hz => by
      obtain rfl := eq_peer_of_ne y z (fun h => hy (h ▸ hz))
      simpa only [Quiet, State.sourceLevel, State.sourceCeiling, State.get, hone.peer] using
        hq _ (List.mem_cons_of_mem _ hz)
    obtain ⟨hsec, hmreg⟩ := ih hys (fun z hz => ho z (List.mem_cons_of_mem _ hz)) hquiet
    exact ⟨hsec.trans hone.sec, hmreg.trans hone.mreg⟩

/-- The lanes that an image reaches are named once each. -/
theorem State.imageLanes_nodup (s : State) (sel : Sel) : (s.imageLanes sel).Nodup := by
  cases sel with
  | acting => exact List.Nodup.filter _ (by decide)
  | lane x => exact List.nodup_singleton x

/-- An image that no lane finds valid takes effect nowhere. -/
theorem State.takeImage_nil (s : State) (img : List Byte) : s.takeImage [] img = s := by
  simp only [State.takeImage, ne_eq, not_true_eq_false, false_and, if_false]
  exact List.foldl_fixed' (fun c => by simp [State.takeRecord]) _

/-- An image that fails a check before its records ends with that check's code. -/
theorem State.imageOutcome_of_check {s : State} {x : LaneId} {img : List Byte} {c : Nat} (h : s.imageCheck x img = c)
    (hc : c ≠ 0) : s.imageOutcome x img = s.abort c := by
  simp only [State.imageOutcome, h, if_neg hc]

/-- An image that fails the same check at every lane is refused with its code; keys and module registers stand. -/
theorem State.applyImage_refused {s : State} {x : LaneId} {xs : List LaneId} {img : List Byte} {c : Nat} (hc : c ≠ 0)
    (hst : c ≠ abState) (hxs : xs.Nodup) (hcheck : ∀ y ∈ x :: xs, s.imageCheck y img = c) (hq : ∀ y, Quiet s y 27) :
    (s.applyImage x xs img).ans = ⟨c, 0, []⟩ ∧ (s.applyImage x xs img).sec = s.sec ∧
      (s.applyImage x xs img).mreg = s.mreg := by
  have hans : ∀ y ∈ x :: xs, (s.imageOutcome y img).ans = ⟨c, 0, []⟩ := fun y hy => by
    rw [State.imageOutcome_of_check (hcheck y hy) hc, State.abort_ans]
  have hcode (y : LaneId) (hy : y ∈ x :: xs) : (s.imageOutcome y img).ans.code = c := by rw [hans y hy]
  have hnone : xs.filter (fun y => decide ((s.imageOutcome y img).ans.code = 0)) = [] :=
    List.filter_eq_nil_iff.mpr fun y hy => by simp [hcode y (List.mem_cons_of_mem x hy), hc]
  obtain ⟨hsec, hmreg⟩ := State.foldl_imageDone_refused (o := fun y => (s.imageOutcome y img).ans) (img := img) xs hxs
    (fun y hy => by simp only [hcode y (List.mem_cons_of_mem x hy)]; exact ⟨hc, hst⟩) (fun y _ => hq y)
  simp only [State.applyImage, hnone, State.takeImage_nil, hcode x List.mem_cons_self, if_neg hc]
  exact ⟨rfl, hsec, hmreg⟩

/-- An apply command that passes its checks, at a state that no Roll holds back, applies the staged image. -/
theorem exec_applyConfiguration {s : State} {a : Acc} {x : LaneId} {n : BitVec 32} (hr : Reaches s a 2 x)
    (hroll : s.rolling = false) (hmin : 1 ≤ n.toNat) (hmax : n.toNat ≤ 1048576) :
    exec (.applyConfiguration a n) s = .next
      (let img := s.sec.staged n.toNat
       let xs := s.imageLanes a.sel
       let t := s.applyImage x xs img
       if t.ans.code = 0 ∧ a.sel = .acting ∧ xs.length < 2 then
         (t.updSec (fun k => { k with missed := k.missed ++ [(x.peer, img)] })).supersede x.peer img
       else t) := by
  change Host.Outcome.next (s.through a (doApplyConfiguration a n s)) = _
  rw [State.through_of_reaches hr, doApplyConfiguration, State.command_runs hr (by simp [hroll]) (by simp [hmin, hmax])]

/-- The apply command with an image that fails the same check at every lane. -/
theorem applyConfiguration_refused {s : State} {a : Acc} {x : LaneId} {n : BitVec 32} {c : Nat} (hr : Reaches s a 2 x)
    (hroll : s.rolling = false) (hmin : 1 ≤ n.toNat) (hmax : n.toNat ≤ 1048576) (hc : c ≠ 0) (hst : c ≠ abState)
    (hcheck : ∀ y ∈ x :: s.imageLanes a.sel, s.imageCheck y (s.sec.staged n.toNat) = c)
    (hA : Quiet s .A 27) (hB : Quiet s .B 27) :
    Leads (.applyConfiguration a n) s fun t => t.ans = ⟨c, 0, []⟩ ∧ t.sec = s.sec ∧ t.mreg = s.mreg := by
  have hrefused := State.applyImage_refused hc hst (s.imageLanes_nodup a.sel) hcheck (fun y => by cases y <;> assumption)
  have hcode : (s.applyImage x (s.imageLanes a.sel) (s.sec.staged n.toNat)).ans.code ≠ 0 := by rwa [hrefused.1]
  exact ⟨_, exec_applyConfiguration hr hroll hmin hmax, by simpa only [hcode, false_and, if_false] using hrefused⟩

/-- The image's form and signature hold (R484, R485, R489). -/
structure ImageSigned (s : State) (img k : List Byte) : Prop where
  form : cfgHeaderOk img = true
  slot : s.sec.cfgKeys.getD (numAt img 5 1) [] = k
  key : k ≠ []
  signature : signatureOk k (img.take (img.length - 64)) (img.drop (img.length - 64)) = true

/-- What the checks of a signed image come to. -/
theorem ImageSigned.imageCheck {s : State} {img k : List Byte} (h : ImageSigned s img k) (x : LaneId) :
    s.imageCheck x img =
      if numAt img 6 1 ≠ 255 ∧ numAt img 6 1 ≠ s.mget 0x100800 then abMismatch
      else if numAt img 8 8 ≠ 0 ∧ numAt img 8 8 ≠ s.uid then abMismatch
      else if numAt img 16 4 < s.get x 0x101201 then abRollback
      else 0 := by
  obtain ⟨hform, hslot, hkey, hsig⟩ := h
  have hsome : k.isEmpty = false := by simpa using hkey
  simp only [State.imageCheck, hform, hslot, hsome, hsig, Bool.not_true, Bool.or_self, Bool.false_eq_true, if_false]

/-- A signed image for another node or another slot. -/
theorem ImageSigned.mismatch {s : State} {img k : List Byte} (h : ImageSigned s img k)
    (hother : (numAt img 8 8 ≠ 0 ∧ numAt img 8 8 ≠ s.uid) ∨ (numAt img 6 1 ≠ 255 ∧ numAt img 6 1 ≠ s.mget 0x100800))
    (x : LaneId) : s.imageCheck x img = abMismatch := by
  rw [h.imageCheck]
  rcases hother with hnode | hslot
  · rw [if_pos hnode, ite_self]
  · exact if_pos hslot

/-- A signed image for this node and slot that is older than the lane's configuration. -/
theorem ImageSigned.rollback {s : State} {img k : List Byte} (h : ImageSigned s img k) {x : LaneId}
    (hnode : numAt img 8 8 = 0 ∨ numAt img 8 8 = s.uid) (hslot : numAt img 6 1 = 255 ∨ numAt img 6 1 = s.mget 0x100800)
    (hold : numAt img 16 4 < s.get x 0x101201) : s.imageCheck x img = abRollback := by
  rw [h.imageCheck, if_neg (by tauto), if_neg (by tauto), if_pos hold]

/-! ### Lanes whose registers stand in canonical form

Every operation that a configuration record or a restore of defaults can run at a lane keeps them so, and a register that
is written then reads back as it was written. The lemmas stand in the order of the model's files and bear the names of its
operations. -/

/-- The registers of a lane stand in canonical form. -/
def LaneState.RegsCanon (l : LaneState) : Prop := tabCanon regDefault l.reg = true

/-- What a filter keeps of a table that is canonical from a bound on. -/
theorem tabCanonFrom_filter {d : Nat → Nat} (p : Nat × Nat → Bool) {b : Nat} {t : List (Nat × Nat)}
    (h : tabCanonFrom d b t = true) : tabCanonFrom d b (t.filter p) = true := by
  induction t generalizing b with
  | nil => rfl
  | cons e t ih =>
    obtain ⟨k, v⟩ := e
    simp only [tabCanonFrom, Bool.and_eq_true, decide_eq_true_eq] at h
    obtain ⟨⟨hbk, hv⟩, ht⟩ := h
    rw [List.filter_cons]
    split
    · simp only [tabCanonFrom, Bool.and_eq_true, decide_eq_true_eq]
      exact ⟨⟨hbk, hv⟩, ih ht⟩
    · exact tabCanonFrom_mono (Nat.le_succ_of_le hbk) (ih ht)

/-- A filter keeps the canonical form. -/
theorem tabCanon_filter {d : Nat → Nat} (p : Nat × Nat → Bool) {t : List (Nat × Nat)} (h : tabCanon d t = true) :
    tabCanon d (t.filter p) = true := tabCanonFrom_filter p h

namespace LaneState.RegsCanon

variable {l m : LaneState}

/-! #### Registers, folds and branches -/

theorem put (h : l.RegsCanon) (k v : Nat) : (l.put k v).RegsCanon := l.put_canon k v h

theorem inc (h : l.RegsCanon) (k : Nat) : (l.inc k).RegsCanon := l.inc_canon k h

theorem filter (h : l.RegsCanon) (p : Nat × Nat → Bool) : ({ l with reg := l.reg.filter p } : LaneState).RegsCanon :=
  tabCanon_filter p h

theorem ite {c : Prop} [Decidable c] (h : l.RegsCanon) (h' : m.RegsCanon) : (if c then l else m).RegsCanon := by
  split
  · exact h
  · exact h'

theorem foldl {α : Type} {f : LaneState → α → LaneState} (h : l.RegsCanon) (xs : List α)
    (hf : ∀ l a, l.RegsCanon → (f l a).RegsCanon) : (xs.foldl f l).RegsCanon :=
  List.foldlRecOn (motive := LaneState.RegsCanon) xs f h fun l hl a _ => hf l a hl

/-! #### Parts of a lane beside its registers -/

theorem withPoss (h : l.RegsCanon) (p : Poss) : ({ l with poss := p } : LaneState).RegsCanon := h

theorem withColl (h : l.RegsCanon) (k : Collector) : ({ l with coll := k } : LaneState).RegsCanon := h

theorem withLog (h : l.RegsCanon) (r : Recorder) : ({ l with log := r } : LaneState).RegsCanon := h

theorem withPlan (h : l.RegsCanon) (p : Plan) : ({ l with plan := p } : LaneState).RegsCanon := h

theorem withTime (h : l.RegsCanon) (t : TimeState) : ({ l with time := t } : LaneState).RegsCanon := h

theorem withFlow (h : l.RegsCanon) (f : FlowState) : ({ l with flow := f } : LaneState).RegsCanon := h

theorem withCan (h : l.RegsCanon) (c : CanState) : ({ l with can := c } : LaneState).RegsCanon := h

theorem withField (h : l.RegsCanon) (f : FieldState) : ({ l with field := f } : LaneState).RegsCanon := h

theorem withMsg (h : l.RegsCanon) (t : MsgState) : ({ l with msg := t } : LaneState).RegsCanon := h

theorem withUpd (h : l.RegsCanon) (u : Update) : ({ l with upd := u } : LaneState).RegsCanon := h

theorem withRing (h : l.RegsCanon) (r : List (List Byte)) : ({ l with ring := r } : LaneState).RegsCanon := h

/-! #### Pins and the field side -/

theorem updPin (h : l.RegsCanon) (n : Nat) (f : Pin → Pin) : (l.updPin n f).RegsCanon := h

theorem eachPin {f : LaneState → Nat → LaneState} (h : l.RegsCanon) (hf : ∀ l n, l.RegsCanon → (f l n).RegsCanon) :
    (l.eachPin f).RegsCanon := h.foldl _ hf

theorem setPinBit (h : l.RegsCanon) (n i : Nat) (b : Bool) : (l.setPinBit n i b).RegsCanon := h.put _ _

theorem takeLimits (h : l.RegsCanon) : l.takeLimits.RegsCanon :=
  (h.foldl _ fun _ _ hl => hl.put _ _).withPlan _

theorem abortLearn (h : l.RegsCanon) (n : Nat) : (l.abortLearn n).RegsCanon := (h.put _ _).ite h

theorem driverOn (h : l.RegsCanon) (n : Nat) : (l.driverOn n).RegsCanon := ((h.updPin n _).setPinBit n 10 _).inc _

theorem driverOff (h : l.RegsCanon) (n : Nat) : (l.driverOff n).RegsCanon :=
  ((h.updPin n _).setPinBit n 10 false).takeLimits.abortLearn n

theorem settleDriver (h : l.RegsCanon) (n : Nat) : (l.settleDriver n).RegsCanon := (h.driverOn n).ite ((h.driverOff n).ite h)

theorem takeSafeStates (h : l.RegsCanon) : l.takeSafeStates.RegsCanon :=
  (((h.withField _).withPoss _).eachPin fun _ n hl => ((hl.updPin n _).settleDriver n).ite hl).inc _

theorem fieldSafe (h : l.RegsCanon) : l.fieldSafe.RegsCanon :=
  (h.withField _).takeSafeStates.ite (h.withField _)

theorem changeFunction (h : l.RegsCanon) (n v : Nat) : (l.changeFunction n v).RegsCanon :=
  ((((h.abortLearn n).put _ _).put _ _).put _ _).takeLimits.updPin n _

theorem fieldUnpowered (h : l.RegsCanon) : l.fieldUnpowered.RegsCanon :=
  ((h.filter _).withField _).takeLimits

/-! #### The car bus -/

theorem eachTx {f : LaneState → Nat → LaneState} (h : l.RegsCanon) (hf : ∀ l t, l.RegsCanon → (f l t).RegsCanon) :
    (l.eachTx f).RegsCanon := h.foldl _ hf

theorem markTriple (h : l.RegsCanon) : l.markTriple.RegsCanon := (h.put _ _).ite h

theorem setPending (h : l.RegsCanon) (t : Nat) (b : Bool) : (l.setPending t b).RegsCanon := h.put _ _

theorem carBusStart (h : l.RegsCanon) : l.carBusStart.RegsCanon :=
  (h.eachTx fun _ t hl => (hl.setPending t false).put _ _).markTriple.withCan _

theorem carBusRestart (h : l.RegsCanon) : l.carBusRestart.RegsCanon := (h.filter _).carBusStart

theorem keepImage (h : l.RegsCanon) (t : Nat) (b : Bool) : (l.keepImage t b).RegsCanon :=
  (h.withCan _).ite h

theorem putWords (h : l.RegsCanon) (index sub : Nat) (bytes : List Byte) : (l.putWords index sub bytes).RegsCanon :=
  h.foldl _ fun _ _ hl => hl.put _ _

theorem commitTx (h : l.RegsCanon) (t : Nat) : (l.commitTx t).RegsCanon := ((h.keepImage t true).putWords _ _ _).withCan _

theorem writeTxIdent (h : l.RegsCanon) (t v : Nat) : (l.writeTxIdent t v).RegsCanon := (h.keepImage t false).put _ _

theorem writeTxControl (h : l.RegsCanon) (t v : Nat) : (l.writeTxControl t v).RegsCanon :=
  (((h.keepImage t false).put _ _).commitTx t).ite ((h.keepImage t false).put _ _)

theorem patternOff (h : l.RegsCanon) (sending : Option Nat) : (l.patternOff sending).RegsCanon :=
  h.eachTx fun _ t hl => (((hl.setPending t false).inc _).inc _).ite hl

theorem takeTiming (h : l.RegsCanon) (k v : Nat) (busy : Bool) : (l.takeTiming k v busy).RegsCanon :=
  ((h.put k v).withCan _).markTriple

theorem clearStations (h : l.RegsCanon) : l.clearStations.RegsCanon := h.foldl _ fun _ _ hl => hl.ite (hl.put _ _)

/-! #### The recorder -/

theorem lose (h : l.RegsCanon) (code : Nat) : (l.lose code).RegsCanon := by
  obtain ⟨_, _, reg, he, -, hc⟩ := l.lose_frame code
  rw [he]
  exact hc h

theorem record (h : l.RegsCanon) (holdUp : Bool) (code : Nat) (data : List Byte) : (l.record holdUp code data).RegsCanon := by
  obtain ⟨_, reg, he, -, -, hc⟩ := l.record_frame holdUp code data
  rw [he]
  exact hc h

theorem place (h : l.RegsCanon) (holdUp : Bool) (q : Queued) : (l.place holdUp q).RegsCanon :=
  ((h.withLog _).put _ _).put _ _

theorem placeFinal (h : l.RegsCanon) (holdUp : Bool) (q : Queued) : (l.placeFinal holdUp q).RegsCanon :=
  (h.lose _).ite (((h.withLog _).put _ _).put _ _)

theorem failRecorder (h : l.RegsCanon) (holdUp : Bool) (cause slot : Nat) : (l.failRecorder holdUp cause slot).RegsCanon := by
  have hp (log : Recorder) (q : Queued) : (({ l with log := log } : LaneState).placeFinal holdUp q).RegsCanon :=
    (h.withLog log).placeFinal holdUp q
  exact (hp _ _).ite ((hp _ _).placeFinal _ _)

theorem badSlot (h : l.RegsCanon) : l.badSlot.RegsCanon :=
  ((h.withLog _).put _ _).put _ _

theorem closeFullLog (h : l.RegsCanon) (holdUp closes : Bool) : (l.closeFullLog holdUp closes).RegsCanon :=
  ((((h.withLog _).put _ _).failRecorder _ _ _).ite ((h.place _ _).ite (h.badSlot.failRecorder _ _ _))).ite h

theorem writeRecord (h : l.RegsCanon) (holdUp ok closes : Bool) (q : Queued) :
    (l.writeRecord holdUp ok closes q).RegsCanon := by
  unfold LaneState.writeRecord
  split
  · exact ((h.withLog _).put _ _).failRecorder _ _ _
  · split
    · exact (h.place _ _).closeFullLog _ _
    · extract_lets passed slot pair closed
      have hc : closed.RegsCanon := (h.withLog _).badSlot.closeFullLog _ _
      exact hc.ite ((hc.failRecorder _ _ _).ite ((hc.failRecorder _ _ _).ite hc))

theorem flushOne (h : l.RegsCanon) (holdUp : Bool) (q : Queued) : (l.flushOne holdUp q).RegsCanon := by
  have written (l : LaneState) (hl : l.RegsCanon) (ok : Bool) (outcomes : List Bool) :
      (({ l with log := { l.log with outcomes := outcomes } } : LaneState).writeRecord holdUp ok true q).RegsCanon :=
    (hl.withLog _).writeRecord _ _ _ _
  have hw := written l h
  exact (h.lose _).ite ((hw _ _).ite (((hw _ _).lose _).ite ((written _ (hw _ _) _ _).ite ((written _ (hw _ _) _ _).lose _))))

theorem flushQueue (h : l.RegsCanon) (holdUp : Bool) : (l.flushQueue holdUp).RegsCanon :=
  (h.withLog _).foldl _ fun _ q hl => hl.flushOne holdUp q

/-! #### Ports, bypass and frames -/

theorem updPort (h : l.RegsCanon) (e : EndId) (f : Port → Port) : (l.updPort e f).RegsCanon := by cases e <;> exact h

theorem closeBypass (h : l.RegsCanon) : l.closeBypass.RegsCanon := h

theorem portsStart (h : l.RegsCanon) : l.portsStart.RegsCanon := (h.updPort _ _).updPort _ _

theorem countPortBy (h : l.RegsCanon) (e : EndId) (index n : Nat) : (l.countPortBy e index n).RegsCanon :=
  ((h.put _ _).put _ _).ite (h.put _ _)

theorem flushEgress (h : l.RegsCanon) (e : EndId) : (l.flushEgress e).RegsCanon :=
  (h.updPort e _).ite ((h.updPort e _).countPortBy _ _ _)

theorem dropPort (h : l.RegsCanon) (now : Nat) (e : EndId) (step : Step) (counted : Bool) :
    (l.dropPort now e step counted).RegsCanon := by
  have hdown (f : Port → Port) := (((h.flushEgress e).updPort e f).put (key 0x200D (endSub e)) 0).put (key 0x400C (endSub e)) 0
  exact ((((hdown _).inc _).updPort _ _).ite ((hdown _).inc _)).ite (hdown _)

theorem countLinkLost (h : l.RegsCanon) (e : EndId) : (l.countLinkLost e).RegsCanon := (h.inc _).ite h

theorem portsRestart (h : l.RegsCanon) (now : Nat) : (l.portsRestart now).RegsCanon :=
  ((((h.dropPort now _ _ _).dropPort now _ _ _).closeBypass).put _ _).withRing _

theorem disableEnd (h : l.RegsCanon) (now : Nat) (e : EndId) : (l.disableEnd now e).RegsCanon :=
  ((h.dropPort now _ _ _).dropPort now _ _ _).closeBypass

theorem enableEnd (h : l.RegsCanon) (e : EndId) : (l.enableEnd e).RegsCanon := by
  have hfree (f g : Port → Port) := (h.updPort e f).updPort e.other g
  exact (hfree _ _).portsStart.ite ((hfree _ _).updPort _ _)

theorem queueFrame (h : l.RegsCanon) (e : EndId) (f : OutFrame) : (l.queueFrame e f).RegsCanon := (h.updPort e _).put _ _

theorem emit (h : l.RegsCanon) (e : EndId) (f : OutFrame) : (l.emit e f).RegsCanon := by
  unfold LaneState.emit
  split
  · exact h
  · split
    · exact h.countPortBy _ _ _
    · exact h.queueFrame e f

theorem emitBoth (h : l.RegsCanon) (f : OutFrame) : (l.emitBoth f).RegsCanon := (h.emit .e1 f).emit .e2 f

theorem sendMessage (h : l.RegsCanon) (x : LaneId) (uid : Option Nat) (position : Nat) (m : MsgFrame) :
    (l.sendMessage x uid position m).RegsCanon := by
  cases uid with
  | none => exact h.emitBoth _
  | some u =>
    simp only [LaneState.sendMessage, LaneState.emitTo]
    split
    · exact h.emit _ _
    · exact h.emitBoth _

/-! #### Time, flows and plan -/

theorem timebaseRestart (h : l.RegsCanon) : l.timebaseRestart.RegsCanon :=
  ((((((h.withTime _).put _ _).put _ _).put _ _).put _ _).put _ _).foldl _ fun _ _ hl => (hl.put _ _).put _ _

theorem setRate (h : l.RegsCanon) (r : Int) : (l.setRate r).RegsCanon := (h.put _ _).put _ _

theorem pulseOff (h : l.RegsCanon) (u : Nat) (late : Bool) : (l.pulseOff u late).RegsCanon := ((h.put _ _).put _ _).put _ _

theorem armPulse (h : l.RegsCanon) (u : Nat) : (l.armPulse u).RegsCanon := by
  have armed (next : Nat) := (h.put (pulseKey u 6) (withBit (l.get (pulseKey u 6)) 1 true)).put (pulseKey u 7) next
  exact (h.pulseOff u _).ite (((h.pulseOff u _).ite (armed _)).ite (armed _))

theorem rearm (h : l.RegsCanon) (u : Nat) : (l.rearm u).RegsCanon := (h.withTime _).ite (h.armPulse u)

theorem writeMode (h : l.RegsCanon) (u mode : Nat) : (l.writeMode u mode).RegsCanon := ((h.put _ _).rearm u).ite h

theorem writePulse (h : l.RegsCanon) (u sub v : Nat) : (l.writePulse u sub v).RegsCanon := ((h.put _ _).rearm u).ite (h.put _ _)

theorem resolveOne (h : l.RegsCanon) (n : Nat) : (l.resolveOne n).RegsCanon :=
  LaneState.RegsCanon.ite (((h.withFlow _).withFlow _).inc _ |>.ite ((h.withFlow _).withFlow _)) (h.withFlow _)

theorem resolveChanged (h : l.RegsCanon) (n : Nat) : (l.resolveChanged n).RegsCanon := (h.withFlow _).resolveOne n

theorem writeControl (h : l.RegsCanon) (n v : Nat) : (l.writeControl n v).RegsCanon :=
  ((h.withFlow _).ite h).ite ((h.withFlow _).ite h)

theorem moveSetting (h : l.RegsCanon) (k : Nat) : (l.moveSetting k).RegsCanon := by
  unfold LaneState.moveSetting
  split
  · exact h.eachPin fun _ _ hl => hl.put _ _
  · exact (h.put _ _).setRate _
  · exact h.put _ _

theorem writeBound (h : l.RegsCanon) (k sub v : Nat) : (l.writeBound k sub v).RegsCanon :=
  (((h.put _ _).moveSetting k).put _ _).put _ _

/-! #### Restarts and restores -/

theorem restoredRegs (h : l.RegsCanon) : ({ l with reg := restoredRegs l.reg } : LaneState).RegsCanon := h.filter _

theorem restartRegs (h : l.RegsCanon) : tabCanon regDefault (restartRegs l.reg) = true := by
  unfold Machine.restartRegs
  extract_lets kept
  have hkept : tabCanon regDefault kept = true := h.filter _
  split
  · exact tabCanon_filter _ hkept
  · exact hkept

theorem keepField (h : l.RegsCanon) (old : LaneState) : (l.keepField old).RegsCanon :=
  (((h.withField _).foldl _ fun _ _ hl => hl.put _ _).eachPin fun _ n hl =>
    (hl.setPinBit n 6 false).ite ((hl.setPinBit n 6 false).changeFunction n _)).carBusStart

theorem keepActivation (h : l.RegsCanon) (old : LaneState) : (l.keepActivation old).RegsCanon := (h.put _ _).ite h

theorem restart (h : l.RegsCanon) (holdUp : Bool) (mode : Mode) : (l.restart holdUp mode).RegsCanon := by
  unfold LaneState.restart
  extract_lets closed
  have hclosed : closed.RegsCanon := ((h.flushQueue holdUp).countLinkLost .e1).countLinkLost .e2
  refine ((LaneState.RegsCanon.keepField ?_ _).keepActivation _).put _ _
  exact hclosed.restartRegs

theorem restoreBuffers (h : m.RegsCanon) (old : LaneState) : (old.restoreBuffers m).RegsCanon :=
  h.eachTx fun _ _ hl => hl.put _ _

theorem restoreNow (h : l.RegsCanon) (sending : Option Nat) (busy : Bool) : (l.restoreNow sending busy).RegsCanon := by
  unfold LaneState.restoreNow
  extract_lets old off images buffers stations ends pins timing bounds
  have hoff : off.RegsCanon := (h.patternOff sending).ite h
  have himages : images.RegsCanon := hoff.eachTx fun _ t hl => hl.keepImage t false
  have hbuffers : buffers.RegsCanon := himages.restoredRegs.restoreBuffers _
  have hends : ends.RegsCanon := hbuffers.clearStations.foldl _ fun _ e hl => hl.ite (hl.enableEnd e)
  have hpins : pins.RegsCanon := hends.eachPin fun _ n hl => hl.ite (hl.changeFunction n 0)
  have htiming : timing.RegsCanon := hpins.ite (hpins.takeTiming _ _ busy)
  have hbounds : bounds.RegsCanon := htiming.foldl _ fun _ m hl => hl.ite (hl.writeBound m _ _)
  exact (hbounds.foldl _ fun _ n hl => hl.resolveOne n).setRate _

/-! #### The host's side of a lane -/

theorem readEffect (h : l.RegsCanon) (index sub : Nat) : (l.readEffect index sub).RegsCanon :=
  (h.put _ _).ite ((h.put _ _).ite ((h.updPin _ _).ite h))

theorem grantLock (h : l.RegsCanon) (k : Lock) : (l.grantLock k).RegsCanon := h.withMsg _

theorem updSession (h : l.RegsCanon) (n : Nat) (f : Session → Session) : (l.updSession n f).RegsCanon := h.withMsg _

theorem dropServiceBuffers (h : l.RegsCanon) : l.dropServiceBuffers.RegsCanon := h.withMsg _

end LaneState.RegsCanon

/-! ### States whose lanes' registers stand in canonical form -/

/-- The registers of both lanes stand in canonical form. -/
def State.LanesCanon (s : State) : Prop := s.laneA.RegsCanon ∧ s.laneB.RegsCanon

namespace State.LanesCanon

variable {s t : State}

theorem of_canon (h : Canon s) : s.LanesCanon := ⟨lane_regs_canon h .A, lane_regs_canon h .B⟩

theorem lane (h : s.LanesCanon) (x : LaneId) : (s.lane x).RegsCanon := by
  cases x
  · exact h.1
  · exact h.2

theorem ite {c : Prop} [Decidable c] (h : s.LanesCanon) (h' : t.LanesCanon) : (if c then s else t).LanesCanon := by
  split
  · exact h
  · exact h'

theorem foldl {α : Type} {f : State → α → State} (h : s.LanesCanon) (xs : List α)
    (hf : ∀ s a, s.LanesCanon → (f s a).LanesCanon) : (xs.foldl f s).LanesCanon :=
  List.foldlRecOn (motive := State.LanesCanon) xs f h fun s hs a _ => hf s a hs

/-! #### One lane, both lanes, the lanes of a selector -/

theorem upd {f : LaneState → LaneState} (h : s.LanesCanon) (x : LaneId) (hf : ∀ l, l.RegsCanon → (f l).RegsCanon) :
    (s.upd x f).LanesCanon := by
  cases x
  · exact ⟨hf _ h.1, h.2⟩
  · exact ⟨h.1, hf _ h.2⟩

theorem updBoth {f : LaneState → LaneState} (h : s.LanesCanon) (hf : ∀ l, l.RegsCanon → (f l).RegsCanon) :
    (s.updBoth f).LanesCanon := ⟨hf _ h.1, hf _ h.2⟩

theorem put (h : s.LanesCanon) (x : LaneId) (k v : Nat) : (s.put x k v).LanesCanon := h.upd x fun _ hl => hl.put k v

theorem updColl (h : s.LanesCanon) (c : CollectorId) (f : Collector → Collector) : (s.updColl c f).LanesCanon := by
  cases c with
  | lane x => exact h.upd x fun _ hl => hl
  | module => exact h

theorem fanOutEach {f : LaneId → LaneState → LaneState} (h : s.LanesCanon) (sel : Sel)
    (hf : ∀ x l, l.RegsCanon → (f x l).RegsCanon) : (s.fanOutEach sel f).LanesCanon := by
  have hlane (x : LaneId) : ((s.fanOutEach sel f).lane x).RegsCanon := by
    rcases s.fanOutEach_lane sel f x with e | e <;> rw [e]
    · exact hf x _ (h.lane x)
    · exact h.lane x
  exact ⟨hlane .A, hlane .B⟩

theorem fanOut {f : LaneState → LaneState} (h : s.LanesCanon) (sel : Sel) (hf : ∀ l, l.RegsCanon → (f l).RegsCanon) :
    (s.fanOut sel f).LanesCanon := h.fanOutEach sel fun _ => hf

theorem writeNode {f : LaneState → LaneState} (h : s.LanesCanon) (a : Acc) (hf : ∀ l, l.RegsCanon → (f l).RegsCanon) :
    (s.writeNode a f).LanesCanon := by
  unfold State.writeNode
  split
  · exact h.fanOut .acting hf
  · exact ((h.upd _ hf).upd _ hf).ite (h.upd _ hf)

theorem updMirrored {f : LaneState → LaneState} (h : s.LanesCanon) (x : LaneId)
    (hf : ∀ l, l.RegsCanon → (f l).RegsCanon) : (s.updMirrored x f).LanesCanon :=
  ((h.upd x hf).upd x.peer hf).ite (h.upd x hf)

/-! #### Parts of the module beside the lanes -/

theorem withMreg (h : s.LanesCanon) (r : Regs) : ({ s with mreg := r } : State).LanesCanon := h

theorem withSec (h : s.LanesCanon) (k : Security) : ({ s with sec := k } : State).LanesCanon := h

theorem withHost (h : s.LanesCanon) (k : HostState) : ({ s with host := k } : State).LanesCanon := h

theorem answer (h : s.LanesCanon) (v : Nat) : (s.answer v).LanesCanon := h

theorem abort (h : s.LanesCanon) (code : Nat) : (s.abort code).LanesCanon := h

theorem free (h : s.LanesCanon) (w : Nat) : (s.free w).2.LanesCanon := h

theorem mput (h : s.LanesCanon) (k v : Nat) : (s.mput k v).LanesCanon := h

theorem minc (h : s.LanesCanon) (k : Nat) : (s.minc k).LanesCanon := h

theorem updSec (h : s.LanesCanon) (f : Security → Security) : (s.updSec f).LanesCanon := h

theorem updWin (h : s.LanesCanon) (w : Nat) (f : Win → Win) : (s.updWin w f).LanesCanon := h

theorem tossCheck (h : s.LanesCanon) : s.tossCheck.LanesCanon := h

/-! #### Events, refusals and the checks of an access -/

theorem record (h : s.LanesCanon) (x : LaneId) (code : Nat) (data : List Byte) : (s.record x code data).LanesCanon :=
  h.upd x fun _ hl => hl.record _ _ _

theorem refuse (h : s.LanesCanon) (a : Acc) (index sub : Nat) : (s.refuse a index sub).LanesCanon := by
  simp only [State.refuse]
  split
  · exact (h.record _ _ _).abort _
  · exact ((h.record .A _ _).record .B _ _).abort _

theorem command {a : Acc} {index sub role : Nat} {state : LaneId → Bool} {value : Bool} {run : LaneId → State}
    (h : s.LanesCanon) (hrun : ∀ x, (run x).LanesCanon) : (s.command a index sub role state value run).LanesCanon := by
  rcases s.command_cases a index sub role state value run with e | e | e | e | ⟨x, -, -, -, e⟩ <;> rw [e]
  · exact h.abort _
  · exact h.abort _
  · exact h.refuse _ _ _
  · exact h.abort _
  · exact hrun x

/-! #### Roll triggers, ports and cab declarations -/

theorem rollTrigger (h : s.LanesCanon) (x : LaneId) (code : Nat) : (s.rollTrigger x code).LanesCanon := by
  obtain ⟨roll, e⟩ := s.rollTrigger_frame x code
  rw [e]
  exact h.upd x fun _ hl => hl

theorem dropPort (h : s.LanesCanon) (x : LaneId) (e : EndId) (step : Step) (counted : Bool) :
    (s.dropPort x e step counted).LanesCanon := by
  have hdrop : (s.upd x fun l => l.dropPort s.clock e step counted).LanesCanon := h.upd x fun _ hl => hl.dropPort _ _ _ _
  exact (hdrop.rollTrigger x 1).ite hdrop

theorem noteCab (h : s.LanesCanon) (x : LaneId) : (s.noteCab x).LanesCanon := h.upd x fun _ hl => hl.withField _

theorem checkCab (h : s.LanesCanon) (x : LaneId) (own : Bool) : (s.checkCab x own).LanesCanon :=
  h.ite (((h.noteCab x).rollTrigger x 3).ite (h.noteCab x))

/-! #### Release of possession -/

theorem endServiceSessions (h : s.LanesCanon) : s.endServiceSessions.LanesCanon :=
  (h.withSec _).updBoth fun _ hl => hl.dropServiceBuffers

theorem lateError (h : s.LanesCanon) (path addr code : Nat) : (s.lateError path addr code).LanesCanon := by
  have hshown (v : Nat) := (((((h.mput 0x590006 addr).mput 0x590007 code).mput 0x590008
    ((s.lane (s.holder.getD .A)).trainTime % 2 ^ 64)).mput 0x590009 path).minc 0x590005).mput 0x590003 v
  exact ((hshown _).minc _).ite (hshown _)

theorem queuedDone (h : s.LanesCanon) (path : Nat) (r : HostReq) (code : Nat) : (s.queuedDone path r code).LanesCanon := by
  have hpopped : (s.popPath path).LanesCanon := h.withHost _
  exact hpopped.ite (hpopped.lateError _ _ _)

theorem finishRead (h : s.LanesCanon) (x : LaneId) (r : HostReq) : (s.finishRead x r).1.LanesCanon := by
  have hread (es : List (Nat × Nat)) : (s.upd x fun l => es.foldl (fun l e => l.readEffect e.1 e.2) l).LanesCanon :=
    h.upd x fun _ hl => hl.foldl es fun _ e hl => hl.readEffect e.1 e.2
  unfold State.finishRead
  extract_lets l n short
  split
  · split
    · exact h.upd x fun _ hl => hl.readEffect _ _
    · exact h
  · split
    extract_lets g c
    split
    · exact h
    · exact ((hread _).updMirrored x fun _ hl => hl.grantLock _).ite (hread _)

theorem readAtRelease (h : s.LanesCanon) {x : LaneId} {silent : Bool} {r : HostReq} {d : State × List Nat × Nat}
    (hd : s.readAtRelease x silent r = some d) : d.1.LanesCanon := by
  unfold State.readAtRelease at hd
  split at hd
  · cases hd
  · split at hd
    · cases hd
      exact h
    · split at hd
      · cases hd
      · cases hd
        exact h.finishRead x r

theorem readDone (h : s.LanesCanon) {x : LaneId} {silent : Bool} {r : HostReq} {f : State × List Nat × Nat → State}
    (hf : ∀ d, d.1.LanesCanon → (f d).LanesCanon) : (((s.readAtRelease x silent r).map f).getD s).LanesCanon := by
  cases hd : s.readAtRelease x silent r with
  | none => exact h
  | some d => exact hf d (h.readAtRelease hd)

theorem hostAtRelease (h : s.LanesCanon) (x : LaneId) (silent : Bool) : (s.hostAtRelease x silent).LanesCanon := by
  unfold State.hostAtRelease
  extract_lets _ pulsed ended
  have hpulsed : pulsed.LanesCanon := h
  have hended : ended.LanesCanon := (hpulsed.upd x fun _ hl => hl.eachPin fun _ n hl => hl.abortLearn n).endServiceSessions
  split
  · exact hended.readDone fun _ hd => hd.queuedDone _ _ _
  · exact hended.readDone fun _ hd => hd.withHost _
  · exact hended

theorem release (h : s.LanesCanon) (x : LaneId) (cause : Nat) : (s.release x cause).LanesCanon := by
  unfold State.release
  extract_lets told freed _ _ noted
  have hfreed : freed.LanesCanon := h.upd x fun _ hl => hl
  have hnoted : noted.LanesCanon := hfreed
  exact h.ite ((hnoted.mput _ _).hostAtRelease x false)

/-! #### Resets -/

theorem abandonUpdate (h : s.LanesCanon) (x : LaneId) : (s.abandonUpdate x).LanesCanon :=
  ((h.upd x fun _ hl => (hl.put 0x112000 0).withUpd _).record x _ _).ite h

theorem restoreModule (h : s.LanesCanon) : s.restoreModule.LanesCanon :=
  (h.withMreg _).foldl _ fun _ _ hs => hs.updWin _ _

theorem takeDefaults (h : s.LanesCanon) (x : LaneId) : (s.takeDefaults x).LanesCanon := h.restoreModule.ite h

theorem lastWord (h : s.LanesCanon) (x : LaneId) : (s.lastWord x).LanesCanon := (h.upd x.peer fun _ hl => hl.withPoss _).ite h

theorem laneReset (h : s.LanesCanon) (x : LaneId) (relCause cause source : Nat) :
    (s.laneReset x relCause cause source).LanesCanon :=
  (((((h.release x _).lastWord x).abandonUpdate x).takeDefaults x).upd x fun _ hl =>
    (((hl.put _ _).put _ _).restart _ _).withPoss _).tossCheck

theorem domainReset (h : s.LanesCanon) (x : LaneId) (domain source : Nat) : (s.domainReset x domain source).LanesCanon := by
  unfold State.domainReset
  extract_lets d restarted marked
  have hrestarted : restarted.LanesCanon := h.laneReset x _ _ _
  have hmarked : marked.LanesCanon := h.updColl _ _
  split
  · exact (hrestarted.upd x fun _ hl => (hl.withLog _).withLog _).ite hrestarted
  · split
    · exact ((hmarked.dropPort x _ _ _).dropPort x _ _ _).upd x fun _ hl => hl.closeBypass
    · split
      · exact hmarked.upd x fun _ hl => hl.carBusRestart
      · split
        · exact (hmarked.upd x fun _ hl => hl.fieldUnpowered).checkCab x _
        · exact hmarked

theorem laneBlockReset (h : s.LanesCanon) (x : LaneId) (r : Taken) : (s.laneBlockReset x r).LanesCanon := by
  unfold State.laneBlockReset
  extract_lets mark
  have hmark (t : State) (ht : t.LanesCanon) : (mark t).LanesCanon := ht.updColl _ _
  split
  · exact h.domainReset x _ _
  · exact (hmark _ (h.upd x fun _ hl => hl.portsRestart _)).rollTrigger x 2
  · exact hmark _ (h.upd x fun _ hl => hl.timebaseRestart)
  · exact hmark _ (h.upd x fun _ hl => hl.carBusRestart)
  · exact hmark _ (h.upd x fun _ hl => hl.fieldSafe)
  · exact hmark _ h
  · exact hmark _ (h.upd x fun _ hl => hl.withPoss _)
  · exact h.laneReset x _ _ _

theorem laneBlockResets (h : s.LanesCanon) (x : LaneId) (ts : List Taken) : (s.laneBlockResets x ts).LanesCanon := by
  unfold State.laneBlockResets
  split
  · exact h.laneBlockReset x _
  · exact h.foldl _ fun _ r hs => hs.laneBlockReset x r

theorem carryOut (h : s.LanesCanon) (x : LaneId) (taken : List Taken) : (s.carryOut (.lane x) taken).LanesCanon := by
  simp only [State.carryOut]
  have hreleased := h.release x 1
  split
  · exact h
  · split
    · exact hreleased
    · have hstop (n : Nat) : ((s.release x 1).laneStop x n).LanesCanon := (hreleased.laneReset x _ _ _).upd x fun _ hl => hl
      exact (hstop _).ite ((hreleased.laneReset x _ _ _).ite (hreleased.laneBlockResets x _))

/-! #### Faults -/

theorem of_collectorOnly {x : LaneId} (h : s.LanesCanon) (hst : CollectorOnly x s t) : t.LanesCanon := by
  obtain ⟨k, rfl⟩ := hst
  exact h.upd x fun _ hl => hl.withColl k

theorem recordReaction (h : s.LanesCanon) (x : LaneId) (r : Taken) : (s.recordReaction (.lane x) r).LanesCanon := by
  unfold State.recordReaction
  exact (h.record x _ _).upd x fun _ hl => hl.inc _

theorem raiseLane (h : s.LanesCanon) (x : LaneId) (n : Nat) : (s.raiseLane x n).LanesCanon := by
  unfold State.raiseLane State.raise
  split
  · have hdecided := h.of_collectorOnly (s.decideFaults_lane x [⟨n, false, 0⟩]).1
    rw [State.enterFaults, State.react]
    exact ((hdecided.foldl _ fun _ r hs => hs.recordReaction x r).carryOut x _).tossCheck
  · exact h

theorem lower (h : s.LanesCanon) (c : CollectorId) (n : Nat) : (s.lower c n).LanesCanon := h.updColl c _

theorem follow (h : s.LanesCanon) (x : LaneId) (n : Nat) (b : Bool) : (s.follow x n b).LanesCanon :=
  (h.raiseLane x n).ite (h.lower _ n)

theorem followConflicts (h : s.LanesCanon) (x : LaneId) : (s.followConflicts x).LanesCanon := h.follow x 107 _

/-! #### Writes that are commands of their own -/

theorem planBoundWrite (h : s.LanesCanon) (a : Acc) (row : Fin 11) (up : Bool) (v : BitVec 32) :
    (doPlanBoundWrite a row up v s).LanesCanon := by
  unfold doPlanBoundWrite
  extract_lets k sub
  split
  · exact h.abort _
  · exact (h.abort _).ite ((h.abort _).ite ((h.abort _).ite ((h.abort _).ite
      (((h.upd _ fun _ hl => hl.writeBound k sub _).followConflicts _).answer 0))))

theorem portEnable (h : s.LanesCanon) (a : Acc) (e : EndId) (v : Byte) : (doPortEnable a e v s).LanesCanon := by
  refine h.command fun x => ?_
  extract_lets was open0 written disabled
  have hwritten : written.LanesCanon := h.put x _ _
  have hdisabled : disabled.LanesCanon := hwritten.upd x fun _ hl => hl.disableEnd _ e
  exact (((hdisabled.rollTrigger x 2).ite hdisabled).ite ((hwritten.upd x fun _ hl => hl.enableEnd e).ite hwritten)).answer 0

theorem leadDeclaration (h : s.LanesCanon) (a : Acc) (v : Byte) : (doLeadDeclaration a v s).LanesCanon := by
  refine h.command fun x => ?_
  have hwritten := h.writeNode a fun _ hl => hl.put 0x242100 v.toNat
  exact ((((((hwritten.rollTrigger .A 3).rollTrigger .B 3).ite hwritten).noteCab .A).noteCab .B).answer 0)

theorem flowConfig (h : s.LanesCanon) (a : Acc) (n sub v : Nat) : (s.flowConfig a n sub v).LanesCanon := by
  unfold State.flowConfig
  split
  · exact h.abort _
  · exact (h.abort _).ite ((h.abort _).ite ((h.abort _).ite ((h.abort _).ite ((h.abort _).ite ((h.abort _).ite
      ((h.writeNode a fun _ hl => (hl.put _ _).resolveChanged n).answer 0))))))

theorem flowControl (h : s.LanesCanon) (a : Acc) (n v : Nat) : (s.flowControl a n v).LanesCanon := by
  unfold State.flowControl
  split
  · exact h.abort _
  · exact (h.abort _).ite ((h.abort _).ite ((h.abort _).ite ((h.fanOut _ fun _ hl => hl.writeControl n v).answer 0)))

theorem baselineWrite (h : s.LanesCanon) (a : Acc) (v : BitVec 32) : (doBaselineWrite a v s).LanesCanon :=
  h.command fun x => (h.upd x fun _ hl => ((hl.put _ _).withPlan _).setRate _).answer 0

theorem pulseModeWrite (h : s.LanesCanon) (a : Acc) (u : Fin 8) (v : Byte) : (doPulseModeWrite a u v s).LanesCanon :=
  h.command fun _ => (h.fanOut _ fun _ hl => hl.writeMode _ _).answer 0

theorem onCarBus (h : s.LanesCanon) : s.onCarBus.2.LanesCanon := h.free 6

theorem carBusBusy (h : s.LanesCanon) : s.carBusBusy.2.LanesCanon := h.free 1

theorem patternEnable (h : s.LanesCanon) (a : Acc) (v : Nat) : (s.patternEnable a v).LanesCanon := by
  unfold State.patternEnable doPatternEnable
  extract_lets ta tb
  have hb : tb.2.LanesCanon := h.onCarBus.onCarBus
  refine hb.command fun x => ?_
  extract_lets off
  have hoff (y : LaneId) (t : State) (ht : t.LanesCanon) : (off y t).LanesCanon :=
    (ht.upd y fun _ hl => hl.patternOff _).ite ht
  exact (hoff .B _ (hoff .A _ (hb.fanOut _ fun _ hl => hl.put _ _))).answer 0

theorem timingWrite (h : s.LanesCanon) (a : Acc) (dataPhase : Bool) (v : BitVec 32) :
    (s.timingWrite a dataPhase v).LanesCanon := by
  unfold State.timingWrite doBitTimingWrite
  extract_lets ta tb k reserved ok
  have hb : tb.2.LanesCanon := h.carBusBusy.carBusBusy
  exact hb.command fun _ => (hb.fanOutEach _ fun _ _ hl => (hl.takeTiming k _ _).ite hl).answer 0

theorem gatewayRuleEnable (h : s.LanesCanon) (a : Acc) (g : Fin 64) (v : Byte) : (doGatewayRuleEnable a g v s).LanesCanon :=
  h.command fun _ => (h.fanOut _ fun _ hl => (hl.put _ _).ite hl).answer 0

theorem clearPinSources (h : s.LanesCanon) (x : LaneId) : (s.clearPinSources x).LanesCanon := by
  unfold State.clearPinSources
  extract_lets l shorted overloaded
  have hshorted : shorted.LanesCanon := h.ite (h.lower _ 82)
  have hoverloaded : overloaded.LanesCanon := hshorted.ite (hshorted.lower _ 83)
  exact hoverloaded.ite (hoverloaded.lower _ 84)

theorem refreshDisagreements (h : s.LanesCanon) : s.refreshDisagreements.LanesCanon := by
  unfold State.refreshDisagreements
  extract_lets settled
  have hsettled : settled.LanesCanon :=
    h.foldl _ fun _ n hs => (hs.updBoth fun _ hl => (hl.setPinBit n 6 false).put _ _).ite hs
  exact ((hsettled.lower _ 81).lower _ 81).ite hsettled

theorem pinFunctionChange (h : s.LanesCanon) (a : Acc) (pin : Fin 24) (v : Byte) :
    (doPinFunctionChange a pin v s).LanesCanon :=
  h.command fun _ => (((((h.fanOut _ fun _ hl => hl.changeFunction _ _).clearPinSources .A).clearPinSources
    .B).refreshDisagreements.checkCab .A _).checkCab .B _).answer 0

theorem endRoleGateWrite (h : s.LanesCanon) (a : Acc) (pin : Fin 24) (v : Byte) :
    (doEndRoleGateWrite a pin v s).LanesCanon :=
  h.command fun _ => (h.fanOut _ fun _ hl => hl.put _ _).answer 0

theorem outputImage (h : s.LanesCanon) (a : Acc) (v : BitVec 32) : (doOutputImage a v s).LanesCanon :=
  h.command fun _ => State.LanesCanon.answer (h.fanOut .acting fun _ hl => hl.put _ _) 0

theorem some_ite {c : Prop} [Decidable c] {o : Option State} (ht : t.LanesCanon) (ho : ∀ u ∈ o, u.LanesCanon) :
    ∀ u ∈ (if c then some t else o), u.LanesCanon := by
  split
  · rintro _ ⟨⟩
    exact ht
  · exact ho

theorem ownWrite (h : s.LanesCanon) (a : Acc) (index sub v : Nat) : ∀ u ∈ s.ownWrite a index sub v, u.LanesCanon := by
  unfold State.ownWrite
  refine some_ite (h.planBoundWrite _ _ _ _) ?_
  refine some_ite (h.portEnable _ _ _) ?_
  refine some_ite (h.leadDeclaration _ _) ?_
  refine some_ite ((h.flowControl _ _ _).ite (h.flowConfig _ _ _ _)) ?_
  refine some_ite (h.baselineWrite _ _) ?_
  refine some_ite (h.pulseModeWrite _ _ _) ?_
  refine some_ite (h.patternEnable _ _) ?_
  refine some_ite (h.timingWrite _ _ _) ?_
  refine some_ite (h.gatewayRuleEnable _ _ _) ?_
  refine some_ite (h.pinFunctionChange _ _ _) ?_
  refine some_ite (h.endRoleGateWrite _ _ _) ?_
  exact some_ite (h.outputImage _ _) fun u hu => absurd hu (Option.not_mem_none u)

/-! #### Writes of stored entries -/

theorem peerRefuses (h : s.LanesCanon) (ht : t.LanesCanon) (a : Acc) (x : LaneId) (index sub v : Nat) :
    (s.peerRefuses t a x index sub v).LanesCanon := (ht.upd x.peer fun _ _ => h.lane x.peer).ite ht

theorem writeStored (h : s.LanesCanon) (a : Acc) (x : LaneId) (r : Row) (index sub v : Nat) :
    (s.writeStored a x r index sub v).LanesCanon := by
  unfold State.writeStored
  extract_lets k f
  have hf (l : LaneState) (hl : l.RegsCanon) : (f l).RegsCanon := hl.put k _
  split
  · exact h.mput _ _
  · exact h.writeNode a hf
  · exact (h.peerRefuses (h.fanOut _ hf) _ _ _ _ _).ite (h.upd x hf)

theorem followStations (h : s.LanesCanon) (x : LaneId) : (s.followStations x).LanesCanon := h.ite (h.lower _ 75)

theorem updSession {f : Session → Session} (h : s.LanesCanon) (n : Nat) : (s.updSession n f).LanesCanon := by
  unfold State.updSession
  split
  · exact h.upd _ fun _ hl => hl.updSession n f
  · exact h.updBoth fun _ hl => (hl.updSession n f).ite hl

theorem sendMsg (h : s.LanesCanon) (uid position : Nat) (f : MsgFrame) : (s.sendMsg uid position f).LanesCanon := by
  unfold State.sendMsg
  split
  · exact h
  · rename_i x _
    have hsent := h.upd x fun _ hl => hl.sendMessage x (some uid) position f
    exact (hsent.upd x.peer fun _ hl => hl.sendMessage x.peer (some uid) position f).ite hsent

theorem sendCancel (h : s.LanesCanon) (n : Nat) : (s.sendCancel n).LanesCanon := by
  unfold State.sendCancel
  split
  · exact (h.updSession n).sendMsg _ _ _
  · exact h

theorem cancelPrefetch (h : s.LanesCanon) (w : Nat) : (s.cancelPrefetch w).LanesCanon := by
  unfold State.cancelPrefetch
  split
  · exact h
  · exact ((h.updWin w _).sendCancel w).updSession w

theorem writeEffect (h : s.LanesCanon) (a : Acc) (x : LaneId) (r : Row) (index sub v : Nat) :
    (s.writeEffect a x r index sub v).LanesCanon := by
  have hstored := h.writeStored a x r index sub v
  unfold State.writeEffect
  refine (h.updColl _ _).ite ?_
  refine ((h.upd x fun _ hl => hl.withLog _).ite h).ite ?_
  refine (h.mput _ _).ite ?_
  refine (hstored.followConflicts x).ite ?_
  refine (h.fanOut _ fun _ hl => (hl.writePulse _ _ _).ite hl).ite ?_
  refine (h.fanOut _ fun _ hl => (hl.withCan _).ite hl).ite ?_
  refine (((hstored.updBoth fun _ hl => hl.clearStations).followStations .A).followStations .B).ite ?_
  refine (h.fanOut _ fun _ hl => hl.writeTxControl _ _).ite ?_
  refine (h.fanOut _ fun _ hl => hl.writeTxIdent _ _).ite ?_
  exact ((hstored.cancelPrefetch _).updWin _ _).ite hstored

theorem rwWrite (h : s.LanesCanon) (a : Acc) (x : LaneId) (r : Row) (index sub v : Nat) :
    (s.rwWrite a x r index sub v).LanesCanon := by
  unfold State.rwWrite
  split
  · exact h.abort _
  · split
    · exact h.abort _
    · split
      · exact h.ownWrite _ _ _ _ _ ‹_›
      · exact (h.refuse _ _ _).ite ((h.abort _).ite ((h.writeEffect a x r index sub v).answer 0))

/-! #### Writes of content -/

theorem authFailed (h : s.LanesCanon) (service : Bool) : (s.authFailed service).LanesCanon :=
  ((h.minc _).updSec _).abort _

theorem checkProof (h : s.LanesCanon) (data : List Byte) : (s.checkProof data).LanesCanon := by
  unfold State.checkProof
  extract_lets r nt used
  have hused : used.LanesCanon := h.updSec _
  split
  · exact h.abort _
  · split
    · exact h.authFailed false
    · split
      · exact hused.authFailed false
      · exact ((hused.updSec _).answer 0).ite (hused.authFailed false)

theorem response (h : s.LanesCanon) (a : Acc) (data : List Byte) : (doResponse a data s).LanesCanon :=
  (h.abort _).ite ((h.abort _).ite ((h.abort _).ite ((h.abort _).ite (h.checkProof data))))

theorem roleKey (h : s.LanesCanon) (a : Acc) (slot : Fin 3) (k : List Byte) : (doRoleKey a slot k s).LanesCanon :=
  (h.abort _).ite ((h.abort _).ite ((h.abort _).ite ((h.abort _).ite ((h.updSec _).answer 0))))

theorem writeConfigKey (h : s.LanesCanon) (slot : Nat) (k : List Byte) : (s.writeConfigKey slot k).LanesCanon :=
  (h.abort _).ite ((h.abort _).ite ((h.updSec _).answer 0))

theorem imageChunk (h : s.LanesCanon) (a : Acc) (data : List Byte) : (doImageChunk a data s).LanesCanon :=
  h.command fun _ => (h.abort _).ite ((h.abort _).ite ((h.updSec _).answer 0))

theorem firmwareChunk (h : s.LanesCanon) (a : Acc) (data : List Byte) : (doFirmwareChunk a data s).LanesCanon :=
  h.command fun x => (h.abort _).ite ((h.abort _).ite ((h.abort _).ite ((h.upd x fun _ hl => hl.withUpd _).answer 0)))

theorem writeSessionData (h : s.LanesCanon) (a : Acc) (n : Nat) (data : List Byte) :
    (s.writeSessionData a n data).LanesCanon :=
  (h.abort _).ite ((h.refuse _ _ _).ite ((h.abort _).ite ((h.updSession n).answer 0)))

theorem octetsWrite (h : s.LanesCanon) (a : Acc) (index sub : Nat) (data : List Byte) :
    (s.octetsWrite a index sub data).LanesCanon := by
  unfold State.octetsWrite
  split
  · exact h.abort _
  · split
    · exact h.abort _
    · exact (h.abort _).ite ((h.roleKey _ _ _).ite ((h.abort _).ite ((h.abort _).ite ((h.writeConfigKey _ _).ite
        ((h.response _ _).ite ((h.imageChunk _ _).ite ((h.firmwareChunk _ _).ite (h.writeSessionData _ _ _))))))))

/-! #### Images (R486, R487, R491) -/

theorem writeRecord (h : s.LanesCanon) (x : LaneId) (c : CfgRecord) : (s.writeRecord x c).LanesCanon := by
  unfold State.writeRecord
  split
  · exact h.abort _
  · exact (h.octetsWrite _ _ _ _).ite ((h.abort _).ite (h.rwWrite _ _ _ _ _ _))

theorem restoreLane (h : s.LanesCanon) (x : LaneId) : (s.restoreLane x).LanesCanon :=
  (((h.onCarBus.carBusBusy.upd x fun _ hl => hl.restoreNow _ _).followConflicts x).refreshDisagreements).checkCab x _

theorem takeRecord (h : s.LanesCanon) (xs : List LaneId) (c : CfgRecord) : (s.takeRecord xs c).LanesCanon :=
  h.foldl _ fun _ y hs => hs.writeRecord y c

theorem takeImage (h : s.LanesCanon) (xs : List LaneId) (img : List Byte) : (s.takeImage xs img).LanesCanon :=
  ((h.restoreModule.foldl xs fun _ y hs => hs.restoreLane y).ite h).foldl _ fun _ c hs => hs.takeRecord xs c

end State.LanesCanon

/-! ### Images that take effect (R488, R489) -/

/-- Bytes spell a number below the power of their count. -/
theorem fromBytes_lt (l : List Byte) : fromBytes l < 256 ^ l.length := by
  induction l with
  | nil => simp [fromBytes]
  | cons b l ih =>
    have hcons : fromBytes (b :: l) = b.toNat * 256 ^ l.length + fromBytes l := by
      rw [fromBytes, List.foldl_cons, foldl_bytes, Nat.zero_mul, Nat.zero_add]
    have hb : b.toNat + 1 ≤ 256 := b.isLt
    calc fromBytes (b :: l) < (b.toNat + 1) * 256 ^ l.length := by rw [hcons, Nat.succ_mul]; omega
      _ ≤ 256 * 256 ^ l.length := Nat.mul_le_mul_right _ hb
      _ = 256 ^ (b :: l).length := by rw [List.length_cons, Nat.pow_succ, Nat.mul_comm]

/-- A number that an image carries in n bytes. -/
theorem numAt_lt (img : List Byte) (lo n : Nat) : numAt img lo n < 256 ^ n :=
  (fromBytes_lt _).trans_le <| Nat.pow_le_pow_right (by decide) (List.length_take_le n _)

/-- The outcome of a valid image at a lane, field by field. -/
theorem State.imageDone_valid {s : State} {x : LaneId} {o : Answer} (ho : o.code = 0) (img : List Byte) :
    s.imageDone x o img = (((s.put x 0x101201 (numAt img 16 4)).updSec (fun k => { k with label := slice img 32 16 })).record
      x 0x0041 (imageData o.code img)).lower (.lane x) 27 := by
  simp [State.imageDone, State.follow, ho]

theorem State.record_get_counter (s : State) (x y : LaneId) (code : Nat) (data : List Byte) :
    (s.record x code data).get y 0x101201 = s.get y 0x101201 := by
  obtain ⟨log, reg, he, -, hreg⟩ := s.record_frame x code data
  by_cases hy : y = x
  · subst hy
    rw [State.get, he, State.upd_lane_self]
    exact hreg _ (by decide) (by decide) (by decide)
  · rw [State.get, he, eq_peer_of_ne x y hy, State.upd_lane_peer, State.get]

theorem State.lower_get (s : State) (c : CollectorId) (n : Nat) (y : LaneId) (k : Nat) :
    (s.lower c n).get y k = s.get y k := by
  cases c with
  | lane x => cases x <;> cases y <;> rfl
  | module => cases y <;> rfl

/-- What the counters are after a valid image's outcome at lane x: there the image's, at the other lane what it was. -/
theorem State.imageDone_counter {s : State} {x : LaneId} {o : Answer} (ho : o.code = 0) (img : List Byte) (y : LaneId) :
    (s.imageDone x o img).get y 0x101201 = (s.put x 0x101201 (numAt img 16 4)).get y 0x101201 := by
  rw [State.imageDone_valid ho, State.lower_get, State.record_get_counter, State.updSec_get]

theorem State.LanesCanon.imageDone {s : State} (h : s.LanesCanon) {x : LaneId} {o : Answer} (ho : o.code = 0)
    (img : List Byte) : (s.imageDone x o img).LanesCanon := by
  rw [State.imageDone_valid ho]
  exact (((h.put x _ _).updSec _).record x _ _).lower _ 27

/-- A lane that takes a valid image holds its counter. -/
theorem State.imageDone_counter_self {s : State} (h : s.LanesCanon) {x : LaneId} {o : Answer} (ho : o.code = 0)
    (img : List Byte) : (s.imageDone x o img).get x 0x101201 = numAt img 16 4 := by
  have hwidth : numAt img 16 4 < 2 ^ regWidth 0x101201 := numAt_lt img 16 4
  rw [State.imageDone_counter ho, State.get, State.put_lane_self, LaneState.put_get_self _ _ _ (h.lane x),
    Nat.mod_eq_of_lt hwidth]

/-- A lane that holds the image's counter keeps it while a lane takes the image. -/
theorem State.imageDone_counter_keep {s : State} (h : s.LanesCanon) {x y : LaneId} {o : Answer} (ho : o.code = 0)
    {img : List Byte} (hy : s.get y 0x101201 = numAt img 16 4) : (s.imageDone x o img).get y 0x101201 = numAt img 16 4 := by
  by_cases hxy : y = x
  · subst hxy
    exact State.imageDone_counter_self h ho img
  · rw [State.imageDone_counter ho, eq_peer_of_ne x y hxy, State.put_get_peer, ← eq_peer_of_ne x y hxy, hy]

/-- Lanes that take a valid image one after the other all hold its counter. -/
theorem State.foldl_imageDone_counter {o : LaneId → Answer} {img : List Byte} (xs : List LaneId)
    (ho : ∀ y ∈ xs, (o y).code = 0) {s : State} (h : s.LanesCanon) {z : LaneId}
    (hz : z ∈ xs ∨ s.get z 0x101201 = numAt img 16 4) :
    (xs.foldl (fun t y => t.imageDone y (o y) img) s).get z 0x101201 = numAt img 16 4 := by
  induction xs generalizing s with
  | nil => exact hz.resolve_left List.not_mem_nil
  | cons y ys ih =>
    have hy := ho y List.mem_cons_self
    refine ih (fun w hw => ho w (List.mem_cons_of_mem y hw)) (h.imageDone hy img) ?_
    rcases hz with hmem | hheld
    · rcases List.mem_cons.mp hmem with rfl | hlater
      · exact .inr (State.imageDone_counter_self h hy img)
      · exact .inl hlater
    · exact .inr (State.imageDone_counter_keep h hy hheld)

/-- An image whose checks and records pass at a lane is no older than the lane's configuration. -/
theorem State.counter_le_of_imageOutcome {s : State} {x : LaneId} {img : List Byte}
    (h : (s.imageOutcome x img).ans.code = 0) : s.get x 0x101201 ≤ numAt img 16 4 := by
  by_contra hold
  have hcheck : s.imageCheck x img ≠ 0 := by
    unfold State.imageCheck
    extract_lets k n
    rw [if_pos (Nat.lt_of_not_le hold)]
    split_ifs <;> decide
  rw [State.imageOutcome_of_check rfl hcheck, State.abort_ans] at h
  exact hcheck h

/-- An image that every lane finds valid is answered with success and leaves its counter at each of them. -/
theorem State.applyImage_valid {s : State} (hs : s.LanesCanon) {x : LaneId} {xs : List LaneId} {img : List Byte}
    (hvalid : ∀ y ∈ x :: xs, (s.imageOutcome y img).ans.code = 0) :
    (s.applyImage x xs img).ans = ⟨0, 0, []⟩ ∧
      ∀ y ∈ xs, (s.applyImage x xs img).get y 0x101201 = numAt img 16 4 := by
  simp only [State.applyImage, if_pos (hvalid x List.mem_cons_self), State.answer_ans, State.answer_get, true_and]
  intro y hy
  exact State.foldl_imageDone_counter (o := fun z => (s.imageOutcome z img).ans) xs
    (fun z hz => hvalid z (List.mem_cons_of_mem x hz)) (hs.takeImage _ img) (.inl hy)

/-- What a lane misses is noted beside the answer and the registers. -/
theorem State.supersede_get (s : State) (x : LaneId) (img : List Byte) (y : LaneId) (k : Nat) :
    (s.supersede x img).get y k = s.get y k := by cases y <;> rfl

theorem State.supersede_ans (s : State) (x : LaneId) (img : List Byte) : (s.supersede x img).ans = s.ans := rfl

/-- The apply command with an image that every lane finds valid. -/
theorem applyConfiguration_valid {s : State} {a : Acc} {x : LaneId} {n : BitVec 32} (hs : Canon s) (hr : Reaches s a 2 x)
    (hroll : s.rolling = false) (hmin : 1 ≤ n.toNat) (hmax : n.toNat ≤ 1048576)
    (hvalid : ∀ y ∈ x :: s.imageLanes a.sel, (s.imageOutcome y (s.sec.staged n.toNat)).ans.code = 0) :
    Leads (.applyConfiguration a n) s fun t => s.get x 0x101201 ≤ numAt (s.sec.staged n.toNat) 16 4 ∧
      t.ans = ⟨0, 0, []⟩ ∧ ∀ y ∈ s.imageLanes a.sel, t.get y 0x101201 = numAt (s.sec.staged n.toNat) 16 4 := by
  obtain ⟨hans, hcounter⟩ := State.applyImage_valid (.of_canon hs) hvalid
  refine ⟨_, exec_applyConfiguration hr hroll hmin hmax,
    State.counter_le_of_imageOutcome (hvalid x List.mem_cons_self), ?_⟩
  dsimp only
  split
  · exact ⟨by rw [State.supersede_ans, State.updSec_ans, hans], fun y hy => by rw [State.supersede_get, State.updSec_get, hcounter y hy]⟩
  · exact ⟨hans, hcounter⟩

/-- Settles O41: the checks of a signed image come in the order of node, slot and counter, a quiet source 27 touches neither
keys nor module registers, and a valid image writes its counter last at each lane. -/
theorem imageCounterAndNode : Obligations.ImageCounterAndNode := by
  refine ⟨?mismatch, ?rollback, ?valid⟩
  case mismatch =>
    intro s a x n k hr hroll hmin hmax hform hslot hkey hsig hother hA hB
    exact applyConfiguration_refused hr hroll hmin hmax (by decide) (by decide)
      (fun y _ => (ImageSigned.mk hform hslot hkey hsig).mismatch hother y) hA hB
  case rollback =>
    intro s a x n k hr hroll hmin hmax hform hslot hkey hsig hnode hpos hold hA hB
    exact applyConfiguration_refused hr hroll hmin hmax (by decide) (by decide)
      (fun y hy => (ImageSigned.mk hform hslot hkey hsig).rollback hnode hpos (hold y hy)) hA hB
  case valid =>
    exact fun s a x n hs hr hroll hmin hmax hvalid => applyConfiguration_valid hs hr hroll hmin hmax hvalid

end Sys2Proof.Machine

namespace Sys2Proof.Machine

/-! ### Refutations: a warm-up without commands, and a lane that stops as its start erases a slot -/

/-- A module in its warm-up, in which no command waits. -/
def warmUpState : State := { State.reset with keeper := { Keeper.reset with phase := .warmUp } }

/-- A tick of a warm-up advances the keeper's warm-up time (R429, R504). -/
theorem warmUpState_tick_warmNs : warmUpState.tick.keeper.warmNs = 8 := by decide

/-- Refutes O53: the tick of an empty queue counts 8 ns of warm-up time in the keeper, which so does not stay. -/
theorem not_stepRunsFront : ¬ Obligations.StepRunsFront := by
  rintro ⟨-, -, htick, -⟩
  obtain ⟨t, hstep, -, -, -, hkeeper, -⟩ := htick warmUpState rfl
  obtain rfl : warmUpState.tick = t := by simpa [step, warmUpState, State.reset] using hstep
  exact absurd (hkeeper ▸ warmUpState_tick_warmNs) (by decide)

/-- Refutes O24: the tick of an empty queue counts 8 ns of warm-up time in the keeper, which so does not stay. -/
theorem not_timebaseAndFieldTime : ¬ Obligations.TimebaseAndFieldTime := by
  rintro ⟨htick, -⟩
  obtain ⟨t, hstep, -, -, hkeeper, -⟩ := htick warmUpState rfl
  obtain rfl : warmUpState.tick = t := by simpa [step, warmUpState, State.reset] using hstep
  exact absurd (hkeeper ▸ warmUpState_tick_warmNs) (by decide)

/-- A powered module whose lane A boots, with the log as it left the factory. -/
def bootingState : State :=
  { State.reset with
    keeper := { Keeper.reset with phase := .awake }
    laneA := { LaneState.reset with mode := .booting } }

/-- A start that finds the last used slot failing its check, and whose self-test fails. -/
def failingScan : StartScan where
  spoiled := []
  torn := false
  lostValues := []
  selfTest := false
  badHistory := []
  badSlots := [0]

/-- The start erases slot 0, and the stop of source 26 then writes a queued event there. -/
theorem bootingState_slot_rewritten :
    ((doLaneReady .A failingScan bootingState).laneA.log.slots[0]?).map (fun
      | .record r => some r.event.code
      | .bad => none) = some (some 0x0066) := by decide +kernel

/-- Refutes O59: the start erases the last used slot, source 26 stops the lane, and the stop writes the queued event 0066h
into that slot. -/
theorem not_logOnlyGrows : ¬ Obligations.LogOnlyGrows := by
  rintro ⟨-, hslot⟩
  have hlast := hslot (.laneReady .A failingScan) bootingState (doLaneReady .A failingScan bootingState) .A 0 _ rfl nofun rfl
  have hnew := bootingState_slot_rewritten
  rcases hlast with h | h | ⟨_, _, _, _, h⟩ <;>
  · rw [State.lane_A] at h
    rw [h] at hnew
    exact absurd hnew (by decide)
end Sys2Proof.Machine

namespace Sys2Proof.Machine

/-! ### What every operation keeps

A step keeps the canonical form, the module's identity and its keys, adds no command and no time, and brings no lane into
possession. `Keeps` says so of two states, one made from the other; it is reflexive and transitive, and each operation of
the model has one lemma that adds the operation to such a chain. -/

/-- From lane `l` to lane `m`: the canonical form stays, and possession is not gained. -/
def LaneState.Keeps (l m : LaneState) : Prop :=
  (LaneCanon l → LaneCanon m) ∧ (m.mode = .possession → l.mode = .possession)

/-- From state `s` to state `t`: the canonical form, the identity, the keys, the queue and the clock stay, and no lane gains
possession but the one that `a` names. -/
def State.Keeps (a : Option LaneId) (s t : State) : Prop :=
  (Canon s → Canon t) ∧
  ((t.laneA.mode = .possession → a = some .A ∨ s.laneA.mode = .possession) ∧
    (t.laneB.mode = .possession → a = some .B ∨ s.laneB.mode = .possession)) ∧
  t.pending = s.pending ∧ t.uid = s.uid ∧ t.variant2 = s.variant2 ∧ t.sec.fwKeys = s.sec.fwKeys ∧ t.clock = s.clock

namespace LaneState.Keeps

variable {l₀ l m : LaneState}

theorem self : l.Keeps l := ⟨id, id⟩

theorem trans (h : l₀.Keeps l) (h' : l.Keeps m) : l₀.Keeps m := ⟨h'.1 ∘ h.1, h.2 ∘ h'.2⟩

theorem ite {c : Prop} [Decidable c] (h : l₀.Keeps l) (h' : l₀.Keeps m) : l₀.Keeps (if c then l else m) := by
  split
  · exact h
  · exact h'

theorem foldl {α : Type} {f : LaneState → α → LaneState} (h : l₀.Keeps l) (xs : List α)
    (hf : ∀ l a, l₀.Keeps l → l₀.Keeps (f l a)) : l₀.Keeps (xs.foldl f l) :=
  List.foldlRecOn (motive := l₀.Keeps) xs f h fun l hl a _ => hf l a hl

/-- The possession state of a lane is no part of what is kept. -/
theorem withPoss (h : l₀.Keeps l) (p : Poss) : l₀.Keeps { l with poss := p } := h

/-- The ports of a lane are no part of what is kept. -/
theorem withPorts (h : l₀.Keeps l) (p q : Port) : l₀.Keeps { l with port1 := p, port2 := q } := h

/-- A change of the registers, the mode as it was. -/
theorem withReg {r : Regs} (h : l₀.Keeps l) (hr : tabCanon regDefault l.reg = true → tabCanon regDefault r = true) :
    l₀.Keeps { l with reg := r } :=
  ⟨fun hc => ⟨hr (h.1 hc).1, (h.1 hc).2⟩, h.2⟩

/-- A mode other than possession. -/
theorem withMode {k : Mode} (h : l₀.Keeps l) (hk : k ≠ .possession) : l₀.Keeps { l with mode := k } :=
  ⟨h.1, fun e => absurd e hk⟩

/-- A mode other than possession, and the possession state with it. -/
theorem withModePoss {k : Mode} (h : l₀.Keeps l) (hk : k ≠ .possession) (p : Poss) :
    l₀.Keeps { l with mode := k, poss := p } :=
  ⟨h.1, fun e => absurd e hk⟩

/-- A change of the pins that keeps them in rising order. -/
theorem withPins {p : List (Nat × Pin)} {f : FieldState} (h : l₀.Keeps l) (hf : f.pins = p)
    (hp : Rising l.field.pins → Rising p) : l₀.Keeps { l with field := f } :=
  ⟨fun hc => ⟨(h.1 hc).1, (h.1 hc).2.1, by subst hf; exact hp (h.1 hc).2.2.1, (h.1 hc).2.2.2⟩, h.2⟩

/-- A change of the messages that keeps the sessions in rising order. -/
theorem withSessions {f : MsgState} (h : l₀.Keeps l) (hs : Rising l.msg.sessions → Rising f.sessions) :
    l₀.Keeps { l with msg := f } :=
  ⟨fun hc => ⟨(h.1 hc).1, (h.1 hc).2.1, (h.1 hc).2.2.1, hs (h.1 hc).2.2.2.1, (h.1 hc).2.2.2.2⟩, h.2⟩

/-- A change of the collector that keeps its tables canonical. -/
theorem withColl {c : Collector} (h : l₀.Keeps l) (hc : CollCanon l.coll → CollCanon c) : l₀.Keeps { l with coll := c } :=
  ⟨fun hl => ⟨(h.1 hl).1, (h.1 hl).2.1, (h.1 hl).2.2.1, (h.1 hl).2.2.2.1, hc (h.1 hl).2.2.2.2⟩, h.2⟩

/-- A change of the exchange memory that keeps it canonical. -/
theorem withXmem {b : Bytes} (h : l₀.Keeps l)
    (hb : tabCanon (fun _ => (0 : Byte)) l.xmem = true → tabCanon (fun _ => (0 : Byte)) b = true) :
    l₀.Keeps { l with xmem := b } :=
  ⟨fun hl => ⟨(h.1 hl).1, hb (h.1 hl).2.1, (h.1 hl).2.2⟩, h.2⟩

/-! #### Registers, pins and ports -/

theorem put (h : l₀.Keeps l) (k v : Nat) : l₀.Keeps (l.put k v) := h.withReg fun hr => l.put_canon k v hr

theorem inc (h : l₀.Keeps l) (k : Nat) : l₀.Keeps (l.inc k) := h.put k _

theorem updPort (h : l₀.Keeps l) (e : EndId) (f : Port → Port) : l₀.Keeps (l.updPort e f) := by cases e <;> exact h

theorem announce (h : l₀.Keeps l) : l₀.Keeps l.announce := h

theorem dropSchedule (h : l₀.Keeps l) : l₀.Keeps l.dropSchedule := h

theorem updPin (h : l₀.Keeps l) (n : Nat) (f : Pin → Pin) : l₀.Keeps (l.updPin n f) :=
  h.withPins rfl fun hp => rising_changeAt _ _ _ hp

theorem sample (h : l₀.Keeps l) (kind : Nat) (value : Int) : l₀.Keeps (l.sample kind value) := h

theorem sampleLow (h : l₀.Keeps l) (kind : Nat) (value : Int) : l₀.Keeps (l.sampleLow kind value) := h

theorem takeLimits (h : l₀.Keeps l) : l₀.Keeps l.takeLimits := by
  unfold LaneState.takeLimits
  extract_lets due l'
  exact (h.foldl _ fun _ _ hl => hl.put _ _ : l₀.Keeps l')

theorem setPinBit (h : l₀.Keeps l) (n i : Nat) (b : Bool) : l₀.Keeps (l.setPinBit n i b) := h.put _ _

theorem abortLearn (h : l₀.Keeps l) (n : Nat) : l₀.Keeps (l.abortLearn n) := (h.put _ _).ite h

theorem driverOn (h : l₀.Keeps l) (n : Nat) : l₀.Keeps (l.driverOn n) := ((h.updPin n _).setPinBit _ _ _).inc _

theorem driverOff (h : l₀.Keeps l) (n : Nat) : l₀.Keeps (l.driverOff n) :=
  (((h.updPin n _).setPinBit _ _ _).takeLimits).abortLearn n

theorem settleDriver (h : l₀.Keeps l) (n : Nat) : l₀.Keeps (l.settleDriver n) := (h.driverOn n).ite ((h.driverOff n).ite h)

theorem eachPin {f : LaneState → Nat → LaneState} (h : l₀.Keeps l) (hf : ∀ l n, l₀.Keeps l → l₀.Keeps (f l n)) :
    l₀.Keeps (l.eachPin f) := h.foldl _ hf

theorem commandPins (h : l₀.Keeps l) : l₀.Keeps l.commandPins := by
  have hfrozen : l₀.Keeps (l.updField fun f => { f with frozen := l.poss.frozen }) := h
  refine h.ite (hfrozen.ite (hfrozen.eachPin fun l n hl => ?_))
  have hlatch := hl.ite (c := (isOutput (l.pinFunction n) && l.valueInForce n || !l.latched n) = true)
    ((hl.setPinBit n 13 false).setPinBit n 12 false)
  exact (hlatch.updPin n _).settleDriver n

theorem drivePins (h : l₀.Keeps l) : l₀.Keeps l.drivePins := h.commandPins.ite h

theorem takeSafeStates (h : l₀.Keeps l) : l₀.Keeps l.takeSafeStates :=
  have hsafe : l₀.Keeps { l.updField (fun f => { f with safe := true, report := true, frozen := false, fed := false, barred := true })
    with poss := { l.poss with frozen := false } } := h
  (hsafe.eachPin fun _ n hl => ((hl.updPin n _).settleDriver n).ite hl).inc _

theorem watchdogExpires (h : l₀.Keeps l) : l₀.Keeps l.watchdogExpires := h.takeSafeStates.ite h

theorem fieldSafe (h : l₀.Keeps l) : l₀.Keeps l.fieldSafe :=
  have hdown : l₀.Keeps (l.updField fun f => { f with linkUp := false }) := h
  hdown.watchdogExpires

theorem changeFunction (h : l₀.Keeps l) (n v : Nat) : l₀.Keeps (l.changeFunction n v) :=
  ((((h.abortLearn n).put _ _).put _ _).put _ _).takeLimits.updPin n _

/-- Registers without some of their entries. -/
theorem filterReg (h : l₀.Keeps l) (p : Nat × Nat → Bool) : l₀.Keeps { l with reg := l.reg.filter p } :=
  h.withReg (tabCanon_filter p)

theorem fieldUnpowered (h : l₀.Keeps l) : l₀.Keeps l.fieldUnpowered :=
  have hreset := (h.filterReg fun e => !fieldRegister e.1 && e.1 / 256 ≠ 0x4030).withPins (f := .reset) rfl
    fun _ => List.Pairwise.nil
  hreset.takeLimits

theorem fieldPowered (h : l₀.Keeps l) : l₀.Keeps l.fieldPowered :=
  h.ite (h.fieldUnpowered.withPins rfl fun _ => List.Pairwise.nil)

theorem watchOutputs (h : l₀.Keeps l) : l₀.Keeps l.watchOutputs := h.eachPin fun _ n hl => hl.updPin n _

theorem seeOutputs (h : l₀.Keeps l) (now : Nat) : l₀.Keeps (l.seeOutputs now) :=
  h.eachPin fun _ n hl => hl.ite (hl.updPin n _)

/-! #### The car bus -/

theorem setPending (h : l₀.Keeps l) (t : Nat) (b : Bool) : l₀.Keeps (l.setPending t b) := h.put _ _

theorem setCollisions (h : l₀.Keeps l) (t n : Nat) : l₀.Keeps (l.setCollisions t n) := h.put _ _

theorem eachTx {f : LaneState → Nat → LaneState} (h : l₀.Keeps l) (hf : ∀ l t, l₀.Keeps l → l₀.Keeps (f l t)) :
    l₀.Keeps (l.eachTx f) := h.foldl _ hf

theorem markTriple (h : l₀.Keeps l) : l₀.Keeps l.markTriple := (h.put _ _).ite h

theorem carBusStart (h : l₀.Keeps l) : l₀.Keeps l.carBusStart :=
  have hstart := (h.eachTx fun _ t hl => (hl.setPending t false).setCollisions t 0).markTriple
  hstart

theorem carBusRestart (h : l₀.Keeps l) : l₀.Keeps l.carBusRestart := (h.filterReg _).carBusStart

theorem renewBuffers (h : l₀.Keeps l) : l₀.Keeps l.renewBuffers := h.foldl _ fun _ _ hl => (hl.put _ _).ite hl

theorem shadowPut (h : l₀.Keeps l) (k v : Nat) : l₀.Keeps (l.shadowPut k v) := h

theorem renewSubscriptions (h : l₀.Keeps l) : l₀.Keeps l.renewSubscriptions := h

theorem withHoldOff (h : l₀.Keeps l) : l₀.Keeps (l.updField fun f => { f with holdOff := true }) := h

theorem takePulse (h : l₀.Keeps l) (level : Bool) : l₀.Keeps (l.takePulse level) := h

/-- A lane that starts anew takes the pins of the field side that kept its power. -/
theorem keepField {old : LaneState} (h : l₀.Keeps l) (hold : l₀.Keeps old) : l₀.Keeps (l.keepField old) := by
  have hfield : l₀.Keeps { l with field := if old.field.powered then { old.field with linkUp := false, barred := false }
      else { FieldState.reset with powered := true } } := by
    refine ⟨fun hc => ⟨(h.1 hc).1, (h.1 hc).2.1, ?_, (h.1 hc).2.2.2⟩, h.2⟩
    dsimp only
    split
    · exact (hold.1 hc).2.2.1
    · exact List.Pairwise.nil
  exact ((hfield.foldl _ fun _ e hl => hl.put _ _).eachPin fun _ n hl =>
    (hl.setPinBit n 6 false).ite ((hl.setPinBit n 6 false).changeFunction n _)).carBusStart

theorem dropServiceBuffers (h : l₀.Keeps l) : l₀.Keeps l.dropServiceBuffers := h

/-! #### Reads with a side effect and locks -/

theorem readEffect (h : l₀.Keeps l) (index sub : Nat) : l₀.Keeps (l.readEffect index sub) :=
  (h.put _ _).ite ((h.put _ _).ite ((h.updPin _ _).ite h))

theorem grantLock (h : l₀.Keeps l) (k : Lock) : l₀.Keeps (l.grantLock k) := h

/-! #### The recorder -/

theorem eachCopy (h : l₀.Keeps l) (f : CtlCopy → CtlCopy) : l₀.Keeps (l.eachCopy f) := h

theorem lose (h : l₀.Keeps l) (code : Nat) : l₀.Keeps (l.lose code) := by
  obtain ⟨_, _, reg, he, -, hc⟩ := l.lose_frame code
  rw [he]
  exact (h.withReg hc)

theorem record (h : l₀.Keeps l) (holdUp : Bool) (code : Nat) (data : List Byte) : l₀.Keeps (l.record holdUp code data) :=
  have hover : l₀.Keeps { l.lose code with log := { (l.lose code).log with overflow := true } } := h.lose code
  have hqueue : l₀.Keeps { l with log := { l.log with queue := l.log.queue ++ [l.event holdUp code data] } } := h
  h.ite ((h.lose code).ite (hover.ite hqueue))

/-- The log of a lane is no part of what is kept. -/
theorem withLog (h : l₀.Keeps l) (r : Recorder) : l₀.Keeps { l with log := r } := h

theorem place (h : l₀.Keeps l) (holdUp : Bool) (q : Queued) : l₀.Keeps (l.place holdUp q) := ((h.withLog _).put _ _).put _ _

theorem placeFinal (h : l₀.Keeps l) (holdUp : Bool) (q : Queued) : l₀.Keeps (l.placeFinal holdUp q) :=
  (h.lose _).ite (((h.withLog _).put _ _).put _ _)

theorem failRecorder (h : l₀.Keeps l) (holdUp : Bool) (cause slot : Nat) : l₀.Keeps (l.failRecorder holdUp cause slot) :=
  have hfinal (q : Queued) := (h.withLog { l.log with failed := some cause }).placeFinal holdUp q
  (hfinal _).ite ((hfinal _).placeFinal _ _)

theorem badSlot (h : l₀.Keeps l) : l₀.Keeps l.badSlot := ((h.withLog _).put _ _).put _ _

theorem closeFullLog (h : l₀.Keeps l) (holdUp closes : Bool) : l₀.Keeps (l.closeFullLog holdUp closes) :=
  ((((h.withLog _).put _ _).failRecorder _ _ _).ite ((h.place _ _).ite (h.badSlot.failRecorder _ _ _))).ite h

theorem writeRecord (h : l₀.Keeps l) (holdUp ok closes : Bool) (q : Queued) : l₀.Keeps (l.writeRecord holdUp ok closes q) := by
  have hclosed := ((h.withLog l.log.passWorn).badSlot).closeFullLog holdUp closes
  exact (((h.withLog _).put _ _).failRecorder _ _ _).ite (((h.place _ _).closeFullLog _ _).ite
    (hclosed.ite ((hclosed.failRecorder _ _ _).ite ((hclosed.failRecorder _ _ _).ite hclosed))))

theorem flushOne (h : l₀.Keeps l) (holdUp : Bool) (q : Queued) : l₀.Keeps (l.flushOne holdUp q) := by
  have written (l : LaneState) (hl : l₀.Keeps l) (ok : Bool) (outcomes : List Bool) :
      l₀.Keeps (({ l with log := { l.log with outcomes := outcomes } } : LaneState).writeRecord holdUp ok true q) :=
    (hl.withLog _).writeRecord _ _ _ _
  have hw := written l h
  exact (h.lose _).ite ((hw _ _).ite (((hw _ _).lose _).ite ((written _ (hw _ _) _ _).ite ((written _ (hw _ _) _ _).lose _))))

theorem flushQueue (h : l₀.Keeps l) (holdUp : Bool) : l₀.Keeps (l.flushQueue holdUp) :=
  (h.withLog _).foldl _ fun _ q hl => hl.flushOne holdUp q

theorem rewriteControl (h : l₀.Keeps l) : l₀.Keeps l.rewriteControl := h

/-! #### Ports and bypass -/

theorem countPortBy (h : l₀.Keeps l) (e : EndId) (index n : Nat) : l₀.Keeps (l.countPortBy e index n) :=
  ((h.put _ _).put _ _).ite (h.put _ _)

theorem flushEgress (h : l₀.Keeps l) (e : EndId) : l₀.Keeps (l.flushEgress e) :=
  (h.updPort e _).ite ((h.updPort e _).countPortBy _ _ _)

theorem dropPort (h : l₀.Keeps l) (now : Nat) (e : EndId) (step : Step) (counted : Bool) :
    l₀.Keeps (l.dropPort now e step counted) := by
  have hdown (f : Port → Port) := (((h.flushEgress e).updPort e f).put (key 0x200D (endSub e)) 0).put (key 0x400C (endSub e)) 0
  exact ((((hdown _).inc _).updPort _ _).ite ((hdown _).inc _)).ite (hdown _)

theorem closeBypass (h : l₀.Keeps l) : l₀.Keeps l.closeBypass := h

theorem portsStart (h : l₀.Keeps l) : l₀.Keeps l.portsStart := (h.updPort _ _).updPort _ _

theorem dropPorts (h : l₀.Keeps l) (now : Nat) (step : Step) : l₀.Keeps (l.dropPorts now step) :=
  (h.dropPort now _ _ _).dropPort now _ _ _

theorem countLinkLost (h : l₀.Keeps l) (e : EndId) : l₀.Keeps (l.countLinkLost e) := (h.inc _).ite h

/-! #### Restart and power -/

theorem keepActivation (h : l₀.Keeps l) (old : LaneState) : l₀.Keeps (l.keepActivation old) := (h.put _ _).ite h

theorem startIncrement (h : l₀.Keeps l) : l₀.Keeps l.startIncrement := h.put _ _

theorem canon_restartRegs {r : Regs} (h : tabCanon regDefault r = true) : tabCanon regDefault (restartRegs r) = true := by
  unfold restartRegs
  extract_lets kept
  have hkept : tabCanon regDefault kept = true := tabCanon_filter _ h
  split
  · exact tabCanon_filter _ hkept
  · exact hkept

/-- A restart is into a mode other than possession. -/
theorem restart (h : l₀.Keeps l) (holdUp : Bool) {mode : Mode} (hm : mode ≠ .possession) :
    l₀.Keeps (l.restart holdUp mode) := by
  unfold LaneState.restart
  extract_lets closed
  have hclosed : l₀.Keeps closed := ((h.flushQueue holdUp).countLinkLost .e1).countLinkLost .e2
  refine ((Keeps.keepField ?_ hclosed).keepActivation _).startIncrement
  exact ⟨fun hc => ⟨canon_restartRegs (hclosed.1 hc).1, rfl, List.Pairwise.nil, List.Pairwise.nil, rfl, rfl⟩,
    fun e => absurd e hm⟩

theorem countPowerCycle (h : l₀.Keeps l) : l₀.Keeps l.countPowerCycle := h

theorem powerUp (h : l₀.Keeps l) : l₀.Keeps l.powerUp := by
  have hboot := h.countPowerCycle.withMode (k := .booting) (by decide)
  exact (((hboot.withLog _).put _ _).put _ _).fieldPowered

theorem deferPlan (h : l₀.Keeps l) : l₀.Keeps l.deferPlan := (h.put _ _).ite h

/-! #### Resets of blocks -/

theorem timebaseRestart (h : l₀.Keeps l) : l₀.Keeps l.timebaseRestart :=
  have htime : l₀.Keeps { l with time := { TimeState.reset with syncSeq := l.time.syncSeq } } := h
  (((((htime.put _ _).put _ _).put _ _).put _ _).put _ _).foldl _ fun _ _ hl => (hl.put _ _).put _ _

theorem portsRestart (h : l₀.Keeps l) (now : Nat) : l₀.Keeps (l.portsRestart now) :=
  have hdown := (((h.dropPort now _ _ _).dropPort now _ _ _).closeBypass).put 0x220600 1024
  hdown

end LaneState.Keeps
end Sys2Proof.Machine

namespace Sys2Proof.Machine

/-! ### What the shared operations keep -/

namespace State.Keeps

variable {a : Option LaneId} {s t u : State}

theorem self : Keeps a s s := ⟨id, ⟨.inr, .inr⟩, rfl, rfl, rfl, rfl, rfl⟩

theorem ite {c : Prop} [Decidable c] (h : Keeps a s t) (h' : Keeps a s u) : Keeps a s (if c then t else u) := by
  split
  · exact h
  · exact h'

theorem foldl {α : Type} {f : State → α → State} (h : Keeps a s t) (xs : List α)
    (hf : ∀ u b, Keeps a s u → Keeps a s (f u b)) : Keeps a s (xs.foldl f t) :=
  List.foldlRecOn (motive := Keeps a s) xs f h fun u hu b _ => hf u b hu

/-! #### Lanes, registers and the parts of the module -/

theorem setLane (h : Keeps a s t) (x : LaneId) {l : LaneState} (hl : (t.lane x).Keeps l) : Keeps a s (t.setLane x l) := by
  obtain ⟨hc, ⟨hA, hB⟩, hrest⟩ := h
  cases x
  · exact ⟨fun h₀ => ⟨(hc h₀).1, (hc h₀).2.1, (hc h₀).2.2.1, hl.1 (hc h₀).2.2.2.1, (hc h₀).2.2.2.2⟩, ⟨hA ∘ hl.2, hB⟩, hrest⟩
  · exact ⟨fun h₀ => ⟨(hc h₀).1, (hc h₀).2.1, (hc h₀).2.2.1, (hc h₀).2.2.2.1, hl.1 (hc h₀).2.2.2.2⟩, ⟨hA, hB ∘ hl.2⟩, hrest⟩

theorem upd (h : Keeps a s t) (x : LaneId) {f : LaneState → LaneState} (hf : ∀ l : LaneState, l.Keeps l → l.Keeps (f l)) :
    Keeps a s (t.upd x f) := h.setLane x (hf _ .self)

theorem updBoth (h : Keeps a s t) {f : LaneState → LaneState} (hf : ∀ l : LaneState, l.Keeps l → l.Keeps (f l)) :
    Keeps a s (t.updBoth f) := (h.upd .A hf).upd .B hf

theorem put (h : Keeps a s t) (x : LaneId) (k v : Nat) : Keeps a s (t.put x k v) := h.upd x fun _ hl => hl.put k v

theorem inc (h : Keeps a s t) (x : LaneId) (k : Nat) : Keeps a s (t.inc x k) := h.upd x fun _ hl => hl.inc k

theorem putNode (h : Keeps a s t) (k v : Nat) : Keeps a s (t.putNode k v) := h.updBoth fun _ hl => hl.put k v

/-- A change of the module-level registers that keeps them canonical. -/
theorem withMreg {r : Regs} (h : Keeps a s t) (hr : tabCanon regDefault t.mreg = true → tabCanon regDefault r = true) :
    Keeps a s { t with mreg := r } :=
  ⟨fun h₀ => ⟨hr (h.1 h₀).1, (h.1 h₀).2⟩, h.2⟩

theorem mput (h : Keeps a s t) (k v : Nat) : Keeps a s (t.mput k v) := h.withMreg (tabCanon_tabSet k _)

theorem minc (h : Keeps a s t) (k : Nat) : Keeps a s (t.minc k) := h.mput k _

theorem free (h : Keeps a s t) (w : Nat) : Keeps a s (t.free w).2 := h

theorem withKeeper (h : Keeps a s t) (k : Keeper) : Keeps a s { t with keeper := k } := h

theorem withArb (h : Keeps a s t) (k : Arbiter) : Keeps a s { t with arb := k } := h

theorem withArbKeeper (h : Keeps a s t) (r : Arbiter) (k : Keeper) : Keeps a s { t with arb := r, keeper := k } := h

/-- A change of the keys and sessions that leaves the firmware keys alone. -/
theorem withSec {k : Security} (h : Keeps a s t) (hk : k.fwKeys = t.sec.fwKeys) : Keeps a s { t with sec := k } := by
  obtain ⟨hc, hm, hp, hu, hv, hf, hcl⟩ := h
  exact ⟨hc, hm, hp, hu, hv, hk.trans hf, hcl⟩

/-- A change of the host front that keeps its windows in rising order. -/
theorem withHost {k : HostState} (h : Keeps a s t) (hk : Rising t.host.wins → Rising k.wins) :
    Keeps a s { t with host := k } :=
  ⟨fun h₀ => ⟨(h.1 h₀).1, (h.1 h₀).2.1, hk (h.1 h₀).2.2.1, (h.1 h₀).2.2.2⟩, h.2⟩

/-- A change of the module's collector that keeps its tables canonical. -/
theorem withColl {k : Collector} (h : Keeps a s t) (hk : CollCanon t.coll → CollCanon k) : Keeps a s { t with coll := k } :=
  ⟨fun h₀ => ⟨(h.1 h₀).1, hk (h.1 h₀).2.1, (h.1 h₀).2.2⟩, h.2⟩

theorem updColl (h : Keeps a s t) (c : CollectorId) {f : Collector → Collector}
    (hf : ∀ k, CollCanon k → CollCanon (f k)) : Keeps a s (t.updColl c f) := by
  cases c with
  | lane x => exact h.upd x fun _ hl => hl.withColl (hf _)
  | module => exact h.withColl (hf _)

/-! #### Units -/

theorem compareOutputs (h : Keeps a s t) : Keeps a s t.compareOutputs := by
  unfold State.compareOutputs
  split
  · exact h
  · exact h.ite (Keeps.withArb (h.upd _ fun _ hl => hl.seeOutputs _) _)

theorem outputsOff (h : Keeps a s t) (x : LaneId) : Keeps a s (t.outputsOff x) := h.upd x fun _ hl => hl.drivePins

theorem takeOver (h : Keeps a s t) (x : LaneId) : Keeps a s (t.takeOver x) := by
  unfold State.takeOver
  extract_lets p master s₁
  have h₁ : Keeps a s s₁ := by
    refine h.upd x fun l hl => ?_
    extract_lets l₁ l₂ l₃
    have hl₁ : l.Keeps l₁ := hl.renewSubscriptions.renewBuffers.takePulse _
    have hl₃ : l.Keeps l₃ := hl₁.withHoldOff.drivePins
    split
    · exact (hl₃.put _ _).put _ _
    · exact hl₃
  split
  · exact h₁.upd _ fun _ hl => hl.put _ _
  · exact h₁

theorem endServiceSessions (h : Keeps a s t) : Keeps a s t.endServiceSessions :=
  (h.withSec (k := { t.sec with sessions := t.sec.sessions.map ServiceSession.close }) rfl).updBoth fun _ hl => hl.dropServiceBuffers

/-! #### The host front -/

theorem updWin (h : Keeps a s t) (w : Nat) (f : Win → Win) : Keeps a s (t.updWin w f) :=
  h.withHost fun hw => rising_changeAt _ _ _ hw

theorem respond (h : Keeps a s t) (status words : Nat) (data : List Nat) (code : Nat) :
    Keeps a s (t.respond status words data code) := h.withHost id

theorem lateError (h : Keeps a s t) (path addr code : Nat) : Keeps a s (t.lateError path addr code) :=
  have hput := (((((h.mput 0x590006 addr).mput 0x590007 code).mput 0x590008 _).mput 0x590009 path).minc 0x590005).mput 0x590003 _
  (hput.minc _).ite hput

theorem popPath (h : Keeps a s t) (path : Nat) : Keeps a s (t.popPath path) := h

theorem queuedDone (h : Keeps a s t) (path : Nat) (r : HostReq) (code : Nat) : Keeps a s (t.queuedDone path r code) :=
  (h.popPath path).ite ((h.popPath path).lateError _ _ _)

theorem updMirrored (h : Keeps a s t) (x : LaneId) {f : LaneState → LaneState}
    (hf : ∀ l : LaneState, l.Keeps l → l.Keeps (f l)) : Keeps a s (t.updMirrored x f) :=
  ((h.upd x hf).upd x.peer hf).ite (h.upd x hf)

theorem finishRead (h : Keeps a s t) (x : LaneId) (r : HostReq) : Keeps a s (t.finishRead x r).1 := by
  unfold State.finishRead
  extract_lets l n short
  split
  · split
    · exact h.upd x fun _ hl => hl.readEffect _ _
    · exact h
  · dsimp only
    split_ifs
    · exact h
    · exact (h.upd x fun _ hl => hl.foldl _ fun _ _ hm => hm.readEffect _ _).updMirrored x fun _ hl => hl.grantLock _
    · exact h
    · exact h.upd x fun _ hl => hl.foldl _ fun _ _ hm => hm.readEffect _ _

theorem readAtRelease (h : Keeps a s t) (x : LaneId) (silent : Bool) (r : HostReq) {d : State × List Nat × Nat}
    (hd : t.readAtRelease x silent r = some d) : Keeps a s d.1 := by
  unfold State.readAtRelease at hd
  split at hd
  · cases hd
  · split at hd
    · cases hd
      exact h
    · split at hd
      · cases hd
      · cases hd
        exact h.finishRead x r

/-- An access that a release finishes, if there is one. -/
theorem ofRead (h : Keeps a s t) (x : LaneId) (silent : Bool) (r : HostReq) {f : State × List Nat × Nat → State}
    (hf : ∀ d, Keeps a s d.1 → Keeps a s (f d)) : Keeps a s (((t.readAtRelease x silent r).map f).getD t) := by
  cases hd : t.readAtRelease x silent r with
  | none => exact h
  | some d => exact hf d (h.readAtRelease x silent r hd)

theorem hostAtRelease (h : Keeps a s t) (x : LaneId) (silent : Bool) : Keeps a s (t.hostAtRelease x silent) := by
  unfold State.hostAtRelease
  extract_lets _ s₁ s₂
  have hs₁ : Keeps a s s₁ := h.withHost id
  have hs₂ : Keeps a s s₂ := (hs₁.upd x fun _ hl => hl.eachPin fun _ n hm => hm.abortLearn n).endServiceSessions
  split
  · exact hs₂.ofRead x silent _ fun d hd => hd.queuedDone _ _ _
  · exact hs₂.ofRead x silent _ fun d hd => hd.respond _ _ _ _
  · exact hs₂

theorem hostFrontReset (h : Keeps a s t) : Keeps a s t.hostFrontReset := by
  have hboth : Keeps a s (t.updBoth fun l => { l with time := { l.time with pulseHeld := false } }) := h.updBoth fun _ hl => hl
  have hhost := hboth.withHost (k := { HostState.reset with rejects := t.host.rejects }) fun _ => List.Pairwise.nil
  exact (hhost.withMreg (tabCanon_tabSet 0x590002 0)).withSec rfl

/-! #### Recording, answers and Roll triggers -/

theorem record (h : Keeps a s t) (x : LaneId) (code : Nat) (data : List Byte) : Keeps a s (t.record x code data) :=
  h.upd x fun _ hl => hl.record _ _ _

theorem recordBoth (h : Keeps a s t) (code : Nat) (data : List Byte) : Keeps a s (t.recordBoth code data) :=
  (h.record _ _ _).record _ _ _

theorem answer (h : Keeps a s t) (v : Nat) : Keeps a s (t.answer v) := h

theorem answerBytes (h : Keeps a s t) (d : List Byte) : Keeps a s (t.answerBytes d) := h

theorem abort (h : Keeps a s t) (code : Nat) : Keeps a s (t.abort code) := h

theorem refuse (h : Keeps a s t) (acc : Acc) (index sub : Nat) : Keeps a s (t.refuse acc index sub) := by
  unfold State.refuse
  split
  · exact (h.record _ _ _).abort _
  · exact (h.recordBoth _ _).abort _

theorem rollTrigger (h : Keeps a s t) (x : LaneId) (code : Nat) : Keeps a s (t.rollTrigger x code) :=
  h.ite (h.upd x fun _ hl => hl)

theorem rollTriggerNode (h : Keeps a s t) (code : Nat) : Keeps a s (t.rollTriggerNode code) :=
  (h.rollTrigger _ _).rollTrigger _ _

theorem dropPort (h : Keeps a s t) (x : LaneId) (e : EndId) (step : Step) (counted : Bool) :
    Keeps a s (t.dropPort x e step counted) :=
  have hdrop := h.upd x fun _ hl => hl.dropPort t.clock e step counted
  (hdrop.rollTrigger x 1).ite hdrop

theorem noteCab (h : Keeps a s t) (x : LaneId) : Keeps a s (t.noteCab x) := h.upd x fun _ hl => hl

theorem checkCab (h : Keeps a s t) (x : LaneId) (own : Bool) : Keeps a s (t.checkCab x own) :=
  h.ite (((h.noteCab x).rollTrigger x 3).ite (h.noteCab x))

theorem tossCheck (h : Keeps a s t) : Keeps a s t.tossCheck := h

/-! #### Possession -/

theorem possessionCause (h : Keeps a s t) : Keeps a s t.possessionCause := h.mput _ _

theorem release (h : Keeps a s t) (x : LaneId) (cause : Nat) : Keeps a s (t.release x cause) := by
  refine .ite h (.hostAtRelease (.possessionCause (.withArbKeeper (.upd h x fun l hl => ?_) _ _)) x false)
  exact (hl.withMode (k := .releasing) (by decide)).withPoss _

theorem abandonUpdate (h : Keeps a s t) (x : LaneId) : Keeps a s (t.abandonUpdate x) :=
  have hput := h.upd x (f := fun l => { l.put 0x112000 0 with upd := { l.upd with image := [], erased := false, length := 0 } })
    fun _ hl => hl.put 0x112000 0
  (hput.record x _ _).ite h

/-- The lane that acquires may be in possession from then on. -/
theorem setPossession (h : Keeps (some x) s t) {f : LaneState → LaneState}
    (hf : LaneCanon (t.lane x) → LaneCanon (f (t.lane x))) : Keeps (some x) s (t.upd x f) := by
  obtain ⟨hc, ⟨hA, hB⟩, hrest⟩ := h
  cases x
  · exact ⟨fun h₀ => ⟨(hc h₀).1, (hc h₀).2.1, (hc h₀).2.2.1, hf (hc h₀).2.2.2.1, (hc h₀).2.2.2.2⟩, ⟨fun _ => .inl rfl, hB⟩, hrest⟩
  · exact ⟨fun h₀ => ⟨(hc h₀).1, (hc h₀).2.1, (hc h₀).2.2.1, (hc h₀).2.2.2.1, hf (hc h₀).2.2.2.2⟩, ⟨hA, fun _ => .inl rfl⟩, hrest⟩

theorem acquire {x : LaneId} (h : Keeps (some x) s t) (cause : Nat) : Keeps (some x) s (t.acquire x cause) := by
  unfold State.acquire
  refine ((Keeps.abandonUpdate (.record (.putNode (.putNode ?_ _ _) _ _) x _ _) x).possessionCause).takeOver x
  refine .ite (.putNode ?watched _ _) ?watched
  case watched =>
    refine .upd (.withArbKeeper (.upd (.setPossession h ?_) x.peer fun l hl => ?_) _ _) x fun _ hl => hl.watchOutputs
    · exact fun hc => hc
    · exact hl.withPoss _

/-! #### Restart and power -/

theorem restoreModule (h : Keeps a s t) : Keeps a s t.restoreModule :=
  (h.withMreg (tabCanon_filter _)).foldl _ fun _ w hu => hu.updWin w _

theorem takeDefaults (h : Keeps a s t) (x : LaneId) : Keeps a s (t.takeDefaults x) := h.restoreModule.ite h

theorem lastWord (h : Keeps a s t) (x : LaneId) : Keeps a s (t.lastWord x) := .ite (.upd h _ fun _ hl => hl) h

theorem laneReset (h : Keeps a s t) (x : LaneId) (relCause cause source : Nat) :
    Keeps a s (t.laneReset x relCause cause source) := by
  have htaken := (((h.release x relCause).lastWord x).abandonUpdate x).takeDefaults x
  refine .tossCheck (.upd htaken x fun l hl => .withPoss ?_ _)
  exact ((hl.put 0x140B01 cause).put 0x140B02 source).restart _ (by decide)

/-- A lane goes off into a mode other than possession. -/
theorem laneOff (h : Keeps a s t) (x : LaneId) {mode : Mode} (hm : mode ≠ .possession) (code : Nat) (data : List Byte) :
    Keeps a s (t.laneOff x mode code data) := by
  refine .ite (.tossCheck (.upd ((h.record x code data).takeDefaults x) x fun l hl => ?_)) (.upd h x fun _ hl => hl.withMode hm)
  have hoff := (((hl.flushQueue t.keeper.onHoldUp).rewriteControl).restart t.keeper.onHoldUp hm).fieldUnpowered
  exact .ite hoff (.withPorts hoff _ _)

/-! #### Faults -/

theorem recordReaction (h : Keeps a s t) (c : CollectorId) (r : Taken) : Keeps a s (t.recordReaction c r) := by
  cases c with
  | lane x => exact (h.record x _ _).inc x _
  | module => exact ((h.record .A _ _).record .B _ _).minc _

theorem classReaction (h : Keeps a s t) (c : CollectorId) (hits : List SourceHit) (cls : Nat) :
    Keeps a s (t.classReaction c hits cls).2 := by
  unfold State.classReaction
  extract_lets mine cl lv taken reacted
  split
  · exact h
  · split
    · exact h.updColl c fun _ hk => ⟨hk.1, tabCanon_tabSet _ _ hk.2⟩
    · dsimp only [reacted]
      split
      · exact h.updColl c fun _ hk => collCanon_level hk _ _
      · exact h

theorem domainReset (h : Keeps a s t) (x : LaneId) (domain source : Nat) : Keeps a s (t.domainReset x domain source) := by
  have hreset := h.laneReset x 1 3 source
  have hmark := h.updColl (.lane x) (f := fun k => { k with
    domains := (source, domain) :: k.domains, resets := source :: k.resets }) fun _ hk => hk
  exact ((hreset.upd x fun _ hl => hl.countPowerCycle).ite hreset).ite
    ((((hmark.dropPort x _ _ _).dropPort x _ _ _).upd x fun _ hl => hl.closeBypass).ite
      ((hmark.upd x fun _ hl => hl.carBusRestart).ite
        (((hmark.upd x fun _ hl => hl.fieldUnpowered).checkCab x _).ite hmark)))

theorem laneBlockReset (h : Keeps a s t) (x : LaneId) (r : Taken) : Keeps a s (t.laneBlockReset x r) := by
  have mark {u : State} (hu : Keeps a s u) :
      Keeps a s (u.updColl (.lane x) fun k => { k with resets := r.source :: k.resets }) := hu.updColl _ fun _ hk => hk
  unfold State.laneBlockReset
  extract_lets m
  split
  · exact h.domainReset x _ _
  · exact (mark (h.upd x fun _ hl => hl.portsRestart _)).rollTrigger x 2
  · exact mark (h.upd x fun _ hl => hl.timebaseRestart)
  · exact mark (h.upd x fun _ hl => hl.carBusRestart)
  · exact mark (h.upd x fun _ hl => hl.fieldSafe)
  · exact mark h
  · exact mark (h.upd x fun _ hl => hl)
  · exact h.laneReset x _ _ _

theorem moduleBlockReset (h : Keeps a s t) (r : Taken) : Keeps a s (t.moduleBlockReset r) := by
  have hmark : Keeps a s (t.updColl .module fun k => { k with resets := r.source :: k.resets }) := h.updColl _ fun _ hk => hk
  unfold State.moduleBlockReset
  split
  · exact hmark.withArb _
  · exact hmark.hostFrontReset
  · exact hmark

theorem laneStop (h : Keeps a s t) (x : LaneId) (source : Nat) : Keeps a s (t.laneStop x source) :=
  (h.laneReset x 1 2 source).upd x fun _ hl => hl.withMode (by decide)

theorem laneBlockResets (h : Keeps a s t) (x : LaneId) (rs : List Taken) : Keeps a s (t.laneBlockResets x rs) := by
  unfold State.laneBlockResets
  split
  · exact h.laneBlockReset x _
  · exact h.foldl _ fun _ _ hu => hu.laneBlockReset x _

theorem carryOut (h : Keeps a s t) (c : CollectorId) (taken : List Taken) : Keeps a s (t.carryOut c taken) := by
  unfold State.carryOut
  extract_lets top highest
  cases c with
  | lane x =>
    have hreleased : Keeps a s (t.release x 1) := h.release x 1
    refine .ite h ?_
    generalize highest = hs
    cases hs with
    | nil => exact hreleased
    | cons r rs => exact .ite (hreleased.laneStop _ _) (.ite (hreleased.laneReset _ _ _ _) (hreleased.laneBlockResets _ _))
  | module => exact h.ite (h.foldl _ fun _ _ hu => hu.moduleBlockReset _)

theorem decideFaults (h : Keeps a s t) (c : CollectorId) (hits : List SourceHit) : Keeps a s (t.decideFaults c hits).2 := by
  unfold State.decideFaults
  extract_lets old s₁ new s₂
  have h₁ : Keeps a s s₁ := h.updColl c fun _ hk => List.foldlRecOn _ _ hk fun _ hm _ _ => hm
  have h₂ : Keeps a s s₂ := h₁.updColl c fun _ hk => List.foldlRecOn _ _ hk fun _ hm _ _ => hm
  refine List.foldlRecOn (motive := fun acc : List Taken × State => Keeps a s acc.2) _ _ (.ite (h₂.withArb _) h₂)
    fun acc hacc cls _ => hacc.classReaction c new cls

theorem react (h : Keeps a s t) (c : CollectorId) (taken : List Taken) : Keeps a s (t.react c taken) :=
  ((h.foldl _ fun _ r hu => hu.recordReaction c r).carryOut c taken).tossCheck

theorem enterFaults (h : Keeps a s t) (c : CollectorId) (hits : List SourceHit) : Keeps a s (t.enterFaults c hits) :=
  (h.decideFaults c hits).react c _

theorem raise (h : Keeps a s t) (c : CollectorId) (n : Nat) : Keeps a s (t.raise c n) := (h.enterFaults c _).ite h

theorem raiseLane (h : Keeps a s t) (x : LaneId) (n : Nat) : Keeps a s (t.raiseLane x n) := h.raise _ n

theorem lower (h : Keeps a s t) (c : CollectorId) (n : Nat) : Keeps a s (t.lower c n) := h.updColl c fun _ hk => hk

theorem follow (h : Keeps a s t) (x : LaneId) (n : Nat) (b : Bool) : Keeps a s (t.follow x n b) :=
  (h.raiseLane x n).ite (h.lower _ n)

theorem hostLinkQuiet (h : Keeps a s t) : Keeps a s t.hostLinkQuiet := by
  unfold State.hostLinkQuiet
  split
  · exact (h.lower _ _).ite h
  · exact h

theorem followLimits (h : Keeps a s t) (x : LaneId) : Keeps a s (t.followLimits x) :=
  ((h.follow x 108 _).follow x 109 _).ite h

theorem followConflicts (h : Keeps a s t) (x : LaneId) : Keeps a s (t.followConflicts x) := h.follow x 107 _

/-! #### The checks of an access and fanning out -/

theorem through (h : Keeps a s t) (acc : Acc) (hu : Keeps a s u) : Keeps a s (t.through acc u) := h.ite hu

theorem commandAt (h : Keeps a s t) (target : Option LaneId) (acc : Acc) (index sub role : Nat) (state : LaneId → Bool)
    (value : Bool) {run : LaneId → State} (hr : ∀ x, Keeps a s (run x)) :
    Keeps a s (t.commandAt target acc index sub role state value run) := by
  unfold State.commandAt
  split
  · exact h.abort _
  · exact (h.abort _).ite ((h.abort _).ite ((h.refuse acc index sub).ite ((h.abort _).ite (hr _))))

theorem command (h : Keeps a s t) (acc : Acc) (index sub role : Nat) (state : LaneId → Bool) (value : Bool)
    {run : LaneId → State} (hr : ∀ x, Keeps a s (run x)) : Keeps a s (t.command acc index sub role state value run) :=
  h.commandAt _ acc index sub role state value hr

theorem moduleCommand (h : Keeps a s t) (acc : Acc) (index sub role : Nat) (state value : Bool) (hr : Keeps a s u) :
    Keeps a s (t.moduleCommand acc index sub role state value u) :=
  (h.abort _).ite ((h.abort _).ite ((h.refuse acc index sub).ite ((h.abort _).ite hr)))

theorem owes (h : Keeps a s t) (u : State) : Keeps a s (u.owes t) := by
  obtain ⟨o, e⟩ := u.owes_frame t
  rw [e]
  exact h

theorem fanOutEach (h : Keeps a s t) (sel : Sel) {f : LaneId → LaneState → LaneState}
    (hf : ∀ x (l : LaneState), l.Keeps l → l.Keeps (f x l)) : Keeps a s (t.fanOutEach sel f) := by
  cases sel with
  | lane x => exact h.upd x (hf x)
  | acting =>
    have hA : Keeps a s (if t.laneA.reached then t.upd .A (f .A) else t) := (h.upd .A (hf .A)).ite h
    exact ((hA.upd .B (hf .B)).ite hA).owes t

theorem fanOut (h : Keeps a s t) (sel : Sel) {f : LaneState → LaneState} (hf : ∀ l : LaneState, l.Keeps l → l.Keeps (f l)) :
    Keeps a s (t.fanOut sel f) := h.fanOutEach sel fun _ => hf

theorem writeNode (h : Keeps a s t) (acc : Acc) {f : LaneState → LaneState}
    (hf : ∀ l : LaneState, l.Keeps l → l.Keeps (f l)) : Keeps a s (t.writeNode acc f) := by
  unfold State.writeNode
  split
  · exact h.fanOut .acting hf
  · exact ((h.upd _ hf).upd _ hf).ite (h.upd _ hf)

end State.Keeps
end Sys2Proof.Machine

namespace Sys2Proof.Machine

/-! ### What supply, sleep, possession and lane start keep -/

namespace LaneState.Keeps

variable {l₀ l : LaneState}

theorem bootWithStoredMode (h : l₀.Keeps l) : l₀.Keeps l.bootWithStoredMode := h

theorem warmed (h : l₀.Keeps l) (ns : Nat) : l₀.Keeps (l.warmed ns) := h

theorem beginSleep (h : l₀.Keeps l) : l₀.Keeps l.beginSleep := h

theorem lowerPair (h : l₀.Keeps l) : l₀.Keeps l.lowerPair := h

theorem readControl (h : l₀.Keeps l) (spoiled dieSpoiled : List Nat) : l₀.Keeps (l.readControl spoiled dieSpoiled) :=
  ((((h.withLog _).put _ _).put _ _).put _ _).put _ _

theorem judgeBad (h : l₀.Keeps l) (holdUp pair : Bool) (slot : Nat) : l₀.Keeps (l.judgeBad holdUp pair slot) :=
  .ite h (.ite (h.failRecorder _ _ _) (.ite (h.failRecorder _ _ _) h))

theorem eraseTorn (h : l₀.Keeps l) (holdUp verified known : Bool) : l₀.Keeps (l.eraseTorn holdUp verified known) :=
  .withLog (.inc (.ite h (.judgeBad (.ite (h.withLog _) h.badSlot) _ _ _)) _) _

theorem scanLog (h : l₀.Keeps l) (holdUp : Bool) (scan : StartScan) : l₀.Keeps (l.scanLog holdUp scan) := by
  refine .ite ?judged (.eraseTorn ?judged _ _ _)
  case judged =>
    refine .ite ?counted (.judgeBad ?counted _ _ _)
    case counted => exact .put (.withLog (.ite (.put (h.withLog _) _ _) h) _) _ _

theorem scanHistory (h : l₀.Keeps l) (bad : List Nat) : l₀.Keeps (l.scanHistory bad) := h

end LaneState.Keeps

namespace State.Keeps

variable {a : Option LaneId} {s t : State}

/-! #### Presence, supply and start-up -/

theorem filterMreg (h : Keeps a s t) (p : Nat × Nat → Bool) : Keeps a s { t with mreg := t.mreg.filter p } :=
  h.withMreg (tabCanon_filter p)

theorem hostOff (h : Keeps a s t) (keep : Nat → Bool) : Keeps a s (t.hostOff keep) := by
  have hoff := ((h.hostFrontReset.filterMreg fun e => keep e.1).withSec (k := t.hostFrontReset.sec.cold) rfl).withColl
    (k := .empty) fun _ => ⟨rfl, rfl⟩
  exact hoff.withArb .reset

theorem hostDark (h : Keeps a s t) (keep : Nat → Bool) : Keeps a s (t.hostDark keep) := (h.hostOff keep).withHost id

theorem lanesOff (h : Keeps a s t) {mode : Mode} (hm : mode ≠ .possession) (code : Nat) (dataA dataB : List Byte) :
    Keeps a s (t.lanesOff mode code dataA dataB) :=
  (((h.release .A 0).release .B 0).laneOff .A hm _ _).laneOff .B hm _ _

theorem startTrigger (h : Keeps a s t) : Keeps a s t.startTrigger := h.withArb _

theorem startUp (h : Keeps a s t) (temp : Int) : Keeps a s (t.startUp temp) :=
  have hstart := h.startTrigger.mput 0x123000 0x0100
  .ite (hstart.withKeeper _) (hstart.withKeeper _)

theorem knocks (h : Keeps a s t) : Keeps a s t.knocks := .ite (((h.inc .A _).inc .B _).withKeeper _) h

theorem powerOn (h : Keeps a s t) : Keeps a s t.powerOn := by
  have hlanes := ((h.withArbKeeper { Arbiter.reset with running := true, changeAt := t.arb.changeAt }
    { t.keeper with phase := .awake, charged := true, warmNs := 0 }).updBoth
      (f := fun l => l.powerUp.bootWithStoredMode.warmed t.keeper.warmNs)
      fun _ hl => hl.powerUp.bootWithStoredMode.warmed _).knocks
  exact .ite (hlanes.raise .module 135) hlanes

theorem powerWhenReady (h : Keeps a s t) : Keeps a s t.powerWhenReady := .ite h.powerOn h

theorem doPresSClose (h : Keeps a s t) : Keeps a s (doPresSClose t) := h

theorem doMated (h : Keeps a s t) (reads : List (BitVec 4)) (temp : Int) : Keeps a s (doMated reads temp t) := by
  unfold Machine.doMated
  split
  · exact h
  · have hmated := h.withKeeper { t.keeper with mated := true }
    exact .powerWhenReady (.withKeeper (.mput (.mput (.ite (hmated.startUp temp) hmated) _ _) _ _) _)

theorem doPresSOpen (h : Keeps a s t) : Keeps a s (doPresSOpen t) := h

theorem doWithdrawalConfirmed (h : Keeps a s t) : Keeps a s (doWithdrawalConfirmed t) := by
  have hdark (keep : Nat → Bool) := (h.lanesOff (mode := .unpowered) (by decide) 0x0003 (withdrawalData t .A)
    (withdrawalData t .B)).hostDark keep
  exact .ite h (.ite ((hdark _).withKeeper _) ((hdark _).withKeeper _))

theorem doReinsertionAfterWithdrawal (h : Keeps a s t) : Keeps a s (doReinsertionAfterWithdrawal t) := .ite (h.withKeeper _) h

theorem doLocate (h : Keeps a s t) (acc : Acc) (n : BitVec 16) : Keeps a s (doLocate acc n t) :=
  h.moduleCommand _ _ _ _ _ _ ((h.withKeeper _).answer 0)

theorem doLocateExpiry (h : Keeps a s t) : Keeps a s (doLocateExpiry t) := h

theorem doLampTestEnd (h : Keeps a s t) : Keeps a s (doLampTestEnd t) := h

theorem doSupplyGood (h : Keeps a s t) (volts : BitVec 16) (temp : Int) : Keeps a s (doSupplyGood volts temp t) := by
  have hgood := (h.withKeeper { t.keeper with supplyGood := true }).mput 0x120000 volts.toNat
  exact .ite h (.ite hgood (.ite ((hgood.startUp temp).mput _ _) (hgood.withKeeper _)))

theorem doColdStartRecheck (h : Keeps a s t) (temp : Int) : Keeps a s (doColdStartRecheck temp t) :=
  .ite (.powerWhenReady (h.withKeeper _)) h

theorem doWarmUpEnd (h : Keeps a s t) : Keeps a s (doWarmUpEnd t) := .ite (.powerWhenReady (h.startTrigger.withKeeper _)) h

theorem doHoldUpCharged (h : Keeps a s t) : Keeps a s (doHoldUpCharged t) := .ite (.powerWhenReady (h.withKeeper _)) h

theorem powerFails (h : Keeps a s t) (cause : Nat) : Keeps a s (t.powerFails cause) :=
  ((h.lanesOff (mode := .unpowered) (by decide) _ _ _).hostDark _).withKeeper _

theorem keeperOff (h : Keeps a s t) : Keeps a s t.keeperOff := by
  have hlanes := (h.setLane .A (l := { t.laneA with mode := .unpowered }) (LaneState.Keeps.self.withMode (by decide))).setLane
    .B (l := { t.laneB with mode := .unpowered }) (LaneState.Keeps.self.withMode (by decide))
  exact ((hlanes.withKeeper t.keeper.lost).withSec (k := t.sec.cold) rfl).filterMreg fun e => keptModule e.1

theorem doSupplyLost (h : Keeps a s t) (volts : BitVec 16) : Keeps a s (doSupplyLost volts t) := by
  have hlost := (h.withKeeper { t.keeper with supplyGood := false }).mput 0x120000 volts.toNat
  refine .ite h (.ite ?_ hlost.keeperOff)
  have hheld := (hlost.mput 0x120100 (withBit (({ t with keeper := { t.keeper with supplyGood := false } } : State).mput
    0x120000 volts.toNat |>.mget 0x120100) 4 true)).withKeeper
      { t.keeper with supplyGood := false, onHoldUp := true, charged := false }
  exact .ite (hheld.powerFails 1) hheld

theorem doInterruptionBridged (h : Keeps a s t) (micros : BitVec 32) (lowest volts : BitVec 16) :
    Keeps a s (doInterruptionBridged micros lowest volts t) :=
  .ite (.withKeeper (.recordBoth (.minc (.mput (h.withKeeper _) _ _) _) _ _) _) h

theorem doPowerFailSequence (h : Keeps a s t) : Keeps a s (doPowerFailSequence t) :=
  .ite h (.ite (h.powerFails _) h.keeperOff)

theorem doOvervoltage (h : Keeps a s t) : Keeps a s (doOvervoltage t) := .ite h (h.mput _ _)

/-! #### Wake and sleep -/

theorem doKnock (h : Keeps a s t) (line : LaneId) (e1 e2 : Bool) : Keeps a s (doKnock line e1 e2 t) :=
  .ite h (.ite (h.withKeeper _) (.ite (h.inc _ _) h))

theorem doHwake (h : Keeps a s t) : Keeps a s (doHwake t) := .ite (h.withKeeper _) h

theorem doFieldWake (h : Keeps a s t) (x : LaneId) (pin : Fin 24) : Keeps a s (doFieldWake x pin t) := .ite (h.withKeeper _) h

theorem doWakeFromStandby (h : Keeps a s t) (temp : Int) : Keeps a s (doWakeFromStandby temp t) :=
  .ite ((h.startTrigger.mput _ _).withKeeper _) h

theorem beginSleep (h : Keeps a s t) (cause : Nat) : Keeps a s (t.beginSleep cause) := by
  have hlanes := (h.setLane .A (l := t.laneA.beginSleep) LaneState.Keeps.self.beginSleep).setLane
    .B (l := t.laneB.beginSleep) LaneState.Keeps.self.beginSleep
  exact hlanes.withKeeper { t.keeper with sleeping := some cause, sleepBeat := none, deferred := false }

theorem doLocalSleep (h : Keeps a s t) (acc : Acc) : Keeps a s (doLocalSleep acc t) :=
  .ite (h.abort _) (h.moduleCommand _ _ _ _ _ _ ((h.beginSleep 2).answer 0))

theorem doTrainSleep (h : Keeps a s t) (acc : Acc) : Keeps a s (doTrainSleep acc t) :=
  .ite (h.abort _) (h.moduleCommand _ _ _ _ _ _ ((h.withKeeper _).answer 0))

theorem doSleepBeat (h : Keeps a s t) : Keeps a s (doSleepBeat t) := by
  unfold Machine.doSleepBeat
  split
  · exact h
  · exact .ite (.minc (h.withKeeper _) _) (h.beginSleep 3)

theorem doSleepDeferredEnd (h : Keeps a s t) : Keeps a s (doSleepDeferredEnd t) := .ite (h.beginSleep 3) h

theorem doSleepEntry (h : Keeps a s t) : Keeps a s (doSleepEntry t) := by
  unfold Machine.doSleepEntry
  split
  · exact h
  · exact .withKeeper ((h.lanesOff (mode := .asleep) (by decide) _ _ _).hostDark _) _

theorem doPeerLaneSleep (h : Keeps a s t) (acc : Acc) : Keeps a s (doPeerLaneSleep acc t) :=
  h.command _ _ _ _ _ _ fun x => ((h.laneOff x.peer (mode := .asleep) (by decide) _ _).record x _ _).answer 0

theorem adoptMode (h : Keeps a s t) (x : LaneId) : Keeps a s (t.adoptMode x) := .upd h x fun _ hl => hl.withPoss _

theorem doPeerLaneWake (h : Keeps a s t) (acc : Acc) : Keeps a s (doPeerLaneWake acc t) :=
  h.command _ _ _ _ _ _ fun x => .ite (h.answer 0)
    ((((h.upd x.peer fun _ hl => hl.powerUp).adoptMode x.peer).record x _ _).answer 0)

theorem doHvioAbsent (h : Keeps a s t) : Keeps a s (doHvioAbsent t) := h

theorem doHvioPresent (h : Keeps a s t) : Keeps a s (doHvioPresent t) := h

/-! #### Mirror, Toss and arbiter -/

theorem holdCheck (h : Keeps a s t) (x : LaneId) : Keeps a s (t.holdCheck x) := .ite (h.release x 3) h

theorem peerRecorderFailed (h : Keeps a s t) (x : LaneId) : Keeps a s (t.peerRecorderFailed x) := by
  unfold State.peerRecorderFailed
  split
  · exact h.upd x fun _ hl => hl.withPoss _
  · exact .ite h ((h.record x _ _).upd x fun _ hl => hl.withPoss _)

theorem doMirrorLost (h : Keeps a s t) (x : LaneId) : Keeps a s (doMirrorLost x t) := by
  unfold Machine.doMirrorLost
  split
  · exact h
  · exact .raiseLane (.ite (.release (.upd h x fun _ hl => (hl.inc _).withPoss _) x 3)
      (.upd h x fun _ hl => (hl.inc _).withPoss _)) x 96

theorem doMirrorCurrentAllowanceEnd (h : Keeps a s t) (x : LaneId) : Keeps a s (doMirrorCurrentAllowanceEnd x t) :=
  .tossCheck (.upd h x fun _ hl => hl.withPoss _)

theorem doMirrorUp (h : Keeps a s t) (x : LaneId) : Keeps a s (doMirrorUp x t) :=
  .ite h (.tossCheck (.lower (.upd h x fun _ hl => hl.withPoss _) _ _))

theorem ask (h : Keeps a s t) (x : LaneId) : Keeps a s (t.ask x) :=
  .ite h (.upd (.ite (h.withKeeper _) h) x fun _ hl => hl.withPoss _)

theorem doToss (h : Keeps a s t) : Keeps a s (doToss t) := .ite h ((h.ask .A).ask .B)

theorem doTossBWindowExpiry (h : Keeps a s t) : Keeps a s (doTossBWindowExpiry t) := .ite (h.withKeeper _) h

theorem doArbiterFrame (h : Keeps a s t) (x : LaneId) : Keeps a s (doArbiterFrame x t) := by
  unfold Machine.doArbiterFrame
  split
  · exact h
  · have hlink := Keeps.lower (.upd h x (f := fun l => { l with poss := { l.poss with arbLink := true } })
      fun _ hl => hl.withPoss _) (.lane x) 98
    exact .ite (hlink.ask x) hlink

theorem doArbiterLinkLost (h : Keeps a s t) (x : LaneId) : Keeps a s (doArbiterLinkLost x t) :=
  .ite h (.raiseLane (.upd (.ite (h.withKeeper _) h) x fun _ hl => hl.withPoss _) x 98)

theorem doRenewal (h : Keeps a s t) (x : LaneId) : Keeps a s (doRenewal x t) :=
  .ite h (.ite (.withArb (.upd h x fun _ hl => hl.withPoss _) _) (.upd h x fun _ hl => hl.withPoss _))

theorem doRenewalAck (h : Keeps a s t) (x : LaneId) : Keeps a s (doRenewalAck x t) := .ite (.upd h x fun _ hl => hl.withPoss _) h

theorem doLocalLeaseEnd (h : Keeps a s t) (x : LaneId) : Keeps a s (doLocalLeaseEnd x t) :=
  .ite h (.ite (.upd h x fun _ hl => hl.withPoss _) (.withArb (h.release x 3) _))

theorem doLeaseExpiry (h : Keeps a s t) : Keeps a s (doLeaseExpiry t) := .ite (h.withArb _) h

/-- The lane that takes possession may be in possession from then on. -/
theorem take {x : LaneId} (h : Keeps (some x) s t) : Keeps (some x) s (t.take x) :=
  .upd (h.acquire _) x.peer fun _ hl => hl.withPoss _

theorem doRelease (h : Keeps a s t) (x : LaneId) : Keeps a s (doRelease x t) := h.release x _

theorem doArbiterRestart (h : Keeps a s t) : Keeps a s (doArbiterRestart t) := .ite h (.lower (h.withArb _) _ _)

theorem doArbiterRenewalWaitEnd (h : Keeps a s t) : Keeps a s (doArbiterRenewalWaitEnd t) := h

/-! #### Interlock, changeover and lane reset -/

theorem doInterlockPairInvalid (h : Keeps a s t) (x : LaneId) : Keeps a s (doInterlockPairInvalid x t) :=
  .ite h (.raiseLane (.tossCheck (.upd h x fun _ hl => (hl.inc _).withPoss _)) x 97)

theorem doInterlockAcquisition (h : Keeps a s t) (x : LaneId) : Keeps a s (doInterlockAcquisition x t) :=
  .ite (.ite (.withKeeper (.upd h x fun _ hl => hl.withPoss _) _) (.upd h x fun _ hl => hl.withPoss _)) h

theorem doInterlockConfirmEnd (h : Keeps a s t) (x : LaneId) : Keeps a s (doInterlockConfirmEnd x t) :=
  .ite h (.ite (.upd h x fun _ hl => hl.withPoss _) (.upd h x fun _ hl => hl.withPoss _))

theorem doPeerActingSeen (h : Keeps a s t) (x : LaneId) : Keeps a s (doPeerActingSeen x t) :=
  .ite ((h.release x 4).raiseLane x 99) h

theorem doLockstepToggleStop (h : Keeps a s t) (x : LaneId) : Keeps a s (doLockstepToggleStop x t) := by
  unfold Machine.doLockstepToggleStop
  extract_lets l acting s₁
  have h₁ : Keeps a s s₁ := by
    refine .upd h x fun l hl => .withModePoss ?_ (by decide) _
    exact (hl.dropPorts _ _).closeBypass
  exact .ite h (.ite (.hostAtRelease (.possessionCause (h₁.withArbKeeper _ _)) x true) h₁.tossCheck)

theorem doFreezeEnd (h : Keeps a s t) (x : LaneId) : Keeps a s (doFreezeEnd x t) := by
  refine .ite (.outputsOff (.upd h x fun l hl => ?_) x) h
  exact (hl.withMode (k := .standby) (by decide)).withPoss _

theorem plannedResult (h : Keeps a s t) (x : LaneId) (result mism : Nat) : Keeps a s (t.plannedResult x result mism) :=
  ((h.putNode _ _).putNode _ _).record x _ _

theorem doChangeoverLimitPassed (h : Keeps a s t) (x : LaneId) : Keeps a s (doChangeoverLimitPassed x t) := by
  unfold Machine.doChangeoverLimitPassed
  extract_lets l s₁
  have h₁ : Keeps a s s₁ := .upd h x fun _ hl => hl.withPoss _
  exact .ite h (.ite ((h₁.withArb _).plannedResult x 3 0) h₁)

theorem doPlannedChangeover (h : Keeps a s t) (acc : Acc) : Keeps a s (doPlannedChangeover acc t) :=
  h.command _ _ _ _ _ _ fun _ => ((h.withArb _).release _ 2).answer 0

theorem doPlannedChangeoverCheckEnd (h : Keeps a s t) : Keeps a s (doPlannedChangeoverCheckEnd t) := by
  unfold Machine.doPlannedChangeoverCheckEnd
  split
  · exact h
  · exact (h.compareOutputs.withArb _).plannedResult _ _ _

theorem doLaneReset (h : Keeps a s t) (acc : Acc) : Keeps a s (doLaneReset acc t) := by
  unfold Machine.doLaneReset
  split
  · exact h.abort _
  · refine .ite (.ite (h.abort _) (.answer ?_ 0)) (h.command _ _ _ _ _ _ fun x => (h.laneReset x 5 4 0xFF).answer 0)
    exact (h.takeDefaults _).upd _ fun _ hl => ((hl.put _ _).put _ _).restart _ (by decide)

/-! #### Firmware update -/

theorem doBeginUpdate (h : Keeps a s t) (acc : Acc) (length : BitVec 32) (protocol low high : Byte) :
    Keeps a s (doBeginUpdate acc length protocol low high t) := by
  refine h.command _ _ _ _ _ _ fun x => .ite (h.abort _) (.answer (.record (.upd h x fun l hl => ?_) x _ _) 0)
  exact hl.put 0x112000 1

theorem doBeginUpdateEraseDone (h : Keeps a s t) (x : LaneId) : Keeps a s (doBeginUpdateEraseDone x t) :=
  .ite (.upd h x fun l hl => (hl : l.Keeps { l with upd := { l.upd with erased := true } })) h

theorem doFirmwareChunk (h : Keeps a s t) (acc : Acc) (data : List Byte) : Keeps a s (doFirmwareChunk acc data t) := by
  refine h.command _ _ _ _ _ _ fun x => .ite (h.abort _) (.ite (h.abort _) (.ite (h.abort _) (.answer (.upd h x fun l hl => ?_) 0)))
  exact hl

theorem endUpdate (h : Keeps a s t) (x : LaneId) (code : Nat) : Keeps a s (t.endUpdate x code) := by
  refine .record (.upd h x fun l hl => ?_) x _ _
  exact hl.put 0x112000 0

theorem activate (h : Keeps a s t) (x : LaneId) : Keeps a s (t.activate x) := by
  unfold State.activate
  extract_lets bank fw s₁ s₂
  have h₂ : Keeps a s s₂ := .upd (h.record x _ _) x fun l hl => hl
  exact ((h₂.release x 5).takeDefaults x).upd x fun _ hl => (hl.restart _ (by decide)).put _ _

theorem doActivate (h : Keeps a s t) (acc : Acc) : Keeps a s (doActivate acc t) :=
  h.command _ _ _ _ _ _ fun x => .answer (.ite (h.activate x) (h.endUpdate x _)) 0

theorem doAbandonUpdate (h : Keeps a s t) (acc : Acc) : Keeps a s (doAbandonUpdate acc t) :=
  h.command _ _ _ _ _ _ fun x => (h.endUpdate x 0).answer 0

theorem doActivationComplete (h : Keeps a s t) (x : LaneId) : Keeps a s (doActivationComplete x t) :=
  .ite (.record (.upd h x fun _ hl => (hl.put _ _).put _ _) x _ _) h

/-! #### Lane start -/

theorem failRecorder (h : Keeps a s t) (x : LaneId) (cause : Nat) : Keeps a s (t.failRecorder x cause) :=
  .ite h ((h.upd x fun _ hl => hl.failRecorder _ _ _).raiseLane x 104)

theorem recorderStart (h : Keeps a s t) (x : LaneId) (scan : StartScan) : Keeps a s (t.recorderStart x scan) := by
  unfold State.recorderStart
  extract_lets s₁ l fails s₂ s₃
  have h₁ : Keeps a s s₁ := h.upd x fun _ hl => (hl.readControl _ _).scanLog _ _
  have h₂ : Keeps a s s₂ := .ite (h₁.lower _ _) (.raiseLane (.ite h₁ (h₁.record _ _ _)) x 106)
  have h₃ : Keeps a s s₃ := .ite (h₂.raiseLane x 105) h₂
  exact .ite (h₃.failRecorder x 3) (.ite (h₃.raiseLane x 104) h₃)

theorem setNvValue (h : Keeps a s t) (x : LaneId) (r : Row) (k : Nat) (b : List Byte) : Keeps a s (t.setNvValue x r k b) := by
  refine .ite (h.withSec ?_) (.ite (h.mput _ _) (h.upd x fun _ hl => .ite hl (.ite (hl.changeFunction _ _) (hl.put _ _))))
  split <;> rfl

theorem loseValue (h : Keeps a s t) (x : LaneId) (k : Nat) : Keeps a s (t.loseValue x k) := by
  unfold State.loseValue
  split
  · exact h
  · exact .ite h (h.setNvValue _ _ _ _)

theorem noteLost (h : Keeps a s t) (x : LaneId) : Keeps a s (t.noteLost x) := h.upd x fun _ hl => hl.put _ _

theorem loseValues (h : Keeps a s t) (x : LaneId) (ks : List Nat) : Keeps a s (t.loseValues x ks) :=
  .ite h ((h.foldl ks fun _ k hu => hu.loseValue x k).noteLost x)

theorem readDamaged (h : Keeps a s t) (x : LaneId) (d : NvDamage) : Keeps a s (t.readDamaged x d) := by
  unfold State.readDamaged
  split
  · exact h
  · dsimp only
    split
    · exact h
    · split
      · exact h.setNvValue _ _ _ _
      · exact h.setNvValue _ _ _ _
      · exact (h.loseValue x _).noteLost x

theorem readCopies (h : Keeps a s t) (x : LaneId) (scan : StartScan) : Keeps a s (t.readCopies x scan) :=
  (h.foldl scan.damaged fun _ d hu => hu.readDamaged x d).loseValues x scan.lostValues

theorem doLaneReady (h : Keeps a s t) (x : LaneId) (scan : StartScan) : Keeps a s (doLaneReady x scan t) := by
  unfold Machine.doLaneReady
  extract_lets l s₁ s₂ s₃ s₄ s₅
  split
  · exact h
  · have h₁ : Keeps a s s₁ := by
      refine .upd (h.readCopies x scan) x fun l hl => .scanHistory (.put (.portsStart (.put ?_ _ _)) _ _) _
      exact (hl.withMode (k := .standby) (by decide)).withPins rfl id
    have h₂ : Keeps a s s₂ := .ite (h₁.adoptMode x) h₁
    have h₅ : Keeps a s s₅ := ((h₂.recorderStart x scan).record x _ _).upd x fun _ hl => hl.deferPlan
    exact .ite h₅ (h₅.raiseLane x 26)

end State.Keeps
end Sys2Proof.Machine

namespace Sys2Proof.Machine

/-! ### What ports, Roll, faults and recorder keep -/

namespace LaneState.Keeps

variable {l₀ l : LaneState}

/-! #### Ports -/

theorem toBeacons (h : l₀.Keeps l) (e : EndId) : l₀.Keeps (l.toBeacons e) := (h.updPort e _).put _ _

theorem learnPartner (h : l₀.Keeps l) (e : EndId) (uid : Nat) (b : List Byte) : l₀.Keeps (l.learnPartner e uid b) :=
  (h.updPort e _).put _ _

theorem planSwing (h : l₀.Keeps l) (e : EndId) (rate : Nat) : l₀.Keeps (l.planSwing e rate) := h.put _ _

theorem decideRate (h : l₀.Keeps l) (e : EndId) (partnerEstimate : Nat) : l₀.Keeps (l.decideRate e partnerEstimate) :=
  (((h.put _ _).put _ _).planSwing e _).updPort e _

theorem agreeRate (h : l₀.Keeps l) (e : EndId) (block : List Byte) : l₀.Keeps (l.agreeRate e block) :=
  (h.updPort e _).decideRate e _

theorem holdEnds (h : l₀.Keeps l) (e : EndId) : l₀.Keeps (l.holdEnds e) := h.updPort e _

theorem testsEnd (h : l₀.Keeps l) (e : EndId) : l₀.Keeps (l.testsEnd e) := h.updPort e _

theorem disableEnd (h : l₀.Keeps l) (now : Nat) (e : EndId) : l₀.Keeps (l.disableEnd now e) :=
  ((h.dropPort now _ _ _).dropPort now _ _ _).closeBypass

theorem enableEnd (h : l₀.Keeps l) (e : EndId) : l₀.Keeps (l.enableEnd e) := by
  have hfree (f g : Port → Port) := (h.updPort e f).updPort e.other g
  exact .ite (hfree _ _).portsStart ((hfree _ _).updPort _ _)

theorem retrain (h : l₀.Keeps l) (e : EndId) (rate : Nat) : l₀.Keeps (l.retrain e rate) :=
  ((((h.flushEgress e).put _ _).inc _).planSwing e rate).updPort e _

theorem orderedRetrain (h : l₀.Keeps l) (e : EndId) (rate : Nat) : l₀.Keeps (l.orderedRetrain e rate) :=
  .ite h (.ite (h.updPort e _) (h.retrain e rate))

/-! #### Egress -/

theorem countDrop (h : l₀.Keeps l) (e : EndId) (code : Nat) : l₀.Keeps (l.countDrop e code) := h.countPortBy _ _ _

theorem queueFrame (h : l₀.Keeps l) (e : EndId) (f : OutFrame) : l₀.Keeps (l.queueFrame e f) := (h.updPort e _).put _ _

theorem emit (h : l₀.Keeps l) (e : EndId) (f : OutFrame) : l₀.Keeps (l.emit e f) := by
  unfold LaneState.emit
  split
  · exact h
  · split
    · exact h.countDrop _ _
    · exact h.queueFrame e f

theorem emitUp (h : l₀.Keeps l) (skip : Option EndId) (f : OutFrame) : l₀.Keeps (l.emitUp skip f) :=
  h.foldl _ fun _ e hl => .ite hl (hl.emit e f)

theorem emitBoth (h : l₀.Keeps l) (f : OutFrame) : l₀.Keeps (l.emitBoth f) := (h.emit .e1 f).emit .e2 f

theorem emitTo (h : l₀.Keeps l) (position : Nat) (f : OutFrame) : l₀.Keeps (l.emitTo position f) := by
  unfold LaneState.emitTo
  split
  · exact h.emit _ f
  · exact h.emitBoth f

theorem nextRoll (h : l₀.Keeps l) : l₀.Keeps l.nextRoll := h

theorem sendRoll (h : l₀.Keeps l) (skip : Option EndId) (f : RollFrame) : l₀.Keeps (l.sendRoll skip f) :=
  h.nextRoll.emitUp skip _

theorem sendRollTo (h : l₀.Keeps l) (e : EndId) (f : RollFrame) : l₀.Keeps (l.sendRollTo e f) := h.nextRoll.emit e _

theorem sendMessage (h : l₀.Keeps l) (x : LaneId) (uid : Option Nat) (position : Nat) (m : MsgFrame) :
    l₀.Keeps (l.sendMessage x uid position m) := by
  cases uid with
  | none => exact h.emitBoth _
  | some u => exact h.emitTo position _

theorem sendEcho (h : l₀.Keeps l) (x : LaneId) (uid : Option Nat) (six : Bool) (ident : BitVec 16) (data : List Byte) :
    l₀.Keeps (l.sendEcho x uid six ident data) := by
  have hseq (r : Regs) : l₀.Keeps { l with echoSeq := r } := h
  cases uid with
  | none => exact (hseq _).emitBoth _
  | some u => exact (hseq _).emitTo _ _

/-! #### Roll -/

/-- The Roll state of a lane is no part of what is kept. -/
theorem withRoll (h : l₀.Keeps l) (r : RollState) : l₀.Keeps { l with roll := r } := h

theorem withTime (h : l₀.Keeps l) (r : TimeState) : l₀.Keeps { l with time := r } := h

theorem setMaster (h : l₀.Keeps l) (uid : Nat) : l₀.Keeps (l.setMaster uid) := .ite h ((h.put _ _).withTime _)

theorem measures (h : l₀.Keeps l) (uid : Nat) : l₀.Keeps (l.measures uid) := .ite h (h.withTime _)

theorem withIns (h : l₀.Keeps l) (i : Ins) : l₀.Keeps { l with ins := i } := h

/-! #### Block resets and recorder -/

theorem domainOn (h : l₀.Keeps l) (x : LaneId) (d : Nat) : l₀.Keeps (l.domainOn x d) := .ite h.portsStart (.ite h.fieldPowered h)

theorem unclosed (h : l₀.Keeps l) : l₀.Keeps l.unclosed := .ite (h.withLog _).badSlot h

theorem cutRewrite (h : l₀.Keeps l) (k : Nat) : l₀.Keeps (l.cutRewrite k) := h

theorem noLosses (h : l₀.Keeps l) : l₀.Keeps l.noLosses := (h.put _ _).eachCopy _

theorem cleared (h : l₀.Keeps l) (holdUp : Bool) (bad : List Nat) (controlOk : Bool) :
    l₀.Keeps (l.cleared holdUp bad controlOk) := by
  have hempty (r : Recorder) := (((h.withLog r).put 0x150100 0).put 0x150A01 (min 255 bad.length))
  exact .ite (((hempty _).withLog _).place _ _).noLosses
    ((LaneState.Keeps.ite (hempty _) ((hempty _).failRecorder _ _ _)).placeFinal _ _).noLosses

end LaneState.Keeps

namespace State.Keeps

variable {a : Option LaneId} {s t : State}

/-! #### Ports -/

theorem updPort (h : Keeps a s t) (x : LaneId) (e : EndId) (f : LaneState → Port → Port) :
    Keeps a s (t.upd x fun l => l.updPort e (f l)) := .upd h x fun _ hl => hl.updPort e _

theorem sendBlock (h : Keeps a s t) (x : LaneId) (e : EndId) (type : Nat) : Keeps a s (t.sendBlock x e type) :=
  .upd h x fun _ hl => hl.updPort e _

theorem refuseLink (h : Keeps a s t) (x : LaneId) (e : EndId) (cross loop : Bool) : Keeps a s (t.refuseLink x e cross loop) := by
  unfold State.refuseLink
  extract_lets s₁ s₂
  have h₁ : Keeps a s s₁ := h.upd x fun _ hl => (hl.toBeacons e).updPort e _
  have h₂ : Keeps a s s₂ := .ite (h₁.raiseLane x 32) h₁
  exact .ite (h₂.raiseLane x 33) h₂

theorem followHeld (h : Keeps a s t) (x : LaneId) : Keeps a s (t.followHeld x) :=
  .followConflicts (.ite h (h.lower _ _)) x

theorem doTrainingBlock (h : Keeps a s t) (x : LaneId) (e : EndId) (block : List Byte) :
    Keeps a s (doTrainingBlock x e block t) := by
  unfold Machine.doTrainingBlock
  refine .ite h ?_
  dsimp only
  split
  · refine .ite h (.ite (h.refuseLink _ _ _ _) (.sendBlock (.upd ((h.lower _ _).lower _ _) x fun _ hl => ?_) _ _ _))
    exact (hl.learnPartner _ _ _).updPort _ _
  · refine .ite (h.refuseLink _ _ _ _) (.ite h (.ite (.sendBlock ?learnt _ _ _) (.followHeld (.upd ?learnt x fun _ hl => hl.updPort _ _) x)))
    exact h.upd x fun _ hl => hl.learnPartner _ _ _
  · exact .ite (.sendBlock (h.upd x fun _ hl => hl.agreeRate _ _) _ _ _) h
  · exact h

theorem toBeacons (h : Keeps a s t) (x : LaneId) (e : EndId) : Keeps a s (t.upd x fun l => l.toBeacons e) :=
  h.upd x fun _ hl => hl.toBeacons e

theorem doTrainingStepTimeout (h : Keeps a s t) (x : LaneId) (e : EndId) : Keeps a s (doTrainingStepTimeout x e t) := by
  unfold Machine.doTrainingStepTimeout
  split
  · exact h.toBeacons x e
  · exact h.toBeacons x e
  · exact h.toBeacons x e
  · exact h.toBeacons x e
  · exact h

theorem doBeacon (h : Keeps a s t) (x : LaneId) (e : EndId) : Keeps a s (doBeacon x e t) := .ite (h.sendBlock x e 1) h

theorem doChannelProbeDone (h : Keeps a s t) (x : LaneId) (e : EndId) (probe : Probe) :
    Keeps a s (doChannelProbeDone x e probe t) :=
  .ite h (.ite (h.toBeacons x e) (.sendBlock (h.upd x fun _ hl => (hl.updPort e _).planSwing e _) x e _))

theorem doPmaTrainingDone (h : Keeps a s t) (x : LaneId) (e : EndId) : Keeps a s (doPmaTrainingDone x e t) :=
  .ite (h.updPort x e _) h

theorem linkUp (h : Keeps a s t) (x : LaneId) (e : EndId) (snr : Int) : Keeps a s (t.linkUp x e snr) := by
  unfold State.linkUp
  extract_lets p counted s₁
  have h₁ : Keeps a s s₁ := by
    refine .upd h x fun l hl => ?_
    have hup (f : Port → Port) := ((hl.updPort e f).put (key 0x2008 (endSub e)) (ofSigned 32 snr)).inc (key 0x200A (endSub e))
    exact .ite ((hup _).withIns _) (hup _)
  exact .ite h₁ (h₁.rollTrigger x 1)

theorem fallBack (h : Keeps a s t) (x : LaneId) (e : EndId) (supported : Nat) : Keeps a s (t.fallBack x e supported) :=
  .sendBlock (h.upd x fun _ hl => ((hl.updPort e _).put _ _).put _ _) x e _

theorem doLinkVerification (h : Keeps a s t) (x : LaneId) (e : EndId) (snr : Int) :
    Keeps a s (doLinkVerification x e snr t) :=
  .ite h (.ite (h.linkUp x e snr) (.ite (h.fallBack x e _) (h.toBeacons x e)))

theorem doLinkDown (h : Keeps a s t) (x : LaneId) (e : EndId) : Keeps a s (doLinkDown x e t) := by
  unfold Machine.doLinkDown
  split
  · exact h.dropPort x e _ _
  · exact h.toBeacons x e
  · exact h.toBeacons x e
  · exact h.toBeacons x e
  · exact h.toBeacons x e
  · exact h.toBeacons x e
  · exact h

theorem doMarginUpdate (h : Keeps a s t) (x : LaneId) (e : EndId) (snr returnLoss : Int) (faster : Option Int) :
    Keeps a s (doMarginUpdate x e snr returnLoss faster t) := by
  refine .ite (.upd h x fun l hl => ?_) h
  have hput := ((hl.put (key 0x2008 (endSub e)) (ofSigned 32 snr)).put (key 0x2013 (endSub e)) (ofSigned 32 returnLoss)).sampleLow
    (endSub e) snr
  cases faster with
  | none => exact .ite (hput.updPort e _) hput
  | some m => exact .ite ((hput.sampleLow _ m).updPort e _) (hput.sampleLow _ m)

theorem requestRoll (h : Keeps a s t) (x : LaneId) (e : EndId) : Keeps a s (t.requestRoll x e) := by
  unfold State.requestRoll
  split
  · exact .ite (h.updPort x e _) (.rollTrigger (h.updPort x e _) x 5)
  · exact .rollTrigger (h.updPort x e _) x 5

theorem doMarginAlarm (h : Keeps a s t) (x : LaneId) (e : EndId) : Keeps a s (doMarginAlarm x e t) :=
  .ite (.requestRoll (h.upd x fun _ hl => ((hl.put _ _).put _ _).updPort e _) x e) h

theorem doMarginAlarmRequestDue (h : Keeps a s t) (x : LaneId) (e : EndId) : Keeps a s (doMarginAlarmRequestDue x e t) :=
  .ite (.rollTrigger (h.updPort x e _) x 5) h

theorem doSegmentTakedown (h : Keeps a s t) (x : LaneId) (e : EndId) : Keeps a s (doSegmentTakedown x e t) :=
  .ite (.raiseLane ((h.dropPort x e _ _).upd x fun _ hl => (hl.updPort e _).inc _) x 35) h

theorem doTakedownHoldEnd (h : Keeps a s t) (x : LaneId) (e : EndId) : Keeps a s (doTakedownHoldEnd x e t) :=
  .ite (.lower (h.upd x fun _ hl => (hl.updPort e _).holdEnds e) _ _) h

theorem doPortQuarantined (h : Keeps a s t) (x : LaneId) (e : EndId) : Keeps a s (doPortQuarantined x e t) :=
  .ite (.raiseLane ((h.dropPort x e _ _).upd x fun _ hl => (hl.updPort e _).inc _) x 36) h

theorem doQuarantineEnd (h : Keeps a s t) (x : LaneId) (e : EndId) : Keeps a s (doQuarantineEnd x e t) :=
  .ite (.lower (h.upd x fun _ hl => (hl.updPort e _).holdEnds e) _ _) h

theorem doRunDiagnostics (h : Keeps a s t) (acc : Acc) (v : Byte) : Keeps a s (doRunDiagnostics acc v t) :=
  h.command _ _ _ _ _ _ fun x => .answer (h.foldl _ fun _ e hu => .updPort (.ite (hu.dropPort x e _ _) hu) x e _) 0

theorem insulation (h : Keeps a s t) (x : LaneId) (e : EndId) (result limit : Nat) :
    Keeps a s (t.insulation x e result limit) := (h.put _ _ _).follow _ _ _

theorem doDiagnosticsDone (h : Keeps a s t) (x : LaneId) (e : EndId) (kind : BitVec 3) (reflection : Byte)
    (distance : BitVec 16) (insulation limit : BitVec 32) :
    Keeps a s (doDiagnosticsDone x e kind reflection distance insulation limit t) :=
  .ite (.upd (.ite ((h.put _ _ _).insulation x e _ _) (h.put _ _ _)) x fun _ hl => hl.testsEnd e) h

theorem doInsulationTest (h : Keeps a s t) (x : LaneId) (e : EndId) (insulation limit : BitVec 32) :
    Keeps a s (doInsulationTest x e insulation limit t) := .ite (h.insulation x e _ _) h

theorem doPortEnable (h : Keeps a s t) (acc : Acc) (e : EndId) (v : Byte) : Keeps a s (doPortEnable acc e v t) := by
  refine h.command _ _ _ _ _ _ fun x => .answer ?_ 0
  have hput := h.put x (key 0x2000 (endSub e)) v.toNat
  exact .ite (.ite (.rollTrigger (hput.upd x fun _ hl => hl.disableEnd _ e) x 2) (hput.upd x fun _ hl => hl.disableEnd _ e))
    (.ite (hput.upd x fun _ hl => hl.enableEnd e) hput)

theorem doInsertion (h : Keeps a s t) (x : LaneId) : Keeps a s (doInsertion x t) := by
  unfold Machine.doInsertion
  refine .ite (.followLimits (.upd (h.free 16) x fun l hl => ?_) x) h
  have hput := ((hl.updPort .e1 Port.inserts).updPort .e2 Port.inserts).put 0x131801 (t.free 16).1
  exact hput

theorem doLaneBInsertionTimeout (h : Keeps a s t) : Keeps a s (doLaneBInsertionTimeout t) := .ite h h

theorem doOrderedRetrainLate (h : Keeps a s t) (x : LaneId) (e : EndId) : Keeps a s (doOrderedRetrainLate x e t) :=
  .ite (.rollTrigger (h.updPort x e _) x 1) h

theorem doLine2DeferredDue (h : Keeps a s t) (x : LaneId) : Keeps a s (doLine2DeferredDue x t) :=
  .ite (.rollTrigger (.upd h x fun _ hl => hl.withRoll _) x 6) h

/-! #### Roll -/

theorem updRoll (h : Keeps a s t) (x : LaneId) (f : LaneState → RollState) :
    Keeps a s (t.upd x fun l => { l with roll := f l }) := .upd h x fun _ hl => hl.withRoll _

theorem beginStreams (h : Keeps a s t) (x : LaneId) : Keeps a s (t.beginStreams x) :=
  have hsend (e : EndId) (f : RollFrame) := h.upd x (f := fun l => l.sendRollTo e f) fun _ hl => hl.sendRollTo _ _
  .ite (h.updRoll x _) (.ite (hsend _ _) (.ite (hsend _ _) h))

theorem enterRoll (h : Keeps a s t) (x : LaneId) (epoch code origin : Nat) : Keeps a s (t.enterRoll x epoch code origin) := by
  refine .upd (.ite (h.inc _ _) h) x fun l hl => .announce (.dropSchedule (.put (.put ?_ _ _) _ _))
  exact ((hl.updPort .e1 _).updPort .e2 _).withRoll _

theorem sendSet (h : Keeps a s t) (x : LaneId) (skip : Option EndId) (f : RollFrame) : Keeps a s (t.sendSet x skip f) :=
  .upd h x fun _ hl => (hl.withRoll _).sendRoll _ _

theorem startRoll (h : Keeps a s t) (x : LaneId) (epoch code origin : Nat) : Keeps a s (t.startRoll x epoch code origin) :=
  ((h.enterRoll x _ _ _).sendSet x _ _).beginStreams x

theorem doRollTrigger (h : Keeps a s t) (x : LaneId) (code : Fin 10) : Keeps a s (doRollTrigger x code t) :=
  .ite h (h.rollTrigger _ _)

theorem doHoldOffEnd (h : Keeps a s t) (x : LaneId) : Keeps a s (doHoldOffEnd x t) := h.updRoll x _

theorem doRollSpacingEnd (h : Keeps a s t) (x : LaneId) : Keeps a s (doRollSpacingEnd x t) := h.updRoll x _

theorem doRollOriginate (h : Keeps a s t) (x : LaneId) : Keeps a s (doRollOriginate x t) := by
  unfold Machine.doRollOriginate
  dsimp only
  split
  · exact h
  · exact .ite h (h.startRoll x _ _ _)

theorem checkLineList (h : Keeps a s t) (x : LaneId) : Keeps a s (t.checkLineList x) := .ite h (h.updRoll x _)

theorem discovery (h : Keeps a s t) (x : LaneId) (e : EndId) (f : RollFrame) (total : Nat) (es : List DirEntry) :
    Keeps a s (t.discovery x e f total es) := by
  refine .checkLineList (.ite ?stored (.ite ?_ (.ite ?_ ?_))) x
  case stored => exact .upd h x fun _ hl => hl.withRoll _
  · exact .upd (.inc (.upd h x fun _ hl => hl.withRoll _) _ _) x fun _ hl => hl.sendRollTo _ _
  · exact .upd (.inc (.upd h x fun _ hl => hl.withRoll _) _ _) x fun _ hl => hl.sendRollTo _ _
  · exact .upd (.inc (.upd h x fun _ hl => hl.withRoll _) _ _) x fun _ hl => (hl.sendRollTo _ _).sendRollTo _ _

theorem doPhase1Limit (h : Keeps a s t) (x : LaneId) : Keeps a s (doPhase1Limit x t) := .ite (h.rollTrigger x 8) h

theorem candidateMaster (h : Keeps a s t) (x : LaneId) (es : List DirEntry) (pos epoch : Nat) :
    Keeps a s (t.candidateMaster x es pos epoch) :=
  .upd (.upd (h.put _ _ _) x fun _ hl => hl.withTime _) x fun _ hl => hl.measures _

theorem takeCandidate (h : Keeps a s t) (x : LaneId) : Keeps a s (t.takeCandidate x) := by
  unfold State.takeCandidate
  split
  · exact h
  · exact .candidateMaster (h.updRoll x _) x _ _ _

theorem doCandidate (h : Keeps a s t) (x : LaneId) : Keeps a s (doCandidate x t) := .ite (h.takeCandidate x) h

theorem doPeerListWaitEnd (h : Keeps a s t) (x : LaneId) : Keeps a s (doPeerListWaitEnd x t) := .ite (h.takeCandidate x) h

theorem doWant (h : Keeps a s t) (x : LaneId) : Keeps a s (doWant x t) := by
  unfold Machine.doWant
  extract_lets r s₁ m
  have h₁ : Keeps a s s₁ := h.updRoll x _
  exact .ite h₁ (.ite h₁ (h₁.sendSet x _ _))

theorem sendList (h : Keeps a s t) (x : LaneId) : Keeps a s (t.sendList x) :=
  .ite h (.ite (h.sendSet x _ _) ((h.sendSet x _ _).sendSet x _ _))

theorem wantReceived (h : Keeps a s t) (x : LaneId) (stamp : Nat) (positions : List Nat) :
    Keeps a s (t.wantReceived x stamp positions) := by
  unfold State.wantReceived
  extract_lets r mine cand adopted es named s₁ me
  have h₁ : Keeps a s s₁ := h.updRoll x _
  exact .ite h (.ite (.updRoll (h₁.sendList x) x _) h₁)

theorem listReceived (h : Keeps a s t) (x : LaneId) (f : RollFrame) (digest total : Nat) (es : List PubEntry) :
    Keeps a s (t.listReceived x f digest total es) := by
  have hstored (part : ListPart) := h.updRoll x fun l => { l.roll with listParts := l.roll.listParts ++ [part] }
  unfold State.listReceived
  extract_lets part _ _ first second
  clear_value first second
  cases first with
  | none => exact hstored _
  | some a => exact .ite (.upd (hstored _) x fun _ hl => (hl.put _ _).withRoll _) (hstored _)

theorem sendClose (h : Keeps a s t) (x : LaneId) (c : Close) : Keeps a s (t.sendClose x c) :=
  h.foldl _ fun _ _ hu => hu.sendSet x _ _

theorem insertedA (h : Keeps a s t) (k : Keeper) (i : Ins) :
    Keeps a s { t with keeper := k, laneA := { t.laneA with ins := i } } := h

theorem adopt (h : Keeps a s t) (x : LaneId) (c : Close) : Keeps a s (t.adopt x c) := by
  unfold State.adopt
  extract_lets _ _ s₁ s₂ _ _ _ s₃ s₄
  have h₁ : Keeps a s s₁ := .upd h x fun _ hl => (hl.withRoll _).dropSchedule
  have h₂ : Keeps a s s₂ := .ite (h₁.inc _ _) h₁
  have h₃ : Keeps a s s₃ := .ite (h₂.insertedA _ _) h₂
  exact .upd ((h₃.lower _ _).candidateMaster x _ _ _) x fun _ hl => .ite (hl.setMaster _) hl

theorem offerClose (h : Keeps a s t) (x : LaneId) (c : Close) : Keeps a s (t.offerClose x c) := by
  unfold State.offerClose
  extract_lets met s₁
  have h₁ : Keeps a s s₁ := h.updRoll x _
  split
  · exact h₁.adopt x c
  · exact .ite h₁ (.ite ((h₁.inc _ _).adopt x c) (h₁.inc _ _))

theorem doClose (h : Keeps a s t) (x : LaneId) (listLimit : Bool) : Keeps a s (doClose x listLimit t) := by
  unfold Machine.doClose
  dsimp only
  split
  · exact h
  · exact .ite h (.sendClose (.offerClose (h.updRoll x _) x _) x _)

theorem closeReceived (h : Keeps a s t) (x : LaneId) (f : RollFrame) (fields : CloseFields) (first n : Nat)
    (es : List DirEntry) : Keeps a s (t.closeReceived x f fields first n es) := by
  unfold State.closeReceived
  extract_lets part s₁ mine
  have h₁ : Keeps a s s₁ := h.updRoll x _
  split
  · exact h₁
  · exact .ite h₁ (.ite (h₁.inc _ _) (h₁.offerClose x _))

theorem doCloseLimit (h : Keeps a s t) (x : LaneId) : Keeps a s (doCloseLimit x t) := .ite ((h.raiseLane x 56).rollTrigger x 8) h

theorem relayRoll (h : Keeps a s t) (x : LaneId) (src : RollSrc) (f : RollFrame) : Keeps a s (t.relayRoll x src f) :=
  .ite ((h.sendSet x _ f).inc _ _) (h.sendSet x _ f)

theorem handleRoll (h : Keeps a s t) (x : LaneId) (src : RollSrc) (f : RollFrame) : Keeps a s (t.handleRoll x src f) := by
  have hrelay := h.relayRoll x src f
  unfold State.handleRoll
  extract_lets again
  split
  · exact h
  · exact .ite h hrelay
  · split
    · exact .ite h (.discovery (h.updRoll x _) x _ f _ _)
    · exact h
  · exact .wantReceived (.ite h hrelay) x _ _
  · exact .ite h (hrelay.listReceived x f _ _ _)
  · exact .ite h (hrelay.closeReceived x f _ _ _ _)

theorem joinRoll (h : Keeps a s t) (x : LaneId) (src : RollSrc) (f : RollFrame) : Keeps a s (t.joinRoll x src f) := by
  have henter := h.enterRoll x f.epoch.toNat (startCodeOf f.body) f.origin.toNat
  unfold State.joinRoll
  dsimp only
  split
  · exact (henter.handleRoll x _ f).beginStreams x
  · exact ((henter.sendSet x _ _).beginStreams x).handleRoll x _ f
  · exact (henter.beginStreams x).handleRoll x _ f

theorem doRollFrame (h : Keeps a s t) (x : LaneId) (src : RollSrc) (r : RollOctets) : Keeps a s (doRollFrame x src r t) := by
  refine .ite h (.ite (h.inc _ _) (.ite (h.joinRoll x src _) (.ite (h.handleRoll x src _) (.ite ?answered ((h.inc _ _).rollTrigger x 9)))))
  split
  · exact (h.inc _ _).upd x fun _ hl => hl.sendRollTo _ _
  · exact h.inc _ _

theorem offerPeerClose (h : Keeps a s t) (x : LaneId) (c : Close) : Keeps a s (t.offerPeerClose x c) :=
  .ite h (.ite ((h.offerClose x c).sendClose x c) (h.offerClose x c))

theorem mirrorRoll (h : Keeps a s t) (x : LaneId) : Keeps a s (t.mirrorRoll x) := by
  unfold State.mirrorRoll
  extract_lets p pe s₁ s₂
  have h₁ : Keeps a s s₁ := .ite (h.startRoll x _ _ _) h
  have h₂ : Keeps a s s₂ := h₁.updRoll x _
  refine .ite h₁ ?_
  split
  · exact h₂
  · exact h₂.offerPeerClose x _

theorem doNotNumberedRequest (h : Keeps a s t) (x : LaneId) : Keeps a s (doNotNumberedRequest x t) := .ite (h.rollTrigger x 7) h

theorem doRollRequest (h : Keeps a s t) (acc : Acc) (v : Byte) : Keeps a s (doRollRequest acc v t) :=
  h.command _ _ _ _ _ _ fun _ => (h.rollTriggerNode 4).answer 0

theorem doLeadDeclaration (h : Keeps a s t) (acc : Acc) (v : Byte) : Keeps a s (doLeadDeclaration acc v t) := by
  have hput := h.writeNode acc (f := fun l => l.put 0x242100 v.toNat) fun _ hl => hl.put _ _
  exact h.command _ _ _ _ _ _ fun x => .answer (.noteCab (.noteCab (.ite (hput.rollTriggerNode 3) hput) .A) .B) 0

/-! #### Faults -/

/-- A change of a collector that leaves its tables. -/
theorem updCollQuiet (h : Keeps a s t) (c : CollectorId) {f : Collector → Collector}
    (hf : ∀ k, (f k).level = k.level ∧ (f k).merged = k.merged) : Keeps a s (t.updColl c f) :=
  h.updColl c fun k hk => by
    unfold CollCanon
    rw [(hf k).1, (hf k).2]
    exact hk

theorem doFaultReaction (h : Keeps a s t) (c : CollectorId) (hits : List SourceHit) : Keeps a s (doFaultReaction c hits t) :=
  .ite (h.enterFaults c hits) h

theorem unstick (h : Keeps a s t) (c : CollectorId) (source : Nat) : Keeps a s (t.unstick c source) := by
  cases c with
  | lane x =>
    refine .ite ?_ (.ite (.upd h x fun _ hl => hl.withPoss _) h)
    exact .upd h x fun _ hl => hl.eachPin fun _ _ hm => hm.setPinBit _ _ _
  | module => exact h

theorem doSourceLeavesFault (h : Keeps a s t) (c : CollectorId) (source : Nat) : Keeps a s (doSourceLeavesFault c source t) :=
  .ite h (.ite ((h.lower c source).unstick c source) h)

theorem doBlockResetDone (h : Keeps a s t) (c : CollectorId) (source : Nat) : Keeps a s (doBlockResetDone c source t) := by
  cases c with
  | lane x =>
    refine .ite h (.ite (.upd (.updCollQuiet ?ended _ ?_) x ?_) (.ite (.upd ?ended x ?_) ?ended))
    case ended => exact .updCollQuiet h _ fun _ => ⟨rfl, rfl⟩
    · exact fun _ => ⟨rfl, rfl⟩
    · exact fun _ hl => hl.foldl _ fun _ _ hm => hm.domainOn _ _
    · exact fun _ hl => hl.withPins rfl id
  | module =>
    refine .ite h (.ite (.doArbiterRestart ?ended) ?ended)
    exact .updCollQuiet h _ fun _ => ⟨rfl, rfl⟩

theorem faultCommand (h : Keeps a s t) (acc : Acc) (module : Bool) (index role : Nat) (state value : CollectorId → Bool)
    {run : CollectorId → State} (hr : ∀ c, Keeps a s (run c)) :
    Keeps a s (t.faultCommand acc module index role state value run) :=
  .ite (h.moduleCommand _ _ _ _ _ _ (hr _)) (h.command _ _ _ _ _ _ fun _ => hr _)

theorem canon_acknowledge {k : Collector} (h : CollCanon k) (v : Nat) : CollCanon (k.acknowledge v) :=
  ⟨List.foldlRecOn (motive := fun t => tabCanon (fun _ => (0 : Nat)) t = true) _ _ h.1 fun _ ht _ _ => tabCanon_tabSet _ _ ht, h.2⟩

theorem canon_releave {k : Collector} (h : CollCanon k) (taken : List Taken) : CollCanon (k.releave taken) :=
  List.foldlRecOn (motive := fun k => CollCanon k) _ _ h fun k hk r _ => by
    split
    · exact collCanon_level hk _ _
    · exact hk

theorem recordAcknowledge (h : Keeps a s t) (c : CollectorId) (v : Nat) : Keeps a s (t.recordAcknowledge c v) := by
  cases c with
  | lane x => exact h.record x _ _
  | module => exact h.recordBoth _ _

theorem acknowledgeWith (h : Keeps a s t) (c : CollectorId) (hits : List SourceHit) (v : Nat) :
    Keeps a s (t.acknowledgeWith c hits v) :=
  .ite (.recordAcknowledge (h.updColl c fun _ hk => canon_acknowledge hk v) c v)
    (.react (.recordAcknowledge ((h.decideFaults c hits).updColl c fun _ hk => canon_releave (canon_acknowledge hk v) _) c v) c _)

theorem doAcknowledge (h : Keeps a s t) (acc : Acc) (module : Bool) (v : BitVec 16) (hits : List SourceHit) :
    Keeps a s (doAcknowledge acc module v hits t) := by
  unfold Machine.doAcknowledge
  extract_lets u
  have hu : Keeps a s u := h.faultCommand acc module _ _ _ _ fun c =>
    .answer (.ite (h.acknowledgeWith c hits v.toNat) (h.acknowledgeWith c [] v.toNat)) 0
  refine .ite hu ?_
  split
  · exact hu
  · exact .ite (hu.enterFaults _ hits) hu

theorem inject (h : Keeps a s t) (c : CollectorId) (n : Nat) : Keeps a s (t.inject c n) := by
  refine .ite ?marked (.carryOut (.recordReaction (.ite (.updColl ?marked c ?unacknowledged) ?marked) c _) c _)
  case unacknowledged => exact fun _ hk => hk
  case marked => exact .updCollQuiet h c fun _ => ⟨rfl, rfl⟩

theorem doInject (h : Keeps a s t) (acc : Acc) (module : Bool) (source : Byte) : Keeps a s (doInject acc module source t) :=
  h.faultCommand acc module _ _ _ _ fun c => (h.inject c _).answer 0

theorem doFullReactionArm (h : Keeps a s t) (acc : Acc) (module : Bool) (source : Byte) :
    Keeps a s (doFullReactionArm acc module source t) :=
  h.faultCommand acc module _ _ _ _ fun c => by
    refine .answer (.updCollQuiet h c ?_) 0
    exact fun _ => ⟨rfl, rfl⟩

theorem doFullReactionArmLapse (h : Keeps a s t) (c : CollectorId) : Keeps a s (doFullReactionArmLapse c t) :=
  h.updColl c fun _ hk => hk

/-! #### Recorder -/

theorem doRecorderMemoryFailed (h : Keeps a s t) (x : LaneId) (cause : Byte) : Keeps a s (doRecorderMemoryFailed x cause t) :=
  .ite (.failRecorder (.ite (h.upd x fun _ hl => hl.unclosed) h) x _) h

theorem doRecordWrite (h : Keeps a s t) (x : LaneId) (first second closes : Bool) (later : List Bool) :
    Keeps a s (doRecordWrite x first second closes later t) := by
  unfold Machine.doRecordWrite
  dsimp only
  split
  · exact h
  · refine .ite h (.ite (h.upd x fun _ hl => (hl.withLog _).lose _) (.ite (.raiseLane ?failed x 105) ?failed))
    case failed =>
      refine .ite (.raiseLane ?written x 104) ?written
      case written => exact h.upd x fun _ hl => (hl.withLog _).writeRecord _ _ _ _

theorem doEventLost (h : Keeps a s t) (x : LaneId) (code : BitVec 16) : Keeps a s (doEventLost x code t) :=
  .ite h (.ite (h.upd x fun _ hl => hl.lose _) (.ite (h.upd x fun _ hl => (hl.lose _).withLog _) h))

theorem doControlBlockRewrite (h : Keeps a s t) (x : LaneId) (cut : Option (Fin 3)) :
    Keeps a s (doControlBlockRewrite x cut t) := by
  refine .ite ?_ h
  cases cut with
  | none => exact h.upd x fun _ hl => hl.rewriteControl
  | some k => exact h.upd x fun _ hl => hl.cutRewrite _

theorem doClear (h : Keeps a s t) (acc : Acc) (v : Byte) : Keeps a s (doClear acc v t) :=
  h.command _ _ _ _ _ _ fun x => .answer (h.upd x fun _ hl => hl.rewriteControl.withLog _) 0

theorem doClearDone (h : Keeps a s t) (x : LaneId) (badSlots : List Nat) (controlOk : Bool) :
    Keeps a s (doClearDone x badSlots controlOk t) := by
  refine .ite h (.ite (.lower ?cleared _ _) (.raiseLane ?cleared x 104))
  exact .lower (h.upd x fun _ hl => hl.cleared _ _ _) _ _

theorem doTimeTagRestore (h : Keeps a s t) (acc : Acc) (v : Byte) : Keeps a s (doTimeTagRestore acc v t) :=
  h.command _ _ _ _ _ _ fun x => .answer (.lower (.record (h.upd x fun _ hl => hl.rewriteControl.withLog _) x _ _) _ _) 0

end State.Keeps
end Sys2Proof.Machine

namespace Sys2Proof.Machine

/-! ### What schedule, time and ageing keep -/

namespace LaneState.Keeps

variable {l₀ l : LaneState}

/-! #### Flows -/

/-- The flows of a lane are no part of what is kept. -/
theorem withFlow (h : l₀.Keeps l) (f : FlowState) : l₀.Keeps { l with flow := f } := h

/-- The margin plan of a lane is no part of what is kept. -/
theorem withPlan (h : l₀.Keeps l) (p : Plan) : l₀.Keeps { l with plan := p } := h

theorem refreshStale (h : l₀.Keeps l) (n : Nat) : l₀.Keeps (l.refreshStale n) := .ite (.inc (h.withFlow _) _) (h.withFlow _)

theorem resolveOne (h : l₀.Keeps l) (n : Nat) : l₀.Keeps (l.resolveOne n) := .ite (.refreshStale (h.withFlow _) _) (h.withFlow _)

theorem resolveAll (h : l₀.Keeps l) : l₀.Keeps l.resolveAll := h.foldl _ fun _ n hl => hl.resolveOne n

theorem resolveAtSwitch (h : l₀.Keeps l) : l₀.Keeps l.resolveAtSwitch := .resolveAll (h.foldl _ fun _ _ hl => hl.withFlow _)

theorem resolveChanged (h : l₀.Keeps l) (n : Nat) : l₀.Keeps (l.resolveChanged n) := .resolveOne (h.withFlow _) n

theorem updPub (h : l₀.Keeps l) (n : Nat) (f : PubCtx → PubCtx) : l₀.Keeps (l.updPub n f) := h.withFlow _

theorem updSub (h : l₀.Keeps l) (n : Nat) (f : SubCtx → SubCtx) : l₀.Keeps (l.updSub n f) := h.withFlow _

theorem writeControl (h : l₀.Keeps l) (n v : Nat) : l₀.Keeps (l.writeControl n v) :=
  .ite (.ite (h.updPub _ _) h) (.ite (h.updSub _ _) h)

/-! #### Time -/

theorem setRate (h : l₀.Keeps l) (r : Int) : l₀.Keeps (l.setRate r) := (h.put _ _).put _ _

theorem takeMaster (h : l₀.Keeps l) (sender : Nat) : l₀.Keeps (l.takeMaster sender) := by
  unfold LaneState.takeMaster
  refine .ite h ?_
  split
  · exact h.setMaster _
  · exact .ite (h.setMaster _) h

theorem servo (h : l₀.Keeps l) (theta : Int) : l₀.Keeps (l.servo theta) := .setRate (h.withTime _) _

theorem enterTime (h : l₀.Keeps l) (st : Nat) : l₀.Keeps (l.enterTime st) := by
  refine .ite ?noted (.withTime ?noted _)
  exact .ite (h.put _ _) ((h.put _ _).put _ _)

theorem enterHoldover (h : l₀.Keeps l) (now : Nat) : l₀.Keeps (l.enterHoldover now) := .setRate ((h.enterTime 3).withTime _) _

theorem pulseOff (h : l₀.Keeps l) (u : Nat) (late : Bool) : l₀.Keeps (l.pulseOff u late) := ((h.put _ _).put _ _).put _ _

theorem armPulse (h : l₀.Keeps l) (u : Nat) : l₀.Keeps (l.armPulse u) := by
  refine .ite (h.pulseOff _ _) (.ite (.ite (h.pulseOff _ _) ?_) ?_)
  · exact (h.put _ _).put _ _
  · exact (h.put _ _).put _ _

theorem rearm (h : l₀.Keeps l) (u : Nat) : l₀.Keeps (l.rearm u) := .ite (h.withTime _) (h.armPulse u)

theorem writeMode (h : l₀.Keeps l) (u mode : Nat) : l₀.Keeps (l.writeMode u mode) := .ite ((h.put _ _).rearm u) h

theorem pulseLevelTo (h : l₀.Keeps l) (u : Nat) (high : Bool) : l₀.Keeps (l.pulseLevelTo u high) := (h.put _ _).withTime _

theorem endPulse (h : l₀.Keeps l) (u : Nat) : l₀.Keeps (l.endPulse u) :=
  .ite (.armPulse ((h.pulseLevelTo u false).withTime _) u) (h.pulseLevelTo u false)

theorem beginPulse (h : l₀.Keeps l) (u : Nat) : l₀.Keeps (l.beginPulse u) :=
  .withTime ((((h.put _ _).put _ _).inc _).pulseLevelTo u true) _

theorem stepPulses (h : l₀.Keeps l) (old new : Nat) : l₀.Keeps (l.stepPulses old new) :=
  .withTime (h.foldl _ fun _ u hl => .ite (hl.armPulse u) hl) _

theorem withTimeFlow (h : l₀.Keeps l) (r : TimeState) (f : FlowState) : l₀.Keeps { l with time := r, flow := f } := h

theorem withFlowRoll (h : l₀.Keeps l) (f : FlowState) (r : RollState) : l₀.Keeps { l with flow := f, roll := r } := h

theorem stepTo (h : l₀.Keeps l) (old new : Nat) : l₀.Keeps (l.stepTo old new) := by
  refine .stepPulses (.put (.put (.put (.put ?_ _ _) _ _) _ _) _ _) old new
  exact h.withTimeFlow _ _

theorem leadTime (h : l₀.Keeps l) : l₀.Keeps l.leadTime := .ite h (h.enterTime _)

theorem waitForDomain (h : l₀.Keeps l) (now : Nat) : l₀.Keeps (l.waitForDomain now) := (h.enterHoldover now).withTime _

theorem discardDelay (h : l₀.Keeps l) (e : EndId) (n : Nat) : l₀.Keeps (l.discardDelay e n) := (h.updPort e _).inc _

theorem measureDelay (h : l₀.Keeps l) (e : EndId) (n : Nat) (d : Int) : l₀.Keeps (l.measureDelay e n d) :=
  ((h.updPort e _).put _ _).put _ _

theorem noteMirror (h : l₀.Keeps l) (theta : Int) : l₀.Keeps (l.noteMirror theta) := h.withTime _

/-! #### Ageing -/

theorem setConflict (h : l₀.Keeps l) (m : Nat) (b : Bool) : l₀.Keeps (l.setConflict m b) := h.put _ _

theorem planConflict (h : l₀.Keeps l) (m own : Nat) (lost : Bool) : l₀.Keeps (l.planConflict m own lost) := h.setConflict _ _

theorem setOwn (h : l₀.Keeps l) (m v : Nat) : l₀.Keeps (l.setOwn m v) := h.withPlan _

theorem planCore (h : l₀.Keeps l) (vreq : Nat) : l₀.Keeps (l.planCore vreq) :=
  ((((h.withPlan _).setOwn _ _).put _ _).put _ _).planConflict _ _ _

theorem planPin (h : l₀.Keeps l) (n : Nat) : l₀.Keeps (l.planPin n) := by
  refine .ite (.withPlan ?measured _) (.withPlan (.put ?measured _ _) _)
  exact .ite h (h.put _ _)

theorem planPins (h : l₀.Keeps l) : l₀.Keeps l.planPins :=
  (((h.eachPin fun _ n hl => hl.planPin n).setOwn _ _).put _ _).planConflict _ _ _

theorem planTrim (h : l₀.Keeps l) : l₀.Keeps l.planTrim.1 := by
  unfold LaneState.planTrim
  split
  · exact h
  · exact .put (.setConflict (.setRate (.withTime (.put (h.setOwn _ _) _ _) _) _) _ _) _ _

theorem planScrub (h : l₀.Keeps l) : l₀.Keeps l.planScrub := (((h.withPlan _).setOwn _ _).put _ _).planConflict _ _ _

theorem planTracked (h : l₀.Keeps l) : l₀.Keeps l.planTracked := by
  refine .put (.put (.ite ?tracked (.put ?tracked _ _)) _ _) _ _
  exact (h.put _ _).put _ _

theorem planRate (h : l₀.Keeps l) (e : EndId) : l₀.Keeps (l.planRate e) := .ite (((h.put _ _).put _ _).updPort e _) h

theorem planMargin (h : l₀.Keeps l) (m : Nat) : l₀.Keeps (l.planMargin m) := by
  unfold LaneState.planMargin
  split
  · exact h
  · exact h.put _ _

theorem closePlan (h : l₀.Keeps l) (cause : Nat) (p : PlanInputs) : l₀.Keeps (l.closePlan cause p).1 := by
  have hplan := (((h.planCore p.vreq).planPins.planTrim.planScrub.planTracked).planMargin 1).planMargin 2
  exact .ite ((hplan.planRate .e1).planRate .e2) hplan

theorem appendHistory (h : l₀.Keeps l) : l₀.Keeps l.appendHistory := h.withPlan _

theorem finishPlan (h : l₀.Keeps l) (unmeasured : Bool) : l₀.Keeps (l.finishPlan unmeasured) := by
  refine .put (.inc (.put (.appendHistory (h.foldl _ ?_)) _ _) _) _ _
  exact fun _ _ hl => (hl.put _ _).put _ _

theorem takeInterval (h : l₀.Keeps l) : l₀.Keeps l.takeInterval := by
  unfold LaneState.takeInterval
  split
  · exact h
  · exact (h.put _ _).withPlan _

theorem sampleRise (h : l₀.Keeps l) (rise : Option RiseReading) : l₀.Keeps (l.sampleRise rise) := by
  cases rise with
  | none => exact h
  | some r => exact (h.sample _ _).sample _ _

theorem moveSetting (h : l₀.Keeps l) (m : Nat) : l₀.Keeps (l.moveSetting m) := by
  unfold LaneState.moveSetting
  dsimp only
  split
  · exact h.eachPin fun _ _ hl => hl.put _ _
  · exact (h.put _ _).setRate _
  · exact h.put _ _

theorem writeBound (h : l₀.Keeps l) (m sub v : Nat) : l₀.Keeps (l.writeBound m sub v) :=
  (((h.put _ _).moveSetting m).setConflict _ _).put _ _

end LaneState.Keeps

namespace State.Keeps

variable {a : Option LaneId} {s t : State}

/-! #### Flows -/

theorem doScheduleComputation (h : Keeps a s t) (x : LaneId) : Keeps a s (doScheduleComputation x t) :=
  .ite h (.upd h x fun _ hl => hl.withFlow _)

theorem doScheduleComputationDone (h : Keeps a s t) (x : LaneId) (micros : BitVec 32) :
    Keeps a s (doScheduleComputationDone x micros t) := .ite (.upd h x fun _ hl => (hl.withFlow _).put _ _) h

theorem enforce (h : Keeps a s t) (x : LaneId) (d : Sched) : Keeps a s (t.enforce x d) := by
  refine .follow (.upd h x fun l hl => ?_) x 48 _
  exact (((((LaneState.Keeps.put (hl.withFlowRoll _ _) _ _).put _ _).put _ _).put _ _).put _ _).put _ _

theorem writeContext (h : Keeps a s t) (acc : Acc) (n sub v : Nat) : Keeps a s (t.writeContext acc n sub v) :=
  .writeNode h acc fun _ hl => (hl.put _ _).resolveChanged n

theorem flowConfig (h : Keeps a s t) (acc : Acc) (n sub v : Nat) : Keeps a s (t.flowConfig acc n sub v) := by
  unfold State.flowConfig
  split
  · exact h.abort _
  · exact .ite (h.abort _) (.ite (h.abort _) (.ite (h.abort _) (.ite (h.abort _) (.ite (h.abort _) (.ite (h.abort _)
      ((h.writeContext acc n sub v).answer 0))))))

theorem doFlowConfigWrite (h : Keeps a s t) (acc : Acc) (ctx : Fin 1024) (sub : Fin 9) (v : BitVec 64) :
    Keeps a s (doFlowConfigWrite acc ctx sub v t) := h.flowConfig _ _ _ _

theorem flowControl (h : Keeps a s t) (acc : Acc) (n v : Nat) : Keeps a s (t.flowControl acc n v) := by
  unfold State.flowControl
  split
  · exact h.abort _
  · exact .ite (h.abort _) (.ite (h.abort _) (.ite (h.abort _) (.answer (.fanOut h _ fun _ hl => hl.writeControl n v) 0)))

theorem doPublicationCommit (h : Keeps a s t) (acc : Acc) (ctx : Fin 1024) : Keeps a s (doPublicationCommit acc ctx t) :=
  h.flowControl _ _ _

/-! #### Time -/

theorem updTime (h : Keeps a s t) (x : LaneId) (f : LaneState → TimeState) :
    Keeps a s (t.upd x fun l => { l with time := f l }) := .upd h x fun _ hl => hl.withTime _

theorem enterTime (h : Keeps a s t) (x : LaneId) (st : Nat) : Keeps a s (t.upd x fun l => l.enterTime st) :=
  .upd h x fun _ hl => hl.enterTime st

theorem enterHoldover (h : Keeps a s t) (x : LaneId) (now : Nat) : Keeps a s (t.upd x fun l => l.enterHoldover now) :=
  .upd h x fun _ hl => hl.enterHoldover now

theorem doBaselineWrite (h : Keeps a s t) (acc : Acc) (v : BitVec 32) : Keeps a s (doBaselineWrite acc v t) :=
  h.command _ _ _ _ _ _ fun x => .answer (.upd h x fun _ hl => ((hl.put _ _).withPlan _).setRate _) 0

theorem doFoundDomain (h : Keeps a s t) (x : LaneId) : Keeps a s (doFoundDomain x t) :=
  .ite (.upd (h.mput _ _) x fun _ hl => ((hl.put _ _).put _ _).setRate _) h

theorem runServo (h : Keeps a s t) (x : LaneId) (theta : Int) : Keeps a s (t.runServo x theta) := by
  refine .ite (.ite (.upd h x fun _ hl => hl.servo theta) (.ite ?counted (.raiseLane (.upd ?counted x ?_) x 65))) (.lower (.upd h x ?_) _ 65)
  case counted => exact .upd h x fun _ hl => (hl.withTime _).inc _
  · exact fun _ hl => hl.put _ _
  · exact fun _ hl => (hl.withTime _).servo theta

theorem doSyncLoss (h : Keeps a s t) (x : LaneId) : Keeps a s (doSyncLoss x t) :=
  .ite (h.enterTime x 4) (.ite (h.enterHoldover x _) h)

theorem doHoldoverAlarm (h : Keeps a s t) (x : LaneId) : Keeps a s (doHoldoverAlarm x t) :=
  .ite (.raiseLane (.upd h x fun _ hl => hl.put _ _) x 66) h

theorem lockTime (h : Keeps a s t) (x : LaneId) : Keeps a s (t.lockTime x) :=
  .lower (.upd h x fun _ hl => (hl.enterTime 2).withTime _) _ 66

theorem doPulseModeWrite (h : Keeps a s t) (acc : Acc) (u : Fin 8) (v : Byte) : Keeps a s (doPulseModeWrite acc u v t) :=
  h.command _ _ _ _ _ _ fun _ => .answer (.fanOut h _ fun _ hl => hl.writeMode _ _) 0

theorem doPulseEdge (h : Keeps a s t) (x : LaneId) (u : Fin 8) : Keeps a s (doPulseEdge x u t) :=
  .ite h (.ite (.upd h x fun _ hl => (hl.endPulse _).drivePins) (.ite (.upd h x fun _ hl => (hl.beginPulse _).drivePins) h))

theorem align (h : Keeps a s t) (x : LaneId) (rate old new : Int) (domain st : Nat) :
    Keeps a s (t.align x rate old new domain st) := by
  refine .ite (.lockTime ?stepped x) (.enterTime ?stepped x st)
  exact .upd h x fun _ hl => (((hl.withTime _).setRate _).stepTo _ _).put _ _

theorem doLockAcquisitionStep (h : Keeps a s t) (x : LaneId) : Keeps a s (doLockAcquisitionStep x t) := by
  unfold Machine.doLockAcquisitionStep
  dsimp only
  split
  · exact h
  · split
    · exact h
    · exact .ite h (h.align x _ _ _ _ _)

theorem changeDomain (h : Keeps a s t) (x : LaneId) (rate old new : Int) : Keeps a s (t.changeDomain x rate old new) :=
  .updTime (h.align x _ _ _ _ _) x _

theorem doLateDomainStep (h : Keeps a s t) (x : LaneId) : Keeps a s (doLateDomainStep x t) := by
  unfold Machine.doLateDomainStep
  dsimp only
  split
  · exact h
  · exact .ite h (.ite (h.changeDomain x _ _ _) (.updTime (h.align x _ _ _ _ _) x _))

theorem changeMaster (h : Keeps a s t) (x : LaneId) (uid : Nat) : Keeps a s (t.changeMaster x uid) := by
  refine .ite (.upd h x fun _ hl => (hl.setMaster uid).leadTime) (.ite h (.ite (.enterHoldover ?named x _) ?named))
  exact .upd h x fun _ hl => hl.setMaster uid

theorem switchTime (h : Keeps a s t) (x : LaneId) (uid switchBeat : Nat) (first : Bool) :
    Keeps a s (t.switchTime x uid switchBeat first) := by
  have hput : Keeps a s (t.upd x fun l => l.put 0x400A00 uid) := h.put x _ _
  refine .ite ?_ (.ite (.upd h x fun _ hl => (hl.setMaster uid).waitForDomain _) (h.changeMaster x uid))
  split
  · exact hput.changeDomain x _ _ _
  · exact .upd hput x fun _ hl => hl.waitForDomain _

theorem doSyncSend (h : Keeps a s t) (x : LaneId) : Keeps a s (doSyncSend x t) := by
  refine .ite (.upd h x fun l hl => .withTime (hl.foldl _ ?_) _) h
  exact fun _ e hm => .ite (hm.emit e _) hm

theorem masterSync (h : Keeps a s t) (x : LaneId) (theta ingress : Int) (m : SyncMsg) :
    Keeps a s (t.masterSync x theta ingress m) := by
  refine .ite (.upd ?noted x ?_) (.ite (.runServo ?noted x theta) (.ite (.lockTime ?noted x) ?noted))
  case noted => exact .upd h x fun _ hl => ((hl.put _ _).inc _).withTime _
  exact fun _ hl => hl.put _ _

theorem candidateSync (h : Keeps a s t) (x : LaneId) (theta ingress : Int) (m : SyncMsg) :
    Keeps a s (t.candidateSync x theta ingress m) := .upd h x fun _ hl => (hl.inc _).withTime _

theorem judgeSync (h : Keeps a s t) (x : LaneId) (e : EndId) (m : SyncMsg) (ingress : Int) :
    Keeps a s (t.judgeSync x e m ingress) := by
  refine .ite h (.ite ?named (.ite (.ite (.masterSync ?named x _ _ m) ?named) (.ite (.ite (.candidateSync ?named x _ _ m) ?named) ?named)))
  exact .upd h x fun _ hl => hl.takeMaster _

theorem doPdelayResp (h : Keeps a s t) (x : LaneId) (e : EndId) (m : PdelayRequest) (ingress : Nat) :
    Keeps a s (doPdelayResp x e m ingress t) :=
  .ite h (.ite (h.inc _ _) (.ite h (.upd h x fun _ hl => hl.emit e _)))

theorem followDelays (h : Keeps a s t) (x : LaneId) : Keeps a s (t.followDelays x) := .ite h (h.lower _ 64)

theorem doPdelayMeasurement (h : Keeps a s t) (x : LaneId) (e : EndId) (t1 t4 : Int) (m : PdelayAnswer) :
    Keeps a s (doPdelayMeasurement x e t1 t4 m t) := by
  refine .ite h (.ite (h.inc _ _) (.ite h (.ite (.upd h x fun _ hl => hl.discardDelay e _) (.follow (.followDelays ?_ x) x 49 _))))
  exact .upd h x fun _ hl => hl.measureDelay e _ _

theorem doPdelayRespTimeout (h : Keeps a s t) (x : LaneId) (e : EndId) : Keeps a s (doPdelayRespTimeout x e t) := by
  unfold Machine.doPdelayRespTimeout
  split
  · exact h
  · exact .upd h x fun _ hl => hl.discardDelay e _

theorem doPeerDelayFailure (h : Keeps a s t) (x : LaneId) (e : EndId) : Keeps a s (doPeerDelayFailure x e t) :=
  .ite (.raiseLane (.upd h x fun _ hl => hl.updPort e _) x 64) h

theorem peerTellsDomain (h : Keeps a s t) (x : LaneId) (theta : Int) : Keeps a s (t.peerTellsDomain x theta) :=
  .ite h (.ite (h.updTime x _) (.upd h x fun _ hl => hl.noteMirror theta))

theorem compareLane (h : Keeps a s t) (x : LaneId) (theta : Int) : Keeps a s (t.compareLane x theta) := by
  have hput := h.put x 0x401000 (sat32 theta)
  refine .ite (.runServo (.lower (hput.enterTime x 4) _ 66) x theta) (.ite (hput.runServo x theta) (.ite ?_ (.ite
    (hput.peerTellsDomain x theta) hput)))
  exact .upd hput x fun _ hl => (hl.put _ _).noteMirror theta

theorem countDiverged (h : Keeps a s t) (x : LaneId) (far : Bool) : Keeps a s (t.countDiverged x far) := h.updTime x _

theorem doLaneTimeCompare (h : Keeps a s t) (t1 t2 t3 t4 : Int) : Keeps a s (doLaneTimeCompare t1 t2 t3 t4 t) := by
  refine .ite h (.ite (.raiseLane (.upd ?compared _ ?_) _ 67) (.ite ?compared (.lower (.lower ?compared _ 67) _ 67)))
  case compared => exact .countDiverged (.countDiverged (.compareLane (h.compareLane .A _) .B _) .A _) .B _
  exact fun _ hl => hl.put _ _

theorem fastTimebase (h : Keeps a s t) (high : Bool) : Keeps a s (t.fastTimebase high) := by
  unfold State.fastTimebase
  refine .ite (h.answer _) ?_
  split
  · exact h.abort _
  · refine .answer (.withHost h ?_) _
    exact id

theorem doFastTimebaseRead (h : Keeps a s t) (high : Bool) : Keeps a s (doFastTimebaseRead high t) := .ite (h.fastTimebase high) h

theorem doFieldMapUnmapped (h : Keeps a s t) (x : LaneId) : Keeps a s (doFieldMapUnmapped x t) := h.put x _ _

/-! #### Ageing -/

theorem recordPlan (h : Keeps a s t) (x : LaneId) (cause : Nat) (before : List (Nat × Nat)) :
    Keeps a s (t.recordPlan x cause before) := .record (h.foldl _ fun _ _ hu => hu.record x _ _) x _ _

theorem followPlan (h : Keeps a s t) (x : LaneId) : Keeps a s (t.followPlan x) := (h.followLimits x).followConflicts x

theorem doRePlan (h : Keeps a s t) (x : LaneId) (p : PlanInputs) : Keeps a s (doRePlan x p t) := by
  unfold Machine.doRePlan
  dsimp only
  split
  · exact h
  · refine .ite h (.ite (.upd h x fun _ hl => hl.deferPlan) (.followPlan (.recordPlan (.upd h x ?_) x _ _) x))
    exact fun _ hl => (hl.closePlan _ p).finishPlan _

theorem doDailyRePlanDue (h : Keeps a s t) (x : LaneId) : Keeps a s (doDailyRePlanDue x t) :=
  .ite (.upd h x fun _ hl => (hl.withPlan _).deferPlan) h

theorem doRePlanNow (h : Keeps a s t) (acc : Acc) (v : Byte) : Keeps a s (doRePlanNow acc v t) :=
  h.command _ _ _ _ _ _ fun x => .answer (.upd h x fun _ hl => (hl.withPlan _).put _ _) 0

theorem doDeferredRePlanStart (h : Keeps a s t) (x : LaneId) : Keeps a s (doDeferredRePlanStart x t) :=
  .ite h (.upd h x fun _ hl => hl.put _ _)

theorem doGuardStep (h : Keeps a s t) (x : LaneId) : Keeps a s (doGuardStep x t) :=
  .ite h (.record (.upd h x fun _ hl => ((hl.put _ _).inc _).put _ _) x _ _)

theorem doCoreVoltageFault (h : Keeps a s t) (x : LaneId) : Keeps a s (doCoreVoltageFault x t) := h.raiseLane x 2

theorem doOnResistanceMeasure (h : Keeps a s t) (x : LaneId) (pin : Fin 24) (drop mA : Nat) :
    Keeps a s (doOnResistanceMeasure x pin drop mA t) := .ite (.upd h x fun _ hl => hl.sample _ _) h

theorem doScrub (h : Keeps a s t) (x : LaneId) (corrected : Nat) (uncorrectable : Bool) :
    Keeps a s (doScrub x corrected uncorrectable t) := by
  refine .ite h (.ite (.raiseLane ?taken x 18) ?taken)
  exact .upd h x fun _ hl => (hl.sample _ _).takeInterval

theorem doEquivalentHoursTick (h : Keeps a s t) (x : LaneId) (temp : Int) (rise : Option RiseReading) :
    Keeps a s (doEquivalentHoursTick x temp rise t) := by
  have haged : Keeps a s (t.upd x fun l =>
      (({ l with plan := { l.plan with hours := l.plan.hours + ageingPerMinute temp } }.put 0x130600 (ofSigned 32 temp)).put
        (rowKey 10 1) ((l.plan.hours + ageingPerMinute temp) / 1000000)).sampleRise rise) :=
    .upd h x fun _ hl => (((hl.withPlan _).put _ _).put _ _).sampleRise rise
  cases rise with
  | none => exact .ite (.ite (haged.raiseLane x 108) haged) h
  | some r => exact .ite (.follow (.ite (haged.raiseLane x 108) haged) x 3 _) h

theorem doPlanBoundWrite (h : Keeps a s t) (acc : Acc) (row : Fin 11) (ceiling : Bool) (v : BitVec 32) :
    Keeps a s (doPlanBoundWrite acc row ceiling v t) := by
  unfold Machine.doPlanBoundWrite
  dsimp only
  split
  · exact h.abort _
  · refine .ite (h.abort _) (.ite (h.abort _) (.ite (h.abort _) (.ite (h.abort _) (.answer (.followConflicts (.upd h _ ?_) _) 0))))
    exact fun _ hl => hl.writeBound _ _ _

end State.Keeps
end Sys2Proof.Machine

namespace Sys2Proof.Machine

/-! ### What the field side keeps -/

namespace LaneState.Keeps

variable {l₀ l : LaneState}

/-- A change of the field side that leaves its pins. -/
theorem updField (h : l₀.Keeps l) {f : FieldState → FieldState} (hf : (f l.field).pins = l.field.pins) :
    l₀.Keeps (l.updField f) := h.withPins hf id

theorem beginFilter (h : l₀.Keeps l) (n : Nat) (raw : Bool) : l₀.Keeps (l.beginFilter n raw) := h.updPin n _

theorem mapFieldTime (h : l₀.Keeps l) (counter : Nat) : l₀.Keeps (l.mapFieldTime counter) := by
  refine .ite ?mapped (.put ?mapped _ _)
  refine .put (h.updField ?_) _ _
  rfl

theorem captureEdge (h : l₀.Keeps l) (n : Nat) (level : Bool) (counter : Nat) : l₀.Keeps (l.captureEdge n level counter) := by
  refine .ite ?counted (.ite (.inc (.setPinBit (.updPin ?counted n _) n _ _) _) (.updPin ?counted n _))
  exact (h.inc _).updPin n _

theorem tickPin (h : l₀.Keeps l) (n mV counter : Nat) : l₀.Keeps (l.tickPin n mV counter) := by
  refine .ite (.updPin (h.updPin n _) n _) (.ite ?ticked (.captureEdge ?ticked n _ _))
  exact (h.updPin n _).updPin n _

theorem takeCurrents (h : l₀.Keeps l) (base : Nat) (cs : List Nat) : l₀.Keeps (l.takeCurrents base cs) :=
  h.foldl _ fun _ _ hl => .ite ((hl.put _ _).setPinBit _ _ _) (hl.put _ _)

end LaneState.Keeps

namespace State.Keeps

variable {a : Option LaneId} {s t : State}

theorem clearPinSources (h : Keeps a s t) (x : LaneId) : Keeps a s (t.clearPinSources x) := by
  refine .ite ?stuck (.lower ?stuck _ 84)
  refine .ite ?shorted (.lower ?shorted _ 83)
  exact .ite h (h.lower _ 82)

theorem doFieldRunCommand (h : Keeps a s t) (x : LaneId) (volts : List Nat) : Keeps a s (doFieldRunCommand x volts t) := by
  refine .ite h (.checkCab (.upd h x fun l hl => .commandPins (.updField ?_ ?_)) x _)
  · refine .ite hl (hl.eachPin ?_)
    exact fun _ n hm => hm.beginFilter n _
  · rfl

theorem doIsolationFrame (h : Keeps a s t) (x : LaneId) (toField ok : Bool) (counter : Nat) :
    Keeps a s (doIsolationFrame x toField ok counter t) := by
  refine .ite h (.ite (.upd (h.inc _ _) x fun _ hl => hl.sample 6 1) (.ite (.clearPinSources (.upd h x ?_) x)
    (.ite (.raiseLane ?shown x 87) (.ite ?shown (.lower ?shown _ 87)))))
  · exact fun _ hl => hl.commandPins.mapFieldTime counter
  · refine .lower (.upd h x fun l hl => ?_) _ 80
    have hshown : l.Keeps (l.updField fun f => { f with linkUp := true, report := false }) := hl.updField rfl
    exact .ite (hshown.put _ _) hshown

theorem doFieldLinkFailed (h : Keeps a s t) (x : LaneId) : Keeps a s (doFieldLinkFailed x t) := by
  refine .ite (.raiseLane (.inc (.upd h x fun _ hl => hl.updField ?_) x _) x 80) h
  rfl

theorem doFieldWatchdogExpiry (h : Keeps a s t) (x : LaneId) : Keeps a s (doFieldWatchdogExpiry x t) :=
  .upd h x fun _ hl => hl.watchdogExpires

theorem setDisagreement (h : Keeps a s t) (n : Nat) (b : Bool) : Keeps a s (t.setDisagreement n b) :=
  .updBoth h fun _ hl => (hl.setPinBit n 6 b).put _ _

theorem refreshDisagreements (h : Keeps a s t) : Keeps a s t.refreshDisagreements := by
  refine .ite (.lower (.lower ?settled _ 81) _ 81) ?settled
  exact h.foldl _ fun _ n hu => .ite (hu.setDisagreement n false) hu

theorem doInputDisagreement (h : Keeps a s t) (pin : Fin 24) : Keeps a s (doInputDisagreement pin t) := by
  refine .ite ?_ h
  dsimp only
  split
  · exact (h.setDisagreement _ _).raiseLane _ 81
  · exact h.setDisagreement _ _

theorem doPinFunctionChange (h : Keeps a s t) (acc : Acc) (pin : Fin 24) (v : Byte) :
    Keeps a s (doPinFunctionChange acc pin v t) := by
  refine h.command _ _ _ _ _ _ fun _ => .answer (.checkCab (.checkCab (.refreshDisagreements (.clearPinSources
    (.clearPinSources (.fanOut h _ ?_) .A) .B)) .A _) .B _) 0
  exact fun _ hl => hl.changeFunction _ _

theorem doInputFilterTick (h : Keeps a s t) (x : LaneId) (volts edges : List Nat) :
    Keeps a s (doInputFilterTick x volts edges t) := by
  refine .ite h (.ite ?ticked (.rollTrigger (.noteCab ?ticked x) x 3))
  refine .refreshDisagreements (.upd h x fun _ hl => hl.eachPin ?_)
  exact fun _ n hm => hm.tickPin n _ _

theorem readCapture (h : Keeps a s t) (x : LaneId) (n : Nat) : Keeps a s (t.readCapture x n) :=
  .answerBytes (.upd h x fun _ hl => hl.readEffect _ _) _

theorem doCaptureHeadRead (h : Keeps a s t) (acc : Acc) (pin : Fin 24) : Keeps a s (doCaptureHeadRead acc pin t) := by
  unfold Machine.doCaptureHeadRead
  split
  · exact h.abort _
  · exact .ite (h.readCapture _ _) (h.abort _)

theorem latchPin (h : Keeps a s t) (x : LaneId) (n : Nat) (thermal : Bool) : Keeps a s (t.latchPin x n thermal) :=
  .raiseLane (.upd h x fun _ hl => ((hl.setPinBit _ _ _).settleDriver n).inc _) x 82

theorem doOutputOverload (h : Keeps a s t) (x : LaneId) (pin : Fin 24) (thermal : Bool) :
    Keeps a s (doOutputOverload x pin thermal t) := .ite (h.latchPin x _ _) h

theorem doInrushWindowEnd (h : Keeps a s t) (x : LaneId) (pin : Fin 24) (atLimit : Bool) :
    Keeps a s (doInrushWindowEnd x pin atLimit t) := by
  refine .ite (.ite (.latchPin ?ended x _ _) ?ended) h
  exact .upd h x fun _ hl => (hl.setPinBit _ _ _).takeLimits

theorem doGroupOverload (h : Keeps a s t) (x : LaneId) (group : Fin 3) (currents : List Nat) :
    Keeps a s (doGroupOverload x group currents t) := by
  refine .ite h (.ite ?shown ?_)
  case shown => exact .clearPinSources (.upd h x fun _ hl => (hl.takeCurrents _ _).put _ _) x
  split
  · exact .latchPin (.clearPinSources (.upd h x fun _ hl => (hl.takeCurrents _ _).put _ _) x) x _ _
  · exact .clearPinSources (.upd h x fun _ hl => (hl.takeCurrents _ _).put _ _) x

theorem doDriverStuckOn (h : Keeps a s t) (x : LaneId) (pin : Fin 24) : Keeps a s (doDriverStuckOn x pin t) :=
  .ite (.raiseLane (.upd h x fun _ hl => hl.setPinBit _ _ _) x 83) h

theorem darkLamp (h : Keeps a s t) (x : LaneId) (n : Nat) : Keeps a s (t.darkLamp x n) :=
  .ite h (.raiseLane (.upd h x fun _ hl => (((hl.setPinBit _ _ _).inc _).put _ _).put _ _) x 84)

theorem lampGood (h : Keeps a s t) (x : LaneId) (n : Nat) : Keeps a s (t.lampGood x n) :=
  .clearPinSources (.upd h x fun _ hl => (hl.setPinBit _ _ _).put _ _) x

theorem updPin (h : Keeps a s t) (x : LaneId) (n : Nat) (f : Pin → Pin) : Keeps a s (t.upd x fun l => l.updPin n f) :=
  .upd h x fun _ hl => hl.updPin n f

theorem doLampSample (h : Keeps a s t) (x : LaneId) (pin : Fin 24) (mA : BitVec 16) : Keeps a s (doLampSample x pin mA t) := by
  have hput := h.put x (pinKey pin.val 16) mA.toNat
  exact .ite h (.ite (hput.updPin x _ _) (.ite (.ite (.darkLamp (hput.updPin x _ _) x _) (hput.updPin x _ _))
    (.ite (.lampGood (hput.updPin x _ _) x _) (hput.updPin x _ _))))

theorem doPairedLampHoldOffEnd (h : Keeps a s t) (x : LaneId) : Keeps a s (doPairedLampHoldOffEnd x t) := by
  refine .upd h x fun _ hl => hl.updField ?_
  rfl

theorem doOpenLoadTest (h : Keeps a s t) (x : LaneId) (pin : Fin 24) (before during : Nat) :
    Keeps a s (doOpenLoadTest x pin before during t) := by
  refine .ite h (.ite h (.ite (.ite (.darkLamp ?opened x _) ?opened) (.ite (.lampGood (.upd h x ?_) x _) h)))
  · exact .upd h x fun _ hl => (hl.updPin _ _).setPinBit _ _ _
  · exact fun _ hl => (hl.updPin _ _).setPinBit _ _ _

theorem doLearn (h : Keeps a s t) (acc : Acc) (pin : Fin 24) (v : Byte) : Keeps a s (doLearn acc pin v t) :=
  h.command _ _ _ _ _ _ fun x => .answer (.upd h x fun _ hl => hl.put _ _) 0

theorem doLearnDone (h : Keeps a s t) (x : LaneId) (pin : Fin 24) (mean : BitVec 16) : Keeps a s (doLearnDone x pin mean t) := by
  refine .ite (.upd (.ite (h.putNode _ _) h) x ?_) h
  exact fun _ hl => hl.put _ _

theorem doEndRoleGateWrite (h : Keeps a s t) (acc : Acc) (pin : Fin 24) (v : Byte) :
    Keeps a s (doEndRoleGateWrite acc pin v t) :=
  h.command _ _ _ _ _ _ fun _ => .answer (.fanOut h _ fun _ hl => hl.put _ _) 0

theorem enterSupply (h : Keeps a s t) (x : LaneId) (st : Nat) : Keeps a s (t.enterSupply x st) := by
  refine .follow (.follow (.upd h x fun l hl => .eachPin (.updField (hl.put _ _) ?_) ?_) x 85 _) x 86 _
  · rfl
  · exact fun _ n hm => hm.settleDriver n

theorem doFieldSupplyMeasure (h : Keeps a s t) (x : LaneId) (v : BitVec 16) : Keeps a s (doFieldSupplyMeasure x v t) := by
  refine .ite h (.ite (.enterSupply ?measured x _) ?measured)
  refine .upd h x fun _ hl => .updField (hl.put _ _) ?_
  rfl

theorem writeImage (h : Keeps a s t) (v : Nat) : Keeps a s (t.writeImage v) := .fanOut h .acting fun _ hl => hl.put _ _

theorem doOutputImage (h : Keeps a s t) (acc : Acc) (v : BitVec 32) : Keeps a s (doOutputImage acc v t) :=
  h.command _ _ _ _ _ _ fun _ => (h.writeImage _).answer 0

theorem doSetOutputs (h : Keeps a s t) (acc : Acc) (v : BitVec 32) : Keeps a s (doSetOutputs acc v t) :=
  h.command _ _ _ _ _ _ fun _ => (h.writeImage _).answer 0

theorem doClearOutputs (h : Keeps a s t) (acc : Acc) (v : BitVec 32) : Keeps a s (doClearOutputs acc v t) :=
  h.command _ _ _ _ _ _ fun _ => (h.writeImage _).answer 0

end State.Keeps
end Sys2Proof.Machine

namespace Sys2Proof.Machine

/-! ### What the car bus and the wave keep -/

namespace LaneState.Keeps

variable {l₀ l : LaneState}

/-! #### The car bus -/

/-- The car bus controller of a lane is no part of what is kept. -/
theorem withCan (h : l₀.Keeps l) (c : CanState) : l₀.Keeps { l with can := c } := h

theorem putWords (h : l₀.Keeps l) (index sub : Nat) (bytes : List Byte) : l₀.Keeps (l.putWords index sub bytes) :=
  h.foldl _ fun _ _ hl => hl.put _ _

theorem keepImage (h : l₀.Keeps l) (t : Nat) (update : Bool) : l₀.Keeps (l.keepImage t update) := .ite (h.withCan _) h

theorem busIdle (h : l₀.Keeps l) : l₀.Keeps l.busIdle := .ite (h.withCan _) h

theorem attemptEnds (h : l₀.Keeps l) : l₀.Keeps l.attemptEnds := h.withCan _

theorem fillLatches (h : l₀.Keeps l) (f : CanFrame) (time : Nat) : l₀.Keeps (l.fillLatches f time) :=
  h.foldl _ fun _ _ hl => .ite hl (.ite (hl.inc _) ((hl.withCan _).put _ _))

theorem takePeerLatches (h : l₀.Keeps l) (peer : LaneState) : l₀.Keeps (l.takePeerLatches peer) :=
  h.foldl _ fun _ _ hl => .ite ((hl.withCan _).put _ _) hl

theorem countCopies (h : l₀.Keeps l) (n : Nat) : l₀.Keeps (l.countCopies n) := h.foldl _ fun _ _ hl => hl.inc _

theorem gatewayCopy (h : l₀.Keeps l) (n : Nat) : l₀.Keeps (l.gatewayCopy n) :=
  .ite h (h.foldl _ fun _ _ hl => .inc (.withCan ((hl.keepImage _ true).putWords _ _ _) _) _)

theorem storeFrame (h : l₀.Keeps l) (index : Nat) (f : CanFrame) (time : Nat) : l₀.Keeps (l.storeFrame index f time) := by
  refine .ite (.inc (.inc ?stored _) _) ?stored
  exact ((((h.put _ _).put _ _).put _ _).putWords _ _ _).inc _

theorem clearStations (h : l₀.Keeps l) : l₀.Keeps l.clearStations := h.foldl _ fun _ _ hl => .ite hl (hl.put _ _)

theorem takeTiming (h : l₀.Keeps l) (k v : Nat) (busy : Bool) : l₀.Keeps (l.takeTiming k v busy) :=
  .markTriple (.withCan (h.put k v) _)

theorem commitTx (h : l₀.Keeps l) (t : Nat) : l₀.Keeps (l.commitTx t) := .withCan ((h.keepImage t true).putWords _ _ _) _

theorem writeTxIdent (h : l₀.Keeps l) (t v : Nat) : l₀.Keeps (l.writeTxIdent t v) := (h.keepImage t false).put _ _

theorem writeTxControl (h : l₀.Keeps l) (t v : Nat) : l₀.Keeps (l.writeTxControl t v) := by
  refine .ite (.commitTx ?written t) ?written
  exact (h.keepImage t false).put _ _

theorem suppress (h : l₀.Keeps l) (t : Nat) : l₀.Keeps (l.suppress t) := (h.inc _).inc _

theorem dropPending (h : l₀.Keeps l) (c : Nat → Bool) : l₀.Keeps (l.dropPending c) :=
  h.eachTx fun _ t hl => .ite ((hl.setPending t false).suppress t) hl

theorem pend (h : l₀.Keeps l) (t : Nat) : l₀.Keeps (l.pend t) := .withCan (h.setPending t true) _

theorem txDropped (h : l₀.Keeps l) (t : Nat) : l₀.Keeps (l.txDropped t) := .withCan (h.setPending t false) _

theorem frameSent (h : l₀.Keeps l) (t time : Nat) : l₀.Keeps (l.frameSent t time) :=
  .busIdle (.attemptEnds (.withCan (((((h.txDropped t).setCollisions t 0).put _ _).inc _).inc _ |>.put _ _) _))

theorem attemptFailed (h : l₀.Keeps l) (t : Nat) : l₀.Keeps (l.attemptFailed t) := .ite (h.txDropped t) (h.withCan _)

theorem patternOff (h : l₀.Keeps l) (sending : Option Nat) : l₀.Keeps (l.patternOff sending) := h.dropPending _

theorem transmitErrors (h : l₀.Keeps l) (kind : CanErr) (inData : Bool) (more : Nat) (spared : Bool) :
    l₀.Keeps (l.transmitErrors kind inData more spared) := h.put _ _

theorem receiveErrors (h : l₀.Keeps l) (more : Nat) (spared : Bool) : l₀.Keeps (l.receiveErrors more spared) := h.put _ _

theorem attemptError (h : l₀.Keeps l) (t : Nat) (kind : CanErr) (inData : Bool) : l₀.Keeps (l.attemptError t kind inData) :=
  .attemptFailed (.ite (h.setCollisions t _) h) t

/-! #### The wave -/

theorem served (h : l₀.Keeps l) (n : Nat) (r : CopyRec) : l₀.Keeps (l.served n r) := (h.withFlow _).updSub n _

theorem ageSubscriptions (h : l₀.Keeps l) : l₀.Keeps l.ageSubscriptions := h.foldl _ fun _ n hl => (hl.updSub n _).refreshStale n

theorem ageLatches (h : l₀.Keeps l) : l₀.Keeps l.ageLatches := h.foldl _ fun _ _ hl => .ite (hl.put _ _) hl

theorem alignEchoes (h : l₀.Keeps l) (peer : LaneState) : l₀.Keeps (l.alignEchoes peer) := h

theorem alignSequences (h : l₀.Keeps l) (peer : LaneState) : l₀.Keeps (l.alignSequences peer) := by
  refine .withFlow ((h.alignEchoes peer).foldl _ ?_) _
  exact fun _ e hl => .ite (hl.updPub e.1 _) hl

theorem ownNumbers (h : l₀.Keeps l) : l₀.Keeps l.ownNumbers := h.withFlow _

end LaneState.Keeps

namespace State.Keeps

variable {a : Option LaneId} {s t : State}

/-- Two states that are chosen together with a value. -/
theorem iteFst {α : Type} {c : Prop} [Decidable c] {p q : State × α} (hp : Keeps a s p.1) (hq : Keeps a s q.1) :
    Keeps a s (if c then p else q).1 := by
  split
  · exact hp
  · exact hq

/-! #### The car bus -/

theorem updCan (h : Keeps a s t) (x : LaneId) (f : LaneState → CanState) :
    Keeps a s (t.upd x fun l => { l with can := f l }) := .upd h x fun _ hl => hl.withCan _

theorem doGatewayRuleEnable (h : Keeps a s t) (acc : Acc) (g : Fin 64) (v : Byte) : Keeps a s (doGatewayRuleEnable acc g v t) :=
  h.command _ _ _ _ _ _ fun _ => .answer (.fanOut h _ fun _ hl => .ite (hl.put _ _) hl) 0

theorem disableRules (h : Keeps a s t) (x : LaneId) : Keeps a s (t.disableRules x) :=
  h.foldl _ fun _ _ hu => .ite hu ((hu.put x _ _).record x _ _)

theorem followStations (h : Keeps a s t) (x : LaneId) : Keeps a s (t.followStations x) := .ite h (h.lower _ 75)

theorem stationFrame (h : Keeps a s t) (x : LaneId) (f : CanFrame) : Keeps a s (t.stationFrame x f) := by
  refine .followStations (.upd h x fun l hl => hl.foldl _ ?_) x
  exact fun _ _ hm => .ite ((hm.put _ _).put _ _) hm

theorem ageStations (h : Keeps a s t) (x : LaneId) : Keeps a s (t.ageStations x) := by
  refine .followStations (h.foldl _ fun u k hu => ?_) x
  have hage := hu.put x (key (0x4480 + k) 6) (satInc 65535 (u.get x (key (0x4480 + k) 6)))
  exact .ite (hage.put x _ _) (.ite hage (.raiseLane ((hage.put x _ _).inc x _) x 75))

theorem frameWithoutError (h : Keeps a s t) (x : LaneId) : Keeps a s (t.frameWithoutError x) :=
  .ite h (.ite (h.put x _ _) ((h.free 8).put x _ _))

theorem errorActive (h : Keeps a s t) (x : LaneId) : Keeps a s (t.errorActive x) := .ite (.lower (h.updCan x _) _ 72) h

theorem doCanFrameReceived (h : Keeps a s t) (x : LaneId) (f : CanFrame) (time : BitVec 64) :
    Keeps a s (doCanFrameReceived x f time t) := by
  refine .ite h (.stationFrame (.ite ?stored (.errorActive (.frameWithoutError ?stored x) x)) x f)
  refine .upd (h.inc x _) x fun l hl => .busIdle (.attemptEnds (.fillLatches ?_ f _))
  split
  · exact hl.storeFrame _ f _
  · exact hl.inc _

theorem doBitTimingWrite (h : Keeps a s t) (acc : Acc) (dataPhase : Bool) (v : BitVec 32) (busy : LaneId → Bool) :
    Keeps a s (doBitTimingWrite acc dataPhase v busy t) :=
  h.command _ _ _ _ _ _ fun _ => .answer (.fanOutEach h _ fun _ _ hl => .ite (hl.takeTiming _ _ _) hl) 0

theorem doIntegrationDone (h : Keeps a s t) (x : LaneId) : Keeps a s (doIntegrationDone x t) := .ite h (h.updCan x _)

theorem doTransmitCommit (h : Keeps a s t) (acc : Acc) (n : Fin 32) : Keeps a s (doTransmitCommit acc n t) :=
  h.command _ _ _ _ _ _ fun _ => .answer (.fanOut h _ fun _ hl => hl.commitTx _) 0

theorem doSlotStart (h : Keeps a s t) (x : LaneId) (col : Fin 8) : Keeps a s (doSlotStart x col t) := by
  refine .ite h ?_
  split
  · exact h
  · refine .ite (.upd h x ?_) (.ite h (.ite (.upd h x ?_) (.upd h x ?_)))
    · exact fun _ hl => (hl.inc _).inc _
    · exact fun _ hl => hl.suppress _
    · exact fun _ hl => hl.pend _

theorem measureDelay (h : Keeps a s t) (x : LaneId) (f : CanFrame) : Keeps a s (t.measureDelay x f) :=
  .ite ((h.free 7).put x _ _) h

theorem doCanFrameComplete (h : Keeps a s t) (x : LaneId) (n : Fin 32) (time : BitVec 64) :
    Keeps a s (doCanFrameComplete x n time t) :=
  .ite h (.errorActive (.measureDelay (.upd h x fun _ hl => hl.frameSent _ _) x _) x)

theorem doCanFrameLate (h : Keeps a s t) (x : LaneId) (n : Fin 32) : Keeps a s (doCanFrameLate x n t) :=
  .ite (.upd h x fun _ hl => ((hl.inc _).inc _).withCan _) h

theorem doArbitrationLost (h : Keeps a s t) (x : LaneId) (n : Fin 32) : Keeps a s (doArbitrationLost x n t) :=
  .ite (.upd h x fun _ hl => ((hl.inc _).attemptFailed _).attemptEnds) h

theorem doPatternApply (h : Keeps a s t) (acc : Acc) (v : Byte) : Keeps a s (doPatternApply acc v t) :=
  h.command _ _ _ _ _ _ fun _ => .answer (.fanOut h .acting fun _ hl => hl.withCan _) 0

theorem doPatternSwitch (h : Keeps a s t) (x : LaneId) : Keeps a s (doPatternSwitch x t) := by
  unfold Machine.doPatternSwitch
  split
  · exact h
  · refine .upd h x fun l hl => .withCan (hl.foldl _ ?_) _
    exact fun _ e hm => hm.put _ _

theorem doPatternEnable (h : Keeps a s t) (acc : Acc) (v : Byte) (sending : OnCarBus) :
    Keeps a s (doPatternEnable acc v sending t) := by
  refine h.command _ _ _ _ _ _ fun x => .answer (.ite (.upd ?offA .B ?_) ?offA) 0
  · refine .ite (.upd ?written .A fun _ hl => hl.patternOff _) ?written
    exact .fanOut h _ fun _ hl => hl.put _ _
  · exact fun _ hl => hl.patternOff _

theorem doListenOnlyChange (h : Keeps a s t) (x : LaneId) : Keeps a s (doListenOnlyChange x t) :=
  .ite h (.upd h x fun _ hl => .ite ((hl.withCan _).dropPending _) (hl.withCan _))

theorem doCanError (h : Keeps a s t) (x : LaneId) (n : Option (Fin 32)) (kind : CanErr) (inData : Bool) (more : BitVec 16)
    (spared : Bool) : Keeps a s (doCanError x n kind inData more spared t) := by
  refine .ite h (.ite (.upd h x fun _ hl => ((hl.put _ _).attemptEnds).busIdle)
    (.upd h x fun l hl => .busIdle (.attemptEnds (.inc (.put ?_ _ _) _))))
  cases n with
  | none => exact hl.receiveErrors _ _
  | some n => exact .ite ((hl.transmitErrors _ _ _ _).attemptError _ _ _) (hl.receiveErrors _ _)

theorem doErrorPassive (h : Keeps a s t) (x : LaneId) : Keeps a s (doErrorPassive x t) := .ite (.raiseLane (h.updCan x _) x 72) h

theorem doBusOff (h : Keeps a s t) (x : LaneId) : Keeps a s (doBusOff x t) :=
  .ite (.raiseLane (.upd h x fun _ hl => (hl.inc _).withCan _) x 73) h

theorem doBusOffRecoveryDone (h : Keeps a s t) (x : LaneId) : Keeps a s (doBusOffRecoveryDone x t) :=
  .ite (.lower (.lower (.upd h x fun _ hl => ((hl.put _ _).put _ _).withCan _) _ 72) _ 73) h

theorem doIdentifierCollision (h : Keeps a s t) (x : LaneId) (n : Fin 32) (time : BitVec 64) :
    Keeps a s (doIdentifierCollision x n time t) :=
  .ite h (.raiseLane (.upd h x fun _ hl => (((((hl.setCollisions _ 0).put _ _).put _ _).put _ _).put _ _).inc _) x 74)

/-! #### The wave -/

theorem updFlow (h : Keeps a s t) (x : LaneId) (f : LaneState → FlowState) :
    Keeps a s (t.upd x fun l => { l with flow := f l }) := .upd h x fun _ hl => hl.withFlow _

theorem sampleContext (h : Keeps a s t) (x : LaneId) (n size : Nat) : Keeps a s (t.sampleContext x n size) :=
  .upd h x fun _ hl => .inc (.countCopies ((hl.updPub n _).updPub n _) n) _

theorem doSamplePoint (h : Keeps a s t) (x : LaneId) : Keeps a s (doSamplePoint x t) := by
  have hsampled (due : List (Nat × PubEntry)) := h.foldl due (f := fun u p => u.sampleContext x p.1 p.2.size.toNat)
    fun _ _ hu => hu.sampleContext x _ _
  refine .ite h ?_
  dsimp only
  split
  · exact hsampled _
  · exact .ite (hsampled _) ((hsampled _).updFlow x _)

theorem launchBy (h : Keeps a s t) (x : LaneId) (e : EndId) (v : Launch) (time : Nat) : Keeps a s (t.launchBy x e v time) :=
  .ite h (.ite (.upd h x fun _ hl => hl.countPortBy e _ _) (.upd h x fun _ hl => (hl.updPort e _).countPortBy e _ _))

theorem doWaveLaunch (h : Keeps a s t) (x : LaneId) (rising : Bool) : Keeps a s (doWaveLaunch x rising t) := by
  unfold Machine.doWaveLaunch
  split
  · exact h
  · exact (h.launchBy x _ _ _).updFlow x _

theorem doWaveSlip (h : Keeps a s t) (x : LaneId) : Keeps a s (doWaveSlip x t) :=
  .ite (.upd h x fun _ hl => .ite (hl.inc _) (hl.inc _)) h

theorem takeCopy (h : Keeps a s t) (x : LaneId) (n : Nat) (c : FlowCopy) : Keeps a s (t.takeCopy x n c) := by
  refine .upd h x fun l hl => .ite (.gatewayCopy (.refreshStale ((hl.updSub n _).inc _) n) n) (.ite (.ite ?replaced
    (.gatewayCopy (.inc ?replaced _) n)) (hl.inc _))
  exact hl.updSub n _

theorem deliverFlow (h : Keeps a s t) (x : LaneId) (pos number : Nat) (grace : Bool) (c : FlowCopy) :
    Keeps a s (t.deliverFlow x pos number grace c).1 :=
  .iteFst h (h.foldl _ fun _ _ hu => hu.takeCopy x _ _)

theorem doFillIn (h : Keeps a s t) (x : LaneId) (ctx : Fin 1024) : Keeps a s (doFillIn x ctx t) := by
  unfold Machine.doFillIn
  dsimp only
  split
  · exact h
  · refine .ite h (.ite (.upd ?served _ ?_) (.upd (.takeCopy (.updFlow ?served _ _) x _ _) x ?_))
    · exact .upd h _ fun _ hl => hl.served _ _
    · exact fun _ hl => hl.inc _
    · exact fun _ hl => (hl.inc _).inc _

theorem announceSleep (h : Keeps a s t) (x : LaneId) : Keeps a s (t.announceSleep x) := by
  unfold State.announceSleep
  split
  · exact h
  · refine .ite h (.withKeeper (.ite (.upd ?sent _ ?_) ?sent) _)
    · exact .ite (.upd h x fun _ hl => hl.sendMessage x none 0 _) h
    · exact fun _ hl => hl.sendMessage _ none 0 _

theorem doBeatStart (h : Keeps a s t) (x : LaneId) : Keeps a s (doBeatStart x t) := by
  refine .ite h (.announceSleep (.ageStations (.upd h x fun l hl => ?_) x) x)
  refine .ite (.alignSequences ?aged _) ?aged
  exact (hl.withFlowRoll _ _).ageSubscriptions.ageLatches.ownNumbers

end State.Keeps
end Sys2Proof.Machine

namespace Sys2Proof.Machine

/-! ### What frames, sessions and security keep -/

namespace LaneState.Keeps

variable {l₀ l : LaneState}

/-! #### Frames -/

theorem countPort (h : l₀.Keeps l) (e : EndId) (index : Nat) : l₀.Keeps (l.countPort e index) := h.countPortBy _ _ _

theorem countReceived (h : l₀.Keeps l) (e : EndId) (f : LineFrame) : l₀.Keeps (l.countReceived e f) := by
  refine .ite (h.countPort e _) (.ite (.countPort ?checked e _) ?checked)
  refine .ite (.countPort ?classed e _) ?classed
  have haddress (c : Nat) := ((h.countPort e 0x2100).countPort e (sizeBin f.length)).countPort e c
  split
  · exact (haddress _).countPort e _
  · exact haddress _

theorem countFec (h : l₀.Keeps l) (e : EndId) (now : Nat) (c : FecCount) : l₀.Keeps (l.countFec e now c) := by
  have hcount := ((h.countPortBy e 0x2115 c.symbols).countPortBy e 0x2116 c.corrected).countPortBy e 0x2117 c.uncorrected
  exact .ite (hcount.updPort e _) hcount

theorem ringDip (h : l₀.Keeps l) (n : Nat) : l₀.Keeps (l.ringDip n) := h.put _ _

/-- The receive ring of a lane is no part of what is kept. -/
theorem withRing (h : l₀.Keeps l) (r : List (List Byte)) : l₀.Keeps { l with ring := r } := h

theorem enterRing (h : l₀.Keeps l) (e : EndId) (f : LineFrame) : l₀.Keeps (l.enterRing e f).2 := by
  unfold LaneState.enterRing
  dsimp only
  split
  · exact h.ringDip 0
  · exact .countPort (.ringDip (.put (h.withRing _) _ _) _) e _

theorem sendOut (h : l₀.Keeps l) (e : EndId) (forwarded : Bool) (bytes : List Byte) (fcs : Fcs) :
    l₀.Keeps (l.sendOut e forwarded bytes fcs) := by
  refine .ite (.countPort ?sent e _) ?sent
  exact (h.countPort e _).updPort e _

theorem countFirst (h : l₀.Keeps l) (e : EndId) (arrival egress : Option Nat) : l₀.Keeps (l.countFirst e arrival egress) := by
  unfold LaneState.countFirst
  split
  · exact .ite (h.countDrop _ _) (h.countDrop _ _)
  · exact h.countDrop _ _
  · exact h.countDrop _ _
  · exact h

theorem endJudged (h : l₀.Keeps l) (e : EndId) : l₀.Keeps (l.endJudged e) := h.updPort e _

theorem dropHeld (h : l₀.Keeps l) (e : EndId) : l₀.Keeps (l.dropHeld e) := (h.updPort e _).countPortBy e _ _

theorem sendPause (h : l₀.Keeps l) (e : EndId) (quanta : Nat) : l₀.Keeps (l.sendPause e quanta) := h.emit e _

/-! #### Sessions -/

theorem updSession (h : l₀.Keeps l) (n : Nat) (f : Session → Session) : l₀.Keeps (l.updSession n f) :=
  h.withSessions fun hs => rising_changeAt _ _ _ hs

end LaneState.Keeps

namespace State.Keeps

variable {a : Option LaneId} {s t : State}

/-! #### Frames -/

theorem countPort (h : Keeps a s t) (x : LaneId) (e : EndId) (index : Nat) : Keeps a s (t.upd x fun l => l.countPort e index) :=
  .upd h x fun _ hl => hl.countPort e index

theorem returnsBuffers (h : Keeps a s t) (x : LaneId) (f : LineFrame) : Keeps a s (t.returnsBuffers x f) :=
  .ite (.upd h x fun _ hl => hl.ringDip _) h

theorem iteSnd {α : Type} {c : Prop} [Decidable c] {p q : α × State} (hp : Keeps a s p.2) (hq : Keeps a s q.2) :
    Keeps a s (if c then p else q).2 := by
  split
  · exact hp
  · exact hq

theorem deliverClass1 (h : Keeps a s t) (x : LaneId) (f : LineFrame) : Keeps a s (t.deliverClass1 x f).2 :=
  .iteSnd h (h.deliverFlow x _ _ _ _)

theorem deliverLocal (h : Keeps a s t) (x : LaneId) (e : EndId) (f : LineFrame) : Keeps a s (t.deliverLocal x e f).2 :=
  .iteSnd (.iteSnd (h.deliverClass1 x f) ((h.deliverClass1 x f).countPort x e _)) (.iteSnd h
    (.iteSnd (h.setLane x (LaneState.Keeps.self.enterRing e f)) (h.countPort x e _)))

theorem forward (h : Keeps a s t) (x : LaneId) (e : EndId) (f : LineFrame) (time : Nat) (idle : Bool) :
    Keeps a s (t.forward x e f time idle) :=
  .ite (.upd h x fun _ hl => hl.sendOut e _ _ _) (.ite h (.upd h x fun _ hl => hl.queueFrame e _))

theorem takeLocal (h : Keeps a s t) (x : LaneId) (e : EndId) (f : LineFrame) : Keeps a s (t.takeLocal x e f).2 :=
  .iteSnd (h.returnsBuffers x f) (h.deliverLocal x e f)

theorem countFirst (h : Keeps a s t) (x : LaneId) (e : EndId) (arrival egress : Option Nat) :
    Keeps a s (t.upd x fun l => l.countFirst e arrival egress) := .upd h x fun _ hl => hl.countFirst e _ _

theorem countArrival (h : Keeps a s t) (x : LaneId) (e : EndId) (f : LineFrame) (now : Nat) :
    Keeps a s (t.upd x fun l => (l.countReceived e f).countFec e now f.fec) :=
  .upd h x fun _ hl => (hl.countReceived e f).countFec e _ _

theorem judgeFrame (h : Keeps a s t) (x : LaneId) (e : EndId) (f : LineFrame) (time : Nat) (idle : Bool) :
    Keeps a s (t.judgeFrame x e f time idle) := by
  have hcount := h.countArrival x e f t.clock
  refine .ite (hcount.countFirst x e _ _) (.ite (.countFirst (.ite (hcount.returnsBuffers x f) hcount) x e _ _)
    (.countFirst (.ite (.forward ?taken x _ f _ _) ?taken) x e _ _))
  exact .takeLocal (hcount.updPort x e _) x e f

theorem doFrameDecisionPoint (h : Keeps a s t) (x : LaneId) (e : EndId) (f : LineFrame) (time : BitVec 64) (idle : Bool) :
    Keeps a s (doFrameDecisionPoint x e f time idle t) := .ite (h.judgeFrame x e f _ _) h

theorem doStomp (h : Keeps a s t) (x : LaneId) (e : EndId) (f : LineFrame) : Keeps a s (doStomp x e f t) := by
  unfold Machine.doStomp
  split
  · exact h
  · refine .ite h (.ite (.upd h x fun _ hl => hl.endJudged e) (.upd (.returnsBuffers (h.countArrival x e f _) x f) x ?_))
    exact fun _ hl => (hl.countDrop e _).sendOut _ _ _ _

theorem doLocalPortSend (h : Keeps a s t) (x : LaneId) (f : LocalFrame) (node : Option (BitVec 64)) :
    Keeps a s (doLocalPortSend x f node t) := by
  refine .ite (.upd h x fun l hl => ?_) h
  cases f with
  | roll r => exact hl.sendRoll none r
  | msg m => exact hl.sendMessage x _ _ m
  | echo six ident data => exact hl.sendEcho x _ six ident data

theorem sendQueued (h : Keeps a s t) (x : LaneId) (e : EndId) (time i : Nat) (f : OutFrame) :
    Keeps a s (t.sendQueued x e time i f) := by
  refine .upd h x fun l hl => .ite (.countPort ?sent e _) ?sent
  exact (hl.updPort e _).sendOut e _ _ _

theorem doUnscheduledEgressStart (h : Keeps a s t) (x : LaneId) (e : EndId) (time : BitVec 64) :
    Keeps a s (doUnscheduledEgressStart x e time t) := by
  have hdrop : Keeps a s (t.upd x fun l => l.dropHeld e) := .upd h x fun _ hl => hl.dropHeld e
  refine .ite h ?_
  dsimp only
  split
  · exact hdrop
  · exact hdrop.sendQueued x e _ _ _

theorem passSync (h : Keeps a s t) (x : LaneId) (e : EndId) (m : SyncMsg) (ingress : Int) (egress : Option Int) :
    Keeps a s (t.passSync x e m ingress egress) := by
  unfold State.passSync
  split
  · exact .upd h x fun _ hl => hl.sendOut e _ _ _
  · exact .upd h x fun _ hl => hl.emit e _

theorem doSyncReceived (h : Keeps a s t) (x : LaneId) (e : EndId) (m : SyncMsg) (ingress : Int) (egress : Option Int) :
    Keeps a s (doSyncReceived x e m ingress egress t) :=
  .ite h (.ite (h.inc x _) (.ite h (.ite (h.inc x _) (.ite (h.inc x _) (.judgeSync (h.passSync x _ m _ _) x e m _)))))

theorem doPdelayReq (h : Keeps a s t) (x : LaneId) (e : EndId) : Keeps a s (doPdelayReq x e t) :=
  .ite (.upd h x fun _ hl => (hl.emit e _).updPort e _) h

theorem doGateOverrun (h : Keeps a s t) (x : LaneId) (e : EndId) : Keeps a s (doGateOverrun x e t) := .ite (h.countPort x e _) h

theorem doPauseReceived (h : Keeps a s t) (x : LaneId) (e : EndId) (quanta : BitVec 16) :
    Keeps a s (doPauseReceived x e quanta t) :=
  .ite h (.upd h x fun _ hl => .ite ((hl.countPort e _).updPort e _) (hl.countPort e _))

theorem doPauseExpiry (h : Keeps a s t) (x : LaneId) (e : EndId) : Keeps a s (doPauseExpiry x e t) := h.updPort x e _

theorem doPauseSend (h : Keeps a s t) (x : LaneId) : Keeps a s (doPauseSend x t) := by
  refine .ite (.upd h x fun l hl => hl.foldl _ ?_) h
  exact fun _ e hm => .ite ((hm.sendPause e _).updPort e _) hm

theorem doPauseRepeat (h : Keeps a s t) (x : LaneId) (e : EndId) : Keeps a s (doPauseRepeat x e t) :=
  .ite (.upd h x fun _ hl => hl.sendPause e _) h

theorem doPauseRelease (h : Keeps a s t) (x : LaneId) : Keeps a s (doPauseRelease x t) := by
  refine .ite (.upd h x fun l hl => hl.foldl _ ?_) h
  exact fun _ e hm => .ite ((hm.sendPause e _).updPort e _) hm

theorem doReceiveNoBuffer (h : Keeps a s t) (x : LaneId) (e : EndId) (r : Arrival) : Keeps a s (doReceiveNoBuffer x e r t) := by
  refine .ite h (.ite (.upd h x ?_) (.ite (.upd (h.judgeFrame x e _ _ _) x ?_) h))
  · exact fun _ hl => hl.endJudged e
  · exact fun _ hl => hl.endJudged e

theorem doRingChainReturn (h : Keeps a s t) (x : LaneId) : Keeps a s (doRingChainReturn x t) := by
  unfold Machine.doRingChainReturn
  split
  · exact h
  · exact .upd h x fun _ hl => (hl.put _ _).withRing _

/-! #### The end of a window's access -/

theorem windowWords (h : Keeps a s t) (w n : Nat) (data : List Byte) : Keeps a s (t.windowWords w n data).2 :=
  .iteSnd (.ite (h.mput _ _) h) h

theorem windowRead (h : Keeps a s t) (w : Nat) (r : HostReq) (data : List Byte) : Keeps a s (t.windowRead w r data) := by
  have hwords := (h.windowWords w (t.wordsInside r) data).updWin w fun v => { v with lastRead := some (r.addr % 0x1000000, t.wordsInside r) }
  exact .ite ((hwords.respond _ _ _ _).minc _) (hwords.respond _ _ _ _)

theorem windowDone (h : Keeps a s t) (w code : Nat) (data : List Byte) : Keeps a s (t.windowDone w code data) := by
  unfold State.windowDone
  dsimp only
  split
  · next r _ =>
    have hdone := h.updWin w fun v => { v with active := none, posted := false }
    refine .ite (.queuedDone (.ite (hdone.updWin w _) hdone) w r _) (.ite ((hdone.respond _ _ _ _).minc _) (.ite (hdone.windowRead w r _)
      (.ite (.respond (hdone.windowWords w _ data) _ _ _ _) (.ite ((hdone.respond _ _ _ _).minc _) (hdone.respond _ _ _ _)))))
  · split
    · exact h
    · exact .ite ((h.updWin w _).minc _) (h.updWin w _)

/-! #### Sessions -/

theorem updSession (h : Keeps a s t) (n : Nat) (f : Session → Session) : Keeps a s (t.updSession n f) := by
  unfold State.updSession
  split
  · exact .upd h _ fun _ hl => hl.updSession n f
  · exact .updBoth h fun _ hl => .ite (hl.updSession n f) hl

theorem sendMsg (h : Keeps a s t) (uid position : Nat) (f : MsgFrame) : Keeps a s (t.sendMsg uid position f) := by
  unfold State.sendMsg
  split
  · exact h
  · refine .ite (.upd ?sent _ ?_) ?sent
    · exact .upd h _ fun _ hl => hl.sendMessage _ _ _ f
    · exact fun _ hl => hl.sendMessage _ _ _ f

theorem sendSession (h : Keeps a s t) (n position kind offset : Nat) (data : List Byte) (last : Bool) :
    Keeps a s (t.sendSession n position kind offset data last) := (h.updSession n _).sendMsg _ _ _

theorem endSession (h : Keeps a s t) (n code : Nat) : Keeps a s (t.endSession n code) := by
  have hput := (h.updSession n fun k => { k with state := if code = 0 then 3 else 4 }).putNode (sesKey n 12) code
  exact .ite (hput.windowDone n code _) hput

theorem sendRequest (h : Keeps a s t) (n position : Nat) : Keeps a s (t.sendRequest n position) := by
  refine .updSession (.ite (h.sendSession n _ _ _ _ _) (h.foldl _ ?_)) n _
  exact fun _ g hu => hu.sendSession n _ _ _ _ _

theorem trySend (h : Keeps a s t) (n : Nat) : Keeps a s (t.trySend n) := by
  unfold State.trySend
  split
  · exact h.updSession n _
  · split
    · exact h.endSession n _
    · exact h.sendRequest n _

theorem openTransaction (h : Keeps a s t) (n : Nat) (f : Session → Session) : Keeps a s (t.openTransaction n f) :=
  (h.updSession n _).trySend n

theorem sendCancel (h : Keeps a s t) (n : Nat) : Keeps a s (t.sendCancel n) := by
  unfold State.sendCancel
  split
  · exact h.sendSession n _ _ _ _ _
  · exact h

theorem noResponse (h : Keeps a s t) (n : Nat) : Keeps a s (t.noResponse n) :=
  .endSession (.sendCancel (.putNode (.ite (h.updWin n _) h) _ _) n) n _

theorem cancelPrefetch (h : Keeps a s t) (w : Nat) : Keeps a s (t.cancelPrefetch w) := by
  unfold State.cancelPrefetch
  split
  · exact h
  · exact ((h.updWin w _).sendCancel w).updSession w _

theorem doSessionStart (h : Keeps a s t) (acc : Acc) (n : Fin 128) (v : Byte) : Keeps a s (doSessionStart acc n v t) :=
  .ite (h.commandAt _ _ _ _ _ _ _ fun _ => h.abort _)
    (h.commandAt _ _ _ _ _ _ _ fun _ => (h.openTransaction _ _).answer 0)

theorem readSegment (h : Keeps a s t) (n : Nat) (m : MsgFrame) : Keeps a s (t.readSegment n m) :=
  .ite (.endSession (.sendSession (h.updSession n _) n _ _ _ _ _) n 0) (.ite (.sendSession (h.updSession n _) n _ _ _ _ _)
    (h.updSession n _))

theorem responseTo (h : Keeps a s t) (n : Nat) (m : MsgFrame) : Keeps a s (t.responseTo n m) :=
  .ite ((h.updSession n _).endSession n _) (.ite ((h.updSession n _).readSegment n m)
    (((h.updSession n _).updSession n _).endSession n 0))

theorem ackTo (h : Keeps a s t) (n : Nat) (m : MsgFrame) : Keeps a s (t.ackTo n m) :=
  .ite (.ite ((h.updSession n _).trySend n) (h.updSession n _)) h

theorem lateData (h : Keeps a s t) (n : Nat) (m : MsgFrame) : Keeps a s (t.lateData n m) := by
  unfold State.lateData
  dsimp only
  split
  · exact h
  · exact .ite ((h.updWin n _).minc _) h

theorem toSession (h : Keeps a s t) (x : LaneId) (m : MsgFrame) : Keeps a s (t.toSession x m) :=
  .ite h (.ite (.ite (h.responseTo _ m) (h.ackTo _ m)) (h.lateData _ m))

theorem discardMsg (h : Keeps a s t) (x : LaneId) : Keeps a s (t.discardMsg x) := .ite (h.inc x _) h

theorem doMessageResponse (h : Keeps a s t) (x : LaneId) (m : MsgFrame) : Keeps a s (doMessageResponse x m t) :=
  .ite (h.discardMsg x) (.ite (h.toSession x m) h)

theorem doSessionTimeout (h : Keeps a s t) (n : Fin 128) : Keeps a s (doSessionTimeout n t) :=
  .ite h (.ite (.trySend ((h.putNode _ _).updSession _ _) _) (h.noResponse _))

/-! #### Security -/

/-- A change of the keys and sessions that leaves the firmware keys alone. -/
theorem updSec (h : Keeps a s t) {f : Security → Security} (hf : (f t.sec).fwKeys = t.sec.fwKeys) : Keeps a s (t.updSec f) :=
  h.withSec hf

theorem authFailed (h : Keeps a s t) (service : Bool) : Keeps a s (t.authFailed service) := by
  refine .abort (.updSec (h.minc _) ?_) _
  split
  · rfl
  · rfl

theorem newChallenge (h : Keeps a s t) : Keeps a s t.newChallenge := by
  refine .ite (h.abort _) (.answerBytes (.updSec (h.free 128) ?_) _)
  rfl

theorem doChallenge (h : Keeps a s t) (acc : Acc) : Keeps a s (doChallenge acc t) :=
  .ite (h.abort _) (.ite (h.abort _) h.newChallenge)

theorem openHostSession (h : Keeps a s t) (key nm nt : List Byte) (r : Nat) : Keeps a s (t.openHostSession key nm nt r) := by
  refine .answer (.updSec h ?_) 0
  rfl

theorem checkProof (h : Keeps a s t) (data : List Byte) : Keeps a s (t.checkProof data) := by
  have hused : Keeps a s (t.updSec fun k => { k with challenge := none }) := h.updSec rfl
  refine .ite (h.abort _) ?_
  split
  · exact h.authFailed false
  · dsimp only
    split
    · exact hused.authFailed false
    · exact .ite (hused.openHostSession _ _ _ _) (hused.authFailed false)

theorem doResponse (h : Keeps a s t) (acc : Acc) (data : List Byte) : Keeps a s (doResponse acc data t) :=
  .ite (h.abort _) (.ite (h.abort _) (.ite (h.abort _) (.ite (h.abort _) (h.checkProof data))))

theorem updService (h : Keeps a s t) (n : Nat) (f : ServiceSession → ServiceSession) : Keeps a s (t.updService n f) :=
  h.updSec rfl

theorem doAuthenticationLockoutEnd (h : Keeps a s t) (path : Path) : Keeps a s (doAuthenticationLockoutEnd path t) := by
  cases path with
  | host => exact h.updSec rfl
  | service n => exact h.updSec rfl
  | remote => exact h
  | image => exact h

theorem doChallengeExpiry (h : Keeps a s t) (path : Path) : Keeps a s (doChallengeExpiry path t) := by
  cases path with
  | host => exact h.updSec rfl
  | service n => exact h.updService _ _
  | remote => exact h
  | image => exact h

theorem doEndHostLinkSession (h : Keeps a s t) (acc : Acc) (v : Byte) : Keeps a s (doEndHostLinkSession acc v t) := by
  refine h.moduleCommand _ _ _ _ _ _ (.answer (.updSec h ?_) 0)
  rfl

theorem doHostLinkSessionExpiry (h : Keeps a s t) : Keeps a s (doHostLinkSessionExpiry t) := h.updSec rfl

theorem doRoleKey (h : Keeps a s t) (acc : Acc) (slot : Fin 3) (key : List Byte) : Keeps a s (doRoleKey acc slot key t) := by
  refine .ite (h.abort _) (.ite (h.abort _) (.ite (h.abort _) (.ite (h.abort _) (.answer (.updSec h ?_) 0))))
  rfl

theorem writeConfigKey (h : Keeps a s t) (slot : Nat) (key : List Byte) : Keeps a s (t.writeConfigKey slot key) := by
  refine .ite (h.abort _) (.ite (h.abort _) (.answer (.updSec h ?_) 0))
  rfl

theorem doImageChunk (h : Keeps a s t) (acc : Acc) (data : List Byte) : Keeps a s (doImageChunk acc data t) := by
  refine h.command _ _ _ _ _ _ fun _ => .ite (h.abort _) (.ite (h.abort _) (.answer (.updSec h ?_) 0))
  rfl

end State.Keeps
end Sys2Proof.Machine

namespace Sys2Proof.Machine

/-! ### What the dictionary keeps -/

namespace LaneState.Keeps

variable {l₀ l : LaneState}

theorem writePulse (h : l₀.Keeps l) (u sub v : Nat) : l₀.Keeps (l.writePulse u sub v) := .ite ((h.put _ _).rearm u) (h.put _ _)

theorem restoreBuffers (h : l₀.Keeps l) (old : LaneState) : l₀.Keeps (old.restoreBuffers l) := h.eachTx fun _ _ hl => hl.put _ _

theorem restoreNow (h : l₀.Keeps l) (sending : Option Nat) (busy : Bool) : l₀.Keeps (l.restoreNow sending busy) := by
  refine .setRate (.foldl (.foldl (.ite ?pins (.takeTiming ?pins _ _ busy)) _ ?bounds) _ ?contexts) _
  case bounds => exact fun _ m hl => .ite hl (hl.writeBound m 4 _)
  case contexts => exact fun _ n hl => hl.resolveOne n
  case pins =>
    refine .eachPin (.foldl (.clearStations (.restoreBuffers (.filterReg (.eachTx ?off ?images) _) _)) _ ?ends) ?functions
    case images => exact fun _ t hl => hl.keepImage t false
    case ends => exact fun _ e hl => .ite hl (hl.enableEnd e)
    case functions => exact fun _ n hl => .ite hl (hl.changeFunction n 0)
    case off => exact .ite (h.patternOff sending) h

theorem copyEntries (h : l₀.Keeps l) (peer : LaneState) (which : Nat → Bool) : l₀.Keeps (l.copyEntries peer which) :=
  (h.filterReg _).foldl _ fun _ e hl => hl.put e.1 e.2

end LaneState.Keeps

namespace State.Keeps

variable {a : Option LaneId} {s t u : State}

/-- The answer to the host is no part of what is kept. -/
theorem withAns (h : Keeps a s t) (r : Answer) : Keeps a s { t with ans := r } := h

/-- A lane taken from another state that keeps what is kept. -/
theorem setLaneOf (h : Keeps a s t) (hu : Keeps a s u) (x : LaneId) : Keeps a s (t.setLane x (u.lane x)) := by
  obtain ⟨hc, ⟨hA, hB⟩, hrest⟩ := h
  obtain ⟨hc', ⟨hA', hB'⟩, -⟩ := hu
  cases x
  · exact ⟨fun h₀ => ⟨(hc h₀).1, (hc h₀).2.1, (hc h₀).2.2.1, (hc' h₀).2.2.2.1, (hc h₀).2.2.2.2⟩, ⟨hA', hB⟩, hrest⟩
  · exact ⟨fun h₀ => ⟨(hc h₀).1, (hc h₀).2.1, (hc h₀).2.2.1, (hc h₀).2.2.2.1, (hc' h₀).2.2.2.2⟩, ⟨hA, hB'⟩, hrest⟩

/-! #### A state that an operation may have -/

theorem ofSome (h : Keeps a s t) : ∀ v ∈ some t, Keeps a s v := fun v hv => by
  cases hv
  exact h

theorem ofNone : ∀ v ∈ (none : Option State), Keeps a s v := fun _ hv => nomatch hv

theorem iteSome {c : Prop} [Decidable c] {o p : Option State} (ho : ∀ v ∈ o, Keeps a s v) (hp : ∀ v ∈ p, Keeps a s v) :
    ∀ v ∈ (if c then o else p), Keeps a s v := by
  split
  · exact ho
  · exact hp

/-! #### Reads -/

theorem outOfRange (h : Keeps a s t) (hu : Keeps a s u) : Keeps a s (t.outOfRange u) := .ite hu (h.abort _)

theorem ranged (h : Keeps a s t) (ok : Bool) (hu : Keeps a s u) : Keeps a s (t.ranged ok u) := .ite hu (h.outOfRange hu)

theorem readTyped (h : Keeps a s t) (x : LaneId) (r : Row) (index sub : Nat) : Keeps a s (t.readTyped x r index sub) :=
  .answer (.ite (.upd h x fun _ hl => hl.readEffect _ _) h) _

theorem readOctets (h : Keeps a s t) (acc : Acc) (x : LaneId) (index sub : Nat) : Keeps a s (t.readOctets acc x index sub) :=
  .ite (h.readCapture x _) (.ite (h.doChallenge acc) (h.answerBytes _))

theorem dictRead (h : Keeps a s t) (acc : Acc) (index sub : Nat) (content : Bool) :
    Keeps a s (t.dictRead acc index sub content) := by
  unfold State.dictRead
  split
  · exact h.abort _
  · split
    · exact h.abort _
    · exact .ite (h.abort _) (.ite (h.abort _) (.ite (h.answer _) (.ite (.ite (h.refuse acc _ _)
        (.ite (h.readOctets acc _ _ _) (h.answer _))) (h.readTyped _ _ _ _))))

/-! #### Writes -/

theorem peerRefuses (h : Keeps a s t) (hu : Keeps a s u) (acc : Acc) (x : LaneId) (index sub v : Nat) :
    Keeps a s (t.peerRefuses u acc x index sub v) := .ite (hu.setLaneOf h x.peer) hu

theorem writeStored (h : Keeps a s t) (acc : Acc) (x : LaneId) (r : Row) (index sub v : Nat) :
    Keeps a s (t.writeStored acc x r index sub v) := by
  unfold State.writeStored
  dsimp only
  split
  · exact h.mput _ _
  · exact .writeNode h acc fun _ hl => hl.put _ _
  · refine .ite (h.peerRefuses (.fanOut h _ ?_) acc x _ _ _) (.upd h x ?_)
    · exact fun _ hl => hl.put _ _
    · exact fun _ hl => hl.put _ _

theorem canon_clearMap {c : Collector} (hc : CollCanon c) (index sub v : Nat) : CollCanon (c.clearMap index sub v) := by
  unfold Collector.clearMap
  dsimp only
  split
  · exact hc
  · exact hc
  · exact hc

theorem writeEffect (h : Keeps a s t) (acc : Acc) (x : LaneId) (r : Row) (index sub v : Nat) :
    Keeps a s (t.writeEffect acc x r index sub v) := by
  have hput := h.writeStored acc x r index sub v
  refine .ite (h.updColl _ fun _ hk => canon_clearMap hk _ _ _) (.ite (.ite (.upd h x fun _ hl => hl.withLog _) h)
    (.ite (h.mput _ _) (.ite (hput.followConflicts x) (.ite (.fanOut h _ ?pulse) (.ite (.fanOut h _ ?shadow)
    (.ite (.followStations (.followStations (hput.updBoth ?stations) .A) .B) (.ite (.fanOut h _ ?control)
    (.ite (.fanOut h _ ?ident) (.ite ((hput.cancelPrefetch _).updWin _ _) hput)))))))))
  case pulse => exact fun _ hl => .ite (hl.writePulse _ _ _) hl
  case shadow => exact fun _ hl => .ite (hl.shadowPut _ _) hl
  case stations => exact fun _ hl => hl.clearStations
  case control => exact fun _ hl => hl.writeTxControl _ _
  case ident => exact fun _ hl => hl.writeTxIdent _ _

theorem onCarBus (h : Keeps a s t) : Keeps a s t.onCarBus.2 := h.free 6

theorem patternEnable (h : Keeps a s t) (acc : Acc) (v : Nat) : Keeps a s (t.patternEnable acc v) :=
  h.onCarBus.onCarBus.doPatternEnable acc _ _

theorem carBusBusy (h : Keeps a s t) : Keeps a s t.carBusBusy.2 := h.free 1

theorem timingWrite (h : Keeps a s t) (acc : Acc) (dataPhase : Bool) (v : BitVec 32) : Keeps a s (t.timingWrite acc dataPhase v) :=
  h.carBusBusy.carBusBusy.doBitTimingWrite acc _ _ _

theorem ownWrite (h : Keeps a s t) (acc : Acc) (index sub v : Nat) : ∀ u ∈ t.ownWrite acc index sub v, Keeps a s u :=
  .iteSome (.ofSome (h.doPlanBoundWrite acc _ _ _)) (.iteSome (.ofSome (h.doPortEnable acc _ _))
    (.iteSome (.ofSome (h.doLeadDeclaration acc _)) (.iteSome (.ofSome (.ite (h.flowControl acc _ _) (h.flowConfig acc _ _ _)))
    (.iteSome (.ofSome (h.doBaselineWrite acc _)) (.iteSome (.ofSome (h.doPulseModeWrite acc _ _))
    (.iteSome (.ofSome (h.patternEnable acc _)) (.iteSome (.ofSome (h.timingWrite acc _ _))
    (.iteSome (.ofSome (h.doGatewayRuleEnable acc _ _)) (.iteSome (.ofSome (h.doPinFunctionChange acc _ _))
    (.iteSome (.ofSome (h.doEndRoleGateWrite acc _ _)) (.iteSome (.ofSome (h.doOutputImage acc _)) .ofNone)))))))))))

theorem rwWrite (h : Keeps a s t) (acc : Acc) (x : LaneId) (r : Row) (index sub v : Nat) :
    Keeps a s (t.rwWrite acc x r index sub v) := by
  refine .ite (h.abort _) (.ite (h.abort _) ?_)
  split
  · next u hu => exact h.ownWrite acc index sub v u hu
  · exact .ite (h.refuse acc _ _) (.ite (h.abort _) ((h.writeEffect acc x r _ _ _).answer 0))

theorem writeSessionData (h : Keeps a s t) (acc : Acc) (n : Nat) (data : List Byte) : Keeps a s (t.writeSessionData acc n data) :=
  .ite (h.abort _) (.ite (h.refuse acc _ _) (.ite (h.abort _) ((h.updSession n _).answer 0)))

theorem octetsWrite (h : Keeps a s t) (acc : Acc) (index sub : Nat) (data : List Byte) :
    Keeps a s (t.octetsWrite acc index sub data) := by
  unfold State.octetsWrite
  split
  · exact h.abort _
  · split
    · exact h.abort _
    · exact .ite (h.abort _) (.ite (h.doRoleKey acc _ _) (.ite (h.abort _) (.ite (h.abort _) (.ite (h.writeConfigKey _ _)
        (.ite (h.doResponse acc _) (.ite (h.doImageChunk acc _) (.ite (h.doFirmwareChunk acc _) (h.writeSessionData acc _ _))))))))

/-! #### Configuration images -/

theorem writeRecord (h : Keeps a s t) (x : LaneId) (c : CfgRecord) : Keeps a s (t.writeRecord x c) := by
  unfold State.writeRecord
  dsimp only
  split
  · exact h.abort _
  · exact .ite (h.octetsWrite _ _ _ _) (.ite (h.abort _) (h.rwWrite _ x _ _ _ _))

theorem checkOther (h : Keeps a s t) (x : LaneId) (c : CfgRecord) : Keeps a s (t.checkOther x c) :=
  .ite (.ite (h.answer 0) (h.abort _)) (h.writeRecord _ c)

theorem checkRecords (h : Keeps a s t) (x : LaneId) (cs : List CfgRecord) : Keeps a s (t.checkRecords x cs) := by
  induction cs generalizing t with
  | nil => exact h.answer 0
  | cons c cs ih =>
    refine .ite (ih ?checked) (.withAns ?checked _)
    exact .ite (h.writeRecord x c) (h.checkOther x c)

theorem restoreLane (h : Keeps a s t) (x : LaneId) : Keeps a s (t.restoreLane x) :=
  .checkCab (.refreshDisagreements (.followConflicts (.upd h.onCarBus.carBusBusy x fun _ hl => hl.restoreNow _ _) x)) x _

theorem imageBody (h : Keeps a s t) (x : LaneId) (img : List Byte) : Keeps a s (t.imageBody x img) := by
  unfold State.imageBody
  split
  · exact h.abort _
  · exact .ite (h.abort _) (.ite (.checkRecords (.ite (h.restoreModule.restoreLane x) h) x _) (h.abort _))

theorem takeRecord (h : Keeps a s t) (xs : List LaneId) (c : CfgRecord) : Keeps a s (t.takeRecord xs c) :=
  h.foldl _ fun _ y hu => hu.writeRecord y c

theorem takeImage (h : Keeps a s t) (xs : List LaneId) (img : List Byte) : Keeps a s (t.takeImage xs img) := by
  refine .foldl (.ite (h.restoreModule.foldl _ ?_) h) _ ?_
  · exact fun _ y hu => hu.restoreLane y
  · exact fun _ c hu => hu.takeRecord xs c

theorem imageDone (h : Keeps a s t) (x : LaneId) (o : Answer) (img : List Byte) : Keeps a s (t.imageDone x o img) := by
  refine .follow (.record (.ite (.updSec (h.put x _ _) ?_) (.ite (h.refuse _ _ _) h)) x _ _) x 27 _
  rfl

theorem applyImage (h : Keeps a s t) (x : LaneId) (xs : List LaneId) (img : List Byte) : Keeps a s (t.applyImage x xs img) := by
  refine .ite (.answer ?done 0) (.abort ?done _)
  refine (h.takeImage _ img).foldl xs ?_
  exact fun _ y hu => hu.imageDone y _ img

theorem supersede (h : Keeps a s t) (x : LaneId) (img : List Byte) : Keeps a s (t.supersede x img) := h

theorem doApplyConfiguration (h : Keeps a s t) (acc : Acc) (len : BitVec 32) : Keeps a s (doApplyConfiguration acc len t) := by
  refine h.command _ _ _ _ _ _ fun x => .ite (.supersede (.updSec (h.applyImage x _ _) ?_) _ _) (h.applyImage x _ _)
  rfl

theorem restoreMissed (h : Keeps a s t) (x : LaneId) : Keeps a s (t.restoreMissed x) :=
  .upd (h.restoreLane x) x fun _ hl => hl.copyEntries _ _

theorem takeMissed (h : Keeps a s t) (x : LaneId) (img : List Byte) : Keeps a s (t.takeMissed x img) :=
  .imageDone (.ite (.checkRecords (.ite (h.restoreMissed x) h) x _) h) x _ img

theorem takeMissedImages (h : Keeps a s t) (x : LaneId) : Keeps a s (t.takeMissedImages x) := by
  refine .withAns (.updSec (h.foldl _ ?_) ?_) _
  · exact fun _ img hu => hu.takeMissed x img
  · rfl

/-! #### Commands of the dictionary -/

theorem doApertureCommit (h : Keeps a s t) (acc : Acc) (c : Fin 16) (len : BitVec 32) :
    Keeps a s (doApertureCommit acc c len t) :=
  h.moduleCommand _ _ _ _ _ _ (.ite (h.abort _) (.ite (h.abort _) (h.octetsWrite _ _ _ _)))

theorem doRestoreDefaults (h : Keeps a s t) (acc : Acc) (v : Byte) : Keeps a s (doRestoreDefaults acc v t) :=
  h.command _ _ _ _ _ _ fun _ => .answer (.fanOut h _ fun _ hl => hl.put _ _) 0

theorem beginUpdate (h : Keeps a s t) (acc : Acc) (v : Nat) : Keeps a s (t.beginUpdate acc v) :=
  (((h.free 8).free 8).free 8).doBeginUpdate acc _ _ _ _

theorem laneCommand (h : Keeps a s t) (acc : Acc) (index sub v : Nat) : ∀ u ∈ t.laneCommand acc index sub v, Keeps a s u :=
  .iteSome (.ofSome (h.doLocate acc _)) (.iteSome (.ofSome (h.doRestoreDefaults acc _))
    (.iteSome (.ofSome (h.ranged _ (h.doPlannedChangeover acc))) (.iteSome (.ofSome (h.ranged _ (h.doLaneReset acc)))
    (.iteSome (.ofSome (.ite (h.doPeerLaneWake acc) (h.ranged _ (h.doPeerLaneSleep acc))))
    (.iteSome (.ofSome (.ite (h.doTrainSleep acc) (h.ranged _ (h.doLocalSleep acc)))) (.iteSome (.ofSome (h.doRePlanNow acc _))
    (.iteSome (.ofSome (h.doAcknowledge acc _ _ _)) (.iteSome (.ofSome (h.doInject acc _ _))
    (.iteSome (.ofSome (h.doFullReactionArm acc _ _)) (.iteSome (.ofSome (h.doClear acc _))
    (.iteSome (.ofSome (h.doTimeTagRestore acc _)) (.iteSome (.ofSome (h.doApplyConfiguration acc _))
    (.iteSome (.ofSome (h.beginUpdate acc _)) (.iteSome (.ofSome (h.ranged _ (h.doActivate acc)))
    (.iteSome (.ofSome (h.ranged _ (h.doAbandonUpdate acc))) .ofNone)))))))))))))))

theorem cmdWrite (h : Keeps a s t) (acc : Acc) (index sub v : Nat) : Keeps a s (t.cmdWrite acc index sub v) := by
  unfold State.cmdWrite
  dsimp only
  split
  · next u hu => exact h.laneCommand acc index sub v u hu
  · exact .ite (h.doRunDiagnostics acc _) (.ite (h.doRollRequest acc _) (.ite (h.doSessionStart acc _ _)
      (.ite (h.doPatternApply acc _) (.ite (h.doLearn acc _ _) (.ite (h.doSetOutputs acc _) (.ite (h.doClearOutputs acc _)
      (.ite (h.doEndHostLinkSession acc _) (h.doApertureCommit acc _ _))))))))

theorem typedWrite (h : Keeps a s t) (acc : Acc) (index sub v : Nat) : Keeps a s (t.typedWrite acc index sub v) := by
  unfold State.typedWrite
  split
  · exact h.abort _
  · refine .ite (h.cmdWrite acc _ _ _) ?_
    split
    · exact h.abort _
    · exact .ite (h.cmdWrite acc _ _ _) (.ite (h.abort _) (.ite (h.abort _) (.ite (h.abort _) (h.rwWrite _ _ _ _ _ _))))

theorem dictWrite (h : Keeps a s t) (acc : Acc) (index sub v : Nat) : Keeps a s (t.dictWrite acc index sub v) :=
  .ite (h.typedWrite acc _ _ _) (h.outOfRange (h.typedWrite acc _ _ _))

theorem dictWriteBytes (h : Keeps a s t) (acc : Acc) (index sub : Nat) (d : List Byte) :
    Keeps a s (t.dictWriteBytes acc index sub d) := by
  unfold State.dictWriteBytes
  split
  · exact h.abort _
  · exact .ite (h.octetsWrite acc _ _ _) (h.ranged _ (h.dictWrite acc _ _ _))

theorem doRegisterWrite (h : Keeps a s t) (acc : Acc) (index : BitVec 16) (sub : Byte) (v : BitVec 64) :
    Keeps a s (doRegisterWrite acc index sub v t) := h.dictWrite acc _ _ _

end State.Keeps
end Sys2Proof.Machine

namespace Sys2Proof.Machine

/-! ### What message requests and the host link keep -/

namespace LaneState.Keeps

variable {l₀ l : LaneState}

/-- A change of the messages that leaves the sessions. -/
theorem withMsg (h : l₀.Keeps l) {f : MsgState} (hf : f.sessions = l.msg.sessions) : l₀.Keeps { l with msg := f } :=
  h.withSessions fun hs => by
    rw [hf]
    exact hs

theorem keepRecord (h : l₀.Keeps l) (r : AnswerRec) : l₀.Keeps (l.keepRecord r) := h.withMsg rfl

theorem freeBuffer (h : l₀.Keeps l) (uid ses : Nat) : l₀.Keeps (l.freeBuffer uid ses) := by
  unfold LaneState.freeBuffer
  split
  · exact h
  · exact h.withMsg rfl

theorem holdBuffer (h : l₀.Keeps l) (t : Transfer) : l₀.Keeps (l.holdBuffer t) := h.withMsg rfl

theorem freeLock (h : l₀.Keeps l) (entry : Bool) (granule : Nat) : l₀.Keeps (l.freeLock entry granule) := h.withMsg rfl

theorem endTransfer (h : l₀.Keeps l) (t : Transfer) : l₀.Keeps (l.endTransfer t) := .ite (h.freeBuffer _ _) h

theorem bootAgain (h : l₀.Keeps l) : l₀.Keeps l.bootAgain :=
  .bootWithStoredMode (.ite (h.withMode (by decide)) h.powerUp)

end LaneState.Keeps

namespace State.Keeps

variable {a : Option LaneId} {s t u : State}

theorem holdBuffer (h : Keeps a s t) (x : LaneId) (b : Transfer) : Keeps a s (t.upd x fun l => l.holdBuffer b) :=
  .upd h x fun _ hl => hl.holdBuffer b

theorem freeBuffer (h : Keeps a s t) (x : LaneId) (uid ses : Nat) : Keeps a s (t.upd x fun l => l.freeBuffer uid ses) :=
  .upd h x fun _ hl => hl.freeBuffer uid ses

/-! #### Message requests -/

theorem sendAnswer (h : Keeps a s t) (b : Transfer) (kind status len off : Nat) (data : List Byte) (last : Bool) :
    Keeps a s (t.sendAnswer b kind status len off data last) := (h.updSession _ _).sendMsg _ _ _

theorem answerStatus (h : Keeps a s t) (x : LaneId) (b : Transfer) (status : Nat) : Keeps a s (t.answerStatus x b status) :=
  .ite (h.sendAnswer _ _ _ _ _ _ _) h

theorem sendResult (h : Keeps a s t) (b : Transfer) (off : Nat) : Keeps a s (t.sendResult b off) :=
  .ite (h.sendAnswer _ _ _ _ _ _ _) (h.foldl _ fun _ _ hu => hu.sendAnswer _ _ _ _ _ _ _)

theorem lockAfter (h : Keeps a s t) (x : LaneId) (op uid ses granule : Nat) : Keeps a s (t.lockAfter x op uid ses granule) :=
  .updMirrored h x fun _ hl => .ite (hl.grantLock _) (.ite (hl.freeLock _ _) hl)

theorem queueMail (h : Keeps a s t) (b : Transfer) (data : List Byte) : Keeps a s (t.queueMail b data) := by
  refine .updBoth h fun l hl => .ite (.inc (.withMsg hl ?_) _) hl
  rfl

theorem mailbox (h : Keeps a s t) (x : LaneId) (b : Transfer) (data : List Byte) : Keeps a s (t.mailbox x b data) :=
  .ite ((h.refuse _ _ _).putNode _ _) (.ite ((h.putNode _ _).abort _) (.ite (h.abort _) ((h.queueMail b data).answer 0)))

theorem opReadEntry (h : Keeps a s t) (acc : Acc) (object len : Nat) (prefetch : Bool) :
    Keeps a s (t.opReadEntry acc object len prefetch) := by
  have hread := h.dictRead acc (objectIndex object) (objectSub object) true
  exact .ite hread (.ite (h.abort _) (.ite (h.abort _) (hread.answerBytes _)))

theorem opWriteEntry (h : Keeps a s t) (acc : Acc) (object : Nat) (data : List Byte) : Keeps a s (t.opWriteEntry acc object data) :=
  h.ranged _ (h.dictWriteBytes acc _ _ _)

theorem writeXmem (h : Keeps a s t) (addr : Nat) (data : List Byte) : Keeps a s (t.writeXmem addr data) :=
  .fanOut h .acting fun _ hl => hl.withXmem (tabCanon_tabSetAll _ _)

theorem opRelease (h : Keeps a s t) (acc : Acc) (object : Nat) : Keeps a s (t.opRelease acc object) := by
  unfold State.opRelease
  dsimp only
  split
  · exact h.abort _
  · exact .ite (h.abort _) (.ite (h.abort _) (.ite (h.abort _) (h.answer 0)))

theorem entryOpAt (h : Keeps a s t) (acc : Acc) (b : Transfer) (data : List Byte) : Keeps a s (t.entryOpAt acc b data) := by
  unfold State.entryOpAt
  split
  · exact h.opReadEntry acc _ _ _
  · exact h.opReadEntry acc _ _ _
  · exact h.opRelease acc _
  · exact h.opWriteEntry acc _ _

theorem runEntry (h : Keeps a s t) (x : LaneId) (path : Path) (sel : Sel) (b : Transfer) (data : List Byte) :
    Keeps a s (t.runEntry x path sel b data) := by
  unfold State.runEntry
  split
  · exact h.abort _
  · exact .ite (h.entryOpAt _ _ _) (.ite (h.abort _) (h.entryOpAt _ _ _))

theorem runMemory (h : Keeps a s t) (x : LaneId) (sel : Sel) (b : Transfer) (data : List Byte) :
    Keeps a s (t.runMemory x sel b data) := by
  unfold State.runMemory
  split
  · exact h.abort _
  · split
    · exact .ite (h.answerBytes _) (h.abort _)
    · exact .ite (h.answerBytes _) (h.abort _)
    · exact .ite ((h.writeXmem _ _).answer 0) (h.abort _)
    · exact .ite ((h.writeXmem _ _).answer 0) (h.abort _)
    · exact .ite (h.answer 0) (h.abort _)
    · exact h.mailbox x b data
    · exact h.abort _

theorem runOp (h : Keeps a s t) (x : LaneId) (path : Path) (b : Transfer) (data : List Byte) :
    Keeps a s (t.runOp x path b data) := by
  unfold State.runOp
  dsimp only
  split
  · exact h.outOfRange (.ite (h.runEntry x _ _ _ _) (h.runMemory x _ _ _))
  · exact .ite (h.runEntry x _ _ _ _) (h.runMemory x _ _ _)

theorem lockedOp (h : Keeps a s t) (x : LaneId) (path : Path) (b : Transfer) (data : List Byte) :
    Keeps a s (t.lockedOp x path b data) := by
  have hrun := h.runOp x path b data
  refine .ite hrun ?_
  split
  · exact h.abort _
  · exact .ite ((h.inc x _).abort _) (.ite (h.abort _) (.ite hrun (hrun.lockAfter x _ _ _ _)))

theorem operate (h : Keeps a s t) (x : LaneId) (path : Path) (b : Transfer) (data : List Byte) :
    Keeps a s (t.operate x path b data) :=
  .ite (.ite (h.lockedOp x path b data) (h.runOp x path b data)) (h.abort _)

theorem countRefusal (h : Keeps a s t) (x : LaneId) (code : Nat) : Keeps a s (t.countRefusal x code) := .ite (h.inc x _) h

theorem recordDone (h : Keeps a s t) (x : LaneId) (b : Transfer) : Keeps a s (t.recordDone x b) :=
  .inc (.updMirrored h x fun _ hl => hl.keepRecord _) x _

/-- The free values still to come are no part of what is kept. -/
theorem withFresh (h : Keeps a s t) (f : Nat) : Keeps a s { t with fresh := f } := h

theorem executeOwn (h : Keeps a s t) (x : LaneId) (b : Transfer) (data : List Byte) :
    ∀ u ∈ t.executeOwn x b data, Keeps a s u :=
  .iteSome .ofNone (.ofSome ((h.withFresh _).setLaneOf (h.operate x _ _ _) x))

theorem afterStandby (h : Keeps a s t) (x : LaneId) (b : Transfer) (data : List Byte) : Keeps a s (t.afterStandby x b data) := by
  refine .answer (.ite ?_ h) 0
  cases hown : t.executeOwn x b data with
  | none => exact h
  | some u => exact h.executeOwn x b data u hown

theorem outcome (h : Keeps a s t) (x : LaneId) (b : Transfer) (data : List Byte) (done : Bool) :
    Keeps a s (t.outcome x b data done) :=
  .ite (h.afterStandby x b data) (.ite (.withAns ((h.operate x _ b data).setLaneOf h _) _) (h.operate x _ b data))

theorem executeHolder (h : Keeps a s t) (x : LaneId) (b : Transfer) (data : List Byte) :
    Keeps a s (t.executeHolder x b data) := by
  refine .ite (.answerStatus ?ended x _ _) (.ite (.answerStatus (.countRefusal ?ended x _) x _ _) (.ite (.sendResult (.ite
    (.updMirrored (.recordDone ?ended x _) x ?held) (.upd (.recordDone ?ended x _) x ?kept)) _ _)
    (.answerStatus (.recordDone ?ended x _) x _ _)))
  case held => exact fun _ hl => hl.holdBuffer _
  case kept => exact fun _ hl => hl.holdBuffer _
  case ended =>
    refine .ite (.updMirrored ?run x fun _ hl => hl.endTransfer b) ?run
    exact .ite (h.inc x _) (h.outcome x b data _)

theorem executeStandby (h : Keeps a s t) (x : LaneId) (b : Transfer) (data : List Byte) :
    Keeps a s (t.executeStandby x b data) := by
  have hfree := h.freeBuffer x b.uid b.session
  refine .ite hfree ?_
  split
  · exact hfree
  · next u hu => exact .upd (hfree.executeOwn x b data u hu) x fun _ hl => (hl.keepRecord _).inc _

theorem execute (h : Keeps a s t) (x : LaneId) (b : Transfer) (data : List Byte) : Keeps a s (t.execute x b data) :=
  .ite (h.executeHolder x b data) (h.executeStandby x b data)

theorem sendAck (h : Keeps a s t) (x : LaneId) (b : Transfer) : Keeps a s (t.sendAck x b) := .ite (h.sendAnswer _ _ _ _ _ _ _) h

theorem noBuffer (h : Keeps a s t) (x : LaneId) (m : MsgFrame) : Keeps a s (t.noBuffer x m) :=
  .ite (.ite ((h.operate x _ _ _).answerStatus x _ _) h) ((h.inc x _).answerStatus x _ _)

theorem segment (h : Keeps a s t) (x : LaneId) (m : MsgFrame) : Keeps a s (t.segment x m) :=
  .ite (h.noBuffer x m) (.ite (.sendAck (h.holdBuffer x _) x _) (h.holdBuffer x _))

theorem fromRecord (h : Keeps a s t) (x : LaneId) (m : MsgFrame) (r : AnswerRec) : Keeps a s (t.fromRecord x m r) := by
  refine .ite h (.ite ((h.inc x _).answerStatus x _ _) ?_)
  split
  · exact (h.inc x _).sendResult _ _
  · exact .ite ((h.inc x _).answerStatus x _ _) (h.executeHolder x _ _)

theorem newRequest (h : Keeps a s t) (x : LaneId) (m : MsgFrame) : Keeps a s (t.newRequest x m) := by
  refine .ite (h.inc x _) (.ite (.segment ?fresh x m) (.execute ?fresh x _ _))
  exact .ite (h.freeBuffer x _ _) h

theorem judgeRequest (h : Keeps a s t) (x : LaneId) (m : MsgFrame) : Keeps a s (t.judgeRequest x m) := by
  refine .ite (h.answerStatus x _ _) ?_
  split
  · exact h.newRequest x m
  · exact .ite (h.fromRecord x m _) (.ite (h.newRequest x m) (h.inc x _))

theorem addressRequest (h : Keeps a s t) (x : LaneId) (m : MsgFrame) : Keeps a s (t.addressRequest x m) :=
  .ite (.ite (h.judgeRequest x m) (.ite ((h.inc x _).answerStatus x _ _) h)) (.ite (h.discardMsg x) (h.judgeRequest x m))

theorem doMessageRequest (h : Keeps a s t) (x : LaneId) (m : MsgFrame) : Keeps a s (doMessageRequest x m t) :=
  .ite h (.ite (h.discardMsg x) (h.addressRequest x m))

theorem staleFrame (h : Keeps a s t) (x : LaneId) (m : MsgFrame) : Keeps a s (t.staleFrame x m) := .ite (h.inc x _) h

theorem ackResult (h : Keeps a s t) (x : LaneId) (m : MsgFrame) : Keeps a s (t.ackResult x m) := by
  unfold State.ackResult
  dsimp only
  split
  · exact h.staleFrame x m
  · exact .ite (h.staleFrame x m) (.ite (h.freeBuffer x _ _) (.ite (.sendResult (h.holdBuffer x _) _ _) (h.holdBuffer x _)))

theorem doSegmentAck (h : Keeps a s t) (x : LaneId) (m : MsgFrame) : Keeps a s (doSegmentAck x m t) :=
  .ite h (.ite (h.discardMsg x) (.ite (h.toSession x m) (h.ackResult x m)))

theorem doSegmentGapAck (h : Keeps a s t) (x : LaneId) (uid : BitVec 64) (n : BitVec 16) :
    Keeps a s (doSegmentGapAck x uid n t) := by
  refine .ite (.ite (h.sendSession _ _ _ _ _ _) h) ?_
  split
  · exact h
  · exact .ite (h.sendAck x _) h

theorem heldRecorded (h : Keeps a s t) (x : LaneId) (b : Transfer) (r : AnswerRec) : Keeps a s (t.heldRecorded x b r) :=
  .ite (h.inc x _) (.ite ((h.inc x _).answerStatus x _ _) h)

theorem doSegmentedWriteExecute (h : Keeps a s t) (x : LaneId) (uid : BitVec 64) (n : BitVec 16) :
    Keeps a s (doSegmentedWriteExecute x uid n t) := by
  unfold Machine.doSegmentedWriteExecute
  split
  · exact h
  · refine .ite ?_ h
    split
    · exact h.execute x _ _
    · exact (h.freeBuffer x _ _).heldRecorded x _ _

theorem doTransferBufferTimeout (h : Keeps a s t) (x : LaneId) (uid : BitVec 64) (n : BitVec 16) :
    Keeps a s (doTransferBufferTimeout x uid n t) := h.freeBuffer x _ _

theorem doCancel (h : Keeps a s t) (x : LaneId) (m : MsgFrame) : Keeps a s (doCancel x m t) :=
  .ite h (.ite (h.discardMsg x) (.ite (h.freeBuffer x _ _) (h.staleFrame x m)))

theorem doLockExpiry (h : Keeps a s t) (x : LaneId) (entry : Bool) (granule : Nat) : Keeps a s (doLockExpiry x entry granule t) :=
  .upd h x fun _ hl => hl.freeLock entry granule

theorem doMailboxMessage (h : Keeps a s t) (x : LaneId) (m : MsgFrame) : Keeps a s (doMailboxMessage x m t) :=
  .ite h (.ite (h.discardMsg x) (h.addressRequest x _))

theorem doMailboxRemoveHead (h : Keeps a s t) (v : BitVec 32) : Keeps a s (doMailboxRemoveHead v t) := by
  refine .ite (h.abort _) (.ite (h.abort _) (.ite (.answer (.fanOut h .acting fun _ hl => hl.withMsg ?_) 0) (h.answer 0)))
  rfl

theorem doMailboxSourceUidRead (h : Keeps a s t) : Keeps a s (doMailboxSourceUidRead t) := by
  refine .ite (h.abort _) ?_
  split
  · exact h.abort _
  · refine .answer (.withHost h ?_) _
    exact id

theorem doSleepAnnouncement (h : Keeps a s t) (x : LaneId) (beat : BitVec 64) : Keeps a s (doSleepAnnouncement x beat t) := by
  refine .ite h (.ite (h.inc x _) (.ite h (.withKeeper (.updMirrored h x fun _ hl => hl.withMsg ?_) _)))
  rfl

end State.Keeps
end Sys2Proof.Machine

namespace Sys2Proof.Machine

/-! ### What the host link and the service port keep -/

namespace State.Keeps

variable {a : Option LaneId} {s t : State}

/-! #### The host link -/

/-- A change of the host front that leaves its windows. -/
theorem withFront (h : Keeps a s t) {k : HostState} (hk : k.wins = t.host.wins) : Keeps a s { t with host := k } :=
  h.withHost fun hw => by
    rw [hk]
    exact hw

theorem readSlot (h : Keeps a s t) (sel : Sel) (addr : Nat) : Keeps a s (t.readSlot sel addr) := by
  refine .ite ?read (.answer (.ite (.mput ?read _ _) ?read) _)
  exact h.dictRead _ _ _ _

theorem writeSlot (h : Keeps a s t) (sel : Sel) (addr v : Nat) : Keeps a s (t.writeSlot sel addr v) := h.dictWrite _ _ _ _

theorem mailWord (h : Keeps a s t) (x : LaneId) (o : Nat) : Keeps a s (t.mailWord x o) :=
  .ite h.doMailboxSourceUidRead (h.answer _)

theorem readWord (h : Keeps a s t) (addr : Nat) : Keeps a s (t.readWord addr) := by
  unfold State.readWord
  split
  · exact h.readSlot _ _
  · split
    · exact h.abort _
    · exact h.answer _
  · split
    · exact h.abort _
    · exact h.answer _
  · exact h.fastTimebase _
  · split
    · exact h.abort _
    · exact h.mailWord _ _
  · exact h.abort _

theorem writeFlow (h : Keeps a s t) (x : LaneId) (n o enables v : Nat) : Keeps a s (t.writeFlow x n o enables v) :=
  .ite (h.flowControl _ _ _) (.ite (h.answer 0) (.ite (.ite (h.abort _) (.answer (.fanOut h .acting fun _ hl => hl.updPub n _) 0))
    (.ite (h.abort _) (h.answer 0))))

theorem writeWord (h : Keeps a s t) (enables addr v : Nat) : Keeps a s (t.writeWord enables addr v) := by
  unfold State.writeWord
  split
  · exact h.writeSlot _ _ _
  · refine .ite (h.abort _) (.answer (.withFront h ?_) 0)
    rfl
  · exact .ite (h.abort _) ((h.writeXmem _ _).answer 0)
  · split
    · exact h.abort _
    · exact h.writeFlow _ _ _ _ _
  · exact h.abort _
  · exact .ite (h.doMailboxRemoveHead _) (h.abort _)
  · exact h.abort _

theorem doHighWordLatch (h : Keeps a s t) (addr : BitVec 32) (write : Option (BitVec 32)) :
    Keeps a s (doHighWordLatch addr write t) := by
  unfold Machine.doHighWordLatch
  refine .ite h ?_
  split
  · cases write with
    | none => exact h.readSlot _ _
    | some v => exact h.writeSlot _ _ _
  · exact h

theorem readBurst (h : Keeps a s t) (k addr : Nat) : Keeps a s (readBurst k addr t).1 := by
  induction k generalizing addr t with
  | zero => exact h
  | succ k ih => exact .iteFst (h.readWord addr) (ih (h.readWord addr) _)

theorem writeBurst (h : Keeps a s t) (enables : Nat) (vs : List Nat) (addr : Nat) :
    Keeps a s (writeBurst enables vs addr t).1 := by
  induction vs generalizing addr t with
  | nil => exact h
  | cons v vs ih => exact .iteFst (h.writeWord enables addr v) (ih (h.writeWord enables addr v) _)

theorem readAperture (h : Keeps a s t) (c off n : Nat) : Keeps a s (t.readAperture c off n).1 :=
  .iteFst h (.iteFst (h.dictRead _ _ _ _) (h.dictRead _ _ _ _))

theorem readLocal (h : Keeps a s t) (r : HostReq) : Keeps a s (t.readLocal r).state := by
  unfold State.readLocal
  dsimp only
  split
  · exact h.readAperture _ _ _
  · exact h.readBurst _ _

theorem writeLocal (h : Keeps a s t) (r : HostReq) : Keeps a s (t.writeLocal r).state := h.writeBurst _ _ _

theorem iteDone {c : Prop} [Decidable c] {d e : HostDone} (hd : Keeps a s d.state) (he : Keeps a s e.state) :
    Keeps a s (if c then d else e).state := by
  split
  · exact hd
  · exact he

theorem lockLocal (h : Keeps a s t) (r : HostReq) : Keeps a s (t.lockLocal r).state := by
  unfold State.lockLocal
  split
  · refine .iteDone ?access (.iteDone h (.iteDone ?access (.lockAfter ?access _ _ _ _ _)))
    exact .iteDone (h.readLocal r) (.iteDone (h.writeLocal r) h)
  · exact h

theorem localAccess (h : Keeps a s t) (r : HostReq) : Keeps a s (t.localAccess r).state :=
  .iteDone (h.lockLocal r) (.iteDone (h.readLocal r) (h.writeLocal r))

theorem post (h : Keeps a s t) (r : HostReq) : Keeps a s (t.post r) := by
  refine .ite (.respond ?posted _ _ _ _) (.ite (.minc (.respond ?posted _ _ _ _) _) (.respond ?posted _ _ _ _))
  refine .withFront h ?_
  rfl

theorem countWindow (h : Keeps a s t) (r : HostReq) : Keeps a s (t.countWindow r) := .ite h (.ite (h.minc _) (h.minc _))

theorem turnAway (h : Keeps a s t) (r : HostReq) (code : Nat) : Keeps a s (t.turnAway r code) :=
  .ite ((h.respond _ _ _ _).minc _) (h.respond _ _ _ _)

theorem accept (h : Keeps a s t) (r : HostReq) : Keeps a s (t.accept r) := by
  have hheld {u : State} (hu : Keeps a s u) : Keeps a s { u with host := { u.host with held := some r } } := hu.withFront rfl
  refine .ite (hheld h) ?_
  split
  · exact h.turnAway r _
  · have hcount := h.countWindow r
    exact .ite (hcount.turnAway r _) (.ite (hcount.turnAway r _) (.ite (hcount.post r) (hheld hcount)))

theorem rejectFrame (h : Keeps a s t) : Keeps a s t.rejectFrame := by
  refine .ite (.raise ?rejected _ _) ?rejected
  refine .withFront ((h.minc _).respond _ _ _ _) ?_
  rfl

theorem request (h : Keeps a s t) (r : HostReq) (check : Nat) : Keeps a s (t.request r check) := by
  refine .ite h (.ite (.accept (.minc ?taken _) r) (.rejectFrame (.minc ?taken _)))
  refine .withFront h ?_
  rfl

theorem finishLocal (h : Keeps a s t) (r : HostReq) : Keeps a s (t.finishLocal r) := (h.localAccess r).respond _ _ _ _

theorem doHostResponseReady (h : Keeps a s t) : Keeps a s (doHostResponseReady t) := by
  unfold Machine.doHostResponseReady
  split
  · exact h
  · exact .ite (.ite (h.post _) h) (.ite (.ite (h.respond _ _ _ _) h) (.ite h (h.finishLocal _)))

theorem doReadNoHolderTimeout (h : Keeps a s t) : Keeps a s (doReadNoHolderTimeout t) := by
  unfold Machine.doReadNoHolderTimeout
  split
  · exact .ite (h.queuedDone _ _ _) h
  · exact h
  · exact .ite (h.respond _ _ _ _) h

theorem doSyncTimeout (h : Keeps a s t) : Keeps a s (doSyncTimeout t) := by
  refine .ite ((h.popPath _).lateError _ _ _) ?_
  split
  · exact h
  · exact .ite (h.respond _ _ _ _) h

theorem doFrameAbandoned (h : Keeps a s t) : Keeps a s (doFrameAbandoned t) := by
  unfold Machine.doFrameAbandoned
  split
  · refine .ite (.withFront h ?_) h
    rfl
  · refine .ite h (.ite (.updWin ?dropped _ _) ?dropped)
    refine .withFront (h.minc _) ?_
    rfl

/-! #### Remote windows -/

theorem openWindow (h : Keeps a s t) (w op object : Nat) (data : List Byte) (len : Nat) (prefetch : Bool) :
    Keeps a s (t.openWindow w op object data len prefetch) :=
  ((((((((h.putNode _ _).putNode _ _).putNode _ _).putNode _ _).putNode _ _).putNode _ _).putNode _ _).putNode _ _).openTransaction w _

theorem startWindow (h : Keeps a s t) (w : Nat) (r : HostReq) (queued : Bool) : Keeps a s (t.startWindow w r queued) := by
  have hactive := h.updWin w fun v => { v with active := some r, posted := queued, lastRead := none }
  unfold State.startWindow
  dsimp only
  split
  · exact (hactive.minc _).windowDone w 0 _
  · have hfresh := Keeps.ite (c := r.op = 1) (hactive.cancelPrefetch w) ((hactive.cancelPrefetch w).updWin w fun v => { v with block := none })
    split
    · exact hfresh.windowDone w _ _
    · exact hfresh.openWindow w _ _ _ _ _

theorem nextWindow (h : Keeps a s t) (w : Nat) : Keeps a s (t.nextWindow w) := by
  refine .ite h ?_
  split
  · exact h.startWindow w _ _
  · split
    · exact .ite (h.startWindow w _ _) h
    · exact h

theorem doRemoteWindowAccess (h : Keeps a s t) (w : Fin 16) : Keeps a s (doRemoteWindowAccess w t) := h.nextWindow _

theorem doPostedWriteExecute (h : Keeps a s t) (path : Fin 17) : Keeps a s (doPostedWriteExecute path t) := by
  refine .ite (h.nextWindow _) ?_
  split
  · exact h
  · exact .ite h ((h.localAccess _).queuedDone _ _ _)

theorem doWindowHoldTimeout (h : Keeps a s t) (w : Fin 16) : Keeps a s (doWindowHoldTimeout w t) :=
  .ite (.ite (h.noResponse _) (h.windowDone _ _ _)) (.ite ((h.respond _ _ _ _).minc _) h)

theorem doPrefetch (h : Keeps a s t) (w : Fin 16) : Keeps a s (doPrefetch w t) := by
  unfold Machine.doPrefetch
  dsimp only
  split
  · exact h
  · have hread := h.updWin w.val fun v => { v with lastRead := none }
    refine .ite h ?_
    split
    · exact hread
    · refine .ite ?_ ((hread.updWin _ _).openWindow _ _ _ _ _ _)
      split
      · exact hread.updWin _ _
      · exact (hread.updWin _ _).openWindow _ _ _ _ _ _

theorem doPrefetchBlockExpiry (h : Keeps a s t) (w : Fin 16) : Keeps a s (doPrefetchBlockExpiry w t) := h.updWin _ _

/-! #### The module reset -/

theorem moduleResetLane (h : Keeps a s t) (x : LaneId) : Keeps a s (t.moduleResetLane x) :=
  .ite (.upd (h.laneReset x 5 5 0xFF) x fun _ hl => hl.withPoss _) h

theorem doHrstN (h : Keeps a s t) : Keeps a s (doHrstN t) :=
  .ite h (.withKeeper ((((h.release .A 5).release .B 5).moduleResetLane .A).moduleResetLane .B |>.hostOff _) _)

theorem doHrstNRise (h : Keeps a s t) (reads : List (BitVec 4)) : Keeps a s (doHrstNRise reads t) := by
  refine .ite h (.ite (.raise ?booted _ _) ?booted)
  exact .mput (.knocks (.updBoth (h.withArbKeeper _ _) fun _ hl => hl.bootAgain)) _ _

/-! #### The service port -/

theorem serviceSend (h : Keeps a s t) (dest : Nat) (tag : Option Nat) (m : MsgFrame) : Keeps a s (t.serviceSend dest tag m) := by
  refine .updSec (h.updService _ _) ?_
  rfl

theorem serviceAnswer (h : Keeps a s t) (dest : Nat) (tag : Option Nat) (m : MsgFrame) (status len off : Nat)
    (data : List Byte) (last : Bool) : Keeps a s (t.serviceAnswer dest tag m status len off data last) := h.serviceSend _ _ _

theorem serviceStatus (h : Keeps a s t) (dest : Nat) (tag : Option Nat) (m : MsgFrame) (code : Nat) :
    Keeps a s (t.serviceStatus dest tag m code) := h.serviceAnswer _ _ _ _ _ _ _ _

theorem serviceAck (h : Keeps a s t) (dest : Nat) (tag : Option Nat) (m : MsgFrame) (held : Nat) :
    Keeps a s (t.serviceAck dest tag m held) := h.serviceSend _ _ _

theorem serviceResult (h : Keeps a s t) (dest : Nat) (tag : Option Nat) (m : MsgFrame) (data : List Byte) (off : Nat) :
    Keeps a s (t.serviceResult dest tag m data off) :=
  .ite (h.serviceAnswer _ _ _ _ _ _ _ _) (h.foldl _ fun _ _ hu => hu.serviceAnswer _ _ _ _ _ _ _ _)

theorem endService (h : Keeps a s t) (n : Nat) : Keeps a s (t.endService n) :=
  .updBoth (h.updService n _) fun _ hl => hl.freeBuffer 0 n

theorem serviceNonce (h : Keeps a s t) (n : Nat) : Keeps a s (t.serviceNonce n) :=
  .ite (h.abort _) (((h.free 128).updService n _).answerBytes _)

theorem serviceProof (h : Keeps a s t) (n : Nat) (data : List Byte) : Keeps a s (t.serviceProof n data) := by
  have hend := h.endService n
  unfold State.serviceProof
  dsimp only
  split
  · exact .ite ((hend.updService n _).answerBytes _) (hend.authFailed true)
  · exact hend.authFailed true

theorem serviceLogin (h : Keeps a s t) (n : Nat) (data : List Byte) : Keeps a s (t.serviceLogin n data) :=
  .ite (h.abort _) (.ite (h.abort _) (.ite (((h.endService n).updService n _).abort _) (h.serviceProof n data)))

theorem doServiceChallenge (h : Keeps a s t) (n : Fin 4) : Keeps a s (doServiceChallenge n t) := .ite (h.serviceNonce _) (h.abort _)

theorem doServiceAuthenticate (h : Keeps a s t) (n : Fin 4) (data : List Byte) : Keeps a s (doServiceAuthenticate n data t) :=
  .ite (h.serviceLogin _ _) (h.abort _)

theorem serviceDone (h : Keeps a s t) (x : LaneId) (dest : Nat) (tag : Option Nat) (m : MsgFrame) :
    Keeps a s (t.serviceDone x dest tag m) :=
  .ite (h.serviceStatus _ _ _ _) (.ite (h.serviceAnswer _ _ _ _ _ _ _ _) (.serviceResult (.ite (h.holdBuffer x _) h) _ _ _ _ _))

theorem serviceBusy (h : Keeps a s t) (x : LaneId) (dest : Nat) (tag : Option Nat) (m : MsgFrame) :
    Keeps a s (t.serviceBusy x dest tag m) := (h.inc x _).serviceStatus _ _ _ _

theorem serviceRun (h : Keeps a s t) (x : LaneId) (dest : Nat) (tag : Option Nat) (m : MsgFrame) (data : List Byte) :
    Keeps a s (t.serviceRun x dest tag m data) := .ite (h.serviceBusy x _ _ _) ((h.operate x _ _ _).serviceDone x _ _ _)

theorem serviceNoBuffer (h : Keeps a s t) (x : LaneId) (dest : Nat) (tag : Option Nat) (m : MsgFrame) :
    Keeps a s (t.serviceNoBuffer x dest tag m) := .ite ((h.operate x _ _ _).serviceStatus _ _ _ _) (h.serviceBusy x _ _ _)

theorem serviceSegment (h : Keeps a s t) (x : LaneId) (dest : Nat) (tag : Option Nat) (m : MsgFrame) :
    Keeps a s (t.serviceSegment x dest tag m) :=
  .ite (h.serviceNoBuffer x _ _ _) (.ite ((h.freeBuffer x _ _).serviceRun x _ _ _ _)
    (.ite ((h.holdBuffer x _).serviceAck _ _ _ _) (h.holdBuffer x _)))

theorem serviceRequest (h : Keeps a s t) (x : LaneId) (dest : Nat) (tag : Option Nat) (m : MsgFrame) :
    Keeps a s (t.serviceRequest x dest tag m) :=
  .ite (h.serviceStatus _ _ _ _) (.ite ((h.serviceNonce _).serviceDone x _ _ _) (.ite ((h.serviceLogin _ _).serviceDone x _ _ _)
    (.ite (h.serviceSegment x _ _ _) ((h.freeBuffer x _ _).serviceRun x _ _ _ _))))

theorem serviceFollow (h : Keeps a s t) (x : LaneId) (dest : Nat) (tag : Option Nat) (m : MsgFrame) :
    Keeps a s (t.serviceFollow x dest tag m) := by
  unfold State.serviceFollow
  dsimp only
  split
  · exact h
  · exact .ite h (.ite (h.freeBuffer x _ _) (.ite h (.ite (h.freeBuffer x _ _) ((h.holdBuffer x _).serviceResult _ _ _ _ _))))

theorem serviceOpen (h : Keeps a s t) (x : LaneId) (dest : Nat) (m : MsgFrame) : Keeps a s (t.serviceOpen x dest m) :=
  .ite (h.serviceRequest x _ _ _) (.ite (.ite (h.serviceFollow x _ _ _) h) (.ite (h.serviceStatus _ _ _ _)
    (.ite (h.serviceRequest x _ _ _) (h.serviceStatus _ _ _ _))))

theorem framesSpent (h : Keeps a s t) (n : Nat) : Keeps a s (t.framesSpent n) := .ite (h.endService n) h

theorem serviceMessage (h : Keeps a s t) (x : LaneId) (dest : Nat) (m : MsgFrame) : Keeps a s (t.serviceMessage x dest m) :=
  .ite (.ite (h.serviceOpen x _ _) (.ite (h.serviceRequest x _ _ _) (h.serviceFollow x _ _ _)))
    (.ite (h.serviceStatus _ _ _ _) h)

/-- The answers sent last are no part of what is kept. -/
theorem forgetAnswers (h : Keeps a s t) : Keeps a s (t.updSec fun c => { c with lastAnswer := [] }) := h.updSec rfl

theorem serviceServe (h : Keeps a s t) (x : LaneId) (f : LineFrame) : Keeps a s (t.serviceServe x f) :=
  ((h.forgetAnswers.serviceMessage x _ _).updService _ _).framesSpent _

theorem doServicePortFrame (h : Keeps a s t) (bytes : List Byte) : Keeps a s (doServicePortFrame bytes t) := by
  refine .ite h (.ite (h.minc _) (.ite (h.minc _) ?_))
  dsimp only
  split
  · exact (h.minc _).serviceServe _ _
  · exact h.minc _

theorem doServiceSessionEnd (h : Keeps a s t) (n : Fin 4) (why : SessionEnd) : Keeps a s (doServiceSessionEnd n why t) :=
  h.endService _

theorem doServiceLinkChange (h : Keeps a s t) (up : Bool) : Keeps a s (doServiceLinkChange up t) :=
  .ite (.ite (h.withKeeper _) h) (h.withKeeper _).endServiceSessions

end State.Keeps
end Sys2Proof.Machine

namespace Sys2Proof.Machine

/-! ### What the switch beat and the mirror keep -/

namespace LaneState.Keeps

variable {l₀ l p : LaneState}

theorem takeNumbering (h : l₀.Keeps l) (uid : Nat) (c : Close) : l₀.Keeps (l.takeNumbering uid c) :=
  .put (.put (.put (.inc (.put (.put (.put (.put (.put (h.put _ _) _ _) _ _) _ _) _ _) _ _) _) _ _) _ _) _ _

theorem switchRoll (h : l₀.Keeps l) (uid : Nat) (held : Bool) (c : Close) : l₀.Keeps (l.switchRoll uid held c) := by
  refine .withRoll (.updPort (.updPort (.put ?numbered _ _) .e1 _) .e2 _) _
  exact h.takeNumbering uid c

theorem keepWave (h : l₀.Keeps l) : l₀.Keeps l.keepWave := h.withFlow _

theorem takeSetting (h : l₀.Keeps l) (peer : LaneState) (k : Nat) : l₀.Keeps (l.takeSetting peer k) := by
  have hput := h.put k (peer.get k)
  exact .ite (.ite hput (hput.shadowPut _ _)) (.ite h (.ite (h.takeTiming _ _ _) (.ite (.ite (h.writeMode _ _) (h.writePulse _ _ _))
    (.ite hput.clearStations (.ite ((h.keepImage _ _).put _ _) (.ite (h.changeFunction _ _) hput))))))

theorem takeSettings (h : l₀.Keeps l) (peer : LaneState) (owed : List Nat) : l₀.Keeps (l.takeSettings peer owed) := by
  refine .withCan (h.foldl _ ?_) _
  exact fun _ k hl => hl.takeSetting peer k

/-- The sessions of a lane whose canonical form is known. -/
theorem withSessionsOf (h : l₀.Keeps l) (hp : LaneCanon l₀ → LaneCanon p) {f : MsgState} (hf : f.sessions = p.msg.sessions) :
    l₀.Keeps { l with msg := f } := by
  refine ⟨fun hc => ?_, h.2⟩
  obtain ⟨hreg, hx, hpins, -, hcoll⟩ := h.1 hc
  obtain ⟨-, -, -, hs, -⟩ := hp hc
  exact ⟨hreg, hx, hpins, by rw [hf]; exact hs, hcoll⟩

/-- The exchange memory of a lane whose canonical form is known. -/
theorem withXmemOf (h : l₀.Keeps l) (hp : LaneCanon l₀ → LaneCanon p) : l₀.Keeps { l with xmem := p.xmem } := by
  refine ⟨fun hc => ?_, h.2⟩
  obtain ⟨hreg, -, hrest⟩ := h.1 hc
  obtain ⟨-, hx, -⟩ := hp hc
  exact ⟨hreg, hx, hrest⟩

theorem takeSteady (h : l₀.Keeps l) (hp : LaneCanon l₀ → LaneCanon p) : l₀.Keeps (l.takeSteady p) :=
  (h.copyEntries p _).withSessionsOf hp rfl

/-- The echo numbers and flows of a lane are no part of what is kept. -/
theorem withEchoFlow (h : l₀.Keeps l) (e : Regs) (f : FlowState) : l₀.Keeps { l with echoSeq := e, flow := f } := h

theorem takeWhole (h : l₀.Keeps l) (hp : LaneCanon l₀ → LaneCanon p) : l₀.Keeps (l.takeWhole p) := by
  refine .resolveAll (.withEchoFlow (.withXmemOf (.withSessionsOf (h.copyEntries p _) hp ?_) hp) _ _)
  rfl

end LaneState.Keeps

namespace State.Keeps

variable {a : Option LaneId} {s t u : State}

/-- A lane like another, with an exchange memory that is not canonical. -/
def spoilt (l : LaneState) : LaneState := { l with xmem := [(0, 0)] }

theorem not_laneCanon_spoilt (l : LaneState) : ¬ LaneCanon (spoilt l) := fun hc => by
  have hx : tabCanon (fun _ => (0 : Byte)) [(0, 0)] = true := hc.2.1
  exact absurd hx (by decide)

/-- A lane that takes parts of its peer: its canonical form needs the peer's. -/
theorem updFromPeer (h : Keeps a s t) (x : LaneId) {f : LaneState → LaneState}
    (hf : ∀ l₀ l : LaneState, l₀.Keeps l → (LaneCanon l₀ → LaneCanon (t.lane x.peer)) → l₀.Keeps (f l)) :
    Keeps a s (t.upd x f) := by
  have hmode : (f (t.lane x)).mode = .possession → (t.lane x).mode = .possession :=
    (hf (spoilt (t.lane x)) (t.lane x) ⟨fun hc => absurd hc (not_laneCanon_spoilt _), id⟩ fun hc =>
      absurd hc (not_laneCanon_spoilt _)).2
  have hcanon (hp : LaneCanon (t.lane x.peer)) : LaneCanon (t.lane x) → LaneCanon (f (t.lane x)) := (hf _ _ .self fun _ => hp).1
  obtain ⟨hc, ⟨hA, hB⟩, hrest⟩ := h
  cases x
  · exact ⟨fun h₀ => ⟨(hc h₀).1, (hc h₀).2.1, (hc h₀).2.2.1, hcanon (hc h₀).2.2.2.2 (hc h₀).2.2.2.1, (hc h₀).2.2.2.2⟩,
      ⟨hA ∘ hmode, hB⟩, hrest⟩
  · exact ⟨fun h₀ => ⟨(hc h₀).1, (hc h₀).2.1, (hc h₀).2.2.1, (hc h₀).2.2.2.1, hcanon (hc h₀).2.2.2.1 (hc h₀).2.2.2.2⟩,
      ⟨hA, hB ∘ hmode⟩, hrest⟩

/-! #### The switch beat -/

theorem holdBack (h : Keeps a s t) (x : LaneId) (e : EndId) : Keeps a s (t.holdBack x e) := by
  unfold State.holdBack
  split
  · exact h.dropPort x e _ _
  · exact h.updPort x e _
  · exact h.updPort x e _
  · exact h.updPort x e _
  · exact h.updPort x e _
  · exact h

theorem holdPort (h : Keeps a s t) (x : LaneId) (e : EndId) (r : Nat) (es : List DirEntry) : Keeps a s (t.holdPort x e r es) := by
  refine .ite (.ite ?held (.raiseLane ?held x 34)) (h.updPort x e _)
  exact (h.holdBack x e).updPort x e _

theorem takeLineRate (h : Keeps a s t) (x : LaneId) (c : Close) : Keeps a s (t.takeLineRate x c) := by
  refine .ite ?decided (.upd ?decided x ?_)
  · split
    · exact h.put x _ _
    · exact (((h.put x _ _).holdPort x _ _ _).holdPort x _ _ _).followHeld x
  · exact fun _ hl => (hl.orderedRetrain _ _).orderedRetrain _ _

theorem dropQueued (h : Keeps a s t) (w : Nat) : Keeps a s (t.dropQueued w) := by
  refine .foldl (.withFront h ?_) _ ?_
  · rfl
  · exact fun _ _ hu => hu.lateError _ _ _

theorem dropHeld (h : Keeps a s t) (w : Nat) : Keeps a s (t.dropHeld w) := .ite ((h.respond _ _ _ _).minc _) h

theorem retargetWindow (h : Keeps a s t) (w : Nat) : Keeps a s (t.retargetWindow w) :=
  .minc (.mput (((Keeps.ite (h.endSession w _) h).cancelPrefetch w).dropQueued w |>.dropHeld w) _ _) _

theorem switchWindow (h : Keeps a s t) (old : List DirEntry) (w : Nat) : Keeps a s (t.switchWindow old w) :=
  .ite ((h.updWin w _).retargetWindow w) (h.updWin w _)

theorem switchWindows (h : Keeps a s t) (old : List DirEntry) : Keeps a s (t.switchWindows old) := by
  refine .ite h (.mput (.foldl (.withFront h ?_) _ ?_) _ _)
  · rfl
  · exact fun _ w hu => hu.switchWindow old w

theorem skipWindows (h : Keeps a s t) : Keeps a s t.skipWindows := h.withFront rfl

theorem followWindows (h : Keeps a s t) : Keeps a s t.followWindows := by
  unfold State.followWindows
  split
  · exact h
  · refine .withFront (h.switchWindows _) ?_
    rfl

theorem switchHost (h : Keeps a s t) (x : LaneId) (old : List DirEntry) : Keeps a s (t.switchHost x old) := by
  unfold State.switchHost
  extract_lets _ s₁
  have h₁ : Keeps a s s₁ := .ite (h.switchWindows old) h.skipWindows
  exact .upd h₁ x fun _ hl => hl.drivePins

theorem doGrant {x : LaneId} (h : Keeps (some x) s t) : Keeps (some x) s (doGrant x t) := .ite h.take.followWindows h

theorem doInterlockRecheck {x : LaneId} (h : Keeps (some x) s t) : Keeps (some x) s (doInterlockRecheck x t) := by
  refine .ite h (.ite (.ite h.take.followWindows (.upd h x fun _ hl => hl.lowerPair)) ?_)
  cases x with
  | A => exact .upd h .A fun _ hl => hl.withPoss _
  | B => exact .upd h .B fun _ hl => hl.lowerPair

theorem startLate (h : Keeps a s t) (x : LaneId) : Keeps a s (t.startLate x) :=
  .upd ((h.lower _ 48).inc x _) x fun _ hl => (hl.withFlowRoll _ _).put _ _

theorem switchSchedule (h : Keeps a s t) (x : LaneId) : Keeps a s (t.switchSchedule x) := by
  unfold State.switchSchedule
  dsimp only
  split
  · exact .ite (h.startLate x) (.enforce (h.updRoll x _) x _)
  · exact h.startLate x

theorem judgeClose (h : Keeps a s t) (x : LaneId) (c : Close) : Keeps a s (t.judgeClose x c) :=
  .follow (.ite ((h.inc x _).raiseLane x 57) (h.lower _ 57)) x 58 _

theorem doSwitchBeat (h : Keeps a s t) (x : LaneId) : Keeps a s (doSwitchBeat x t) := by
  unfold Machine.doSwitchBeat
  dsimp only
  split
  · exact h
  · refine .ite h (.switchHost (.judgeClose (.disableRules (.upd (.takeLineRate (.switchTime (.switchSchedule ?numbered x) x _ _ _)
      x _) x ?resolved) x) x _) x _)
    case numbered => exact .upd h x fun _ hl => hl.keepWave.switchRoll _ _ _
    case resolved => exact fun _ hl => hl.resolveAtSwitch

theorem doLateStartEnd (h : Keeps a s t) (x : LaneId) : Keeps a s (doLateStartEnd x t) := by
  unfold Machine.doLateStartEnd
  dsimp only
  split
  · exact h
  · refine .ite h (.upd (.enforce (.upd h x ?ended) x _) x ?resolved)
    case ended => exact fun _ hl => hl.withFlowRoll _ _
    case resolved => exact fun _ hl => hl.resolveAll

/-! #### The mirror -/

theorem mirrorCopy (h : Keeps a s t) (x : LaneId) : Keeps a s (t.mirrorCopy x) := by
  refine .noteCab (.upd (.mirrorRoll (.ite (.updFromPeer h x ?_) h) x) x ?_) x
  · exact fun _ _ hl hp => hl.takeSteady hp
  · exact fun _ hl => hl.takePeerLatches _

/-- The values that a lane without reach has still to take are no part of what is kept. -/
theorem withOwed (h : Keeps a s t) (o : List (LaneId × Nat)) : Keeps a s { t with owed := o } := h

theorem mirrorCopyAll (h : Keeps a s t) (x : LaneId) : Keeps a s (t.mirrorCopyAll x) := by
  refine .ite (.takeMissedImages (.withOwed (.updFromPeer h x ?_) _) x) h
  exact fun _ _ hl hp => (hl.takeWhole hp).takeSettings _ _

theorem doMirrorFrame (h : Keeps a s t) (x : LaneId) (crcOk : Bool) : Keeps a s (doMirrorFrame x crcOk t) := by
  refine .ite h (.ite (.upd h x fun _ hl => ((hl.inc _).sample 7 1).withPoss _)
    (.ite (.peerRecorderFailed (.mirrorCopy ?seen x) x) ?seen))
  exact .tossCheck (.holdCheck (.upd h x fun _ hl => hl.withPoss _) x)

theorem doResyncComplete (h : Keeps a s t) (x : LaneId) : Keeps a s (doResyncComplete x t) := by
  refine .ite (.peerRecorderFailed (.mirrorCopyAll (.upd h x ?_) x) x) h
  exact fun _ hl => hl.withPoss _

theorem serviceGapAck (h : Keeps a s t) (x : LaneId) (n : Nat) : Keeps a s (t.serviceGapAck x n) := by
  unfold State.serviceGapAck
  split
  · exact h
  · exact .ite ((h.forgetAnswers.serviceAck _ _ _ _).framesSpent _) h

end State.Keeps
end Sys2Proof.Machine

namespace Sys2Proof.Machine

/-! ### What every command keeps -/

/-- The lane that a command may bring into possession: the one it grants, or the one whose pair it checks again. -/
def Instr.taker : Instr → Option LaneId
  | .grant x => some x
  | .interlockRecheck x => some x
  | _ => none

/-- An outcome is a next state that keeps what is kept. -/
def Outcome.Keeps (a : Option LaneId) (s : State) : Out → Prop
  | .next t => State.Keeps a s t
  | .fault _ => False
  | .refused _ => False

theorem exec_keeps (c : Instr) (s : State) : Outcome.Keeps (Instr.taker c) s (exec c s) := by
  cases c with
  | presSClose => exact State.Keeps.doPresSClose .self ..
  | mated => exact State.Keeps.doMated .self ..
  | presSOpen => exact State.Keeps.doPresSOpen .self ..
  | withdrawalConfirmed => exact State.Keeps.doWithdrawalConfirmed .self ..
  | reinsertionAfterWithdrawal => exact State.Keeps.doReinsertionAfterWithdrawal .self ..
  | locate => exact State.Keeps.through .self _ (.doLocate .self ..)
  | locateExpiry => exact State.Keeps.doLocateExpiry .self ..
  | supplyGood => exact State.Keeps.doSupplyGood .self ..
  | coldStartRecheck => exact State.Keeps.doColdStartRecheck .self ..
  | warmUpEnd => exact State.Keeps.doWarmUpEnd .self ..
  | holdUpCharged => exact State.Keeps.doHoldUpCharged .self ..
  | supplyLost => exact State.Keeps.doSupplyLost .self ..
  | interruptionBridged => exact State.Keeps.doInterruptionBridged .self ..
  | powerFailSequence => exact State.Keeps.doPowerFailSequence .self ..
  | knock => exact State.Keeps.doKnock .self ..
  | hwake => exact State.Keeps.doHwake .self ..
  | fieldWake => exact State.Keeps.doFieldWake .self ..
  | wakeFromStandby => exact State.Keeps.doWakeFromStandby .self ..
  | localSleep => exact State.Keeps.through .self _ (.doLocalSleep .self ..)
  | trainSleep => exact State.Keeps.through .self _ (.doTrainSleep .self ..)
  | sleepBeat => exact State.Keeps.doSleepBeat .self ..
  | sleepDeferredEnd => exact State.Keeps.doSleepDeferredEnd .self ..
  | sleepEntry => exact State.Keeps.doSleepEntry .self ..
  | peerLaneSleep => exact State.Keeps.through .self _ (.doPeerLaneSleep .self ..)
  | peerLaneWake => exact State.Keeps.through .self _ (.doPeerLaneWake .self ..)
  | mirrorFrame => exact State.Keeps.doMirrorFrame .self ..
  | mirrorLost => exact State.Keeps.doMirrorLost .self ..
  | mirrorCurrentAllowanceEnd => exact State.Keeps.doMirrorCurrentAllowanceEnd .self ..
  | mirrorUp => exact State.Keeps.doMirrorUp .self ..
  | resyncComplete => exact State.Keeps.doResyncComplete .self ..
  | toss => exact State.Keeps.doToss .self ..
  | tossBWindowExpiry => exact State.Keeps.doTossBWindowExpiry .self ..
  | arbiterFrame => exact State.Keeps.doArbiterFrame .self ..
  | arbiterLinkLost => exact State.Keeps.doArbiterLinkLost .self ..
  | renewal => exact State.Keeps.doRenewal .self ..
  | renewalAck => exact State.Keeps.doRenewalAck .self ..
  | localLeaseEnd => exact State.Keeps.doLocalLeaseEnd .self ..
  | leaseExpiry => exact State.Keeps.doLeaseExpiry .self ..
  | grant => exact State.Keeps.doGrant .self ..
  | release => exact State.Keeps.doRelease .self ..
  | arbiterRestart => exact State.Keeps.doArbiterRestart .self ..
  | arbiterRenewalWaitEnd => exact State.Keeps.doArbiterRenewalWaitEnd .self ..
  | interlockPairInvalid => exact State.Keeps.doInterlockPairInvalid .self ..
  | interlockAcquisition => exact State.Keeps.doInterlockAcquisition .self ..
  | interlockConfirmEnd => exact State.Keeps.doInterlockConfirmEnd .self ..
  | interlockRecheck => exact State.Keeps.doInterlockRecheck .self ..
  | peerActingSeen => exact State.Keeps.doPeerActingSeen .self ..
  | freezeEnd => exact State.Keeps.doFreezeEnd .self ..
  | plannedChangeover => exact State.Keeps.through .self _ (.doPlannedChangeover .self ..)
  | plannedChangeoverCheckEnd => exact State.Keeps.doPlannedChangeoverCheckEnd .self ..
  | laneReset => exact State.Keeps.through .self _ (.doLaneReset .self ..)
  | beginUpdate => exact State.Keeps.through .self _ (.doBeginUpdate .self ..)
  | beginUpdateEraseDone => exact State.Keeps.doBeginUpdateEraseDone .self ..
  | firmwareChunk => exact State.Keeps.through .self _ (.doFirmwareChunk .self ..)
  | activate => exact State.Keeps.through .self _ (.doActivate .self ..)
  | abandonUpdate => exact State.Keeps.through .self _ (.doAbandonUpdate .self ..)
  | activationComplete => exact State.Keeps.doActivationComplete .self ..
  | trainingBlock => exact State.Keeps.doTrainingBlock .self ..
  | trainingStepTimeout => exact State.Keeps.doTrainingStepTimeout .self ..
  | beacon => exact State.Keeps.doBeacon .self ..
  | channelProbeDone => exact State.Keeps.doChannelProbeDone .self ..
  | pmaTrainingDone => exact State.Keeps.doPmaTrainingDone .self ..
  | linkVerification => exact State.Keeps.doLinkVerification .self ..
  | linkDown => exact State.Keeps.doLinkDown .self ..
  | marginUpdate => exact State.Keeps.doMarginUpdate .self ..
  | marginAlarm => exact State.Keeps.doMarginAlarm .self ..
  | segmentTakedown => exact State.Keeps.doSegmentTakedown .self ..
  | takedownHoldEnd => exact State.Keeps.doTakedownHoldEnd .self ..
  | portQuarantined => exact State.Keeps.doPortQuarantined .self ..
  | quarantineEnd => exact State.Keeps.doQuarantineEnd .self ..
  | runDiagnostics => exact State.Keeps.through .self _ (.doRunDiagnostics .self ..)
  | diagnosticsDone => exact State.Keeps.doDiagnosticsDone .self ..
  | insulationTest => exact State.Keeps.doInsulationTest .self ..
  | portEnable => exact State.Keeps.through .self _ (.doPortEnable .self ..)
  | insertion => exact State.Keeps.doInsertion .self ..
  | laneBInsertionTimeout => exact State.Keeps.doLaneBInsertionTimeout .self ..
  | orderedRetrainLate => exact State.Keeps.doOrderedRetrainLate .self ..
  | line2DeferredDue => exact State.Keeps.doLine2DeferredDue .self ..
  | frameDecisionPoint => exact State.Keeps.doFrameDecisionPoint .self ..
  | stomp => exact State.Keeps.doStomp .self ..
  | localPortSend => exact State.Keeps.doLocalPortSend .self ..
  | unscheduledEgressStart => exact State.Keeps.doUnscheduledEgressStart .self ..
  | gateOverrun => exact State.Keeps.doGateOverrun .self ..
  | pauseReceived => exact State.Keeps.doPauseReceived .self ..
  | pauseExpiry => exact State.Keeps.doPauseExpiry .self ..
  | pauseSend => exact State.Keeps.doPauseSend .self ..
  | pauseRepeat => exact State.Keeps.doPauseRepeat .self ..
  | pauseRelease => exact State.Keeps.doPauseRelease .self ..
  | receiveNoBuffer => exact State.Keeps.doReceiveNoBuffer .self ..
  | ringChainReturn => exact State.Keeps.doRingChainReturn .self ..
  | rollTrigger => exact State.Keeps.doRollTrigger .self ..
  | holdOffEnd => exact State.Keeps.doHoldOffEnd .self ..
  | rollSpacingEnd => exact State.Keeps.doRollSpacingEnd .self ..
  | rollOriginate => exact State.Keeps.doRollOriginate .self ..
  | rollFrame => exact State.Keeps.doRollFrame .self ..
  | phase1Limit => exact State.Keeps.doPhase1Limit .self ..
  | candidate => exact State.Keeps.doCandidate .self ..
  | peerListWaitEnd => exact State.Keeps.doPeerListWaitEnd .self ..
  | want => exact State.Keeps.doWant .self ..
  | close => exact State.Keeps.doClose .self ..
  | closeLimit => exact State.Keeps.doCloseLimit .self ..
  | switchBeat => exact State.Keeps.doSwitchBeat .self ..
  | lateStartEnd => exact State.Keeps.doLateStartEnd .self ..
  | notNumberedRequest => exact State.Keeps.doNotNumberedRequest .self ..
  | rollRequest => exact State.Keeps.through .self _ (.doRollRequest .self ..)
  | leadDeclaration => exact State.Keeps.through .self _ (.doLeadDeclaration .self ..)
  | scheduleComputation => exact State.Keeps.doScheduleComputation .self ..
  | scheduleComputationDone => exact State.Keeps.doScheduleComputationDone .self ..
  | flowConfigWrite => exact State.Keeps.through .self _ (.doFlowConfigWrite .self ..)
  | beatStart => exact State.Keeps.doBeatStart .self ..
  | samplePoint => exact State.Keeps.doSamplePoint .self ..
  | waveLaunch => exact State.Keeps.doWaveLaunch .self ..
  | waveSlip => exact State.Keeps.doWaveSlip .self ..
  | publicationCommit => exact State.Keeps.through .self _ (.doPublicationCommit .self ..)
  | fillIn => exact State.Keeps.doFillIn .self ..
  | sessionStart => exact State.Keeps.through .self _ (.doSessionStart .self ..)
  | messageRequest => exact State.Keeps.doMessageRequest .self ..
  | messageResponse => exact State.Keeps.doMessageResponse .self ..
  | segmentAck => exact State.Keeps.doSegmentAck .self ..
  | segmentGapAck => exact State.Keeps.ite (.serviceGapAck .self ..) (.doSegmentGapAck .self ..)
  | segmentedWriteExecute => exact State.Keeps.doSegmentedWriteExecute .self ..
  | transferBufferTimeout => exact State.Keeps.doTransferBufferTimeout .self ..
  | sessionTimeout => exact State.Keeps.doSessionTimeout .self ..
  | cancel => exact State.Keeps.doCancel .self ..
  | lockExpiry => exact State.Keeps.doLockExpiry .self ..
  | mailboxMessage => exact State.Keeps.doMailboxMessage .self ..
  | mailboxRemoveHead => exact State.Keeps.ite (.doMailboxRemoveHead .self ..) .self
  | mailboxSourceUidRead => exact State.Keeps.ite (.doMailboxSourceUidRead .self ..) .self
  | sleepAnnouncement => exact State.Keeps.doSleepAnnouncement .self ..
  | syncSend => exact State.Keeps.doSyncSend .self ..
  | syncReceived => exact State.Keeps.doSyncReceived .self ..
  | pdelayReq => exact State.Keeps.doPdelayReq .self ..
  | pdelayResp => exact State.Keeps.doPdelayResp .self ..
  | pdelayMeasurement => exact State.Keeps.doPdelayMeasurement .self ..
  | pdelayRespTimeout => exact State.Keeps.doPdelayRespTimeout .self ..
  | peerDelayFailure => exact State.Keeps.doPeerDelayFailure .self ..
  | syncLoss => exact State.Keeps.doSyncLoss .self ..
  | holdoverAlarm => exact State.Keeps.doHoldoverAlarm .self ..
  | lockAcquisitionStep => exact State.Keeps.doLockAcquisitionStep .self ..
  | lateDomainStep => exact State.Keeps.doLateDomainStep .self ..
  | foundDomain => exact State.Keeps.doFoundDomain .self ..
  | laneTimeCompare => exact State.Keeps.doLaneTimeCompare .self ..
  | fastTimebaseRead => exact State.Keeps.doFastTimebaseRead .self ..
  | pulseModeWrite => exact State.Keeps.through .self _ (.doPulseModeWrite .self ..)
  | pulseEdge => exact State.Keeps.doPulseEdge .self ..
  | baselineWrite => exact State.Keeps.through .self _ (.doBaselineWrite .self ..)
  | fieldMapUnmapped => exact State.Keeps.doFieldMapUnmapped .self ..
  | bitTimingWrite => exact State.Keeps.through .self _ (.doBitTimingWrite .self ..)
  | integrationDone => exact State.Keeps.doIntegrationDone .self ..
  | canFrameReceived => exact State.Keeps.doCanFrameReceived .self ..
  | transmitCommit => exact State.Keeps.through .self _ (.doTransmitCommit .self ..)
  | slotStart => exact State.Keeps.doSlotStart .self ..
  | canFrameComplete => exact State.Keeps.doCanFrameComplete .self ..
  | canFrameLate => exact State.Keeps.doCanFrameLate .self ..
  | patternApply => exact State.Keeps.through .self _ (.doPatternApply .self ..)
  | patternSwitch => exact State.Keeps.doPatternSwitch .self ..
  | errorPassive => exact State.Keeps.doErrorPassive .self ..
  | busOff => exact State.Keeps.doBusOff .self ..
  | busOffRecoveryDone => exact State.Keeps.doBusOffRecoveryDone .self ..
  | identifierCollision => exact State.Keeps.doIdentifierCollision .self ..
  | listenOnlyChange => exact State.Keeps.doListenOnlyChange .self ..
  | patternEnable => exact State.Keeps.through .self _ (.doPatternEnable .self ..)
  | gatewayRuleEnable => exact State.Keeps.through .self _ (.doGatewayRuleEnable .self ..)
  | fieldRunCommand => exact State.Keeps.doFieldRunCommand .self ..
  | isolationFrame => exact State.Keeps.doIsolationFrame .self ..
  | fieldLinkFailed => exact State.Keeps.doFieldLinkFailed .self ..
  | fieldWatchdogExpiry => exact State.Keeps.doFieldWatchdogExpiry .self ..
  | pinFunctionChange => exact State.Keeps.through .self _ (.doPinFunctionChange .self ..)
  | inputFilterTick => exact State.Keeps.doInputFilterTick .self ..
  | captureHeadRead => exact State.Keeps.through .self _ (.doCaptureHeadRead .self ..)
  | inputDisagreement => exact State.Keeps.doInputDisagreement .self ..
  | outputOverload => exact State.Keeps.doOutputOverload .self ..
  | groupOverload => exact State.Keeps.doGroupOverload .self ..
  | driverStuckOn => exact State.Keeps.doDriverStuckOn .self ..
  | lampSample => exact State.Keeps.doLampSample .self ..
  | pairedLampHoldOffEnd => exact State.Keeps.doPairedLampHoldOffEnd .self ..
  | openLoadTest => exact State.Keeps.doOpenLoadTest .self ..
  | learn => exact State.Keeps.through .self _ (.doLearn .self ..)
  | learnDone => exact State.Keeps.doLearnDone .self ..
  | endRoleGateWrite => exact State.Keeps.through .self _ (.doEndRoleGateWrite .self ..)
  | fieldSupplyMeasure => exact State.Keeps.doFieldSupplyMeasure .self ..
  | outputImage => exact State.Keeps.through .self _ (.doOutputImage .self ..)
  | setOutputs => exact State.Keeps.through .self _ (.doSetOutputs .self ..)
  | clearOutputs => exact State.Keeps.through .self _ (.doClearOutputs .self ..)
  | rd => exact State.Keeps.request .self ..
  | wr => exact State.Keeps.request .self ..
  | wrc => exact State.Keeps.request .self ..
  | wrm => exact State.Keeps.request .self ..
  | lockrd => exact State.Keeps.request .self ..
  | unlockwr => exact State.Keeps.request .self ..
  | unlock => exact State.Keeps.request .self ..
  | sync => exact State.Keeps.request .self ..
  | frameAbandoned => exact State.Keeps.doFrameAbandoned .self ..
  | postedWriteExecute => exact State.Keeps.doPostedWriteExecute .self ..
  | hostResponseReady => exact State.Keeps.doHostResponseReady .self ..
  | apertureCommit => exact State.Keeps.through .self _ (.doApertureCommit .self ..)
  | highWordLatch => exact State.Keeps.doHighWordLatch .self ..
  | remoteWindowAccess => exact State.Keeps.doRemoteWindowAccess .self ..
  | windowHoldTimeout => exact State.Keeps.doWindowHoldTimeout .self ..
  | prefetch => exact State.Keeps.doPrefetch .self ..
  | prefetchBlockExpiry => exact State.Keeps.doPrefetchBlockExpiry .self ..
  | hrstN => exact State.Keeps.doHrstN .self ..
  | hrstNRise => exact State.Keeps.doHrstNRise .self ..
  | endHostLinkSession => exact State.Keeps.through .self _ (.doEndHostLinkSession .self ..)
  | hostLinkSessionExpiry => exact State.Keeps.doHostLinkSessionExpiry .self ..
  | faultReaction => exact State.Keeps.doFaultReaction .self ..
  | blockResetDone => exact State.Keeps.doBlockResetDone .self ..
  | acknowledge => exact State.Keeps.through .self _ (.doAcknowledge .self ..)
  | inject => exact State.Keeps.through .self _ (.doInject .self ..)
  | fullReactionArm => exact State.Keeps.through .self _ (.doFullReactionArm .self ..)
  | fullReactionArmLapse => exact State.Keeps.doFullReactionArmLapse .self ..
  | recordWrite => exact State.Keeps.doRecordWrite .self ..
  | eventLost => exact State.Keeps.doEventLost .self ..
  | controlBlockRewrite => exact State.Keeps.doControlBlockRewrite .self ..
  | clear => exact State.Keeps.through .self _ (.doClear .self ..)
  | clearDone => exact State.Keeps.doClearDone .self ..
  | timeTagRestore => exact State.Keeps.through .self _ (.doTimeTagRestore .self ..)
  | recorderMemoryFailed => exact State.Keeps.doRecorderMemoryFailed .self ..
  | rePlan => exact State.Keeps.doRePlan .self ..
  | dailyRePlanDue => exact State.Keeps.doDailyRePlanDue .self ..
  | rePlanNow => exact State.Keeps.through .self _ (.doRePlanNow .self ..)
  | deferredRePlanStart => exact State.Keeps.doDeferredRePlanStart .self ..
  | guardStep => exact State.Keeps.doGuardStep .self ..
  | coreVoltageFault => exact State.Keeps.doCoreVoltageFault .self ..
  | onResistanceMeasure => exact State.Keeps.doOnResistanceMeasure .self ..
  | scrub => exact State.Keeps.doScrub .self ..
  | equivalentHoursTick => exact State.Keeps.doEquivalentHoursTick .self ..
  | planBoundWrite => exact State.Keeps.through .self _ (.doPlanBoundWrite .self ..)
  | registerWrite => exact State.Keeps.through .self _ (.doRegisterWrite .self ..)
  | restoreDefaults => exact State.Keeps.through .self _ (.doRestoreDefaults .self ..)
  | imageChunk => exact State.Keeps.through .self _ (.doImageChunk .self ..)
  | applyConfiguration => exact State.Keeps.through .self _ (.doApplyConfiguration .self ..)
  | challenge => exact State.Keeps.through .self _ (.doChallenge .self ..)
  | response => exact State.Keeps.through .self _ (.doResponse .self ..)
  | authenticationLockoutEnd => exact State.Keeps.doAuthenticationLockoutEnd .self ..
  | challengeExpiry => exact State.Keeps.doChallengeExpiry .self ..
  | roleKey => exact State.Keeps.through .self _ (.doRoleKey .self ..)
  | servicePortFrame => exact State.Keeps.doServicePortFrame .self ..
  | serviceChallenge => exact State.Keeps.doServiceChallenge .self ..
  | serviceAuthenticate => exact State.Keeps.doServiceAuthenticate .self ..
  | serviceSessionEnd => exact State.Keeps.doServiceSessionEnd .self ..
  | laneReady => exact State.Keeps.doLaneReady .self ..
  | lockstepToggleStop => exact State.Keeps.doLockstepToggleStop .self ..
  | changeoverLimitPassed => exact State.Keeps.doChangeoverLimitPassed .self ..
  | readNoHolderTimeout => exact State.Keeps.doReadNoHolderTimeout .self ..
  | syncTimeout => exact State.Keeps.doSyncTimeout .self ..
  | sourceLeavesFault => exact State.Keeps.doSourceLeavesFault .self ..
  | inrushWindowEnd => exact State.Keeps.doInrushWindowEnd .self ..
  | canError => exact State.Keeps.doCanError .self ..
  | arbitrationLost => exact State.Keeps.doArbitrationLost .self ..
  | overvoltage => exact State.Keeps.doOvervoltage .self ..
  | hvioAbsent => exact State.Keeps.doHvioAbsent .self ..
  | hvioPresent => exact State.Keeps.doHvioPresent .self ..
  | serviceLinkChange => exact State.Keeps.doServiceLinkChange .self ..
  | marginAlarmRequestDue => exact State.Keeps.doMarginAlarmRequestDue .self ..
  | lampTestEnd => exact State.Keeps.doLampTestEnd .self ..

/-! ### The tick and the step -/

theorem LaneState.Keeps.tick {l₀ l : LaneState} (h : l₀.Keeps l) : l₀.Keeps l.tick := by
  unfold LaneState.tick
  split
  · exact h
  · exact h

/-- The state in which a tick has moved the lanes, the keeper and the clock, and nothing has followed yet. -/
def State.ticked (s : State) : State := { s.updBoth LaneState.tick with keeper := s.keeper.tick, clock := s.clock + 8 }

theorem tick_eq (s : State) : s.tick = s.ticked.compareOutputs.hostLinkQuiet := rfl

theorem ticked_keeps (s : State) : State.Keeps none s.ticked s.tick := State.Keeps.self.compareOutputs.hostLinkQuiet

theorem canon_ticked {s : State} (h : Canon s) : Canon s.ticked := by
  have hboth : State.Keeps none s (s.updBoth LaneState.tick) := State.Keeps.self.updBoth fun _ hl => hl.tick
  exact hboth.1 h

/-- A step on a queue carries out its first command with the rest. -/
theorem step_cons {s : State} {c : Instr} {rest : List Instr} (hp : s.pending = c :: rest) :
    step s = exec c { s with pending := rest } := by
  unfold step
  rw [hp]

theorem step_nil {s : State} (hp : s.pending = []) : step s = .next s.tick := by
  unfold step
  rw [hp]

theorem keeps_of_exec {c : Instr} {s t : State} (h : exec c s = .next t) : State.Keeps (Instr.taker c) s t := by
  have hk := exec_keeps c s
  rw [h] at hk
  exact hk

/-- Settles O56: a command keeps the canonical form by `exec_keeps`, and so does a tick. -/
theorem stepKeepsCanon : Obligations.StepKeepsCanon := by
  intro s t hs ht
  cases hp : s.pending with
  | nil =>
    rw [step_nil hp] at ht
    cases ht
    exact (ticked_keeps s).1 (canon_ticked hs)
  | cons c rest =>
    rw [step_cons hp] at ht
    exact (keeps_of_exec ht).1 hs

/-- Settles O57: a command keeps queue, identity, keys and clock by `exec_keeps`; a tick moves the clock alone of these. -/
theorem stepKeepsIdentity : Obligations.StepKeepsIdentity := by
  intro s t ht
  cases hp : s.pending with
  | nil =>
    rw [step_nil hp] at ht
    cases ht
    obtain ⟨-, -, hpending, huid, hvariant, hkeys, hclock⟩ := ticked_keeps s
    exact ⟨hpending.trans hp, huid, hvariant, hkeys, hclock⟩
  | cons c rest =>
    rw [step_cons hp] at ht
    obtain ⟨-, -, hpending, huid, hvariant, hkeys, hclock⟩ := keeps_of_exec ht
    exact ⟨hpending, huid, hvariant, hkeys, hclock⟩

/-- The commands that may bring lane `x` into possession. -/
theorem taker_eq_some {c : Instr} {x : LaneId} (h : Instr.taker c = some x) : c = .grant x ∨ c = .interlockRecheck x := by
  unfold Instr.taker at h
  split at h
  · cases h
    exact .inl rfl
  · cases h
    exact .inr rfl
  · cases h

/-- Settles O58: `exec_keeps` says of each command which lane it may bring into possession. -/
theorem possessionOnlyByGrant : Obligations.PossessionOnlyByGrant := by
  intro c s t x ht hmode
  obtain ⟨-, ⟨hA, hB⟩, -⟩ := keeps_of_exec ht
  have htaken : Instr.taker c = some x ∨ (s.lane x).mode = .possession := by
    cases x with
    | A => exact hA hmode
    | B => exact hB hmode
  rcases htaken with htaken | hwas
  · exact (or_assoc.mp (.inl (taker_eq_some htaken)))
  · exact .inr (.inr hwas)

end Sys2Proof.Machine

namespace Sys2Proof.Machine

/-! ### The reset state and the tables (R482, R512) -/

/-- A write of several values is read back from where it was written. -/
theorem tabGetAll_tabSetAll {α : Type} [DecidableEq α] {d : Nat → α} (k : Nat) (vs : List α) {t : List (Nat × α)}
    (ht : tabCanon d t = true) : tabGetAll d k vs.length (tabSetAll d k vs t) = vs := by
  induction vs generalizing k t with
  | nil => rfl
  | cons v vs ih =>
    rw [List.length_cons, tabGetAll, tabSetAll, ih (k + 1) (tabCanon_tabSet k v ht),
      tabGet_tabSetAll_outside vs _ (.inl (Nat.lt_succ_self k)), tabGet_tabSet_self k v ht]

/-- Settles O55, from the laws of tables. -/
theorem tablesReadAfterWrite : Obligations.TablesReadAfterWrite :=
  ⟨fun l k v hl => ⟨l.put_get_self k v hl, l.put_canon k v hl, fun _ hj => l.put_get_ne hj v⟩,
    fun s k v hs => ⟨tabGet_tabSet_self k _ hs, tabCanon_tabSet k _ hs, fun _ hj => s.mput_mget_ne hj v⟩,
    fun a d _ ht => ⟨tabCanon_tabSetAll a d ht, tabGetAll_tabSetAll a d ht, fun _ hj => tabGet_tabSetAll_outside d _ hj⟩,
    fun _ _ ht hu h => tab_ext_from ht hu fun k _ => h k⟩

/-- A lane leaves the factory with its log's two counts beside the defaults. -/
theorem reset_get {k : Nat} (x : LaneId) (h₁ : k ≠ 0x150100) (h₂ : k ≠ 0x150200) : State.reset.get x k = regDefault k := by
  have hlane : State.reset.lane x = .reset := by cases x <;> rfl
  simp only [State.get, hlane, LaneState.get, LaneState.reset, tabGet, if_neg (Ne.symm h₁), if_neg (Ne.symm h₂)]

/-- Settles O54: the reset state, part by part. -/
theorem resetState : Obligations.ResetState := by
  refine ⟨by decide, rfl, rfl, rfl, rfl, rfl, rfl, rfl, fun x => ?_, fun x k h₁ h₂ => reset_get x h₁ h₂, fun _ => rfl⟩
  cases x
  · exact ⟨rfl, rfl, rfl⟩
  · exact ⟨rfl, rfl, rfl⟩

/-! ### The frame of a reaction below level 3 (R409, R419) -/

/-- At lane x, the collector, the log without its written slots, and three registers of the recorder and the count of
source n may differ from `s`; nothing else. -/
def ReactionFrame (x : LaneId) (n : Nat) (s t : State) : Prop :=
  ∃ coll log reg, t = s.upd x (fun l => { l with coll := coll, log := log, reg := reg }) ∧
    log.slots = (s.lane x).log.slots ∧
    ∀ k, k ≠ key (0x1410 + n) 3 → k ≠ 0x150300 → k ≠ 0x150301 → k ≠ 0x150C02 → tabGet regDefault k reg = s.get x k

theorem CollectorOnly.reactionFrame {x : LaneId} {s t : State} (h : CollectorOnly x s t) (n : Nat) : ReactionFrame x n s t := by
  obtain ⟨k, rfl⟩ := h
  exact ⟨k, (s.lane x).log, (s.lane x).reg, rfl, rfl, fun _ _ _ _ _ => rfl⟩

theorem ReactionFrame.record {x : LaneId} {n : Nat} {s t : State} (h : ReactionFrame x n s t) (code : Nat) (data : List Byte) :
    ReactionFrame x n s (t.record x code data) := by
  obtain ⟨coll, log, reg, rfl, hslots, hreg⟩ := h
  obtain ⟨log', reg', he, hslots', hreg'⟩ := State.record_frame (s.upd x fun l => { l with coll := coll, log := log, reg := reg }) x code data
  rw [State.upd_lane_self] at hslots'
  refine ⟨coll, log', reg', ?_, hslots'.trans hslots, fun k h₁ h₂ h₃ h₄ => (hreg' k h₂ h₃ h₄).trans ?_⟩
  · rw [he]
    cases x <;> rfl
  · rw [State.get, State.upd_lane_self]
    exact hreg k h₁ h₂ h₃ h₄

theorem ReactionFrame.inc {x : LaneId} {n : Nat} {s t : State} (h : ReactionFrame x n s t) :
    ReactionFrame x n s (t.inc x (key (0x1410 + n) 3)) := by
  obtain ⟨coll, log, reg, rfl, hslots, hreg⟩ := h
  exact ⟨coll, log, (LaneState.inc { s.lane x with coll := coll, log := log, reg := reg } (key (0x1410 + n) 3)).reg,
    by cases x <;> rfl, hslots, fun k h₁ h₂ h₃ h₄ => (LaneState.inc_get_ne _ h₁).trans (hreg k h₁ h₂ h₃ h₄)⟩

/-- The reactions that faults take are those of the sources that entered fault. -/
theorem State.classReaction_source (s : State) (c : CollectorId) (hits : List SourceHit) (cls : Nat) :
    ∀ r ∈ (s.classReaction c hits cls).1, ∃ h ∈ hits, r.source = h.source := by
  unfold State.classReaction
  extract_lets mine cl lv taken
  split
  · nofun
  · split
    · nofun
    · intro r hr
      obtain ⟨hit, hmine, rfl⟩ := List.mem_map.mp hr
      exact ⟨hit, List.mem_of_mem_filter hmine, rfl⟩

theorem State.decideFaults_source (s : State) (c : CollectorId) (hits : List SourceHit) :
    ∀ r ∈ (s.decideFaults c hits).1, ∃ h ∈ hits, r.source = h.source := by
  unfold State.decideFaults
  refine List.foldlRecOn (motive := fun acc : List Taken × State => ∀ r ∈ acc.1, ∃ h ∈ hits, r.source = h.source) _ _ nofun ?_
  rintro ⟨taken, t⟩ htaken cls - r hr
  refine (List.mem_append.mp hr).elim (htaken r) fun hr => ?_
  obtain ⟨hit, hmem, he⟩ := t.classReaction_source c _ cls r hr
  exact ⟨hit, List.mem_of_mem_filter hmem, he⟩

/-- A look at the Toss conditions changes at most whether the Toss runs and whom it asked. -/
theorem State.tossCheck_eq (s : State) :
    ∃ w a, s.tossCheck = { s with keeper := { s.keeper with tossWindow := w, askedA := a } } := ⟨_, _, rfl⟩

/-- What a quiet source takes is recorded and counted, and carried out nowhere. -/
theorem State.raiseLane_frame {s : State} {x : LaneId} {n : Nat} (hq : Quiet s x n) : ∃ coll log reg window asked,
    s.raiseLane x n = { s.upd x (fun l => { l with coll := coll, log := log, reg := reg }) with
      keeper := { s.keeper with tossWindow := window, askedA := asked } } ∧
    log.slots = (s.lane x).log.slots ∧
    (∀ k, k ≠ key (0x1410 + n) 3 → k ≠ 0x150300 → k ≠ 0x150301 → k ≠ 0x150C02 → tabGet regDefault k reg = s.get x k) := by
  unfold State.raiseLane State.raise
  split
  · obtain ⟨hcoll, hlow⟩ := s.decideFaults_lane x [⟨n, false, 0⟩]
    have hsource := s.decideFaults_source (.lane x) [⟨n, false, 0⟩]
    have hquiet : ∀ r ∈ [(⟨n, false, 0⟩ : SourceHit)], Quiet s x r.source := List.forall_mem_singleton.mpr hq
    rw [State.enterFaults, State.react, State.carryOut_of_low (hlow hquiet)]
    obtain ⟨coll, log, reg, he, hslots, hreg⟩ := List.foldlRecOn (motive := ReactionFrame x n s) _ (fun s t => s.recordReaction (.lane x) t)
      (hcoll.reactionFrame n) fun t ht r hr => by
        obtain ⟨hit, hmem, hr⟩ := hsource r hr
        rw [List.mem_singleton.mp hmem] at hr
        simpa only [State.recordReaction, hr] using (ht.record 0x0010 _).inc
    obtain ⟨w, a, htoss⟩ := State.tossCheck_eq (s.upd x fun l => { l with coll := coll, log := log, reg := reg })
    exact ⟨coll, log, reg, w, a, by rw [he, htoss]; cases x <;> rfl, hslots, hreg⟩
  · exact ⟨(s.lane x).coll, (s.lane x).log, (s.lane x).reg, s.keeper.tossWindow, s.keeper.askedA, by cases x <;> rfl, rfl,
      fun _ _ _ _ _ => rfl⟩

/-- Settles O60, by the frame of what a quiet source takes. -/
theorem quietReactionFrame : Obligations.QuietReactionFrame := fun _ _ _ _ hq => State.raiseLane_frame hq

end Sys2Proof.Machine

namespace Sys2Proof.Machine

/-! ### The numbering of a candidate (R169, R170) -/

/-- The places of a list run from its first on. -/
theorem indexed_map_fst {α : Type} (i : Nat) (l : List α) : (indexed i l).map Prod.fst = List.range' i l.length := by
  induction l generalizing i with
  | nil => rfl
  | cons a t ih => simpa [indexed, List.range'] using ih (i + 1)

/-- The vehicles' runs, one after the other, are the list. -/
theorem vehicleRuns_flatten (l : List DirEntry) : (vehicleRuns l).flatten = l := by
  induction l with
  | nil => rfl
  | cons d t ih =>
    rw [vehicleRuns]
    split
    next h =>
      rw [h] at ih
      rw [← ih]
      split <;> simp
    next => simp [ih]

theorem markVehicle_map_pos (v count : Nat) (r : List DirEntry) :
    (markVehicle v count r).map (fun d => d.pos.toNat) = r.map (fun d => d.pos.toNat) := by
  simp [markVehicle, DirEntry.setFlag, DirEntry.setLine]

/-- The marks of the vehicles leave the positions. -/
theorem markRuns_map_pos (i count : Nat) (runs : List (List DirEntry)) :
    ((indexed i runs).map (fun e => markVehicle e.1 count e.2)).flatten.map (fun d => d.pos.toNat)
      = runs.flatten.map (fun d => d.pos.toNat) := by
  induction runs generalizing i with
  | nil => rfl
  | cons r t ih => simp only [indexed, List.map_cons, List.flatten_cons, List.map_append, markVehicle_map_pos, ih (i + 1)]

/-- Entries placed one after the other have consecutive positions. -/
theorem placed_map_pos {i : Nat} {l : List DirEntry} (h : i + l.length ≤ 65536) :
    ((indexed i l).map (fun e => { e.2 with pos := BitVec.ofNat 16 e.1, rejected := 0 })).map (fun d => d.pos.toNat)
      = List.range' i l.length := by
  rw [← indexed_map_fst, List.map_map]
  refine List.map_congr_left fun e he => ?_
  have hfst : e.1 ∈ List.range' i l.length := indexed_map_fst i l ▸ List.mem_map_of_mem he
  rw [List.mem_range'_1] at hfst
  exact (BitVec.toNat_ofNat e.1 16).trans (Nat.mod_eq_of_lt (by omega))

/-- The least of a list and a bound is the bound or of the list, and no number of the list is less. -/
theorem foldl_min_spec (l : List Nat) (a : Nat) :
    (l.foldl min a = a ∨ l.foldl min a ∈ l) ∧ l.foldl min a ≤ a ∧ ∀ b ∈ l, l.foldl min a ≤ b := by
  induction l generalizing a with
  | nil => simp
  | cons c t ih =>
    obtain ⟨hmem, hle, hall⟩ := ih (min a c)
    simp only [List.foldl_cons, List.mem_cons, forall_eq_or_imp]
    refine ⟨?_, by omega, by omega, hall⟩
    rcases hmem with h | h
    · omega
    · exact .inr (.inr h)

/-- Some entry of a list that has any is of the best quality. -/
theorem masterOf_mem {l : List DirEntry} (hl : l ≠ []) : masterOf l ∈ l.map (fun d => d.pos.toNat) := by
  obtain ⟨hmem, hle, hall⟩ := foldl_min_spec (l.map fun d => d.quality.toNat) 255
  have hbest : ∃ d ∈ l, d.quality.toNat = (l.map fun d => d.quality.toNat).foldl min 255 := by
    rcases hmem with h | h
    · obtain ⟨d, hd⟩ := List.exists_mem_of_ne_nil l hl
      have hge := hall _ (List.mem_map_of_mem hd)
      exact ⟨d, hd, by omega⟩
    · exact List.mem_map.mp h
  rw [masterOf]
  cases hf : l.find? _ with
  | none =>
    obtain ⟨d, hd, hq⟩ := hbest
    exact absurd (List.find?_eq_none.mp hf d hd) (by simp [hq])
  | some d => exact List.mem_map_of_mem (List.mem_of_find?_eq_some hf)

theorem withBit_testBit3 : ∀ (flags : Byte) (b : Bool), (BitVec.ofNat 8 (withBit flags.toNat 3 b)).toNat.testBit 3 = b := by
  decide +kernel

/-- The entries of a numbered list before its master is marked. -/
def numbered (uid : Nat) (l : List DirEntry) : List DirEntry :=
  let lead := leadingEnd l
  let faced := (indexed 0 l).map (fun e => lowSide lead.1 (l.findIdx (fun d => d.uid.toNat = uid)) e.1 e.2)
  let cut := (if lead.1 then faced else faced.reverse).take 512
  let runs := vehicleRuns ((indexed 1 cut).map (fun e => { e.2 with pos := BitVec.ofNat 16 e.1, rejected := 0 }))
  ((indexed 1 runs).map (fun e => markVehicle e.1 runs.length e.2)).flatten

theorem numberList_entries (uid : Nat) (single conflict : Bool) (l : List DirEntry) :
    (numberList uid single conflict l).entries =
      (numbered uid l).map (fun d => d.setFlag 3 (decide (d.pos.toNat = masterOf (numbered uid l)))) := rfl

theorem numberList_master (uid : Nat) (single conflict : Bool) (l : List DirEntry) :
    (numberList uid single conflict l).master = masterOf (numbered uid l) := rfl

theorem numbered_map_pos (uid : Nat) (l : List DirEntry) :
    (numbered uid l).map (fun d => d.pos.toNat) = List.range' 1 (min 512 l.length) := by
  unfold numbered
  extract_lets lead faced cut runs
  have hfaced : faced.length = l.length := by
    simpa [faced] using congrArg List.length (indexed_map_fst 0 l)
  have hcut : cut.length = min 512 l.length := by
    rw [List.length_take]
    split <;> simp [hfaced]
  rw [markRuns_map_pos, vehicleRuns_flatten, placed_map_pos (by omega), hcut]

/-- Settles O20: positions are given in order, and the master is one of them. -/
theorem numberingIsConsecutive : Obligations.NumberingIsConsecutive := by
  refine fun uid single conflict l => ⟨?_, fun d hd => ?_, fun hl => ?_⟩
  · rw [numberList_entries, List.map_map, ← numbered_map_pos uid l]
    rfl
  · rw [numberList_entries] at hd
    obtain ⟨e, -, rfl⟩ := List.mem_map.mp hd
    exact withBit_testBit3 e.flags _
  · have hne : numbered uid l ≠ [] := by
      intro h
      have hlen := congrArg List.length (numbered_map_pos uid l)
      rw [h] at hlen
      have := List.length_pos_iff.mpr hl
      simp at hlen
      omega
    have hmem := masterOf_mem hne
    rw [numbered_map_pos, List.mem_range'_1] at hmem
    rw [numberList_master]
    omega

/-! ### A close that was met before (R179) -/

/-- A close of epoch 0 with no members. -/
def emptyClose (members : BitVec 16) : Close :=
  ⟨0, 0, ⟨members, 0, 0, 0, 0, 0, 0, 0⟩, []⟩

/-- A lane that has adopted a close of two members and was offered one of one member. -/
def metCloseState : State :=
  { State.reset with laneA := { LaneState.reset with
      roll := { RollState.reset with adopted := some (emptyClose 2), offered := [emptyClose 1] } } }

/-- A close that was offered before counts no more (R179). -/
theorem metCloseState_count : (metCloseState.offerClose .A (emptyClose 1)).get .A 0x243105 ≠
    (metCloseState.inc .A 0x243105).get .A 0x243105 := by decide +kernel

/-- Refutes O17: a worse close that the lane has met before is not counted again, which the clause on the worse close claims. -/
theorem not_epochAndCloseOrder : ¬ Obligations.EpochAndCloseOrder := by
  rintro ⟨-, -, -, -, hworse, -⟩
  exact metCloseState_count (congrArg (·.get .A 0x243105) (hworse metCloseState .A (emptyClose 1) (emptyClose 2) rfl (by decide)))

end Sys2Proof.Machine

namespace Sys2Proof.Machine

/-! ### The load of a beat (R219 to R222) -/

theorem insertBy_perm {α : Type} (le : α → α → Bool) (a : α) (l : List α) : (insertBy le a l).Perm (a :: l) := by
  induction l with
  | nil => rfl
  | cons b t ih =>
    rw [insertBy]
    split
    · rfl
    · exact (ih.cons b).trans (.swap a b t)

theorem sortBy_perm {α : Type} (le : α → α → Bool) (l : List α) : (sortBy le l).Perm l := by
  induction l with
  | nil => rfl
  | cons a t ih => exact (insertBy_perm le a _).trans (ih.cons a)

/-- The load of a flow in beat i of the hyperperiod. -/
def SFlow.load (f : SFlow) (i : Nat) : Nat :=
  match f.offset with
  | some x => if i % f.period = x then f.cost else 0
  | none => 0

/-- The load of flows in beat i. -/
def loadOf (fs : List SFlow) (i : Nat) : Nat := (fs.map (fun f => f.load i)).sum

/-- The flows of priority 0, and the others. -/
def vitals (fs : List SFlow) : List SFlow := fs.filter (fun f => decide (f.priority = 0))
def others (fs : List SFlow) : List SFlow := fs.filter (fun f => decide (f.priority ≠ 0))

@[simp] theorem loadOf_cons (f : SFlow) (t : List SFlow) (i : Nat) : loadOf (f :: t) i = f.load i + loadOf t i := rfl

theorem loadOf_perm {fs gs : List SFlow} (h : fs.Perm gs) (i : Nat) : loadOf fs i = loadOf gs i := (h.map _).sum_eq

theorem loadOf_unplaced {fs : List SFlow} (h : ∀ f ∈ fs, f.offset = none) (i : Nat) : loadOf fs i = 0 := by
  induction fs with
  | nil => rfl
  | cons f t ih =>
    rw [loadOf_cons, SFlow.load, h f (by simp), ih fun g hg => h g (by simp [hg])]

theorem loadOf_others_cons (f : SFlow) (t : List SFlow) (i : Nat) :
    loadOf (others (f :: t)) i = (if f.priority ≠ 0 then f.load i else 0) + loadOf (others t) i := by
  by_cases h : f.priority = 0 <;> simp [others, h]

/-- What is not vital is the rest of the load. -/
theorem loadOf_split (fs : List SFlow) (i : Nat) : loadOf fs i = loadOf (vitals fs) i + loadOf (others fs) i := by
  induction fs with
  | nil => rfl
  | cons f t ih =>
    by_cases h : f.priority = 0 <;> simp [vitals, others, h] at ih ⊢ <;> omega

/-- The load of n beats as a function of the beat. -/
def loads (n : Nat) (g : Nat → Nat) : Load := (List.range n).map g

theorem indexed_loads (n : Nat) (g : Nat → Nat) : indexed 0 (loads n g) = (List.range n).map (fun i => (i, g i)) := by
  suffices h : ∀ k, indexed k ((List.range' k n).map g) = (List.range' k n).map (fun i => (i, g i)) by
    simpa [loads, List.range_eq_range'] using h 0
  induction n with
  | zero => exact fun _ => rfl
  | succ n ih => exact fun k => by simp [List.range', indexed, ih (k + 1)]

theorem addLoad_loads (P x w n : Nat) (g : Nat → Nat) :
    addLoad P x w (loads n g) = loads n (fun i => if i % P = x then g i + w else g i) := by
  rw [addLoad, indexed_loads, List.map_map]
  rfl

theorem subLoad_loads (P x w n : Nat) (g : Nat → Nat) :
    subLoad P x w (loads n g) = loads n (fun i => if i % P = x then g i - w else g i) := by
  rw [subLoad, indexed_loads, List.map_map]
  rfl

theorem mem_loadsAt_loads {P x n v : Nat} {g : Nat → Nat} :
    v ∈ loadsAt P x (loads n g) ↔ ∃ i, i < n ∧ i % P = x ∧ g i = v := by
  rw [loadsAt, indexed_loads]
  simp [and_assoc]

theorem fits_loads {C x n : Nat} {f : SFlow} {g : Nat → Nat} (h : fits C f x (loads n g) = true) :
    ∀ i, i < n → i % f.period = x → g i + f.cost ≤ C := by
  intro i hi hx
  simpa using List.all_eq_true.mp h (g i) (mem_loadsAt_loads.mpr ⟨i, hi, hx, rfl⟩)

theorem le_foldl_max (l : List Nat) (a : Nat) : a ≤ l.foldl max a ∧ ∀ v ∈ l, v ≤ l.foldl max a := by
  induction l generalizing a with
  | nil => simp
  | cons c t ih =>
    obtain ⟨ha, hall⟩ := ih (max a c)
    simp only [List.foldl_cons, List.mem_cons, forall_eq_or_imp]
    exact ⟨by omega, by omega, hall⟩

theorem le_worstLoad {P x n i : Nat} {g : Nat → Nat} (hi : i < n) (hx : i % P = x) : g i ≤ worstLoad P x (loads n g) :=
  (le_foldl_max _ 0).2 _ (mem_loadsAt_loads.mpr ⟨i, hi, hx, rfl⟩)

/-- After a step, the loads of n beats have changed as the flows' own load has. -/
def Balanced (n : Nat) (g : Nat → Nat) (fs : List SFlow) (r : Load × List SFlow) : Prop :=
  ∃ g', r.1 = loads n g' ∧ ∀ i, g' i + loadOf fs i = g i + loadOf r.2 i

/-- A flow without offset that gets one adds its cost where it stands. -/
theorem Balanced.place {n : Nat} {g : Nat → Nat} {f : SFlow} {t : List SFlow} {r : Load × List SFlow} {x : Nat}
    (hf : f.offset = none) (h : Balanced n (fun i => if i % f.period = x then g i + f.cost else g i) t r) :
    Balanced n g (f :: t) (r.1, { f with offset := some x } :: r.2) := by
  obtain ⟨g', hg', heq⟩ := h
  refine ⟨g', hg', fun i => ?_⟩
  have := heq i
  by_cases hi : i % f.period = x <;> simp [SFlow.load, hf, hi] at this ⊢ <;> omega

/-- A flow that stays as it is leaves the loads. -/
theorem Balanced.keep {n : Nat} {g : Nat → Nat} {f : SFlow} {t : List SFlow} {r : Load × List SFlow}
    (h : Balanced n g t r) : Balanced n g (f :: t) (r.1, f :: r.2) := by
  obtain ⟨g', hg', heq⟩ := h
  refine ⟨g', hg', fun i => ?_⟩
  have := heq i
  simp only [loadOf_cons]
  omega

theorem placeHeld_balanced (C n : Nat) (g : Nat → Nat) (fs : List SFlow) (h : ∀ f ∈ fs, f.offset = none) :
    Balanced n g fs (placeHeld C (loads n g) fs) := by
  induction fs generalizing g with
  | nil => exact ⟨g, rfl, fun _ => rfl⟩
  | cons f t ih =>
    have ht : ∀ k ∈ t, k.offset = none := fun k hk => h k (by simp [hk])
    rw [placeHeld]
    split
    · rw [addLoad_loads]
      exact (ih _ ht).place (h f (by simp))
    · exact (ih _ ht).keep

theorem placeFree_balanced (n : Nat) (g : Nat → Nat) (fs : List SFlow) : Balanced n g fs (placeFree (loads n g) fs) := by
  induction fs generalizing g with
  | nil => exact ⟨g, rfl, fun _ => rfl⟩
  | cons f t ih =>
    rw [placeFree]
    split
    next hf =>
      dsimp only
      rw [addLoad_loads]
      exact (ih _).place (Option.isNone_iff_eq_none.mp (Bool.and_eq_true _ _ ▸ hf).2)
    next => exact (ih _).keep

/-- Shedding takes off what it rejects, and leaves no flow but a vital one in a beat that is loaded beyond the capacity. -/
theorem shed_balanced (C n : Nat) (g : Nat → Nat) (fs : List SFlow) (h : ∀ i, loadOf fs i ≤ g i) :
    ∃ g', (shed C (loads n g) fs).1 = loads n g' ∧ (∀ i, g' i + loadOf fs i = g i + loadOf (shed C (loads n g) fs).2 i) ∧
      (∀ i, g' i ≤ g i) ∧ ∀ i, i < n → loadOf (others (shed C (loads n g) fs).2) i = 0 ∨ g' i ≤ C := by
  induction fs generalizing g with
  | nil => exact ⟨g, rfl, fun _ => rfl, fun _ => le_rfl, fun _ _ => .inl rfl⟩
  | cons f t ih =>
    have ht : ∀ i, loadOf t i ≤ g i := fun i => le_trans (by simp) (h i)
    obtain ⟨gk, hgk, heqk, hlek, hCk⟩ := ih g ht
    have hkeep (i : Nat) : gk i + loadOf (f :: t) i = g i + loadOf (f :: (shed C (loads n g) t).2) i := by
      have := heqk i
      simp only [loadOf_cons]
      omega
    rw [shed]
    split
    next x hx =>
      split
      · have hs : ∀ i, loadOf t i ≤ if i % f.period = x then g i - f.cost else g i := fun i => by
          have := h i
          rw [loadOf_cons, SFlow.load, hx] at this
          by_cases hix : i % f.period = x
          · simp only [hix, if_true] at this ⊢
            omega
          · simpa only [hix, if_false] using ht i
        rw [subLoad_loads]
        obtain ⟨g', hg', heq, hle, hC⟩ := ih _ hs
        refine ⟨g', hg', fun i => ?_, fun i => (hle i).trans (by split <;> omega), fun i hi => ?_⟩
        · have h1 := h i
          have h2 := heq i
          by_cases hix : i % f.period = x
          · simp only [loadOf_cons, SFlow.load, hx, hix, if_true] at h1 h2 ⊢
            omega
          · simp only [loadOf_cons, SFlow.load, hx, hix, if_false] at h2 ⊢
            omega
        · refine (hC i hi).imp_left fun h0 => ?_
          rw [loadOf_others_cons, h0]
          simp [SFlow.load]
      next hstay =>
        refine ⟨gk, hgk, hkeep, hlek, fun i hi => ?_⟩
        rw [loadOf_others_cons]
        by_cases hp : f.priority = 0
        · simpa [hp] using hCk i hi
        · by_cases hix : i % f.period = x
          · exact .inr ((hlek i).trans ((le_worstLoad hi hix).trans (by simpa [hp] using hstay)))
          · simpa [SFlow.load, hx, hix] using hCk i hi
    next hx =>
      refine ⟨gk, hgk, hkeep, hlek, fun i hi => ?_⟩
      rw [loadOf_others_cons]
      simpa [SFlow.load, hx] using hCk i hi

/-- The loads without the vital flows. -/
theorem withoutVital_loads (n : Nat) (g : Nat → Nat) (fs : List SFlow) :
    withoutVital (loads n g) fs = loads n (fun i => g i - loadOf (vitals fs) i) := by
  induction fs generalizing g with
  | nil => rfl
  | cons f t ih =>
    rw [withoutVital, List.foldl_cons, ← withoutVital]
    have hvital : vitals (f :: t) = if f.priority = 0 then f :: vitals t else vitals t := by
      simp [vitals, List.filter_cons]
    rw [hvital]
    split
    next x hx =>
      split
      · rw [subLoad_loads, ih]
        congr 1
        funext i
        simp only [loadOf_cons, SFlow.load, hx]
        split <;> omega
      · exact ih g
    next hx =>
      rw [ih]
      congr 1
      funext i
      split <;> simp [SFlow.load, hx]

/-- A vital flow comes back only where it fits. -/
theorem readmit_within {C n : Nat} (g : Nat → Nat) (fs : List SFlow) (h : ∀ i, i < n → g i ≤ C) :
    ∀ v ∈ (readmit C (loads n g) fs).1, v ≤ C := by
  induction fs generalizing g with
  | nil => simpa [readmit, loads] using h
  | cons f t ih =>
    rw [readmit]
    split
    · split
      · exact ih g h
      · split
        next hfits =>
          rw [addLoad_loads]
          refine ih _ fun i hi => ?_
          split
          · exact fits_loads hfits i hi ‹_›
          · exact h i hi
        next => exact ih g h
    · exact ih g h

theorem trainLimit_unplaced {fs : List SFlow} (h : ∀ f ∈ fs, f.offset = none) : ∀ f ∈ trainLimit fs, f.offset = none := by
  intro f hf
  have horder : ∀ k ∈ sortBy rejectedBefore fs, k.offset = none := fun k hk => h k ((sortBy_perm _ fs).mem_iff.mp hk)
  rcases List.mem_append.mp hf with hf | hf
  · obtain ⟨k, hk, rfl⟩ := List.mem_map.mp hf
    exact horder k (List.mem_of_mem_take hk)
  · exact horder f (List.mem_of_mem_drop hf)

/-- The flows and loads after placing and shedding. -/
def placeAndShed (C n : Nat) (fs : List SFlow) : Load × List SFlow :=
  let held := placeHeld C (List.replicate n 0) fs
  let free := placeFree held.1 held.2
  shed C free.1 (sortBy rejectedBefore free.2)

/-- The flows' own load is in balance with the beats' through every step, and what is not vital fits after shedding. -/
theorem placeAndShed_balanced (C n : Nat) {fs : List SFlow} (h : ∀ f ∈ fs, f.offset = none) :
    ∃ g, (placeAndShed C n fs).1 = loads n g ∧ (∀ i, g i = loadOf (placeAndShed C n fs).2 i) ∧
      ∀ i, i < n → loadOf (others (placeAndShed C n fs).2) i = 0 ∨ g i ≤ C := by
  have hload : (List.replicate n 0 : Load) = loads n (fun _ => 0) := by simp [loads, List.map_const']
  rw [placeAndShed, hload]
  obtain ⟨g2, hg2, heq2⟩ := placeHeld_balanced C n (fun _ => 0) fs h
  obtain ⟨g3, hg3, heq3⟩ := placeFree_balanced n g2 (placeHeld C (loads n fun _ => 0) fs).2
  have h3 (i : Nat) : loadOf (sortBy rejectedBefore (placeFree (loads n g2) (placeHeld C (loads n fun _ => 0) fs).2).2) i = g3 i := by
    rw [loadOf_perm (sortBy_perm _ _)]
    have h2 : g2 i = loadOf (placeHeld C (loads n fun _ => 0) fs).2 i := by simpa only [loadOf_unplaced h, zero_add, add_zero] using heq2 i
    have := heq3 i
    omega
  rw [hg2, hg3]
  obtain ⟨g4, hg4, heq4, -, hC4⟩ := shed_balanced C n g3 _ fun i => (h3 i).le
  refine ⟨g4, hg4, fun i => ?_, hC4⟩
  have := heq4 i
  have := h3 i
  omega

/-- What comes back after shedding keeps within the capacity. -/
theorem readmit_after_shed {C n : Nat} {p : Load × List SFlow} {g : Nat → Nat} (hg : p.1 = loads n g)
    (hload : ∀ i, g i = loadOf p.2 i) (hC : ∀ i, i < n → loadOf (others p.2) i = 0 ∨ g i ≤ C) :
    ∀ v ∈ (readmit C (withoutVital p.1 (sortBy placedBefore p.2)) (sortBy placedBefore p.2)).1, v ≤ C := by
  rw [hg, withoutVital_loads]
  refine readmit_within _ _ fun i hi => ?_
  have hsplit := loadOf_split p.2 i
  have hvital : loadOf (vitals (sortBy placedBefore p.2)) i = loadOf (vitals p.2) i :=
    loadOf_perm ((sortBy_perm placedBefore p.2).filter _) i
  have := hload i
  have := hC i hi
  omega

theorem within_of_not_any {C : Nat} {load : Load} (h : ¬ load.any (fun v => C < v) = true) : ∀ v ∈ load, v ≤ C := by
  simpa using h

/-- The loads of a result are its second part; said of variables, for a result at hand would be evaluated to see it. -/
theorem within_result {C : Nat} {fs : List SFlow} {load : Load} {b : Bool} (h : ∀ v ∈ load, v ≤ C) :
    ∀ v ∈ (fs, load, b).2.1, v ≤ C := h

/-- Settles O22: what is not vital fits after shedding, and a vital flow comes back only where it fits. -/
theorem scheduleWithinCapacity : Obligations.ScheduleWithinCapacity := by
  intro C fs hfs
  have hnone : ∀ f ∈ sortBy placedBefore (trainLimit fs), f.offset = none := fun f hf =>
    trainLimit_unplaced (fun k hk => (hfs k hk).1) f ((sortBy_perm _ _).mem_iff.mp hf)
  obtain ⟨g, hg, hload, hC⟩ := placeAndShed_balanced C (hyperperiod fs) hnone
  simp only [placeAndShed] at hg hload hC
  simp only [computeFlows]
  split
  · exact within_result (readmit_after_shed hg hload hC)
  next hfit => exact within_result (within_of_not_any hfit)

end Sys2Proof.Machine

namespace Sys2Proof.Machine

/-! ### A module at work, from which refutations start -/

/-- A lane that is on, in a condition, with its links and its field side up. -/
def laneAtWork (m : Mode) : LaneState := { LaneState.reset with
  mode := m, selfTest := true
  poss := { Poss.reset with mirrorUp := true, mirrorSeen := true, arbLink := true, lease := decide (m = .possession) }
  log := { Recorder.reset with scanned := true, tagsValid := true }
  field := { FieldState.reset with powered := true, run := true, linkUp := true } }

/-- An awake module: lane A in possession, lane B in standby, a Maintainer at the host link, a Vendor at the service port. -/
def atWork : State := { State.reset with
  keeper := { Keeper.reset with
    phase := .awake, presClosed := true, mated := true, supplyGood := true, charged := true, hvio := true
    tossPending := false, firstInsertion := false, serviceLink := true }
  arb := { Arbiter.reset with running := true, holder := some .A, granted := true, lastHolder := some .A }
  sec := { Security.reset with
    hostRole := some 2, sessions := [{ ServiceSession.reset with role := some 3 }, .reset, .reset, .reset] }
  laneA := laneAtWork .possession
  laneB := laneAtWork .standby }

/-- The acting lane, over the service port. -/
def serviceActing : Acc := ⟨.service 0, .acting⟩

/-! ### A gateway rule that only one lane admits (R331) -/

/-- Lane A has a subscription that rule 0 takes from, and lane B has none. -/
def ruleAtA : State := atWork.put .A 0x300001 2

/-- The rule stays off at lane B, where it is not admitted, and a plain fan-out would set it. -/
theorem ruleAtA_laneB : Reaches ruleAtA serviceActing 2 .A ∧ (ruleAtA.lane .A).ruleOk 0 2 = true ∧
    (doGatewayRuleEnable serviceActing 0 2 ruleAtA).get .B (ruleKey 0 1) = 0 ∧
    ((ruleAtA.fanOut .acting (fun l => l.put (ruleKey 0 1) 2)).answer 0).get .B (ruleKey 0 1) = 2 := by decide +kernel

/-- Refutes O29: a rule that the peer does not take stays off there, and the clause on the enabling sets it in both lanes. -/
theorem not_bitTimingAndPattern : ¬ Obligations.BitTimingAndPattern := by
  rintro ⟨-, -, -, -, -, -, -, -, -, -, -, hrule, -⟩
  obtain ⟨hreaches, hok, hoff, hon⟩ := ruleAtA_laneB
  have hexec := hrule ruleAtA serviceActing .A 0 2 hreaches (by decide) (.inr hok)
  have hnext : doGatewayRuleEnable serviceActing 0 2 ruleAtA =
      (ruleAtA.fanOut .acting (fun l => l.put (ruleKey 0 1) 2)).answer 0 := Host.Outcome.next.inj hexec
  rw [hnext, hon] at hoff
  exact absurd hoff (by decide)

end Sys2Proof.Machine

namespace Sys2Proof.Machine

/-! ### Refutations: defaults that a lane takes as it goes, and the warm-up time -/

/-- A module-level setting was written, and lane B has defaults to take as it goes off or starts anew (R487). -/
def defaultsDue : State := (atWork.mput 0x120200 1).put .B 0x101002 2

/-- The lane put to sleep takes the module's settings back to their defaults (R487). -/
theorem defaultsDue_mreg :
    Reaches defaultsDue serviceActing 1 .A ∧ defaultsDue.peerMaySleep .A = true ∧ (defaultsDue.lane .B).awake = true ∧
    (doPeerLaneSleep serviceActing defaultsDue).mreg ≠ defaultsDue.mreg := by decide +kernel

/-- Refutes O2: a peer with defaults due takes the module's settings back as it is put to sleep. -/
theorem not_lampsHvioAndPeerPower : ¬ Obligations.LampsHvioAndPeerPower := by
  rintro ⟨-, -, -, -, -, -, -, hsleep, -⟩
  obtain ⟨hreach, hmay, hawake, hother⟩ := defaultsDue_mreg
  obtain ⟨t, hexec, -, -, -, -, -, hmreg, -⟩ := hsleep defaultsDue serviceActing .A hreach hmay hawake
  obtain rfl : doPeerLaneSleep serviceActing defaultsDue = t := Host.Outcome.next.inj hexec
  exact hother hmreg

/-- The module of before, as its node goes to sleep. -/
def sleepingDefaults : State := { defaultsDue with keeper := { defaultsDue.keeper with sleeping := some 2 } }

theorem sleepingDefaults_mget :
    keptStandby 0x120200 = true ∧ (doSleepEntry sleepingDefaults).mget 0x120200 ≠ sleepingDefaults.mget 0x120200 := by
  decide +kernel

/-- Refutes O5: a lane with defaults due takes the module's settings back as it falls asleep. -/
theorem not_nodeSleep : ¬ Obligations.NodeSleep := by
  rintro ⟨-, -, -, -, -, -, -, -, hentry, -⟩
  obtain ⟨t, hexec, -, -, -, -, -, -, -, -, -, hkept⟩ := hentry sleepingDefaults 2 rfl rfl rfl
  obtain rfl : doSleepEntry sleepingDefaults = t := Host.Outcome.next.inj hexec
  obtain ⟨hk, hne⟩ := sleepingDefaults_mget
  exact hne (hkept _ hk)

/-- A mated module that charges its hold-up after a warm-up of 8 ns. -/
def warmedUp : State :=
  { State.reset with
    keeper := { Keeper.reset with phase := .charging, supplyGood := true, mated := true, warmNs := 8 } }.mput 0x100800 3

/-- The lanes take the warm-up time over as they boot, and the keeper begins anew (R429, R504). -/
theorem warmedUp_warmNs : Canon warmedUp ∧ warmedUp.mget 0x100800 ≠ 0xFF ∧ (doHoldUpCharged warmedUp).keeper.warmNs = 0 := by decide +kernel

/-- Refutes O3: with the hold-up charged the keeper hands its warm-up time on, and so does not stay. -/
theorem not_supplyAndHoldUp : ¬ Obligations.SupplyAndHoldUp := by
  rintro ⟨-, -, -, -, -, -, -, -, hcharged, -⟩
  obtain ⟨hcanon, hslot, hwarm⟩ := warmedUp_warmNs
  obtain ⟨t, hexec, hkeeper, -⟩ := hcharged warmedUp hcanon rfl rfl rfl hslot
  obtain rfl : doHoldUpCharged warmedUp = t := Host.Outcome.next.inj hexec
  rw [hkeeper] at hwarm
  exact absurd hwarm (by decide)

end Sys2Proof.Machine

namespace Sys2Proof.Machine

/-! ### Refutations: a torn slot at a start, the partner's line rate, and a runt that takes a buffer -/

/-- Lane A at work and lane B booting, with a log whose only slot is bad (R433). -/
def bootsWithBadSlot : State := { atWork with
  laneB := { laneAtWork .standby with mode := .booting, log := { Recorder.reset with slots := [.bad], tagsValid := true } } }

/-- A start that finds nothing wrong of its own. -/
def plainScan : StartScan := { spoiled := [], torn := false, lostValues := [], selfTest := true, badHistory := [] }

/-- The erased slot's event 0066h goes to the front of the queue (R433). -/
theorem bootsWithBadSlot_queue :
    Canon bootsWithBadSlot ∧ (bootsWithBadSlot.lane .B).log.vote.isSome = true ∧ CanRecord (bootsWithBadSlot.lane .B) ∧
    ((doLaneReady .B plainScan bootsWithBadSlot).lane .B).log.queue.length = 2 := by decide +kernel

/-- Refutes O9: the last slot of the log is bad from before, so that the start erases it and queues event 0066h too. -/
theorem not_changeoverResetAndStart : ¬ Obligations.ChangeoverResetAndStart := by
  rintro ⟨-, -, -, -, -, -, -, -, -, -, -, hready⟩
  obtain ⟨hcanon, hvote, hrec, hlen⟩ := bootsWithBadSlot_queue
  obtain ⟨t, hexec, -, -, -, -, -, hqueue, -⟩ := hready bootsWithBadSlot .B plainScan hcanon (.inl rfl) rfl rfl rfl hvote
    rfl rfl rfl (by decide) (by decide) rfl
  obtain rfl : doLaneReady .B plainScan bootsWithBadSlot = t := Host.Outcome.next.inj hexec
  obtain ⟨q, hq, -⟩ := hqueue hrec
  rw [hq] at hlen
  exact absurd hlen (by simp [State.lane, bootsWithBadSlot, Recorder.reset])

/-- Lane A's port at end 1 proposes its rate, and knows no line rate of its partner yet. -/
def proposing : State := atWork.upd .A (fun l =>
  { l with bypassOpen := true, port1 := { l.port1 with step := .proposal, partnerRate := 0xFF, estimate := 0 } })

/-- The partner's proposal: line rate code 3, proposed rate code 0. -/
def partnersProposal : List Byte :=
  let body := [3, 0] ++ toBytes 8 7 ++ [3, 0, 0, 0, 0, 0, 0, 0]
  body ++ toBytes 2 (crc16 body)

/-- The operating rate is that of the block's line rate, 3, and not that of the rate known before, 0. -/
theorem proposing_rate :
    validBlock partnersProposal = true ∧ (proposing.lane .A).ready = true ∧
    numAt partnersProposal 0 1 = (if ((proposing.lane .A).port .e1).master then 4 else 3) ∧
    numAt partnersProposal 15 1 ≤ 3 ∧
    (((doTrainingBlock .A .e1 partnersProposal proposing).lane .A).port .e1).rate ≠
      (operatingRate (proposing.lane .A).lineRate ((proposing.lane .A).port .e1).partnerRate
        (slowerRate ((proposing.lane .A).port .e1).estimate (numAt partnersProposal 15 1))).1 := by decide +kernel

/-- Refutes O11: a proposal brings the partner's line rate too, and the operating rate goes by it. -/
theorem not_insertionAndTraining : ¬ Obligations.InsertionAndTraining := by
  rintro ⟨-, -, -, -, hproposal, -⟩
  obtain ⟨hvalid, hready, htype, hslow, hfaster⟩ := proposing_rate
  obtain ⟨t, hexec, -, hrate, -⟩ := hproposal proposing .A .e1 partnersProposal hvalid hready rfl rfl htype hslow
  obtain rfl : doTrainingBlock .A .e1 partnersProposal proposing = t := Host.Outcome.next.inj hexec
  obtain ⟨hcode, -⟩ := Prod.mk.inj hrate
  exact hfaster hcode

/-- Lane A with its link at end 1 up. -/
def linkUp : State := atWork.upd .A (fun l => { l with bypassOpen := true, port1 := { l.port1 with step := .up } })

/-- A message frame to lane A, shorter than a frame may be, and with a good header. -/
def runtForLaneA : LineFrame :=
  let head := [0x12, 0] ++ toBytes 12 0
  { bytes := toBytes 6 (macAddress linkUp.uid .A) ++ toBytes 6 0 ++ toBytes 2 0x88B5 ++ head ++ toBytes 2 (crc16 head)
    fcs := .good }

/-- The runt's buffer is taken and given back: the lowest count of free buffers goes down (R195). -/
theorem linkUp_freeBuffers :
    ((linkUp.lane .A).port .e1).hears = true ∧ (linkUp.lane .A).ready = true ∧
    linkUp.earlyDrop .A .e1 runtForLaneA 0 = some 3 ∧ lateDrop runtForLaneA = none ∧
    (doFrameDecisionPoint .A .e1 runtForLaneA 0 true linkUp).get .A 0x220700 ≠
      (linkUp.upd .A (fun l => ((l.countReceived .e1 runtForLaneA).countFec .e1 linkUp.clock runtForLaneA.fec).countDrop
        .e1 3)).get .A 0x220700 := by decide +kernel

/-- Refutes O15: a runt with a good header for this node takes a buffer before it is dropped. -/
theorem not_framesOnTheLine : ¬ Obligations.FramesOnTheLine := by
  rintro ⟨hdrop, -⟩
  obtain ⟨hhears, hready, hearly, hlate, hbuffers⟩ := linkUp_freeBuffers
  have hexec := hdrop linkUp .A .e1 runtForLaneA 0 true 3 hhears hready hearly hlate
  exact hbuffers (congrArg (fun s => s.get .A 0x220700) (Host.Outcome.next.inj hexec))

end Sys2Proof.Machine

namespace Sys2Proof.Machine

/-! ### Refutations: the session entries of another lane, a write executed before, and a module reset with defaults due -/

/-- The session entries of lane A describe an operation, and those of lane B none. -/
def describedAtA : State := atWork.put .A (sesKey 112 6) 3

/-- Lane B, over the service port. -/
def serviceLaneB : Acc := ⟨.service 0, .lane .B⟩

/-- The session is of the node: its entries are those of the lane in possession, whichever lane the access names (R230). -/
theorem describedAtA_op :
    Canon describedAtA ∧ Reaches describedAtA serviceLaneB 1 .B ∧ sessionPath 112 serviceLaneB.path = true ∧
    (describedAtA.session 112).isOpen = false ∧
    ((doSessionStart serviceLaneB 112 1 describedAtA).session 112).op ≠ describedAtA.get .B (sesKey 112 6) := by
  decide +kernel

/-- Refutes O46: a start through the selector of the standby lane takes the entries of the lane in possession. -/
theorem not_requesterSessions : ¬ Obligations.RequesterSessions := by
  rintro ⟨hstart, -⟩
  obtain ⟨hcanon, hreach, hpath, hclosed, hother⟩ := describedAtA_op
  obtain ⟨t, hexec, -, -, hop, -⟩ := hstart describedAtA serviceLaneB .B 112 hcanon hreach (by decide) hpath hclosed
  obtain rfl : doSessionStart serviceLaneB 112 1 describedAtA = t := Host.Outcome.next.inj hexec
  exact hother hop

/-- A write of one byte whose segments are all there. -/
def wholeWrite : Transfer where
  uid := 7
  session := 1
  transaction := 3
  write := true
  op := 4
  selection := 0
  object := 0
  length := 1
  data := [0]
  parts := []
  acked := 0
  sinceAck := 0
  srcPos := 0

/-- Lane B holds the write, and a later transaction of its session has its record already. -/
def recordedLater : State := atWork.upd .B (fun l => { l with msg := { l.msg with
  buffers := [wholeWrite], records := [⟨7, 1, 5, 0, 0, false⟩] } })

/-- The write is older than the record, so that it counts as discarded and is not executed (R250). -/
theorem recordedLater_counts :
    (recordedLater.lane .B).ready = true ∧ (recordedLater.lane .B).buffer 7 1 = some wholeWrite ∧
    (doSegmentedWriteExecute .B 7 1 recordedLater).get .B 0x39F003 ≠
      (recordedLater.execute .B wholeWrite wholeWrite.data).get .B 0x39F003 := by decide +kernel

/-- Refutes O48: a whole write is not executed where its session has a record that is not older. -/
theorem not_transfersLocksAndMailbox : ¬ Obligations.TransfersLocksAndMailbox := by
  rintro ⟨-, -, -, -, -, -, hexecutes, -⟩
  obtain ⟨hready, hbuffer, hcounts⟩ := recordedLater_counts
  have hexec := hexecutes recordedLater .B 7 1 wholeWrite hready hbuffer (by decide) rfl rfl
  exact hcounts (congrArg (fun s => s.get .B 0x39F003) (Host.Outcome.next.inj hexec))

/-- The lane that is reset takes the module's settings back to their defaults (R487). -/
theorem defaultsDue_kept :
    Canon defaultsDue ∧ defaultsDue.awake = true ∧ defaultsDue.keeper.hvio = true ∧ defaultsDue.keeper.hrstLow = false ∧
    keptModule 0x120200 = true ∧ (doHrstN defaultsDue).mget 0x120200 ≠ defaultsDue.mget 0x120200 := by decide +kernel

/-- Refutes O51: HRST_N at a module with defaults due takes a persistent module-level setting back to its default. -/
theorem not_remoteWindowsAndModuleReset : ¬ Obligations.RemoteWindowsAndModuleReset := by
  rintro ⟨-, -, -, -, -, -, -, -, -, -, -, -, -, hreset, -⟩
  obtain ⟨hcanon, hawake, hhvio, hlow, hk, hne⟩ := defaultsDue_kept
  obtain ⟨t, hexec, -, -, -, -, -, -, -, -, -, -, hkept⟩ := hreset defaultsDue hcanon hawake hhvio hlow
  obtain rfl : doHrstN defaultsDue = t := Host.Outcome.next.inj hexec
  exact hne (hkept _ hk)

end Sys2Proof.Machine

namespace Sys2Proof.Machine

/-! ### Answering for a command: what it leads to, and where an access takes effect -/

theorem exec_next {c : Instr} {s u t : State} (hexec : exec c s = .next u) (h : u = t) : exec c s = .next t := h ▸ hexec

theorem Leads.of_eq {c : Instr} {s u t : State} {P : State → Prop} (hexec : exec c s = .next u) (h : u = t) (hp : P t) :
    Leads c s P := ⟨t, exec_next hexec h, hp⟩

/-- An access over the host link takes effect where the link takes inputs (R19). -/
theorem State.through_of_on {s : State} {a : Acc} (h : a.path = .host → s.hostOn = true) (t : State) : s.through a t = t := by
  obtain ⟨p, sel⟩ := a
  cases p <;> simp_all [State.through]

/-! ### Host authentication (O45) -/

theorem State.newChallenge_opens {s : State} (h : s.sec.hostLocked = false) : ∃ n, s.newChallenge = { s with
    fresh := s.fresh + 1, sec := { s.sec with challenge := some n }, ans := ⟨0, 16, toBytes 16 n⟩ } := by
  refine ⟨(s.free 128).1, ?_⟩
  simp [State.newChallenge, h, State.free, State.updSec, State.answerBytes]

theorem doResponse_checks {s : State} {sel : Sel} {d : List Byte} (haw : s.awake = true) (hrole : 1 ≤ s.role .host)
    (hlen : d.length = 33) : doResponse ⟨.host, sel⟩ d s = s.checkProof d := by
  simp [doResponse, haw, hlen, Nat.not_lt.mpr hrole]

theorem State.authFailed_host (s : State) : s.authFailed false =
    let fails := s.clock :: recentFails s.clock s.sec.hostFails
    { s.minc 0x160200 with
      sec := { s.sec with hostFails := if 5 ≤ fails.length then [] else fails
                          hostLocked := s.sec.hostLocked || decide (5 ≤ fails.length) }
      ans := ⟨abAuth, 0, []⟩ } := by
  simp [State.authFailed, State.updSec, State.abort]

theorem State.checkProof_of_key {s : State} {d k : List Byte} {n : Nat} (hl : s.sec.hostLocked = false)
    (hc : s.sec.challenge = some n) (hk : s.sec.keyFor false (numAt d 0 1) = some k) : s.checkProof d =
      let used := s.updSec (fun c => { c with challenge := none })
      if (hmac128 k (proofText (toBytes 16 n) (slice d 1 16) s.uid (numAt d 0 1))).toNat = numAt d 17 16 then
        used.openHostSession k (toBytes 16 n) (slice d 1 16) (numAt d 0 1)
      else used.authFailed false := by
  have hkey : (s.updSec (fun c => { c with challenge := none })).sec.keyFor false (numAt d 0 1) = some k := hk
  simp only [State.checkProof, hl, hc, hkey, Bool.false_eq_true, if_false]
  rfl

theorem Security.keyFor_host_none (k : Security) {r : Nat} (h : 3 ≤ r) : k.keyFor false r = none := by
  simp only [Security.keyFor]
  rw [if_pos (by simp only [and_true]; omega)]

/-- Settles O45, clause by clause over the proof's check and the failed authentication. -/
theorem hostAuthentication : Obligations.HostAuthentication := by
  refine ⟨?_, ?_, ?_, ?_, ?_, ?_, ?_, fun k r => k.keyFor_host_none, fun _ => rfl, fun _ _ => rfl, fun _ => rfl,
    fun _ _ => rfl, ?_, ?_, ?_, fun _ => rfl⟩
  · intro s sel hon haw hl
    obtain ⟨n, hn⟩ := State.newChallenge_opens hl
    refine Leads.of_eq rfl (State.through_of_on (fun _ => hon) _) ⟨n, ?_⟩
    simp [doChallenge, haw, hn]
  · intro s sel hon haw hl
    refine exec_next rfl ((State.through_of_on (fun _ => hon) _).trans ?_)
    simp [doChallenge, haw, State.newChallenge, hl]
    rfl
  · intro s sel d k n hon haw hl hrole hlen hc hk hproof
    refine Leads.of_eq rfl ((State.through_of_on (fun _ => hon) _).trans ((doResponse_checks haw hrole hlen).trans
      (State.checkProof_of_key hl hc hk))) ?_
    simp only [hproof, if_true]
    exact ⟨rfl, rfl, rfl, rfl, rfl, rfl⟩
  · intro s sel d k n hcanon hon haw hl hrole hlen hc hk hcount hproof
    refine Leads.of_eq rfl ((State.through_of_on (fun _ => hon) _).trans ((doResponse_checks haw hrole hlen).trans
      (State.checkProof_of_key hl hc hk))) ?_
    simp only [hproof, if_false, State.authFailed_host]
    refine ⟨rfl, rfl, rfl, State.minc_mget_self hcanon _ ?_, ?_, ?_⟩
    · exact lt_of_lt_of_le (Nat.succ_lt_succ hcount) (by decide)
    · intro h
      simp [State.updSec, List.length_cons]
      exact .inr h
    · intro h
      simp [State.updSec, hl]
      exact h
  · intro s sel d hon haw hrole hlen hl
    refine exec_next rfl ((State.through_of_on (fun _ => hon) _).trans ((doResponse_checks haw hrole hlen).trans ?_))
    simp only [State.checkProof, hl, if_true]
    rfl
  · intro s sel d hon haw hrole hlen
    refine exec_next rfl ((State.through_of_on (fun _ => hon) _).trans ?_)
    simp [doResponse, haw, hlen, Nat.not_lt.mpr hrole]
    rfl
  · intro s sel d hon haw hrole
    refine exec_next rfl ((State.through_of_on (fun _ => hon) _).trans ?_)
    simp [doResponse, haw, hrole]
    rfl
  · intro s a n k ⟨haw, hrole, hon⟩ hlen
    refine Leads.of_eq rfl (State.through_of_on hon _) ?_
    have hmax : ¬ 16 < k.length := by rcases hlen with h | h <;> simp [h]
    have hkey : ¬ (k.length ≠ 0 ∧ k.length ≠ 16) := by rcases hlen with h | h <;> simp [h]
    simp only [doRoleKey, haw, Nat.not_lt.mpr hrole, hmax, hkey, if_false, Bool.not_true, Bool.false_eq_true]
    exact ⟨rfl, rfl, rfl, rfl⟩
  · intro s a n k haw hrole hon
    refine exec_next rfl ((State.through_of_on hon _).trans ?_)
    simp [doRoleKey, haw, Nat.lt_succ_of_le hrole]
    rfl
  · intro s a h
    exact exec_next rfl ((State.through_of_on h.2.2 _).trans (State.moduleCommand_runs h rfl rfl))

end Sys2Proof.Machine

namespace Sys2Proof.Machine

/-! ### Requests of the host link (O49) -/

/-- The state in which a request that the host link takes is judged: counted, and with no answer driven (R345). -/
def State.requested (s : State) : State := { s with host := { s.host with answering := false } }.minc 0x59000A

theorem State.minc_winKey (s : State) (w : Nat) {j : Nat} (h : j < 10) : (s.minc 0x59000A).mget (winKey w j) = s.mget (winKey w j) :=
  State.mput_mget_ne s (by simp only [winKey, key]; omega) _

theorem State.requested_region (s : State) (a : Nat) : s.requested.region a = s.region a := by
  simp only [State.region, State.requested, State.minc_winKey _ _ (show 6 < 10 by decide)]
  rfl

theorem State.requested_frameOk (s : State) (r : HostReq) (check : Nat) : s.requested.frameOk r check = s.frameOk r check := by
  have hdict (w : Nat) : s.requested.dictWindow w = s.dictWindow w := by
    simp only [State.dictWindow, State.requested, State.minc_winKey _ _ (show 6 < 10 by decide)]
    rfl
  have hslot (g : Region) : s.requested.oneSlot r g = s.oneSlot r g := by
    cases g <;> simp only [State.oneSlot, hdict]
  have hadmits (g : Region) : s.requested.admits r g = s.admits r g := by
    cases g <;> simp only [State.admits, hdict]
  simp only [State.frameOk, State.requested_region, hslot, hadmits]

theorem State.requested_wordsInside (s : State) (r : HostReq) : s.requested.wordsInside r = s.wordsInside r := by
  simp only [State.wordsInside, State.requested_region]

theorem State.request_ok {s : State} {r : HostReq} {check : Nat} (hon : s.hostOn = true) (hheld : s.host.held = none)
    (hok : s.frameOk r check = true) : s.request r check = s.requested.accept r := by
  have hruns : s.request r check = if s.requested.frameOk r check then s.requested.accept r else s.requested.rejectFrame :=
    if_neg (by simp [hon, hheld])
  rw [hruns, s.requested_frameOk, if_pos hok]

theorem State.request_bad {s : State} {r : HostReq} {check : Nat} (hon : s.hostOn = true) (hheld : s.host.held = none)
    (hok : s.frameOk r check = false) : s.request r check = s.requested.rejectFrame := by
  have hruns : s.request r check = if s.requested.frameOk r check then s.requested.accept r else s.requested.rejectFrame :=
    if_neg (by simp [hon, hheld])
  rw [hruns, s.requested_frameOk, hok]
  rfl

/-- A window's address is on the window's own path (R345). -/
theorem State.region_not_window {s : State} {a w b e : Nat} (h : pathOf a = 16) : s.region a ≠ some (.window w, b, e) := by
  simp only [pathOf] at h
  split at h
  · omega
  · rename_i hout
    simp only [State.region]
    split_ifs <;> simp_all

theorem State.accept_local {s : State} {r : HostReq} (h8 : r.op ≠ 8) (hpath : pathOf r.addr = 16) (hreg : s.region r.addr ≠ none) :
    s.accept r =
      if (s.region r.addr).map Prod.fst = some .timebase ∧ r.isPosted then s.turnAway r abReadOnly
      else if r.isPosted && s.postRoom r then s.post r
      else { s with host := { s.host with held := some r } } := by
  obtain ⟨⟨g, b, e⟩, hg⟩ := Option.ne_none_iff_exists'.mp hreg
  have hwin : ∀ w, g ≠ .window w := fun w hw => State.region_not_window hpath (hw ▸ hg)
  have hcount : s.countWindow r = s := by simp [State.countWindow, hpath]
  cases g with
  | window w => exact absurd rfl (hwin w)
  | _ => simp [State.accept, h8, hg, hcount]

theorem State.requested_region_ne {s : State} {a : Nat} (h : s.region a ≠ none) : s.requested.region a ≠ none := by
  rwa [State.requested_region]

/-- An access of the local path that no post ends is held, with no answer driven (R350). -/
theorem State.request_held {s : State} {r : HostReq} {check : Nat} (hon : s.hostOn = true) (hheld : s.host.held = none)
    (hok : s.frameOk r check = true) (h8 : r.op ≠ 8) (hpost : r.isPosted = false) (hpath : pathOf r.addr = 16)
    (hreg : s.region r.addr ≠ none) : s.request r check =
      { s.minc 0x59000A with host := { s.host with held := some r, answering := false } } := by
  rw [State.request_ok hon hheld hok, State.accept_local h8 hpath (State.requested_region_ne hreg)]
  simp only [hpost, Bool.false_and, Bool.false_eq_true, and_false, if_false]
  rfl

theorem State.respond_on {s : State} (h : s.keeper.hvio = true) (status words : Nat) (data : List Nat) (code : Nat) :
    s.respond status words data code = { s with host := { s.host with
      held := none, answering := true, resp := some ⟨status, words, data, code⟩ } } := by
  simp [State.respond, h]

theorem State.hvio_of_hostOn {s : State} (h : s.hostOn = true) : s.keeper.hvio = true ∧ s.awake = true := by
  simp only [State.hostOn, Bool.and_eq_true] at h
  exact ⟨h.1.1.2, h.1.1.1⟩

/-- A write that is posted whole is answered with the number of its words (R353). -/
theorem State.request_posted {s : State} {r : HostReq} {check : Nat} (hon : s.hostOn = true) (hheld : s.host.held = none)
    (hok : s.frameOk r check = true) (hpost : r.isPosted = true) (hpath : pathOf r.addr = 16)
    (hreg : (s.region r.addr).map Prod.fst ≠ some .timebase) (hroom : s.postRoom r = true)
    (hin : s.wordsInside r = r.words) (hdata : r.op ≠ 4 → r.data.length = r.count + 1) :
    s.request r check = { s.minc 0x59000A with host := { s.host with
      posted := s.host.posted ++ [(16, r)], held := none, answering := true
      resp := some ⟨0, r.words, [], 0⟩ } } := by
  have hop : r.op = 2 ∨ r.op = 4 := by simpa [HostReq.isPosted] using hpost
  have hregion : s.region r.addr ≠ none := by
    intro hnone
    simp only [State.wordsInside, hnone, HostReq.words] at hin
    split at hin <;> omega
  have hwords : s.requested.wordsInside r = r.words := (s.requested_wordsInside r).trans hin
  have hsame : (if r.op = 4 then r else { r with count := r.words - 1, data := r.data.take r.words }) = r := by
    rcases hop with h | h
    · have hlen := hdata (by omega)
      obtain ⟨op, addr, count, data⟩ := r
      have htake : data.take (count + 1) = data := List.take_of_length_le hlen.le
      simp only at h
      simp [HostReq.words, h, htake]
    · rw [if_pos h]
  have hroom' : s.requested.postRoom r = true := hroom
  rw [State.request_ok hon hheld hok,
    State.accept_local (by omega) hpath (State.requested_region_ne hregion), if_neg
      (by rw [State.requested_region]; exact fun h => hreg h.1), if_pos (by simp [hpost, hroom'])]
  simp only [State.post, hwords, hsame, le_refl, if_true, hpath]
  refine (State.respond_on ?_ 0 r.words [] 0).trans rfl
  exact (State.hvio_of_hostOn hon).1

/-- What a rejected frame leaves of the times of the frames rejected before (R348). -/
theorem State.rejectFrame_eq {s : State} (h : s.keeper.hvio = true) : s.requested.rejectFrame =
    let recent := (s.clock :: s.host.rejects.filter (fun t => decide (s.clock < t + 1000000000))).take 16
    let u := { (s.minc 0x59000A).minc 0x59000B with host := { s.host with
      held := none, answering := true, resp := some ⟨2, 0, [], 0⟩, rejects := recent } }
    if recent.length = 16 then u.raise .module 134 else u := by
  simp only [State.rejectFrame, State.respond_on (s := s.requested.minc 0x59000B) h]
  rfl

end Sys2Proof.Machine

namespace Sys2Proof.Machine

/-! ### Bits of a register's value -/

/-- Numbers that share no bit add up to their union. -/
theorem Nat_add_eq_or {a b : Nat} (h : a &&& b = 0) : a + b = a ||| b := by
  have ha : a < 2 ^ (a + b) := lt_of_lt_of_le (Nat.lt_two_pow_self) (Nat.pow_le_pow_right (by decide) (Nat.le_add_right _ _))
  have hb : b < 2 ^ (a + b) := lt_of_lt_of_le (Nat.lt_two_pow_self) (Nat.pow_le_pow_right (by decide) (Nat.le_add_left _ _))
  have hsum := BitVec.add_eq_or_of_and_eq_zero (BitVec.ofNat (a + b) a) (BitVec.ofNat (a + b) b)
    (by rw [← BitVec.ofNat_and, h])
  have hnat := congrArg BitVec.toNat hsum
  rwa [BitVec.toNat_add, BitVec.toNat_or, BitVec.toNat_ofNat, BitVec.toNat_ofNat, Nat.mod_eq_of_lt ha, Nat.mod_eq_of_lt hb,
    Nat.mod_eq_of_lt Nat.lt_two_pow_self] at hnat

theorem testBit_add_of_disjoint {a b : Nat} (h : a &&& b = 0) (j : Nat) : (a + b).testBit j = (a.testBit j || b.testBit j) := by
  rw [Nat_add_eq_or h, Nat.testBit_or]

/-- Taking away a mask of bits that a number has clears those bits. -/
theorem testBit_sub_of_mask {n a : Nat} (h : n &&& a = a) (j : Nat) : (n - a).testBit j = (n.testBit j && !a.testBit j) := by
  have hbit (j : Nat) : (n.testBit j && a.testBit j) = a.testBit j := by rw [← Nat.testBit_and, h]
  have hdisjoint : (n ^^^ a) &&& a = 0 := Nat.eq_of_testBit_eq fun j => by
    have hj := hbit j
    rw [Nat.testBit_and, Nat.testBit_xor, Nat.zero_testBit]
    revert hj
    generalize n.testBit j = p, a.testBit j = q
    revert p q
    decide
  have hsum : (n ^^^ a) + a = n := by
    rw [Nat_add_eq_or hdisjoint]
    refine Nat.eq_of_testBit_eq fun j => ?_
    have hj := hbit j
    rw [Nat.testBit_or, Nat.testBit_xor]
    revert hj
    generalize n.testBit j = p, a.testBit j = q
    revert p q
    decide
  have hsub : n - a = n ^^^ a := by omega
  have hj := hbit j
  rw [hsub, Nat.testBit_xor]
  revert hj
  generalize n.testBit j = p, a.testBit j = q
  revert p q
  decide

theorem testBit_clearMask (n m j : Nat) : (clearMask n m).testBit j = (n.testBit j && !m.testBit j) := by
  rw [clearMask, testBit_sub_of_mask (by rw [← Nat.and_assoc, Nat.and_self]), Nat.testBit_and]
  cases n.testBit j <;> simp

theorem testBit_withBit (n i j : Nat) (b : Bool) : (withBit n i b).testBit j = if j = i then b else n.testBit j := by
  have hpow (j : Nat) : (2 ^ i).testBit j = decide (i = j) := Nat.testBit_two_pow
  unfold withBit
  split
  · next h => split <;> simp_all
  · next h =>
    split
    · next hb =>
      rw [testBit_add_of_disjoint (Nat.eq_of_testBit_eq fun k => by
        rw [Nat.testBit_and, hpow, Nat.zero_testBit]
        by_cases hk : i = k <;> simp_all), hpow]
      exact if hj : j = i then by simp [hj, hb] else by simp [hj, Ne.symm hj]
    · next hb =>
      rw [testBit_sub_of_mask (Nat.eq_of_testBit_eq fun k => by
        rw [Nat.testBit_and, hpow]
        by_cases hk : i = k <;> simp_all), hpow]
      exact if hj : j = i then by simp [hj, hb] else by simp [hj, Ne.symm hj]

@[simp] theorem testBit_withBit_self (n i : Nat) (b : Bool) : (withBit n i b).testBit i = b := by simp [testBit_withBit]

theorem testBit_withBit_ne {i j : Nat} (h : j ≠ i) (n : Nat) (b : Bool) : (withBit n i b).testBit j = n.testBit j := by
  simp [testBit_withBit, h]

theorem withBit_lt {n i w : Nat} (hn : n < 2 ^ w) (hi : i < w) (b : Bool) : withBit n i b < 2 ^ w := by
  refine Nat.lt_pow_two_of_testBit _ fun j hj => ?_
  rw [testBit_withBit_ne (by omega)]
  exact Nat.testBit_lt_two_pow (lt_of_lt_of_le hn (Nat.pow_le_pow_right (by decide) hj))

end Sys2Proof.Machine

namespace Sys2Proof.Machine

/-! ### A fault of one source: what it enters, and the reaction of its class (R406 to R410) -/

/-- A fold of which one element alone changes anything is that one step. -/
theorem foldl_single {α β : Type} {f : α → β → α} {k : β} {L : List β} (hn : L.Nodup) (hk : k ∈ L)
    (h : ∀ c ∈ L, c ≠ k → ∀ a, f a c = a) (a : α) : L.foldl f a = f a k := by
  induction L generalizing a with
  | nil => exact absurd hk List.not_mem_nil
  | cons c L ih =>
    obtain ⟨hc, hL⟩ := List.nodup_cons.mp hn
    by_cases hck : c = k
    · subst hck
      refine List.foldlRecOn (motive := (· = f a c)) L f rfl fun b hb e he => ?_
      rw [h e (List.mem_cons_of_mem _ he) (fun hec => hc (hec ▸ he))]
      exact hb
    · rw [List.foldl_cons, h c List.mem_cons_self hck]
      exact ih hL ((List.mem_cons.mp hk).resolve_left (Ne.symm hck)) (fun e he => h e (List.mem_cons_of_mem _ he)) a

theorem sourceClass_lt (n : Nat) : sourceClass n < 13 := by
  unfold sourceClass
  cases h : sourceRow n with
  | none => decide
  | some r =>
    have hall : ∀ r ∈ sources, r.cls < 13 := by decide
    exact hall r (List.mem_of_find?_eq_some h)

/-- The collector of a source that enters fault (R406). -/
def Collector.enter (k : Collector) (b : Nat) (invalid : Bool) : Collector :=
  { k with
    inFault := withBit k.inFault b true
    invalid := withBit k.invalid b invalid
    sticky := withBit k.sticky b true
    path := if invalid then withBit k.path b true else k.path }

/-- The state in which the class of a source that enters fault reacts; the arbiter's own source stops the arbiter. -/
def State.entered (s : State) (c : CollectorId) (n : Nat) (invalid : Bool) : State :=
  let t := s.updColl c (fun k => k.enter (sourceBit c n) invalid)
  if c = .module ∧ n = 132 then { t with arb := { t.arb with running := false, waiting := false } } else t

theorem State.updColl_id (s : State) (c : CollectorId) : s.updColl c (fun k => k) = s := by
  cases c with
  | lane x => cases x <;> rfl
  | module => rfl

theorem State.classReaction_other {s : State} {c : CollectorId} {n d : Nat} {i : Bool} {cls : Nat} (h : sourceClass n ≠ cls) :
    s.classReaction c [⟨n, i, d⟩] cls = ([], s) := by
  simp [State.classReaction, h]

theorem State.classReaction_nil (s : State) (c : CollectorId) (cls : Nat) : s.classReaction c [] cls = ([], s) := rfl

/-- A source that enters fault is judged in its class alone. -/
theorem State.decideFaults_new {s : State} {c : CollectorId} {n d : Nat} {i : Bool} (hin : sourceIn c n = true)
    (hnew : (s.collector c).inFault.testBit (sourceBit c n) = false) :
    s.decideFaults c [⟨n, i, d⟩] = (s.entered c n i).classReaction c [⟨n, i, d⟩] (sourceClass n) := by
  simp only [State.decideFaults, List.filter_cons, List.filter_nil, hin, hnew, Bool.and_false, Bool.and_true, Bool.not_false,
    Bool.false_eq_true, if_false, if_true, List.foldl_nil, List.foldl_cons, List.any_cons, List.any_nil, Bool.or_false,
    decide_eq_true_eq, State.updColl_id]
  refine (foldl_single (k := sourceClass n) List.nodup_range (List.mem_range.mpr (sourceClass_lt n)) ?_ _).trans ?_
  · intro cls _ hne acc
    rw [State.classReaction_other (Ne.symm hne), List.append_nil]
  · simp only [List.nil_append, State.entered, Collector.enter, Prod.mk.eta]

/-- A source in fault does not react again. -/
theorem State.decideFaults_old {s : State} {c : CollectorId} {n d : Nat}
    (h : (s.collector c).inFault.testBit (sourceBit c n) = true) : s.decideFaults c [⟨n, false, d⟩] = ([], s) := by
  simp [State.decideFaults, h, State.updColl_id, State.classReaction_nil]

theorem State.updColl_collector (s : State) (c : CollectorId) (f : Collector → Collector) :
    (s.updColl c f).collector c = f (s.collector c) := by
  cases c with
  | lane x => cases x <;> rfl
  | module => rfl

theorem State.updColl_sourceLevel (s : State) (c : CollectorId) (f : Collector → Collector) (n : Nat) :
    (s.updColl c f).sourceLevel c n = s.sourceLevel c n := by
  cases c with
  | lane x => cases x <;> rfl
  | module => rfl

theorem State.updColl_sourceCeiling (s : State) (c : CollectorId) (f : Collector → Collector) (n : Nat) :
    (s.updColl c f).sourceCeiling c n = s.sourceCeiling c n := by
  cases c with
  | lane x => cases x <;> rfl
  | module => rfl

theorem State.entered_lane (s : State) (x : LaneId) (n : Nat) (i : Bool) :
    s.entered (.lane x) n i = s.updColl (.lane x) (fun k => k.enter n i) := rfl

theorem State.entered_collector (s : State) (c : CollectorId) (n : Nat) (i : Bool) :
    (s.entered c n i).collector c = (s.collector c).enter (sourceBit c n) i := by
  unfold State.entered
  dsimp only
  split
  · rename_i h
    obtain ⟨rfl, -⟩ := h
    rfl
  · exact s.updColl_collector c _

theorem State.entered_sourceLevel (s : State) (c : CollectorId) (n m : Nat) (i : Bool) :
    (s.entered c n i).sourceLevel c m = s.sourceLevel c m := by
  unfold State.entered
  dsimp only
  split
  · rename_i h
    obtain ⟨rfl, -⟩ := h
    rfl
  · exact s.updColl_sourceLevel c _ m

theorem decideLevel_zero (own ceil : Nat) : decideLevel 0 own ceil = own := rfl

/-- In a class without unacknowledged reactions a source reacts at its own level (R409). -/
theorem State.classReaction_fresh {s : State} {c : CollectorId} {n d : Nat} {i : Bool}
    (h0 : (s.collector c).classLevel (sourceClass n) = 0) (h1 : 1 ≤ s.sourceLevel c n) :
    s.classReaction c [⟨n, i, d⟩] (sourceClass n) =
      ([⟨n, s.sourceLevel c n, s.sourceLevel c n, i, false, d⟩],
        s.updColl c (fun k => (k.raiseClass (sourceClass n) (s.sourceLevel c n)).leave (sourceClass n) (s.sourceLevel c n))) := by
  simp [State.classReaction, h0, decideLevel_zero, h1]

/-- The reaction of a class leaves the sources as they are. -/
theorem State.classReaction_inFault (s : State) (c : CollectorId) (hits : List SourceHit) (cls : Nat) :
    ((s.classReaction c hits cls).2.collector c).inFault = (s.collector c).inFault := by
  unfold State.classReaction
  extract_lets mine cl lv taken reacted
  split
  · rfl
  · split
    · dsimp only
      rw [State.updColl_collector]
    · change ((if 1 ≤ lv then _ else s : State).collector c).inFault = _
      split
      · rw [State.updColl_collector]
        rfl
      · rfl

/-- Of one hit alone the sources in fault are those of before and, where the collector has it, its own. -/
theorem State.decideFaults_inFault {s : State} {c : CollectorId} {n d : Nat} (hin : sourceIn c n = true) :
    ((s.decideFaults c [⟨n, false, d⟩]).2.collector c).inFault = withBit (s.collector c).inFault (sourceBit c n) true := by
  cases h : (s.collector c).inFault.testBit (sourceBit c n) with
  | true => rw [State.decideFaults_old h]; exact (if_pos h).symm
  | false =>
    rw [State.decideFaults_new hin h, State.classReaction_inFault, State.entered_collector]
    rfl

theorem State.recordReaction_coll (s : State) (x : LaneId) (r : Taken) :
    ((s.recordReaction (.lane x) r).lane x).coll = (s.lane x).coll := by
  obtain ⟨log, reg, he, -⟩ := s.record_frame x 0x0010 (reactionData r false (s.lane x).time64)
  simp only [State.recordReaction, State.inc, he, State.upd_lane_self, LaneState.inc_coll]

theorem State.tossCheck_lane (s : State) (x : LaneId) : s.tossCheck.lane x = s.lane x := by cases x <;> rfl

/-- A reaction below level 3 leaves the collector as the faults decided it. -/
theorem State.react_low_coll {s : State} {x : LaneId} {taken : List Taken} (h : ∀ r ∈ taken, r.level ≤ 2) :
    ((s.react (.lane x) taken).lane x).coll = (s.lane x).coll := by
  rw [State.react, State.carryOut_of_low h, State.tossCheck_lane]
  exact List.foldlRecOn (motive := fun t : State => (t.lane x).coll = (s.lane x).coll) _ _ rfl
    fun t ht r _ => (t.recordReaction_coll x r).trans ht

/-- A quiet source that a collector takes is in fault, beside those that were. -/
theorem State.raiseLane_inFault {s : State} {x : LaneId} {n : Nat} (hq : Quiet s x n) (hc : s.collects (.lane x) = true)
    (hin : sourceIn (.lane x) n = true) :
    ((s.raiseLane x n).lane x).coll.inFault = withBit (s.lane x).coll.inFault n true := by
  have hlow := (s.decideFaults_lane x [⟨n, false, 0⟩]).2 (List.forall_mem_singleton.mpr hq)
  rw [State.raiseLane, State.raise, if_pos hc, State.enterFaults, State.react_low_coll hlow]
  exact State.decideFaults_inFault (c := .lane x) hin

/-- A source of the module whose reaction stays below level 3. -/
def QuietModule (s : State) (n : Nat) : Prop := s.sourceLevel .module n ≤ 2 ∧ s.sourceCeiling .module n ≤ 2

/-- The host link's state is no part of what a class decides. -/
theorem State.classReaction_host (s : State) (c : CollectorId) (hits : List SourceHit) (cls : Nat) :
    (s.classReaction c hits cls).2.host = s.host := by
  have hupd (f : Collector → Collector) : (s.updColl c f).host = s.host := by
    cases c with
    | lane x => exact s.upd_host x _
    | module => rfl
  unfold State.classReaction
  extract_lets mine cl lv taken reacted
  split
  · rfl
  · split
    · dsimp only
      exact hupd _
    · change (if 1 ≤ lv then _ else s : State).host = _
      split
      · exact hupd _
      · rfl

theorem State.entered_host (s : State) (n : Nat) (i : Bool) : (s.entered .module n i).host = s.host := by
  unfold State.entered
  dsimp only
  split <;> rfl

theorem State.decideFaults_host {s : State} {n d : Nat} (hin : sourceIn .module n = true) :
    (s.decideFaults .module [⟨n, false, d⟩]).2.host = s.host := by
  cases h : (s.collector .module).inFault.testBit (sourceBit .module n) with
  | true => rw [State.decideFaults_old h]
  | false => rw [State.decideFaults_new hin h, State.classReaction_host, State.entered_host]

/-- A quiet source of the module takes no level above 2. -/
theorem State.decideFaults_module_low {s : State} {n d : Nat} (hin : sourceIn .module n = true) (hq : QuietModule s n) :
    ∀ r ∈ (s.decideFaults .module [⟨n, false, d⟩]).1, r.level ≤ 2 := by
  obtain ⟨hl, hc⟩ := hq
  cases h : (s.collector .module).inFault.testBit (sourceBit .module n) with
  | true => rw [State.decideFaults_old h]; nofun
  | false =>
    have hceil : (s.entered .module n false).sourceCeiling .module n = s.sourceCeiling .module n := by
      unfold State.entered
      dsimp only
      split <;> rfl
    rw [State.decideFaults_new hin h]
    unfold State.classReaction
    extract_lets mine cl lv taken
    split
    · nofun
    · split
      · nofun
      · intro r hr
        obtain ⟨hit, -, rfl⟩ := List.mem_map.mp hr
        refine foldl_max_le fun v hv => ?_
        obtain ⟨hit, hmine, rfl⟩ := List.mem_map.mp hv
        obtain rfl := List.mem_singleton.mp (List.mem_of_mem_filter hmine)
        exact decideLevel_le ((State.entered_sourceLevel s .module n n false).trans_le hl) (hceil.trans_le hc)

theorem State.recordReaction_module (s : State) (r : Taken) :
    (s.recordReaction .module r).host = s.host ∧ (s.recordReaction .module r).coll = s.coll := ⟨rfl, rfl⟩

theorem State.tossCheck_module (s : State) : s.tossCheck.host = s.host ∧ s.tossCheck.coll = s.coll := ⟨rfl, rfl⟩

/-- A quiet source of the module is in fault, and the host link goes on as it was. -/
theorem State.raise_module {s : State} {n : Nat} (hq : QuietModule s n) (hc : s.awake = true) (hin : sourceIn .module n = true) :
    (s.raise .module n).host = s.host ∧ (s.raise .module n).coll.inFault = withBit s.coll.inFault (n - 128) true := by
  have hlow := State.decideFaults_module_low (d := 0) hin hq
  have htop : (((s.decideFaults .module [⟨n, false, 0⟩]).1).map Taken.level).foldl max 0 < 3 :=
    Nat.lt_succ_of_le <| foldl_max_le fun v hv => by
      obtain ⟨r, hr, rfl⟩ := List.mem_map.mp hv
      exact hlow r hr
  obtain ⟨hhost, hcoll⟩ := List.foldlRecOn
    (motive := fun t : State => t.host = (s.decideFaults .module [⟨n, false, 0⟩]).2.host ∧
      t.coll = (s.decideFaults .module [⟨n, false, 0⟩]).2.coll) (s.decideFaults .module [⟨n, false, 0⟩]).1
    (fun t r => t.recordReaction .module r) ⟨rfl, rfl⟩
    fun t ht r _ => ⟨(t.recordReaction_module r).1.trans ht.1, (t.recordReaction_module r).2.trans ht.2⟩
  have hcollects : s.collects .module = true := hc
  have hraise : s.raise .module n = ((s.decideFaults .module [⟨n, false, 0⟩]).1.foldl (fun t r => t.recordReaction .module r)
      (s.decideFaults .module [⟨n, false, 0⟩]).2).tossCheck := by
    rw [State.raise, if_pos hcollects, State.enterFaults, State.react, State.carryOut, if_pos htop]
  rw [hraise, (State.tossCheck_module _).1, (State.tossCheck_module _).2]
  exact ⟨hhost.trans (State.decideFaults_host hin), (congrArg Collector.inFault hcoll).trans (State.decideFaults_inFault hin)⟩

end Sys2Proof.Machine

namespace Sys2Proof.Machine

/-! ### The host link's requests, settled (R345 to R353) -/

/-- The frames rejected within the last second, the one of this moment first. -/
def State.rejectTimes (s : State) : List Nat := s.clock :: s.host.rejects.filter (fun t => decide (s.clock < t + 1000000000))

/-- The state after a rejected frame, before the frame's number in the last second is judged (R348). -/
def State.rejected (s : State) : State :=
  { (s.minc 0x59000A).minc 0x59000B with host := { s.host with
    held := none, answering := true, resp := some ⟨2, 0, [], 0⟩, rejects := s.rejectTimes.take 16 } }

theorem State.request_rejected {s : State} {r : HostReq} {check : Nat} (hon : s.hostOn = true) (hheld : s.host.held = none)
    (hok : s.frameOk r check = false) : s.request r check =
      if (s.rejectTimes.take 16).length = 16 then s.rejected.raise .module 134 else s.rejected :=
  (State.request_bad hon hheld hok).trans (State.rejectFrame_eq (State.hvio_of_hostOn hon).1)

/-- Fewer than 16 frames rejected within a second are counted and answered. -/
theorem State.request_rejected_few {s : State} {r : HostReq} {check : Nat} (hon : s.hostOn = true) (hheld : s.host.held = none)
    (hok : s.frameOk r check = false) (hfew : s.rejectTimes.length < 16) : s.request r check =
      { (s.minc 0x59000A).minc 0x59000B with host := { s.host with
        answering := true, resp := some ⟨2, 0, [], 0⟩, rejects := s.rejectTimes } } := by
  have htake : s.rejectTimes.take 16 = s.rejectTimes := List.take_of_length_le hfew.le
  rw [State.request_rejected hon hheld hok, htake, if_neg (by omega), State.rejected, htake, ← hheld]

/-- The 16th frame rejected within a second puts source 134 in fault. -/
theorem State.request_rejected_many {s : State} {r : HostReq} {check : Nat} (hon : s.hostOn = true) (hheld : s.host.held = none)
    (hok : s.frameOk r check = false) (hmany : 16 ≤ s.rejectTimes.length) (hq : QuietModule s 134) :
    (s.request r check).host.resp = some ⟨2, 0, [], 0⟩ ∧ (s.request r check).coll.inFault.testBit 6 = true := by
  have hlen : (s.rejectTimes.take 16).length = 16 := by rw [List.length_take]; omega
  have hkept (j : Nat) (hj : j ≤ 2) : s.rejected.mget (key (0x1410 + 134) j) = s.mget (key (0x1410 + 134) j) :=
    (State.mput_mget_ne _ (by simp only [key]; omega) _).trans (State.mput_mget_ne _ (by simp only [key]; omega) _)
  have hq' : QuietModule s.rejected 134 := ⟨(hkept 1 (by decide)).trans_le hq.1, (hkept 2 (by decide)).trans_le hq.2⟩
  obtain ⟨hhost, hfault⟩ := State.raise_module hq' (State.hvio_of_hostOn hon).2 (by decide)
  rw [State.request_rejected hon hheld hok, if_pos hlen, hhost, hfault]
  exact ⟨rfl, testBit_withBit_self _ _ _⟩

/-- An address outside the map ends its access at once (R346). -/
theorem State.request_outside {s : State} {r : HostReq} {check : Nat} (hon : s.hostOn = true) (hheld : s.host.held = none)
    (hok : s.frameOk r check = true) (h8 : r.op ≠ 8) (hpath : pathOf r.addr = 16) (hreg : s.region r.addr = none) :
    s.request r check = (s.minc 0x59000A).respond 1 0 [] 0x03000005 := by
  have hreg' : s.requested.region r.addr = none := (s.requested_region r.addr).trans hreg
  have haccept : s.requested.accept r = s.requested.respond 1 0 [] 0x03000005 := by
    simp [State.accept, if_neg h8, hreg', State.turnAway, hpath, abAddress]
  have hvio := (State.hvio_of_hostOn hon).1
  rw [State.request_ok hon hheld hok, haccept, State.respond_on (s := s.requested) hvio,
    State.respond_on (s := s.minc 0x59000A) hvio]
  rfl

/-- SYNC is held as any access is (R350). -/
theorem State.request_sync {s : State} {check : Nat} (hon : s.hostOn = true) (hheld : s.host.held = none)
    (hok : s.frameOk ⟨8, 0, 0, []⟩ check = true) : s.request ⟨8, 0, 0, []⟩ check =
      { s.minc 0x59000A with host := { s.host with held := some ⟨8, 0, 0, []⟩, answering := false } } := by
  rw [State.request_ok hon hheld hok]
  rfl

/-- The timebase takes no masked write (R345). -/
theorem State.region_of_masked {s : State} {r : HostReq} {check : Nat} (h4 : r.op = 4) (hok : s.frameOk r check = true) :
    (s.region r.addr).map Prod.fst ≠ some .timebase := by
  intro hreg
  obtain ⟨⟨g, b, e⟩, hg, hgt⟩ := Option.map_eq_some_iff.mp hreg
  obtain rfl : g = .timebase := hgt
  simp [State.frameOk, hg, State.admits, h4] at hok

/-- Settles O49: each request is judged once, and then rejected, held, posted or turned away. -/
theorem hostRequests : Obligations.HostRequests := by
  refine ⟨?_, ?_, ?_, ?_, ?_, ?_, ?_, ?_, ?_, ?_, ?_, ?_, ?_, ?_⟩
  · intro s op count addr check h
    exact exec_next rfl (if_pos (by simp [h]))
  · intro s op count addr check h
    exact exec_next rfl (if_pos (by simp [h]))
  · intro s op count addr check _ hon hheld hok hfew
    refine Leads.of_eq rfl (State.request_rejected_few hon hheld hok ?_) ⟨rfl, rfl, rfl, rfl, rfl⟩
    exact Nat.succ_lt_succ hfew
  · intro s op count addr check _ hon hheld hok hmany hl hc
    exact Leads.of_eq rfl rfl (State.request_rejected_many hon hheld hok (Nat.succ_le_succ hmany) ⟨hl, hc⟩)
  · intro s r check h
    simp [State.frameOk, h]
  · intro s addr count check _ hon hheld hok hpath hreg
    exact exec_next rfl (State.request_held hon hheld hok (by simp) rfl hpath hreg)
  · intro s addr count check _ hon hheld hok hpath hreg
    exact exec_next rfl (State.request_outside hon hheld hok (by simp) hpath hreg)
  · intro s addr count d check _ hon hheld hok hpath hreg hroom hlen hin
    refine Leads.of_eq rfl (State.request_posted hon hheld hok rfl hpath hreg hroom hin fun _ => ?_) ⟨rfl, rfl, rfl, rfl⟩
    simpa [wordList] using hlen
  · intro s addr v count check _ hon hheld hok hpath hroom hin
    refine Leads.of_eq rfl (State.request_posted hon hheld hok rfl hpath (State.region_of_masked rfl hok) hroom hin
      (fun h => absurd rfl h)) ⟨rfl, rfl, rfl⟩
  · intro s addr count d check _ hon hheld hok hpath hreg
    exact exec_next rfl (State.request_held hon hheld hok (by simp) rfl hpath hreg)
  · intro s addr count d check _ hon hheld hok hpath hreg
    exact exec_next rfl (State.request_held hon hheld hok (by simp) rfl hpath hreg)
  · intro s addr count check _ hon hheld hok hpath hreg
    exact exec_next rfl (State.request_held hon hheld hok (by simp) rfl hpath hreg)
  · intro s addr count check _ hon hheld hok hpath hreg
    exact exec_next rfl (State.request_held hon hheld hok (by simp) rfl hpath hreg)
  · intro s check _ hon hheld hok
    exact exec_next rfl (State.request_sync hon hheld hok)

end Sys2Proof.Machine

namespace Sys2Proof.Machine

/-! ### Sessions of the service port (O52) -/

theorem State.service_updService_self {s : State} {n : Nat} (h : n < s.sec.sessions.length) (f : ServiceSession → ServiceSession) :
    (s.updService n f).service n = f (s.service n) := by
  simp [State.service, State.updService, State.updSec, List.getD_eq_getElem?_getD, h]

theorem State.service_updService_ne {s : State} {n m : Nat} (h : m ≠ n) (f : ServiceSession → ServiceSession) :
    (s.updService n f).service m = s.service m := by
  simp [State.service, State.updService, State.updSec, List.getD_eq_getElem?_getD, Ne.symm h]

theorem State.updService_length (s : State) (n : Nat) (f : ServiceSession → ServiceSession) :
    (s.updService n f).sec.sessions.length = s.sec.sessions.length := List.length_modify f s.sec.sessions n

theorem State.service_of_length_le {s : State} {n : Nat} (h : s.sec.sessions.length ≤ n) : s.service n = .reset := by
  simp [State.service, List.getD_eq_getElem?_getD, h]

/-- Ending a session closes it and frees its buffers, and nothing else (R447). -/
theorem State.endService_service (s : State) (n m : Nat) :
    (s.endService n).service m = (s.updService n ServiceSession.close).service m := rfl

theorem ServiceSession.close_role (k : ServiceSession) : k.close.role = none := by
  unfold ServiceSession.close
  split
  · rfl
  · rename_i h
    simpa using h

theorem ServiceSession.close_challenge (k : ServiceSession) : k.close.challenge = none := by
  unfold ServiceSession.close
  split <;> rfl

theorem State.endService_role (s : State) (n : Nat) : ((s.endService n).service n).role = none := by
  rw [State.endService_service]
  by_cases h : n < s.sec.sessions.length
  · rw [State.service_updService_self h, ServiceSession.close_role]
  · rw [State.service_of_length_le (by rw [State.updService_length]; omega)]
    rfl

theorem State.endService_length (s : State) (n : Nat) : (s.endService n).sec.sessions.length = s.sec.sessions.length :=
  State.updService_length _ _ _

theorem LaneState.freeBuffer_frees (l : LaneState) (uid ses : Nat) : (l.freeBuffer uid ses).buffer uid ses = none := by
  unfold LaneState.freeBuffer
  cases h : l.buffer uid ses with
  | none => exact h
  | some t =>
    refine List.find?_eq_none.mpr fun u hu => ?_
    simpa [imp_iff_not_or] using List.of_mem_filter hu

theorem LaneState.freeBuffer_reg (l : LaneState) (uid ses : Nat) : (l.freeBuffer uid ses).reg = l.reg := by
  unfold LaneState.freeBuffer
  split <;> rfl

theorem LaneState.dropServiceBuffers_reg (l : LaneState) : l.dropServiceBuffers.reg = l.reg := rfl

/-- Every session is without a role once all are closed. -/
theorem State.endServiceSessions_role (s : State) (m : Nat) : (s.endServiceSessions.service m).role = none := by
  have hmap : s.endServiceSessions.service m = ((s.sec.sessions.map ServiceSession.close)[m]?).getD .reset :=
    List.getD_eq_getElem?_getD
  rw [hmap, List.getElem?_map]
  cases s.sec.sessions[m]? with
  | none => rfl
  | some k => exact k.close_role

/-! ### A request on a session without a role (R441) -/

theorem selOf_isSome {n : Nat} (h : n / 64 ≠ 3) (hn : n < 256) : (selOf n).isNone = false := by
  have hcase : n / 64 = 0 ∨ n / 64 = 1 ∨ n / 64 = 2 := by omega
  unfold selOf
  rcases hcase with h | h | h <;> simp [h]

theorem segmentsFrom_short {data : List Byte} (h0 : data ≠ []) (h : data.length ≤ 1024) :
    segmentsFrom data 0 = [(0, slice data 0 1024, true)] := by
  have hpos : ¬ data.length ≤ 0 := by simpa using h0
  simp only [segmentsFrom, List.range_succ, List.range_zero, List.nil_append, List.cons_append, List.map_cons, List.map_nil,
    List.filterMap_cons, List.filterMap_nil, Nat.zero_add, Nat.mul_zero, Nat.mul_one, if_neg hpos, if_pos h, decide_true,
    h.trans (show 1024 ≤ 1024 * 2 by decide), h.trans (show 1024 ≤ 1024 * 3 by decide), h.trans (show 1024 ≤ 1024 * 4 by decide),
    h.trans (show 1024 ≤ 1024 * 5 by decide), h.trans (show 1024 ≤ 1024 * 6 by decide), h.trans (show 1024 ≤ 1024 * 7 by decide),
    if_true, decide_eq_true h]

theorem State.serviceNonce_fresh {s : State} {n : Nat} (h : s.sec.serviceLocked = false) : ∃ v, s.serviceNonce n =
    { s.updService n (fun k => { k with challenge := some v }) with fresh := s.fresh + 1, ans := ⟨0, 16, toBytes 16 v⟩ } := by
  refine ⟨(s.free 128).1, ?_⟩
  simp only [State.serviceNonce, h, Bool.false_eq_true, if_false, State.answerBytes, State.free, toBytes_length]
  rfl

/-- A challenge asked for without a role is answered with one frame (R441). -/
theorem State.serviceMessage_challenge {s : State} {x : LaneId} {dest : Nat} {m : MsgFrame}
    (hrole : (s.service m.session.toNat).role = none) (hkind : m.kind = 1) (hop : m.op = 0x30)
    (hsel : m.selection.toNat / 64 ≠ 3) (hlock : s.sec.serviceLocked = false) :
    ∃ v m', m'.session = m.session ∧ s.serviceMessage x dest m = State.serviceSend
      { s.updService m.session.toNat (fun k => { k with challenge := some v }) with
        fresh := s.fresh + 1, ans := ⟨0, 16, toBytes 16 v⟩ } dest none m' := by
  obtain ⟨v, hv⟩ := State.serviceNonce_fresh (n := m.session.toNat) hlock
  have hsome := selOf_isSome hsel m.selection.isLt
  have hrequest : s.serviceMessage x dest m =
      (s.serviceNonce m.session.toNat).serviceDone x dest none { m with length := 16 } := by
    simp [State.serviceMessage, State.serviceOpen, State.serviceRequest, hrole, hkind, hop, hsome]
  have hne : toBytes 16 v ≠ [] := by simp [toBytes]
  refine ⟨v, { m with kind := 2, status := 0, length := 16, offset := 0, data := slice (toBytes 16 v) 0 1024, lastSeg := true },
    rfl, hrequest.trans ?_⟩
  rw [hv]
  simp only [State.serviceDone, State.serviceResult, hop, toBytes_length, if_neg hne,
    segmentsFrom_short hne (show (toBytes 16 v).length ≤ 1024 by simp)]
  rfl

theorem State.serviceSend_lastAnswer (s : State) (dest : Nat) (tag : Option Nat) (m : MsgFrame) :
    (s.serviceSend dest tag m).sec.lastAnswer.length = s.sec.lastAnswer.length + 1 :=
  List.length_append

/-- A session that sends a frame. -/
def ServiceSession.sends (k : ServiceSession) : ServiceSession :=
  { k with seqOut := (k.seqOut + 1) % 65536, framesOut := k.framesOut + 1 }

theorem State.serviceSend_service (s : State) (dest : Nat) (tag : Option Nat) (m : MsgFrame) (n : Nat) :
    (s.serviceSend dest tag m).service n = (s.updService m.session.toNat ServiceSession.sends).service n := rfl

theorem State.serviceSend_length (s : State) (dest : Nat) (tag : Option Nat) (m : MsgFrame) :
    (s.serviceSend dest tag m).sec.sessions.length = s.sec.sessions.length := State.updService_length _ _ _

theorem State.framesSpent_of_no_role {s : State} {n : Nat} (h : (s.service n).role = none) : s.framesSpent n = s := by
  simp [State.framesSpent, h]

theorem State.serviceFrameOk_number {s : State} {f : LineFrame} (h : s.serviceFrameOk f = true) : f.number < 4 := by
  simp only [State.serviceFrameOk, Bool.and_eq_true, decide_eq_true_eq] at h
  exact h.1.1.1.1.1.1.2.2.2

theorem State.serviceServe_challenge {s : State} {x : LaneId} {f : LineFrame} (hn : f.number < 4)
    (hlen : s.sec.sessions.length = 4) (hrole : (s.service f.number).role = none) (hkind : (serviceMsg f).kind = 1)
    (hop : (serviceMsg f).op = 0x30) (hsel : (serviceMsg f).selection.toNat / 64 ≠ 3) (hlock : s.sec.serviceLocked = false) :
    ((s.serviceServe x f).service f.number).challenge.isSome = true ∧
      ((s.serviceServe x f).service f.number).seqIn = some (numAt f.bytes 24 2) ∧ (s.serviceServe x f).sec.lastAnswer.length = 1 ∧
      (s.serviceServe x f).mreg = s.mreg ∧ (s.serviceServe x f).laneA = s.laneA ∧ (s.serviceServe x f).laneB = s.laneB := by
  have hses : (serviceMsg f).session.toNat = f.number := Nat.mod_eq_of_lt (by omega)
  obtain ⟨v, m', hm', hmsg⟩ := State.serviceMessage_challenge (s := s.updSec fun c => { c with lastAnswer := [] }) (x := x)
    (dest := f.source) (by rw [hses]; exact hrole) hkind hop hsel hlock
  rw [State.serviceServe, hmsg, hses]
  have hses' : m'.session.toNat = f.number := by rw [hm', hses]
  generalize hw : ({ State.updService _ _ _ with fresh := _, ans := _ } : State) = w
  have hw4 : w.sec.sessions.length = 4 := by
    rw [← hw]
    exact (State.updService_length _ _ _).trans hlen
  have hws : w.service f.number = { s.service f.number with challenge := some v } := by
    rw [← hw]
    exact State.service_updService_self (s := s.updSec fun c => { c with lastAnswer := [] }) (by simpa using hlen ▸ hn) _
  have hservice : (w.serviceSend f.source none m').service f.number = ({ s.service f.number with challenge := some v } :
      ServiceSession).sends := by
    rw [State.serviceSend_service, hses', State.service_updService_self (by omega), hws]
  have hu4 := (w.serviceSend_length f.source none m').trans hw4
  have hnone : (((w.serviceSend f.source none m').updService f.number fun k => { k with seqIn := some (numAt f.bytes 24 2), framesIn := k.framesIn + 1 }).service
      f.number).role = none := by
    rw [State.service_updService_self (by omega), hservice]
    exact hrole
  rw [State.framesSpent_of_no_role hnone, State.service_updService_self (by omega), hservice]
  refine ⟨rfl, rfl, ?_, ?_, ?_, ?_⟩
  · refine (State.serviceSend_lastAnswer w f.source none m').trans ?_
    rw [← hw]
    rfl
  all_goals rw [← hw]; rfl

theorem doServiceAuthenticate_proves {s : State} {n : Fin 4} {d : List Byte} (hready : s.serviceReady = true)
    (hlock : s.sec.serviceLocked = false) (hd : d.length = 33) : doServiceAuthenticate n d s = s.serviceProof n.val d := by
  simp [doServiceAuthenticate, State.serviceLogin, hready, hlock, hd]

/-- The role that a proof opens on a session of the service port, and the key of its frames (R443). -/
def ServiceSession.opens (k : ServiceSession) (r key : Nat) (commissioning : Bool) : ServiceSession :=
  { k with role := some r, key := key, commissioning := commissioning, ended := false, framesIn := 0, framesOut := 0 }

theorem State.serviceProof_of_key {s : State} {n v : Nat} {d k : List Byte} (hch : (s.service n).challenge = some v)
    (hkey : s.sec.keyFor true (numAt d 0 1) = some k)
    (hproof : (hmac128 k (proofText (toBytes 16 v) (slice d 1 16) s.uid (numAt d 0 1))).toNat = numAt d 17 16) :
    s.serviceProof n d = ((s.endService n).updService n (fun c => c.opens (numAt d 0 1)
      (hmac128 k ([0x53] ++ toBytes 16 v ++ slice d 1 16)).toNat s.sec.commissioning)).answerBytes
        (toBytes 16 (hmac128 k (proofText (slice d 1 16) (toBytes 16 v) s.uid (numAt d 0 1))).toNat) := by
  have hkey' : (s.endService n).sec.keyFor true (numAt d 0 1) = some k := hkey
  have huid : (s.endService n).uid = s.uid := rfl
  simp only [State.serviceProof, hch, hkey', huid, hproof, if_true]
  rfl

theorem State.serviceProof_no_challenge {s : State} {n : Nat} {d : List Byte} (hch : (s.service n).challenge = none) :
    s.serviceProof n d = (s.endService n).authFailed true := by
  simp only [State.serviceProof, hch]

theorem State.authFailed_service (s : State) : s.authFailed true =
    let fails := s.clock :: recentFails s.clock s.sec.serviceFails
    { s.minc 0x160200 with
      sec := { s.sec with serviceFails := if 5 ≤ fails.length then [] else fails
                          serviceLocked := s.sec.serviceLocked || decide (5 ≤ fails.length) }
      ans := ⟨abAuth, 0, []⟩ } := by
  simp [State.authFailed, State.updSec, State.abort]

/-- Settles O52, clause by clause over the rules of the sessions. -/
theorem servicePort : Obligations.ServicePort := by
  refine ⟨?_, ?_, ?_, ?_, ?_, ?_, ?_, ?_, ?_, ?_, ?_, ?_, ?_, ?_⟩
  · intro s b h
    exact exec_next rfl (if_pos (by simp [h]))
  · intro s b haw hlink hbad
    refine exec_next rfl ?_
    simp [doServicePortFrame, haw, hlink, hbad]
  · intro s b r haw hlink hok hrole hpass
    refine exec_next rfl ?_
    simp [doServicePortFrame, haw, hlink, hok, hrole, hpass]
  · intro s b x hcanon haw hlink hok hrole hkind hop hsel hlock hlen hcount hx
    have hx' : (s.minc 0x700401).holder = some x := hx
    have hserve := State.serviceServe_challenge (s := s.minc 0x700401) (x := x) (State.serviceFrameOk_number hok) hlen hrole hkind
      hop hsel hlock
    obtain ⟨hch, hseq, hans, hmreg, hA, hB⟩ := hserve
    refine Leads.of_eq (t := (s.minc 0x700401).serviceServe x ⟨b, .good, ⟨0, 0, 0⟩⟩) rfl ?_ ⟨hch, hseq, hans, ?_, hA, hB⟩
    · simp [doServicePortFrame, haw, hlink, hok, hrole, hx']
    · have hget : ((s.minc 0x700401).serviceServe x ⟨b, .good, ⟨0, 0, 0⟩⟩).mget 0x700401 = (s.minc 0x700401).mget 0x700401 :=
        congrArg (tabGet regDefault 0x700401) hmreg
      rw [hget]
      exact State.minc_mget_self hcanon _ (lt_of_lt_of_le (Nat.succ_lt_succ hcount) (by decide))
  · intro s n hready hlock hlen
    obtain ⟨v, hv⟩ := State.serviceNonce_fresh (n := n.val) hlock
    refine Leads.of_eq rfl ((if_pos hready).trans hv) ⟨v, ?_, rfl, rfl, fun m hm => State.service_updService_ne hm _⟩
    exact congrArg ServiceSession.challenge (State.service_updService_self (n.isLt.trans_eq hlen.symm) _)
  · intro s n hready hlock
    exact exec_next rfl ((if_pos hready).trans (if_pos hlock))
  · intro s n hready
    exact exec_next rfl (if_neg (by simp [hready]))
  · intro s n d k v hready hlock hd hlen hch hkey hproof
    refine Leads.of_eq rfl ((doServiceAuthenticate_proves hready hlock hd).trans (State.serviceProof_of_key hch hkey hproof)) ?_
    have hn : n.val < (s.endService n.val).sec.sessions.length := by
      rw [State.endService_length, hlen]
      exact n.isLt
    have hservice := State.service_updService_self hn (fun c => c.opens (numAt d 0 1)
      (hmac128 k ([0x53] ++ toBytes 16 v ++ slice d 1 16)).toNat s.sec.commissioning)
    refine ⟨congrArg ServiceSession.role hservice, (congrArg ServiceSession.challenge hservice).trans ?_,
      congrArg ServiceSession.ended hservice, rfl, rfl, fun m hm => ?_⟩
    · rw [State.endService_service, State.service_updService_self (n.isLt.trans_eq hlen.symm)]
      exact ServiceSession.close_challenge _
    · exact (State.service_updService_ne hm _).trans (State.service_updService_ne hm _)
  · intro s n d hcanon hready hlock hd hch hcount
    refine Leads.of_eq rfl ((doServiceAuthenticate_proves hready hlock hd).trans ((State.serviceProof_no_challenge hch).trans
      (State.authFailed_service _))) ⟨rfl, State.endService_role s n, ?_⟩
    exact State.minc_mget_self hcanon _ (lt_of_lt_of_le (Nat.succ_lt_succ hcount) (by decide))
  · intro s n w
    exact Leads.of_eq rfl rfl ⟨State.endService_role s n, fun m hm => State.service_updService_ne hm _,
      LaneState.freeBuffer_frees _ _ _, LaneState.freeBuffer_frees _ _ _, LaneState.freeBuffer_reg _ _ _, rfl⟩
  · intro s n h
    unfold State.framesSpent
    dsimp only
    split
    · exact State.endService_role s n
    · rename_i hnot
      simpa [h] using hnot
  · intro s n hin hout
    simp [State.framesSpent, Nat.not_le.mpr hin, Nat.not_le.mpr hout]
  · intro s haw
    exact exec_next rfl (if_pos haw)
  · intro s
    exact Leads.of_eq rfl rfl ⟨rfl, fun m => State.endServiceSessions_role _ m, rfl, rfl⟩

end Sys2Proof.Machine

namespace Sys2Proof.Machine

/-! ### The Toss, the arbiter and the leases (R70 to R79) -/

theorem LaneState.ready_of_possession {l : LaneState} (h : l.mode = .possession) : l.ready = true := by
  simp [LaneState.ready, h]

theorem State.ask_refused {s : State} {x : LaneId} (h : s.eligible x = false ∨ (s.lane x).poss.arbLink = false) : s.ask x = s := by
  rcases h with h | h <;> simp [State.ask, h]

/-- A collector is no part of a lane's mode. -/
theorem State.lower_lane_mode (s : State) (x : LaneId) (n : Nat) : ((s.lower (.lane x) n).lane x).mode = (s.lane x).mode := by
  simp [State.lower, State.updColl]

/-- Settles O7, each command by its guard. -/
theorem arbiterAndLeases : Obligations.ArbiterAndLeases := by
  refine ⟨?_, ?_, ?_, ?_, ?_, ?_, ?_, ?_, ?_, ?_, ?_, ?_, ?_, ?_, ?_⟩
  · intro s hnone hA hB hmay hint hlink
    have hask : s.ask .A = { s with
        keeper := { s.keeper with askedA := true }
        laneA := { s.laneA with poss := { s.laneA.poss with request := true, view := s.laneA.poss.viewOfPeer } } } := by
      simp [State.ask, hA, hmay, State.lane, hint, hlink, State.upd, State.setLane]
    refine exec_next rfl ?_
    rw [doToss, hnone, Option.isSome_none, if_neg (by decide), hask]
    exact State.ask_refused (.inl hB)
  · intro s hlink hB
    refine exec_next rfl ?_
    unfold doToss
    split
    · rfl
    · rw [State.ask_refused (x := .A) (.inr hlink), State.ask_refused (.inl hB)]
  · intro s hnone hB hasked
    exact exec_next rfl (if_pos (by simp [hnone, hB, hasked]))
  · intro s h
    exact exec_next rfl (if_neg (by simp [h]))
  · intro s h
    simp [State.tossAllows, h]
  · intro s x hmode hrun hreset
    refine exec_next rfl ?_
    rw [doArbiterFrame, if_neg (by simp [LaneState.ready_of_possession hmode, hrun, hreset])]
    refine if_neg ?_
    simp [State.lower_lane_mode, hmode]
  · intro s x hlink
    exact exec_next rfl (if_neg (by simp [hlink]))
  · intro s x hmode hint hrun hlink hholder hexp
    refine exec_next rfl ?_
    simp [doRenewal, State.acceptsRenewal, hmode, hint, hrun, hlink, hholder, hexp]
  · intro s x hmode hren
    exact exec_next rfl (if_pos ⟨hmode, hren⟩)
  · intro s hrun hholder
    exact exec_next rfl (if_pos (by simp [hrun, hholder]))
  · intro s haw
    exact exec_next rfl (if_neg (by simp [haw]))
  · intro s
    rfl
  · intro s x hmode hint hlease hmir hword hbit
    refine exec_next rfl ?_
    simp [doLocalLeaseEnd, hmode, hint, hlease, hmir, hword, hbit]
  · intro s x hmode hint hlease hmir
    refine exec_next rfl ?_
    simp [doLocalLeaseEnd, hmode, hint, hlease, hmir]
  · intro s x hmode hint hlease hbit
    refine exec_next rfl ?_
    simp [doLocalLeaseEnd, hmode, hint, hlease, hbit]

end Sys2Proof.Machine

namespace Sys2Proof.Machine

/-! ### Triggers of a Roll (R110 to R119) -/

/-- A lane that an update leaves as it is leaves the state as it is. -/
theorem State.upd_of_eq {s : State} {x : LaneId} {f : LaneState → LaneState} (h : f (s.lane x) = s.lane x) : s.upd x f = s := by
  cases x
  · exact congrArg (fun l => { s with laneA := l }) h
  · exact congrArg (fun l => { s with laneB := l }) h

theorem State.rollTrigger_runs {s : State} {x : LaneId} (hbeat : s.keeper.sleepBeat = none) (hready : (s.lane x).ready = true)
    (code : Nat) : s.rollTrigger x code = s.upd x (fun l => { l with roll := l.roll.triggered code }) := by
  simp [State.rollTrigger, hbeat, hready]

theorem State.rollTrigger_asleep {s : State} (h : s.keeper.sleepBeat.isSome = true) (x : LaneId) (code : Nat) :
    s.rollTrigger x code = s := by
  simp [State.rollTrigger, h]

/-- Two lanes with the same update are the same. -/
theorem State.upd_congr {s : State} {x : LaneId} {f g : LaneState → LaneState} (h : f (s.lane x) = g (s.lane x)) :
    s.upd x f = s.upd x g := by
  cases x
  · exact congrArg (fun l => { s with laneA := l }) h
  · exact congrArg (fun l => { s with laneB := l }) h

theorem doRollTrigger_pos {x : LaneId} {code : Fin 10} (h : 1 ≤ code.val) (s : State) :
    doRollTrigger x code s = s.rollTrigger x code.val := if_neg (by omega)

theorem RollState.triggered_new {r : RollState} {code : Nat} (hadopted : (r.running && r.adopted.isSome) = false)
    (htrigger : r.trigger = none) : r.triggered code = { r with trigger := some code, holdOff := hasHoldOff code } := by
  simp [RollState.triggered, hadopted, htrigger]

theorem RollState.triggered_joins {r : RollState} (hadopted : r.adopted = none) (htrigger : r.trigger.isSome = true) (code : Nat) :
    r.triggered code = r := by
  obtain ⟨c, hc⟩ := Option.isSome_iff_exists.mp htrigger
  simp [RollState.triggered, hadopted, hc]

theorem RollState.triggered_held {r : RollState} (hrun : r.running = true) (hadopted : r.adopted.isSome = true)
    (hheld : r.heldTrigger = none) (code : Nat) : r.triggered code = { r with heldTrigger := some code } := by
  simp [RollState.triggered, hrun, hadopted, hheld]

/-- Settles O18, each command by what it does to the triggers of its lane. -/
theorem rollTriggers : Obligations.RollTriggers := by
  refine ⟨?_, ?_, ?_, ?_, ?_, fun _ _ => rfl, fun _ _ => rfl, ?_, ?_, ?_, ?_, ?_⟩
  · intro s x code hcode hbeat hready hrun htrigger
    have hhold : hasHoldOff code.val = true := by simpa [hasHoldOff] using hcode
    refine exec_next rfl ((doRollTrigger_pos (by omega) s).trans ((State.rollTrigger_runs hbeat hready _).trans
      (State.upd_congr ?_)))
    simp only [RollState.triggered_new (r := (s.lane x).roll) (by simp [hrun]) htrigger, hhold]
  · intro s x code hcode hbeat hready hadopted htrigger
    have hhold : hasHoldOff code.val = false := by simp [hasHoldOff]; omega
    refine exec_next rfl ((doRollTrigger_pos (by omega) s).trans ((State.rollTrigger_runs hbeat hready _).trans
      (State.upd_congr ?_)))
    simp only [RollState.triggered_new (r := (s.lane x).roll) (by simp [hadopted]) htrigger, hhold]
  · intro s x code hadopted htrigger
    refine exec_next rfl ?_
    unfold doRollTrigger State.rollTrigger
    split
    · rfl
    · split
      · rfl
      · exact State.upd_of_eq (by simp only [RollState.triggered_joins hadopted htrigger])
  · intro s x code hcode hbeat hready hrun hadopted hheld
    refine exec_next rfl ((doRollTrigger_pos hcode s).trans ((State.rollTrigger_runs hbeat hready _).trans (State.upd_congr ?_)))
    simp only [RollState.triggered_held hrun hadopted hheld]
  · intro s x code hbeat
    refine exec_next rfl ?_
    unfold doRollTrigger
    split
    · rfl
    · exact State.rollTrigger_asleep hbeat x _
  · intro s x h
    exact exec_next rfl (if_pos h)
  · intro s a x hr hbeat
    exact exec_next rfl ((State.through_of_reaches hr _).trans (State.command_runs hr (by simp [hbeat]) rfl))
  · intro s a x hr hbeat
    exact exec_next rfl ((State.through_of_reaches hr _).trans (State.command_refused hr (by simpa using hbeat)))
  · intro s a x v hr hv hne
    refine exec_next rfl ((State.through_of_reaches hr _).trans ((State.command_runs hr rfl (by simp [hv])).trans ?_))
    simp only [hne, ne_eq, not_false_eq_true, decide_true, if_true]
    rfl
  · intro s a x v hr hv heq
    refine exec_next rfl ((State.through_of_reaches hr _).trans ((State.command_runs hr rfl (by simp [hv])).trans ?_))
    simp only [heq, ne_eq, not_true_eq_false, decide_false, Bool.false_eq_true, if_false]

/-! ### Wake detectors and the wake from standby (R30 to R36) -/

/-- Settles O4, each command by the phase of the module. -/
theorem wakeAndKnock : Obligations.WakeAndKnock := by
  refine ⟨?_, ?_, ?_, ?_, ?_, ?_, ?_⟩
  · intro s line e1 e2 hend hphase haw
    refine exec_next rfl ?_
    rw [doKnock, if_neg (by rcases hend with h | h <;> simp [h]), if_neg (by simp [hphase]), if_pos ⟨hphase, haw⟩]
  · intro s line e1 e2 hend hphase
    refine exec_next rfl ?_
    rw [doKnock, if_neg (by rcases hend with h | h <;> simp [h]), if_pos hphase]
    cases line <;> rfl
  · intro s hphase
    exact exec_next rfl (if_pos hphase)
  · intro s x pin hphase hpin
    refine exec_next rfl ((if_pos ⟨hphase, hpin⟩).trans ?_)
    cases x <;> rfl
  · intro s hphase
    exact exec_next rfl (if_neg (by simp [hphase]))
  · intro s x pin hphase
    exact exec_next rfl (if_neg (by simp [hphase]))
  · intro s temp hcanon hphase hfired hlt
    have hkept : (s.startTrigger.mput 0x123000 s.keeper.fired).mget 0x123100 = s.mget 0x123100 :=
      State.mput_mget_ne _ (by decide) _
    refine Leads.of_eq rfl (if_pos ⟨hphase, hfired⟩) ⟨?_, rfl, rfl, rfl, fun k hk => ?_, fun hend => ?_, fun hend h0 h1 => ?_,
      fun h4 h0 => ?_, fun htemp => ?_⟩
    · exact (State.mput_mget_self (s := s.startTrigger) hcanon _ _).trans (Nat.mod_eq_of_lt (hlt.trans_le (by decide)))
    · exact State.mput_mget_ne _ hk _
    · change trainScope _ _ = true
      simp [trainScope, hend]
    · change trainScope _ _ = false
      rw [hkept]
      simp [trainScope, hend, h0, h1]
    · change trainScope _ _ = true
      rw [hkept]
      simp [trainScope, h4, h0]
    · change coldPhase s.variant2 temp = .charging
      have hwarm : ¬ temp < -4000 := by omega
      have hcold : ¬ temp < -5000 := by omega
      simp only [coldPhase, if_neg hwarm, if_neg hcold, ite_self]

end Sys2Proof.Machine

namespace Sys2Proof.Machine

/-! ### What operations on a lane leave alone

`Agrees A` says of two lanes that the registers of `A` hold the same in both; `RegOnly` that nothing but registers differs.
Both are chains: each write adds one link. -/

theorem State.raiseLane_get {s : State} {x : LaneId} {n k : Nat} (hq : Quiet s x n) (h₀ : k ≠ key (0x1410 + n) 3)
    (h₁ : k ≠ 0x150300) (h₂ : k ≠ 0x150301) (h₃ : k ≠ 0x150C02) : (s.raiseLane x n).get x k = s.get x k := by
  obtain ⟨coll, log, reg, w, a, he, -, hreg⟩ := State.raiseLane_frame hq
  have hlane : (s.raiseLane x n).lane x = { s.lane x with coll := coll, log := log, reg := reg } := by
    rw [he]
    cases x <;> rfl
  rw [State.get, hlane]
  exact hreg k h₀ h₁ h₂ h₃

def LaneState.Agrees (A : Nat → Prop) (l m : LaneState) : Prop := ∀ k, A k → m.get k = l.get k

def LaneState.RegOnly (l m : LaneState) : Prop := ∃ r, m = { l with reg := r }

/-- From `s` to `t`, lane x agrees on `A`, and the other lane is the same. -/
def State.Agrees (A : Nat → Prop) (x : LaneId) (s t : State) : Prop :=
  (s.lane x).Agrees A (t.lane x) ∧ t.lane x.peer = s.lane x.peer

namespace LaneState.Agrees

variable {A : Nat → Prop} {l₀ l m : LaneState}

theorem self : l.Agrees A l := fun _ _ => rfl

theorem trans (h : l₀.Agrees A l) (h' : l.Agrees A m) : l₀.Agrees A m := fun k hk => (h' k hk).trans (h k hk)

theorem put {k : Nat} (h : l₀.Agrees A l) (hk : ¬ A k) (v : Nat) : l₀.Agrees A (l.put k v) :=
  fun j hj => (l.put_get_ne (fun e : j = k => hk (e ▸ hj)) v).trans (h j hj)

theorem inc {k : Nat} (h : l₀.Agrees A l) (hk : ¬ A k) : l₀.Agrees A (l.inc k) := h.put hk _

/-- A change of anything but the registers. -/
theorem other (h : l₀.Agrees A l) (hm : m.reg = l.reg) : l₀.Agrees A m :=
  fun k hk => (congrArg (tabGet regDefault k) hm).trans (h k hk)

theorem ite {c : Prop} [Decidable c] (h : l₀.Agrees A l) (h' : l₀.Agrees A m) : l₀.Agrees A (if c then l else m) := by
  split
  · exact h
  · exact h'

theorem foldl {α : Type} {f : LaneState → α → LaneState} (h : l₀.Agrees A l) (xs : List α)
    (hf : ∀ l, ∀ a ∈ xs, l₀.Agrees A l → l₀.Agrees A (f l a)) : l₀.Agrees A (xs.foldl f l) :=
  List.foldlRecOn (motive := l₀.Agrees A) xs f h fun l hl a ha => hf l a ha hl

theorem weaken {B : Nat → Prop} (h : l.Agrees A m) (hB : ∀ k, B k → A k) : l.Agrees B m := fun k hk => h k (hB k hk)

end LaneState.Agrees

namespace LaneState.RegOnly

variable {l₀ l m : LaneState}

theorem self : l.RegOnly l := ⟨l.reg, rfl⟩

theorem trans (h : l₀.RegOnly l) (h' : l.RegOnly m) : l₀.RegOnly m := by
  obtain ⟨r, rfl⟩ := h
  obtain ⟨r', rfl⟩ := h'
  exact ⟨r', rfl⟩

theorem put (h : l₀.RegOnly l) (k v : Nat) : l₀.RegOnly (l.put k v) := by
  obtain ⟨r, rfl⟩ := h
  exact ⟨_, rfl⟩

theorem inc (h : l₀.RegOnly l) (k : Nat) : l₀.RegOnly (l.inc k) := h.put k _

theorem ite {c : Prop} [Decidable c] (h : l₀.RegOnly l) (h' : l₀.RegOnly m) : l₀.RegOnly (if c then l else m) := by
  split
  · exact h
  · exact h'

theorem foldl {α : Type} {f : LaneState → α → LaneState} (h : l₀.RegOnly l) (xs : List α)
    (hf : ∀ l, ∀ a ∈ xs, l₀.RegOnly l → l₀.RegOnly (f l a)) : l₀.RegOnly (xs.foldl f l) :=
  List.foldlRecOn (motive := l₀.RegOnly) xs f h fun l hl a ha => hf l a ha hl

theorem can (h : l.RegOnly m) : m.can = l.can := by
  obtain ⟨r, rfl⟩ := h
  rfl

end LaneState.RegOnly

namespace State.Agrees

variable {A : Nat → Prop} {x : LaneId} {s t u : State}

theorem self : s.Agrees A x s := ⟨.self, rfl⟩

theorem trans (h : s.Agrees A x t) (h' : t.Agrees A x u) : s.Agrees A x u := ⟨h.1.trans h'.1, h'.2.trans h.2⟩

theorem get (h : s.Agrees A x t) {k : Nat} (hk : A k) : t.get x k = s.get x k := h.1 k hk

theorem upd {f : LaneState → LaneState} (h : s.Agrees A x t) (hf : (t.lane x).Agrees A (f (t.lane x))) : s.Agrees A x (t.upd x f) :=
  ⟨h.1.trans (by rw [State.upd_lane_self]; exact hf), (State.upd_lane_peer t x f).trans h.2⟩

theorem put {k : Nat} (h : s.Agrees A x t) (hk : ¬ A k) (v : Nat) : s.Agrees A x (t.put x k v) := h.upd (.put .self hk v)

theorem inc {k : Nat} (h : s.Agrees A x t) (hk : ¬ A k) : s.Agrees A x (t.inc x k) := h.upd (.inc .self hk)

/-- A change outside the lanes. -/
theorem other (h : s.Agrees A x t) (hA : u.laneA = t.laneA) (hB : u.laneB = t.laneB) : s.Agrees A x u := by
  have hl (y : LaneId) : u.lane y = t.lane y := by
    cases y
    · exact hA
    · exact hB
  exact ⟨(hl x) ▸ h.1, (hl x.peer).trans h.2⟩

theorem lower (h : s.Agrees A x t) (n : Nat) : s.Agrees A x (t.lower (.lane x) n) := h.upd (.other .self rfl)

theorem ite {c : Prop} [Decidable c] (h : s.Agrees A x t) (h' : s.Agrees A x u) : s.Agrees A x (if c then t else u) := by
  split
  · exact h
  · exact h'

theorem foldl {α : Type} {f : State → α → State} (h : s.Agrees A x t) (xs : List α)
    (hf : ∀ t, ∀ a ∈ xs, s.Agrees A x t → s.Agrees A x (f t a)) : s.Agrees A x (xs.foldl f t) :=
  List.foldlRecOn (motive := s.Agrees A x) xs f h fun t ht a ha => hf t a ha ht

/-- An event, where the counts of lost events are no part of what agrees. -/
theorem record (h : s.Agrees A x t) (hA : ∀ k, A k → k ≠ 0x150300 ∧ k ≠ 0x150301 ∧ k ≠ 0x150C02) (code : Nat)
    (data : List Byte) : s.Agrees A x (t.record x code data) := by
  obtain ⟨log, reg, he, -, hreg⟩ := t.record_frame x code data
  refine h.trans ⟨fun k hk => ?_, by rw [he, State.upd_lane_peer]⟩
  obtain ⟨h₀, h₁, h₂⟩ := hA k hk
  rw [he, State.upd_lane_self]
  exact hreg k h₀ h₁ h₂

/-- A quiet source, where its own count and the counts of lost events are no part of what agrees. -/
theorem raiseLane {n : Nat} (h : s.Agrees A x t) (hq : Quiet t x n)
    (hA : ∀ k, A k → k ≠ key (0x1410 + n) 3 ∧ k ≠ 0x150300 ∧ k ≠ 0x150301 ∧ k ≠ 0x150C02) : s.Agrees A x (t.raiseLane x n) := by
  refine h.trans ⟨fun k hk => ?_, (State.raiseLane_laneOnly hq).peer⟩
  obtain ⟨h₀, h₁, h₂, h₃⟩ := hA k hk
  exact State.raiseLane_get hq h₀ h₁ h₂ h₃

end State.Agrees

end Sys2Proof.Machine

namespace Sys2Proof.Machine

/-! ### Operations of the car bus on a lane's registers -/

@[simp] theorem LaneState.busIdle_get (l : LaneState) (k : Nat) : l.busIdle.get k = l.get k := by
  unfold LaneState.busIdle
  split <;> rfl

theorem LaneState.busIdle_reg (l : LaneState) : l.busIdle.reg = l.reg := by
  unfold LaneState.busIdle
  split <;> rfl

@[simp] theorem LaneState.attemptEnds_get (l : LaneState) (k : Nat) : l.attemptEnds.get k = l.get k := rfl

/-- The error counts, the last error and the counts of frames, none of which is of one buffer (R303). -/
def OfController (k : Nat) : Prop := 0x440000 ≤ k ∧ k < 0x450000

theorem txKey_not_ofController (t sub : Nat) : ¬ OfController (txKey t sub) := by
  simp only [OfController, txKey, key]
  omega

theorem LaneState.attemptFailed_agrees (l : LaneState) (t : Nat) : l.Agrees OfController (l.attemptFailed t) := by
  refine .ite (.other (.put .self (txKey_not_ofController t 1) _) rfl) (.other .self rfl)

theorem LaneState.attemptError_agrees (l : LaneState) (t : Nat) (kind : CanErr) (inData : Bool) :
    l.Agrees OfController (l.attemptError t kind inData) :=
  (LaneState.Agrees.ite (.put .self (txKey_not_ofController t 1) _) .self).trans (LaneState.attemptFailed_agrees _ t)

theorem canErrCode_lt (k : CanErr) : canErrCode k < 7 := by cases k <;> decide

/-- The lane after an error of the bus, the counts taken (R314). -/
def LaneState.errorSeen (l : LaneState) (kind : CanErr) : LaneState :=
  ((l.put 0x440603 (canErrCode kind)).inc 0x440605).attemptEnds.busIdle

theorem LaneState.errorSeen_last {l : LaneState} (h : l.RegsCanon) (kind : CanErr) :
    (l.errorSeen kind).get 0x440603 = canErrCode kind := by
  rw [LaneState.errorSeen, LaneState.busIdle_get, LaneState.attemptEnds_get, LaneState.inc_get_ne _ (by decide),
    LaneState.put_get_self _ _ _ h]
  exact Nat.mod_eq_of_lt ((canErrCode_lt kind).trans_le (by decide))

theorem LaneState.errorSeen_get (l : LaneState) (kind : CanErr) {k : Nat} (h₃ : k ≠ 0x440603) (h₅ : k ≠ 0x440605) :
    (l.errorSeen kind).get k = l.get k := by
  rw [LaneState.errorSeen, LaneState.busIdle_get, LaneState.attemptEnds_get, LaneState.inc_get_ne _ h₅, LaneState.put_get_ne _ h₃]

theorem doCanError_listening {s : State} {x : LaneId} (hbus : (s.lane x).onBus = true) (hl : (s.lane x).can.listen = true)
    (o : Option (Fin 32)) (k : CanErr) (d : Bool) (n : BitVec 16) (p : Bool) :
    doCanError x o k d n p s = s.upd x (fun l => (l.put 0x440603 (canErrCode k)).attemptEnds.busIdle) := by
  simp [doCanError, hbus, hl]

theorem doCanError_received {s : State} {x : LaneId} (hbus : (s.lane x).onBus = true) (hl : (s.lane x).can.listen = false)
    (k : CanErr) (d : Bool) (n : BitVec 16) (p : Bool) :
    doCanError x none k d n p s = s.upd x (fun l => (l.receiveErrors n.toNat p).errorSeen k) := by
  simp only [doCanError, hbus, hl]
  rfl

theorem doCanError_sent {s : State} {x : LaneId} {u : Fin 32} (hbus : (s.lane x).onBus = true)
    (hl : (s.lane x).can.listen = false) (hmay : (s.lane x).mayBeOnBus u.val = true) (k : CanErr) (d : Bool) (n : BitVec 16)
    (p : Bool) : doCanError x (some u) k d n p s =
      s.upd x (fun l => ((l.transmitErrors k d n.toNat p).attemptError u.val k d).errorSeen k) := by
  have hbus' : ¬ (!(s.lane x).onBus) = true := by simp [hbus]
  have hl' : ¬ (s.lane x).can.listen = true := by simp [hl]
  simp only [doCanError, if_neg hbus', if_neg hl']
  exact State.upd_congr (by simp only [hmay, if_true]; rfl)

/-- A source that an update of other registers leaves quiet. -/
theorem quiet_of_agrees {A : Nat → Prop} {s t : State} {x : LaneId} {n : Nat} (hq : Quiet s x n) (h : s.Agrees A x t)
    (h₁ : A (key (0x1410 + n) 1)) (h₂ : A (key (0x1410 + n) 2)) : Quiet t x n :=
  ⟨(h.get h₁).trans_le hq.1, (h.get h₂).trans_le hq.2⟩

theorem State.lower_lane (s : State) (x : LaneId) (n : Nat) : (s.lower (.lane x) n).lane x = { s.lane x with
    coll := { (s.lane x).coll with inFault := withBit (s.lane x).coll.inFault (sourceBit (.lane x) n) false } } :=
  s.upd_lane_self x _

/-- The lane after the third collision of a buffer's identifier, before its source is raised (R316). -/
def LaneState.collided (l : LaneState) (t time : Nat) : LaneState :=
  let c := l.get (txKey t 1)
  let l := (l.setCollisions t 0).put 0x440500 (withBit (l.get 0x440500) 8 true)
  let l := (l.put 0x440A01 t).put 0x440A02 (frameWord (bitAt c 28) (bitAt c 27) (l.get (txKey t 2)))
  (l.put 0x440A03 time).inc 0x440A04

theorem LaneState.collided_agrees (l : LaneState) (t time : Nat) : l.Agrees (· < 0x440000) (l.collided t time) := by
  refine .inc (.put (.put (.put (.put (.put .self ?_ _) ?_ _) ?_ _) ?_ _) ?_ _) ?_
  · simp only [txKey, key]
    omega
  all_goals decide

/-- A field written is what was below it, the new value, and what was above it. -/
theorem withField_eq (n lo w v : Nat) :
    withField n lo w v = n % 2 ^ lo + 2 ^ lo * (2 ^ w * (n / 2 ^ lo / 2 ^ w) + v % 2 ^ w) := by
  have h₁ := Nat.mod_add_div n (2 ^ lo)
  have h₂ := Nat.mod_add_div (n / 2 ^ lo) (2 ^ w)
  have h₃ : 2 ^ lo * (n / 2 ^ lo) = 2 ^ lo * (n / 2 ^ lo % 2 ^ w) + 2 ^ lo * (2 ^ w * (n / 2 ^ lo / 2 ^ w)) := by
    rw [← Nat.mul_add, h₂]
  simp only [withField, field, Nat.shiftRight_eq_div_pow, Nat.shiftLeft_eq, Nat.mul_add]
  rw [Nat.mul_comm _ (2 ^ lo), Nat.mul_comm (v % 2 ^ w)]
  omega

/-- A field written is read back where it lies within the register. -/
theorem field_withField_mod {n lo w v m : Nat} (h : lo + w ≤ m) : field (withField n lo w v % 2 ^ m) lo w = v % 2 ^ w := by
  have hwide (x : Nat) : field (x % 2 ^ m) lo w = field x lo w := Nat.eq_of_testBit_eq fun j => by
    simp only [field, Nat.testBit_mod_two_pow, Nat.testBit_shiftRight]
    by_cases hj : j < w
    · simp [hj, show lo + j < m by omega]
    · simp [hj]
  rw [hwide, withField_eq, field, Nat.shiftRight_eq_div_pow, Nat.add_mul_div_left _ _ (Nat.two_pow_pos lo),
    Nat.div_eq_of_lt (Nat.mod_lt _ (Nat.two_pow_pos lo)), Nat.zero_add, Nat.mul_add_mod, Nat.mod_mod]

theorem regWidth_txControl : ∀ t : Fin 32, regWidth (txKey t.val 1) = 32 := by decide +kernel

theorem LaneState.collided_get {l : LaneState} (h : l.RegsCanon) (t : Fin 32) (time : Nat) (ht : time < 2 ^ 64) :
    (l.collided t.val time).collisions t.val = 0 ∧ (l.collided t.val time).get 0x440A01 = t.val ∧
      (l.collided t.val time).get 0x440A03 = time ∧ bitAt ((l.collided t.val time).get 0x440500) 8 = true := by
  have hkey : 0x450000 ≤ txKey t.val 1 := by
    simp only [txKey, key]
    omega
  have hc : (l.setCollisions t.val 0).RegsCanon := h.put _ _
  refine ⟨?_, ?_, ?_, ?_⟩
  · rw [LaneState.collisions, LaneState.collided, LaneState.inc_get_ne _ (by omega), LaneState.put_get_ne _ (by omega),
      LaneState.put_get_ne _ (by omega), LaneState.put_get_ne _ (by omega), LaneState.put_get_ne _ (by omega),
      LaneState.setCollisions, LaneState.put_get_self _ _ _ h, regWidth_txControl]
    exact field_withField_mod (by decide)
  · rw [LaneState.collided, LaneState.inc_get_ne _ (by decide), LaneState.put_get_ne _ (by decide),
      LaneState.put_get_ne _ (by decide), LaneState.put_get_self _ _ _ (hc.put _ _)]
    exact Nat.mod_eq_of_lt (t.isLt.trans_le (by decide))
  · rw [LaneState.collided, LaneState.inc_get_ne _ (by decide), LaneState.put_get_self _ _ _ (((hc.put _ _).put _ _).put _ _)]
    exact Nat.mod_eq_of_lt (ht.trans_le (by decide))
  · rw [LaneState.collided, LaneState.inc_get_ne _ (by decide), LaneState.put_get_ne _ (by decide),
      LaneState.put_get_ne _ (by decide), LaneState.put_get_ne _ (by decide), LaneState.put_get_self _ _ _ hc, bitAt,
      Nat.testBit_mod_two_pow, testBit_withBit_self]
    decide

/-- The lane whose controller recovers from bus-off (R315). -/
def LaneState.recovered (l : LaneState) : LaneState :=
  { (l.put 0x440601 0).put 0x440602 0 with can := { l.can with errState := 0 } }

theorem doBusOffRecoveryDone_off {s : State} {x : LaneId} (h : (s.lane x).can.errState = 2) :
    doBusOffRecoveryDone x s = ((s.upd x LaneState.recovered).lower (.lane x) 72).lower (.lane x) 73 := by
  simp only [doBusOffRecoveryDone, if_pos h]
  rfl

theorem LaneState.recovered_get {l : LaneState} (h : l.RegsCanon) :
    l.recovered.get 0x440601 = 0 ∧ l.recovered.get 0x440602 = 0 :=
  ⟨((l.put 0x440601 0).put_get_ne (by decide) 0).trans (l.put_get_self _ _ h), (l.put 0x440601 0).put_get_self _ _ (h.put _ _)⟩

theorem doIdentifierCollision_third {s : State} {x : LaneId} {t : Fin 32} (hready : (s.lane x).ready = true)
    (hcoll : 3 ≤ (s.lane x).collisions t.val) (time : BitVec 64) :
    doIdentifierCollision x t time s = (s.upd x fun l => l.collided t.val time.toNat).raiseLane x 74 := by
  have hfew : ¬ (!(s.lane x).ready || decide ((s.lane x).collisions t.val < 3)) = true := by simp [hready, hcoll]
  rw [doIdentifierCollision, if_neg hfew]
  exact congrArg (State.raiseLane · x 74) (State.upd_congr rfl)

/-- Settles O31, by the registers that each error changes. -/
theorem carBusErrors : Obligations.CarBusErrors := by
  refine ⟨?_, ?_, ?_, ?_, ?_, ?_, ?_, ?_⟩
  · intro s x o k d n p hcanon hbus hl
    refine Leads.of_eq rfl (doCanError_listening hbus hl o k d n p) ⟨?_, fun j hj => ?_, State.upd_lane_peer _ _ _⟩
    · rw [State.get, State.upd_lane_self, LaneState.busIdle_get, LaneState.attemptEnds_get,
        LaneState.put_get_self _ _ _ (lane_regs_canon hcanon x)]
      exact Nat.mod_eq_of_lt ((canErrCode_lt k).trans_le (by decide))
    · rw [State.get, State.upd_lane_self, LaneState.busIdle_get, LaneState.attemptEnds_get, LaneState.put_get_ne _ hj]
      rfl
  · intro s x k d n hcanon hbus hl
    have hc := lane_regs_canon hcanon x
    refine Leads.of_eq rfl (doCanError_received hbus hl k d n false) ⟨?_, ?_, ?_, State.upd_lane_peer _ _ _⟩
    · rw [State.get, State.upd_lane_self, LaneState.errorSeen_get _ _ (by decide) (by decide), LaneState.receiveErrors,
        LaneState.put_get_self _ _ _ hc]
      exact Nat.mod_eq_of_lt ((Nat.min_le_left _ _).trans_lt (by decide))
    · rw [State.get, State.upd_lane_self, LaneState.errorSeen_get _ _ (by decide) (by decide), LaneState.receiveErrors,
        LaneState.put_get_ne _ (by decide)]
      rfl
    · rw [State.get, State.upd_lane_self, LaneState.errorSeen_last (l := (s.lane x).receiveErrors n.toNat false) (LaneState.RegsCanon.put hc _ _)]
  · intro s x u k d n hcanon hbus hl hmay
    have hc := lane_canon hcanon x
    have hcounted : ((s.lane x).transmitErrors k d n.toNat false).attemptError u.val k d |>.RegsCanon :=
      ((LaneState.Keeps.self.put _ _).attemptError u.val k d |>.1 hc).1
    have hagrees := LaneState.attemptError_agrees ((s.lane x).transmitErrors k d n.toNat false) u.val k d
    refine Leads.of_eq rfl (doCanError_sent hbus hl hmay k d n false) ⟨?_, ?_, ?_, State.upd_lane_peer _ _ _⟩
    · rw [State.get, State.upd_lane_self, LaneState.errorSeen_get _ _ (by decide) (by decide), hagrees _ ⟨by decide, by decide⟩,
        LaneState.transmitErrors, LaneState.put_get_self _ _ _ hc.1]
      exact Nat.mod_eq_of_lt ((Nat.min_le_left _ _).trans_lt (by decide))
    · rw [State.get, State.upd_lane_self, LaneState.errorSeen_get _ _ (by decide) (by decide), hagrees _ ⟨by decide, by decide⟩,
        LaneState.transmitErrors, LaneState.put_get_ne _ (by decide)]
      rfl
    · rw [State.get, State.upd_lane_self, LaneState.errorSeen_last hcounted]
  · intro s x hready herr hl hcount
    exact exec_next rfl (if_pos (by simpa [hready, herr, hl, State.get] using hcount))
  · intro s x hready herr hl hcount
    exact exec_next rfl (if_pos (by simpa [hready, herr, hl, State.get] using hcount))
  · intro s x h₁ h₂
    refine ⟨exec_next rfl (if_neg ?_), exec_next rfl (if_neg ?_)⟩
    · have hcount : ¬ (127 < s.get x 0x440601 ∨ 127 < s.get x 0x440602) := by omega
      exact fun h => hcount (of_decide_eq_true ((Bool.and_eq_true _ _).mp h).2)
    · have hcount : ¬ 255 < s.get x 0x440601 := by omega
      exact fun h => hcount (of_decide_eq_true ((Bool.and_eq_true _ _).mp h).2)
  · intro s x hcanon herr
    have hc : (s.lane x).RegsCanon := lane_regs_canon hcanon x
    refine Leads.of_eq rfl (doBusOffRecoveryDone_off herr) ?_
    rw [State.lower_get, State.lower_get, State.lower_get, State.lower_get, State.lower_lane, State.lower_lane, State.get,
      State.get, State.upd_lane_self]
    exact ⟨rfl, (LaneState.recovered_get hc).1, (LaneState.recovered_get hc).2,
      (testBit_withBit_ne (show (72 : Nat) ≠ 73 by decide) _ _).trans (testBit_withBit_self _ _ _), testBit_withBit_self _ _ _⟩
  · intro s x t time hcanon hready hcoll hq
    have hquiet : Quiet (s.upd x fun l => l.collided t.val time.toNat) x 74 :=
      quiet_of_agrees hq (A := fun k => k < 0x440000) (.upd .self ((s.lane x).collided_agrees _ _)) (by decide) (by decide)
    obtain ⟨h₀, h₁, h₂, h₃⟩ := (s.lane x).collided_get (lane_regs_canon hcanon x) t time.toNat time.isLt
    have hraise (k : Nat) (hk : 0x440000 ≤ k) : ((s.upd x fun l => l.collided t.val time.toNat).raiseLane x 74).get x k =
        ((s.lane x).collided t.val time.toNat).get k := by
      rw [State.raiseLane_get hquiet (by simp only [key]; omega) (by omega) (by omega) (by omega), State.get, State.upd_lane_self]
    have hkey : 0x440000 ≤ txKey t.val 1 := by
      simp only [txKey, key]
      omega
    refine Leads.of_eq rfl (doIdentifierCollision_third hready hcoll time) ⟨?_, (hraise 0x440A01 (by decide)).trans h₁, (hraise 0x440A03 (by decide)).trans h₂,
      (congrArg (bitAt · 8) (hraise 0x440500 (by decide))).trans h₃⟩
    exact (congrArg (field · 20 5) (hraise _ hkey)).trans h₀

end Sys2Proof.Machine

namespace Sys2Proof.Machine

/-! ### Transmit buffers of the car bus (R310 to R313) -/

theorem LaneState.cell_lt {l : LaneState} {row col t : Nat} (h : l.cell row col = some t) : t < 32 := by
  unfold LaneState.cell at h
  dsimp only at h
  split at h
  · next hlt => exact Option.some.inj h ▸ hlt
  · exact absurd h (by simp)

/-- What a slot of a lane with the Pattern on does with the buffer of its cell (R311). -/
theorem doSlotStart_cell {s : State} {x : LaneId} {col : Fin 8} {t : Nat} (hready : (s.lane x).ready = true)
    (hquiet : (s.lane x).quiet = false) (hon : (s.lane x).carBusOn x = true) (hpattern : s.get x 0x440002 = 1)
    (hcol : col.val < s.get x 0x440802) (hcell : (s.lane x).cell ((s.lane x).flow.beat % s.get x 0x440801) col.val = some t) :
    doSlotStart x col s =
      if (s.lane x).txPending t then s.upd x (fun l => (l.inc (txKey t 5)).inc 0x440705)
      else if bitAt ((s.lane x).get (txKey t 1)) 29 && !bitAt (s.lane x).can.changed t then s
      else if (s.lane x).can.listen then s.upd x (fun l => l.suppress t)
      else s.upd x (fun l => l.pend t) := by
  have hguard : ¬ (!(s.lane x).ready || (s.lane x).quiet || !(s.lane x).carBusOn x || (s.lane x).get 0x440002 ≠ 1 ||
      (s.lane x).get 0x440802 ≤ col.val) = true := by
    have hcol' : col.val < (s.lane x).get 0x440802 := hcol
    simp [hready, hquiet, hon, show (s.lane x).get 0x440002 = 1 from hpattern, Nat.not_le.mpr hcol']
  have hcell' : (s.lane x).cell ((s.lane x).flow.beat % (s.lane x).get 0x440801) col.val = some t := hcell
  simp only [doSlotStart, if_neg hguard, hcell']

theorem doSlotStart_nothing {s : State} {x : LaneId} {col : Fin 8} {t : Nat}
    (hcell : (s.lane x).cell ((s.lane x).flow.beat % s.get x 0x440801) col.val = some t) (hpend : (s.lane x).txPending t = false)
    (hupd : bitAt (s.get x (txKey t 1)) 29 = true) (hchanged : bitAt (s.lane x).can.changed t = false) :
    doSlotStart x col s = s := by
  have hcell' : (s.lane x).cell ((s.lane x).flow.beat % (s.lane x).get 0x440801) col.val = some t := hcell
  have hupd' : bitAt ((s.lane x).get (txKey t 1)) 29 = true := hupd
  simp only [doSlotStart, hcell', hpend, hupd', hchanged]
  split <;> rfl

theorem doSlotStart_off {s : State} {x : LaneId} {col : Fin 8} (h : s.get x 0x440002 ≠ 1) : doSlotStart x col s = s := by
  have h' : (s.lane x).get 0x440002 ≠ 1 := h
  simp [doSlotStart, h']

theorem LaneState.pend_get (l : LaneState) (t k : Nat) : (l.pend t).get k = (l.setPending t true).get k := rfl

/-- A buffer made pending is pending. -/
theorem LaneState.setPending_pending {l : LaneState} (h : l.RegsCanon) {t : Nat} (ht : t < 32) (b : Bool) :
    (l.setPending t b).txPending t = b := by
  have hw : regWidth (txKey t 1) = 32 := regWidth_txControl ⟨t, ht⟩
  rw [LaneState.txPending, LaneState.setPending, LaneState.put_get_self _ _ _ h, hw, bitAt, Nat.testBit_mod_two_pow,
    testBit_withBit_self]
  rfl

theorem txKey_ne {t j k : Nat} (h : j ≠ k) : txKey t j ≠ txKey t k := by
  simp only [txKey, key]
  omega

/-- A write of the control word's collisions leaves the pending mark (R312). -/
theorem testBit_withField_outside {n lo w v j : Nat} (h : j < lo ∨ lo + w ≤ j) : (withField n lo w v).testBit j = n.testBit j := by
  have hlo := Nat.mod_lt n (Nat.two_pow_pos lo)
  have hv := Nat.mod_lt v (Nat.two_pow_pos w)
  rw [withField_eq, Nat.add_comm, Nat.testBit_two_pow_mul_add _ hlo]
  rcases h with h | h
  · rw [if_pos h, Nat.testBit_mod_two_pow]
    simp [h]
  · rw [if_neg (by omega), Nat.testBit_two_pow_mul_add _ hv, if_neg (by omega), Nat.testBit_div_two_pow, Nat.testBit_div_two_pow]
    congr 1
    omega

theorem LaneState.setCollisions_pending {l : LaneState} (h : l.RegsCanon) {t : Nat} (ht : t < 32) (n : Nat) :
    (l.setCollisions t n).txPending t = l.txPending t := by
  have hw : regWidth (txKey t 1) = 32 := regWidth_txControl ⟨t, ht⟩
  rw [LaneState.txPending, LaneState.setCollisions, LaneState.put_get_self _ _ _ h, hw, bitAt, Nat.testBit_mod_two_pow,
    testBit_withField_outside (.inr (by decide))]
  simp [LaneState.txPending, bitAt]

theorem LaneState.setCollisions_collisions {l : LaneState} (h : l.RegsCanon) {t n : Nat} (ht : t < 32) (hn : n < 32) :
    (l.setCollisions t n).collisions t = n := by
  have hw : regWidth (txKey t 1) = 32 := regWidth_txControl ⟨t, ht⟩
  rw [LaneState.collisions, LaneState.setCollisions, LaneState.put_get_self _ _ _ h, hw]
  exact (field_withField_mod (by decide)).trans (Nat.mod_eq_of_lt hn)

theorem regWidth_txTime : ∀ t : Fin 32, regWidth (txKey t.val 7) = 64 := by decide +kernel

/-- The measured delay of the transceiver is one register of the lane (R306). -/
theorem State.measureDelay_agrees (s : State) (x : LaneId) (f : CanFrame) :
    s.Agrees (· ≠ 0x440303) x (s.measureDelay x f) ∧ ((s.measureDelay x f).lane x).can = (s.lane x).can := by
  unfold State.measureDelay
  split
  · refine ⟨State.Agrees.put (.other .self rfl rfl) (fun h => h rfl) _, ?_⟩
    change (((s.free 7).2.put x 0x440303 (s.free 7).1).lane x).can = _
    rw [State.put_lane_self]
    cases x <;> rfl
  · exact ⟨.self, rfl⟩

theorem State.errorActive_agrees (s : State) (x : LaneId) (A : Nat → Prop) : s.Agrees A x (s.errorActive x) ∧
    ∃ e, ((s.errorActive x).lane x).can = { (s.lane x).can with errState := e } := by
  unfold State.errorActive
  split
  · exact ⟨State.Agrees.lower (State.Agrees.upd .self (.other .self rfl)) _, 0, by rw [State.lower_lane, State.upd_lane_self]⟩
  · exact ⟨.self, _, rfl⟩

theorem LaneState.busIdle_can (l : LaneState) : l.busIdle.can.changed = l.can.changed ∧ l.busIdle.can.sent = l.can.sent := by
  unfold LaneState.busIdle
  split <;> exact ⟨rfl, rfl⟩

theorem LaneState.frameSent_can (l : LaneState) (t time : Nat) :
    (l.frameSent t time).can.changed = withBit l.can.changed t (l.changedSince t time) ∧
      (l.frameSent t time).can.sent = some (l.frameAt t time) :=
  LaneState.busIdle_can _

/-- The lane after a frame of buffer t is sent, but for the transmit error count. -/
def LaneState.sentRegs (l : LaneState) (t time : Nat) : LaneState :=
  ((((l.txDropped t).setCollisions t 0).put (txKey t 7) time).inc (txKey t 3)).inc 0x440703

theorem LaneState.frameSent_reg (l : LaneState) (t time : Nat) :
    ∃ n, (l.frameSent t time).reg = ((l.sentRegs t time).put 0x440601 n).reg := by
  refine ⟨(((l.txDropped t).setCollisions t 0).put (txKey t 7) time).get 0x440601 - 1, ?_⟩
  simp only [LaneState.frameSent, LaneState.busIdle_reg, LaneState.attemptEnds, LaneState.sentRegs]

theorem LaneState.frameSent_sentRegs (l : LaneState) (t time : Nat) {k : Nat} (h : k ≠ 0x440601) :
    (l.frameSent t time).get k = (l.sentRegs t time).get k := by
  obtain ⟨n, hn⟩ := l.frameSent_reg t time
  exact (congrArg (tabGet regDefault k) hn).trans (LaneState.put_get_ne _ h _)

/-- The registers after a frame of buffer t is sent: its pending mark and collision count, its time, and the counts. -/
theorem LaneState.frameSent_get {l : LaneState} (h : l.RegsCanon) (t : Fin 32) {time : Nat} (ht : time < 2 ^ 64)
    (hcount : l.get 0x440703 < 1000) :
    (l.frameSent t.val time).txPending t.val = false ∧ (l.frameSent t.val time).collisions t.val = 0 ∧
      (l.frameSent t.val time).get (txKey t.val 7) = time ∧ (l.frameSent t.val time).get 0x440703 = l.get 0x440703 + 1 := by
  have hkey (sub : Nat) : 0x450000 ≤ txKey t.val sub := by
    simp only [txKey, key]
    omega
  have hdropped : (l.txDropped t.val).RegsCanon := h.put _ _
  have hcleared : ((l.txDropped t.val).setCollisions t.val 0).RegsCanon := hdropped.put _ _
  have hframe (k : Nat) (h₀ : k ≠ 0x440601) (h₁ : k ≠ 0x440703) (h₂ : k ≠ txKey t.val 3) : (l.frameSent t.val time).get k =
      (((l.txDropped t.val).setCollisions t.val 0).put (txKey t.val 7) time).get k := by
    rw [LaneState.frameSent_sentRegs _ _ _ h₀, LaneState.sentRegs, LaneState.inc_get_ne _ h₁, LaneState.inc_get_ne _ h₂]
  have hcontrol : (l.frameSent t.val time).get (txKey t.val 1) =
      ((l.txDropped t.val).setCollisions t.val 0).get (txKey t.val 1) := by
    have hk := hkey 1
    exact (hframe _ (by omega) (by omega) (txKey_ne (by decide))).trans (LaneState.put_get_ne _ (txKey_ne (by decide)) _)
  refine ⟨?_, ?_, ?_, ?_⟩
  · exact (congrArg (bitAt · 30) hcontrol).trans ((LaneState.setCollisions_pending hdropped t.isLt 0).trans
      (LaneState.setPending_pending h t.isLt false))
  · exact (congrArg (Machine.field · 20 5) hcontrol).trans (LaneState.setCollisions_collisions hdropped t.isLt (by decide))
  · have hk := hkey 7
    rw [hframe _ (by omega) (by omega) (txKey_ne (by decide)), LaneState.put_get_self _ _ _ hcleared, regWidth_txTime t]
    exact Nat.mod_eq_of_lt ht
  · have hk (sub : Nat) : 0x440703 ≠ txKey t.val sub := by
      have := hkey sub
      omega
    have hbefore : ((((l.txDropped t.val).setCollisions t.val 0).put (txKey t.val 7) time).inc (txKey t.val 3)).get 0x440703 =
        l.get 0x440703 :=
      (LaneState.inc_get_ne _ (hk 3)).trans ((LaneState.put_get_ne _ (hk 7) _).trans ((LaneState.put_get_ne _ (hk 1) _).trans
        (LaneState.put_get_ne l (hk 1) _)))
    rw [LaneState.frameSent_sentRegs _ _ _ (by decide), LaneState.sentRegs, LaneState.inc_get_self _ _ ((hcleared.put _ _).inc _)]
    · rw [hbefore]
    · rw [hbefore]
      exact lt_of_lt_of_le (Nat.succ_lt_succ hcount) (by decide)

/-- A buffer of on-update with a change, or one without on-update, is sent in its slot. -/
theorem not_slotWaits {s : State} {x : LaneId} {t : Nat}
    (h : bitAt (s.get x (txKey t 1)) 29 = true → bitAt (s.lane x).can.changed t = true) :
    ¬ (bitAt ((s.lane x).get (txKey t 1)) 29 && !bitAt (s.lane x).can.changed t) = true := by
  have h' : bitAt ((s.lane x).get (txKey t 1)) 29 = true → bitAt (s.lane x).can.changed t = true := h
  simp only [Bool.and_eq_true, Bool.not_eq_true', not_and, Bool.not_eq_false]
  exact h'

/-- Settles O30, by what each command does with the buffer's control word. -/
theorem transmitBuffers : Obligations.TransmitBuffers := by
  refine ⟨?_, ?_, ?_, ?_, ?_, ?_, ?_, ?_, ?_, ?_, ?_⟩
  · intro s a x t hr
    exact exec_next rfl ((State.through_of_reaches hr _).trans (State.command_runs hr rfl rfl))
  · intro s x col t hready hquiet hon hpattern hcol hcell hlisten hpend hupd
    have hsends := not_slotWaits hupd
    refine exec_next rfl ((doSlotStart_cell hready hquiet hon hpattern hcol hcell).trans ?_)
    rw [if_neg (by simp [hpend]), if_neg hsends, if_pos hlisten]
    rfl
  · intro s x col t hcell hpend hupd hchanged
    exact exec_next rfl (doSlotStart_nothing hcell hpend hupd hchanged)
  · intro s x col t hready hquiet hon hpattern hcol hcell hpend
    exact exec_next rfl ((doSlotStart_cell hready hquiet hon hpattern hcol hcell).trans (if_pos hpend))
  · intro s x col t hcanon hready hquiet hon hpattern hcol hcell hlisten hpend hupd
    have hsends := not_slotWaits hupd
    have hlane : (s.upd x fun l => l.pend t).lane x = (s.lane x).pend t := s.upd_lane_self x _
    refine Leads.of_eq rfl ((doSlotStart_cell hready hquiet hon hpattern hcol hcell).trans
      ((if_neg (by simp [hpend])).trans ((if_neg hsends).trans (if_neg (by simp [hlisten]))))) ⟨?_, ?_, s.upd_lane_peer x _,
        fun k hk => ?_⟩
    · rw [hlane]
      exact LaneState.setPending_pending (lane_regs_canon hcanon x) (LaneState.cell_lt hcell) true
    · rw [hlane]
      exact testBit_withBit_self _ _ _
    · rw [State.get, hlane, LaneState.pend_get, LaneState.setPending, LaneState.put_get_ne _ hk]
      rfl
  · intro s x col h
    exact exec_next rfl (doSlotStart_off h)
  · intro s x t time hcanon hwin hbus hcount
    obtain ⟨h₀, h₁, h₂, h₃⟩ := LaneState.frameSent_get (lane_regs_canon hcanon x) t time.isLt hcount
    obtain ⟨hch, hsent⟩ := (s.lane x).frameSent_can t.val time.toNat
    have hlane : (s.upd x fun l => l.frameSent t.val time.toNat).lane x = (s.lane x).frameSent t.val time.toNat :=
      s.upd_lane_self x _
    obtain ⟨hdelay, hdelaycan⟩ := (s.upd x fun l => l.frameSent t.val time.toNat).measureDelay_agrees x
      ((s.lane x).frameAt t.val time.toNat)
    obtain ⟨hactive, e, hcan⟩ := ((s.upd x fun l => l.frameSent t.val time.toNat).measureDelay x
      ((s.lane x).frameAt t.val time.toNat)).errorActive_agrees x (· ≠ 0x440303)
    rw [hdelaycan, hlane] at hcan
    have hall := hdelay.trans hactive
    have hkey (sub : Nat) : txKey t.val sub ≠ 0x440303 := by
      simp only [txKey, key]
      omega
    have hget {k : Nat} (hk : k ≠ 0x440303) := (hall.get hk).trans (congrArg (LaneState.get · k) hlane)
    refine Leads.of_eq rfl (if_neg (by simp [hwin, hbus])) ⟨?_, ?_, (hget (hkey 7)).trans h₂, (hget (by decide)).trans h₃, ?_, ?_,
      hall.2.trans (s.upd_lane_peer x _)⟩
    · exact (congrArg (bitAt · 30) (hget (hkey 1))).trans h₀
    · exact (congrArg (Machine.field · 20 5) (hget (hkey 1))).trans h₁
    · rw [hcan]
      exact (congrArg (bitAt · t.val) hch).trans (testBit_withBit_self _ _ _)
    · rw [hcan]
      exact hsent
  · intro s x t time hwin
    exact exec_next rfl (if_pos (by simp [hwin]))
  · intro s x t hready hpend hlate
    exact exec_next rfl (if_pos (by simp [hready, hpend, hlate]))
  · intro s x t hlate
    exact exec_next rfl (if_neg (by simp [hlate]))
  · intro s x t hbus hmay hpattern hlisten
    refine exec_next rfl ((if_pos (by simp [hbus, hmay])).trans (State.upd_congr ?_))
    have hstays : ¬ (((s.lane x).inc 0x440707).get 0x440002 ≠ 1 ∨ ((s.lane x).inc 0x440707).can.listen = true) := by
      rw [LaneState.inc_get_ne _ (by decide), LaneState.inc_can, hlisten]
      have hpattern' : (s.lane x).get 0x440002 = 1 := hpattern
      simp [hpattern']
    simp only [LaneState.attemptFailed, if_neg hstays]
    rfl

end Sys2Proof.Machine

namespace Sys2Proof.Machine

/-! ### Data lengths and reception on the car bus (R307 to R309) -/

theorem dlcBytes_le (fdf : Bool) (n : Nat) : dlcBytes fdf n ≤ 64 := by
  unfold dlcBytes
  split
  · omega
  · split
    · decide
    · split <;> decide

theorem canLength_le (f : CanFrame) : canLength f ≤ 64 := by
  unfold canLength
  split
  · decide
  · exact dlcBytes_le _ _

theorem canData_length (f : CanFrame) : (canData f).length = canLength f := by
  have h := canLength_le f
  simp only [canData, List.length_take, List.length_append, List.length_replicate]
  omega

/-- The error counts and the count of received frames. -/
def OfErrors (k : Nat) : Prop := k = 0x440601 ∨ k = 0x440602 ∨ k = 0x440701

theorem key_not_ofErrors {i j : Nat} (h : 0x4480 ≤ i) : ¬ OfErrors (key i j) := by
  simp only [OfErrors, key]
  omega

theorem LaneState.putWords_agrees (l : LaneState) {A : Nat → Prop} {index sub : Nat} (bytes : List Byte)
    (hA : ∀ j, ¬ A (key index j)) : l.Agrees A (l.putWords index sub bytes) :=
  .foldl .self _ fun _ _ _ h => h.put (hA _) _

theorem LaneState.storeFrame_agrees (l : LaneState) {index : Nat} (f : CanFrame) (time : Nat) (h : 0x4480 ≤ index) :
    l.Agrees OfErrors (l.storeFrame index f time) := by
  have hA (j : Nat) : ¬ OfErrors (key index j) := key_not_ofErrors h
  refine .ite (.inc (.inc ?_ (hA 5)) (by simp only [OfErrors]; omega)) ?_
  all_goals exact (LaneState.Agrees.trans (.put (.put (.put .self (hA 1) _) (hA 2) _) (hA 3) _)
    (LaneState.putWords_agrees _ _ hA)).inc (hA 4)

theorem LaneState.fillLatches_agrees (l : LaneState) (f : CanFrame) (time : Nat) : l.Agrees OfErrors (l.fillLatches f time) := by
  have hA (g j : Nat) : ¬ OfErrors (ruleKey g j) := key_not_ofErrors (by omega)
  exact .foldl .self _ fun _ _ _ h => .ite h (.ite (h.inc (hA _ _)) (.put (h.other rfl) (hA _ _) _))

theorem LaneState.placeOf_le {l : LaneState} {f : CanFrame} {i : Nat} (h : l.placeOf f = some i) : 0x4480 ≤ i := by
  unfold LaneState.placeOf at h
  extract_lets w prio at h
  cases hp : prio with
  | some j =>
    rw [hp] at h
    obtain rfl := Option.some.inj h
    have hj := List.mem_of_find?_eq_some hp
    simp only [List.mem_cons, List.not_mem_nil, or_false] at hj
    omega
  | none =>
    rw [hp] at h
    obtain ⟨k, -, rfl⟩ := Option.map_eq_some_iff.mp h
    omega

/-- The controller's settings that a received frame leaves until the bus is idle. -/
def LaneState.SameMode (l m : LaneState) : Prop := m.can.listen = l.can.listen ∧ m.can.retime = l.can.retime

theorem LaneState.SameMode.ite {l m n : LaneState} {c : Prop} [Decidable c] (h : l.SameMode m) (h' : l.SameMode n) :
    l.SameMode (if c then m else n) := by
  split
  · exact h
  · exact h'

theorem LaneState.SameMode.put {l m : LaneState} (h : l.SameMode m) (k v : Nat) : l.SameMode (m.put k v) := h

theorem LaneState.SameMode.latches {l m : LaneState} (h : l.SameMode m) (k : List (Nat × Latch)) :
    l.SameMode { m with can := { m.can with latches := k } } := h

theorem LaneState.putWords_regOnly {l m : LaneState} (h : l.RegOnly m) (index sub : Nat) (bytes : List Byte) :
    l.RegOnly (m.putWords index sub bytes) := .foldl h _ fun _ _ _ h => h.put _ _

theorem LaneState.storeFrame_regOnly (l : LaneState) (index : Nat) (f : CanFrame) (time : Nat) :
    l.RegOnly (l.storeFrame index f time) := by
  unfold LaneState.storeFrame
  extract_lets k was again w put stored
  have hput : l.RegOnly put := .put (.put (.put .self k w) (key index 2) _) (key index 3) _
  have hstored : l.RegOnly stored :=
    (LaneState.putWords_regOnly hput index 0x10 ((canData f ++ List.replicate 64 0).take 64)).inc (key index 4)
  clear_value again stored
  exact .ite (.inc (.inc hstored (key index 5)) 0x440708) hstored

theorem LaneState.fillLatches_mode (l : LaneState) (f : CanFrame) (time : Nat) : l.SameMode (l.fillLatches f time) :=
  List.foldlRecOn (motive := l.SameMode) _ _ ⟨rfl, rfl⟩ fun _ h _ _ => .ite h (.ite (h.put _ _) ((h.latches _).put _ _))

/-- The lane that takes a frame, before its error counts move (R308). -/
def LaneState.takesFrame (l : LaneState) (f : CanFrame) (time : Nat) : LaneState :=
  let l := match l.placeOf f with
    | some i => l.storeFrame i f time
    | none => l.inc 0x440702
  (l.fillLatches f time).attemptEnds.busIdle

theorem LaneState.takesFrame_agrees (l : LaneState) (f : CanFrame) (time : Nat) : l.Agrees OfErrors (l.takesFrame f time) := by
  have hplace : l.Agrees OfErrors (match l.placeOf f with
      | some i => l.storeFrame i f time
      | none => l.inc 0x440702) := by
    cases h : l.placeOf f with
    | some i => exact l.storeFrame_agrees f time (LaneState.placeOf_le h)
    | none => exact .inc .self (by simp [OfErrors])
  exact (hplace.trans (LaneState.fillLatches_agrees _ f time)).other (LaneState.busIdle_reg _)

theorem LaneState.busIdle_listen (l : LaneState) : l.busIdle.can.listen = l.can.listen ∧
    (l.can.retime = true → l.busIdle.can.integrating = true) := by
  unfold LaneState.busIdle
  split
  · exact ⟨rfl, fun _ => rfl⟩
  · next h => exact ⟨rfl, fun h' => absurd h' h⟩

theorem LaneState.takesFrame_can (l : LaneState) (f : CanFrame) (time : Nat) : (l.takesFrame f time).can.listen = l.can.listen ∧
    (l.can.retime = true → (l.takesFrame f time).can.integrating = true) := by
  have hplace : (match l.placeOf f with
      | some i => l.storeFrame i f time
      | none => l.inc 0x440702 : LaneState).can = l.can := by
    cases l.placeOf f with
    | some i => exact (l.storeFrame_regOnly i f time).can
    | none => rfl
  unfold LaneState.takesFrame
  extract_lets m
  obtain ⟨hlisten, hretime⟩ := m.fillLatches_mode f time
  obtain ⟨hl, hi⟩ := (m.fillLatches f time).attemptEnds.busIdle_listen
  have hm : m.can = l.can := hplace
  rw [hm] at hlisten hretime
  exact ⟨hl.trans hlisten, fun h => hi (hretime.trans h)⟩

theorem LaneState.takesFrame_canon {l : LaneState} (h : LaneCanon l) (f : CanFrame) (time : Nat) :
    (l.takesFrame f time).RegsCanon := by
  have hplace : l.Keeps (match l.placeOf f with
      | some i => l.storeFrame i f time
      | none => l.inc 0x440702) := by
    split
    · exact LaneState.Keeps.self.storeFrame _ f _
    · exact LaneState.Keeps.self.inc _
  exact ((hplace.fillLatches f time).attemptEnds.busIdle.1 h).1

theorem doCanFrameReceived_on {s : State} {x : LaneId} (h : (s.lane x).onBus = true) (f : CanFrame) (time : BitVec 64) :
    doCanFrameReceived x f time s =
      let u := (s.inc x 0x440701).upd x (fun l => l.takesFrame f time.toNat)
      (if (u.lane x).can.listen then u else (u.frameWithoutError x).errorActive x).stationFrame x f := by
  rw [doCanFrameReceived, if_neg (by simp [h])]
  rfl

/-- The counts of the stations and their state are no part of the error counts, nor of the controller. -/
theorem State.stationFrame_agrees (s : State) (x : LaneId) (f : CanFrame) :
    s.Agrees OfErrors x (s.stationFrame x f) ∧ ((s.stationFrame x f).lane x).can = (s.lane x).can := by
  have hkey (k j : Nat) : ¬ OfErrors (key (0x4480 + k) j) := key_not_ofErrors (by omega)
  have hregs (l : LaneState) : l.Agrees OfErrors (l.stations.foldl (fun m k =>
      if canMatches (canWord f) (m.get (key (0x4480 + k) 2)) (m.get (key (0x4480 + k) 3)) then
        (m.put (key (0x4480 + k) 6) 0).put (key (0x4480 + k) 5) 1 else m) l) :=
    .foldl .self _ fun m k _ h => .ite ((h.put (hkey k 6) _).put (hkey k 5) _) h
  have hcan (l : LaneState) : (l.stations.foldl (fun m k =>
      if canMatches (canWord f) (m.get (key (0x4480 + k) 2)) (m.get (key (0x4480 + k) 3)) then
        (m.put (key (0x4480 + k) 6) 0).put (key (0x4480 + k) 5) 1 else m) l).can = l.can :=
    LaneState.RegOnly.can (.foldl .self _ fun m k _ h => .ite ((h.put _ _).put _ _) h)
  unfold State.stationFrame State.followStations
  dsimp only
  split
  · exact ⟨.upd .self (hregs _), by rw [State.upd_lane_self]; exact hcan _⟩
  · exact ⟨.lower (.upd .self (hregs _)) _, by rw [State.lower_lane, State.upd_lane_self]; exact hcan _⟩

/-- A frame without error moves the receive error count alone (R314). -/
theorem State.frameWithoutError_agrees (s : State) (x : LaneId) : s.Agrees (· ≠ 0x440602) x (s.frameWithoutError x) ∧
    ((s.frameWithoutError x).lane x).can = (s.lane x).can := by
  unfold State.frameWithoutError
  dsimp only
  split
  · exact ⟨.self, rfl⟩
  · split
    · exact ⟨.put .self (fun h => h rfl) _, by rw [State.put_lane_self, LaneState.put_can]⟩
    · refine ⟨.put (.other .self rfl rfl) (fun h => h rfl) _, ?_⟩
      rw [State.put_lane_self, LaneState.put_can]
      cases x <;> rfl

theorem State.frameWithoutError_five {s : State} {x : LaneId} (hc : (s.lane x).RegsCanon) (h : s.get x 0x440602 = 5) :
    (s.frameWithoutError x).get x 0x440602 = 4 := by
  have hput : s.frameWithoutError x = s.put x 0x440602 4 := by simp [State.frameWithoutError, h]
  rw [hput, State.get, State.put_lane_self, LaneState.put_get_self _ _ _ hc]
  decide

/-- The lane after a received frame: its count, its error counts, and its controller. -/
theorem doCanFrameReceived_spec {s : State} {x : LaneId} (hcanon : Canon s) (hbus : (s.lane x).onBus = true)
    (f : CanFrame) (time : BitVec 64) (hcount : s.get x 0x440701 < 1000) :
    (doCanFrameReceived x f time s).get x 0x440701 = s.get x 0x440701 + 1 ∧
    ((s.lane x).can.listen = true → (doCanFrameReceived x f time s).get x 0x440601 = s.get x 0x440601 ∧
      (doCanFrameReceived x f time s).get x 0x440602 = s.get x 0x440602) ∧
    (s.get x 0x440602 = 5 → (s.lane x).can.listen = false → (doCanFrameReceived x f time s).get x 0x440602 = 4) ∧
    ((s.lane x).can.retime = true → ((doCanFrameReceived x f time s).lane x).can.integrating = true) ∧
    (doCanFrameReceived x f time s).lane x.peer = s.lane x.peer := by
  rw [doCanFrameReceived_on hbus]
  generalize hu : (s.inc x 0x440701).upd x (fun l => l.takesFrame f time.toNat) = u
  have hlane : u.lane x = ((s.lane x).inc 0x440701).takesFrame f time.toNat := by
    rw [← hu, State.upd_lane_self, State.inc_lane_self]
  have hpeer : u.lane x.peer = s.lane x.peer := by
    rw [← hu, State.upd_lane_peer, State.inc_lane_peer]
  have hcan := ((s.lane x).inc 0x440701).takesFrame_can f time.toNat
  rw [← hlane, LaneState.inc_can] at hcan
  obtain ⟨hlisten, hretime⟩ := hcan
  have huc : (u.lane x).RegsCanon :=
    hlane ▸ LaneState.takesFrame_canon (LaneState.Keeps.self.inc 0x440701 |>.1 (lane_canon hcanon x)) f time.toNat
  have hget {k : Nat} (hk : OfErrors k) : u.get x k = ((s.lane x).inc 0x440701).get k :=
    (congrArg (LaneState.get · k) hlane).trans (LaneState.takesFrame_agrees _ f _ k hk)
  have hsame {k : Nat} (hk : OfErrors k) (hne : k ≠ 0x440701) : u.get x k = s.get x k :=
    (hget hk).trans (LaneState.inc_get_ne _ hne)
  have hcounted : u.get x 0x440701 = s.get x 0x440701 + 1 :=
    (hget (.inr (.inr rfl))).trans (LaneState.inc_get_self _ _ (lane_regs_canon hcanon x)
      (lt_of_lt_of_le (Nat.succ_lt_succ hcount) (by decide)))
  obtain ⟨hfree, hfreecan⟩ := u.frameWithoutError_agrees x
  obtain ⟨hactive, e, hecan⟩ := (u.frameWithoutError x).errorActive_agrees x OfErrors
  dsimp only
  cases hl : (u.lane x).can.listen with
  | true =>
    rw [if_pos rfl]
    obtain ⟨hst, hstcan⟩ := u.stationFrame_agrees x f
    refine ⟨(hst.get (.inr (.inr rfl))).trans hcounted, fun _ => ⟨(hst.get (.inl rfl)).trans (hsame (.inl rfl) (by decide)),
      (hst.get (.inr (.inl rfl))).trans (hsame (.inr (.inl rfl)) (by decide))⟩, fun _ h => ?_, fun h => ?_, hst.2.trans hpeer⟩
    · rw [← hlisten, hl] at h
      exact absurd h (by decide)
    · rw [hstcan]
      exact hretime h
  | false =>
    rw [if_neg (by decide)]
    obtain ⟨hst, hstcan⟩ := ((u.frameWithoutError x).errorActive x).stationFrame_agrees x f
    have hall := hactive.trans hst
    refine ⟨(hall.get (.inr (.inr rfl))).trans ((hfree.get (by decide)).trans hcounted), fun h => ?_, fun h _ => ?_, fun h => ?_,
      hall.2.trans (hfree.2.trans hpeer)⟩
    · rw [← hlisten, hl] at h
      exact absurd h (by decide)
    · exact (hall.get (.inr (.inl rfl))).trans (State.frameWithoutError_five huc ((hsame (.inr (.inl rfl)) (by decide)).trans h))
    · rw [hstcan, hecan, hfreecan]
      exact hretime h

/-- The first three registers of a receive place. -/
def OfPlace (index k : Nat) : Prop := k = key index 1 ∨ k = key index 2 ∨ k = key index 3

/-- A stored frame's control word, identifier and time are what was written. -/
theorem LaneState.storeFrame_get (l : LaneState) {index : Nat} (f : CanFrame) (time : Nat) (h : 0x4520 ≤ index) :
    ∃ r, r < 2 ^ 31 ∧ r % 65536 = canLength f ∧ (((l.put (key index 1) (2 ^ 31 + r)).put (key index 2) (canWord f % 2 ^ 29)).put
      (key index 3) time).Agrees (OfPlace index) (l.storeFrame index f time) := by
  have hb (b : Bool) : b2n b ≤ 1 := by cases b <;> decide
  have hA (j : Nat) (hj : 4 ≤ j) : ¬ OfPlace index (key index j) := by
    simp only [OfPlace, key]
    omega
  have hwords (m : LaneState) (bytes : List Byte) : m.Agrees (OfPlace index) (m.putWords index 0x10 bytes) :=
    .foldl .self _ fun _ _ _ h => h.put (hA _ (by omega)) _
  unfold LaneState.storeFrame
  extract_lets k was again w put stored
  have hlen := canLength_le f
  have hdlc := f.dlc.isLt
  refine ⟨b2n (again || bitAt was 30) * 2 ^ 30 + b2n f.ide * 2 ^ 27 + b2n f.fdf * 2 ^ 26 + b2n f.brs * 2 ^ 25
    + b2n f.esi * 2 ^ 24 + b2n f.rtr * 2 ^ 23 + f.dlc.toNat * 65536 + canLength f, ?_, by omega, ?_⟩
  · have h₀ := hb (again || bitAt was 30)
    have h₁ := hb f.ide
    have h₂ := hb f.fdf
    have h₃ := hb f.brs
    have h₄ := hb f.esi
    have h₅ := hb f.rtr
    omega
  · have hput : put = (((l.put (key index 1) _).put (key index 2) _).put (key index 3) time) := rfl
    have hstored : put.Agrees (OfPlace index) stored := (hwords put _).inc (hA 4 (by decide))
    have hend := LaneState.Agrees.ite (c := again = true) (.inc (.inc hstored (hA 5 (by decide))) (k := 0x440708)
      (by simp only [OfPlace, key]; omega)) hstored
    simpa only [hput, w, k, Nat.add_assoc] using hend

theorem regWidth_place : ∀ i : Fin 66, regWidth (key (0x4520 + i.val) 1) = 32 ∧ regWidth (key (0x4520 + i.val) 2) = 32 ∧
    regWidth (key (0x4520 + i.val) 3) = 64 := by decide +kernel

/-- Settles O28, from the lane after a received frame and the registers of a receive place. -/
theorem carBusReception : Obligations.CarBusReception := by
  refine ⟨fun fdf n h => if_pos h, ?_, by decide, fun f => ⟨canData_length f, canLength_le f⟩, fun f h => if_pos h, ?_, ?_, ?_⟩
  · intro n h₁ h₂
    simp [dlcBytes, Nat.not_le.mpr h₁]
  · intro s x f time h
    exact exec_next rfl (if_pos (by simp [h]))
  · intro s x f time hcanon hbus hcount
    exact Leads.of_eq rfl rfl (doCanFrameReceived_spec hcanon hbus f time hcount)
  · intro l index f time hc h₁ h₂ ht
    obtain ⟨r, hr, hlen, hagree⟩ := l.storeFrame_get f time h₁
    obtain ⟨hw₁, hw₂, hw₃⟩ := regWidth_place ⟨index - 0x4520, by omega⟩
    have hindex : 0x4520 + (index - 0x4520) = index := by omega
    simp only [hindex] at hw₁ hw₂ hw₃
    have hc₁ : (l.put (key index 1) (2 ^ 31 + r)).RegsCanon := LaneState.RegsCanon.put hc _ _
    have hcontrol : (l.storeFrame index f time).get (key index 1) = 2 ^ 31 + r := by
      rw [hagree _ (.inl rfl), LaneState.put_get_ne _ (by simp only [key]; omega), LaneState.put_get_ne _ (by simp only [key]; omega),
        LaneState.put_get_self _ _ _ hc, hw₁]
      exact Nat.mod_eq_of_lt (by omega)
    refine ⟨?_, ?_, ?_, ?_⟩
    · rw [hcontrol, bitAt, Nat.testBit_eq_decide_div_mod_eq]
      exact decide_eq_true (by omega)
    · rw [hcontrol]
      omega
    · rw [hagree _ (.inr (.inl rfl)), LaneState.put_get_ne _ (by simp only [key]; omega), LaneState.put_get_self _ _ _ hc₁, hw₂]
      exact Nat.mod_eq_of_lt ((Nat.mod_lt _ (by decide)).trans (by decide))
    · rw [hagree _ (.inr (.inr rfl)), LaneState.put_get_self _ _ _ (hc₁.put _ _), hw₃]
      exact Nat.mod_eq_of_lt ht

end Sys2Proof.Machine

namespace Sys2Proof.Machine

/-! ### A pin number that no pin has, among the limits that wait for the end of an inrush window

`takeLimits` writes the limit of every waiting pin to entry 1331h at the pin's number plus 1; the canonical form of a lane
does not bound these numbers, so that a waiting limit can name any register above that entry. -/

/-- The number under which a waiting limit is written to register k. -/
def strayPin (k : Nat) : Nat := k - key 0x1331 1

/-- Lane A at work with pin 0 driven, and a limit that waits under the number of register k. -/
def strayLimit (k v : Nat) : State := atWork.upd .A fun l => { l with
  field := { l.field with
    pins := [(0, { Pin.off with driver := true })], fed := true, supplyKnown := true, measured := some 2 }
  plan := { l.plan with waiting := [(strayPin k, v)] } }

/-- The status of pin 0 is overwritten as the pin is switched off. -/
def strayStatus : State := strayLimit (pinKey 0 11) 0

theorem strayStatus_unlatched : Canon strayStatus ∧ strayStatus.collects (.lane .A) = true ∧
    ((strayStatus.lane .A).pin 0).driver = true ∧ (strayStatus.lane .A).pinBit 0 10 = false ∧ Quiet strayStatus .A 82 ∧
    strayStatus.get .A (pinKey 0 17) < 1000 ∧ ((doOutputOverload .A 0 false strayStatus).lane .A).pinBit 0 13 = false := by decide +kernel

/-- Refutes O34: a limit that waits under the number of the pin's status clears the latch that the overload sets. -/
theorem not_outputsAndProtection : ¬ Obligations.OutputsAndProtection := by
  rintro ⟨hoverload, -⟩
  obtain ⟨hcanon, hcollects, hdriver, hinrush, hquiet, hcount, hunlatched⟩ := strayStatus_unlatched
  obtain ⟨t, hexec, -, hlatched, -⟩ := hoverload strayStatus .A 0 hcanon hcollects hdriver hinrush hquiet hcount
  obtain rfl : doOutputOverload .A 0 false strayStatus = t := Host.Outcome.next.inj hexec
  exact absurd (hunlatched.symm.trans hlatched) (by decide)

/-- The function of pin 0 is overwritten as the pin takes a new one. -/
def strayFunction : State := strayLimit (pinKey 0 1) 0

/-- Lane A, over the service port. -/
def serviceLaneA : Acc := ⟨.service 0, .lane .A⟩

theorem strayFunction_other : Canon strayFunction ∧ Reaches strayFunction serviceLaneA 2 .A ∧
    ((doPinFunctionChange serviceLaneA 0 1 strayFunction).lane .A).pinFunction 0 ≠ 1 := by decide +kernel

/-- Refutes O33: a limit that waits under the number of the pin's function replaces the function that is written. -/
theorem not_inputsAndPinConfiguration : ¬ Obligations.InputsAndPinConfiguration := by
  rintro ⟨-, -, -, -, -, -, -, -, -, -, hchange, -⟩
  obtain ⟨hcanon, hreaches, hother⟩ := strayFunction_other
  obtain ⟨t, hexec, hfunction, -⟩ := hchange strayFunction serviceLaneA .A 0 1 hcanon rfl hreaches (by decide)
  obtain rfl : doPinFunctionChange serviceLaneA 0 1 strayFunction = t := Host.Outcome.next.inj hexec
  exact hother hfunction

/-- The field supply's state is overwritten as a missing supply switches the pins off. -/
def straySupply : State := (strayLimit 0x510300 0).put .A 0x510300 0

theorem straySupply_other : Canon straySupply ∧ straySupply.collects (.lane .A) = true ∧
    (straySupply.lane .A).field.powered = true ∧ (straySupply.lane .A).field.supplyKnown = true ∧
    (straySupply.lane .A).supplyState = 0 ∧ (straySupply.lane .A).field.measured = some 2 ∧
    Quiet straySupply .A 85 ∧ Quiet straySupply .A 86 ∧
    ((doFieldSupplyMeasure .A 100 straySupply).lane .A).supplyState ≠ 2 := by decide +kernel

/-- Refutes O35: a limit that waits under the number of entry 5103h replaces the supply's state. -/
theorem not_lampsAndFieldSupply : ¬ Obligations.LampsAndFieldSupply := by
  rintro ⟨-, -, -, -, -, -, -, -, hmissing, -⟩
  obtain ⟨hcanon, hcollects, hpowered, hknown, hgood, hmeasured, hq85, hq86, hother⟩ := straySupply_other
  obtain ⟨t, hexec, hstate, -⟩ := hmissing straySupply .A 100 hcanon hcollects hpowered hknown hgood hmeasured (by decide) hq85 hq86
  obtain rfl : doFieldSupplyMeasure .A 100 straySupply = t := Host.Outcome.next.inj hexec
  exact hother hstate

/-- The count of the watchdog's expiries is overwritten as the pins take their safe states. -/
def strayCount : State := (strayLimit 0x510A00 5).put .A (pinKey 0 1) 1

theorem strayCount_other : Canon strayCount ∧ (strayCount.lane .A).field.powered = true ∧
    (strayCount.lane .A).field.run = true ∧ (strayCount.lane .A).field.fed = true ∧ strayCount.get .A 0x510A00 < 1000 ∧
    (doFieldWatchdogExpiry .A strayCount).get .A 0x510A00 ≠ strayCount.get .A 0x510A00 + 1 := by
  decide +kernel

/-- Refutes O32: a limit that waits under the number of entry 510Ah replaces the count of expiries. -/
theorem not_isolationAndWatchdog : ¬ Obligations.IsolationAndWatchdog := by
  rintro ⟨-, -, -, -, -, -, -, -, hexpiry, -⟩
  obtain ⟨hcanon, hpowered, hrun, hfed, hcount, hother⟩ := strayCount_other
  obtain ⟨t, hexec, -, -, -, hcounted, -⟩ := hexpiry strayCount .A hcanon hpowered hrun hfed hcount
  obtain rfl : doFieldWatchdogExpiry .A strayCount = t := Host.Outcome.next.inj hexec
  exact hother hcounted

end Sys2Proof.Machine

namespace Sys2Proof.Machine

/-- Lane A with a pin function to take back to its default, source 66 at level 4, and a limit that waits under the number of
the register that names the cause of a reset. -/
def strayCause : State :=
  (((strayLimit 0x140B01 0).put .A (pinKey 0 1) 1).put .A 0x101002 2).put .A (key (0x1410 + 66) 1) 4

theorem strayCause_other : Canon strayCause ∧ strayCause.collects (.lane .A) = true ∧ sourceIn (.lane .A) 66 = true ∧
    (strayCause.lane .A).coll.inFault.testBit 66 = false ∧ (strayCause.lane .A).coll.classLevel (sourceClass 66) = 0 ∧
    strayCause.sourceLevel (.lane .A) 66 = 4 ∧
    (doFaultReaction (.lane .A) [⟨66, false, 0⟩] strayCause).get .A 0x140B01 ≠ 1 := by decide +kernel

/-- Refutes O36: a limit that waits under the number of entry 140Bh replaces the cause of the reset. -/
theorem not_faultReaction : ¬ Obligations.FaultReaction := by
  rintro ⟨-, -, -, -, -, hreset, -⟩
  obtain ⟨hcanon, hcollects, hin, hnew, hclass, hlevel, hother⟩ := strayCause_other
  obtain ⟨t, hexec, -, hcause, -⟩ := hreset strayCause .A 66 0 hcanon hcollects hin hnew hclass hlevel
  obtain rfl : doFaultReaction (.lane .A) [⟨66, false, 0⟩] strayCause = t := Host.Outcome.next.inj hexec
  exact hother hcause

end Sys2Proof.Machine

namespace Sys2Proof.Machine

/-! ### Ports and their links (R143 to R166) -/

@[simp] theorem LaneState.put_port (l : LaneState) (k v : Nat) (e : EndId) : (l.put k v).port e = l.port e := by cases e <;> rfl

@[simp] theorem LaneState.inc_port (l : LaneState) (k : Nat) (e : EndId) : (l.inc k).port e = l.port e := by cases e <;> rfl

@[simp] theorem LaneState.withRoll_port (l : LaneState) (r : RollState) (e : EndId) : ({ l with roll := r } : LaneState).port e = l.port e := by
  cases e <;> rfl

@[simp] theorem LaneState.withIns_port (l : LaneState) (i : Ins) (e : EndId) : ({ l with ins := i } : LaneState).port e = l.port e := by
  cases e <;> rfl

/-- A trigger changes nothing but what the lane knows of its Roll. -/
theorem State.rollTrigger_eq (s : State) (x : LaneId) (code : Nat) :
    ∃ r, s.rollTrigger x code = s.upd x (fun l => { l with roll := r }) := by
  unfold State.rollTrigger
  split
  · exact ⟨(s.lane x).roll, (State.upd_of_eq rfl).symm⟩
  · exact ⟨(s.lane x).roll.triggered code, State.upd_congr rfl⟩

@[simp] theorem State.rollTrigger_port (s : State) (x : LaneId) (code : Nat) (e : EndId) :
    ((s.rollTrigger x code).lane x).port e = (s.lane x).port e := by
  obtain ⟨r, h⟩ := s.rollTrigger_eq x code
  rw [h, State.upd_lane_self, LaneState.withRoll_port]

@[simp] theorem State.rollTrigger_lane_get (s : State) (x : LaneId) (code k : Nat) :
    ((s.rollTrigger x code).lane x).get k = (s.lane x).get k := by
  obtain ⟨r, h⟩ := s.rollTrigger_eq x code
  rw [h, State.upd_lane_self]
  rfl

@[simp] theorem State.rollTrigger_peer (s : State) (x : LaneId) (code : Nat) :
    (s.rollTrigger x code).lane x.peer = s.lane x.peer := by
  obtain ⟨r, h⟩ := s.rollTrigger_eq x code
  rw [h, State.upd_lane_peer]

theorem LaneState.RegOnly.updPort {l m : LaneState} (h : l.RegOnly m) (e : EndId) (f : Port → Port) :
    (l.updPort e f).RegOnly (m.updPort e f) := by
  obtain ⟨r, rfl⟩ := h
  cases e <;> exact ⟨r, rfl⟩

theorem LaneState.RegOnly.port {l m : LaneState} (h : l.RegOnly m) (e : EndId) : m.port e = l.port e := by
  obtain ⟨r, rfl⟩ := h
  cases e <;> rfl

theorem LaneState.RegOnly.roll {l m : LaneState} (h : l.RegOnly m) : m.roll = l.roll := by
  obtain ⟨r, rfl⟩ := h
  rfl

theorem LaneState.RegOnly.ready {l m : LaneState} (h : l.RegOnly m) : m.ready = l.ready := by
  obtain ⟨r, rfl⟩ := h
  rfl

theorem LaneState.updPort_updPort (l : LaneState) (e : EndId) (f g : Port → Port) :
    (l.updPort e f).updPort e g = l.updPort e (fun p => g (f p)) := by cases e <;> rfl

/-- Two ports with the same update are the same. -/
theorem LaneState.updPort_congr {l : LaneState} {e : EndId} {f g : Port → Port} (h : f (l.port e) = g (l.port e)) :
    l.updPort e f = l.updPort e g := congrArg (l.setPort e) h

/-- The queue of a port that loses its frames is empty, and they are counted. -/
theorem LaneState.flushEgress_regOnly (l : LaneState) (e : EndId) :
    (l.updPort e (fun p => { p with queue := [] })).RegOnly (l.flushEgress e) :=
  .ite .self (.ite (.put (.put .self _ _) _ _) (.put .self _ _))

/-- The port that a lane drops. -/
def Port.dropped (p : Port) (now : Nat) (step : Step) (counted : Bool) : Port :=
  { p.unlinked (afterLink p.isUp step) with
    queue := []
    diag := p.isUp || p.diag
    changes := if p.isUp && counted then recentChanges now (now :: p.changes) else p.changes }

theorem LaneState.RegOnly.portCongr {l m : LaneState} {e : EndId} {f g : Port → Port} (h : (l.updPort e f).RegOnly m)
    (hfg : g (l.port e) = f (l.port e)) : (l.updPort e g).RegOnly m :=
  LaneState.updPort_congr hfg ▸ h

/-- A dropped port changes nothing else but registers. -/
theorem LaneState.dropPort_regOnly (l : LaneState) (now : Nat) (e : EndId) (step : Step) (counted : Bool) :
    (l.updPort e (fun p => p.dropped now step counted)).RegOnly (l.dropPort now e step counted) := by
  have hflush := (l.flushEgress_regOnly e).updPort e
    (fun p => { p.unlinked (afterLink (l.port e).isUp step) with diag := p.isUp || p.diag })
  rw [LaneState.updPort_updPort] at hflush
  unfold LaneState.dropPort
  dsimp only
  split
  case isTrue hup =>
    have hstep : (l.port e).step = .up := by simpa [Port.isUp] using hup
    split
    case isTrue hcounted =>
      have hchanged := LaneState.RegOnly.updPort (.inc (.put (.put hflush (key 0x200D (endSub e)) 0) (key 0x400C (endSub e)) 0)
        (key 0x200A (endSub e))) e (fun p => { p with changes := recentChanges now (now :: p.changes) })
      rw [LaneState.updPort_updPort] at hchanged
      exact .portCongr hchanged (by simp [Port.dropped, hstep, hcounted, Port.unlinked, Port.isUp])
    case isFalse hcounted =>
      exact .inc (.put (.put (.portCongr hflush (by simp [Port.dropped, hcounted, Port.unlinked, Port.isUp])) _ _) _ _) _
  case isFalse hup =>
    have hstep : ¬ (l.port e).step = .up := by simpa [Port.isUp] using hup
    exact .put (.put (.portCongr hflush (by simp [Port.dropped, hstep, Port.unlinked, Port.isUp])) _ _) _ _

theorem LaneState.dropPort_port (l : LaneState) (now : Nat) (e : EndId) (step : Step) (counted : Bool) :
    (l.dropPort now e step counted).port e = (l.port e).dropped now step counted :=
  ((l.dropPort_regOnly now e step counted).port e).trans (l.updPort_port_self e _)

theorem LaneState.dropPort_other (l : LaneState) (now : Nat) (e : EndId) (step : Step) (counted : Bool) :
    (l.dropPort now e step counted).port e.other = l.port e.other :=
  ((l.dropPort_regOnly now e step counted).port e.other).trans (l.updPort_port_other e _)

theorem LaneState.dropPort_roll (l : LaneState) (now : Nat) (e : EndId) (step : Step) (counted : Bool) :
    (l.dropPort now e step counted).roll = l.roll :=
  (l.dropPort_regOnly now e step counted).roll.trans (l.updPort_roll e _)

theorem State.dropPort_up {s : State} {x : LaneId} {e : EndId} (hup : ((s.lane x).port e).isUp = true) (step : Step) (counted : Bool) :
    s.dropPort x e step counted = (s.upd x (fun l => l.dropPort s.clock e step counted)).rollTrigger x 1 := if_pos hup

/-- The widths of a port's registers. -/
theorem regWidth_port (e : EndId) :
    regWidth (key 0x2006 (endSub e)) = 8 ∧ regWidth (key 0x2007 (endSub e)) = 8 ∧ regWidth (key 0x2008 (endSub e)) = 32 ∧
    regWidth (key 0x2009 (endSub e)) = 16 ∧ regWidth (key 0x2011 (endSub e)) = 32 ∧ regWidth (key 0x2012 (endSub e)) = 32 ∧
    regWidth (key 0x2013 (endSub e)) = 32 := by
  cases e <;> decide +kernel

theorem portKey_ne {i j : Nat} (h : i ≠ j) (e f : EndId) : key i (endSub e) ≠ key j (endSub f) := by
  cases e <;> cases f <;> simp only [key, endSub] <;> omega

theorem ofSigned_lt (v : Int) : ofSigned 32 v < 2 ^ 32 := by
  unfold ofSigned
  omega

/-- A hold that ends starts its port anew where nothing else keeps it down (R156). -/
theorem LaneState.holdEnds_step {l : LaneState} {e : EndId} (hstep : (l.port e).step = .down) (hdiag : (l.port e).diag = false)
    (htaken : (l.port e).takenDown = false) (hquar : (l.port e).quarantined = false) (hen : l.enabled e = true)
    (hopen : l.bypassOpen = true) (hpower : l.portPowerOff = false) : ((l.holdEnds e).port e).step = .seeking := by
  simp [LaneState.holdEnds, hstep, hdiag, htaken, hquar, LaneState.portStart, hen, hopen, hpower]

theorem LaneState.holdEnds_stays {l : LaneState} {e : EndId} (h : (l.port e).diag = true ∨ (l.port e).quarantined = true) :
    ((l.holdEnds e).port e).step = (l.port e).step := by
  rcases h with h | h <;> simp [LaneState.holdEnds, h]

theorem LaneState.updPort_enabled (l : LaneState) (e f : EndId) (g : Port → Port) : (l.updPort e g).enabled f = l.enabled f := by
  cases e <;> rfl

theorem LaneState.updPort_portPowerOff (l : LaneState) (e : EndId) (g : Port → Port) : (l.updPort e g).portPowerOff = l.portPowerOff := by
  cases e <;> rfl

theorem State.lower_port (s : State) (x : LaneId) (n : Nat) (e : EndId) : ((s.lower (.lane x) n).lane x).port e = (s.lane x).port e := by
  rw [State.lower_lane]
  cases e <;> rfl

theorem State.lower_inFault (s : State) (x : LaneId) (n : Nat) :
    ((s.lower (.lane x) n).lane x).coll.inFault.testBit n = false := by
  rw [State.lower_lane]
  exact testBit_withBit_self _ _ _

theorem State.lower_peer (s : State) (x : LaneId) (n : Nat) : (s.lower (.lane x) n).lane x.peer = s.lane x.peer := s.upd_lane_peer x _

theorem doLinkDown_up {s : State} {x : LaneId} {e : EndId} (hstep : ((s.lane x).port e).step = .up) :
    doLinkDown x e s = (s.upd x (fun l => l.dropPort s.clock e .down true)).rollTrigger x 1 := by
  simp only [doLinkDown, hstep]
  exact State.dropPort_up (by simp [Port.isUp, hstep]) _ _

/-- The lane whose margin alarm takes its rates one step down (R166). -/
def LaneState.marginAlarmed (l : LaneState) (e : EndId) : LaneState :=
  let l := l.put (key 0x2006 (endSub e)) (min 3 (l.get (key 0x2006 (endSub e)) + 1))
  let l := l.put (key 0x2007 (endSub e)) (min 3 (l.get (key 0x2007 (endSub e)) + 1))
  l.updPort e (fun p => { p with alarm := true, alarmArmed := false, estimatesSince := l.log.opNs / 1000000 })

theorem LaneState.marginAlarmed_get {l : LaneState} (h : l.RegsCanon) (e : EndId) :
    (l.marginAlarmed e).get (key 0x2006 (endSub e)) = min 3 (l.get (key 0x2006 (endSub e)) + 1) ∧
    (l.marginAlarmed e).get (key 0x2007 (endSub e)) = min 3 (l.get (key 0x2007 (endSub e)) + 1) := by
  obtain ⟨h₆, h₇, -⟩ := regWidth_port e
  have hne := portKey_ne (i := 0x2006) (j := 0x2007) (by decide) e e
  simp only [LaneState.marginAlarmed, LaneState.updPort_get]
  constructor
  · rw [LaneState.put_get_ne _ hne, LaneState.put_get_self _ _ _ h, h₆, Nat.mod_eq_of_lt (by omega)]
  · rw [LaneState.put_get_self _ _ _ (h.put _ _), LaneState.put_get_ne _ hne.symm, h₇, Nat.mod_eq_of_lt (by omega)]

theorem LaneState.marginAlarmed_port (l : LaneState) (e : EndId) : (l.marginAlarmed e).port e =
    { l.port e with alarm := true, alarmArmed := false, estimatesSince := l.log.opNs / 1000000 } := by
  simp [LaneState.marginAlarmed]

theorem LaneState.marginAlarmed_roll (l : LaneState) (e : EndId) : (l.marginAlarmed e).roll = l.roll := by
  simp [LaneState.marginAlarmed]

theorem doMarginAlarm_armed {s : State} {x : LaneId} {e : EndId} (hup : ((s.lane x).port e).isUp = true)
    (harmed : ((s.lane x).port e).alarmArmed = true) (hlow : toSigned 32 (s.get x (key 0x2008 (endSub e))) < 150) :
    doMarginAlarm x e s = (s.upd x (fun l => l.marginAlarmed e)).requestRoll x e :=
  if_pos (by simp [hup, harmed, hlow])

theorem State.requestRoll_first {s : State} {x : LaneId} {e : EndId} (h : ((s.lane x).port e).requestAt = none) :
    s.requestRoll x e = (s.upd x (fun l => l.updPort e (fun p => { p with requestAt := some s.clock }))).rollTrigger x 5 := by
  simp only [State.requestRoll, h]

theorem State.requestRoll_waits {s : State} {x : LaneId} {e : EndId} {t : Nat} (h : ((s.lane x).port e).requestAt = some t)
    (ht : s.clock < t + 10000000000) :
    s.requestRoll x e = s.upd x (fun l => l.updPort e (fun p => { p with requestWaits := true })) := by
  simp only [State.requestRoll, h, if_pos ht]

/-- Settles O13, each command by what it does to its port. -/
theorem linkSupervision : Obligations.LinkSupervision := by
  refine ⟨?linkDown, ?takedown, ?noTakedown, ?takedownEnd, ?quarantined, ?notQuarantined, ?quarantineEnd, ?late, ?line2, ?margin,
    ?alarm, ?alarmWaits, ?alarmDue⟩
  case linkDown =>
    intro s x e hstep
    have hup : ((s.lane x).port e).isUp = true := by simp [Port.isUp, hstep]
    refine Leads.of_eq rfl (doLinkDown_up hstep) ?_
    simp only [State.rollTrigger_port, State.rollTrigger_peer, State.upd_lane_self, State.upd_lane_peer, LaneState.dropPort_port,
      LaneState.dropPort_other]
    refine ⟨by simp [Port.dropped, Port.unlinked, hup, afterLink], by simp [Port.dropped, hup], rfl, by simp [Port.dropped, hup],
      fun hready hbeat hrun htrigger => ?_, trivial, trivial⟩
    have hready' : ((s.lane x).dropPort s.clock e .down true).ready = true :=
      ((s.lane x).dropPort_regOnly s.clock e .down true).ready.trans (by simpa using hready)
    rw [State.rollTrigger_runs (by simpa using hbeat) (by simpa using hready'), State.upd_lane_self, State.upd_lane_self,
      LaneState.dropPort_roll, RollState.triggered_new (by simp [hrun]) htrigger]
    exact ⟨rfl, rfl⟩
  case takedown =>
    intro s x e hup hfec
    exact exec_next rfl (by simp [doSegmentTakedown, hup, hfec])
  case noTakedown =>
    intro s x e hfec
    exact exec_next rfl (by simp [doSegmentTakedown, Nat.not_lt.mpr hfec])
  case takedownEnd =>
    intro s x e htaken
    refine Leads.of_eq rfl (show doTakedownHoldEnd x e s = _ from if_pos htaken) ?_
    rw [State.lower_port, State.lower_peer, State.upd_lane_self, State.upd_lane_peer]
    refine ⟨?_, ?_, State.lower_inFault _ _ _, rfl, ?_, ?_⟩
    · simp [LaneState.holdEnds]
    · simp [LaneState.holdEnds]
    · intro hstep hdiag hquar hen hopen hpower
      exact LaneState.holdEnds_step (by simpa using hstep) (by simpa using hdiag) (by simp) (by simpa using hquar)
        ((LaneState.updPort_enabled ..).trans hen) (by simpa using hopen) ((LaneState.updPort_portPowerOff ..).trans hpower)
    · intro h
      exact (LaneState.holdEnds_stays (by simpa using h)).trans (by simp)
  case quarantined =>
    intro s x e hchanges hquar
    exact exec_next rfl (if_pos ⟨hchanges, hquar⟩)
  case notQuarantined =>
    intro s x e hchanges
    exact exec_next rfl (if_neg fun h => absurd h.1 (Nat.not_le.mpr hchanges))
  case quarantineEnd =>
    intro s x e hquar
    refine Leads.of_eq rfl (show doQuarantineEnd x e s = _ from if_pos hquar) ?_
    rw [State.lower_port, State.lower_peer, State.upd_lane_self, State.upd_lane_peer]
    refine ⟨?_, ?_, ?_, State.lower_inFault _ _ _, rfl, ?_⟩
    · simp [LaneState.holdEnds]
    · simp [LaneState.holdEnds]
    · simp [LaneState.holdEnds]
    · intro hstep hdiag htaken hen hopen hpower
      exact LaneState.holdEnds_step (by simpa using hstep) (by simpa using hdiag) (by simpa using htaken) (by simp)
        ((LaneState.updPort_enabled ..).trans hen) (by simpa using hopen) ((LaneState.updPort_portPowerOff ..).trans hpower)
  case late =>
    intro s x e hordered hup
    exact exec_next rfl (by simp [doOrderedRetrainLate, hordered, hup])
  case line2 =>
    intro s x h
    exact exec_next rfl (if_pos h)
  case margin =>
    intro s x e snr rl hc hup hsnr
    obtain ⟨-, -, h₈, -, -, -, h₁₃⟩ := regWidth_port e
    have hne := portKey_ne (i := 0x2008) (j := 0x2013) (by decide) e e
    refine Leads.of_eq rfl (show doMarginUpdate x e snr rl none s = _ from if_pos hup) ?_
    simp only [if_pos hsnr, State.get, State.upd_lane_self, State.upd_lane_peer, LaneState.updPort_get, LaneState.updPort_port_self]
    refine ⟨?_, ?_, trivial, trivial, trivial⟩
    · refine (LaneState.put_get_ne _ hne _).trans ?_
      rw [LaneState.put_get_self _ _ _ (lane_regs_canon hc x), h₈, Nat.mod_eq_of_lt (ofSigned_lt snr)]
    · refine (LaneState.put_get_self _ _ _ (LaneState.RegsCanon.put (lane_regs_canon hc x) _ _)).trans ?_
      rw [h₁₃, Nat.mod_eq_of_lt (ofSigned_lt rl)]
  case alarm =>
    intro s x e hc hup harmed hlow hfirst
    refine Leads.of_eq rfl ((doMarginAlarm_armed hup harmed hlow).trans (State.requestRoll_first ?_)) ?_
    · rw [State.upd_lane_self, LaneState.marginAlarmed_port]
      exact hfirst
    · obtain ⟨h₆, h₇⟩ := LaneState.marginAlarmed_get (lane_regs_canon hc x) e
      simp only [State.get, State.rollTrigger_lane_get, State.rollTrigger_port, State.upd_lane_self, LaneState.updPort_get,
        LaneState.updPort_port_self, LaneState.marginAlarmed_port]
      exact ⟨h₆, h₇, trivial, trivial, by simp⟩
  case alarmWaits =>
    intro s x e at0 hup harmed hlow hat hrecent
    refine Leads.of_eq rfl ((doMarginAlarm_armed hup harmed hlow).trans (State.requestRoll_waits (t := at0) ?_ (by simpa using hrecent))) ?_
    · rw [State.upd_lane_self, LaneState.marginAlarmed_port]
      exact hat
    · simp [LaneState.marginAlarmed_roll]
  case alarmDue =>
    intro s x e h
    exact exec_next rfl (if_pos h)

/-! ### Probe and verification of a new link (R146 to R152) -/

theorem fastestRate_eq {margins : List Int} {r : Nat} (hr : r < 4) (hfits : 400 ≤ margins.getD r (-1))
    (hfaster : ∀ q < r, margins.getD q (-1) < 400) : fastestRate margins = r := by
  have hfind : (List.range 4).find? (fun c => decide (400 ≤ margins.getD c (-1))) = some r := by
    rw [List.find?_range_eq_some]
    exact ⟨by simpa using hfits, List.mem_range.mpr hr, fun q hq => by simpa using hfaster q hq⟩
  rw [fastestRate, hfind, Option.getD_some]

theorem fastestRate_none {margins : List Int} (h : ∀ q < 4, margins.getD q (-1) < 400) : fastestRate margins = 0xFF := by
  have hfind : (List.range 4).find? (fun c => decide (400 ≤ margins.getD c (-1))) = none := by
    rw [List.find?_range_eq_none]
    exact fun q hq => by simpa using h q hq
  rw [fastestRate, hfind, Option.getD_none]

theorem slowerRate_of_lt {a b : Nat} (ha : a < 4) (hb : b < 4) : slowerRate a b = max a b := by
  rw [slowerRate, if_neg (by omega), if_neg (by omega)]

theorem operatingRate_of_lt {own partner : Nat} (ho : own < 4) (hp : partner < 4) (sup : Nat) :
    operatingRate own partner sup = if sup ≤ max own partner then (max own partner, false) else (sup, true) := by
  simp only [operatingRate, slowerRate_of_lt ho hp, if_neg (show max own partner ≠ 0xFF by omega)]

theorem swingOf_lt (rate : Nat) (margins : List Int) : swingOf rate margins < 2 ^ 16 := by
  have hle : ((List.range ((if rate = 0 then 3 else 12) + 1)).find? (fun i => decide (600 ≤ margins.getD i 0))).getD
      (if rate = 0 then 3 else 12) ≤ 12 := by
    have htop : (if rate = 0 then 3 else 12) ≤ 12 := by split <;> omega
    cases hf : (List.range ((if rate = 0 then 3 else 12) + 1)).find? (fun i => decide (600 ≤ margins.getD i 0)) with
    | none => exact htop
    | some i =>
      have hi := List.mem_range.mp (List.mem_of_find?_eq_some hf)
      simp only [Option.getD_some]
      omega
  unfold swingOf
  dsimp only
  omega

/-- A training block begins with its type. -/
theorem trainingBlockOf_head (uid : Nat) (x : LaneId) (e : EndId) (l : LaneState) (type : Nat) :
    (trainingBlockOf uid x e l type).head? = (toBytes 1 type).head? := by
  unfold trainingBlockOf
  extract_lets p flags body
  clear_value flags
  simp [body, List.append_assoc, toBytes]

/-- The lane whose probe found a rate (R147, R148). -/
def LaneState.probed (l : LaneState) (e : EndId) (r : Nat) (swings : List (List Int)) : LaneState :=
  (l.updPort e (fun p => { p with step := .proposal, estimate := r, swings := swings })).planSwing e r

theorem doChannelProbeDone_fits {s : State} {x : LaneId} {e : EndId} {margins : List Int} {swings : List (List Int)} {r : Nat}
    (hstep : ((s.lane x).port e).step = .probe) (hr : r < 4) (hfast : fastestRate margins = r) :
    doChannelProbeDone x e ⟨margins, swings⟩ s = (s.upd x (fun l => l.probed e r swings)).sendBlock x e
      (if ((s.lane x).port e).master then 3 else 2) := by
  have hmaster : (((s.upd x (fun l => l.probed e r swings)).lane x).port e).master = ((s.lane x).port e).master := by
    simp [LaneState.probed, LaneState.planSwing]
  rw [← hmaster, doChannelProbeDone, if_neg (not_not.mpr hstep)]
  dsimp only
  rw [hfast, if_neg (by omega)]
  rfl

/-- The port of a link that comes up (R152). -/
def Port.linkedUp (p : Port) (clock opMs : Nat) (running adopted counted : Bool) : Port :=
  { p with
    step := .up, ordered := false, diagForced := false, uncounted := false, alarm := false, alarmArmed := true
    newLink := p.newLink || !p.ordered, lateLink := p.lateLink || (!p.ordered && running && adopted)
    fecErrors := 0, fecWindow := clock, estimatesSince := opMs
    changes := if counted then recentChanges clock (clock :: p.changes) else p.changes }

/-- A link that comes up without having been ordered asks for a Roll (R111). -/
theorem State.linkUp_eq {s : State} {x : LaneId} {e : EndId} (snr : Int) (hordered : ((s.lane x).port e).ordered = false) :
    ∃ f ins, s.linkUp x e snr = (s.upd x f).rollTrigger x 1 ∧ f (s.lane x) =
      { (((s.lane x).updPort e (fun p => p.linkedUp s.clock ((s.lane x).log.opNs / 1000000)
          (s.lane x).roll.running
          (s.lane x).roll.adopted.isSome (!((s.lane x).port e).ordered && !((s.lane x).port e).diagForced && !((s.lane x).port e).uncounted))).put
            (key 0x2008 (endSub e)) (ofSigned 32 snr)).inc (key 0x200A (endSub e)) with ins := ins } := by
  unfold State.linkUp
  extract_lets p counted
  have hport : p = (s.lane x).port e := rfl
  clear_value p
  subst hport
  rw [if_neg (by simp [hordered])]
  refine ⟨_, if (((s.lane x).port e.other).settled && decide ((s.lane x).ins = .training)) = true then .inserted else (s.lane x).ins, rfl, ?_⟩
  simp only [LaneState.inc_port, LaneState.put_port, LaneState.updPort_port_other, LaneState.inc_ins, LaneState.put_ins,
    LaneState.updPort_ins]
  split
  · rfl
  · cases e <;> rfl

theorem doLinkVerification_up {s : State} {x : LaneId} {e : EndId} {snr : Int} (hstep : ((s.lane x).port e).step = .verify)
    (hsnr : 300 ≤ snr) : doLinkVerification x e snr s = s.linkUp x e snr := by
  simp [doLinkVerification, hstep, hsnr]

theorem doLinkVerification_low {s : State} {x : LaneId} {e : EndId} {snr : Int} (hstep : ((s.lane x).port e).step = .verify)
    (hsnr : snr < 300) : doLinkVerification x e snr s = if s.get x (key 0x2006 (endSub e)) < 3 then
      s.fallBack x e (s.get x (key 0x2006 (endSub e)) + 1) else s.upd x (fun l => l.toBeacons e) := by
  simp [doLinkVerification, hstep, Int.not_le.mpr hsnr]

/-- Settles O12, each command by the branch that it takes. -/
theorem probeAndVerification : Obligations.ProbeAndVerification := by
  refine ⟨?probed, ?noRate, ?slower, ?held, fun _ => rfl, ?up, ?fallBack, ?slowest⟩
  case probed =>
    intro s x e margins swings r hc hstep hr hfits hfaster
    refine Leads.of_eq rfl (doChannelProbeDone_fits hstep hr (fastestRate_eq hr hfits hfaster)) ?_
    obtain ⟨-, -, -, h₉, -⟩ := regWidth_port e
    simp only [State.sendBlock, State.get, State.upd_lane_self, State.upd_lane_peer, LaneState.updPort_port_self,
      LaneState.updPort_port_other, LaneState.updPort_get, trainingBlockOf_head, LaneState.probed, LaneState.planSwing,
      LaneState.put_port]
    refine ⟨trivial, trivial, ?_, ?_, trivial, trivial⟩
    · rw [LaneState.put_get_self _ _ _ (by rw [LaneState.updPort_reg]; exact lane_regs_canon hc x), h₉, Nat.mod_eq_of_lt (swingOf_lt _ _)]
    · split <;> rfl
  case noRate =>
    intro s x e margins swings hstep hnone
    exact exec_next rfl (by simp [doChannelProbeDone, hstep, fastestRate_none hnone])
  case slower =>
    intro own partner sup ho hp hsup
    rw [operatingRate_of_lt ho hp, if_pos hsup]
  case held =>
    intro own partner sup ho hp hsup
    rw [operatingRate_of_lt ho hp, if_neg (by omega)]
  case up =>
    intro s x e snr hc hstep hsnr hordered hforced huncounted
    obtain ⟨f, ins, hup, hf⟩ := State.linkUp_eq snr hordered
    refine Leads.of_eq rfl ((doLinkVerification_up hstep hsnr).trans hup) ?_
    obtain ⟨-, -, h₈, -⟩ := regWidth_port e
    simp only [State.get, State.rollTrigger_port, State.rollTrigger_lane_get, State.rollTrigger_peer, State.upd_lane_self,
      State.upd_lane_peer, hf, LaneState.withIns_port, LaneState.inc_port, LaneState.put_port, LaneState.updPort_port_self]
    refine ⟨rfl, rfl, by simp [Port.linkedUp, hordered, hforced, huncounted], by simp [Port.linkedUp, hordered], ?_, trivial⟩
    refine (LaneState.inc_get_ne _ (portKey_ne (by decide) e e)).trans ?_
    rw [LaneState.put_get_self _ _ _ (by rw [LaneState.updPort_reg]; exact lane_regs_canon hc x), h₈, Nat.mod_eq_of_lt (ofSigned_lt snr)]
  case fallBack =>
    intro s x e snr hc hstep hsnr hrate
    refine Leads.of_eq rfl ((doLinkVerification_low hstep hsnr).trans (if_pos hrate)) ?_
    obtain ⟨h₆, -⟩ := regWidth_port e
    simp only [State.fallBack, State.sendBlock, State.get, State.upd_lane_self, LaneState.updPort_port_self,
      LaneState.updPort_port_other, LaneState.updPort_get, LaneState.put_port]
    refine ⟨trivial, trivial, ?_, trivial⟩
    have hrate' : (s.lane x).get (key 0x2006 (endSub e)) < 3 := hrate
    rw [LaneState.put_get_ne _ (portKey_ne (by decide) e e), LaneState.put_get_self _ _ _ (by rw [LaneState.updPort_reg]; exact lane_regs_canon hc x),
      h₆, Nat.mod_eq_of_lt (by omega)]
  case slowest =>
    intro s x e snr hstep hsnr hrate
    exact exec_next rfl ((doLinkVerification_low hstep hsnr).trans (if_neg (by omega)))

/-! ### Cable diagnostics (R157 to R162) -/

/-- The reaction of a class leaves what neither the merged counts nor its own level and marks are part of. -/
theorem State.classReaction_keeps {β : Type} (p : Collector → β) (hmerged : ∀ k t, p { k with merged := t } = p k)
    (hclass : ∀ k cls lv, p ((k.raiseClass cls lv).leave cls lv) = p k) (s : State) (c : CollectorId) (hits : List SourceHit)
    (cls : Nat) : p ((s.classReaction c hits cls).2.collector c) = p (s.collector c) := by
  unfold State.classReaction
  extract_lets mine cl lv taken reacted
  split
  · rfl
  · split
    · dsimp only
      rw [State.updColl_collector]
      exact hmerged _ _
    · change p ((if 1 ≤ lv then _ else s : State).collector c) = _
      split
      · rw [State.updColl_collector]
        exact hclass _ _ _
      · rfl

theorem State.raiseLane_domains {s : State} {x : LaneId} {n : Nat} (hq : Quiet s x n) (hin : sourceIn (.lane x) n = true) :
    ((s.raiseLane x n).lane x).coll.domains = (s.lane x).coll.domains := by
  have hlow := (s.decideFaults_lane x [⟨n, false, 0⟩]).2 (List.forall_mem_singleton.mpr hq)
  unfold State.raiseLane State.raise
  split
  · rw [State.enterFaults, State.react_low_coll hlow]
    cases h : (s.collector (.lane x)).inFault.testBit (sourceBit (.lane x) n) with
    | true => rw [State.decideFaults_old h]
    | false =>
      rw [State.decideFaults_new hin h]
      exact (State.classReaction_keeps Collector.domains (fun _ _ => rfl) (fun _ _ _ => rfl) _ (.lane x) _ _).trans
        (by rw [State.entered_collector]; rfl)
  · rfl

/-- A quiet source that follows a reading is in fault as the reading says, and changes nothing that a port sees. -/
theorem State.follow_lane {s : State} {x : LaneId} {n : Nat} {b : Bool} (hq : Quiet s x n) (hin : sourceIn (.lane x) n = true) :
    ∃ coll log reg, (s.follow x n b).lane x = { s.lane x with coll := coll, log := log, reg := reg } ∧
      coll.domains = (s.lane x).coll.domains ∧
      (∀ k, k ≠ key (0x1410 + n) 3 → k ≠ 0x150300 → k ≠ 0x150301 → k ≠ 0x150C02 → tabGet regDefault k reg = s.get x k) ∧
      (b = false → coll.inFault.testBit n = false) ∧
      (b = true → s.collects (.lane x) = true → coll.inFault.testBit n = true) := by
  cases b with
  | false =>
    refine ⟨_, _, _, s.lower_lane x n, rfl, fun _ _ _ _ _ => rfl, fun _ => testBit_withBit_self _ _ _, nofun⟩
  | true =>
    obtain ⟨coll, log, reg, w, a, he, -, hreg⟩ := State.raiseLane_frame hq
    have hlane : (s.raiseLane x n).lane x = { s.lane x with coll := coll, log := log, reg := reg } := by
      rw [he]
      cases x <;> rfl
    have hdomains := State.raiseLane_domains hq hin
    have hfault (hc) := State.raiseLane_inFault hq hc hin
    rw [hlane] at hdomains hfault
    exact ⟨coll, log, reg, hlane, hdomains, hreg, nofun, fun _ hc => by rw [hfault hc]; exact testBit_withBit_self _ _ _⟩

theorem State.follow_peer {s : State} {x : LaneId} {n : Nat} {b : Bool} (hq : Quiet s x n) :
    (s.follow x n b).lane x.peer = s.lane x.peer := by
  cases b with
  | false => exact s.lower_peer x n
  | true => exact (State.raiseLane_laneOnly hq).peer

/-- Tests that end let the port start anew where nothing else keeps it down (R161). -/
theorem LaneState.testsEnd_step {l : LaneState} {e : EndId} (hstep : (l.port e).step = .down) (htaken : (l.port e).takenDown = false)
    (hquar : (l.port e).quarantined = false) (hheld : (l.port e).heldDown = false) (hen : l.enabled e = true)
    (hopen : l.bypassOpen = true) (hpower : l.portPowerOff = false) : ((l.testsEnd e).port e).step = .seeking := by
  simp [LaneState.testsEnd, hstep, htaken, hquar, hheld, LaneState.portStart, hen, hopen, hpower]

theorem LaneState.testsEnd_diag (l : LaneState) (e : EndId) : ((l.testsEnd e).port e).diag = false := by
  simp [LaneState.testsEnd]

/-- The TDR's result as entry 2011h shows it. -/
def tdrResult (kind : BitVec 3) (refl : Byte) (dist : BitVec 16) : Nat :=
  kind.toNat * 536870912 + refl.toNat * 65536 + dist.toNat

theorem tdrResult_lt (kind : BitVec 3) (refl : Byte) (dist : BitVec 16) : tdrResult kind refl dist < 2 ^ 32 := by
  have := kind.isLt
  have := refl.isLt
  have := dist.isLt
  unfold tdrResult
  omega

theorem tdrResult_mod (kind : BitVec 3) (refl : Byte) (dist : BitVec 16) : tdrResult kind refl dist % 65536 = dist.toNat := by
  have := dist.isLt
  unfold tdrResult
  omega

theorem doDiagnosticsDone_plain {s : State} {x : LaneId} {e : EndId} {kind : BitVec 3} {refl : Byte} {dist : BitVec 16}
    {ins lim : BitVec 32} (hdiag : ((s.lane x).port e).diag = true) (hcmd : ((s.lane x).port e).diagCmd = false) :
    doDiagnosticsDone x e kind refl dist ins lim s =
      (s.put x (key 0x2011 (endSub e)) (tdrResult kind refl dist)).upd x (fun l => l.testsEnd e) := by
  simp only [doDiagnosticsDone, hdiag, hcmd, if_true, Bool.false_eq_true, if_false]
  rfl

theorem doDiagnosticsDone_cmd {s : State} {x : LaneId} {e : EndId} {kind : BitVec 3} {refl : Byte} {dist : BitVec 16}
    {ins lim : BitVec 32} (hdiag : ((s.lane x).port e).diag = true) (hcmd : ((s.lane x).port e).diagCmd = true) :
    doDiagnosticsDone x e kind refl dist ins lim s =
      ((s.put x (key 0x2011 (endSub e)) (tdrResult kind refl dist)).insulation x e ins.toNat lim.toNat).upd x
        (fun l => l.testsEnd e) := by
  simp only [doDiagnosticsDone, hdiag, hcmd, if_true]
  rfl

/-- A lane of which only the collector, the log and registers other than its port enables have changed. -/
def LaneState.PortsAsIn (l m : LaneState) : Prop :=
  ∃ coll log reg, m = { l with coll := coll, log := log, reg := reg } ∧ coll.domains = l.coll.domains ∧
    ∀ e, tabGet regDefault (key 0x2000 (endSub e)) reg = l.get (key 0x2000 (endSub e))

theorem LaneState.PortsAsIn.trans {l m n : LaneState} (h : l.PortsAsIn m) (h' : m.PortsAsIn n) : l.PortsAsIn n := by
  obtain ⟨coll, log, reg, rfl, hdomains, hreg⟩ := h
  obtain ⟨coll', log', reg', rfl, hdomains', hreg'⟩ := h'
  exact ⟨coll', log', reg', rfl, hdomains'.trans hdomains, fun e => (hreg' e).trans (hreg e)⟩

theorem LaneState.PortsAsIn.testsEnd_step {l m : LaneState} {e : EndId} (h : l.PortsAsIn m) (hstep : (l.port e).step = .down)
    (htaken : (l.port e).takenDown = false) (hquar : (l.port e).quarantined = false) (hheld : (l.port e).heldDown = false)
    (hen : l.enabled e = true) (hopen : l.bypassOpen = true) (hpower : l.portPowerOff = false) :
    ((m.testsEnd e).port e).step = .seeking := by
  obtain ⟨coll, log, reg, rfl, hdomains, hreg⟩ := h
  have hport : (({ l with coll := coll, log := log, reg := reg } : LaneState).port e) = l.port e := by cases e <;> rfl
  refine LaneState.testsEnd_step (hport ▸ hstep) (hport ▸ htaken) (hport ▸ hquar) (hport ▸ hheld) ?_ hopen ?_
  · rw [LaneState.enabled, LaneState.get, hreg e]
    exact hen
  · rw [LaneState.portPowerOff, hdomains]
    exact hpower

theorem LaneState.testsEnd_get (l : LaneState) (e : EndId) (k : Nat) : (l.testsEnd e).get k = l.get k := l.updPort_get e _ k

theorem LaneState.testsEnd_coll (l : LaneState) (e : EndId) : (l.testsEnd e).coll = l.coll := l.updPort_coll e _

/-- An insulation result is shown, and source 39 follows its limit. -/
theorem State.insulation_lane {s : State} {x : LaneId} {e : EndId} {ins lim : Nat} (hc : (s.lane x).RegsCanon) (hins : ins < 2 ^ 32)
    (hq : Quiet s x 39) : (s.lane x).PortsAsIn ((s.insulation x e ins lim).lane x) ∧
      (s.insulation x e ins lim).get x (key 0x2012 (endSub e)) = ins ∧
      (s.insulation x e ins lim).get x (key 0x2011 (endSub e)) = s.get x (key 0x2011 (endSub e)) ∧
      (((s.insulation x e ins lim).lane x).coll.inFault.testBit 39 = true → ins < lim) ∧
      (s.collects (.lane x) = true → ins < lim → ((s.insulation x e ins lim).lane x).coll.inFault.testBit 39 = true) ∧
      (s.insulation x e ins lim).lane x.peer = s.lane x.peer := by
  obtain ⟨-, -, -, -, -, h₁₂, -⟩ := regWidth_port e
  have hagrees : s.Agrees (· ≠ key 0x2012 (endSub e)) x (s.put x (key 0x2012 (endSub e)) ins) := .put .self (fun h => h rfl) _
  have hq' : Quiet (s.put x (key 0x2012 (endSub e)) ins) x 39 :=
    quiet_of_agrees hq hagrees (by cases e <;> decide) (by cases e <;> decide)
  obtain ⟨coll, log, reg, hlane, hdomains, hreg, hlow, hhigh⟩ := State.follow_lane (b := decide (ins < lim)) hq' (by cases x <;> decide)
  have hget (k : Nat) (h₀ : k ≠ key (0x1410 + 39) 3) (h₁ : k ≠ 0x150300) (h₂ : k ≠ 0x150301) (h₃ : k ≠ 0x150C02) :
      (s.insulation x e ins lim).get x k = (s.put x (key 0x2012 (endSub e)) ins).get x k := by
    rw [State.insulation, State.get, hlane]
    exact hreg k h₀ h₁ h₂ h₃
  refine ⟨⟨coll, log, reg, ?_, ?_, fun f => ?_⟩, ?_, ?_, ?_, ?_, ?_⟩
  · rw [State.insulation, hlane, State.put_lane_self]
    rfl
  · rw [hdomains, State.put_lane_self]
    rfl
  · rw [hreg _ (by cases f <;> decide) (by cases f <;> decide) (by cases f <;> decide) (by cases f <;> decide)]
    exact hagrees.get (portKey_ne (by decide) f e)
  · rw [hget _ (by cases e <;> decide) (by cases e <;> decide) (by cases e <;> decide) (by cases e <;> decide), State.get,
      State.put_lane_self, LaneState.put_get_self _ _ _ hc, h₁₂, Nat.mod_eq_of_lt hins]
  · rw [hget _ (by cases e <;> decide) (by cases e <;> decide) (by cases e <;> decide) (by cases e <;> decide)]
    exact hagrees.get (portKey_ne (by decide) e e)
  · intro hfault
    rw [State.insulation, hlane] at hfault
    by_contra hnot
    rw [hlow (by simpa using hnot)] at hfault
    exact absurd hfault (by decide)
  · intro hcoll hlt
    rw [State.insulation, hlane]
    refine hhigh (by simpa using hlt) ?_
    rw [State.collects, State.put_lane_self]
    exact hcoll
  · exact (State.follow_peer hq').trans (s.put_lane_peer x _ _)

theorem diagEnds_plain : diagEnds 1 = [.e1] := by decide

theorem diagEnds_forced : diagEnds 0x81 = [.e1] := by decide

theorem State.mayDiagnose_plain (s : State) (x : LaneId) : s.mayDiagnose x 1 = !(s.lane x).port1.isUp := by
  rw [State.mayDiagnose, diagEnds_plain]
  simp [show bitAt 1 7 = false from rfl, LaneState.port]

theorem State.mayDiagnose_forced (s : State) (x : LaneId) :
    s.mayDiagnose x 0x81 = ((s.lane x.peer).port1.isUp && (s.lane x.peer).port2.isUp) := rfl

/-- The run of the tests at end 1. -/
theorem State.diagnose_eq (s : State) (x : LaneId) (v : Byte) (hv : diagEnds v.toNat = [.e1]) :
    (diagEnds v.toNat).foldl (fun s e =>
      let up := ((s.lane x).port e).isUp
      let s := if up then s.dropPort x e .down false else s
      s.upd x (fun l => l.updPort e (fun p => { p with diag := true, diagCmd := true, diagForced := p.diagForced || up }))) s =
    ((if (s.lane x).port1.isUp then s.dropPort x .e1 .down false else s).upd x (fun l => l.updPort .e1 (fun p =>
      { p with diag := true, diagCmd := true, diagForced := p.diagForced || (s.lane x).port1.isUp }))) := by
  rw [hv]
  rfl

/-- A command that takes a higher role than the access has. -/
theorem State.command_denied {s : State} {a : Acc} {x : LaneId} {index sub role own : Nat} {state : LaneId → Bool} {value : Bool}
    {run : LaneId → State} (h : Reaches s a own x) (hrole : s.role a.path < role) :
    s.command a index sub role state value run = s.abort abDenied := by
  obtain ⟨htarget, havailable, -, -⟩ := h
  simp [State.command, State.commandAt, htarget, havailable, hrole]

/-- Settles O14, each command by what it does to its port. -/
theorem cableDiagnostics : Obligations.CableDiagnostics := by
  refine ⟨?upRefused, ?taken, ?forceRefused, ?forced, ?denied, ?done, ?low, ?good⟩
  case upRefused =>
    intro s a x hr hup
    exact exec_next rfl ((State.through_of_reaches hr _).trans (State.command_refused hr
      ((s.mayDiagnose_plain x).trans (by rw [hup]; rfl))))
  case taken =>
    intro s a x hr hup
    refine exec_next rfl ((State.through_of_reaches hr _).trans ((State.command_runs hr
      ((s.mayDiagnose_plain x).trans (by rw [hup]; rfl)) (by decide)).trans ?_))
    rw [State.diagnose_eq s x 1 diagEnds_plain, hup]
    exact congrArg (State.answer · 0) (State.upd_congr (by simp [LaneState.updPort, LaneState.setPort, LaneState.port]))
  case forceRefused =>
    intro s a x hr hup
    exact exec_next rfl ((State.through_of_reaches hr _).trans (State.command_refused hr
      ((s.mayDiagnose_forced x).trans (by rw [hup]; rfl))))
  case forced =>
    intro s a x hr hup₁ hup₂ hup
    refine Leads.of_eq rfl ((State.through_of_reaches hr _).trans ((State.command_runs hr
      ((s.mayDiagnose_forced x).trans (by rw [hup₁, hup₂]; rfl)) (by decide)).trans
      (congrArg (State.answer · 0) (State.diagnose_eq s x 0x81 diagEnds_forced)))) ?_
    have hport : ((s.lane x).port .e1).isUp = true := hup
    have hport₁ := LaneState.dropPort_port (s.lane x) s.clock .e1 .down false
    have hport₂ := LaneState.dropPort_other (s.lane x) s.clock .e1 .down false
    rw [hup, if_pos rfl, State.dropPort_up hport]
    have hother : ∀ l : LaneState, l.port2 = l.port (EndId.other .e1) := fun _ => rfl
    have hown : ∀ l : LaneState, l.port1 = l.port .e1 := fun _ => rfl
    simp only [State.answer_lane, State.answer_ans, State.upd_lane_self, State.upd_lane_peer, State.rollTrigger_peer, hown, hother,
      LaneState.updPort_port_self, LaneState.updPort_port_other, State.rollTrigger_port, hport₁, hport₂]
    simp [Port.dropped, Port.unlinked, hport, afterLink]
  case denied =>
    intro s a x hr hrole
    exact exec_next rfl ((State.through_of_reaches hr _).trans (State.command_denied hr (by rw [hrole]; decide)))
  case done =>
    intro s x e kind refl dist ins lim hc hdiag hstep htaken hquar hheld hen hopen hpower hquiet
    obtain ⟨-, -, -, -, h₁₁, -⟩ := regWidth_port e
    have hagrees : s.Agrees (· ≠ key 0x2011 (endSub e)) x (s.put x (key 0x2011 (endSub e)) (tdrResult kind refl dist)) :=
      .put .self (fun h => h rfl) _
    have hputs : (s.lane x).PortsAsIn ((s.put x (key 0x2011 (endSub e)) (tdrResult kind refl dist)).lane x) := by
      refine ⟨(s.lane x).coll, (s.lane x).log, _, s.put_lane_self x _ _, rfl, fun f => ?_⟩
      exact LaneState.put_get_ne _ (portKey_ne (by decide) f e) _
    have htdr : (s.put x (key 0x2011 (endSub e)) (tdrResult kind refl dist)).get x (key 0x2011 (endSub e)) % 65536 = dist.toNat := by
      rw [State.get, State.put_lane_self, LaneState.put_get_self _ _ _ (lane_regs_canon hc x), h₁₁, Nat.mod_eq_of_lt (tdrResult_lt ..)]
      exact tdrResult_mod ..
    cases hcmd : ((s.lane x).port e).diagCmd with
    | false =>
      refine Leads.of_eq rfl (doDiagnosticsDone_plain hdiag hcmd) ?_
      simp only [State.get, State.upd_lane_self, State.upd_lane_peer, LaneState.testsEnd_get, LaneState.testsEnd_coll]
      exact ⟨hputs.testsEnd_step hstep htaken hquar hheld hen hopen hpower, LaneState.testsEnd_diag _ _, htdr, nofun,
        fun _ => ⟨by rw [State.put_lane_self]; rfl, fun k hk => hagrees.get hk⟩, hagrees.2⟩
    | true =>
      refine Leads.of_eq rfl (doDiagnosticsDone_cmd hdiag hcmd) ?_
      obtain ⟨hlane, hins, hkept, hlow, hhigh, hpeer⟩ := State.insulation_lane (e := e) (lim := lim.toNat)
        (s := s.put x (key 0x2011 (endSub e)) (tdrResult kind refl dist))
        (by rw [State.put_lane_self]; exact LaneState.RegsCanon.put (lane_regs_canon hc x) _ _) ins.isLt
        (quiet_of_agrees (hquiet hcmd) hagrees (by cases e <;> decide) (by cases e <;> decide))
      simp only [State.get, State.upd_lane_self, State.upd_lane_peer, LaneState.testsEnd_get, LaneState.testsEnd_coll]
      refine ⟨(hputs.trans hlane).testsEnd_step hstep htaken hquar hheld hen hopen hpower, LaneState.testsEnd_diag _ _,
        (congrArg (· % 65536) hkept).trans htdr, fun _ => ⟨hins, hlow, fun hcoll => hhigh ?_⟩, nofun, hpeer.trans hagrees.2⟩
      rw [State.collects, State.put_lane_self]
      exact hcoll
  case low =>
    intro s x e ins lim hready hlow
    exact exec_next rfl (by simp [doInsulationTest, hready, State.insulation, State.follow, hlow])
  case good =>
    intro s x e ins lim hready hgood
    exact exec_next rfl (by simp [doInsulationTest, hready, State.insulation, State.follow, Nat.not_lt.mpr hgood])

end Sys2Proof.Machine

namespace Sys2Proof.Machine

/-! ### PAUSE and the receive ring (R190 to R195) -/

theorem LaneState.RegOnly.countPortBy {l₀ l : LaneState} (h : l₀.RegOnly l) (e : EndId) (index n : Nat) :
    l₀.RegOnly (l.countPortBy e index n) := .ite (.put (.put h _ _) _ _) (.put h _ _)

/-- A count of a port, where neither its own entry nor the marks of full counters are part of what agrees. -/
theorem LaneState.Agrees.countPortBy {A : Nat → Prop} {l₀ l : LaneState} (h : l₀.Agrees A l) (e : EndId) {index : Nat}
    (hindex : ¬ A (key index (endSub e))) (hmarks : ¬ A (key 0x21F0 (endSub e))) (n : Nat) : l₀.Agrees A (l.countPortBy e index n) :=
  .ite (.put (.put h hindex _) hmarks _) (.put h hindex _)

theorem LaneState.RegOnly.ring {l m : LaneState} (h : l.RegOnly m) : m.ring = l.ring := by
  obtain ⟨r, rfl⟩ := h
  rfl

/-- The registers that count no frame of a port. -/
def NoCount (k : Nat) : Prop := k < 0x210000 ∨ 0x220000 ≤ k

theorem not_noCount {index : Nat} (h : 0x2100 ≤ index) (h' : index < 0x2200) (e : EndId) : ¬ NoCount (key index (endSub e)) := by
  cases e <;> simp only [NoCount, key, endSub] <;> omega

theorem LaneState.Agrees.countPort {l₀ l : LaneState} (h : l₀.Agrees NoCount l) (e : EndId) {index : Nat} (h₁ : 0x2100 ≤ index)
    (h₂ : index < 0x2200) : l₀.Agrees NoCount (l.countPort e index) :=
  .countPortBy h e (not_noCount h₁ h₂ e) (not_noCount (by decide) (by decide) e) 1

/-- A count of a port shows one more. -/
theorem LaneState.countPort_get {l : LaneState} (h : l.RegsCanon) (e : EndId) {index : Nat}
    (hw : regWidth (key index (endSub e)) = 32) (hne : index ≠ 0x21F0) :
    (l.countPort e index).get (key index (endSub e)) = (l.get (key index (endSub e)) + 1) % 2 ^ 32 := by
  have hput : (l.put (key index (endSub e)) (l.get (key index (endSub e)) + 1)).get (key index (endSub e)) =
      (l.get (key index (endSub e)) + 1) % 2 ^ 32 := by rw [LaneState.put_get_self _ _ _ h, hw]
  unfold LaneState.countPort LaneState.countPortBy
  dsimp only
  split
  · exact (LaneState.put_get_ne _ (portKey_ne hne e e) _).trans hput
  · exact hput

/-- A frame that a port refuses is counted, and one that it takes joins its queue. -/
theorem LaneState.emit_pause {l : LaneState} {e : EndId} (q : BitVec 16) (hup : (l.port e).isUp = true)
    (hfill : (l.port e).fill + 64 ≤ 65536) : l.emit e (.pause q) = l.queueFrame e (.pause q) := by
  have hnone : (l.port e).refusesFrame (.pause q) = none := by
    simp [Port.refusesFrame, hup, sendKind, frameLength, Nat.not_lt.mpr hfill]
  simp [LaneState.emit, stopsForSleep, hnone]

/-- A queue is the only part of a port that a frame changes as it goes out or is refused. -/
theorem LaneState.emit_regOnly (l : LaneState) (e : EndId) (f : OutFrame) :
    ∃ q, (l.updPort e (fun p => { p with queue := q })).RegOnly (l.emit e f) := by
  have hself : (l.updPort e (fun p => { p with queue := (l.port e).queue })).RegOnly l := by
    rw [show l.updPort e (fun p => { p with queue := (l.port e).queue }) = l from by cases e <;> rfl]
    exact .self
  unfold LaneState.emit
  split
  · exact ⟨(l.port e).queue, hself⟩
  · split
    · exact ⟨(l.port e).queue, hself.countPortBy e _ 1⟩
    · exact ⟨(l.port e).queue ++ [f], .put (.portCongr .self rfl) _ _⟩

theorem LaneState.emit_port (l : LaneState) (e : EndId) (f : OutFrame) :
    ∃ q, (l.emit e f).port e = { l.port e with queue := q } := by
  obtain ⟨q, hq⟩ := l.emit_regOnly e f
  exact ⟨q, (hq.port e).trans (l.updPort_port_self e _)⟩

theorem LaneState.emit_other (l : LaneState) (e : EndId) (f : OutFrame) : (l.emit e f).port e.other = l.port e.other := by
  obtain ⟨q, hq⟩ := l.emit_regOnly e f
  exact (hq.port e.other).trans (l.updPort_port_other e _)

theorem Port.refusesFrame_lt {p : Port} {f : OutFrame} {c : Nat} (h : p.refusesFrame f = some c) : c < 0xC0 := by
  unfold Port.refusesFrame at h
  split at h
  · exact Option.some.inj h ▸ by decide
  · split at h
    · exact Option.some.inj h ▸ by decide
    · split at h
      · exact Option.some.inj h ▸ by decide
      · exact absurd h (by simp)

/-- What a port sends or refuses changes no settings. -/
theorem LaneState.emit_get (l : LaneState) (e : EndId) (f : OutFrame) {k : Nat} (hk : NoCount k) (hfill : k ≠ key 0x2201 (endSub e)) :
    (l.emit e f).get k = l.get k := by
  unfold LaneState.emit
  split
  · rfl
  · split
    · next c hc =>
      have hlt := Port.refusesFrame_lt hc
      exact LaneState.Agrees.countPort .self e (by omega) (by omega) k hk
    · exact (LaneState.put_get_ne _ hfill _).trans (l.updPort_get e _ k)

/-- A port with its link up begins to hold its partner, where it does not yet (R191). -/
def LaneState.pausesAt (l : LaneState) (e : EndId) : LaneState :=
  if (l.port e).isUp && !(l.port e).sending then
    (l.sendPause e (l.get 0x220400)).updPort e (fun p => { p with sending := true })
  else l

theorem LaneState.pausesAt_other (l : LaneState) (e : EndId) : (l.pausesAt e).port e.other = l.port e.other := by
  unfold LaneState.pausesAt
  split
  · exact (LaneState.updPort_port_other _ e _).trans (l.emit_other e _)
  · rfl

theorem LaneState.pausesAt_get (l : LaneState) (e : EndId) : (l.pausesAt e).get 0x220400 = l.get 0x220400 := by
  unfold LaneState.pausesAt
  split
  · exact (LaneState.updPort_get _ e _ _).trans (l.emit_get e _ (.inr (by decide)) (by cases e <;> decide))
  · rfl

theorem LaneState.pausesAt_port (l : LaneState) (e : EndId) :
    ((l.port e).isUp = true → ((l.pausesAt e).port e).sending = true) ∧
    ((l.port e).isUp = true → (l.port e).sending = false → (l.port e).fill + 64 ≤ 65536 →
      ((l.pausesAt e).port e).queue = (l.port e).queue ++ [.pause (BitVec.ofNat 16 (l.get 0x220400))]) ∧
    ((l.port e).isUp = false → (l.pausesAt e).port e = l.port e) := by
  unfold LaneState.pausesAt
  cases hup : (l.port e).isUp <;> cases hsend : (l.port e).sending
  case true.false =>
    rw [if_pos (by decide), LaneState.updPort_port_self]
    refine ⟨fun _ => rfl, fun _ _ hfill => ?_, nofun⟩
    rw [LaneState.sendPause, LaneState.emit_pause _ hup hfill]
    simp [LaneState.queueFrame]
  all_goals simp [hsend]

/-- The lane of which each port begins to hold its partner. -/
def LaneState.pauses (l : LaneState) : LaneState := (l.pausesAt .e1).pausesAt .e2

theorem LaneState.pauses_port (l : LaneState) (e : EndId) :
    ∃ m : LaneState, m.port e = l.port e ∧ m.get 0x220400 = l.get 0x220400 ∧ l.pauses.port e = (m.pausesAt e).port e := by
  cases e with
  | e1 => exact ⟨l, rfl, rfl, LaneState.pausesAt_other _ .e2⟩
  | e2 => exact ⟨l.pausesAt .e1, l.pausesAt_other .e1, l.pausesAt_get .e1, rfl⟩

/-- A port that holds its partner lets it go (R191). -/
def LaneState.releasesAt (l : LaneState) (e : EndId) : LaneState :=
  if (l.port e).sending then (l.sendPause e 0).updPort e (fun p => { p with sending := false }) else l

theorem LaneState.releasesAt_other (l : LaneState) (e : EndId) : (l.releasesAt e).port e.other = l.port e.other := by
  unfold LaneState.releasesAt
  split
  · exact (LaneState.updPort_port_other _ e _).trans (l.emit_other e _)
  · rfl

theorem LaneState.releasesAt_sending (l : LaneState) (e : EndId) : ((l.releasesAt e).port e).sending = false := by
  unfold LaneState.releasesAt
  split
  · rw [LaneState.updPort_port_self]
  · next h => exact Bool.not_eq_true _ ▸ h

/-! #### The receive ring -/

theorem LaneState.ringDip_get (l : LaneState) (n : Nat) {k : Nat} (hk : k ≠ 0x220700) : (l.ringDip n).get k = l.get k :=
  LaneState.put_get_ne _ hk _

theorem regWidth_ring : regWidth 0x220600 = 16 ∧ regWidth 0x220700 = 16 ∧ (∀ e, regWidth (key 0x2133 (endSub e)) = 32) := by
  refine ⟨by decide +kernel, by decide +kernel, fun e => ?_⟩
  cases e <;> decide +kernel

/-- A frame that fits takes whole buffers. -/
theorem LaneState.enterRing_fits {l : LaneState} (hc : l.RegsCanon) (e : EndId) {f : LineFrame}
    (hfits : buffersOf f.payload ≤ l.ringFree) (hfree : l.ringFree ≤ 1024) :
    (l.enterRing e f).1 = none ∧ (l.enterRing e f).2.ring = l.ring ++ [slice f.bytes 0 (30 + f.payload)] ∧
    (l.enterRing e f).2.ringFree = l.ringFree - buffersOf f.payload := by
  rw [LaneState.enterRing, if_neg (Nat.not_lt.mpr hfits)]
  refine ⟨rfl, ?_, ?_⟩
  · have hreg := LaneState.RegOnly.countPortBy (l₀ := { l with ring := l.ring ++ [slice f.bytes 0 (30 + f.payload)] })
      (.put (.put .self 0x220600 (l.ringFree - buffersOf f.payload)) 0x220700 (min (l.ringFree - buffersOf f.payload)
        (LaneState.get (LaneState.put { l with ring := l.ring ++ [slice f.bytes 0 (30 + f.payload)] } 0x220600
          (l.ringFree - buffersOf f.payload)) 0x220700))) e 0x211B 1
    exact hreg.ring
  · refine (LaneState.Agrees.countPort .self e (by decide) (by decide) 0x220600 (.inr (by decide))).trans ?_
    refine (LaneState.ringDip_get _ _ (by decide)).trans ((LaneState.put_get_self _ _ _ hc).trans ?_)
    rw [regWidth_ring.1]
    exact Nat.mod_eq_of_lt (show l.ringFree - buffersOf f.payload < 2 ^ 16 by omega)

/-- A frame that does not fit shows the pool empty, and enters nothing. -/
theorem LaneState.enterRing_full {l : LaneState} (e : EndId) {f : LineFrame} (h : l.ringFree < buffersOf f.payload) :
    l.enterRing e f = (some 19, l.ringDip 0) := if_pos h

theorem LaneState.ringDip_zero {l : LaneState} (hc : l.RegsCanon) : (l.ringDip 0).get 0x220700 = 0 := by
  rw [LaneState.ringDip, LaneState.put_get_self _ _ _ hc, Nat.zero_min, Nat.zero_mod]

theorem sizeBin_range (n : Nat) : 0x2102 ≤ sizeBin n ∧ sizeBin n ≤ 0x2108 := by
  unfold sizeBin
  split_ifs <;> decide

theorem classCounter_range {f : LineFrame} {c : Nat} (h : classCounter f = some c) : 0x210C ≤ c ∧ c ≤ 0x2111 := by
  unfold classCounter at h
  split_ifs at h with h₁ h₂ h₃
  · exact Option.some.inj h ▸ by decide
  · exact Option.some.inj h ▸ by decide
  · simp only [Bool.and_eq_true, decide_eq_true_eq] at h₃
    have := Option.some.inj h
    omega

/-- The counts of frames that arrive at a port change its registers up to 2117h, and no others but the marks of full counters. -/
def NoArrival (k : Nat) : Prop := k < 0x210000 ∨ 0x211800 ≤ k ∧ k < 0x21F000 ∨ 0x220000 ≤ k

theorem not_noArrival {index : Nat} (h : 0x2100 ≤ index ∧ index < 0x2118 ∨ index = 0x21F0) (e : EndId) :
    ¬ NoArrival (key index (endSub e)) := by
  cases e <;> simp only [NoArrival, key, endSub] <;> omega

theorem LaneState.Agrees.countArrival {l₀ l : LaneState} (h : l₀.Agrees NoArrival l) (e : EndId) {index : Nat} (h₁ : 0x2100 ≤ index)
    (h₂ : index < 0x2118) (n : Nat) : l₀.Agrees NoArrival (l.countPortBy e index n) :=
  .countPortBy h e (not_noArrival (.inl ⟨h₁, h₂⟩) e) (not_noArrival (.inr rfl) e) n

theorem LaneState.countReceived_agrees (l : LaneState) (e : EndId) (f : LineFrame) : l.Agrees NoArrival (l.countReceived e f) := by
  have hsize := sizeBin_range f.length
  unfold LaneState.countReceived
  refine .ite (.countArrival .self e (by decide) (by decide) 1) ?_
  extract_lets l₁ l₂ l₃ l₄
  have h₁ : l.Agrees NoArrival l₁ :=
    .countArrival (.countArrival .self e (by decide) (by decide) 1) e (by omega) (by omega) 1
  have h₂ : l.Agrees NoArrival l₂ := .countArrival h₁ e (by split_ifs <;> decide) (by split_ifs <;> decide) 1
  have h₃ : l.Agrees NoArrival l₃ := by
    cases hc : classCounter f with
    | none => simpa only [l₃, hc] using h₂
    | some c =>
      have hrange := classCounter_range hc
      have hcount : l.Agrees NoArrival (l₂.countPort e c) := h₂.countArrival e (by omega) (by omega) 1
      simpa only [l₃, hc] using hcount
  have h₄ : l.Agrees NoArrival l₄ := .ite (.countArrival h₃ e (by decide) (by decide) 1) h₃
  exact .ite (.countArrival h₄ e (by decide) (by decide) 1) h₄

theorem LaneState.countReceived_regOnly (l : LaneState) (e : EndId) (f : LineFrame) : l.RegOnly (l.countReceived e f) := by
  unfold LaneState.countReceived
  refine .ite (.countPortBy .self e _ 1) ?_
  extract_lets l₁ l₂ l₃ l₄
  have h₂ : l.RegOnly l₂ := .countPortBy (.countPortBy (.countPortBy .self e _ 1) e _ 1) e _ 1
  have h₃ : l.RegOnly l₃ := by
    cases hc : classCounter f with
    | none => simpa only [l₃, hc] using h₂
    | some c =>
      have hcount : l.RegOnly (l₂.countPort e c) := h₂.countPortBy e c 1
      simpa only [l₃, hc] using hcount
  have h₄ : l.RegOnly l₄ := .ite (.countPortBy h₃ e _ 1) h₃
  exact .ite (.countPortBy h₄ e _ 1) h₄

/-- The port whose uncorrected symbols are counted while its link is up. -/
def Port.fecCounted (now : Nat) (c : FecCount) (p : Port) : Port := if p.isUp then p.countUncorrected now c.uncorrected else p

theorem Port.fecCounted_isUp (now : Nat) (c : FecCount) (p : Port) : (p.fecCounted now c).isUp = p.isUp := by
  unfold Port.fecCounted Port.countUncorrected
  dsimp only
  split
  · split <;> rfl
  · rfl

theorem LaneState.countFec_regOnly (l : LaneState) (e : EndId) (now : Nat) (c : FecCount) :
    (l.updPort e (Port.fecCounted now c)).RegOnly (l.countFec e now c) := by
  unfold LaneState.countFec
  extract_lets m
  have hm : l.RegOnly m := .countPortBy (.countPortBy (.countPortBy .self e _ _) e _ _) e _ _
  have hport := hm.port e
  split
  · next hup => exact .portCongr (hm.updPort e _) (if_pos (hport ▸ hup))
  · next hup =>
    have hsame : l.updPort e (Port.fecCounted now c) = l := by
      have hp : Port.fecCounted now c (l.port e) = l.port e := if_neg (hport ▸ hup)
      rw [LaneState.updPort, hp]
      cases e <;> rfl
    rw [hsame]
    exact hm

theorem LaneState.countFec_agrees (l : LaneState) (e : EndId) (now : Nat) (c : FecCount) :
    l.Agrees NoArrival (l.countFec e now c) := by
  unfold LaneState.countFec
  extract_lets m
  have hm : l.Agrees NoArrival m := .countArrival (.countArrival (.countArrival .self e (by decide) (by decide) _) e (by decide)
    (by decide) _) e (by decide) (by decide) _
  exact .ite (.other hm (m.updPort_reg e _)) hm

/-- The lane that has counted a frame and its check (R180 to R186). -/
def LaneState.arrived (l : LaneState) (e : EndId) (now : Nat) (f : LineFrame) : LaneState :=
  (l.countReceived e f).countFec e now f.fec

theorem LaneState.arrived_regOnly (l : LaneState) (e : EndId) (now : Nat) (f : LineFrame) :
    (l.updPort e (Port.fecCounted now f.fec)).RegOnly (l.arrived e now f) :=
  .trans (.updPort (l.countReceived_regOnly e f) e _) (LaneState.countFec_regOnly _ e now f.fec)

theorem LaneState.arrived_agrees (l : LaneState) (e : EndId) (now : Nat) (f : LineFrame) : l.Agrees NoArrival (l.arrived e now f) :=
  (l.countReceived_agrees e f).trans (LaneState.countFec_agrees _ e now f.fec)

theorem LaneState.arrived_isUp (l : LaneState) (e : EndId) (now : Nat) (f : LineFrame) :
    ((l.arrived e now f).port e).isUp = (l.port e).isUp := by
  rw [(l.arrived_regOnly e now f).port e, LaneState.updPort_port_self, Port.fecCounted_isUp]

theorem LaneState.arrived_ring (l : LaneState) (e : EndId) (now : Nat) (f : LineFrame) : (l.arrived e now f).ring = l.ring :=
  (l.arrived_regOnly e now f).ring.trans (l.updPort_ring e _)

/-- The lane of which a frame at a port finds too few buffers (R195). -/
def LaneState.noBuffer (l : LaneState) (e : EndId) (now : Nat) (f : LineFrame) : LaneState :=
  ((((l.arrived e now f).updPort e (fun p => { p with judged := some f })).ringDip 0).countDrop e 19).endJudged e

/-- The lane before the drop is counted. -/
def LaneState.poolEmpty (l : LaneState) (e : EndId) (now : Nat) (f : LineFrame) : LaneState :=
  ((l.arrived e now f).updPort e (fun p => { p with judged := some f })).ringDip 0

theorem LaneState.noBuffer_eq (l : LaneState) (e : EndId) (now : Nat) (f : LineFrame) :
    l.noBuffer e now f = ((l.poolEmpty e now f).countPort e 0x2133).endJudged e := rfl

theorem LaneState.poolEmpty_canon {l : LaneState} (hc : LaneCanon l) (e : EndId) (now : Nat) (f : LineFrame) :
    (l.poolEmpty e now f).RegsCanon := by
  obtain ⟨harrived, -⟩ := ((LaneState.Keeps.self.countReceived e f).countFec e now f.fec).1 hc
  refine LaneState.RegsCanon.put ?_ _ _
  exact LaneState.RegsCanon.updPort harrived e _

theorem LaneState.poolEmpty_get (l : LaneState) (e : EndId) (now : Nat) (f : LineFrame) {k : Nat} (hk : NoArrival k)
    (hpool : k ≠ 0x220700) : (l.poolEmpty e now f).get k = l.get k :=
  (LaneState.ringDip_get _ _ hpool).trans ((LaneState.updPort_get _ e _ k).trans (l.arrived_agrees e now f k hk))

theorem LaneState.noBuffer_pool {l : LaneState} (hc : LaneCanon l) (e : EndId) (now : Nat) (f : LineFrame) :
    (l.noBuffer e now f).get 0x220700 = 0 := by
  obtain ⟨harrived, -⟩ := ((LaneState.Keeps.self.countReceived e f).countFec e now f.fec).1 hc
  rw [LaneState.noBuffer_eq, LaneState.endJudged, LaneState.updPort_get,
    LaneState.Agrees.countPort .self e (by decide) (by decide) _ (.inr (by decide))]
  exact LaneState.ringDip_zero (LaneState.RegsCanon.updPort harrived e _)

theorem LaneState.noBuffer_free (l : LaneState) (e : EndId) (now : Nat) (f : LineFrame) : (l.noBuffer e now f).ringFree = l.ringFree := by
  rw [LaneState.noBuffer_eq, LaneState.ringFree, LaneState.endJudged, LaneState.updPort_get,
    LaneState.Agrees.countPort .self e (by decide) (by decide) _ (.inr (by decide))]
  exact l.poolEmpty_get e now f (.inr (.inr (by decide))) (by decide)

theorem LaneState.noBuffer_ring (l : LaneState) (e : EndId) (now : Nat) (f : LineFrame) : (l.noBuffer e now f).ring = l.ring := by
  rw [LaneState.noBuffer_eq, LaneState.endJudged, LaneState.updPort_ring]
  refine (LaneState.RegOnly.countPortBy .self e 0x2133 1).ring.trans ((LaneState.put_ring _ _ _).trans ?_)
  rw [LaneState.updPort_ring, LaneState.arrived_ring]

theorem LaneState.noBuffer_count {l : LaneState} (hc : LaneCanon l) (e : EndId) (now : Nat) (f : LineFrame) :
    (l.noBuffer e now f).get (key 0x2133 (endSub e)) = (l.get (key 0x2133 (endSub e)) + 1) % 2 ^ 32 := by
  obtain ⟨-, -, h₃₃⟩ := regWidth_ring
  have hkey : NoArrival (key 0x2133 (endSub e)) := by cases e <;> simp only [NoArrival, key, endSub] <;> omega
  rw [LaneState.noBuffer_eq, LaneState.endJudged, LaneState.updPort_get, LaneState.countPort_get (LaneState.poolEmpty_canon hc e now f) e
    (h₃₃ e) (by decide), l.poolEmpty_get e now f hkey (by cases e <;> decide)]

theorem State.deliverLocal_full {s : State} {x : LaneId} {f : LineFrame} (e : EndId) (hring : ringFrame f = true)
    (hflow : f.isFlow = false) (hfull : (s.lane x).ringFree < buffersOf f.payload) (hme : s.forMe x f = true)
    (hgroup : unstampedGroup f = false) : s.deliverLocal x e f = (some 19, s.setLane x ((s.lane x).ringDip 0)) := by
  simp [State.deliverLocal, hflow, hme, hgroup, hring, LaneState.enterRing_full e hfull]

theorem doReceiveNoBuffer_lane {s : State} {x : LaneId} {e : EndId} {f : LineFrame} {time : BitVec 64} {idle : Bool}
    (hup : ((s.lane x).port e).isUp = true) (hready : (s.lane x).ready = true) (hjudged : ((s.lane x).port e).judged ≠ some f)
    (hring : ringFrame f = true) (hflow : f.isFlow = false) (hfull : (s.lane x).ringFree < buffersOf f.payload)
    (hme : s.forMe x f = true) (hgroup : unstampedGroup f = false) (hearly : s.earlyDrop x e f time.toNat = none)
    (hlate : lateDrop f = none) (hforward : s.forwards x f = false) :
    (doReceiveNoBuffer x e ⟨f, time, idle⟩ s).lane x = (s.lane x).noBuffer e s.clock f ∧
      (doReceiveNoBuffer x e ⟨f, time, idle⟩ s).lane x.peer = s.lane x.peer := by
  have hjudge : s.judgeFrame x e f time.toNat idle = ((s.upd x (fun l => (l.arrived e s.clock f).updPort e
      (fun p => { p with judged := some f }))).upd x (fun l => l.ringDip 0)).upd x (fun l => l.countDrop e 19) := by
    unfold State.judgeFrame
    extract_lets head early arrival s₁ s₂ out r s₃
    have hlane₁ : s₁.lane x = (s.lane x).arrived e s.clock f := State.upd_lane_self s x _
    have hup₁ : ((s₁.lane x).port e).isUp = true := by rw [hlane₁, LaneState.arrived_isUp, hup]
    have hlane₂ : s₂.lane x = ((s.lane x).arrived e s.clock f).updPort e (fun p => { p with judged := some f }) := by
      rw [← hlane₁]
      exact State.upd_lane_self s₁ x _
    have huid : s₂.uid = s.uid := (State.upd_uid s₁ x _).trans (State.upd_uid s x _)
    have hforward₂ : s₂.forwards x f = false := by rw [← hforward, State.forwards, State.forwards, huid]
    have hme₂ : s₂.forMe x f = true := by rw [← hme, State.forMe, State.forMe, huid]
    have hfree : (s₂.lane x).ringFree = (s.lane x).ringFree := by
      rw [hlane₂, LaneState.ringFree, LaneState.updPort_get]
      exact (s.lane x).arrived_agrees e s.clock f _ (.inr (.inr (by decide)))
    have hr : r = (some 19, s₂.setLane x ((s₂.lane x).ringDip 0)) := by
      simp only [r, State.takeLocal, hlate, Option.isSome_none, Bool.false_eq_true, if_false]
      exact State.deliverLocal_full e hring hflow (hfree ▸ hfull) hme₂ hgroup
    have harrival : arrival = none := by simp only [arrival, early, hearly, hlate, firstReason]
    have hs₃ : s₃ = s₂.setLane x ((s₂.lane x).ringDip 0) := by
      simp only [s₃, hforward₂, Bool.false_and, Bool.false_eq_true, if_false, hr]
    have hout : out = none := by simp only [out, hforward₂, Bool.false_eq_true, if_false]
    rw [if_neg (by rw [hup₁]; decide), if_neg (by simp [early, hearly])]
    rw [hs₃, hr, hout, harrival]
    cases x <;> rfl
  rw [doReceiveNoBuffer]
  dsimp only
  rw [if_neg (by simp [hup, hready]), if_neg hjudged, if_pos (by simp [hring, hfull]), hjudge]
  simp only [State.upd_lane_self, State.upd_lane_peer]
  exact ⟨rfl, trivial⟩

/-- Settles O16, each command by what it does to the ports and to the ring. -/
theorem pauseAndReceiveRing : Obligations.PauseAndReceiveRing := by
  refine ⟨?received, ?ignored, fun _ _ _ => rfl, ?sends, ?enough, ?repeats, ?releases, ?fits, ?full, ?noBuffer, ?returned⟩
  case received =>
    intro s x e q hup hready hset
    have hhears : ((s.lane x).port e).hears = true := by simp [Port.hears, hup]
    refine exec_next rfl ((if_neg (by simp [hhears, hready])).trans (State.upd_congr (if_pos ⟨?_, ?_⟩)))
    · exact (LaneState.Agrees.countPort .self e (by decide) (by decide) _ (.inr (by decide))).trans hset
    · exact (congrArg Port.isUp ((LaneState.RegOnly.self.countPortBy e 0x2118 1).port e)).trans hup
  case ignored =>
    intro s x e q hhears hready hset
    refine exec_next rfl ((if_neg (by simp [hhears, hready])).trans (State.upd_congr (if_neg fun h => ?_)))
    have hget := (LaneState.Agrees.countPort (index := 0x2118) .self e (by decide) (by decide) _ (.inr (by decide))).trans hset
    exact absurd (h.1.symm.trans hget) (by decide)
  case sends =>
    intro s x hready hlow
    refine Leads.of_eq (t := s.upd x LaneState.pauses) rfl (if_pos (by simp [hready]; exact hlow)) ?_
    rw [State.upd_lane_self, State.upd_lane_peer]
    refine ⟨rfl, fun e hup => ?_, fun e hup hsend hfill => ?_, fun e hup => ?_⟩
    all_goals
      obtain ⟨m, hm, hq, he⟩ := (s.lane x).pauses_port e
      obtain ⟨h₁, h₂, h₃⟩ := m.pausesAt_port e
      rw [he]
    · exact h₁ (hm ▸ hup)
    · rw [hm, hq] at h₂
      exact h₂ hup hsend hfill
    · exact (h₃ (hm ▸ hup)).trans hm
  case enough =>
    intro s x h
    refine exec_next rfl (if_neg ?_)
    have h' : ¬ (s.lane x).ringFree < (s.lane x).get 0x220200 := Nat.not_lt.mpr h
    simp [h']
  case repeats =>
    intro s x e hsend hup hlow
    have hlow' : (s.lane x).ringFree < (s.lane x).get 0x220300 := hlow
    exact exec_next rfl (if_pos (by simp [hsend, hup, hlow']))
  case releases =>
    intro s x h
    refine Leads.of_eq (t := s.upd x (fun l => (l.releasesAt .e1).releasesAt .e2)) rfl (if_pos h) ?_
    rw [State.upd_lane_self, State.upd_lane_peer]
    refine ⟨fun e => ?_, rfl⟩
    cases e with
    | e1 =>
      rw [show EndId.e1 = EndId.other .e2 from rfl, LaneState.releasesAt_other]
      exact LaneState.releasesAt_sending _ .e1
    | e2 => exact LaneState.releasesAt_sending _ .e2
  case fits =>
    intro l e f hc hfits hfree
    exact LaneState.enterRing_fits hc e hfits hfree
  case full =>
    intro l e f hc hfull
    rw [LaneState.enterRing_full e hfull]
    exact ⟨rfl, LaneState.ringDip_zero hc, rfl, LaneState.ringDip_get _ _ (by decide)⟩
  case noBuffer =>
    intro s x e f time idle hc hup hready hjudged hring hflow hfull hme hgroup hearly hlate hforward
    obtain ⟨hlane, hpeer⟩ := doReceiveNoBuffer_lane hup hready hjudged hring hflow hfull hme hgroup hearly hlate hforward (idle := idle)
    refine ⟨_, rfl, ?_⟩
    change (doReceiveNoBuffer x e ⟨f, time, idle⟩ s).get x _ = _ ∧ _
    simp only [State.get, hlane]
    exact ⟨LaneState.noBuffer_pool (lane_canon hc x) e _ f, LaneState.noBuffer_ring .., LaneState.noBuffer_free .., 
      LaneState.noBuffer_count (lane_canon hc x) e _ f, LaneState.updPort_port_self _ e _ ▸ rfl, hpeer⟩
  case returned =>
    intro s x c rest h
    refine exec_next rfl ?_
    simp only [doRingChainReturn, h]
    rfl

end Sys2Proof.Machine

namespace Sys2Proof.Machine

/-! ### What a release does to the lanes and the module (R84, R352) -/

/-- Of a lane only what the host reads and what sessions keep has changed. -/
def LaneState.HostSees (l m : LaneState) : Prop := ∃ reg field msg, m = { l with reg := reg, field := field, msg := msg }

namespace LaneState.HostSees

variable {l₀ l m : LaneState}

theorem self : l.HostSees l := ⟨l.reg, l.field, l.msg, rfl⟩

theorem trans (h : l₀.HostSees l) (h' : l.HostSees m) : l₀.HostSees m := by
  obtain ⟨r, f, g, rfl⟩ := h
  obtain ⟨r', f', g', rfl⟩ := h'
  exact ⟨r', f', g', rfl⟩

theorem put (h : l₀.HostSees l) (k v : Nat) : l₀.HostSees (l.put k v) := h.trans ⟨_, _, _, rfl⟩

theorem updPin (h : l₀.HostSees l) (n : Nat) (f : Pin → Pin) : l₀.HostSees (l.updPin n f) := h.trans ⟨_, _, _, rfl⟩

theorem withMsg (h : l₀.HostSees l) (g : MsgState) : l₀.HostSees { l with msg := g } := h.trans ⟨_, _, _, rfl⟩

theorem ite {c : Prop} [Decidable c] (h : l₀.HostSees l) (h' : l₀.HostSees m) : l₀.HostSees (if c then l else m) := by
  split
  · exact h
  · exact h'

theorem foldl {α : Type} {f : LaneState → α → LaneState} (h : l₀.HostSees l) (xs : List α)
    (hf : ∀ l a, l₀.HostSees l → l₀.HostSees (f l a)) : l₀.HostSees (xs.foldl f l) :=
  List.foldlRecOn (motive := l₀.HostSees) xs f h fun l hl a _ => hf l a hl

theorem readEffect (h : l₀.HostSees l) (index sub : Nat) : l₀.HostSees (l.readEffect index sub) :=
  .ite (h.put _ _) (.ite (h.put _ _) (.ite (h.updPin _ _) h))

theorem eachPin {f : LaneState → Nat → LaneState} (h : l₀.HostSees l) (hf : ∀ l n, l₀.HostSees l → l₀.HostSees (f l n)) :
    l₀.HostSees (l.eachPin f) := h.foldl _ hf

theorem abortLearn (h : l₀.HostSees l) (n : Nat) : l₀.HostSees (l.abortLearn n) := .ite (h.put _ _) h

end LaneState.HostSees

/-- The module's registers below the host's windows stay, and so does the mark of a change of possession. -/
def State.KeepsRegisters (s t : State) : Prop :=
  (∀ k < 0x580000, t.mget k = s.mget k) ∧
  (tabCanon regDefault s.mreg = true → bitAt (s.mget 0x590003) 7 = true →
    tabCanon regDefault t.mreg = true ∧ bitAt (t.mget 0x590003) 7 = true)

theorem regWidth_cause : regWidth 0x590003 = 32 := by decide +kernel

/-- The parts of the module that the host front and its sessions do not reach. -/
structure State.HostFrame (x : LaneId) (s t : State) : Prop where
  own : (s.lane x).HostSees (t.lane x)
  peer : ∃ m, t.lane x.peer = { s.lane x.peer with msg := m }
  arb : t.arb = s.arb
  keeper : t.keeper = s.keeper
  keys : t.sec.roleKeys = s.sec.roleKeys ∧ t.sec.cfgKeys = s.sec.cfgKeys ∧ t.sec.fwKeys = s.sec.fwKeys
  registers : s.KeepsRegisters t

namespace State.HostFrame

variable {x : LaneId} {s t u : State}

theorem self : s.HostFrame x s := ⟨.self, ⟨_, rfl⟩, rfl, rfl, ⟨rfl, rfl, rfl⟩, fun _ _ => rfl, fun h h' => ⟨h, h'⟩⟩

theorem trans (h : s.HostFrame x t) (h' : t.HostFrame x u) : s.HostFrame x u := by
  obtain ⟨m, hm⟩ := h.peer
  obtain ⟨m', hm'⟩ := h'.peer
  obtain ⟨hk₁, hk₂, hk₃⟩ := h.keys
  obtain ⟨hk₁', hk₂', hk₃'⟩ := h'.keys
  exact ⟨h.own.trans h'.own, ⟨m', by rw [hm', hm]⟩, h'.arb.trans h.arb, h'.keeper.trans h.keeper,
    ⟨hk₁'.trans hk₁, hk₂'.trans hk₂, hk₃'.trans hk₃⟩,
    fun k hk => (h'.registers.1 k hk).trans (h.registers.1 k hk),
    fun hc hb => h'.registers.2 (h.registers.2 hc hb).1 (h.registers.2 hc hb).2⟩

theorem ite {c : Prop} [Decidable c] (h : s.HostFrame x t) (h' : s.HostFrame x u) : s.HostFrame x (if c then t else u) := by
  split
  · exact h
  · exact h'

theorem withHost (h : s.HostFrame x t) (f : HostState) : s.HostFrame x { t with host := f } :=
  h.trans ⟨by cases x <;> exact .self, ⟨(t.lane x.peer).msg, by cases x <;> rfl⟩, rfl, rfl, ⟨rfl, rfl, rfl⟩, fun _ _ => rfl, fun h h' => ⟨h, h'⟩⟩

theorem withSessions (h : s.HostFrame x t) (f : List ServiceSession) : s.HostFrame x { t with sec := { t.sec with sessions := f } } :=
  h.trans ⟨by cases x <;> exact .self, ⟨(t.lane x.peer).msg, by cases x <;> rfl⟩, rfl, rfl, ⟨rfl, rfl, rfl⟩, fun _ _ => rfl, fun h h' => ⟨h, h'⟩⟩

theorem upd {f : LaneState → LaneState} (h : s.HostFrame x t) (hf : ∀ l : LaneState, l.HostSees (f l)) : s.HostFrame x (t.upd x f) :=
  h.trans ⟨by rw [State.upd_lane_self]; exact hf _, ⟨(t.lane x.peer).msg, by rw [State.upd_lane_peer]⟩, by simp, by simp, by simp,
    by cases x <;> exact fun _ _ => rfl, by cases x <;> exact fun h h' => ⟨h, h'⟩⟩

/-- A change of what the peer's sessions keep. -/
theorem updPeer {f : LaneState → LaneState} (h : s.HostFrame x t) (hf : ∃ m, f (t.lane x.peer) = { t.lane x.peer with msg := m }) :
    s.HostFrame x (t.upd x.peer f) := by
  have hown : (t.upd x.peer f).lane x = t.lane x := by cases x <;> rfl
  exact h.trans ⟨by rw [hown]; exact .self, by rw [State.upd_lane_self]; exact hf, by simp, by simp, by simp,
    by cases x <;> exact fun _ _ => rfl, by cases x <;> exact fun h h' => ⟨h, h'⟩⟩

/-- A register of the host front. -/
theorem mput (h : s.HostFrame x t) {k : Nat} (hk : 0x580000 ≤ k) (hne : k ≠ 0x590003) (v : Nat) : s.HostFrame x (t.mput k v) :=
  h.trans ⟨by rw [State.mput_lane]; exact .self, ⟨(t.lane x.peer).msg, by rw [State.mput_lane]⟩, rfl, rfl, ⟨rfl, rfl, rfl⟩,
    fun j hj => State.mput_mget_ne _ (by omega) _,
    fun hc hb => ⟨tabCanon_tabSet _ _ hc, (congrArg (bitAt · 7) (State.mput_mget_ne _ hne.symm _)).trans hb⟩⟩

theorem minc (h : s.HostFrame x t) {k : Nat} (hk : 0x580000 ≤ k) (hne : k ≠ 0x590003) : s.HostFrame x (t.minc k) := h.mput hk hne _

/-- A mark of entry 5900h:03h is set beside those that are. -/
theorem mark (h : s.HostFrame x t) {b : Nat} : s.HostFrame x (t.mput 0x590003 (withBit (t.mget 0x590003) b true)) := by
  refine h.trans ⟨by rw [State.mput_lane]; exact .self, ⟨(t.lane x.peer).msg, by rw [State.mput_lane]⟩, rfl, rfl, ⟨rfl, rfl, rfl⟩,
    fun j hj => State.mput_mget_ne _ (by omega) _, fun hc hbit => ⟨tabCanon_tabSet _ _ hc, ?_⟩⟩
  have hget : (t.mput 0x590003 (withBit (t.mget 0x590003) b true)).mget 0x590003 =
      withBit (t.mget 0x590003) b true % 2 ^ 32 := (tabGet_tabSet_self _ _ hc).trans (by rw [regWidth_cause])
  rw [hget, bitAt, Nat.testBit_mod_two_pow, testBit_withBit]
  split
  · rfl
  · simpa [bitAt] using hbit

theorem lateError (h : s.HostFrame x t) (path addr code : Nat) : s.HostFrame x (t.lateError path addr code) := by
  have hwords := ((((h.mput (k := 0x590006) (by decide) (by decide) addr).mput (k := 0x590007) (by decide) (by decide) code).mput
    (k := 0x590008) (by decide) (by decide) ((t.lane (t.holder.getD .A)).trainTime % 2 ^ 64)).mput (k := 0x590009) (by decide)
    (by decide) path).minc (k := 0x590005) (by decide) (by decide)
  have hmarked := hwords.mark (b := 1)
  unfold State.lateError
  dsimp only
  split
  · exact hmarked.minc (by simp only [winKey, key]; omega) (by simp only [winKey, key]; omega)
  · exact hmarked

theorem popPath (h : s.HostFrame x t) (path : Nat) : s.HostFrame x (t.popPath path) := h.withHost _

theorem queuedDone (h : s.HostFrame x t) (path : Nat) (r : HostReq) (code : Nat) : s.HostFrame x (t.queuedDone path r code) :=
  .ite (h.popPath path) ((h.popPath path).lateError _ _ _)

theorem respond (h : s.HostFrame x t) (status words : Nat) (data : List Nat) (code : Nat) :
    s.HostFrame x (t.respond status words data code) := h.withHost _

theorem grantLock (h : s.HostFrame x t) (k : Lock) : s.HostFrame x (t.updMirrored x fun l => l.grantLock k) :=
  .ite ((h.upd fun _ => .withMsg .self _).updPeer ⟨_, rfl⟩) (h.upd fun _ => .withMsg .self _)

theorem finishRead (h : s.HostFrame x t) (r : HostReq) : s.HostFrame x (t.finishRead x r).1 := by
  unfold State.finishRead
  extract_lets l n short
  split
  · split
    · exact h.upd fun _ => .readEffect .self _ _
    · exact h
  · split
    next index sub _ =>
    extract_lets g c
    split
    · exact h
    · have hread := h.upd (f := fun l => ((List.range n).map fun i => slotOf (r.addr + 4 * i)).foldl (fun l e => l.readEffect e.1 e.2) l)
        fun _ => .foldl .self _ fun _ e hl => hl.readEffect e.1 e.2
      exact .ite (hread.grantLock _) hread

theorem readAtRelease (h : s.HostFrame x t) {silent : Bool} {r : HostReq} {d : State × List Nat × Nat}
    (hd : t.readAtRelease x silent r = some d) : s.HostFrame x d.1 := by
  unfold State.readAtRelease at hd
  split at hd
  · exact absurd hd (by simp)
  · split at hd
    · exact Option.some.inj hd ▸ h
    · split at hd
      · exact absurd hd (by simp)
      · exact Option.some.inj hd ▸ h.finishRead r

/-- A read that waits as possession ends is finished, and what follows it changes no more. -/
theorem afterRead (h : s.HostFrame x t) {silent : Bool} {r : HostReq} {f : State × List Nat × Nat → State}
    (hf : ∀ d : State × List Nat × Nat, s.HostFrame x d.1 → s.HostFrame x (f d)) :
    s.HostFrame x (((t.readAtRelease x silent r).map f).getD t) := by
  cases hd : t.readAtRelease x silent r with
  | none => exact h
  | some d => exact hf d (h.readAtRelease hd)

theorem endServiceSessions (h : s.HostFrame x t) : s.HostFrame x t.endServiceSessions := by
  have hsessions := h.withSessions (t.sec.sessions.map ServiceSession.close)
  cases x
  · exact (hsessions.upd fun _ => .withMsg .self _).updPeer ⟨_, rfl⟩
  · exact (hsessions.updPeer (f := LaneState.dropServiceBuffers) ⟨_, rfl⟩).upd fun _ => .withMsg .self _

theorem hostAtRelease (h : s.HostFrame x t) (silent : Bool) : s.HostFrame x (t.hostAtRelease x silent) := by
  unfold State.hostAtRelease
  extract_lets front t₁ t₂
  have h₂ : s.HostFrame x t₂ := ((h.withHost { t.host with htPulse := t.pulseOf x }).upd fun _ => .eachPin .self fun _ n hl => hl.abortLearn n).endServiceSessions
  split
  · exact h₂.afterRead fun d hd => hd.queuedDone _ _ _
  · exact h₂.afterRead fun d hd => hd.respond _ _ _ _
  · exact h₂

end State.HostFrame

/-- Possession as a release leaves it (R84). -/
def Poss.released (p : Poss) (cause : Nat) : Poss :=
  { p with
    frozen := true, lease := false, hold := false, renewals := 0, pump := false, acq := .idle
    request := false, changing := true, limitPassed := false, releaseCause := cause }

/-- The arbiter as a release leaves it: it learns of the release in interlock mode or over the lane's link. -/
def Arbiter.told (a : Arbiter) (told : Bool) (clock : Nat) : Arbiter :=
  { a with holder := if told then none else a.holder, released := told || a.released, expired := !told && a.expired, changeAt := clock }

/-- The state that a release reaches before the host front sees it. -/
def State.releasing (s : State) (x : LaneId) (cause : Nat) : State :=
  { s.upd x (fun l => { l with mode := .releasing, poss := l.poss.released cause }) with
    arb := s.arb.told ((s.lane x).poss.interlock || (s.lane x).poss.arbLink) s.clock
    keeper := { s.keeper with tossWindow := false, askedA := false } }

theorem State.release_eq {s : State} {x : LaneId} (h : (s.lane x).mode = .possession) (cause : Nat) :
    s.release x cause = ((s.releasing x cause).possessionCause).hostAtRelease x false := by
  rw [State.release, if_neg (not_not.mpr h)]
  cases x <;> rfl

theorem State.release_other {s : State} {x : LaneId} (h : (s.lane x).mode ≠ .possession) (cause : Nat) : s.release x cause = s := if_pos h

/-- A release reaches what the host front leaves of the releasing state. -/
theorem State.release_frame {s : State} {x : LaneId} (h : (s.lane x).mode = .possession) (cause : Nat) :
    ((s.releasing x cause).possessionCause).HostFrame x (s.release x cause) := by
  rw [State.release_eq h]
  exact State.HostFrame.self.hostAtRelease false

theorem State.releasing_lane (s : State) (x : LaneId) (cause : Nat) : (s.releasing x cause).possessionCause.lane x =
    { s.lane x with mode := .releasing, poss := (s.lane x).poss.released cause } := by cases x <;> rfl

theorem State.releasing_peer (s : State) (x : LaneId) (cause : Nat) : (s.releasing x cause).possessionCause.lane x.peer =
    s.lane x.peer := by cases x <;> rfl

end Sys2Proof.Machine

namespace Sys2Proof.Machine

/-! ### What the work of a lane on its registers, its field side, its margin plan, its bus and its log leaves alone -/

/-- Of a lane only registers, field side, margin plan, car bus, log and messages have changed. -/
def LaneState.Works (l m : LaneState) : Prop :=
  ∃ reg field plan can log msg, m = { l with reg := reg, field := field, plan := plan, can := can, log := log, msg := msg }

namespace LaneState.Works

variable {l₀ l m : LaneState}

theorem self : l.Works l := ⟨l.reg, l.field, l.plan, l.can, l.log, l.msg, rfl⟩

theorem trans (h : l₀.Works l) (h' : l.Works m) : l₀.Works m := by
  obtain ⟨r, f, p, c, g, i, rfl⟩ := h
  obtain ⟨r', f', p', c', g', i', rfl⟩ := h'
  exact ⟨r', f', p', c', g', i', rfl⟩

theorem ite {c : Prop} [Decidable c] (h : l₀.Works l) (h' : l₀.Works m) : l₀.Works (if c then l else m) := by
  split
  · exact h
  · exact h'

theorem foldl {α : Type} {f : LaneState → α → LaneState} (h : l₀.Works l) (xs : List α)
    (hf : ∀ l a, l₀.Works l → l₀.Works (f l a)) : l₀.Works (xs.foldl f l) :=
  List.foldlRecOn (motive := l₀.Works) xs f h fun l hl a _ => hf l a hl

/-! #### Registers and the field side -/

theorem withReg (h : l₀.Works l) (r : Regs) : l₀.Works { l with reg := r } := h.trans ⟨_, _, _, _, _, _, rfl⟩

theorem withField (h : l₀.Works l) (f : FieldState) : l₀.Works { l with field := f } := h.trans ⟨_, _, _, _, _, _, rfl⟩

theorem withPlan (h : l₀.Works l) (p : Plan) : l₀.Works { l with plan := p } := h.trans ⟨_, _, _, _, _, _, rfl⟩

theorem withCan (h : l₀.Works l) (c : CanState) : l₀.Works { l with can := c } := h.trans ⟨_, _, _, _, _, _, rfl⟩

theorem withLog (h : l₀.Works l) (g : Recorder) : l₀.Works { l with log := g } := h.trans ⟨_, _, _, _, _, _, rfl⟩

theorem put (h : l₀.Works l) (k v : Nat) : l₀.Works (l.put k v) := h.withReg _

theorem inc (h : l₀.Works l) (k : Nat) : l₀.Works (l.inc k) := h.put k _

theorem updPin (h : l₀.Works l) (n : Nat) (f : Pin → Pin) : l₀.Works (l.updPin n f) := h.withField _

theorem setPinBit (h : l₀.Works l) (n i : Nat) (b : Bool) : l₀.Works (l.setPinBit n i b) := h.put _ _

theorem takeLimits (h : l₀.Works l) : l₀.Works l.takeLimits := by
  unfold LaneState.takeLimits
  extract_lets due l'
  exact withPlan (h.foldl _ fun _ _ hl => hl.put _ _ : l₀.Works l') _

theorem abortLearn (h : l₀.Works l) (n : Nat) : l₀.Works (l.abortLearn n) := (h.put _ _).ite h

theorem driverOn (h : l₀.Works l) (n : Nat) : l₀.Works (l.driverOn n) := ((h.updPin n _).setPinBit _ _ _).inc _

theorem driverOff (h : l₀.Works l) (n : Nat) : l₀.Works (l.driverOff n) :=
  (((h.updPin n _).setPinBit _ _ _).takeLimits).abortLearn n

theorem settleDriver (h : l₀.Works l) (n : Nat) : l₀.Works (l.settleDriver n) := (h.driverOn n).ite ((h.driverOff n).ite h)

theorem eachPin {f : LaneState → Nat → LaneState} (h : l₀.Works l) (hf : ∀ l n, l₀.Works l → l₀.Works (f l n)) :
    l₀.Works (l.eachPin f) := h.foldl _ hf

theorem commandPins (h : l₀.Works l) : l₀.Works l.commandPins := by
  have hfrozen : l₀.Works (l.updField fun f => { f with frozen := l.poss.frozen }) := h.withField _
  refine h.ite (hfrozen.ite (hfrozen.eachPin fun l n hl => ?_))
  have hlatch := hl.ite (c := (isOutput (l.pinFunction n) && l.valueInForce n || !l.latched n) = true)
    ((hl.setPinBit n 13 false).setPinBit n 12 false)
  exact (hlatch.updPin n _).settleDriver n

theorem drivePins (h : l₀.Works l) : l₀.Works l.drivePins := h.commandPins.ite h

theorem changeFunction (h : l₀.Works l) (n v : Nat) : l₀.Works (l.changeFunction n v) :=
  ((((h.abortLearn n).put _ _).put _ _).put _ _).takeLimits.updPin n _

theorem fieldUnpowered (h : l₀.Works l) : l₀.Works l.fieldUnpowered := by
  have hreset : l₀.Works { l with reg := l.reg.filter (fun e => !fieldRegister e.1 && e.1 / 256 ≠ 0x4030), field := .reset } :=
    h.trans ⟨_, _, _, _, _, _, rfl⟩
  exact hreset.takeLimits

theorem watchOutputs (h : l₀.Works l) : l₀.Works l.watchOutputs := h.eachPin fun _ n hl => hl.updPin n _

/-! #### The car bus -/

theorem eachTx {f : LaneState → Nat → LaneState} (h : l₀.Works l) (hf : ∀ l t, l₀.Works l → l₀.Works (f l t)) :
    l₀.Works (l.eachTx f) := h.foldl _ hf

theorem carBusStart (h : l₀.Works l) : l₀.Works l.carBusStart := by
  have heach := h.eachTx (f := fun l t => (l.setPending t false).setCollisions t 0) fun _ t hl => (hl.put _ _).put _ _
  exact withCan ((heach.put _ _).ite heach) _

theorem renewBuffers (h : l₀.Works l) : l₀.Works l.renewBuffers := h.foldl _ fun _ _ hl => (hl.put _ _).ite hl

theorem keepField (h : l₀.Works l) (old : LaneState) : l₀.Works (l.keepField old) :=
  (((h.withField _).foldl _ fun _ _ hl => hl.put _ _).eachPin fun _ n hl =>
    (hl.setPinBit n 6 false).ite ((hl.setPinBit n 6 false).changeFunction n _)).carBusStart

theorem countLinkLost (h : l₀.Works l) (e : EndId) : l₀.Works (l.countLinkLost e) := (h.inc _).ite h

theorem keepActivation (h : l₀.Works l) (old : LaneState) : l₀.Works (l.keepActivation old) := (h.put _ _).ite h

theorem startIncrement (h : l₀.Works l) : l₀.Works l.startIncrement := h.put _ _

/-! #### The recorder -/

theorem lose (h : l₀.Works l) (code : Nat) : l₀.Works (l.lose code) :=
  .ite (((h.put _ _).put _ _).withLog _) (((h.put _ _).put _ _).withLog _)

theorem record (h : l₀.Works l) (holdUp : Bool) (code : Nat) (data : List Byte) : l₀.Works (l.record holdUp code data) :=
  .ite h (.ite (h.lose _) (.ite ((h.lose _).withLog _) (h.withLog _)))

theorem place (h : l₀.Works l) (holdUp : Bool) (q : Queued) : l₀.Works (l.place holdUp q) := ((h.withLog _).put _ _).put _ _

theorem placeFinal (h : l₀.Works l) (holdUp : Bool) (q : Queued) : l₀.Works (l.placeFinal holdUp q) :=
  (h.lose _).ite (((h.withLog _).put _ _).put _ _)

theorem failRecorder (h : l₀.Works l) (holdUp : Bool) (cause slot : Nat) : l₀.Works (l.failRecorder holdUp cause slot) :=
  have hfinal (q : Queued) := (h.withLog { l.log with failed := some cause }).placeFinal holdUp q
  (hfinal _).ite ((hfinal _).placeFinal _ _)

theorem badSlot (h : l₀.Works l) : l₀.Works l.badSlot := ((h.withLog _).put _ _).put _ _

theorem closeFullLog (h : l₀.Works l) (holdUp closes : Bool) : l₀.Works (l.closeFullLog holdUp closes) :=
  ((((h.withLog _).put _ _).failRecorder _ _ _).ite ((h.place _ _).ite (h.badSlot.failRecorder _ _ _))).ite h

theorem writeRecord (h : l₀.Works l) (holdUp ok closes : Bool) (q : Queued) : l₀.Works (l.writeRecord holdUp ok closes q) := by
  have hclosed := ((h.withLog l.log.passWorn).badSlot).closeFullLog holdUp closes
  exact (((h.withLog _).put _ _).failRecorder _ _ _).ite (((h.place _ _).closeFullLog _ _).ite
    (hclosed.ite ((hclosed.failRecorder _ _ _).ite ((hclosed.failRecorder _ _ _).ite hclosed))))

theorem flushOne (h : l₀.Works l) (holdUp : Bool) (q : Queued) : l₀.Works (l.flushOne holdUp q) := by
  have written (l : LaneState) (hl : l₀.Works l) (ok : Bool) (outcomes : List Bool) :
      l₀.Works (({ l with log := { l.log with outcomes := outcomes } } : LaneState).writeRecord holdUp ok true q) :=
    (hl.withLog _).writeRecord _ _ _ _
  have hw := written l h
  exact (h.lose _).ite ((hw _ _).ite (((hw _ _).lose _).ite ((written _ (hw _ _) _ _).ite ((written _ (hw _ _) _ _).lose _))))

theorem flushQueue (h : l₀.Works l) (holdUp : Bool) : l₀.Works (l.flushQueue holdUp) :=
  (h.withLog _).foldl _ fun _ q hl => hl.flushOne holdUp q

/-! #### What stays -/

theorem mode (h : l.Works m) : m.mode = l.mode := by obtain ⟨_, _, _, _, _, _, rfl⟩ := h; rfl

theorem upd (h : l.Works m) : m.upd = l.upd := by obtain ⟨_, _, _, _, _, _, rfl⟩ := h; rfl

theorem poss (h : l.Works m) : m.poss = l.poss := by obtain ⟨_, _, _, _, _, _, rfl⟩ := h; rfl

theorem xmem (h : l.Works m) : m.xmem = l.xmem := by obtain ⟨_, _, _, _, _, _, rfl⟩ := h; rfl

end LaneState.Works

/-- A restart comes to the mode it is given, with the update's banks as they were. -/
theorem LaneState.restart_mode (l : LaneState) (holdUp : Bool) (mode : Mode) :
    (l.restart holdUp mode).mode = mode ∧ (l.restart holdUp mode).upd = { l.upd with image := [], erased := false, length := 0 } := by
  unfold LaneState.restart
  extract_lets closed
  have hclosed : l.Works closed := ((LaneState.Works.self.flushQueue holdUp).countLinkLost .e1).countLinkLost .e2
  have hworks (m : LaneState) : m.Works (((m.keepField closed).keepActivation closed).startIncrement) :=
    ((LaneState.Works.self.keepField closed).keepActivation closed).startIncrement
  exact ⟨(hworks _).mode,
    (hworks _).upd.trans (congrArg (fun u : Update => { u with image := [], erased := false, length := 0 }) hclosed.upd)⟩

end Sys2Proof.Machine

namespace Sys2Proof.Machine

/-! ### The firmware update of a lane (R456 to R463) -/

theorem State.takeDefaults_lane (s : State) (x y : LaneId) : (s.takeDefaults x).lane y = s.lane y := by
  unfold State.takeDefaults State.restoreModule
  split
  · exact List.foldlRecOn (motive := fun t : State => t.lane y = s.lane y) _ _ (by cases y <;> rfl)
      fun t ht w _ => (show (t.updWin w _).lane y = t.lane y by cases y <;> rfl).trans ht
  · rfl

/-- A record leaves the update of a lane, its mode and its other registers. -/
theorem State.record_upd (s : State) (x : LaneId) (code : Nat) (data : List Byte) :
    ((s.record x code data).lane x).upd = (s.lane x).upd ∧ ((s.record x code data).lane x).mode = (s.lane x).mode := by
  obtain ⟨log, reg, he, -⟩ := s.record_frame x code data
  rw [he, State.upd_lane_self]
  exact ⟨rfl, rfl⟩

/-- The registers of which no event is counted. -/
def NoLoss (k : Nat) : Prop := k < 0x150000 ∨ 0x160000 ≤ k

theorem State.record_agrees (s : State) (x : LaneId) (code : Nat) (data : List Byte) : s.Agrees NoLoss x (s.record x code data) :=
  .record .self (fun k hk => by unfold NoLoss at hk; omega) code data

theorem regWidth_update : regWidth 0x112000 = 8 ∧ regWidth 0x161200 = 16 := by decide +kernel

/-- A release leaves the update of its lane. -/
theorem State.release_upd (s : State) (x : LaneId) (cause : Nat) : ((s.release x cause).lane x).upd = (s.lane x).upd := by
  by_cases h : (s.lane x).mode = .possession
  · obtain ⟨reg, field, msg, hown⟩ := (State.release_frame h cause).own
    rw [hown, State.releasing_lane]
  · rw [State.release_other h]

/-- An update that ends leaves the lane's banks and mode as they were. -/
theorem State.endUpdate_lane {s : State} {x : LaneId} (hc : (s.lane x).RegsCanon) (code : Nat) :
    (s.endUpdate x code).get x 0x112000 = 0 ∧
    ((s.endUpdate x code).lane x).upd = { (s.lane x).upd with length := 0, erased := false, image := [] } ∧
    ((s.endUpdate x code).lane x).mode = (s.lane x).mode ∧ (s.endUpdate x code).lane x.peer = s.lane x.peer := by
  unfold State.endUpdate
  extract_lets bank
  obtain ⟨hupd, hmode⟩ := (s.upd x fun l => { l.put 0x112000 0 with upd := { l.upd with length := 0, erased := false, image := [] } }).record_upd
    x 0x0040 (updateData 4 bank code)
  have hagrees := (s.upd x fun l => { l.put 0x112000 0 with upd := { l.upd with length := 0, erased := false, image := [] } }).record_agrees
    x 0x0040 (updateData 4 bank code)
  refine ⟨(hagrees.get (.inl (by decide))).trans ?_, hupd.trans ?_, hmode.trans ?_, hagrees.2.trans (s.upd_lane_peer x _)⟩
  · rw [State.get, State.upd_lane_self]
    refine (LaneState.put_get_self _ 0x112000 0 hc).trans (Nat.zero_mod _)
  · rw [State.upd_lane_self]
  · rw [State.upd_lane_self, LaneState.put_mode]

/-- The lane that starts anew in the bank of its activation (R461). -/
def LaneState.reactivated (l : LaneState) (holdUp : Bool) : LaneState := (l.restart holdUp .inReset).put 0x112000 2

theorem LaneState.reactivated_mode (l : LaneState) (holdUp : Bool) : (l.reactivated holdUp).mode = .inReset :=
  (l.restart_mode holdUp .inReset).1

theorem LaneState.reactivated_bootBank (l : LaneState) (holdUp : Bool) : (l.reactivated holdUp).upd.bootBank = l.upd.bootBank := by
  rw [LaneState.reactivated, LaneState.put_upd, (l.restart_mode holdUp .inReset).2]

theorem LaneState.reactivated_get {l : LaneState} (h : l.RegsCanon) (holdUp : Bool) : (l.reactivated holdUp).get 0x112000 = 2 := by
  rw [LaneState.reactivated, LaneState.put_get_self _ 0x112000 2 (h.restart holdUp .inReset), regWidth_update.1, Nat.mod_eq_of_lt (by decide)]

/-- The state in which the lane is released, with its image's bank marked and event 0040h recorded. -/
def State.banked (s : State) (x : LaneId) : State :=
  let bank := (s.lane x).spareBank
  let fw := firmwareOf (s.lane x).upd.image
  (s.record x 0x0040 (updateData 2 bank 0)).upd x (fun l => { l with upd := { l.upd with
    bootBank := bank
    bank0 := if bank = 0 then fw else l.upd.bank0
    bank1 := if bank = 0 then l.upd.bank1 else fw } })

theorem State.activate_eq (s : State) (x : LaneId) : s.activate x =
    (((s.banked x).release x 5).takeDefaults x).upd x (fun l => l.reactivated (s.banked x).keeper.onHoldUp) := by
  simp only [State.activate, State.banked, LaneState.reactivated]

theorem State.banked_bootBank (s : State) (x : LaneId) : ((s.banked x).lane x).upd.bootBank = (s.lane x).spareBank := by
  rw [State.banked, State.upd_lane_self]

theorem State.banked_canon {s : State} (h : s.LanesCanon) (x : LaneId) : (s.banked x).LanesCanon :=
  (h.record x _ _).upd x fun _ hl => hl.withUpd _

/-- An activation resets the lane into the bank of its image. -/
theorem State.activate_lane {s : State} (hc : Canon s) (x : LaneId) :
    ((s.activate x).lane x).mode = .inReset ∧ (s.activate x).get x 0x112000 = 2 ∧
    ((s.activate x).lane x).upd.bootBank = (s.lane x).spareBank := by
  have hcanon := (((State.banked_canon (.of_canon hc) x).release x 5).takeDefaults x).lane x
  rw [State.get, State.activate_eq, State.upd_lane_self]
  refine ⟨LaneState.reactivated_mode _ _, LaneState.reactivated_get hcanon _, ?_⟩
  rw [LaneState.reactivated_bootBank, State.takeDefaults_lane, State.release_upd, State.banked_bootBank]

/-- The lane that has shown itself fit again (R462). -/
def LaneState.activated (l : LaneState) : LaneState := (l.put 0x112000 0).put 0x161200 (max l.running.security (l.get 0x161200))

theorem LaneState.activated_get {l : LaneState} (h : l.RegsCanon) : l.activated.get 0x112000 = 0 ∧
    l.activated.get 0x161200 = max l.running.security (l.get 0x161200) % 65536 := by
  obtain ⟨h₈, h₁₆⟩ := regWidth_update
  constructor
  · rw [LaneState.activated, LaneState.put_get_ne _ (by decide), LaneState.put_get_self _ _ _ h, Nat.zero_mod]
  · rw [LaneState.activated, LaneState.put_get_self _ _ _ (h.put _ _), h₁₆]
    rfl

theorem doActivationComplete_fit {s : State} {x : LaneId} (h : s.get x 0x112000 = 2) (hfit : s.fit x = true) :
    doActivationComplete x s = (s.upd x fun l => l.activated).record x 0x0040 (updateData 3 ((s.lane x).get 0x112100) 0) :=
  if_pos ⟨h, hfit⟩

/-- Settles O10, each command by the update that it leaves. -/
theorem firmwareUpdate : Obligations.FirmwareUpdate := by
  refine ⟨?begins, ?refused, ?erased, ?busy, ?joins, ?abandons, ?activates, ?fails, ?completes⟩
  case begins =>
    intro s a x len p lo hi hr hmay hlow hhigh hcompatible
    refine exec_next rfl ((State.through_of_reaches hr _).trans ((State.command_runs hr hmay (by simp [hlow, hhigh])).trans ?_))
    rw [hcompatible, Bool.not_true, if_neg Bool.false_ne_true]
    simp only [State.upd_lane_self, LaneState.spareBank]
    rw [show ∀ u : Update, ({ (s.lane x).put 0x112000 1 with upd := u } : LaneState).get 0x112100 = (s.lane x).get 0x112100 from
      fun _ => LaneState.put_get_ne _ (by decide) 1]
    rfl
  case refused =>
    intro s a x len p lo hi hr hmode
    exact exec_next rfl ((State.through_of_reaches hr _).trans (State.command_refused hr (by simp [State.mayUpdate, hmode])))
  case erased =>
    intro s x h
    exact exec_next rfl (if_pos h)
  case busy =>
    intro s a x d hr h herased
    refine exec_next rfl ((State.through_of_reaches hr _).trans ((State.command_runs hr (by simp [h]) rfl).trans ?_))
    exact if_pos (by simp [herased])
  case joins =>
    intro s a x d hr h herased hlen hat hfits
    refine exec_next rfl ((State.through_of_reaches hr _).trans ((State.command_runs hr (by simp [h]) rfl).trans ?_))
    dsimp only
    rw [herased, Bool.not_true, if_neg Bool.false_ne_true, if_neg (by omega), if_neg (by omega)]
  case abandons =>
    intro s a x hc hr h
    obtain ⟨hget, hupd, -, hpeer⟩ := State.endUpdate_lane (lane_regs_canon hc x) 0
    refine Leads.of_eq rfl ((State.through_of_reaches hr _).trans (State.command_runs hr (by simp [h]) rfl)) ?_
    rw [State.answer_get, State.answer_lane, State.answer_lane, State.answer_ans]
    exact ⟨hget, hupd, rfl, hpeer⟩
  case activates =>
    intro s a x hc hr h hlen hcheck
    obtain ⟨hmode, hget, hbank⟩ := State.activate_lane hc x
    refine Leads.of_eq rfl ((State.through_of_reaches hr _).trans ((State.command_runs hr (by simp [h, hlen]) rfl).trans
      (congrArg (State.answer · 0) (if_pos hcheck)))) ?_
    rw [State.answer_get, State.answer_lane, State.answer_ans]
    exact ⟨hmode, hget, rfl, hbank⟩
  case fails =>
    intro s a x hc hr h hlen hcheck
    obtain ⟨hget, hupd, hmode, -⟩ := State.endUpdate_lane (lane_regs_canon hc x) (s.firmwareCheck x)
    refine Leads.of_eq rfl ((State.through_of_reaches hr _).trans ((State.command_runs hr (by simp [h, hlen]) rfl).trans
      (congrArg (State.answer · 0) (if_neg hcheck)))) ?_
    rw [State.answer_get, State.answer_lane]
    exact ⟨hget, hmode, by rw [hupd]⟩
  case completes =>
    intro s x hc h hmode hfit
    refine Leads.of_eq rfl (doActivationComplete_fit h hfit) ?_
    have hagrees := (s.upd x fun l => l.activated).record_agrees x 0x0040 (updateData 3 ((s.lane x).get 0x112100) 0)
    obtain ⟨-, hmode'⟩ := (s.upd x fun l => l.activated).record_upd x 0x0040 (updateData 3 ((s.lane x).get 0x112100) 0)
    obtain ⟨hoff, hsecurity⟩ := LaneState.activated_get (lane_regs_canon hc x)
    rw [hagrees.get (.inl (by decide)), hagrees.get (.inr (by decide)), hmode', State.get, State.get, State.upd_lane_self]
    exact ⟨hoff, hsecurity, hmode⟩

end Sys2Proof.Machine

namespace Sys2Proof.Machine

/-- Lane A at the switch beat of an adopted close, with a limit that waits under the number of the register that takes the
close's count of members. -/
def strayMembers : State := (strayLimit 0x240300 0).upd .A fun l => { l with
  field := { l.field with linkUp := true }
  roll := { l.roll with running := true, adopted := some (emptyClose 2) } }

theorem strayMembers_other : Canon strayMembers ∧ (strayMembers.lane .A).ready = true ∧
    Quiet strayMembers .A 34 ∧ Quiet strayMembers .A 48 ∧ Quiet strayMembers .A 57 ∧ Quiet strayMembers .A 58 ∧
    Quiet strayMembers .A 107 ∧ (doSwitchBeat .A strayMembers).get .A 0x240300 ≠ 2 := by
  decide +kernel

/-- Refutes O21: as the pins take their commands at the switch beat, a limit that waits under the number of entry 2403h
replaces the count of members that the close has brought into force. -/
theorem not_switchBeatAndSchedule : ¬ Obligations.SwitchBeatAndSchedule := by
  rintro ⟨hswitch, -⟩
  obtain ⟨hcanon, hready, h34, h48, h57, h58, h107, hother⟩ := strayMembers_other
  obtain ⟨t, hexec, -, -, -, -, -, hmembers, -⟩ :=
    hswitch strayMembers .A (emptyClose 2) hcanon rfl rfl hready h34 h48 h57 h58 h107
  obtain rfl : doSwitchBeat .A strayMembers = t := Host.Outcome.next.inj hexec
  exact hother hmembers

end Sys2Proof.Machine

namespace Sys2Proof.Machine

/-! ### Acknowledgement, injection and arming (O37) -/

theorem tabGet_foldl_clear {t : Regs} (h : tabCanon (fun _ => 0) t = true) (ks : List Nat) (j : Nat) :
    tabGet (fun _ => 0) j (ks.foldl (fun t k => tabSet (fun _ => 0) k 0 t) t) = (if j ∈ ks then 0 else tabGet (fun _ => 0) j t) ∧
      tabCanon (fun _ => (0 : Nat)) (ks.foldl (fun t k => tabSet (fun _ => 0) k 0 t) t) = true := by
  induction ks generalizing t with
  | nil => exact ⟨rfl, h⟩
  | cons k ks ih =>
    obtain ⟨hget, hcanon⟩ := ih (tabCanon_tabSet (d := fun _ => (0 : Nat)) k 0 h)
    refine ⟨hget.trans ?_, hcanon⟩
    by_cases hj : j = k
    · subst hj
      simp [tabGet_tabSet_self (d := fun _ => (0 : Nat)) j 0 h]
    · simp [hj, tabGet_tabSet_ne (d := fun _ => (0 : Nat)) hj]

theorem mem_bitsOf {v : Nat} (hv : v < 8192) (k : Nat) : k ∈ bitsOf 13 v ↔ v.testBit k = true := by
  simp only [bitsOf, List.mem_filter, List.mem_range, and_iff_right_iff_imp]
  intro hk
  by_contra hge
  exact absurd hk (by simp [Nat.testBit_lt_two_pow (hv.trans_le (Nat.pow_le_pow_right (by decide) (not_lt.mp hge) : 2 ^ 13 ≤ 2 ^ k))])

/-- An acknowledgement takes away the levels of the classes it names, and no others (R415). -/
theorem Collector.acknowledge_classLevel {c : Collector} (h : CollCanon c) {v : Nat} (hv : v < 8192) (k : Nat) :
    (c.acknowledge v).classLevel k = if v.testBit k = true then 0 else c.classLevel k :=
  (tabGet_foldl_clear h.1 (bitsOf 13 v) k).1.trans (by simp only [mem_bitsOf hv, Collector.classLevel])

theorem Collector.acknowledge_canon {c : Collector} (h : CollCanon c) (v : Nat) : CollCanon (c.acknowledge v) :=
  ⟨(tabGet_foldl_clear h.1 (bitsOf 13 v) 0).2, h.2⟩

theorem Collector.raiseClass_classLevel {c : Collector} (h : CollCanon c) (cls lv k : Nat) :
    (c.raiseClass cls lv).classLevel k = if k = cls then max (c.classLevel cls) lv else c.classLevel k := by
  by_cases hk : k = cls
  · subst hk
    rw [if_pos rfl]
    exact tabGet_tabSet_self (d := fun _ => (0 : Nat)) k _ h.1
  · rw [if_neg hk]
    exact tabGet_tabSet_ne (d := fun _ => (0 : Nat)) hk _ c.level


theorem State.record_coll (s : State) (x : LaneId) (code : Nat) (data : List Byte) :
    ((s.record x code data).lane x).coll = (s.lane x).coll := by
  obtain ⟨log, reg, he, -⟩ := s.record_frame x code data
  rw [he, State.upd_lane_self]

/-- A lane with other acknowledged reactions. -/
def State.acknowledged (s : State) (x : LaneId) (v : Nat) : State :=
  (s.upd x fun l => { l with coll := l.coll.acknowledge v }).record x 0x0011 (toBytes 2 v ++ [0])

theorem doAcknowledge_lane {s : State} {a : Acc} {x : LaneId} {v : BitVec 16} (hr : Reaches s a 1 x) (hv : v.toNat < 8192) :
    doAcknowledge a false v [] s = (s.acknowledged x v.toNat).answer 0 := by
  have hrun : s.faultCommand a false 0x1406 1 (fun _ => true) (fun _ => decide (v.toNat < 8192)) (fun c =>
      ((if s.collects c then s.acknowledgeWith c [] v.toNat else s.acknowledgeWith c [] v.toNat)).answer 0) =
        (s.acknowledged x v.toNat).answer 0 :=
    (State.command_runs hr rfl (by simpa using hv)).trans (by simp only [ite_self]; rfl)
  simp only [doAcknowledge, hrun, List.isEmpty_nil, or_true, if_true]

theorem testBit_clearMask_of {m k : Nat} (h : m.testBit k = true) (n : Nat) : (clearMask n m).testBit k = false := by
  rw [testBit_clearMask, h, Bool.not_true, Bool.and_false]

/-- A source that enters fault and takes its level in its class. -/
def Collector.hit (k : Collector) (n lv : Nat) : Collector :=
  ((k.enter n false).raiseClass (sourceClass n) lv).leave (sourceClass n) lv

theorem State.decideFaults_fresh {s : State} {x : LaneId} {n d : Nat} (hin : sourceIn (.lane x) n = true)
    (hnew : (s.lane x).coll.inFault.testBit n = false) (hclass : (s.lane x).coll.classLevel (sourceClass n) = 0)
    (h1 : 1 ≤ s.sourceLevel (.lane x) n) :
    s.decideFaults (.lane x) [⟨n, false, d⟩] =
      ([⟨n, s.sourceLevel (.lane x) n, s.sourceLevel (.lane x) n, false, false, d⟩],
        s.upd x fun l => { l with coll := l.coll.hit n (s.sourceLevel (.lane x) n) }) := by
  have hl := s.entered_sourceLevel (.lane x) n n false
  rw [State.decideFaults_new hin hnew, State.classReaction_fresh, hl, State.entered_lane]
  · refine Prod.ext rfl ?_
    cases x <;> rfl
  · rw [State.entered_collector]
    exact hclass
  · rw [hl]
    exact h1

theorem State.recordReaction_lane (s : State) (x : LaneId) (r : Taken) :
    ∃ log reg, (s.recordReaction (.lane x) r).lane x = { s.lane x with log := log, reg := reg } ∧
      (s.recordReaction (.lane x) r).lane x.peer = s.lane x.peer := by
  obtain ⟨log, reg, he, -⟩ := s.record_frame x 0x0010 (reactionData r false (s.lane x).time64)
  refine ⟨log, (({ s.lane x with log := log, reg := reg } : LaneState).inc (key (0x1410 + r.source) 3)).reg, ?_, ?_⟩
  · simp only [State.recordReaction, he, State.inc, State.upd_lane_self]
    rfl
  · simp only [State.recordReaction, he, State.inc, State.upd_lane_peer]

theorem State.react_low_lane {s : State} {x : LaneId} {taken : List Taken} (h : ∀ r ∈ taken, r.level ≤ 2) :
    ∃ log reg, (s.react (.lane x) taken).lane x = { s.lane x with log := log, reg := reg } ∧
      (s.react (.lane x) taken).lane x.peer = s.lane x.peer := by
  rw [State.react, State.carryOut_of_low h]
  simp only [State.tossCheck_lane]
  refine List.foldlRecOn (motive := fun t : State => ∃ log reg, t.lane x = { s.lane x with log := log, reg := reg } ∧
    t.lane x.peer = s.lane x.peer) _ _ ⟨_, _, rfl, rfl⟩ ?_
  rintro t ⟨log, reg, hown, hpeer⟩ r -
  obtain ⟨log', reg', hown', hpeer'⟩ := t.recordReaction_lane x r
  exact ⟨log', reg', by rw [hown', hown], hpeer'.trans hpeer⟩

/-- The reaction of a source at its own level. -/
def State.ownReaction (s : State) (x : LaneId) (n d : Nat) : Taken :=
  ⟨n, s.sourceLevel (.lane x) n, s.sourceLevel (.lane x) n, false, false, d⟩

/-- The collector after an acknowledgement in whose cycle a source took its level (R409, R415). -/
def Collector.hitAcknowledged (k : Collector) (n lv v : Nat) : Collector :=
  (((k.hit n lv).acknowledge v).raiseClass (sourceClass n) lv).leave (sourceClass n) lv

theorem State.acknowledgeWith_hit {s : State} {x : LaneId} {n d v : Nat} (hin : sourceIn (.lane x) n = true)
    (hnew : (s.lane x).coll.inFault.testBit n = false) (hclass : (s.lane x).coll.classLevel (sourceClass n) = 0)
    (h1 : 1 ≤ s.sourceLevel (.lane x) n) :
    s.acknowledgeWith (.lane x) [⟨n, false, d⟩] v =
      ((s.upd x fun l => { l with coll := l.coll.hitAcknowledged n (s.sourceLevel (.lane x) n) v }).record x 0x0011
        (toBytes 2 v ++ [0])).react (.lane x) [s.ownReaction x n d] := by
  simp only [State.acknowledgeWith, List.isEmpty_cons, Bool.false_eq_true, if_false,
    State.decideFaults_fresh hin hnew hclass h1, State.recordAcknowledge, State.updColl, Collector.releave,
    List.foldl_cons, List.foldl_nil, h1, if_true]
  cases x <;> rfl

theorem doAcknowledge_hit {s : State} {a : Acc} {x : LaneId} {v : BitVec 16} {n d : Nat} (hr : Reaches s a 1 x)
    (hv : v.toNat < 8192) (hcol : s.collects (.lane x) = true) :
    doAcknowledge a false v [⟨n, false, d⟩] s = (s.acknowledgeWith (.lane x) [⟨n, false, d⟩] v.toNat).answer 0 := by
  have hrun : s.faultCommand a false 0x1406 1 (fun _ => true) (fun _ => decide (v.toNat < 8192)) (fun c =>
      ((if s.collects c then s.acknowledgeWith c [⟨n, false, d⟩] v.toNat else s.acknowledgeWith c [] v.toNat)).answer 0) =
        (s.acknowledgeWith (.lane x) [⟨n, false, d⟩] v.toNat).answer 0 :=
    (State.command_runs hr rfl (by simpa using hv)).trans (by simp only [hcol, if_true])
  simp only [doAcknowledge, hrun, State.answer_ans, true_or, if_true]

theorem State.acknowledgeWith_hit_lane {s : State} {x : LaneId} {n d v : Nat} (hin : sourceIn (.lane x) n = true)
    (hnew : (s.lane x).coll.inFault.testBit n = false) (hclass : (s.lane x).coll.classLevel (sourceClass n) = 0)
    (h1 : 1 ≤ s.sourceLevel (.lane x) n) (h2 : s.sourceLevel (.lane x) n ≤ 2) :
    ∃ log reg, (s.acknowledgeWith (.lane x) [⟨n, false, d⟩] v).lane x =
        { s.lane x with coll := (s.lane x).coll.hitAcknowledged n (s.sourceLevel (.lane x) n) v, log := log, reg := reg } ∧
      (s.acknowledgeWith (.lane x) [⟨n, false, d⟩] v).lane x.peer = s.lane x.peer := by
  have hlow : ∀ r ∈ [s.ownReaction x n d], r.level ≤ 2 := by simpa [State.ownReaction] using h2
  rw [State.acknowledgeWith_hit hin hnew hclass h1]
  obtain ⟨log, reg, hown, hpeer⟩ := State.react_low_lane (x := x) (s := (s.upd x fun l => { l with
    coll := l.coll.hitAcknowledged n (s.sourceLevel (.lane x) n) v }).record x 0x0011 (toBytes 2 v ++ [0])) hlow
  obtain ⟨log', reg', hrec, -⟩ := (s.upd x fun l => { l with
    coll := l.coll.hitAcknowledged n (s.sourceLevel (.lane x) n) v }).record_frame x 0x0011 (toBytes 2 v ++ [0])
  refine ⟨log, reg, ?_, ?_⟩
  · rw [hown, hrec, State.upd_lane_self, State.upd_lane_self]
  · rw [hpeer, State.record, State.upd_lane_peer, State.upd_lane_peer]

theorem Collector.hitAcknowledged_inFault (k : Collector) (n lv v : Nat) :
    (k.hitAcknowledged n lv v).inFault = withBit k.inFault n true := rfl

theorem Collector.hitAcknowledged_classLevel {k : Collector} (h : CollCanon k) {n lv v : Nat} (hv : v < 8192)
    (hclass : k.classLevel (sourceClass n) = 0) (j : Nat) :
    (k.hitAcknowledged n lv v).classLevel j =
      if j = sourceClass n then lv else if v.testBit j = true then 0 else k.classLevel j := by
  have hhit : CollCanon (k.hit n lv) := ⟨tabCanon_tabSet _ _ h.1, h.2⟩
  have hlevel (i : Nat) : (k.hit n lv).classLevel i = if i = sourceClass n then lv else k.classLevel i :=
    ((k.enter n false).raiseClass_classLevel h (sourceClass n) lv i).trans (by
      rw [show (k.enter n false).classLevel (sourceClass n) = 0 from hclass, Nat.zero_max]
      rfl)
  refine (Collector.raiseClass_classLevel (Collector.acknowledge_canon hhit v) (sourceClass n) lv j).trans ?_
  rw [Collector.acknowledge_classLevel hhit hv, Collector.acknowledge_classLevel hhit hv, hlevel, hlevel]
  by_cases hj : j = sourceClass n
  · simp only [hj, if_true]
    split <;> simp
  · simp only [hj, if_false]

/-- What an injection into a source that is not in fault does to its collector (R421). -/
def Collector.injects (k : Collector) (n own : Nat) : Collector :=
  let k := { k with injected := withBit k.injected n true }
  if 1 ≤ own then
    { k.leave (sourceClass n) (min own 1) with injUnack := withBit k.injUnack (sourceClass n) true }
  else k

/-- The reaction that an injection records. -/
def State.injectedReaction (s : State) (x : LaneId) (n : Nat) : Taken :=
  ⟨n, min (s.sourceLevel (.lane x) n) 1, s.sourceLevel (.lane x) n, false, true, 0⟩

theorem State.inject_new {s : State} {x : LaneId} {n : Nat} (harmed : (s.lane x).coll.armed ≠ some n)
    (hf : (s.lane x).coll.inFault.testBit n = false) :
    s.inject (.lane x) n =
      (s.upd x fun l => { l with coll := l.coll.injects n (s.sourceLevel (.lane x) n) }).recordReaction (.lane x)
        (s.injectedReaction x n) := by
  have hlow : ∀ r ∈ [s.injectedReaction x n], r.level ≤ 2 := by
    intro r hr
    obtain rfl := List.mem_singleton.mp hr
    exact le_trans (b := 1) (min_le_right (s.sourceLevel (.lane x) n) 1) one_le_two
  have harm : (if (s.lane x).coll.armed = some n then none else (s.lane x).coll.armed) = (s.lane x).coll.armed := if_neg harmed
  unfold State.inject
  extract_lets k b own armed s1 lv cls r s2
  have hf' : k.inFault.testBit b = false := hf
  have hlv : lv = min (s.sourceLevel (.lane x) n) 1 := if_neg harmed
  have hr : r = s.injectedReaction x n := by
    simp only [r, hlv]
    rfl
  rw [hf', if_neg Bool.false_ne_true, hr, State.carryOut_of_low hlow]
  have hs2 : s2 = s.upd x fun l => { l with coll := l.coll.injects n (s.sourceLevel (.lane x) n) } := by
    by_cases h1 : 1 ≤ s.sourceLevel (.lane x) n
    · have h1' : 1 ≤ lv := hlv ▸ le_min h1 le_rfl
      simp only [s2, if_pos h1', s1]
      refine Eq.trans ?_ (State.upd_congr (f := fun l => { l with coll := { ({ l.coll with
        injected := withBit l.coll.injected n true, armed := if l.coll.armed = some n then none else l.coll.armed } :
          Collector).leave (sourceClass n) lv with injUnack := withBit l.coll.injUnack (sourceClass n) true } }) ?_)
      · cases x <;> rfl
      · simp only [Collector.injects, if_pos h1, Collector.leave, harm, hlv]
    · have h1' : ¬ 1 ≤ lv := fun h => h1 (le_trans (hlv ▸ h) (min_le_left _ _))
      simp only [s2, if_neg h1', s1, State.updColl]
      refine State.upd_congr ?_
      simp only [Collector.injects, if_neg h1, harm]
      rfl
  rw [hs2]

theorem State.inject_unarmed {s : State} {x : LaneId} {n : Nat} (harmed : (s.lane x).coll.armed ≠ some n) :
    ((s.inject (.lane x) n).lane x).coll.injected.testBit n = true ∧
      ((s.inject (.lane x) n).lane x).coll.inFault = (s.lane x).coll.inFault ∧
      ((s.inject (.lane x) n).lane x).coll.sticky = (s.lane x).coll.sticky ∧
      ((s.inject (.lane x) n).lane x).coll.level = (s.lane x).coll.level ∧
      ((s.lane x).coll.inFault.testBit n = false → 1 ≤ s.sourceLevel (.lane x) n →
        ((s.inject (.lane x) n).lane x).coll.injUnack.testBit (sourceClass n) = true) ∧
      ((s.inject (.lane x) n).lane x).mode = (s.lane x).mode ∧ (s.inject (.lane x) n).lane x.peer = s.lane x.peer := by
  cases hf : (s.lane x).coll.inFault.testBit n with
  | true =>
    have he : s.inject (.lane x) n = s.upd x fun l => { l with coll := { l.coll with
        injected := withBit l.coll.injected n true, armed := if l.coll.armed = some n then none else l.coll.armed } } :=
      if_pos hf
    rw [he]
    simp [testBit_withBit_self]
  | false =>
    rw [State.inject_new harmed hf]
    obtain ⟨log, reg, hown, hpeer⟩ := State.recordReaction_lane
      (s.upd x fun l => { l with coll := l.coll.injects n (s.sourceLevel (.lane x) n) }) x (s.injectedReaction x n)
    rw [hown, hpeer, State.upd_lane_self, State.upd_lane_peer]
    by_cases h1 : 1 ≤ s.sourceLevel (.lane x) n
    · simp [Collector.injects, Collector.leave, h1, testBit_withBit_self]
    · simp [Collector.injects, h1, testBit_withBit_self]

/-- Settles O37: a command of the collector changes that collector, and its records the log; a source that enters fault in
the cycle of an acknowledgement takes its level after it. -/
theorem faultCommands : Obligations.FaultCommands := by
  unfold Obligations.FaultCommands
  refine ⟨?_, ?_, ?_, ?_, ?_, ?_, ?_, ?_, ?_, ?_, ?_, ?_, ?_, ?_, ?_⟩
  · intro s c n h
    refine exec_next rfl ?_
    simp [doBlockResetDone, h]
  · intro s x n hn hdomain hfield
    refine exec_next rfl ?_
    have hc : (s.collector (.lane x)).resets.contains n = true := by simpa [State.collector] using hn
    simp only [doBlockResetDone, hc, Bool.not_true, Bool.false_eq_true, if_false, if_neg hdomain, if_neg hfield]
    rfl
  · intro s x hn
    have hc : (s.collector (.lane x)).resets.contains 80 = true := by simpa [State.collector] using hn
    have hrow : (sourceRow 80).map Source.block = some .fieldSide := by decide
    refine Leads.of_eq rfl (t := ((s.updColl (.lane x) fun k => { k with resets := k.resets.filter (· ≠ 80) }).upd x
      fun l => l.updField fun f => { f with barred := false })) ?_ ⟨?_, ?_, ?_⟩
    · simp only [doBlockResetDone, hc, hrow, Bool.not_true, Bool.false_eq_true, if_false, Option.some.injEq, reduceCtorEq, if_true]
    · simp [State.updColl, LaneState.updField]
    · simp [LaneState.updField]
    · simp [State.updColl]
  · intro s hn haw
    have hc : (s.collector .module).resets.contains 132 = true := by simpa [State.collector] using hn
    have hrow : (sourceRow 132).map Source.block = some .arbiter := by decide
    refine Leads.of_eq rfl (t := doArbiterRestart (s.updColl .module fun k => { k with resets := k.resets.filter (· ≠ 132) })) ?_ ?_
    · simp only [doBlockResetDone, hc, hrow, Bool.not_true, Bool.false_eq_true, if_false, if_true]
    · have haw' : (s.updColl .module fun k => { k with resets := k.resets.filter (· ≠ 132) }).awake = true := haw
      simp only [doArbiterRestart, haw', Bool.not_true, Bool.false_eq_true, if_false]
      simp [State.lower, State.updColl]
  · intro s a x v hcanon hr hv
    have hcoll : ((s.acknowledged x v.toNat).lane x).coll = (s.lane x).coll.acknowledge v.toNat := by
      rw [State.acknowledged, State.record_coll, State.upd_lane_self]
    have hcc : CollCanon (s.lane x).coll := (lane_canon hcanon x).2.2.2.2
    refine Leads.of_eq rfl ((State.through_of_reaches hr _).trans (doAcknowledge_lane hr hv)) ?_
    simp only [State.answer_lane, hcoll]
    refine ⟨fun k hk => ⟨?_, testBit_clearMask_of hk _, testBit_clearMask_of hk _⟩, fun k hk => ?_, rfl, rfl, ?_, ?_, rfl⟩
    · rw [Collector.acknowledge_classLevel hcc hv, if_pos hk]
    · rw [Collector.acknowledge_classLevel hcc hv, if_neg (by simp [hk])]
    · intro hrec
      have hrec' : CanRecord ((s.upd x fun l => { l with coll := l.coll.acknowledge v.toNat }).lane x) := by
        rw [State.upd_lane_self]
        exact hrec
      rw [Queues, State.answer_lane, State.acknowledged, State.record, State.upd_lane_self,
        LaneState.record_of_canRecord hrec', State.upd_lane_self]
      simp only [State.upd_keeper]
      rfl
    · rw [State.acknowledged, State.record, State.upd_lane_peer, State.upd_lane_peer]
  · intro s a x v n d hcanon hr hv hcol hin hnew hclass h1 h2
    obtain ⟨log, reg, hown, hpeer⟩ := State.acknowledgeWith_hit_lane (d := d) (v := v.toNat) hin hnew hclass h1 h2
    have hlevel := Collector.hitAcknowledged_classLevel (lane_canon hcanon x).2.2.2.2 (n := n)
      (lv := s.sourceLevel (.lane x) n) hv hclass
    refine Leads.of_eq rfl ((State.through_of_reaches hr _).trans (doAcknowledge_hit hr hv hcol)) ?_
    simp only [State.answer_lane, hown, hpeer]
    refine ⟨testBit_withBit_self _ _ _, ?_, fun k hne hk => ?_, trivial, trivial, rfl⟩
    · rw [hlevel, if_pos rfl]
    · rw [hlevel, if_neg hne, if_pos hk]
  · intro s a v hr hv
    have hrun : s.faultCommand a true 0x1406 1 (fun _ => true) (fun _ => decide (v.toNat < 8192)) (fun c =>
        ((if s.collects c then s.acknowledgeWith c [] v.toNat else s.acknowledgeWith c [] v.toNat)).answer 0) =
          (({ s with coll := s.coll.acknowledge v.toNat }).recordBoth 0x0011 (toBytes 2 v.toNat ++ [1])).answer 0 :=
      (State.moduleCommand_runs hr rfl (by simpa using hv)).trans (by simp only [ite_self]; rfl)
    refine exec_next rfl ((State.through_of_on hr.2.2 _).trans ?_)
    simp only [doAcknowledge, hrun, List.isEmpty_nil, or_true, if_true]
  · intro s a x v hr hv
    refine exec_next rfl ((State.through_of_reaches hr _).trans ?_)
    have hrange : s.faultCommand a false 0x1406 1 (fun _ => true) (fun _ => decide (v.toNat < 8192)) (fun c =>
        ((if s.collects c then s.acknowledgeWith c [] v.toNat else s.acknowledgeWith c [] v.toNat)).answer 0) = s.abort abRange :=
      State.command_range hr rfl (by simpa using hv)
    simp only [doAcknowledge, hrange, List.isEmpty_nil, or_true, if_true]
    rfl
  · intro s a x n hr hin harmed
    obtain ⟨hinj, hfault, hsticky, hlevel, hunack, hmode, hpeer⟩ := State.inject_unarmed harmed
    refine Leads.of_eq rfl ((State.through_of_reaches hr _).trans (State.command_runs hr rfl (by cases x <;> exact hin))) ?_
    simp only [State.answer_lane]
    exact ⟨hinj, hfault, hsticky, hlevel, hunack, hmode, hpeer, rfl⟩
  · intro s a x n hr hin
    exact exec_next rfl ((State.through_of_reaches hr _).trans (State.command_range hr rfl (by cases x <;> exact hin)))
  · intro s a n hr hin hfault
    refine exec_next rfl ((State.through_of_on hr.2.2 _).trans ((State.moduleCommand_runs hr rfl hin).trans ?_))
    have hf : (State.collector s .module).inFault.testBit (sourceBit .module n.toNat) = true := hfault
    simp only [State.inject, hf, if_true]
    rfl
  · intro s a x n hr hin hmay
    exact exec_next rfl ((State.through_of_reaches hr _).trans ((State.command_runs hr hmay (by cases x <;> exact hin)).trans rfl))
  · intro s a x n hr hmay
    exact exec_next rfl ((State.through_of_reaches hr _).trans (State.command_refused hr hmay))
  · intro s a n hr hin hmay
    exact exec_next rfl ((State.through_of_on hr.2.2 _).trans (State.moduleCommand_runs hr hmay hin))
  · intro s c
    rfl

end Sys2Proof.Machine

namespace Sys2Proof.Machine

/-! ### Ageing between re-plans (O40) -/

theorem regWidth_plan : regWidth 0x130000 = 16 ∧ regWidth 0x130100 = 64 ∧ regWidth 0x130300 = 32 ∧ regWidth 0x130500 = 32 ∧
    regWidth 0x130600 = 32 ∧ regWidth 0x131A01 = 32 ∧ regWidth 0x131003 = 32 ∧ regWidth 0x131503 = 32 ∧
    (∀ m : Fin 11, regWidth (rowKey m.val 4) = 32 ∧ regWidth (rowKey m.val 5) = 32) := by decide +kernel

/-- A lane after a step of its core voltage to v. -/
def LaneState.guarded (l : LaneState) (v : Nat) : LaneState :=
  let l := (l.put 0x131003 v).inc 0x130500
  l.put 0x131007 (l.statusOf 0)

theorem LaneState.guarded_get {l : LaneState} (h : l.RegsCanon) {v : Nat} (hv : v < 2 ^ 32) (hcount : l.get 0x130500 < 1000) :
    (l.guarded v).get 0x131003 = v ∧ (l.guarded v).get 0x130500 = l.get 0x130500 + 1 := by
  obtain ⟨-, -, -, hw, -, -, hw3, -⟩ := regWidth_plan
  have hkeep : (l.put 0x131003 v).get 0x130500 = l.get 0x130500 := l.put_get_ne (by decide) v
  constructor
  · refine (LaneState.put_get_ne _ (by decide) _).trans ((LaneState.inc_get_ne _ (by decide)).trans ((l.put_get_self _ v h).trans ?_))
    rw [hw3, Nat.mod_eq_of_lt hv]
  · refine (LaneState.put_get_ne _ (by decide) _).trans
      ((LaneState.inc_get_self _ _ (LaneState.RegsCanon.put h _ _) ?_).trans (congrArg (· + 1) hkeep))
    rw [hkeep, hw]
    omega

theorem LaneState.guarded_regOnly (l : LaneState) (v : Nat) : l.RegOnly (l.guarded v) := ((LaneState.RegOnly.self.put _ _).inc _).put _ _

theorem doGuardStep_steps {s : State} {x : LaneId} (haw : (s.lane x).awake = true) (hrun : (s.lane x).mode ≠ .stopped)
    (hlow : s.get x 0x131003 < s.get x 0x131005) :
    doGuardStep x s = (s.upd x fun l => l.guarded (min (s.get x 0x131005) (s.get x 0x131003 + 10))).record x 0x0050
      (((s.lane x).guarded (min (s.get x 0x131005) (s.get x 0x131003 + 10))).rowData 0 4) := by
  have hblocked : ¬ ((!(s.lane x).awake || decide ((s.lane x).mode = .stopped) ||
      decide ((s.lane x).planCeiling 0 ≤ (s.lane x).get (rowKey 0 3))) = true) := by
    simp only [haw, hrun, Bool.not_true, decide_false, Bool.or_self, Bool.false_or, decide_eq_true_eq, not_le]
    exact hlow
  refine (if_neg hblocked).trans ?_
  rw [State.upd_lane_self]
  rfl

theorem doGuardStep_top {s : State} {x : LaneId} (htop : s.get x 0x131005 ≤ s.get x 0x131003) : doGuardStep x s = s := by
  refine if_pos ?_
  have hle : (s.lane x).planCeiling 0 ≤ (s.lane x).get (rowKey 0 3) := htop
  simp [hle]

/-- The registers of a lane that neither its log nor source 108 counts. -/
def NoLife (k : Nat) : Prop := NoLoss k ∧ k ≠ 0x147C03

theorem State.raiseLane_lane {s : State} {x : LaneId} {n : Nat} (hq : Quiet s x n) :
    ∃ coll log reg, (s.raiseLane x n).lane x = { s.lane x with coll := coll, log := log, reg := reg } := by
  obtain ⟨coll, log, reg, w, a, he, -, -⟩ := State.raiseLane_frame hq
  refine ⟨coll, log, reg, ?_⟩
  rw [he]
  cases x <;> rfl

/-- A lane a minute older (R509). -/
def LaneState.aged (l : LaneState) (temp : Int) (rise : Option RiseReading) : LaneState :=
  let hours := l.plan.hours + ageingPerMinute temp
  ((({ l with plan := { l.plan with hours := hours } }).put 0x130600 (ofSigned 32 temp)).put 0x131A01
    (hours / 1000000)).sampleRise rise

theorem LaneState.sampleRise_reg (l : LaneState) (rise : Option RiseReading) : (l.sampleRise rise).reg = l.reg := by
  cases rise <;> rfl

theorem LaneState.aged_agrees (l : LaneState) (temp : Int) (rise : Option RiseReading) :
    l.Agrees (fun k => k ≠ 0x130600 ∧ k ≠ 0x131A01) (l.aged temp rise) :=
  .other (((LaneState.Agrees.other .self rfl).put (by simp) _).put (by simp) _) (LaneState.sampleRise_reg _ rise)

theorem LaneState.aged_get {l : LaneState} (h : l.RegsCanon) (temp : Int) (rise : Option RiseReading) :
    (l.aged temp rise).get 0x130600 = ofSigned 32 temp ∧
      (l.aged temp rise).get 0x131A01 = (l.plan.hours + ageingPerMinute temp) / 1000000 % 2 ^ 32 := by
  obtain ⟨-, -, -, -, hw6, hwA, -⟩ := regWidth_plan
  have hl : ({ l with plan := { l.plan with hours := l.plan.hours + ageingPerMinute temp } } : LaneState).RegsCanon := h
  simp only [LaneState.aged, LaneState.get, LaneState.sampleRise_reg]
  constructor
  · refine (LaneState.put_get_ne _ (by decide) _).trans ((LaneState.put_get_self _ _ _ hl).trans ?_)
    rw [hw6, Nat.mod_eq_of_lt (ofSigned_lt temp)]
  · refine (LaneState.put_get_self _ _ _ (LaneState.RegsCanon.put hl _ _)).trans ?_
    rw [hwA]

theorem LaneState.aged_plan (l : LaneState) (temp : Int) (rise : Option RiseReading) :
    (l.aged temp rise).plan = { l.plan with
      hours := l.plan.hours + ageingPerMinute temp
      samples := (rise.elim [] fun r => [PlanSample.mk (l.log.opNs / 1000000) 10 r.power,
        PlanSample.mk (l.log.opNs / 1000000) 9 (r.converter - r.inlet)]) ++ l.plan.samples } := by
  cases rise <;> rfl

/-- The state in which a minute's ageing has been judged against the limit of row 10. -/
def State.judged (s : State) (x : LaneId) : State := if (s.lane x).rowAtLimit 10 then s.raiseLane x 108 else s

theorem doEquivalentHoursTick_runs {s : State} {x : LaneId} (haw : (s.lane x).awake = true) (hmode : (s.lane x).mode ≠ .dead)
    (temp : Int) (rise : Option RiseReading) :
    doEquivalentHoursTick x temp rise s = rise.elim ((s.upd x fun l => l.aged temp rise).judged x)
      fun r => ((s.upd x fun l => l.aged temp rise).judged x).follow x 3 (decide (1250 < r.converter)) :=
  if_pos (by simp [haw, hmode])

theorem State.judged_lane {s : State} {x : LaneId} (h : bitAt (s.get x 0x130000) 0 = false ∨ Quiet s x 108) :
    s.Agrees NoLife x (s.judged x) ∧ ((s.judged x).lane x).plan = (s.lane x).plan ∧
      ((s.judged x).lane x).mode = (s.lane x).mode := by
  unfold State.judged
  split
  case isTrue hlimit =>
    have hq : Quiet s x 108 := h.resolve_left fun hb => by
      rw [LaneState.rowAtLimit, show bitAt ((s.lane x).get 0x130000) 0 = false from hb, Bool.false_and] at hlimit
      cases hlimit
    obtain ⟨coll, log, reg, hlane⟩ := State.raiseLane_lane hq
    refine ⟨.raiseLane .self hq fun k hk => ?_, by rw [hlane], by rw [hlane]⟩
    obtain ⟨hk, hk'⟩ := hk
    refine ⟨hk', ?_⟩
    unfold NoLoss at hk
    omega
  case isFalse => exact ⟨.self, rfl, rfl⟩

theorem LaneState.takeInterval_get {l : LaneState} {v : Nat} (h : l.RegsCanon) (hnext : l.plan.nextScrub = some v)
    (hv : v < 2 ^ 32) (hlo : l.get 0x131504 ≤ v) (hhi : v ≤ l.get 0x131505) :
    l.takeInterval.get 0x131503 = v ∧ l.takeInterval.plan.nextScrub = none := by
  have hclamp : clampNat v (l.planFloor 5) (l.planCeiling 5) = v := by
    have hf : l.planFloor 5 = l.get 0x131504 := rfl
    have hc : l.planCeiling 5 = l.get 0x131505 := rfl
    rw [clampNat, hf, hc, if_neg (not_lt.mpr hlo), if_neg (not_lt.mpr hhi)]
  obtain ⟨-, -, -, -, -, -, -, hw, -⟩ := regWidth_plan
  simp only [LaneState.takeInterval, hnext, hclamp]
  refine ⟨(l.put_get_self _ v h).trans ?_, trivial⟩
  rw [hw, Nat.mod_eq_of_lt hv]

/-- A minute's ageing leaves the mark of a first plan and the levels of the sources. -/
theorem State.aged_quiet {s : State} {x : LaneId} (temp : Int) (rise : Option RiseReading) {n : Nat} (hn : n < 128) :
    Quiet (s.upd x fun l => l.aged temp rise) x n ↔ Quiet s x n := by
  have hget (j : Nat) (hj : j ≤ 2) : (s.upd x fun l => l.aged temp rise).get x (key (0x1410 + n) j) = s.get x (key (0x1410 + n) j) := by
    rw [State.get, State.upd_lane_self]
    refine (s.lane x).aged_agrees temp rise _ ?_
    simp only [key]
    omega
  simp only [Quiet, State.sourceLevel, State.sourceCeiling, hget 1 (by decide), hget 2 (by decide)]

theorem State.aged_limit (s : State) (x : LaneId) (temp : Int) (rise : Option RiseReading) :
    (bitAt ((s.upd x fun l => l.aged temp rise).get x 0x130000) 0 = false ∨ Quiet (s.upd x fun l => l.aged temp rise) x 108) ↔
      (bitAt (s.get x 0x130000) 0 = false ∨ Quiet s x 108) := by
  rw [State.aged_quiet temp rise (by decide), State.get, State.upd_lane_self, (s.lane x).aged_agrees temp rise _ (by simp)]
  rfl

theorem awake_of_collects {s : State} {x : LaneId} (h : s.collects (.lane x) = true) : (s.lane x).awake = true :=
  (Bool.and_eq_true_iff.mp h).1

/-- Equivalent hours at the limit of row 10 are seen there (R509). -/
theorem LaneState.aged_atLimit {l : LaneState} {temp : Int} {rise : Option RiseReading} (hbit : bitAt (l.get 0x130000) 0 = true)
    (hhours : (l.aged temp rise).get 0x131A01 = (l.plan.hours + ageingPerMinute temp) / 1000000 % 2 ^ 32)
    (hold : 197100 ≤ (l.plan.hours + ageingPerMinute temp) / 1000000)
    (hbound : (l.plan.hours + ageingPerMinute temp) / 1000000 < 2 ^ 31) : (l.aged temp rise).rowAtLimit 10 = true := by
  have hvalue : (l.aged temp rise).rowValue 10 = ((l.plan.hours + ageingPerMinute temp) / 1000000 : Nat) := by
    rw [LaneState.rowValue, show (l.aged temp rise).get (rowKey 10 1) = _ from hhours]
    generalize (l.plan.hours + ageingPerMinute temp) / 1000000 = h at hbound
    rw [toSigned, Nat.mod_mod, Nat.mod_eq_of_lt (by omega), if_pos (by omega)]
  have hb : (l.aged temp rise).get 0x130000 = l.get 0x130000 := l.aged_agrees temp rise _ (by simp)
  rw [LaneState.rowAtLimit, hb, hbit, hvalue, Bool.true_and, atLimit, if_neg (by decide), if_neg (by decide), decide_eq_true_eq]
  exact_mod_cast hold

theorem State.aged_collects (s : State) (x : LaneId) (temp : Int) (rise : Option RiseReading) :
    (s.upd x fun l => l.aged temp rise).collects (.lane x) = s.collects (.lane x) := by
  simp only [State.collects, State.upd_lane_self]
  cases rise <;> rfl

/-- The registers below the plan's, the faults' and the recorder's above it, and the bounds of its row m. -/
def OfBounds (m k : Nat) : Prop := k < 0x130000 ∨ 0x140000 ≤ k ∧ k < 0x200000 ∨ k = rowKey m 4 ∨ k = rowKey m 5

theorem not_ofBounds {m k : Nat} (hm : m < 11) (h : 0x131C00 ≤ k ∧ k < 0x140000 ∨ 0x200000 ≤ k ∨ k = rowKey m 3 ∨ k = rowKey m 7) : ¬ OfBounds m k := by
  simp only [OfBounds, rowKey, key] at h ⊢
  omega

theorem LaneState.moveSetting_agrees {l₀ l : LaneState} {m : Nat} (hm : m < 11) (h : l₀.Agrees (OfBounds m) l) :
    l₀.Agrees (OfBounds m) (l.moveSetting m) := by
  unfold LaneState.moveSetting
  split
  · refine LaneState.Agrees.foldl h _ fun _ n _ hl => hl.put (not_ofBounds hm (.inl ?_)) _
    have hn := List.mem_range.mp ‹_›
    simp only [key]
    omega
  · exact ((h.put (not_ofBounds hm (.inr (.inl (by decide)))) _).put (not_ofBounds hm (.inr (.inl (by decide)))) _).put
      (not_ofBounds hm (.inr (.inl (by decide)))) _
  · exact h.put (not_ofBounds hm (.inr (.inr (.inl rfl)))) _

theorem LaneState.moveSetting_regOnly {l₀ l : LaneState} (h : l₀.RegOnly l) (m : Nat) : l₀.RegOnly (l.moveSetting m) := by
  unfold LaneState.moveSetting
  split
  · exact LaneState.RegOnly.foldl h _ fun _ n _ hl => hl.put _ _
  · exact ((h.put _ _).put _ _).put _ _
  · exact h.put _ _

/-- A bound that is written moves its row's setting and marks, and no bound beside it (R498). -/
theorem LaneState.writeBound_agrees (l : LaneState) {m : Nat} (hm : m < 11) (sub v : Nat) :
    (l.put (rowKey m sub) v).Agrees (OfBounds m) (l.writeBound m sub v) :=
  .put (.put (LaneState.moveSetting_agrees hm .self) (not_ofBounds hm (.inr (.inr (.inr rfl)))) _) (not_ofBounds hm (.inr (.inr (.inr rfl)))) _

theorem LaneState.writeBound_regOnly (l : LaneState) (m sub v : Nat) : l.RegOnly (l.writeBound m sub v) :=
  .put (.put (LaneState.moveSetting_regOnly (.put .self _ _) m) _ _) _ _

theorem doPlanBoundWrite_writes {s : State} {a : Acc} {x : LaneId} {row : Fin 11} {up : Bool} {v : BitVec 32}
    (hr : Reaches s a 2 x) (hrow : boundRow row.val = true) (hok : (s.lane x).boundOk row.val up v.toNat = true) :
    doPlanBoundWrite a row up v s =
      ((s.upd x fun l => l.writeBound row.val (if up then 5 else 4) v.toNat).followConflicts x).answer 0 := by
  obtain ⟨htarget, havailable, hrole, -⟩ := hr
  simp [doPlanBoundWrite, htarget, havailable, not_lt.mpr hrole, hrow, hok]

/-- Settles O40, each command by what it puts into its lane; source 108 and source 3 enter fault in the state that the
minute's ageing has left. -/
theorem ageingBetweenRePlans : Obligations.AgeingBetweenRePlans := by
  unfold Obligations.AgeingBetweenRePlans
  refine ⟨?_, ?_, ?_, ?_, ?_, ?_, ?_, ?_, ?_, ?_, ?_, ?_, ?_, ?_, ?_, ?_⟩
  · intro s x hcanon haw hrun hlow htop hcount
    obtain ⟨hcore, hsteps⟩ := LaneState.guarded_get (lane_regs_canon hcanon x)
      (v := min (s.get x 0x131005) (s.get x 0x131003 + 10)) (lt_of_le_of_lt (min_le_left _ _) htop) hcount
    have hagrees := (s.upd x fun l => l.guarded (min (s.get x 0x131005) (s.get x 0x131003 + 10))).record_agrees x 0x0050
      (((s.lane x).guarded (min (s.get x 0x131005) (s.get x 0x131003 + 10))).rowData 0 4)
    obtain ⟨log, reg, he, -⟩ := (s.upd x fun l => l.guarded (min (s.get x 0x131005) (s.get x 0x131003 + 10))).record_frame x
      0x0050 (((s.lane x).guarded (min (s.get x 0x131005) (s.get x 0x131003 + 10))).rowData 0 4)
    obtain ⟨r, hr⟩ := (s.lane x).guarded_regOnly (min (s.get x 0x131005) (s.get x 0x131003 + 10))
    refine Leads.of_eq rfl (doGuardStep_steps haw hrun hlow) ⟨?_, ?_, ?_, ?_, ?_⟩
    · rw [hagrees.get (.inl (by decide)), State.get, State.upd_lane_self]
      exact hcore
    · rw [hagrees.get (.inl (by decide)), State.get, State.upd_lane_self]
      exact hsteps
    · rw [he, State.upd_lane_self, State.upd_lane_self, hr]
    · rw [he, State.upd_lane_self, State.upd_lane_self, hr]
    · rw [hagrees.2, State.upd_lane_peer]
  · intro s x htop
    exact exec_next rfl (doGuardStep_top htop)
  · intro s x
    rfl
  · intro s x n drop mA hready hdriver hbit hmA
    refine exec_next rfl ?_
    simp only [doOnResistanceMeasure, hready, hdriver, hbit, hmA, Bool.not_false, Bool.and_self, decide_true, if_true]
    rfl
  · intro s x n drop mA hmA
    exact exec_next rfl (if_neg (by simp [hmA]))
  · intro s x k hready
    refine exec_next rfl ?_
    simp only [doScrub, hready, Bool.not_true, Bool.false_eq_true, if_false]
    rfl
  · intro s x k hready
    refine exec_next rfl ?_
    simp only [doScrub, hready, Bool.not_true, Bool.false_eq_true, if_false, if_true]
    rfl
  · intro l v hc hnext hv hlo hhi
    exact LaneState.takeInterval_get hc hnext hv hlo hhi
  · intro s x temp r hcanon haw hrun hdead hlimit hcool
    obtain ⟨htemp, hhours⟩ := LaneState.aged_get (lane_regs_canon hcanon x) temp (some r)
    obtain ⟨hagrees, hplan, -⟩ := State.judged_lane ((State.aged_limit s x temp (some r)).mpr hlimit)
    have hfollow : (decide (1250 < r.converter)) = false := by simpa using hcool
    refine Leads.of_eq rfl (doEquivalentHoursTick_runs haw hdead temp (some r)) ?_
    simp only [Option.elim_some, hfollow, State.follow, Bool.false_eq_true, if_false]
    have hget (k : Nat) (hk : NoLife k) : (((s.upd x fun l => l.aged temp (some r)).judged x).lower (.lane x) 3).get x k =
        ((s.lane x).aged temp (some r)).get k :=
      ((State.Agrees.lower hagrees 3).get hk).trans (by rw [State.get, State.upd_lane_self])
    have hplan' : ((((s.upd x fun l => l.aged temp (some r)).judged x).lower (.lane x) 3).lane x).plan =
        ((s.lane x).aged temp (some r)).plan := by
      rw [State.lower_lane]
      exact hplan.trans (by rw [State.upd_lane_self])
    rw [hplan', LaneState.aged_plan]
    refine ⟨rfl, (hget _ ⟨.inl (by decide), by decide⟩).trans htemp, (hget _ ⟨.inl (by decide), by decide⟩).trans hhours, rfl, ?_⟩
    rw [State.lower_peer, hagrees.2, State.upd_lane_peer]
  · intro s x temp hcanon haw hrun hdead hlimit
    obtain ⟨htemp, -⟩ := LaneState.aged_get (lane_regs_canon hcanon x) temp none
    obtain ⟨hagrees, hplan, -⟩ := State.judged_lane ((State.aged_limit s x temp none).mpr hlimit)
    refine Leads.of_eq rfl (doEquivalentHoursTick_runs haw hdead temp none) ?_
    simp only [Option.elim_none, hplan, State.upd_lane_self, LaneState.aged_plan]
    refine ⟨trivial, ?_, rfl, ?_⟩
    · rw [hagrees.get ⟨.inl (by decide), by decide⟩, State.get, State.upd_lane_self]
      exact htemp
    · rw [hagrees.2, State.upd_lane_peer]
  · intro s x temp hcanon hcol hrun hdead hbit hq hold hbound
    obtain ⟨-, hhours⟩ := LaneState.aged_get (lane_regs_canon hcanon x) temp none
    have hq' := (State.aged_quiet temp none (by decide)).mpr hq
    have hlimit : ((s.upd x fun l => l.aged temp none).lane x).rowAtLimit 10 = true := by
      rw [State.upd_lane_self]
      exact LaneState.aged_atLimit hbit hhours hold hbound
    have hcol' : (s.upd x fun l => l.aged temp none).collects (.lane x) = true := by
      rw [State.aged_collects, hcol]
    refine Leads.of_eq rfl (doEquivalentHoursTick_runs (awake_of_collects hcol) hdead temp none) ?_
    rw [Option.elim_none, State.judged, if_pos hlimit, State.raiseLane_inFault hq' hcol' (by cases x <;> decide)]
    exact testBit_withBit_self _ _ _
  · intro s x temp r hcanon hcol hrun hdead hbit hhot hq
    have hnone : ((s.upd x fun l => l.aged temp (some r)).lane x).rowAtLimit 10 = false := by
      have hb : ((s.lane x).aged temp (some r)).get 0x130000 = s.get x 0x130000 := (s.lane x).aged_agrees temp _ _ (by simp)
      rw [State.upd_lane_self, LaneState.rowAtLimit, hb, hbit, Bool.false_and]
    have hcol' : (s.upd x fun l => l.aged temp (some r)).collects (.lane x) = true := by
      rw [State.aged_collects, hcol]
    refine Leads.of_eq rfl (doEquivalentHoursTick_runs (awake_of_collects hcol) hdead temp (some r)) ?_
    simp only [Option.elim_some, State.judged, hnone, Bool.false_eq_true, if_false, decide_eq_true hhot, State.follow, if_true]
    rw [State.raiseLane_inFault ((State.aged_quiet temp _ (by decide)).mpr hq) hcol' (by cases x <;> decide)]
    exact testBit_withBit_self _ _ _
  · have hbase : ageingPerMinute 5500 = 16666 + b2n (Config.ageingRoundsUp 5500) := by
      unfold ageingPerMinute
      rw [if_neg (by decide)]
      exact congrArg (· + b2n (Config.ageingRoundsUp 5500)) (by decide +kernel)
    rw [hbase]
    cases Config.ageingRoundsUp 5500 <;> decide
  · intro s a x row up v hcanon hr hrow hok hq
    have hm := row.isLt
    have hwritten : ∀ k, OfBounds row.val k → (s.upd x fun l => l.writeBound row.val (if up then 5 else 4) v.toNat).get x k =
        ((s.lane x).put (rowKey row.val (if up then 5 else 4)) v.toNat).get k := fun k hk => by
      rw [State.get, State.upd_lane_self]
      exact (s.lane x).writeBound_agrees hm _ _ k hk
    have hquiet : Quiet (s.upd x fun l => l.writeBound row.val (if up then 5 else 4) v.toNat) x 107 := by
      have hlevel (j : Nat) (hj : j ≤ 2) : (s.upd x fun l => l.writeBound row.val (if up then 5 else 4) v.toNat).get x
          (key (0x1410 + 107) j) = s.get x (key (0x1410 + 107) j) := by
        refine (hwritten _ (.inr (.inl (by simp only [key]; omega)))).trans (LaneState.put_get_ne _ ?_ _)
        simp only [rowKey, key]
        split <;> omega
      exact ⟨(hlevel 1 (by decide)).trans_le hq.1, (hlevel 2 (by decide)).trans_le hq.2⟩
    obtain ⟨coll, log, reg, hlane, -, hreg, -⟩ := State.follow_lane (b := (List.range 11).any
      ((s.upd x fun l => l.writeBound row.val (if up then 5 else 4) v.toNat).lane x).rowConflict) hquiet (by cases x <;> decide)
    obtain ⟨r, hr'⟩ := (s.lane x).writeBound_regOnly row.val (if up then 5 else 4) v.toNat
    have hget (k : Nat) (hk : k = rowKey row.val 4 ∨ k = rowKey row.val 5) :
        ((s.upd x fun l => l.writeBound row.val (if up then 5 else 4) v.toNat).followConflicts x).get x k =
          ((s.lane x).put (rowKey row.val (if up then 5 else 4)) v.toNat).get k := by
      have hne : k < 0x140000 := by
        simp only [rowKey, key] at hk
        omega
      rw [State.followConflicts, State.get, hlane]
      exact (hreg k (by simp only [key]; omega) (by omega) (by omega) (by omega)).trans (hwritten k (.inr (.inr hk)))
    have hw := regWidth_plan.2.2.2.2.2.2.2.2 row
    refine Leads.of_eq rfl ((State.through_of_reaches hr _).trans (doPlanBoundWrite_writes hr hrow hok)) ⟨?_, ?_, rfl, ?_, ?_⟩
    · rw [State.answer_get, hget _ (by cases up <;> simp), LaneState.put_get_self _ _ _ (lane_regs_canon hcanon x),
        show regWidth (rowKey row.val (if up then 5 else 4)) = 32 by cases up <;> simp [hw], Nat.mod_eq_of_lt v.isLt]
    · rw [State.answer_get, hget _ (by cases up <;> simp)]
      exact LaneState.put_get_ne _ (by cases up <;> simp [rowKey, key]) _
    · rw [State.answer_lane, State.followConflicts, hlane, State.upd_lane_self, hr']
    · rw [State.answer_lane, State.followConflicts, State.follow_peer hquiet, State.upd_lane_peer]
  · intro s a x row up v hr hrow
    refine exec_next rfl ((State.through_of_reaches hr _).trans ?_)
    obtain ⟨htarget, havailable, hrole, -⟩ := hr
    simp [doPlanBoundWrite, htarget, havailable, not_lt.mpr hrole, hrow]
    rfl
  · intro s a x row up v hr hrow hok
    refine exec_next rfl ((State.through_of_reaches hr _).trans ?_)
    obtain ⟨htarget, havailable, hrole, -⟩ := hr
    simp [doPlanBoundWrite, htarget, havailable, not_lt.mpr hrole, hrow, hok]
    rfl

end Sys2Proof.Machine

namespace Sys2Proof.Machine

/-! ### The re-plan (O39) -/

/-- The registers that the rows of a re-plan leave: those below them, the core voltage, and the levels and ceilings of the
sources that follow it. -/
def OfPlan (k : Nat) : Prop :=
  k < 0x131000 ∨ k = 0x131003 ∨ 0x147B01 ≤ k ∧ k ≤ 0x147D02 ∧ 1 ≤ k % 256 ∧ k % 256 ≤ 2

/-- From l to m, a re-plan has planned rows: it left the mode, the log, the history and the registers of `OfPlan`. -/
structure LaneState.PlanFrame (l m : LaneState) : Prop where
  agrees : l.Agrees OfPlan m
  mode : m.mode = l.mode
  log : m.log = l.log
  history : m.plan.history = l.plan.history

/-- The registers of the rows and of the time, which a re-plan writes. -/
def PlanWrites (k : Nat) : Prop := 0x131000 ≤ k ∧ k < 0x140000 ∧ k ≠ 0x131003 ∨ 0x200000 ≤ k

theorem not_ofPlan {k : Nat} (h : PlanWrites k) : ¬ OfPlan k := by
  unfold PlanWrites at h
  unfold OfPlan
  omega

namespace LaneState.PlanFrame

variable {l₀ l m : LaneState}

theorem self : l.PlanFrame l := ⟨.self, rfl, rfl, rfl⟩

theorem put (h : l₀.PlanFrame l) {k : Nat} (hk : PlanWrites k) (v : Nat) : l₀.PlanFrame (l.put k v) :=
  ⟨h.agrees.put (not_ofPlan hk) v, h.mode, h.log, h.history⟩

theorem withPlan (h : l₀.PlanFrame l) {p : Plan} (hp : p.history = l.plan.history) : l₀.PlanFrame { l with plan := p } :=
  ⟨h.agrees.other rfl, h.mode, h.log, hp.trans h.history⟩

theorem withTime (h : l₀.PlanFrame l) (t : TimeState) : l₀.PlanFrame { l with time := t } :=
  ⟨h.agrees.other rfl, h.mode, h.log, h.history⟩

theorem updPort (h : l₀.PlanFrame l) (e : EndId) (f : Port → Port) : l₀.PlanFrame (l.updPort e f) := by
  cases e
  · exact ⟨h.agrees.other rfl, h.mode, h.log, h.history⟩
  · exact ⟨h.agrees.other rfl, h.mode, h.log, h.history⟩

theorem ite {c : Prop} [Decidable c] (h : l₀.PlanFrame l) (h' : l₀.PlanFrame m) : l₀.PlanFrame (if c then l else m) := by
  split
  · exact h
  · exact h'

theorem foldl {α : Type} {f : LaneState → α → LaneState} (h : l₀.PlanFrame l) (xs : List α)
    (hf : ∀ l, ∀ a ∈ xs, l₀.PlanFrame l → l₀.PlanFrame (f l a)) : l₀.PlanFrame (xs.foldl f l) :=
  List.foldlRecOn (motive := l₀.PlanFrame) xs f h fun l hl a ha => hf l a ha hl

theorem putRow (h : l₀.PlanFrame l) {m j : Nat} (hm : m < 11) (hj : j < 8) (hcore : m ≠ 0 ∨ j ≠ 3) (v : Nat) :
    l₀.PlanFrame (l.put (rowKey m j) v) := by
  refine h.put ?_ v
  simp only [PlanWrites, rowKey, key]
  omega

theorem setConflict (h : l₀.PlanFrame l) {m : Nat} (hm : m < 11) (b : Bool) : l₀.PlanFrame (l.setConflict m b) :=
  h.putRow hm (by decide) (.inr (by decide)) _

theorem planConflict (h : l₀.PlanFrame l) {m : Nat} (hm : m < 11) (own : Nat) (lost : Bool) :
    l₀.PlanFrame (l.planConflict m own lost) := h.setConflict hm _

theorem setOwn (h : l₀.PlanFrame l) (m v : Nat) : l₀.PlanFrame (l.setOwn m v) := h.withPlan rfl

theorem planPin (h : l₀.PlanFrame l) {n : Nat} (hn : n < 24) : l₀.PlanFrame (l.planPin n) := by
  have hkey : PlanWrites (key 0x1330 (n + 1)) ∧ PlanWrites (key 0x1331 (n + 1)) := by
    simp only [PlanWrites, key]
    omega
  have hohm : l₀.PlanFrame (if (l.lastDay (16 + (n + 1))).length = 0 then l else
      l.put (key 0x1330 (n + 1)) (min 65535 ((l.daySum (16 + (n + 1))).toNat / (l.lastDay (16 + (n + 1))).length))) :=
    .ite h (h.put hkey.1 _)
  exact .ite (hohm.withPlan rfl) ((hohm.put hkey.2 _).withPlan rfl)

theorem planPins (h : l₀.PlanFrame l) : l₀.PlanFrame l.planPins :=
  (((h.foldl _ fun _ n hn hl => hl.planPin (List.mem_range.mp hn)).setOwn _ _).putRow (by decide) (by decide)
    (.inl (by decide)) _).planConflict (by decide) _ _

theorem setRate (h : l₀.PlanFrame l) (r : Int) : l₀.PlanFrame (l.setRate r) :=
  (h.put (.inr (by decide)) _).put (.inr (by decide)) _

theorem planTrim (h : l₀.PlanFrame l) : l₀.PlanFrame l.planTrim.1 := by
  unfold LaneState.planTrim
  split
  · exact h
  · exact .putRow (.setConflict (.setRate (.withTime (.put (h.setOwn _ _) (.inr (by decide)) _) _) _) (by decide) _) (by decide)
      (by decide) (.inr (by decide)) _

theorem planScrub (h : l₀.PlanFrame l) : l₀.PlanFrame l.planScrub := by
  refine .planConflict (m := 5) (.putRow (m := 5) (j := 1) (.setOwn (.withPlan h ?_) _ _) ?_ ?_ ?_ _) ?_ _ _
  · rfl
  all_goals decide

theorem planTracked (h : l₀.PlanFrame l) : l₀.PlanFrame l.planTracked := by
  have hrows := (h.putRow (m := 6) (j := 1) (by decide) (by decide) (.inl (by decide)) (l.daySum 6).toNat).putRow (m := 7) (j := 1)
    (by decide) (by decide) (.inl (by decide)) (l.daySum 7).toNat
  exact ((hrows.ite (hrows.putRow (by decide) (by decide) (.inl (by decide)) _)).putRow (by decide) (by decide)
    (.inl (by decide)) _).putRow (by decide) (by decide) (.inl (by decide)) _

theorem planRate (h : l₀.PlanFrame l) (e : EndId) : l₀.PlanFrame (l.planRate e) := by
  have hkeys : PlanWrites (key 0x2006 (endSub e)) ∧ PlanWrites (key 0x2007 (endSub e)) := by
    simp only [PlanWrites, key]
    omega
  exact .ite (((h.put hkeys.1 _).put hkeys.2 _).updPort e _) h

theorem planMargin (h : l₀.PlanFrame l) {m : Nat} (hm : m < 11) : l₀.PlanFrame (l.planMargin m) := by
  unfold LaneState.planMargin
  split
  · exact h
  · exact h.putRow hm (by decide) (.inr (by decide)) _

theorem planRows (h : l₀.PlanFrame l) (unmeasured : Bool) :
    l₀.PlanFrame ((List.range 11).foldl (fun l m =>
      let u := decide (m = 4) && unmeasured
      (l.put (rowKey m 6) (l.remaining m u)).put (rowKey m 7) (l.rowStatus m u)) l) :=
  h.foldl _ fun _ _ hm hl => (hl.putRow (List.mem_range.mp hm) (by decide) (.inr (by decide)) _).putRow
    (List.mem_range.mp hm) (by decide) (.inr (by decide)) _

end LaneState.PlanFrame

/-- A lane with the core voltage that a re-plan sets (R498). -/
def LaneState.cored (l : LaneState) (vreq : Nat) : LaneState :=
  (({ l with plan := { l.plan with vreq := vreq } }).setOwn 0 ((vreq + 24) / 5 * 5)).put 0x131003
    (clampNat ((vreq + 24) / 5 * 5) (l.get 0x131004) (l.get 0x131005))

theorem LaneState.cored_get {l : LaneState} (h : l.RegsCanon) (vreq : Nat) : (l.cored vreq).get 0x131003 =
    clampNat ((vreq + 24) / 5 * 5) (l.get 0x131004) (l.get 0x131005) % 2 ^ 32 :=
  (LaneState.put_get_self _ _ _ h).trans (by rw [regWidth_plan.2.2.2.2.2.2.1])

theorem LaneState.cored_agrees (l : LaneState) (vreq : Nat) : l.Agrees (· ≠ 0x131003) (l.cored vreq) :=
  .put (.other .self rfl) (by simp) _

theorem LaneState.closePlan_frame (l : LaneState) (cause : Nat) (p : PlanInputs) :
    (l.cored p.vreq).PlanFrame (l.closePlan cause p).1 := by
  have hcore : (l.cored p.vreq).PlanFrame (l.planCore p.vreq) :=
    (LaneState.PlanFrame.self.putRow (m := 0) (j := 1) (by decide) (by decide) (.inr (by decide)) _).planConflict (by decide) _ _
  have hplan := (((hcore.planPins.planTrim).planScrub.planTracked).planMargin (m := 1) (by decide)).planMargin (m := 2) (by decide)
  exact .ite ((hplan.planRate .e1).planRate .e2) hplan

/-- A lane after a re-plan. -/
def LaneState.planned (l : LaneState) (cause : Nat) (p : PlanInputs) : LaneState :=
  (l.closePlan cause p).1.finishPlan (l.closePlan cause p).2

/-- The lane of a re-plan, its rows planned, before it dates and counts itself. -/
theorem LaneState.planned_eq (l : LaneState) (cause : Nat) (p : PlanInputs) : ∃ m, (l.cored p.vreq).PlanFrame m ∧
    (LaneCanon l → m.RegsCanon) ∧ l.planned cause p =
      (((m.appendHistory).put 0x130100 (m.log.opNs / 1000000)).inc 0x130300).put 0x130000 (withBit (withBit
        ((((m.appendHistory).put 0x130100 (m.log.opNs / 1000000)).inc 0x130300).get 0x130000) 0 true) 5 false) := by
  refine ⟨_, (l.closePlan_frame cause p).planRows (l.closePlan cause p).2, fun hc => ?_, rfl⟩
  refine List.foldlRecOn (motive := LaneState.RegsCanon) _ _ ((LaneState.Keeps.self.closePlan cause p).1 hc).1 ?_
  exact fun _ hl _ _ => (hl.put _ _).put _ _

theorem LaneState.planned_get {l : LaneState} (hc : LaneCanon l) (cause : Nat) (p : PlanInputs) (hcount : l.get 0x130300 < 1000) :
    bitAt ((l.planned cause p).get 0x130000) 0 = true ∧ (l.planned cause p).get 0x130300 = l.get 0x130300 + 1 ∧
      (l.planned cause p).get 0x130100 = l.log.opNs / 1000000 % 2 ^ 64 ∧
      (l.planned cause p).get 0x131003 =
        clampNat ((p.vreq + 24) / 5 * 5) (l.get 0x131004) (l.get 0x131005) % 2 ^ 32 := by
  obtain ⟨m, hm, hcanon, he⟩ := l.planned_eq cause p
  obtain ⟨hw0, hw1, hw3, -⟩ := regWidth_plan
  have hreg : m.appendHistory.RegsCanon := hcanon hc
  have hdated := LaneState.RegsCanon.put hreg 0x130100 (m.log.opNs / 1000000)
  have hkeep (k : Nat) (h1 : k ≠ 0x130100) : (m.appendHistory.put 0x130100 (m.log.opNs / 1000000)).get k = m.get k :=
    LaneState.put_get_ne _ h1 _
  have hcount' : m.get 0x130300 = l.get 0x130300 :=
    (hm.agrees _ (.inl (by decide))).trans (l.cored_agrees _ _ (by simp))
  rw [he]
  refine ⟨?_, ?_, ?_, ?_⟩
  · rw [LaneState.put_get_self _ _ _ (hdated.inc _), hw0]
    rw [bitAt, Nat.testBit_mod_two_pow, testBit_withBit_ne (by decide), testBit_withBit_self]
    rfl
  · rw [LaneState.put_get_ne _ (by decide), LaneState.inc_get_self _ _ hdated, hkeep _ (by decide), hcount']
    rw [hkeep _ (by decide), hcount', hw3]
    omega
  · rw [LaneState.put_get_ne _ (by decide), LaneState.inc_get_ne _ (by decide), LaneState.put_get_self _ _ _ hreg, hw1, hm.log]
    rfl
  · rw [LaneState.put_get_ne _ (by decide), LaneState.inc_get_ne _ (by decide), hkeep _ (by decide),
      hm.agrees _ (.inr (.inl rfl)), LaneState.cored_get hc.1]

theorem LaneState.planned_rest (l : LaneState) (cause : Nat) (p : PlanInputs) :
    (l.planned cause p).plan.due = none ∧
      (l.planned cause p).plan.history.length = min 90 (l.plan.history.length + 1) ∧
      (l.planned cause p).mode = l.mode ∧ ∀ k, OfPlan k → 0x140000 ≤ k → (l.planned cause p).get k = l.get k := by
  obtain ⟨m, hm, -, he⟩ := l.planned_eq cause p
  rw [he]
  refine ⟨rfl, ?_, hm.mode, fun k hk hge => ?_⟩
  · have hlen : m.plan.history.length = l.plan.history.length := congrArg List.length hm.history
    change (List.drop _ _).length = _
    rw [List.length_drop, List.length_append, hlen, List.length_singleton]
    omega
  · refine (LaneState.put_get_ne _ (by omega) _).trans ((LaneState.inc_get_ne _ (by omega)).trans
      ((LaneState.put_get_ne _ (by omega) _).trans ((hm.agrees k hk).trans (l.cored_agrees _ k (by simp only; omega)))))

/-- From l to m only what a reaction changes has changed: the collector, the log and registers. -/
def LaneState.Reacts (l m : LaneState) : Prop := ∃ coll log reg, m = { l with coll := coll, log := log, reg := reg }

namespace LaneState.Reacts

variable {l m n : LaneState}

theorem self : l.Reacts l := ⟨l.coll, l.log, l.reg, rfl⟩

theorem trans (h : l.Reacts m) (h' : m.Reacts n) : l.Reacts n := by
  obtain ⟨_, _, _, rfl⟩ := h
  obtain ⟨coll, log, reg, rfl⟩ := h'
  exact ⟨coll, log, reg, rfl⟩

theorem mode (h : l.Reacts m) : m.mode = l.mode := by
  obtain ⟨_, _, _, rfl⟩ := h
  rfl

theorem plan (h : l.Reacts m) : m.plan = l.plan := by
  obtain ⟨_, _, _, rfl⟩ := h
  rfl

end LaneState.Reacts

/-- From s to t lane x has reacted: beside its collector and its log, no register of A, neither the other lane nor the
module's registers and keys. -/
structure State.Reacts (A : Nat → Prop) (x : LaneId) (s t : State) : Prop where
  agrees : s.Agrees A x t
  lane : (s.lane x).Reacts (t.lane x)
  only : LaneOnly x s t

namespace State.Reacts

variable {A : Nat → Prop} {x : LaneId} {s t : State}

theorem self : s.Reacts A x s := ⟨.self, .self, .refl x s⟩

theorem record (h : s.Reacts A x t) (hA : ∀ k, A k → k ≠ 0x150300 ∧ k ≠ 0x150301 ∧ k ≠ 0x150C02) (code : Nat)
    (data : List Byte) : s.Reacts A x (t.record x code data) := by
  refine ⟨h.agrees.record hA code data, h.lane.trans ?_, h.only.record code data⟩
  obtain ⟨log, reg, he, -⟩ := t.record_frame x code data
  exact ⟨(t.lane x).coll, log, reg, by rw [he, State.upd_lane_self]⟩

theorem lower (h : s.Reacts A x t) (n : Nat) : s.Reacts A x (t.lower (.lane x) n) := by
  refine ⟨h.agrees.lower n, h.lane.trans ⟨_, (t.lane x).log, (t.lane x).reg, t.lower_lane x n⟩, ?_⟩
  exact ⟨(t.upd_sec x _).trans h.only.sec, (t.upd_mreg x _).trans h.only.mreg, (t.upd_lane_peer x _).trans h.only.peer⟩

theorem raiseLane (h : s.Reacts A x t) {n : Nat} (hq : Quiet t x n)
    (hA : ∀ k, A k → k ≠ key (0x1410 + n) 3 ∧ k ≠ 0x150300 ∧ k ≠ 0x150301 ∧ k ≠ 0x150C02) : s.Reacts A x (t.raiseLane x n) := by
  have hraise := State.raiseLane_laneOnly hq
  exact ⟨h.agrees.raiseLane hq hA, h.lane.trans (State.raiseLane_lane hq),
    ⟨hraise.sec.trans h.only.sec, hraise.mreg.trans h.only.mreg, hraise.peer.trans h.only.peer⟩⟩

theorem follow (h : s.Reacts A x t) {n : Nat} (hq : Quiet t x n)
    (hA : ∀ k, A k → k ≠ key (0x1410 + n) 3 ∧ k ≠ 0x150300 ∧ k ≠ 0x150301 ∧ k ≠ 0x150C02) (b : Bool) :
    s.Reacts A x (t.follow x n b) := by
  cases b
  · exact h.lower n
  · exact h.raiseLane hq hA

end State.Reacts

/-- A source of 107 to 109 that follows the plan stays quiet and leaves what the re-plan left. -/
theorem State.Reacts.followPlanned {x : LaneId} {s t : State} (h : s.Reacts OfPlan x t) {n : Nat} (hn : 107 ≤ n ∧ n ≤ 109)
    (hq : Quiet s x n) (b : Bool) : s.Reacts OfPlan x (t.follow x n b) := by
  have hlevel (j : Nat) (hj : 1 ≤ j ∧ j ≤ 2) : OfPlan (key (0x1410 + n) j) := by
    simp only [OfPlan, key]
    omega
  refine h.follow (quiet_of_agrees hq h.agrees (hlevel 1 (by decide)) (hlevel 2 (by decide))) (fun k hk => ?_) b
  simp only [OfPlan, key] at hk ⊢
  omega

theorem doRePlan_runs {s : State} {x : LaneId} {p : PlanInputs} {cause : Nat} (hdue : (s.lane x).plan.due = some cause)
    (hready : (s.lane x).ready = true) (hdeferred : bitAt (s.get x 0x130000) 5 = false) (hfree : (s.lane x).planBlocked = false) :
    doRePlan x p s =
      ((s.upd x fun l => l.planned cause p).recordPlan x cause (s.lane x).planView).followPlan x := by
  have hd : bitAt ((s.lane x).get 0x130000) 5 = false := hdeferred
  simp only [doRePlan, hdue, hready, hd, hfree, Bool.not_true, Bool.or_self, Bool.false_eq_true, if_false]
  rfl

theorem State.planned_follows {s : State} {x : LaneId} (cause : Nat) (p : PlanInputs) (before : List (Nat × Nat))
    (h107 : Quiet s x 107) (h108 : Quiet s x 108) (h109 : Quiet s x 109) :
    (s.upd x fun l => l.planned cause p).Reacts OfPlan x
      (((s.upd x fun l => l.planned cause p).recordPlan x cause before).followPlan x) := by
  have hlevels {n : Nat} (hn : 107 ≤ n ∧ n ≤ 109) (hq : Quiet s x n) : Quiet (s.upd x fun l => l.planned cause p) x n := by
    have hget (j : Nat) (hj : 1 ≤ j ∧ j ≤ 2) : (s.upd x fun l => l.planned cause p).get x (key (0x1410 + n) j) =
        s.get x (key (0x1410 + n) j) := by
      rw [State.get, State.upd_lane_self]
      refine ((s.lane x).planned_rest cause p).2.2.2 _ ?_ ?_ <;> simp only [OfPlan, key] <;> omega
    exact ⟨(hget 1 (by decide)).trans_le hq.1, (hget 2 (by decide)).trans_le hq.2⟩
  have hlosses (k : Nat) (hk : OfPlan k) : k ≠ 0x150300 ∧ k ≠ 0x150301 ∧ k ≠ 0x150C02 := by
    unfold OfPlan at hk
    omega
  have hrecorded : (s.upd x fun l => l.planned cause p).Reacts OfPlan x
      ((s.upd x fun l => l.planned cause p).recordPlan x cause before) :=
    .record (List.foldlRecOn (motive := State.Reacts OfPlan x _) _ _ .self fun t ht m _ => ht.record hlosses _ _) hlosses _ _
  have hlimits : (s.upd x fun l => l.planned cause p).Reacts OfPlan x
      (((s.upd x fun l => l.planned cause p).recordPlan x cause before).followLimits x) := by
    unfold State.followLimits
    dsimp only
    split
    · exact (hrecorded.followPlanned (by decide) (hlevels (by decide) h108) _).followPlanned (by decide) (hlevels (by decide) h109) _
    · exact hrecorded
  exact hlimits.followPlanned (by decide) (hlevels (by decide) h107) _

theorem doRePlan_waits {s : State} {x : LaneId} {p : PlanInputs} {cause : Nat} (hdue : (s.lane x).plan.due = some cause)
    (hready : (s.lane x).ready = true) (hdeferred : bitAt (s.get x 0x130000) 5 = false) (hblocked : (s.lane x).planBlocked = true) :
    doRePlan x p s = s.upd x fun l => l.put 0x130000 (withBit (l.get 0x130000) 5 true) := by
  have hd : bitAt ((s.lane x).get 0x130000) 5 = false := hdeferred
  simp only [doRePlan, hdue, hready, hd, hblocked, Bool.not_true, Bool.or_self, Bool.false_eq_true, if_false, if_true]
  refine State.upd_congr ?_
  simp only [LaneState.deferPlan, hdue, hblocked, Option.isSome_some, Bool.and_self, if_true]

/-- Bit 5 of entry 1300h, the mark of a deferred re-plan, reads as it is written. -/
theorem LaneState.planMark_get {l : LaneState} (h : l.RegsCanon) (b : Bool) :
    bitAt ((l.put 0x130000 (withBit (l.get 0x130000) 5 b)).get 0x130000) 5 = b := by
  rw [LaneState.put_get_self _ _ _ h, regWidth_plan.1, bitAt, Nat.testBit_mod_two_pow, testBit_withBit_self]
  exact Bool.true_and b

/-- Settles O39: the rows of a re-plan leave the registers by which it is dated, counted and followed. -/
theorem rePlan : Obligations.RePlan := by
  unfold Obligations.RePlan
  refine ⟨?_, ?_, ?_, ?_, ?_, ?_, ?_, ?_⟩
  · intro s x p hdue
    refine exec_next rfl ?_
    simp only [doRePlan, hdue]
  · intro s x p hcanon hdue hready hdeferred hblocked
    obtain ⟨cause, hcause⟩ := Option.isSome_iff_exists.mp hdue
    refine Leads.of_eq rfl (doRePlan_waits hcause hready hdeferred hblocked) ⟨?_, ?_, s.upd_lane_peer x _, ?_⟩
    · rw [State.get, State.upd_lane_self]
      exact LaneState.planMark_get (lane_regs_canon hcanon x) true
    · rw [State.upd_lane_self]
      rfl
    · intro k hk
      rw [State.get, State.upd_lane_self]
      exact LaneState.put_get_ne _ hk _
  · intro s x p hcanon hdue hready hdeferred hfree h107 h108 h109 hcount
    obtain ⟨cause, hcause⟩ := Option.isSome_iff_exists.mp hdue
    have hfollows := State.planned_follows (s := s) (x := x) cause p (s.lane x).planView h107 h108 h109
    obtain ⟨hfirst, hnumber, hdate, hcore⟩ := LaneState.planned_get (lane_canon hcanon x) cause p hcount
    obtain ⟨hnext, hhistory, hmode, -⟩ := (s.lane x).planned_rest cause p
    have hplan := hfollows.lane.plan.trans (congrArg LaneState.plan (s.upd_lane_self x _))
    have hlanemode := hfollows.lane.mode.trans (congrArg LaneState.mode (s.upd_lane_self x _))
    have hget (k : Nat) (hk : OfPlan k) := (hfollows.agrees.get hk).trans (congrArg (LaneState.get · k) (s.upd_lane_self x _))
    refine Leads.of_eq rfl (doRePlan_runs hcause hready hdeferred hfree) ⟨?_, ?_, ?_, ?_, ?_, ?_, ?_, ?_, ?_⟩
    · exact (congrArg Plan.due hplan).trans hnext
    · exact (congrArg (fun q : Plan => q.history.length) hplan).trans hhistory
    · exact (congrArg (bitAt · 0) (hget _ (.inl (by decide)))).trans hfirst
    · exact (hget _ (.inl (by decide))).trans hnumber
    · exact (hget _ (.inl (by decide))).trans hdate
    · exact (hget _ (.inr (.inl rfl))).trans hcore
    · exact hlanemode.trans hmode
    · exact hfollows.agrees.2.trans (s.upd_lane_peer x _)
    · exact hfollows.only.mreg.trans (s.upd_mreg x _)
  · intro s x hready
    refine exec_next rfl ?_
    simp only [doDailyRePlanDue, hready, if_true]
  · intro s a x hcanon hr hfree
    refine Leads.of_eq rfl ((State.through_of_reaches hr _).trans (State.command_runs hr (by simp [hfree]) rfl)) ⟨?_, ?_, rfl, ?_⟩
    · rw [State.answer_lane, State.upd_lane_self]
      rfl
    · rw [State.answer_get, State.get, State.upd_lane_self]
      exact LaneState.planMark_get (lane_regs_canon hcanon x) false
    · rw [State.answer_lane, State.upd_lane_peer]
  · intro s a x v hr hblocked
    exact exec_next rfl ((State.through_of_reaches hr _).trans (State.command_refused hr (by simp [hblocked])))
  · intro s x hblocked
    refine exec_next rfl ?_
    simp only [doDeferredRePlanStart, hblocked, if_true]
  · intro s x hfree
    refine exec_next rfl ?_
    simp only [doDeferredRePlanStart, hfree, Bool.false_eq_true, if_false]
    rfl

end Sys2Proof.Machine

namespace Sys2Proof.Machine

/-! ### Time states, steps of the time, and the comparison of the lanes (O26) -/

theorem regWidth_time : regWidth 0x400100 = 8 ∧ regWidth 0x400200 = 16 ∧ regWidth 0x400500 = 32 ∧ regWidth 0x400600 = 32 ∧
    regWidth 0x400900 = 64 ∧ regWidth 0x401000 = 32 ∧ regWidth 0x401300 = 16 ∧
    regWidth 0x400C01 = 32 ∧ regWidth 0x400C02 = 32 := by decide +kernel

/-- The registers that a change of the time state leaves. -/
def NoTimeState (k : Nat) : Prop := k ≠ 0x400100 ∧ k ≠ 0x400200

theorem LaneState.enterTime_agrees (l : LaneState) (st : Nat) : l.Agrees NoTimeState (l.enterTime st) := by
  have hput : l.Agrees NoTimeState (if st = 3 then l.put 0x400100 st else
      (l.put 0x400100 st).put 0x400200 (withBit ((l.put 0x400100 st).get 0x400200) 8 false)) :=
    .ite (.put .self (fun h => h.1 rfl) _) (.put (.put .self (fun h => h.1 rfl) _) (fun h => h.2 rfl) _)
  exact .ite hput (.other hput rfl)

theorem LaneState.enterTime_timeState {l : LaneState} (h : l.RegsCanon) {st : Nat} (hst : st < 2 ^ 8) :
    (l.enterTime st).timeState = st := by
  have hput : (l.put 0x400100 st).get 0x400100 = st := by
    rw [LaneState.put_get_self _ _ _ h, regWidth_time.1, Nat.mod_eq_of_lt hst]
  have hboth : (if st = 3 then l.put 0x400100 st else
      (l.put 0x400100 st).put 0x400200 (withBit ((l.put 0x400100 st).get 0x400200) 8 false)).get 0x400100 = st := by
    split
    · exact hput
    · exact (LaneState.put_get_ne _ (by decide) _).trans hput
  unfold LaneState.enterTime LaneState.timeState
  dsimp only
  split
  · exact hboth
  · exact hboth

/-- A change of the time state leaves the time, and at most the samples go. -/
theorem LaneState.enterTime_frame (l : LaneState) (st : Nat) :
    ∃ reg samples, l.enterTime st = { l with reg := reg, time := { l.time with samples := samples } } := by
  obtain ⟨reg, hreg⟩ : l.RegOnly (if st = 3 then l.put 0x400100 st else
      (l.put 0x400100 st).put 0x400200 (withBit ((l.put 0x400100 st).get 0x400200) 8 false)) :=
    .ite (.put .self _ _) (.put (.put .self _ _) _ _)
  unfold LaneState.enterTime
  dsimp only
  rw [hreg]
  split
  · exact ⟨reg, l.time.samples, rfl⟩
  · exact ⟨reg, [], rfl⟩

theorem LaneState.enterTime_canon {l : LaneState} (h : l.RegsCanon) (st : Nat) : (l.enterTime st).RegsCanon := by
  have hput : LaneState.RegsCanon (if st = 3 then l.put 0x400100 st else
      (l.put 0x400100 st).put 0x400200 (withBit ((l.put 0x400100 st).get 0x400200) 8 false)) :=
    .ite (h.put _ _) ((h.put _ _).put _ _)
  exact .ite hput hput

/-- The registers that a change of the rate leaves. -/
def NoRate (k : Nat) : Prop := k ≠ 0x400600 ∧ k ≠ 0x400700

theorem LaneState.setRate_agrees (l : LaneState) (r : Int) : l.Agrees NoRate (l.setRate r) :=
  .put (.put .self (fun h => h.1 rfl) _) (fun h => h.2 rfl) _

theorem LaneState.setRate_get {l : LaneState} (h : l.RegsCanon) (r : Int) : (l.setRate r).get 0x400600 = ofSigned 32 r := by
  refine (LaneState.put_get_ne _ (by decide) _).trans ((LaneState.put_get_self _ _ _ h).trans ?_)
  rw [regWidth_time.2.2.2.1, Nat.mod_eq_of_lt (ofSigned_lt r)]

theorem LaneState.setRate_regOnly (l : LaneState) (r : Int) : l.RegOnly (l.setRate r) := (LaneState.RegOnly.self.put _ _).put _ _

/-- A lane that holds over from now on (R285). -/
theorem LaneState.enterHoldover_get {l : LaneState} (h : l.RegsCanon) (now : Nat) :
    (l.enterHoldover now).timeState = 3 ∧ (l.enterHoldover now).get 0x400600 = ofSigned 32 (l.time.iacc.tdiv 32) ∧
      (l.enterHoldover now).time.holdSince = now ∧ (l.enterHoldover now).time.iacc = l.time.iacc ∧
      (l.enterHoldover now).time.ns = l.time.ns := by
  obtain ⟨reg, samples, he⟩ := l.enterTime_frame 3
  have hcanon : (l.enterTime 3).RegsCanon := LaneState.enterTime_canon h 3
  obtain ⟨r, hr⟩ := ({ l.enterTime 3 with time := { (l.enterTime 3).time with holdSince := now } } : LaneState).setRate_regOnly
    ((l.enterTime 3).time.iacc.tdiv 32)
  have hstate := ({ l.enterTime 3 with time := { (l.enterTime 3).time with holdSince := now } } : LaneState).setRate_agrees
    ((l.enterTime 3).time.iacc.tdiv 32) 0x400100 (by unfold NoRate; decide)
  have hiacc : (l.enterTime 3).time.iacc = l.time.iacc := by rw [he]
  refine ⟨hstate.trans (LaneState.enterTime_timeState h (by decide)), ?_, ?_, ?_, ?_⟩
  · exact (LaneState.setRate_get (l := { l.enterTime 3 with time := _ }) hcanon _).trans (by rw [hiacc])
  all_goals
    rw [show l.enterHoldover now = _ from hr, he]

/-- The registers below those of the pulse units. -/
def NoPulse (k : Nat) : Prop := k < 0x402000

theorem not_noPulse (u j : Nat) : ¬ NoPulse (pulseKey u j) := by
  simp only [NoPulse, pulseKey, key]
  omega

theorem LaneState.armPulse_agrees {l₀ l : LaneState} (h : l₀.Agrees NoPulse l) (u : Nat) : l₀.Agrees NoPulse (l.armPulse u) := by
  have hoff (late : Bool) : l₀.Agrees NoPulse (l.pulseOff u late) :=
    ((h.put (not_noPulse u 1) _).put (not_noPulse u 6) _).put (not_noPulse u 7) _
  exact .ite (hoff _) (.ite (.ite (hoff _) ((h.put (not_noPulse u 6) _).put (not_noPulse u 7) _))
    ((h.put (not_noPulse u 6) _).put (not_noPulse u 7) _))

theorem LaneState.armPulse_regOnly {l₀ l : LaneState} (h : l₀.RegOnly l) (u : Nat) : l₀.RegOnly (l.armPulse u) :=
  .ite (((h.put _ _).put _ _).put _ _) (.ite (.ite (((h.put _ _).put _ _).put _ _) ((h.put _ _).put _ _)) ((h.put _ _).put _ _))

/-- The pulse units step with the time; the time itself stands. -/
theorem LaneState.stepPulses_frame (l : LaneState) (old new : Nat) : l.Agrees NoPulse (l.stepPulses old new) ∧
    ∃ reg ends, l.stepPulses old new = { l with reg := reg, time := { l.time with pulseEnds := ends } } := by
  obtain ⟨reg, hreg⟩ : l.RegOnly ((List.range 8).foldl (fun l u => if l.pulseArmed u then l.armPulse u else l) l) :=
    .foldl .self _ fun _ u _ hl => .ite (LaneState.armPulse_regOnly hl u) hl
  have hagrees : l.Agrees NoPulse ((List.range 8).foldl (fun l u => if l.pulseArmed u then l.armPulse u else l) l) :=
    .foldl .self _ fun _ u _ hl => .ite (LaneState.armPulse_agrees hl u) hl
  refine ⟨.other hagrees rfl, reg, l.time.pulseEnds.map (fun e => (e.1, e.2 + new - old)), ?_⟩
  unfold LaneState.stepPulses
  dsimp only
  rw [hreg]

/-- A lane whose time steps has the new time and shows the step (R277). -/
theorem LaneState.stepTo_get {l : LaneState} (h : l.RegsCanon) (old new : Nat) : (l.stepTo old new).RegsCanon ∧
    (l.stepTo old new).trainTime = new ∧ bitAt ((l.stepTo old new).get 0x400200) 6 = true := by
  unfold LaneState.stepTo
  extract_lets t f l₁ l₂
  have hcanon : l₂.RegsCanon := ((LaneState.RegsCanon.put (l := l₁) h _ _).put _ _).put _ _
  obtain ⟨hagrees, reg, ends, he⟩ := (l₂.put 0x400200 (withBit (l₂.get 0x400200) 6 true)).stepPulses_frame old new
  refine ⟨.foldl (hcanon.put _ _) _ fun _ u hl => .ite (hl.armPulse u) hl, ?_, ?_⟩
  · rw [he]
    exact Nat.div_add_mod' new (2 ^ 32)
  · rw [hagrees _ (by unfold NoPulse; decide), LaneState.put_get_self _ _ _ hcanon, regWidth_time.2.1, bitAt,
      Nat.testBit_mod_two_pow, testBit_withBit_self]
    rfl

/-- A lane whose time has stepped to another domain's (R284). -/
def LaneState.aligned (l : LaneState) (rate old new : Int) (domain : Nat) : LaneState :=
  let iacc := clampInt (32 * rate) (-32000000) 32000000
  let l := { l with time := { l.time with iacc := iacc, outlierRun := 0, noLimit := false, mirrorSamples := [] } }
  ((l.setRate (clampInt (iacc.tdiv 32) (-1000000) 1000000)).stepTo old.toNat new.toNat).put 0x400900 domain

theorem LaneState.aligned_get {l : LaneState} (h : l.RegsCanon) (rate old : Int) {new : Int} (hnew : 0 ≤ new) (domain : Nat) :
    (l.aligned rate old new domain).RegsCanon ∧ ((l.aligned rate old new domain).trainTime : Int) = new ∧
      (l.aligned rate old new domain).domain = domain % 2 ^ 64 ∧ bitAt ((l.aligned rate old new domain).get 0x400200) 6 = true := by
  unfold LaneState.aligned
  extract_lets iacc t m
  have hm : m.RegsCanon := h
  obtain ⟨hcanon, htime, hbit⟩ := LaneState.stepTo_get (hm.setRate (clampInt (iacc.tdiv 32) (-1000000) 1000000)) old.toNat new.toNat
  refine ⟨hcanon.put _ _, ?_, ?_, ?_⟩
  · exact (congrArg Int.ofNat htime).trans (Int.toNat_of_nonneg hnew)
  · exact (LaneState.put_get_self _ _ _ hcanon).trans (by rw [regWidth_time.2.2.2.2.1])
  · rw [LaneState.put_get_ne _ (by decide)]
    exact hbit

/-- A lane that has locked to the time it follows (R284). -/
def LaneState.locked (l : LaneState) : LaneState :=
  { l.enterTime 2 with time := { (l.enterTime 2).time with lateDomain := false } }

theorem State.lockTime_eq (s : State) (x : LaneId) : s.lockTime x = (s.upd x LaneState.locked).lower (.lane x) 66 := rfl

theorem LaneState.locked_get {l : LaneState} (h : l.RegsCanon) : l.locked.timeState = 2 ∧ l.locked.trainTime = l.trainTime ∧
    l.locked.domain = l.domain ∧ bitAt (l.locked.get 0x400200) 6 = bitAt (l.get 0x400200) 6 ∧
    l.locked.time.lateDomain = false := by
  obtain ⟨reg, samples, he⟩ := l.enterTime_frame 2
  refine ⟨LaneState.enterTime_timeState h (by decide), ?_, l.enterTime_agrees 2 _ (by unfold NoTimeState; decide), ?_, rfl⟩
  · rw [LaneState.locked, he]
    rfl
  · have he2 : l.enterTime 2 = (l.put 0x400100 2).put 0x400200 (withBit ((l.put 0x400100 2).get 0x400200) 8 false) := by
      simp [LaneState.enterTime]
    have hget : l.locked.get 0x400200 = (l.enterTime 2).get 0x400200 := rfl
    rw [hget, he2, LaneState.put_get_self _ _ _ (LaneState.RegsCanon.put h _ _), LaneState.put_get_ne _ (by decide), regWidth_time.2.1,
      bitAt, Nat.testBit_mod_two_pow, testBit_withBit_ne (by decide)]
    exact Bool.true_and _

/-- A lane that shows its offset to its peer (R287). -/
def LaneState.compared (l : LaneState) (theta : Int) (late : Bool) : LaneState :=
  { l.put 0x401000 (sat32 theta) with time := { l.time with lateDomain := late } }

/-- A lane whose offset to its peer was beyond the limit once more (R287). -/
def LaneState.countedDiverged (l : LaneState) : LaneState := { l with time := { l.time with diverged := l.time.diverged + 1 } }

/-- A lane that is locked, and whose peer has its domain, notes its offset to the peer, and at most that its domain is no
longer late. -/
theorem State.compareLane_locked {s : State} {x : LaneId} (hstate : (s.lane x).timeState = 2)
    (hdomain : (s.lane x.peer).domain = (s.lane x).domain) (theta : Int) :
    ∃ late, s.compareLane x theta = s.upd x fun l => l.compared theta late := by
  have hkeep : s.put x 0x401000 (sat32 theta) = s.upd x fun l => l.compared theta (s.lane x).time.lateDomain :=
    State.upd_congr rfl
  have hown : (s.put x 0x401000 (sat32 theta)).lane x = (s.lane x).put 0x401000 (sat32 theta) := s.upd_lane_self x _
  have hst : ((s.put x 0x401000 (sat32 theta)).lane x).timeState = 2 := by
    rw [hown]
    exact (LaneState.put_get_ne _ (by decide) _).trans hstate
  have hfollows : ¬ (s.put x 0x401000 (sat32 theta)).followsAgain x = true := by
    simp only [State.followsAgain, hst]
    simp
  unfold State.compareLane
  dsimp only
  rw [if_neg hfollows, if_neg (by rw [hstate]; simp), if_neg (by rw [hstate]; simp)]
  split
  · unfold State.peerTellsDomain
    dsimp only
    split
    · exact ⟨_, hkeep⟩
    · refine ⟨false, ?_⟩
      have hsame : ((s.put x 0x401000 (sat32 theta)).lane x.peer).domain = ((s.put x 0x401000 (sat32 theta)).lane x).domain := by
        rw [hown]
        exact (congrArg LaneState.domain (s.upd_lane_peer x _)).trans
          (hdomain.trans (LaneState.put_get_ne _ (by decide) _).symm)
      rw [if_pos hsame]
      cases x <;> rfl
  · exact ⟨_, hkeep⟩

/-- The state of the time and its domain. -/
def OfDomain (k : Nat) : Prop := k = 0x400100 ∨ k = 0x400900

/-- A first offset beyond the limit of the servo only counts. -/
theorem State.runServo_keeps {s : State} {x : LaneId} (hlimit : (s.lane x).time.noLimit = false)
    (hrun : (s.lane x).time.outlierRun = 0) (theta : Int) :
    s.Agrees OfDomain x (s.runServo x theta) ∧ ((s.runServo x theta).lane x).time.diverged = (s.lane x).time.diverged := by
  unfold State.runServo
  split
  · have hfew : ((s.upd x fun l => ({ l with time := { l.time with outlierRun := l.time.outlierRun + 1 } } : LaneState).inc
        0x401400).lane x).time.outlierRun < 16 := by
      rw [State.upd_lane_self, LaneState.inc_time]
      exact (congrArg (· + 1) hrun).trans_lt (by decide)
    simp only [hlimit, Bool.false_eq_true, if_false, if_pos hfew]
    refine ⟨.upd .self (.inc (.other .self rfl) (by unfold OfDomain; decide)), ?_⟩
    rw [State.upd_lane_self, LaneState.inc_time]
  · refine ⟨.lower (.upd .self ?_) 65, ?_⟩
    · exact (LaneState.Agrees.other .self rfl).trans ((LaneState.setRate_agrees _ _).weaken (by unfold NoRate OfDomain; rintro _ (rfl | rfl) <;> decide))
    · rw [State.lower_lane, State.upd_lane_self]
      rfl

theorem doSyncLoss_follows {s : State} {x : LaneId} (hstate : (s.lane x).timeState = 2) (hmay : s.mayFollow x = true) :
    doSyncLoss x s = s.upd x fun l => l.enterTime 4 := if_pos ⟨hstate, hmay⟩

theorem doSyncLoss_holds {s : State} {x : LaneId} (hstate : (s.lane x).timeState = 2) (hmay : s.mayFollow x = false) :
    doSyncLoss x s = s.upd x fun l => l.enterHoldover s.clock := by
  refine (if_neg ?_).trans (if_pos (.inl hstate))
  simp [hmay]

/-- A lane that founds a domain (R283). -/
def LaneState.founded (l : LaneState) (domain : Nat) : LaneState := ((l.put 0x400900 domain).put 0x400100 5).setRate 0

theorem doFoundDomain_founds {s : State} {x : LaneId} {c : Candidate} (hmode : (s.lane x).mode = .possession)
    (hstate : (s.lane x).timeState ≤ 1) (hruns : (s.lane x).timeRuns = true) (hcand : (s.lane x).roll.candidate = some c)
    (hmaster : masterUid c.entries c.master = s.uid) (hnamed : (s.lane x).namedMaster = some s.uid) :
    doFoundDomain x s = (s.mput 0x401300 ((s.mget 0x401300 + 1) % 65536)).upd x fun l =>
      l.founded (s.uid % 2 ^ 48 * 65536 + (s.mget 0x401300 + 1) % 65536) := by
  simp only [doFoundDomain, hcand, hmaster, hmode, hstate, hruns, hnamed, decide_true, and_self, if_true]
  rfl

theorem LaneState.founded_get {l : LaneState} (h : l.RegsCanon) {domain : Nat} (hd : domain < 2 ^ 64) :
    (l.founded domain).timeState = 5 ∧ (l.founded domain).domain = domain ∧ (l.founded domain).rate = 0 := by
  have hdomain := LaneState.RegsCanon.put h 0x400900 domain
  have hrate := LaneState.setRate_get (hdomain.put 0x400100 5) 0
  have hkeep := ((l.put 0x400900 domain).put 0x400100 5).setRate_agrees 0
  refine ⟨?_, ?_, ?_⟩
  · refine (hkeep _ (by unfold NoRate; decide)).trans ((LaneState.put_get_self _ _ _ hdomain).trans ?_)
    rw [regWidth_time.1]
    rfl
  · refine (hkeep _ (by unfold NoRate; decide)).trans ((LaneState.put_get_ne _ (by decide) _).trans
      ((LaneState.put_get_self _ _ _ h).trans ?_))
    rw [regWidth_time.2.2.2.2.1, Nat.mod_eq_of_lt hd]
  · rw [LaneState.rate, show (l.founded domain).get 0x400600 = _ from hrate]
    decide

theorem firstAndFourth_four (a b c d : Sample) : firstAndFourth [a, b, c, d] = some (d, a) := rfl

theorem LaneState.offsetNow_four (l : LaneState) (a b c d : Sample) :
    l.offsetNow [a, b, c, d] = some (thetaAt a (rateOf d a) (l.trainTime : Nat), rateOf d a, a) := rfl

/-- A lane that steps its time and locks has the new time and domain (R284). -/
theorem State.align_locks {s : State} {x : LaneId} {rate old new : Int} {domain : Nat} (h : (s.lane x).RegsCanon) (hnew : 0 ≤ new) :
    ((s.align x rate old new domain 2).lane x).timeState = 2 ∧
      (((s.align x rate old new domain 2).lane x).trainTime : Int) = new ∧
      ((s.align x rate old new domain 2).lane x).domain = domain % 2 ^ 64 ∧
      bitAt ((s.align x rate old new domain 2).get x 0x400200) 6 = true ∧
      ((s.align x rate old new domain 2).lane x).time.lateDomain = false ∧
      (s.align x rate old new domain 2).lane x.peer = s.lane x.peer := by
  obtain ⟨hcanon, htime, hdomain, hbit⟩ := LaneState.aligned_get h rate old hnew domain
  obtain ⟨htwo, htime', hdomain', hbit', hlate⟩ := LaneState.locked_get hcanon
  have he : s.align x rate old new domain 2 =
      ((s.upd x fun l => l.aligned rate old new domain).upd x LaneState.locked).lower (.lane x) 66 := by
    unfold State.align
    dsimp only
    rw [if_pos rfl, State.lockTime_eq]
    rfl
  have hlane : (s.align x rate old new domain 2).lane x =
      { ((s.lane x).aligned rate old new domain).locked with
        coll := { ((s.lane x).aligned rate old new domain).locked.coll with
          inFault := withBit ((s.lane x).aligned rate old new domain).locked.coll.inFault 66 false } } := by
    rw [he, State.lower_lane, State.upd_lane_self, State.upd_lane_self]
    rfl
  rw [State.get, hlane]
  refine ⟨htwo, ?_, hdomain'.trans hdomain, hbit'.trans hbit, hlate, ?_⟩
  · exact (congrArg Int.ofNat htime').trans htime
  · rw [he, State.lower_peer, State.upd_lane_peer, State.upd_lane_peer]

theorem doLockAcquisitionStep_steps {s : State} {x : LaneId} {a b c d : Sample} (hstate : (s.lane x).timeState = 1)
    (hruns : (s.lane x).timeRuns = true) (hready : (s.lane x).ready = true) (hsamples : (s.lane x).time.samples = [a, b, c, d])
    (hfour : a.time < ((s.lane x).trainTime : Int))
    (hboundary : (((s.lane x).trainTime : Int) - thetaAt a (rateOf d a) (s.lane x).trainTime) % 1000000 < 9) :
    doLockAcquisitionStep x s = s.align x (rateOf d a) (s.lane x).trainTime
      ((s.lane x).trainTime - thetaAt a (rateOf d a) (s.lane x).trainTime) (s.lane x).time.sampleDomain 2 := by
  have hacquires : s.acquires x = some ([a, b, c, d], (s.lane x).time.sampleDomain, 2) := by
    simp [State.acquires, hstate, hruns, hsamples]
  simp only [doLockAcquisitionStep, hacquires, LaneState.offsetNow_four, hready, atBoundary, hboundary, decide_true, Bool.not_true,
    not_le.mpr hfour, decide_false, Bool.or_self, Bool.false_eq_true, if_false]

theorem doLateDomainStep_steps {s : State} {x : LaneId} {a b c d : Sample} (hlate : (s.lane x).time.lateDomain = true)
    (hsamples : (s.lane x).time.candSamples = [a, b, c, d]) (hfour : a.time < nearestBeat (s.lane x).trainTime)
    (hboundary : (((s.lane x).trainTime : Int) - thetaAt a (rateOf d a) (s.lane x).trainTime) % 1000000 < 9) :
    doLateDomainStep x s = s.changeDomain x (rateOf d a) (s.lane x).trainTime
      ((s.lane x).trainTime - thetaAt a (rateOf d a) (s.lane x).trainTime) := by
  have hcand : s.lateSamples x = [a, b, c, d] := by
    simp [State.lateSamples, hlate, hsamples]
  simp only [doLateDomainStep, hcand, LaneState.offsetNow_four, atBoundary, hboundary, decide_true, Bool.not_true,
    not_le.mpr hfour, decide_false, Bool.or_self, Bool.false_eq_true, if_false, hsamples]
  exact if_pos (List.cons_ne_nil _ _)

/-- What a comparison of the lanes says of two lanes that lie far apart, or do not (R288, R289). -/
def State.judgeDiverged (s : State) (theta : Int) (far : Bool) : State :=
  let s := (s.compareLane .A theta).compareLane .B (-theta)
  let s := (s.countDiverged .A far).countDiverged .B far
  if far && decide (2 ≤ s.laneA.time.diverged) then
    let c := s.chargedLane
    (s.upd c (fun l => l.put 0x400200 (withBit (l.get 0x400200) 7 true))).raiseLane c 67
  else if far then s
  else (s.lower (.lane .A) 67).lower (.lane .B) 67

theorem doLaneTimeCompare_both {s : State} {t1 t2 t3 t4 : Int} (hrA : s.laneA.ready = true) (hrB : s.laneB.ready = true)
    (htA : s.laneA.timeRuns = true) (htB : s.laneB.timeRuns = true) (hmA : s.laneA.poss.mirrorCurrent = true)
    (hmB : s.laneB.poss.mirrorCurrent = true) :
    doLaneTimeCompare t1 t2 t3 t4 s = s.judgeDiverged (((t2 - t1) - (t4 - t3)).tdiv 2)
      (s.laneA.hasTime && s.laneB.hasTime && decide (s.laneA.domain = s.laneB.domain) &&
        decide (2000 < (((t2 - t1) - (t4 - t3)).tdiv 2).natAbs)) :=
  if_neg (by simp [hrA, hrB, htA, htB, hmA, hmB])

/-- Two locked lanes of one domain show their offset and count it. -/
theorem doLaneTimeCompare_locked {s : State} {t1 t2 t3 t4 : Int} (hrA : s.laneA.ready = true) (hrB : s.laneB.ready = true)
    (htA : s.laneA.timeRuns = true) (htB : s.laneB.timeRuns = true) (hmA : s.laneA.poss.mirrorCurrent = true)
    (hmB : s.laneB.poss.mirrorCurrent = true) (hsA : s.laneA.timeState = 2) (hsB : s.laneB.timeState = 2)
    (hdomain : s.laneA.domain = s.laneB.domain) (hdiv : s.laneA.time.diverged = 0)
    (hfar : 2000 < (((t2 - t1) - (t4 - t3)).tdiv 2).natAbs) :
    ∃ lateA lateB, doLaneTimeCompare t1 t2 t3 t4 s =
      { s with
        laneA := (s.laneA.compared (((t2 - t1) - (t4 - t3)).tdiv 2) lateA).countedDiverged
        laneB := (s.laneB.compared (-(((t2 - t1) - (t4 - t3)).tdiv 2)) lateB).countedDiverged } := by
  rw [doLaneTimeCompare_both hrA hrB htA htB hmA hmB]
  generalize ((t2 - t1) - (t4 - t3)).tdiv 2 = theta at hfar
  have hboth : (s.laneA.hasTime && s.laneB.hasTime && decide (s.laneA.domain = s.laneB.domain) && decide (2000 < theta.natAbs)) = true := by
    simp [LaneState.hasTime, hsA, hsB, hdomain, hfar]
  obtain ⟨lateA, hA⟩ := State.compareLane_locked (s := s) (x := .A) hsA hdomain.symm theta
  have hdomain' : (s.laneA.compared theta lateA).domain = s.laneB.domain := (LaneState.put_get_ne _ (by decide) _).trans hdomain
  obtain ⟨lateB, hB⟩ := State.compareLane_locked (s := s.upd .A fun l => l.compared theta lateA) (x := .B) hsB hdomain' (-theta)
  refine ⟨lateA, lateB, ?_⟩
  unfold State.judgeDiverged
  rw [hboth, hA, hB]
  have hone : (s.laneA.compared theta lateA).countedDiverged.time.diverged = 1 := congrArg (· + 1) hdiv
  simp only [Bool.true_and, if_true]
  exact if_neg (by
    change ¬ (decide (2 ≤ (s.laneA.compared theta lateA).countedDiverged.time.diverged) = true)
    rw [hone]
    decide)

/-- The state of the time, the domain and the count of divergences of a lane that follows its peer again (R294). -/
theorem State.compareLane_follows {s : State} {x : LaneId} (hcanon : Canon s) (hstate : (s.lane x).timeState = 3)
    (hlate : (s.lane x).time.lateDomain = false) (hmay : s.mayFollow x = true)
    (hdomain : (s.lane x.peer).domain = (s.lane x).domain) (hlimit : (s.lane x).time.noLimit = false)
    (hrun : (s.lane x).time.outlierRun = 0) (theta : Int) :
    ((s.compareLane x theta).lane x).timeState = 4 ∧ ((s.compareLane x theta).lane x).domain = (s.lane x).domain ∧
      ((s.compareLane x theta).lane x).time.diverged = (s.lane x).time.diverged ∧
      (s.compareLane x theta).lane x.peer = s.lane x.peer := by
  have hput : ∀ {k : Nat}, k ≠ 0x401000 → ((s.lane x).put 0x401000 (sat32 theta)).get k = (s.lane x).get k :=
    fun hk => LaneState.put_get_ne _ hk _
  have hown : (s.put x 0x401000 (sat32 theta)).lane x = (s.lane x).put 0x401000 (sat32 theta) := s.upd_lane_self x _
  have hother : (s.put x 0x401000 (sat32 theta)).lane x.peer = s.lane x.peer := s.upd_lane_peer x _
  have hfollows : (s.put x 0x401000 (sat32 theta)).followsAgain x = true := by
    have hst : ((s.lane x).put 0x401000 (sat32 theta)).timeState = 3 := (hput (by decide)).trans hstate
    have hdom : (s.lane x.peer).domain = ((s.lane x).put 0x401000 (sat32 theta)).domain :=
      hdomain.trans (hput (by decide)).symm
    have hmay' : (s.put x 0x401000 (sat32 theta)).mayFollow x = true := by
      rw [State.mayFollow, hown, hother]
      exact hmay
    have hlate' : ((s.lane x).put 0x401000 (sat32 theta)).time.lateDomain = false := hlate
    simp [State.followsAgain, hown, hst, hmay', hother, hdom]
    exact hlate
  have hreg : (s.lane x).RegsCanon := lane_regs_canon hcanon x
  have hfour := LaneState.enterTime_timeState (hreg.put 0x401000 (sat32 theta)) (st := 4) (by decide)
  have hdom := (LaneState.enterTime_agrees ((s.lane x).put 0x401000 (sat32 theta)) 4) 0x400900 (by unfold NoTimeState; decide)
  obtain ⟨reg, samples, hframe⟩ := ((s.lane x).put 0x401000 (sat32 theta)).enterTime_frame 4
  have hlower : (((s.put x 0x401000 (sat32 theta)).upd x fun l => l.enterTime 4).lower (.lane x) 66).lane x.peer = s.lane x.peer :=
    ((State.Agrees.lower (A := OfDomain) .self 66).2.trans (State.upd_lane_peer _ x _)).trans hother
  obtain ⟨coll, hown'⟩ : ∃ coll, (((s.put x 0x401000 (sat32 theta)).upd x fun l => l.enterTime 4).lower (.lane x) 66).lane x =
      { ((s.lane x).put 0x401000 (sat32 theta)).enterTime 4 with coll := coll } := by
    rw [State.lower_lane, State.upd_lane_self, hown]
    exact ⟨_, rfl⟩
  have htime : ((((s.put x 0x401000 (sat32 theta)).upd x fun l => l.enterTime 4).lower (.lane x) 66).lane x).time =
      { (s.lane x).time with samples := samples } := by
    rw [hown', hframe]
    rfl
  obtain ⟨hagrees, hdiv⟩ := State.runServo_keeps
    (s := ((s.put x 0x401000 (sat32 theta)).upd x fun l => l.enterTime 4).lower (.lane x) 66) (x := x)
    ((congrArg TimeState.noLimit htime).trans hlimit) ((congrArg TimeState.outlierRun htime).trans hrun) theta
  have he : s.compareLane x theta =
      (((s.put x 0x401000 (sat32 theta)).upd x fun l => l.enterTime 4).lower (.lane x) 66).runServo x theta := if_pos hfollows
  rw [he]
  have hget : ∀ k, ((((s.put x 0x401000 (sat32 theta)).upd x fun l => l.enterTime 4).lower (.lane x) 66).lane x).get k =
      (((s.lane x).put 0x401000 (sat32 theta)).enterTime 4).get k := fun k => by rw [hown']; rfl
  exact ⟨(hagrees.get (.inl rfl)).trans ((hget _).trans hfour),
    (hagrees.get (.inr rfl)).trans ((hget _).trans (hdom.trans (hput (by decide)))),
    (hdiv.trans (congrArg TimeState.diverged htime) :), hagrees.2.trans hlower⟩

theorem State.countDiverged_lanes (s : State) (far : Bool) :
    ((s.countDiverged .A far).countDiverged .B far).laneA.reg = s.laneA.reg ∧
      ((s.countDiverged .A far).countDiverged .B far).laneB.reg = s.laneB.reg ∧
      ((s.countDiverged .A far).countDiverged .B far).laneA.time.diverged = if far then s.laneA.time.diverged + 1 else 0 :=
  ⟨rfl, rfl, rfl⟩

/-- With lane A holding over and lane B locked, lane A follows again and lane B stays locked. -/
theorem State.judgeDiverged_follows {s : State} (hcanon : Canon s) (hrB : s.laneB.ready = true)
    (hmA : s.laneA.poss.mirrorCurrent = true) (hsA : s.laneA.timeState = 3) (hsB : s.laneB.timeState = 2)
    (hdomain : s.laneA.domain = s.laneB.domain) (hlA : s.laneA.time.lateDomain = false) (hdiv : s.laneA.time.diverged = 0)
    (hlimit : s.laneA.time.noLimit = false) (hrun : s.laneA.time.outlierRun = 0) (theta : Int) (far : Bool) :
    (s.judgeDiverged theta far).laneA.timeState = 4 ∧ (s.judgeDiverged theta far).laneB.timeState = 2 := by
  have hmay : s.mayFollow .A = true := by
    have hleads : s.laneB.leadsTime = true := by simp [LaneState.leadsTime, hsB]
    simp [State.mayFollow, State.lane, LaneId.peer, hmA, hrB, hleads]
  obtain ⟨hfour, hdomA, hdivA, hpeer⟩ := State.compareLane_follows (x := .A) hcanon hsA hlA hmay hdomain.symm hlimit hrun theta
  unfold State.judgeDiverged
  generalize s.compareLane .A theta = s₁ at hfour hdomA hdivA hpeer
  have hpeer' : s₁.laneB = s.laneB := hpeer
  have hdomA' : s₁.laneA.domain = s₁.laneB.domain := by
    rw [hpeer']
    exact hdomA.trans hdomain
  obtain ⟨late, hB⟩ := State.compareLane_locked (s := s₁) (x := .B) ((congrArg LaneState.timeState hpeer').trans hsB) hdomA' (-theta)
  have htwo : (s₁.laneB.compared (-theta) late).timeState = 2 :=
    (LaneState.put_get_ne _ (by decide) _).trans ((congrArg LaneState.timeState hpeer').trans hsB)
  rw [hB]
  dsimp only
  obtain ⟨hcountA, hcountB, hcount⟩ := State.countDiverged_lanes (s₁.upd .B fun l => l.compared (-theta) late) far
  generalize (((s₁.upd .B fun l => l.compared (-theta) late).countDiverged .A far).countDiverged .B far) = s₂ at hcountA hcountB hcount
  have hfourA : s₂.laneA.timeState = 4 := (congrArg (tabGet regDefault 0x400100) hcountA).trans hfour
  have htwoB : s₂.laneB.timeState = 2 := (congrArg (tabGet regDefault 0x400100) hcountB).trans htwo
  have hfew : (far && decide (2 ≤ s₂.laneA.time.diverged)) = false := by
    have h : s₁.laneA.time.diverged = 0 := hdivA.trans hdiv
    have hzero : s₂.laneA.time.diverged = if far then s₁.laneA.time.diverged + 1 else 0 := hcount
    rw [hzero, h]
    cases far <;> rfl
  rw [hfew]
  cases far
  · exact ⟨(State.lower_get _ (.lane .B) 67 .A 0x400100).trans ((State.lower_get s₂ (.lane .A) 67 .A 0x400100).trans hfourA),
      (State.lower_get _ (.lane .B) 67 .B 0x400100).trans ((State.lower_get s₂ (.lane .A) 67 .B 0x400100).trans htwoB)⟩
  · exact ⟨hfourA, htwoB⟩

/-- Settles O26: a step aligns the time first, and what locks after it leaves the time. -/
theorem timeStatesAndComparison : Obligations.TimeStatesAndComparison := by
  unfold Obligations.TimeStatesAndComparison
  refine ⟨?_, ?_, ?_, ?_, ?_, ?_, ?_, ?_, ?_, ?_, ?_, ?_⟩
  · intro s x hcanon hstate hmay
    refine Leads.of_eq rfl (doSyncLoss_follows hstate hmay) ⟨?_, s.upd_lane_peer x _⟩
    rw [State.upd_lane_self]
    exact LaneState.enterTime_timeState (lane_regs_canon hcanon x) (by decide)
  · intro s x hcanon hstate hmay
    obtain ⟨hholds, hrate, hsince, hiacc, hns⟩ := LaneState.enterHoldover_get (lane_regs_canon hcanon x) s.clock
    refine Leads.of_eq rfl (doSyncLoss_holds hstate hmay) ?_
    rw [State.get, State.upd_lane_self]
    exact ⟨hholds, hsince, hiacc, hns, hrate⟩
  · intro s x hstate
    exact exec_next rfl (if_pos hstate)
  · intro s x c hcanon hmode hstate hruns hcand hmaster hnamed
    have hd : s.uid % 2 ^ 48 * 65536 + (s.mget 0x401300 + 1) % 65536 < 2 ^ 64 := by omega
    obtain ⟨hfive, hdomain, hrate⟩ := LaneState.founded_get (lane_regs_canon hcanon x) hd
    refine Leads.of_eq rfl (doFoundDomain_founds hmode hstate hruns hcand hmaster hnamed) ?_
    rw [State.upd_lane_self, State.upd_lane_peer, State.mput_lane, State.mput_lane]
    refine ⟨hfive, ?_, hdomain, hrate, rfl⟩
    refine (congrArg (tabGet regDefault 0x401300) (State.upd_mreg _ x _)).trans ((State.mput_mget_self hcanon _ _).trans ?_)
    rw [regWidth_time.2.2.2.2.2.2.1]
    exact Nat.mod_mod _ _
  · intro s x a b c d hcanon hstate hruns hready hsamples hfour hpos hboundary
    obtain ⟨htwo, htime, hdomain, hbit, -, hpeer⟩ := State.align_locks (rate := rateOf d a) (old := (s.lane x).trainTime)
      (domain := (s.lane x).time.sampleDomain) (lane_regs_canon hcanon x) hpos
    refine Leads.of_eq rfl (doLockAcquisitionStep_steps hstate hruns hready hsamples hfour hboundary) ?_
    exact ⟨htwo, htime, hdomain, hbit, hpeer⟩
  · intro s x a b c d hcanon hlate hsamples hfour hpos hboundary
    obtain ⟨htwo, htime, hdomain, -, -, hpeer⟩ := State.align_locks (rate := rateOf d a) (old := (s.lane x).trainTime)
      (domain := (s.lane x).time.candDomain) (lane_regs_canon hcanon x) hpos
    refine Leads.of_eq rfl (doLateDomainStep_steps hlate hsamples hfour hboundary) ?_
    simp only [State.changeDomain, State.upd_lane_self, State.upd_lane_peer]
    exact ⟨htwo, htime, hdomain, trivial, hsamples, trivial, hpeer⟩
  · intro s t1 t2 t3 t4 hmirror
    exact exec_next rfl (if_pos (by simp [hmirror]))
  · intro s x t1 t2 t3 t4 hruns
    refine exec_next rfl (if_pos ?_)
    cases x
    · have h : s.laneA.timeRuns = false := hruns
      simp [h]
    · have h : s.laneB.timeRuns = false := hruns
      simp [h]
  · intro s t1 t2 t3 t4 hcanon hrA hrB htA htB hmA hmB hsA hsB hdomain hdiv hfar
    obtain ⟨lateA, lateB, he⟩ := doLaneTimeCompare_locked hrA hrB htA htB hmA hmB hsA hsB hdomain hdiv hfar
    have hcompared {l : LaneState} (h : l.RegsCanon) (theta : Int) (late : Bool) : (l.compared theta late).get 0x401000 = sat32 theta := by
      refine (LaneState.put_get_self _ _ _ h).trans ?_
      rw [regWidth_time.2.2.2.2.2.1]
      exact Nat.mod_eq_of_lt (ofSigned_lt _)
    refine Leads.of_eq rfl he ⟨hcompared (lane_regs_canon hcanon .A) _ lateA, hcompared (lane_regs_canon hcanon .B) _ lateB,
      congrArg (· + 1) hdiv, rfl, rfl, ?_⟩
    exact (LaneState.put_get_ne _ (by decide) _).trans hsA
  · intro s t1 t2 t3 t4 hcanon hrA hrB htA htB hmA hmB hsA hsB hdomain hlA hlB hdiv hlimit hrun
    refine Leads.of_eq rfl (doLaneTimeCompare_both hrA hrB htA htB hmA hmB) ?_
    exact State.judgeDiverged_follows hcanon hrB hmA hsA hsB hdomain hlA hdiv hlimit hrun _ _
  · intro s hon
    refine exec_next rfl ?_
    simp only [doFastTimebaseRead, hon, if_true, State.fastTimebase]
  · intro s x hon hholder
    refine exec_next rfl ?_
    simp only [doFastTimebaseRead, hon, if_true, State.fastTimebase, Bool.false_eq_true, if_false, hholder]

end Sys2Proof.Machine

namespace Sys2Proof.Machine

/-! ### Sync and peer delay (O25) -/

/-- A frame that no sleep stops, no rate-held link refuses, and for which there is room waits at its port (R241). -/
theorem LaneState.emit_queues {l : LaneState} {e : EndId} {f : OutFrame} (hgoes : stopsForSleep f = false)
    (hkind : sendKind f ≠ .message) (hup : (l.port e).isUp = true) (hfill : (l.port e).fill + frameLength f ≤ 65536) :
    l.emit e f = l.queueFrame e f := by
  have hnone : (l.port e).refusesFrame f = none := by
    simp [Port.refusesFrame, hup, hkind, Nat.not_lt.mpr hfill]
  simp [LaneState.emit, hgoes, hnone]

theorem LaneState.queueFrame_queue (l : LaneState) (e : EndId) (f : OutFrame) :
    ((l.queueFrame e f).port e).queue = (l.port e).queue ++ [f] :=
  congrArg Port.queue (l.updPort_port_self e _)

theorem LaneState.emit_time (l : LaneState) (e : EndId) (f : OutFrame) : (l.emit e f).time = l.time := by
  obtain ⟨q, reg, hq⟩ := l.emit_regOnly e f
  rw [hq]
  exact l.updPort_time e _

/-! #### Sending Syncs -/

/-- The lane with a Sync sent at end e, where the port there is up. -/
def LaneState.syncsAt (l : LaneState) (e : EndId) (m : SyncMsg) : LaneState := if (l.port e).isUp then l.emit e (.sync m) else l

theorem LaneState.syncsAt_time (l : LaneState) (e : EndId) (m : SyncMsg) : (l.syncsAt e m).time = l.time := by
  unfold LaneState.syncsAt
  split
  · exact l.emit_time e _
  · rfl

theorem LaneState.syncsAt_other (l : LaneState) (e : EndId) (m : SyncMsg) : (l.syncsAt e m).port e.other = l.port e.other := by
  unfold LaneState.syncsAt
  split
  · exact l.emit_other e _
  · rfl

theorem LaneState.syncsAt_port (l : LaneState) (e : EndId) (m : SyncMsg) :
    ((l.port e).isUp = true → (l.port e).fill + 78 ≤ 65536 → ((l.syncsAt e m).port e).queue = (l.port e).queue ++ [.sync m]) ∧
      ((l.port e).isUp = false → (l.syncsAt e m).port e = l.port e) := by
  constructor
  · intro hup hfill
    rw [LaneState.syncsAt, if_pos hup, LaneState.emit_queues (f := .sync m) rfl (by simp [sendKind]) hup hfill, LaneState.queueFrame_queue]
  · intro hdown
    rw [LaneState.syncsAt, hdown, if_neg (by decide)]

/-- A lane that sends Syncs does so at both ends, and counts its sequence (R274). -/
theorem doSyncSend_sends {s : State} {x : LaneId} (hsends : s.sendsSync x = true) :
    doSyncSend x s = s.upd x fun l => { ((l.syncsAt .e1 (s.ownSync x .e1)).syncsAt .e2 (s.ownSync x .e2)) with
      time := { ((l.syncsAt .e1 (s.ownSync x .e1)).syncsAt .e2 (s.ownSync x .e2)).time with
        syncSeq := (((l.syncsAt .e1 (s.ownSync x .e1)).syncsAt .e2 (s.ownSync x .e2)).time.syncSeq + 1) % 65536 } } :=
  if_pos hsends

/-- What an end shows of the Syncs sent at both. -/
theorem LaneState.syncsBoth_port (l : LaneState) (m : EndId → SyncMsg) (e : EndId) :
    ((l.port e).isUp = true → (l.port e).fill + 78 ≤ 65536 →
        (((l.syncsAt .e1 (m .e1)).syncsAt .e2 (m .e2)).port e).queue = (l.port e).queue ++ [.sync (m e)]) ∧
      ((l.port e).isUp = false → ((l.syncsAt .e1 (m .e1)).syncsAt .e2 (m .e2)).port e = l.port e) := by
  cases e with
  | e1 =>
    have h : ((l.syncsAt .e1 (m .e1)).syncsAt .e2 (m .e2)).port .e1 = (l.syncsAt .e1 (m .e1)).port .e1 :=
      LaneState.syncsAt_other _ .e2 _
    rw [h]
    exact l.syncsAt_port .e1 _
  | e2 =>
    have h : (l.syncsAt .e1 (m .e1)).port .e2 = l.port .e2 := l.syncsAt_other .e1 _
    rw [← h]
    exact LaneState.syncsAt_port _ .e2 _

/-! #### Receiving Syncs -/

theorem doSyncReceived_passes {s : State} {x : LaneId} {e : EndId} {m : SyncMsg} {ing : Int} (hready : (s.lane x).ready = true)
    (hup : ((s.lane x).port e).isUp = true) (hprofile : inProfile m.head = true) (htype : m.head.messageType = 0)
    (htlv : m.tlv = true) (hreserved : m.reserved = 0) (hvalid : (s.lane x).delayValid e = true) :
    doSyncReceived x e m ing none s = (s.upd x fun l => l.emit e.other (.syncOn m ing)).judgeSync x e m ing := by
  simp [doSyncReceived, hready, hup, hprofile, htype, htlv, hreserved, hvalid, State.passSync]

/-- The lane with the first Sync of its master taken (R279). -/
def LaneState.firstSync (l : LaneState) (theta ingress : Int) (m : SyncMsg) : LaneState :=
  { (l.put 0x400500 (sat32 theta)).inc 0x400E00 with time := { l.time with
      lateDomain := l.time.lateDomain && decide (m.domain.toNat ≠ l.domain), lastSeq := some m.seqId.toNat
      samples := ⟨theta, ingress⟩ :: l.time.samples, sampleDomain := m.domain.toNat } }.put 0x400100 1

theorem State.judgeSync_first {s : State} {x : LaneId} {e : EndId} {m : SyncMsg} {ing : Int} (hruns : (s.lane x).timeRuns = true)
    (hdirectory : (s.lane x).roll.directory ≠ []) (hmaster : (s.lane x).masterUid = m.clock.toNat) (hother : m.clock.toNat ≠ s.uid)
    (hstate : (s.lane x).timeState = 0) (hdomain : (s.lane x).time.sampleDomain = 0) (hlast : (s.lane x).time.lastSeq = none) :
    s.judgeSync x e m ing = s.upd x fun l => l.firstSync ((s.lane x).thetaOf e m ing) ing m := by
  have htake : (s.upd x fun l => l.takeMaster m.clock.toNat) = s :=
    State.upd_of_eq (by simp [LaneState.takeMaster, hdirectory])
  have hmine : (if (s.lane x).hasTime then (s.lane x).domain else (s.lane x).time.sampleDomain) = 0 := by
    rw [if_neg (by simp [LaneState.hasTime, hstate]), hdomain]
  unfold State.judgeSync
  rw [if_neg (by simp [hruns]), htake]
  dsimp only
  rw [if_neg (by simp [hother, hstate]), if_pos ⟨hmaster.symm, .inl hmine⟩, if_pos (by rw [hlast]; rfl)]
  unfold State.masterSync
  dsimp only
  rw [if_pos hstate]
  cases x <;> rfl

theorem LaneState.firstSync_get {l : LaneState} (h : l.RegsCanon) (theta ing : Int) (m : SyncMsg) :
    (l.firstSync theta ing m).timeState = 1 ∧ (l.firstSync theta ing m).get 0x400500 = sat32 theta := by
  have hcounted : ((l.put 0x400500 (sat32 theta)).inc 0x400E00).RegsCanon := (h.put _ _).put _ _
  constructor
  · refine (LaneState.put_get_self { (l.put 0x400500 (sat32 theta)).inc 0x400E00 with time := _ } _ _ hcounted).trans ?_
    rw [regWidth_time.1]
    rfl
  · refine (LaneState.put_get_ne _ (by decide) _).trans ((LaneState.put_get_ne _ (by decide) _).trans ?_)
    refine (LaneState.put_get_self _ _ _ h).trans ?_
    rw [regWidth_time.2.2.1]
    exact Nat.mod_eq_of_lt (ofSigned_lt _)

theorem LaneState.firstSync_port (l : LaneState) (theta ing : Int) (m : SyncMsg) (e : EndId) :
    (l.firstSync theta ing m).port e = l.port e := by cases e <;> rfl

/-- What the settings make of a Sync is the same before and after a frame goes out. -/
theorem LaneState.emit_theta (l : LaneState) (e e' : EndId) (f : OutFrame) (m : SyncMsg) (ing : Int) :
    (l.emit e' f).thetaOf e m ing = l.thetaOf e m ing := by
  have h : (l.emit e' f).get (key 0x400C (endSub e)) = l.get (key 0x400C (endSub e)) :=
    l.emit_get e' f (by cases e <;> simp only [NoCount, key, endSub] <;> omega)
      (by cases e <;> cases e' <;> simp only [key, endSub] <;> decide)
  rw [LaneState.thetaOf, LaneState.thetaOf, h]

/-! #### Peer delay -/

theorem doPdelayMeasurement_discards {s : State} {x : LaneId} {e : EndId} {hd : PtpHead} {t1 t4 ta : Int} {n : BitVec 16}
    (hup : ((s.lane x).port e).isUp = true) (hready : (s.lane x).ready = true) (hprofile : inProfile hd = true)
    (htype : hd.messageType = 3) (hwaits : ((s.lane x).port e).pdelayWaits.contains n.toNat = true)
    (hbeyond : 100000 < ta ∨ t4 - t1 < ta) :
    doPdelayMeasurement x e t1 t4 ⟨hd, ta, n⟩ s = s.upd x fun l => l.discardDelay e n.toNat := by
  unfold doPdelayMeasurement
  dsimp only
  rw [if_neg (by simp [hup, hready]), if_neg (by simp [hprofile]), if_neg (by simpa [htype] using hwaits), if_pos (by omega)]

theorem doPdelayMeasurement_measures {s : State} {x : LaneId} {e : EndId} {hd : PtpHead} {t1 t4 ta : Int} {n : BitVec 16}
    (hup : ((s.lane x).port e).isUp = true) (hready : (s.lane x).ready = true) (hprofile : inProfile hd = true)
    (htype : hd.messageType = 3) (hwaits : ((s.lane x).port e).pdelayWaits.contains n.toNat = true) (hshort : ta ≤ 100000)
    (hafter : ta ≤ t4 - t1) (hwithin : (t4 - t1 - ta).tdiv 2 ≤ 10000) :
    ∃ b, doPdelayMeasurement x e t1 t4 ⟨hd, ta, n⟩ s =
      ((s.upd x fun l => l.measureDelay e n.toNat ((t4 - t1 - ta).tdiv 2)).followDelays x).follow x 49 b := by
  unfold doPdelayMeasurement
  dsimp only
  rw [if_neg (by simp [hup, hready]), if_neg (by simp [hprofile]), if_neg (by simpa [htype] using hwaits), if_neg (by omega)]
  exact ⟨_, rfl⟩

/-- The registers that the reaction to a measured delay leaves: the mean delays and the source's levels. -/
def OfDelay (k : Nat) : Prop := k = 0x400C01 ∨ k = 0x400C02 ∨ k = key (0x1410 + 49) 1 ∨ k = key (0x1410 + 49) 2

theorem ofDelay_mean (e : EndId) : OfDelay (key 0x400C (endSub e)) := by
  cases e
  · exact .inl rfl
  · exact .inr (.inl rfl)

theorem State.followDelays_reacts (s : State) (x : LaneId) : s.Reacts OfDelay x (s.followDelays x) := by
  unfold State.followDelays
  split
  · exact .self
  · exact State.Reacts.self.lower 64

/-- What a measurement within the limits leaves at its port and in the dictionary (R276). -/
theorem LaneState.measureDelay_facts {l : LaneState} (h : l.RegsCanon) (e : EndId) (n : Nat) (d : Int) :
    (l.measureDelay e n d).port e = { l.port e with
        pdelayWaits := othersWait n (l.port e).pdelayWaits, pdelayFails := 0, pdelayLost := false
        pdelays := (d :: (l.port e).pdelays).take 8 } ∧
      (l.measureDelay e n d).get (key 0x400C (endSub e)) = meanDelay ((d :: (l.port e).pdelays).take 8) % 2 ^ 32 ∧
      (∀ k, k < 0x200000 → (l.measureDelay e n d).get k = l.get k) := by
  have hw : regWidth (key 0x400C (endSub e)) = 32 := by
    cases e
    · exact regWidth_time.2.2.2.2.2.2.2.1
    · exact regWidth_time.2.2.2.2.2.2.2.2
  refine ⟨?_, ?_, fun k hk => ?_⟩
  · exact (show _ = _ by cases e <;> rfl)
  · unfold LaneState.measureDelay
    dsimp only
    rw [LaneState.put_get_ne _ (by cases e <;> decide), LaneState.put_get_self _ _ _ (h.updPort e _), hw,
      LaneState.updPort_port_self]
  · refine (LaneState.put_get_ne _ ?_ _).trans ((LaneState.put_get_ne _ ?_ _).trans (l.updPort_get e _ k))
    · simp only [key]
      omega
    · simp only [key]
      omega

theorem LaneState.Reacts.port {l m : LaneState} (h : l.Reacts m) (e : EndId) : m.port e = l.port e := by
  obtain ⟨_, _, _, rfl⟩ := h
  rfl

/-- Settles O25: each message is judged by its header first, and a frame that goes out leaves the time alone. -/
theorem syncAndPeerDelay : Obligations.SyncAndPeerDelay := by
  unfold Obligations.SyncAndPeerDelay
  refine ⟨?_, ?_, ?_, ?_, ?_, ?_, ?_, ?_, ?_, ?_, ?_, ?_, ?_⟩
  · intro s x hsends
    refine Leads.of_eq rfl (doSyncSend_sends hsends) ?_
    rw [State.upd_lane_self, State.upd_lane_peer]
    have hports := (s.lane x).syncsBoth_port (s.ownSync x)
    refine ⟨?_, rfl, fun e hup hfill => ⟨s.ownSync x e, ?_, rfl, rfl, rfl, rfl, rfl, rfl⟩, fun e hdown => ?_⟩
    · simp only [LaneState.syncsAt_time]
    · exact (hports e).1 hup hfill
    · exact (hports e).2 hdown
  · intro s x hsends
    exact exec_next rfl (if_neg (by simp [hsends]))
  · intro s x e m ing cut hready hup hwrong
    refine exec_next rfl ?_
    unfold doSyncReceived
    dsimp only
    rw [if_neg (by simp [hready, hup])]
    rcases hwrong with hhead | ⟨htype, htlv⟩
    · rw [if_pos (by simp [hhead])]
    · split
      · rfl
      · rw [if_neg (by simp [htype])]
        exact if_pos (by simpa using htlv)
  · intro s x e m ing cut hready hup hprofile htype htlv hreserved hvalid
    refine exec_next rfl ?_
    simp [doSyncReceived, hready, hup, hprofile, htype, htlv, hreserved, hvalid]
  · intro s x e m ing hcanon hready hup hprofile htype htlv hreserved hvalid hdirectory hmaster hother hstate hdomain hlast hruns
    have hget (k : Nat) (hk : k = 0x400A00 ∨ k = 0x400100) : ((s.lane x).emit e.other (.syncOn m ing)).get k = (s.lane x).get k :=
      LaneState.emit_get _ _ _ (.inr (by omega)) (by cases e <;> simp only [key, endSub, EndId.other] <;> omega)
    have htime := (s.lane x).emit_time e.other (.syncOn m ing)
    have hreg : ((s.lane x).emit e.other (.syncOn m ing)).RegsCanon := LaneState.RegsCanon.emit (lane_regs_canon hcanon x) _ _
    obtain ⟨q, reg, hq⟩ := (s.lane x).emit_regOnly e.other (.syncOn m ing)
    have hown := s.upd_lane_self x fun l => l.emit e.other (.syncOn m ing)
    have hfirst := State.judgeSync_first (s := s.upd x fun l => l.emit e.other (.syncOn m ing)) (x := x) (e := e) (m := m) (ing := ing)
      (by rw [hown, hq]; cases e <;> exact hruns) (by rw [hown, hq]; cases e <;> exact hdirectory)
      (by rw [hown]; exact (hget _ (.inl rfl)).trans hmaster) (by rw [State.upd_uid]; exact hother)
      (by rw [hown]; exact (hget _ (.inr rfl)).trans hstate) (by rw [hown, htime]; exact hdomain) (by rw [hown, htime]; exact hlast)
    refine Leads.of_eq rfl ((doSyncReceived_passes hready hup hprofile htype htlv hreserved hvalid).trans hfirst) ?_
    obtain ⟨hone, htheta⟩ := LaneState.firstSync_get hreg ((s.lane x).thetaOf e m ing) ing m
    rw [State.upd_lane_self, hown, LaneState.emit_theta, State.get, State.upd_lane_self, hown]
    refine ⟨hone, htheta, ?_, rfl, rfl, fun hup' hfill => ?_⟩
    · exact congrArg (fun time : TimeState => (⟨(s.lane x).thetaOf e m ing, ing⟩ : Sample) :: time.samples) htime
    · rw [LaneState.firstSync_port, LaneState.emit_queues (f := .syncOn m ing) rfl (by simp [sendKind]) hup' hfill,
        LaneState.queueFrame_queue]
  · intro s x e hup hready hgap
    exact exec_next rfl (if_pos (by simp [hup, hready, hgap]))
  · intro s x e hd clock q n ing hup hready hprofile htype
    refine exec_next rfl ?_
    simp [doPdelayResp, hup, hready, hprofile, htype]
  · intro s x e hd clock q n ing hup hready hprofile
    refine exec_next rfl ?_
    simp [doPdelayResp, hup, hready, hprofile]
  · intro s x e hd t1 t4 ta n hup hready hprofile htype hwaits hbeyond
    exact exec_next rfl (doPdelayMeasurement_discards hup hready hprofile htype hwaits hbeyond)
  · intro s x e hd t1 t4 ta n hcanon hup hready hprofile htype hwaits hshort hafter hwithin hquiet
    obtain ⟨b, he⟩ := doPdelayMeasurement_measures hup hready hprofile htype hwaits hshort hafter hwithin
    generalize (t4 - t1 - ta).tdiv 2 = d at he
    obtain ⟨hport, hmean, hrest⟩ := LaneState.measureDelay_facts (lane_regs_canon hcanon x) e n.toNat d
    have hown := s.upd_lane_self x fun l => l.measureDelay e n.toNat d
    have hquiet' : Quiet ((s.upd x fun l => l.measureDelay e n.toNat d).followDelays x) x 49 := by
      have hlevel (j : Nat) (hj : j = 1 ∨ j = 2) : ((s.upd x fun l => l.measureDelay e n.toNat d).followDelays x).get x
          (key (0x1410 + 49) j) = s.get x (key (0x1410 + 49) j) := by
        refine ((State.followDelays_reacts _ x).agrees.get ?_).trans ?_
        · rcases hj with rfl | rfl
          · exact .inr (.inr (.inl rfl))
          · exact .inr (.inr (.inr rfl))
        · rw [State.get, hown]
          exact hrest _ (by rcases hj with rfl | rfl <;> decide)
      exact ⟨(hlevel 1 (.inl rfl)).trans_le hquiet.1, (hlevel 2 (.inr rfl)).trans_le hquiet.2⟩
    have hreacts := (State.followDelays_reacts (s.upd x fun l => l.measureDelay e n.toNat d) x).follow hquiet'
      (by unfold OfDelay; rintro k (rfl | rfl | rfl | rfl) <;> decide) b
    have hport' := (hreacts.lane.port e).trans ((congrArg (LaneState.port · e) hown).trans hport)
    have hmean' := (hreacts.agrees.get (ofDelay_mean e)).trans ((congrArg (LaneState.get · _) hown).trans hmean)
    refine Leads.of_eq rfl he ?_
    rw [hport', hmean']
    refine ⟨rfl, rfl, rfl, rfl, fun hfew => ?_, hreacts.agrees.2.trans (s.upd_lane_peer x _)⟩
    rw [meanDelay, if_pos (by simp; omega)]
    rfl
  · intro s x e hd t1 t4 ta n hup hready hprofile hwaits
    refine exec_next rfl ?_
    unfold doPdelayMeasurement
    dsimp only
    rw [if_neg (by simp [hup, hready]), if_neg (by simp [hprofile]), if_pos (.inr hwaits)]
  · intro s x e n rest hwaits
    refine exec_next rfl ?_
    simp only [doPdelayRespTimeout, hwaits]
    rfl
  · intro s x e hup
    exact exec_next rfl (if_pos hup)

end Sys2Proof.Machine

namespace Sys2Proof.Machine

/-! ### The recorder (O38) -/

theorem regWidth_log : regWidth 0x150100 = 32 ∧ regWidth 0x150200 = 32 ∧ regWidth 0x150300 = 32 ∧ regWidth 0x150301 = 16 ∧
    regWidth 0x150A01 = 8 := by decide +kernel

theorem State.upd_get_self (s : State) (x : LaneId) (f : LaneState → LaneState) (k : Nat) :
    (s.upd x f).get x k = (f (s.lane x)).get k := congrArg (LaneState.get · k) (s.upd_lane_self x f)

/-- What a log keeps while events only queue: the slots, the failure and the final records. -/
def Recorder.Kept (r r' : Recorder) : Prop := r'.slots = r.slots ∧ r'.failed = r.failed ∧ r'.finals = r.finals

theorem Recorder.Kept.self {r : Recorder} : r.Kept r := ⟨rfl, rfl, rfl⟩

theorem Recorder.Kept.trans {r r' r'' : Recorder} (h : r.Kept r') (h' : r'.Kept r'') : r.Kept r'' :=
  ⟨h'.1.trans h.1, h'.2.1.trans h.2.1, h'.2.2.trans h.2.2⟩

theorem Recorder.Kept.full {r r' : Recorder} (h : r.Kept r') : r'.full = r.full := by rw [Recorder.full, Recorder.full, h.1]

theorem LaneState.lose_kept (l : LaneState) (code : Nat) : l.log.Kept (l.lose code).log := by
  obtain ⟨ctl, die, reg, h, -⟩ := l.lose_frame code
  rw [h]
  exact ⟨rfl, rfl, rfl⟩

theorem LaneState.record_kept (l : LaneState) (holdUp : Bool) (code : Nat) (data : List Byte) :
    l.log.Kept (l.record holdUp code data).log := by
  unfold LaneState.record
  split
  · exact .self
  · split
    · exact l.lose_kept code
    · split
      · exact l.lose_kept code
      · exact ⟨rfl, rfl, rfl⟩

theorem State.record_kept (s : State) (x : LaneId) (code : Nat) (data : List Byte) :
    (s.lane x).log.Kept ((s.record x code data).lane x).log := by
  rw [State.record, State.upd_lane_self]
  exact (s.lane x).record_kept _ code data

/-- A quiet source records its reaction, and no slot is written. -/
theorem State.raiseLane_kept {s : State} {x : LaneId} {n : Nat} (hq : Quiet s x n) :
    (s.lane x).log.Kept ((s.raiseLane x n).lane x).log := by
  unfold State.raiseLane State.raise
  split
  · obtain ⟨⟨coll, hcoll⟩, hlow⟩ := s.decideFaults_lane x [⟨n, false, 0⟩]
    have hdecided : (s.lane x).log.Kept ((s.decideFaults (.lane x) [⟨n, false, 0⟩]).2.lane x).log := by
      rw [hcoll, State.upd_lane_self]
      exact .self
    rw [State.enterFaults, State.react, State.carryOut_of_low (hlow (List.forall_mem_singleton.mpr hq)), State.tossCheck_lane]
    refine List.foldlRecOn (motive := fun t : State => (s.lane x).log.Kept (t.lane x).log) _ _ hdecided fun t ht r _ => ?_
    rw [State.recordReaction, State.inc, State.upd_lane_self]
    exact ht.trans (t.record_kept x _ _)
  · exact .self

/-! #### Slots -/

theorem Recorder.passWorn_sound {r : Recorder} (h : r.worn.contains r.slots.length = false) : r.passWorn = r :=
  List.foldl_fixed' (fun _ => if_neg (by simpa using h)) _

theorem Recorder.wornPair_sound {r : Recorder} (h : r.worn.contains r.slots.length = false) : r.wornPair = false := by
  rw [Recorder.wornPair, h, Bool.and_false]

/-- The lane with the event of the moment in its next slot (R426, R428). -/
theorem LaneState.place_sound {l : LaneState} (h : l.log.worn.contains l.log.slots.length = false) (holdUp : Bool) (q : Queued) :
    l.place holdUp q = (({ l with log := { l.log with slots := l.log.slots ++ [Slot.record (l.numbered holdUp q)] } }.put 0x150200
      (l.get 0x150200 + 1)).put 0x150100 (l.log.slots.length + 1)) := by
  unfold LaneState.place
  rw [Recorder.passWorn_sound h]
  simp only [List.length_append, List.length_singleton]
  rfl

theorem LaneState.closeFullLog_open {l : LaneState} (h : l.log.slots.length ≠ 131071) (holdUp closes : Bool) :
    l.closeFullLog holdUp closes = l := if_neg fun hc => h hc.1

/-- A verified slot of a log with room takes the event, and no more happens. -/
theorem LaneState.writeRecord_good {l : LaneState} (h : l.log.worn.contains l.log.slots.length = false)
    (hroom : l.log.slots.length < 131070) (holdUp closes : Bool) (q : Queued) :
    l.writeRecord holdUp true closes q = l.place holdUp q := by
  rw [LaneState.writeRecord, Recorder.wornPair_sound h, if_neg (by decide), if_pos rfl, LaneState.closeFullLog_open]
  rw [LaneState.place_sound h]
  exact fun hl => by simp at hl; omega

theorem LaneState.badSlot_get {l : LaneState} (h : l.RegsCanon) (hbad : l.get 0x150A01 < 16) :
    l.badSlot.get 0x150A01 = l.get 0x150A01 + 1 := by
  refine (LaneState.put_get_self _ _ _ (LaneState.RegsCanon.put (show tabCanon regDefault l.reg = true from h) _ _)).trans ?_
  rw [regWidth_log.2.2.2.2]
  change satInc 255 (l.get 0x150A01) % 2 ^ 8 = _
  rw [satInc, if_pos (by omega), Nat.mod_eq_of_lt (by omega)]

/-- A slot that fails twice, after a good one and among few bad ones, is only bad (R433). -/
theorem LaneState.writeRecord_bad {l : LaneState} (hc : l.RegsCanon) (h : l.log.worn.contains l.log.slots.length = false)
    (hroom : l.log.slots.length < 131070) (hlast : l.log.lastBad = false) (hbad : l.get 0x150A01 < 16)
    (hfailed : l.log.failed = none) (holdUp closes : Bool) (q : Queued) :
    l.writeRecord holdUp false closes q = l.badSlot := by
  have hopen : l.badSlot.closeFullLog holdUp closes = l.badSlot :=
    LaneState.closeFullLog_open (fun hl => by simp [LaneState.badSlot] at hl; omega) _ _
  have hfew : ¬ 17 ≤ l.badSlot.get 0x150A01 := by
    rw [LaneState.badSlot_get hc hbad]
    omega
  have hnone : l.badSlot.log.failed.isSome = false := by
    rw [show l.badSlot.log.failed = none from hfailed]
    rfl
  unfold LaneState.writeRecord
  rw [Recorder.wornPair_sound h, if_neg (by decide), if_neg (by decide), Recorder.passWorn_sound h]
  dsimp only
  rw [hopen, if_neg (by rw [hnone]; decide), if_neg (by rw [hlast]; decide), if_neg hfew]

/-! #### The recorder's memory fails -/

/-- The registers that the recorder writes lie from entry 1500h on. -/
def NoLog (k : Nat) : Prop := k < 0x150000

theorem LaneState.placeFinal_agrees {l₀ l : LaneState} (h : l₀.Agrees NoLog l) (holdUp : Bool) (q : Queued) :
    l₀.Agrees NoLog (l.placeFinal holdUp q) := by
  unfold LaneState.placeFinal
  refine .ite ?_ (.put (.put (.other h rfl) (by unfold NoLog; decide) _) (by unfold NoLog; decide) _)
  obtain ⟨ctl, die, reg, he, hreg, -⟩ := l.lose_frame q.code
  rw [he]
  refine h.trans fun k hk => ?_
  unfold NoLog at hk
  exact hreg k (by omega) (by omega) (by omega)

theorem LaneState.failRecorder_agrees {l₀ l : LaneState} (h : l₀.Agrees NoLog l) (holdUp : Bool) (cause slot : Nat) :
    l₀.Agrees NoLog (l.failRecorder holdUp cause slot) := by
  have hfinal (q : Queued) := LaneState.placeFinal_agrees (l := { l with log := { l.log with failed := some cause } }) (.other h rfl) holdUp q
  exact .ite (hfinal _) (LaneState.placeFinal_agrees (hfinal _) _ _)

theorem LaneState.badSlot_agrees {l₀ l : LaneState} (h : l₀.Agrees NoLog l) : l₀.Agrees NoLog l.badSlot :=
  .put (.put (.other h rfl) (by unfold NoLog; decide) _) (by unfold NoLog; decide) _

/-- Of the rest of the lane the recorder changes nothing. -/
def LaneState.Logs (l m : LaneState) : Prop := ∃ log reg, m = { l with log := log, reg := reg }

namespace LaneState.Logs

variable {l m n : LaneState}

theorem self : l.Logs l := ⟨_, _, rfl⟩

theorem trans (h : l.Logs m) (h' : m.Logs n) : l.Logs n := by
  obtain ⟨_, _, rfl⟩ := h
  obtain ⟨_, _, rfl⟩ := h'
  exact ⟨_, _, rfl⟩

theorem put (h : l.Logs m) (k v : Nat) : l.Logs (m.put k v) := h.trans ⟨_, _, rfl⟩

theorem withLog (h : l.Logs m) (r : Recorder) : l.Logs { m with log := r } := h.trans ⟨_, _, rfl⟩

theorem lose (h : l.Logs m) (code : Nat) : l.Logs (m.lose code) := by
  obtain ⟨ctl, die, reg, he, -⟩ := m.lose_frame code
  exact h.trans ⟨_, _, he⟩

theorem placeFinal (h : l.Logs m) (holdUp : Bool) (q : Queued) : l.Logs (m.placeFinal holdUp q) := by
  unfold LaneState.placeFinal
  split
  · exact h.lose _
  · exact ((h.withLog _).put _ _).put _ _

theorem failRecorder (h : l.Logs m) (holdUp : Bool) (cause slot : Nat) : l.Logs (m.failRecorder holdUp cause slot) := by
  have hfinal (q : Queued) := (h.withLog { m.log with failed := some cause }).placeFinal holdUp q
  unfold LaneState.failRecorder
  dsimp only
  split
  · exact hfinal _
  · exact (hfinal _).placeFinal holdUp _

theorem place (h : l.Logs m) (holdUp : Bool) (q : Queued) : l.Logs (m.place holdUp q) := ((h.withLog _).put _ _).put _ _

theorem badSlot (h : l.Logs m) : l.Logs m.badSlot := ((h.withLog _).put _ _).put _ _

theorem mode (h : l.Logs m) : m.mode = l.mode := by
  obtain ⟨_, _, rfl⟩ := h
  rfl

theorem coll (h : l.Logs m) : m.coll = l.coll := by
  obtain ⟨_, _, rfl⟩ := h
  rfl

end LaneState.Logs

theorem LaneState.placeFinal_log (l : LaneState) (holdUp : Bool) (q : Queued) :
    (l.placeFinal holdUp q).log.slots = l.log.slots ∧ (l.placeFinal holdUp q).log.failed = l.log.failed := by
  unfold LaneState.placeFinal
  split
  · exact ⟨(l.lose_kept _).1, (l.lose_kept _).2.1⟩
  · exact ⟨rfl, rfl⟩

/-- A failed recorder notes its cause and writes no slot. -/
theorem LaneState.failRecorder_log (l : LaneState) (holdUp : Bool) (cause slot : Nat) :
    (l.failRecorder holdUp cause slot).log.slots = l.log.slots ∧ (l.failRecorder holdUp cause slot).log.failed = some cause := by
  have hfinal (q : Queued) := LaneState.placeFinal_log { l with log := { l.log with failed := some cause } } holdUp q
  unfold LaneState.failRecorder
  dsimp only
  split
  · exact hfinal _
  · exact ⟨(LaneState.placeFinal_log _ _ _).1.trans (hfinal _).1, (LaneState.placeFinal_log _ _ _).2.trans (hfinal _).2⟩

theorem LaneState.placeFinal_first {l : LaneState} (hfinals : l.log.finals = []) (holdUp : Bool) (q : Queued) :
    (l.placeFinal holdUp q).log = { l.log with finals := [l.numbered holdUp q] } := by
  unfold LaneState.placeFinal
  rw [if_neg (by rw [hfinals]; decide), hfinals]
  rfl

/-- With valid tags and no final record yet, the failure is the one final record. -/
theorem LaneState.failRecorder_finals {l : LaneState} (hfinals : l.log.finals = []) (htags : l.log.tagsValid = true) (holdUp : Bool)
    (cause slot : Nat) : ∃ r : EventRec, (l.failRecorder holdUp cause slot).log.finals = [r] ∧ r.event.code = 0x0061 := by
  have hfinal (q : Queued) := LaneState.placeFinal_first (l := { l with log := { l.log with failed := some cause } }) hfinals holdUp q
  unfold LaneState.failRecorder
  dsimp only
  rw [if_pos (by rw [hfinal]; exact htags), hfinal]
  exact ⟨_, rfl, rfl⟩

/-- A source that the recorder raises is quiet whatever the recorder writes. -/
theorem quiet_logs {s : State} {x : LaneId} {f : LaneState → LaneState} (h : (s.lane x).Agrees NoLog (f (s.lane x))) {n : Nat}
    (hn : n < 128) (hq : Quiet s x n) : Quiet (s.upd x f) x n := by
  have hget (j : Nat) (hj : j = 1 ∨ j = 2) : (s.upd x f).get x (key (0x1410 + n) j) = s.get x (key (0x1410 + n) j) := by
    rw [State.get, State.upd_lane_self]
    exact h _ (by simp only [NoLog, key]; omega)
  exact ⟨(hget 1 (.inl rfl)).trans_le hq.1, (hget 2 (.inr rfl)).trans_le hq.2⟩

/-! #### A write of the record at the head of the queue -/

/-- A recorder that has failed or whose log is full tells its collector (R433, R436). -/
def State.tellsRecorder (s : State) (x : LaneId) : State :=
  let s := if (s.lane x).log.failed.isSome then s.raiseLane x 104 else s
  if (s.lane x).log.full then s.raiseLane x 105 else s

/-- The lane with the record q written, or not, and the queue left. -/
def LaneState.wrote (l : LaneState) (holdUp ok closes : Bool) (q : Queued) (left : List Queued) (later : List Bool) : LaneState :=
  ({ l with log := { l.log with queue := left, outcomes := later } } : LaneState).writeRecord holdUp ok closes q

theorem doRecordWrite_runs {s : State} {x : LaneId} {first second closes : Bool} {later : List Bool} {q : Queued}
    {rest : List Queued} (hcan : CanRecord (s.lane x)) (hscanned : (s.lane x).log.scanned = true)
    (hclear : (s.lane x).log.inClear = false) (hworn : (s.lane x).log.worn.contains (s.lane x).log.slots.length = false)
    (hqueue : (s.lane x).log.queue = q :: rest) :
    doRecordWrite x first second closes later s = (s.upd x fun l => l.wrote s.keeper.onHoldUp (first || second) closes q
      (if (first || second) = true then rest else q :: rest) later).tellsRecorder x := by
  obtain ⟨hawake, hstopped, hfailed, hfull, hresets, -⟩ := hcan
  have hfull' : (s.lane x).log.full = false := hfull.resolve_right (by simp [hclear])
  unfold doRecordWrite
  simp only [hqueue]
  rw [if_neg (by simp [hawake, hstopped, hclear, hresets, hscanned]), if_neg (by simp [hfull', hfailed]),
    Recorder.wornPair_sound hworn, Bool.not_false, Bool.and_true]
  have hleft : (s.upd x fun l => ({ l with log := { l.log with
      queue := if (first || second) = true then rest else q :: rest, outcomes := later } } : LaneState).writeRecord
        s.keeper.onHoldUp (first || second) closes q) = s.upd x fun l => l.wrote s.keeper.onHoldUp (first || second) closes q
      (if (first || second) = true then rest else q :: rest) later := rfl
  rw [hleft]
  rfl

/-- A recorder that works and whose log has room tells nothing. -/
theorem State.tellsRecorder_quiet {s : State} {x : LaneId} (hfailed : (s.lane x).log.failed = none)
    (hroom : (s.lane x).log.slots.length < 131071) : s.tellsRecorder x = s := by
  unfold State.tellsRecorder
  rw [hfailed]
  exact if_neg (by simpa [Recorder.full] using hroom)

theorem LaneState.wrote_good {l : LaneState} (h : l.RegsCanon) (hfailed : l.log.failed = none)
    (hworn : l.log.worn.contains l.log.slots.length = false) (hroom : l.log.slots.length < 131070) (hseq : l.get 0x150200 < 1000000)
    (holdUp closes : Bool) (q : Queued) (rest : List Queued) (later : List Bool) :
    (l.wrote holdUp true closes q rest later).log.failed = none ∧ (l.wrote holdUp true closes q rest later).log.slots.length < 131071 ∧
      (l.wrote holdUp true closes q rest later).log.slots = l.log.slots ++
        [.record ⟨l.get 0x150200, { q with tags := l.log.tagsValid, holdUp := holdUp }⟩] ∧
      (l.wrote holdUp true closes q rest later).log.queue = rest ∧
      (l.wrote holdUp true closes q rest later).get 0x150200 = l.get 0x150200 + 1 ∧
      (l.wrote holdUp true closes q rest later).get 0x150100 = l.log.slots.length + 1 ∧
      (l.wrote holdUp true closes q rest later).coll = l.coll ∧ (l.wrote holdUp true closes q rest later).mode = l.mode := by
  obtain ⟨m, hm⟩ : ∃ m : LaneState, m = { l with log := { l.log with queue := rest, outcomes := later } } := ⟨_, rfl⟩
  have hlog : m.log = { l.log with queue := rest, outcomes := later } := hm ▸ rfl
  have hcanon : m.RegsCanon := hm ▸ h
  have hget (k : Nat) : m.get k = l.get k := hm ▸ rfl
  have hcoll : m.coll = l.coll := hm ▸ rfl
  have hmode : m.mode = l.mode := hm ▸ rfl
  have hworn' : m.log.worn.contains m.log.slots.length = false := by rw [hlog]; exact hworn
  have hroom' : m.log.slots.length < 131070 := by rw [hlog]; exact hroom
  have hnum : m.numbered holdUp q = ⟨l.get 0x150200, { q with tags := l.log.tagsValid, holdUp := holdUp }⟩ := by
    rw [LaneState.numbered, hget, hlog]
  have he : l.wrote holdUp true closes q rest later = _ :=
    (congrArg (fun m : LaneState => m.writeRecord holdUp true closes q) hm.symm).trans
      ((LaneState.writeRecord_good hworn' hroom' holdUp closes q).trans (LaneState.place_sound hworn' holdUp q))
  rw [he]
  have hslots : m.log.slots ++ [Slot.record (m.numbered holdUp q)] = l.log.slots ++
      [.record ⟨l.get 0x150200, { q with tags := l.log.tagsValid, holdUp := holdUp }⟩] := by rw [hnum, hlog]
  have hlength : m.log.slots.length = l.log.slots.length := by rw [hlog]
  refine ⟨?_, ?_, hslots, ?_, ?_, ?_, hcoll, hmode⟩
  · exact (congrArg Recorder.failed hlog).trans hfailed
  · exact (List.length_append).trans_lt (Nat.add_lt_add_right hroom' 1)
  · exact congrArg Recorder.queue hlog
  · refine (LaneState.put_get_ne _ (by decide) _).trans ((LaneState.put_get_self _ _ _ hcanon).trans ?_)
    rw [regWidth_log.2.1, hget]
    exact Nat.mod_eq_of_lt (by omega)
  · refine (LaneState.put_get_self _ _ _ (LaneState.RegsCanon.put hcanon _ _)).trans ?_
    rw [regWidth_log.1, hlength]
    exact Nat.mod_eq_of_lt (by omega)

theorem LaneState.wrote_bad {l : LaneState} (h : l.RegsCanon) (hfailed : l.log.failed = none)
    (hworn : l.log.worn.contains l.log.slots.length = false) (hroom : l.log.slots.length < 131070)
    (hlast : l.log.lastBad = false) (hbad : l.get 0x150A01 < 16) (holdUp closes : Bool) (q : Queued) (left : List Queued)
    (later : List Bool) :
    (l.wrote holdUp false closes q left later).log.failed = none ∧ (l.wrote holdUp false closes q left later).log.slots.length < 131071 ∧
      (l.wrote holdUp false closes q left later).log.slots = l.log.slots ++ [.bad] ∧
      (l.wrote holdUp false closes q left later).log.queue = left ∧
      (l.wrote holdUp false closes q left later).get 0x150A01 = l.get 0x150A01 + 1 ∧
      (l.wrote holdUp false closes q left later).get 0x150200 = l.get 0x150200 := by
  obtain ⟨m, hm⟩ : ∃ m : LaneState, m = { l with log := { l.log with queue := left, outcomes := later } } := ⟨_, rfl⟩
  have hlog : m.log = { l.log with queue := left, outcomes := later } := hm ▸ rfl
  have hcanon : m.RegsCanon := hm ▸ h
  have hget (k : Nat) : m.get k = l.get k := hm ▸ rfl
  have hworn' : m.log.worn.contains m.log.slots.length = false := by rw [hlog]; exact hworn
  have hroom' : m.log.slots.length < 131070 := by rw [hlog]; exact hroom
  have hlast' : m.log.lastBad = false := by rw [hlog]; exact hlast
  have hfailed' : m.log.failed = none := by rw [hlog]; exact hfailed
  have hbad' : m.get 0x150A01 < 16 := (hget _).trans_lt hbad
  have he : l.wrote holdUp false closes q left later = m.badSlot :=
    (congrArg (fun m : LaneState => m.writeRecord holdUp false closes q) hm.symm).trans
      (LaneState.writeRecord_bad hcanon hworn' hroom' hlast' hbad' hfailed' holdUp closes q)
  rw [he]
  have hslots : m.log.slots ++ [Slot.bad] = l.log.slots ++ [.bad] := by rw [hlog]
  exact ⟨hfailed', (List.length_append).trans_lt (Nat.add_lt_add_right hroom' 1), hslots, congrArg Recorder.queue hlog,
    (LaneState.badSlot_get hcanon hbad').trans (congrArg (· + 1) (hget _)),
    (LaneState.put_get_ne _ (by decide) _).trans ((LaneState.put_get_ne _ (by decide) _).trans (hget _))⟩

/-- A record that leaves the recorder working and its log with room is all that a write does. -/
theorem doRecordWrite_sound {s : State} {x : LaneId} {first second closes : Bool} {later : List Bool} {q : Queued}
    {rest : List Queued} (hcan : CanRecord (s.lane x)) (hscanned : (s.lane x).log.scanned = true)
    (hclear : (s.lane x).log.inClear = false) (hworn : (s.lane x).log.worn.contains (s.lane x).log.slots.length = false)
    (hqueue : (s.lane x).log.queue = q :: rest)
    (hworks : ((s.lane x).wrote s.keeper.onHoldUp (first || second) closes q
        (if (first || second) = true then rest else q :: rest) later).log.failed = none ∧
      ((s.lane x).wrote s.keeper.onHoldUp (first || second) closes q
        (if (first || second) = true then rest else q :: rest) later).log.slots.length < 131071) :
    doRecordWrite x first second closes later s = s.upd x fun l => l.wrote s.keeper.onHoldUp (first || second) closes q
      (if (first || second) = true then rest else q :: rest) later := by
  rw [doRecordWrite_runs hcan hscanned hclear hworn hqueue]
  have hown := s.upd_lane_self x fun l => l.wrote s.keeper.onHoldUp (first || second) closes q
      (if (first || second) = true then rest else q :: rest) later
  exact State.tellsRecorder_quiet (by rw [hown]; exact hworks.1) (by rw [hown]; exact hworks.2)

/-- The reaction to source 104 leaves the levels of source 105. -/
def OfFull (k : Nat) : Prop := k = key (0x1410 + 105) 1 ∨ k = key (0x1410 + 105) 2

theorem testBit_withBit_of {v n : Nat} (m : Nat) (h : v.testBit n = true) : (withBit v m true).testBit n = true := by
  by_cases hm : n = m
  · rw [hm]
    exact testBit_withBit_self _ _ _
  · rw [testBit_withBit_ne hm]
    exact h

/-- What a full recorder, failed or not, leaves as it tells it. -/
theorem State.tellsRecorder_full {s : State} {x : LaneId} (hcol : s.collects (.lane x) = true) (hfull : (s.lane x).log.full = true)
    (h104 : (s.lane x).log.failed.isSome = true → Quiet s x 104) (h105 : Quiet s x 105) :
    (s.lane x).log.Kept ((s.tellsRecorder x).lane x).log ∧ ((s.tellsRecorder x).lane x).coll.inFault.testBit 105 = true ∧
      ((s.lane x).log.failed.isSome = true → ((s.tellsRecorder x).lane x).coll.inFault.testBit 104 = true) ∧
      (s.tellsRecorder x).lane x.peer = s.lane x.peer := by
  have htold {t : State} (hcol : t.collects (.lane x) = true) (hq : Quiet t x 105) (hfull : (t.lane x).log.full = true) :
      (if (t.lane x).log.full then t.raiseLane x 105 else t) = t.raiseLane x 105 ∧
        ((t.raiseLane x 105).lane x).coll.inFault = withBit (t.lane x).coll.inFault 105 true :=
    ⟨if_pos hfull, State.raiseLane_inFault hq hcol (by cases x <;> decide)⟩
  unfold State.tellsRecorder
  dsimp only
  cases hf : (s.lane x).log.failed.isSome
  · obtain ⟨he, hin⟩ := htold hcol h105 hfull
    simp only [Bool.false_eq_true, if_false]
    rw [he, hin]
    exact ⟨State.raiseLane_kept h105, testBit_withBit_self _ _ _, False.elim, (State.raiseLane_laneOnly h105).peer⟩
  · have hq := h104 hf
    have hreacts := (State.Reacts.self (A := OfFull) (x := x) (s := s)).raiseLane hq
      (by unfold OfFull; rintro k (rfl | rfl) <;> decide)
    have hkept := State.raiseLane_kept hq
    have hcol' : (s.raiseLane x 104).collects (.lane x) = true := by
      have hmode := hreacts.lane.mode
      simp only [State.collects, LaneState.awake, hmode] at hcol ⊢
      exact hcol
    have hq' : Quiet (s.raiseLane x 104) x 105 := quiet_of_agrees h105 hreacts.agrees (.inl rfl) (.inr rfl)
    obtain ⟨he, hin⟩ := htold hcol' hq' (hkept.full.trans hfull)
    rw [if_pos rfl, he, hin, State.raiseLane_inFault hq hcol (by cases x <;> decide)]
    refine ⟨hkept.trans (State.raiseLane_kept hq'), testBit_withBit_self _ _ _, fun _ => ?_,
      (State.raiseLane_laneOnly hq').peer.trans hreacts.only.peer⟩
    exact testBit_withBit_of 105 (testBit_withBit_self _ _ _)

/-- The record of a log with one slot left before the last is placed, and the log closes or fails (R433). -/
theorem LaneState.wrote_last {l : LaneState} (hworn : l.log.worn = []) (hlength : l.log.slots.length = 131070)
    (hfailed : l.log.failed = none) (holdUp closes : Bool) (q : Queued) (left : List Queued) (later : List Bool) :
    l.Logs (l.wrote holdUp true closes q left later) ∧ l.Agrees NoLog (l.wrote holdUp true closes q left later) ∧
      (l.wrote holdUp true closes q left later).log.slots.length = 131072 ∧
      (closes = false → (l.wrote holdUp true closes q left later).log.failed = some 4) ∧
      (closes = true → (l.wrote holdUp true closes q left later).log.failed = none ∧
        ∃ r : EventRec, (l.wrote holdUp true closes q left later).log.slots.getLast? = some (.record r) ∧ r.event.code = 0x0062) := by
  have hsound (n : Nat) : ([] : List Nat).contains n = false := rfl
  generalize hm : ({ l with log := { l.log with queue := left, outcomes := later } } : LaneState) = m
  have hlogs : l.Logs m := hm ▸ ⟨_, _, rfl⟩
  have hagrees : l.Agrees NoLog m := hm ▸ .other .self rfl
  have hmworn : m.log.worn = [] := hm ▸ hworn
  have hmlength : m.log.slots.length = 131070 := hm ▸ hlength
  have hmfailed : m.log.failed = none := hm ▸ hfailed
  have hplace := LaneState.place_sound (l := m) (by rw [hmworn]; rfl) holdUp q
  have hplogs : l.Logs (m.place holdUp q) := hlogs.place _ _
  have hpagrees : l.Agrees NoLog (m.place holdUp q) := by
    rw [hplace]
    exact .put (.put (.other hagrees rfl) (by unfold NoLog; decide) _) (by unfold NoLog; decide) _
  have hpworn : (m.place holdUp q).log.worn = [] := by rw [hplace]; exact hmworn
  have hplength : (m.place holdUp q).log.slots.length = 131071 := by
    rw [hplace]
    exact (List.length_append).trans (congrArg (· + 1) hmlength)
  have hpfailed : (m.place holdUp q).log.failed = none := by rw [hplace]; exact hmfailed
  have hwrote : l.wrote holdUp true closes q left later = (m.place holdUp q).closeFullLog holdUp closes := by
    rw [LaneState.wrote, hm, LaneState.writeRecord, Recorder.wornPair_sound (by rw [hmworn]; rfl), if_neg (by decide), if_pos rfl]
  rw [hwrote]
  generalize m.place holdUp q = p at hplogs hpagrees hpworn hplength hpfailed
  rw [LaneState.closeFullLog, if_pos ⟨hplength, hpfailed⟩, hpworn, hsound, if_neg (by decide)]
  cases closes
  · rw [if_neg (by decide)]
    obtain ⟨hslots, hfour⟩ := p.badSlot.failRecorder_log holdUp 4 131071
    refine ⟨hplogs.badSlot.failRecorder _ _ _, LaneState.failRecorder_agrees (LaneState.badSlot_agrees hpagrees) _ _ _, ?_,
      fun _ => hfour, nofun⟩
    rw [hslots]
    exact (List.length_append).trans (congrArg (· + 1) hplength)
  · rw [if_pos rfl]
    have hlast := LaneState.place_sound (l := p) (by rw [hpworn]; rfl) holdUp (p.event holdUp 0x0062 (toBytes 4 p.log.firstNumber))
    rw [hlast]
    refine ⟨(hplogs.withLog _ |>.put _ _).put _ _, ?_, ?_, nofun, fun _ =>
      ⟨hpfailed, p.numbered holdUp (p.event holdUp 0x0062 (toBytes 4 p.log.firstNumber)), ?_, rfl⟩⟩
    · exact .put (.put (.other hpagrees rfl) (by unfold NoLog; decide) _) (by unfold NoLog; decide) _
    · exact (List.length_append).trans (congrArg (· + 1) hplength)
    · exact List.getLast?_concat ..

/-- The record that fills the log but for its last slot. -/
theorem doRecordWrite_last {s : State} {x : LaneId} {closes : Bool} {later : List Bool} {q : Queued} {rest : List Queued}
    (hcan : CanRecord (s.lane x)) (hscanned : (s.lane x).log.scanned = true) (hclear : (s.lane x).log.inClear = false)
    (hworn : (s.lane x).log.worn = []) (hqueue : (s.lane x).log.queue = q :: rest)
    (hlength : (s.lane x).log.slots.length = 131070) (h104 : closes = false → Quiet s x 104) (h105 : Quiet s x 105) :
    ((doRecordWrite x true true closes later s).lane x).log.slots.length = 131072 ∧
      (closes = false → ((doRecordWrite x true true closes later s).lane x).log.failed = some 4) ∧
      (closes = true → ∃ r : EventRec,
        ((doRecordWrite x true true closes later s).lane x).log.slots.getLast? = some (.record r) ∧ r.event.code = 0x0062) ∧
      (closes = false → ((doRecordWrite x true true closes later s).lane x).coll.inFault.testBit 104 = true) ∧
      ((doRecordWrite x true true closes later s).lane x).coll.inFault.testBit 105 = true ∧
      (doRecordWrite x true true closes later s).lane x.peer = s.lane x.peer := by
  have hruns := doRecordWrite_runs (first := true) (second := true) (closes := closes) (later := later) hcan hscanned hclear
    (by rw [hworn]; rfl) hqueue
  rw [Bool.or_self, if_pos rfl] at hruns
  rw [hruns]
  obtain ⟨hawake, hstopped, hfailed, -⟩ := hcan
  obtain ⟨hlogs, hagrees, hlast, hfour, hcloses⟩ := LaneState.wrote_last hworn hlength hfailed s.keeper.onHoldUp closes q rest later
  have hown := s.upd_lane_self x fun l => l.wrote s.keeper.onHoldUp true closes q rest later
  have hother := s.upd_lane_peer x fun l => l.wrote s.keeper.onHoldUp true closes q rest later
  have hquiet {n : Nat} (hn : n < 128) (hq : Quiet s x n) :
      Quiet (s.upd x fun l => l.wrote s.keeper.onHoldUp true closes q rest later) x n :=
    quiet_logs (f := fun l => l.wrote s.keeper.onHoldUp true closes q rest later) hagrees hn hq
  generalize s.upd x (fun l => l.wrote s.keeper.onHoldUp true closes q rest later) = t at hown hother hquiet
  generalize (s.lane x).wrote s.keeper.onHoldUp true closes q rest later = m at hown hlogs hlast hfour hcloses
  have hcol : t.collects (.lane x) = true := by
    simp only [State.collects, LaneState.awake, hown, hlogs.mode]
    simpa [LaneState.awake, hstopped] using hawake
  have hnone : closes = true → m.log.failed.isSome = false := fun hc => by rw [(hcloses hc).1]; rfl
  have hsome : closes = false → m.log.failed.isSome = true := fun hc => by rw [hfour hc]; rfl
  obtain ⟨hkept, h105', h104', hpeer⟩ := State.tellsRecorder_full hcol (by rw [hown, Recorder.full, hlast]; rfl)
    (fun h => by
      cases closes
      · exact hquiet (by decide) (h104 rfl)
      · rw [hown, hnone rfl] at h
        cases h) (hquiet (by decide) h105)
  rw [hown] at hkept h104'
  refine ⟨(congrArg List.length hkept.1).trans hlast, fun hc => hkept.2.1.trans (hfour hc), fun hc => ?_, fun hc => h104' (hsome hc),
    h105', hpeer.trans hother⟩
  rw [hkept.1]
  exact (hcloses hc).2

/-! #### The control block and the clear -/

theorem LaneState.cutRewrite_copy (l : LaneState) (k j : Nat) (c : CtlCopy) (hj : j < 3) (hc : l.log.ctl[j]? = some c) :
    (l.cutRewrite k).log.ctl[j]? =
      some (if j < k then l.ctlNow else if j = k then { l.ctlNow with ok := false } else c) := by
  have hzip : (l.log.ctl.zip (List.range 3))[j]? = some (c, j) := by
    rw [List.getElem?_zip_eq_some]
    exact ⟨hc, by rw [List.getElem?_range hj]⟩
  simp only [LaneState.cutRewrite, List.getElem?_map, hzip, Option.map_some]

/-- The end of a clear that passes leaves the record of itself in an empty log (R438). -/
theorem LaneState.cleared_facts {l : LaneState} (h : l.RegsCanon) (hseq : l.get 0x150200 < 1000000) (holdUp : Bool) :
    (∃ q : Queued, (l.cleared holdUp [] true).log.slots = [.record ⟨l.get 0x150200, q⟩] ∧ q.code = 0x0063) ∧
      (l.cleared holdUp [] true).get 0x150200 = l.get 0x150200 + 1 ∧ (l.cleared holdUp [] true).get 0x150100 = 1 ∧
      (l.cleared holdUp [] true).get 0x150300 = 0 ∧ (l.cleared holdUp [] true).log.inClear = false ∧
      (l.cleared holdUp [] true).log.failed = none ∧ (l.cleared holdUp [] true).log.queue = l.log.queue := by
  generalize hq : l.event holdUp 0x0063 l.clearData = q
  generalize hm : ({ (({ l with log := { l.log with slots := [], clearing := false, clearMark := false, worn := [] } } :
      LaneState).put 0x150100 0).put 0x150A01 0 with log := { l.log with
        slots := [], clearing := false, clearMark := false, worn := [], failed := none } } : LaneState) = m
  have hcanon : m.RegsCanon := hm ▸ LaneState.RegsCanon.put (l := (_ : LaneState).put 0x150100 0)
    (LaneState.RegsCanon.put (show tabCanon regDefault l.reg = true from h) _ _) _ _
  have hnext : m.get 0x150200 = l.get 0x150200 := by
    rw [← hm]
    exact (LaneState.put_get_ne _ (by decide) _).trans (LaneState.put_get_ne _ (by decide) _)
  have hlog : m.log = { l.log with slots := [], clearing := false, clearMark := false, worn := [], failed := none } := hm ▸ rfl
  have hplace := LaneState.place_sound (l := m) (by rw [hlog]; rfl) holdUp q
  have hcleared : l.cleared holdUp [] true = (m.place holdUp q).noLosses := by
    rw [← hm, ← hq]
    rfl
  have hput : ((m.put 0x150200 (m.get 0x150200 + 1)).put 0x150100 (m.log.slots.length + 1)).RegsCanon :=
    (hcanon.put _ _).put _ _
  have hreg {k : Nat} (hk : k ≠ 0x150300) : (l.cleared holdUp [] true).get k =
      ((m.put 0x150200 (m.get 0x150200 + 1)).put 0x150100 (m.log.slots.length + 1)).get k := by
    rw [hcleared, hplace]
    exact LaneState.put_get_ne _ hk _
  have hlog' : (l.cleared holdUp [] true).log = { l.log with
      slots := [.record (m.numbered holdUp q)], clearing := false, clearMark := false, worn := [], failed := none
      ctl := l.log.ctl.map fun c => { c with lost := 0 } } := by
    rw [hcleared, hplace, LaneState.noLosses]
    simp only [LaneState.eachCopy, LaneState.put, hlog, List.nil_append]
  refine ⟨?_, ?_, ?_, ?_, ?_, ?_, ?_⟩
  · rw [hlog', ← hnext]
    refine ⟨_, rfl, ?_⟩
    rw [← hq]
    rfl
  · rw [hreg (by decide), LaneState.put_get_ne _ (by decide), LaneState.put_get_self _ _ _ hcanon, regWidth_log.2.1, hnext]
    exact Nat.mod_eq_of_lt (by omega)
  · rw [hreg (by decide), LaneState.put_get_self _ _ _ (hcanon.put _ _), regWidth_log.1, hlog]
    rfl
  · rw [hcleared, hplace]
    refine (LaneState.put_get_self _ _ _ (show tabCanon regDefault _ = true from hput)).trans ?_
    rw [regWidth_log.2.2.1]
    rfl
  · rw [hlog']
    rfl
  · rw [hlog']
  · rw [hlog']

theorem doClearDone_passes {s : State} {x : LaneId} (hclearing : (s.lane x).log.clearing = true) (hready : (s.lane x).ready = true) :
    doClearDone x [] true s =
      ((s.upd x fun l => l.cleared s.keeper.onHoldUp [] true).lower (.lane x) 105).lower (.lane x) 104 := by
  unfold doClearDone
  rw [if_neg (by simp [hclearing, hready])]
  exact if_pos (by decide)

/-- A restore of the time tags: the lane before it records that (R442). -/
def LaneState.tagged (l : LaneState) : LaneState :=
  { l.rewriteControl with log := { l.rewriteControl.log with tagsValid := true } }

/-- What a recorded event leaves of the control block: all of it but the count of lost events. -/
theorem LaneState.record_ctl (l : LaneState) (holdUp : Bool) (code : Nat) (data : List Byte) :
    (l.record holdUp code data).log.tagsValid = l.log.tagsValid ∧
      ∀ c ∈ (l.record holdUp code data).log.ctl, ∃ c' ∈ l.log.ctl, c.ok = c'.ok ∧ c.ms = c'.ms ∧ c.cycles = c'.cycles ∧ c.seq = c'.seq := by
  have hsame : ∀ c ∈ l.log.ctl, ∃ c' ∈ l.log.ctl, c.ok = c'.ok ∧ c.ms = c'.ms ∧ c.cycles = c'.cycles ∧ c.seq = c'.seq :=
    fun c hc => ⟨c, hc, rfl, rfl, rfl, rfl⟩
  have hlose : (l.lose code).log.tagsValid = l.log.tagsValid ∧
      ∀ c ∈ (l.lose code).log.ctl, ∃ c' ∈ l.log.ctl, c.ok = c'.ok ∧ c.ms = c'.ms ∧ c.cycles = c'.cycles ∧ c.seq = c'.seq := by
    unfold LaneState.lose
    split
    · exact ⟨rfl, hsame⟩
    · refine ⟨rfl, fun c hc => ?_⟩
      obtain ⟨c', hc', rfl⟩ := List.mem_map.mp hc
      exact ⟨c', hc', rfl, rfl, rfl, rfl⟩
  unfold LaneState.record
  split
  · exact ⟨rfl, hsame⟩
  · split
    · exact hlose
    · split
      · exact hlose
      · exact ⟨rfl, hsame⟩

/-- A lane that has lost an event for want of room in its queue (R437). -/
def LaneState.overflowed (l : LaneState) (code : Nat) : LaneState :=
  { l.lose code with log := { (l.lose code).log with overflow := true } }

theorem LaneState.overflowed_facts {l : LaneState} (h : l.RegsCanon) (hfailed : l.log.failed = none) (hlost : l.get 0x150300 < 1000)
    (code : BitVec 16) :
    (l.overflowed code.toNat).get 0x150300 = l.get 0x150300 + 1 ∧ (l.overflowed code.toNat).get 0x150301 = code.toNat ∧
      (l.overflowed code.toNat).log = { l.log with
        overflow := true, ctl := l.log.ctl.map fun c => { c with lost := l.get 0x150300 + 1 } } := by
  have hlose : l.lose code.toNat = ((l.put 0x150300 (l.get 0x150300 + 1)).put 0x150301 code.toNat).eachCopy
      (fun c => { c with lost := l.get 0x150300 + 1 }) := by
    have hsat : satInc 0xFFFFFFFF (l.get 0x150300) = l.get 0x150300 + 1 := if_pos (Nat.lt_trans hlost (by decide))
    rw [LaneState.lose, hfailed, if_neg (by decide)]
    simp only [hsat]
  rw [LaneState.overflowed, hlose]
  refine ⟨?_, ?_, rfl⟩
  · refine (LaneState.put_get_ne _ (by decide) _).trans ((LaneState.put_get_self _ _ _ h).trans ?_)
    rw [regWidth_log.2.2.1]
    exact Nat.mod_eq_of_lt (by omega)
  · refine (LaneState.put_get_self _ _ _ (LaneState.RegsCanon.put h _ _)).trans ?_
    rw [regWidth_log.2.2.2.1]
    exact Nat.mod_eq_of_lt code.isLt

theorem doTimeTagRestore_runs (s : State) (x : LaneId) :
    ((((s.upd x LaneState.tagged).record x 0x0065 ((s.upd x LaneState.tagged).lane x).unreconciledData).lower (.lane x) 106).answer 0) =
      ((s.upd x fun l => l.tagged.record s.keeper.onHoldUp 0x0065 (s.lane x).tagged.unreconciledData).lower (.lane x) 106).answer 0 := by
  cases x <;> rfl

/-- The last slot of a full log is bad where it cannot be verified (R434). -/
theorem LaneState.unclosed_facts (l : LaneState) : l.Logs l.unclosed ∧ l.Agrees NoLog l.unclosed ∧
    l.unclosed.log.failed = l.log.failed ∧ l.unclosed.log.finals = l.log.finals ∧
    l.unclosed.log.tagsValid = l.log.tagsValid ∧ (l.log.slots.length ≠ 131072 → l.unclosed = l) := by
  unfold LaneState.unclosed
  split
  case isTrue h =>
    exact ⟨(LaneState.Logs.self.withLog _).badSlot, LaneState.badSlot_agrees (.other .self rfl), rfl, rfl, rfl, fun hn => absurd h hn⟩
  case isFalse => exact ⟨.self, .self, rfl, rfl, rfl, fun _ => rfl⟩

/-- A recorder that has not failed, of a lane that collects faults, fails and tells its collector. -/
theorem State.failRecorder_fails {s : State} {x : LaneId} {cause : Nat} (hfailed : (s.lane x).log.failed = none)
    (hawake : (s.lane x).awake = true) (hstopped : (s.lane x).mode ≠ .stopped) (hquiet : Quiet s x 104)
    (hfinals : (s.lane x).log.finals = []) (htags : (s.lane x).log.tagsValid = true) :
    ((s.failRecorder x cause).lane x).log.failed = some cause ∧ ((s.failRecorder x cause).lane x).coll.inFault.testBit 104 = true ∧
      (∃ r : EventRec, ((s.failRecorder x cause).lane x).log.finals = [r] ∧ r.event.code = 0x0061) ∧
      ((s.failRecorder x cause).lane x).log.slots = (s.lane x).log.slots ∧
      (s.failRecorder x cause).lane x.peer = s.lane x.peer := by
  obtain ⟨slot, he⟩ : ∃ slot, s.failRecorder x cause =
      (s.upd x fun l => l.failRecorder s.keeper.onHoldUp cause slot).raiseLane x 104 :=
    ⟨_, if_neg (by simp [hfailed, hawake, hstopped])⟩
  have hown := s.upd_lane_self x fun l => l.failRecorder s.keeper.onHoldUp cause slot
  have hother := s.upd_lane_peer x fun l => l.failRecorder s.keeper.onHoldUp cause slot
  obtain ⟨hslots, hcause⟩ := (s.lane x).failRecorder_log s.keeper.onHoldUp cause slot
  have hfinal := LaneState.failRecorder_finals hfinals htags s.keeper.onHoldUp cause slot
  have hlogs := (LaneState.Logs.self (l := s.lane x)).failRecorder s.keeper.onHoldUp cause slot
  have hq : Quiet (s.upd x fun l => l.failRecorder s.keeper.onHoldUp cause slot) x 104 :=
    quiet_logs (f := fun l => l.failRecorder s.keeper.onHoldUp cause slot) (LaneState.failRecorder_agrees .self _ _ _) (by decide) hquiet
  rw [he]
  generalize s.upd x (fun l => l.failRecorder s.keeper.onHoldUp cause slot) = t at hown hother hq
  generalize (s.lane x).failRecorder s.keeper.onHoldUp cause slot = m at hown hslots hcause hfinal hlogs
  have hcol : t.collects (.lane x) = true := by
    simp only [State.collects, LaneState.awake, hown, hlogs.mode]
    simpa [LaneState.awake, hstopped] using hawake
  obtain ⟨hkslots, hkfailed, hkfinals⟩ := State.raiseLane_kept hq
  rw [hown] at hkslots hkfailed hkfinals
  rw [hkslots, hkfailed, hkfinals, State.raiseLane_inFault hq hcol (by cases x <;> decide)]
  exact ⟨hcause, testBit_withBit_self _ _ _, hfinal, hslots, (State.raiseLane_laneOnly hq).peer.trans hother⟩

/-- A recorder's memory that fails once: its cause, the source, the final record (R434). -/
theorem doRecorderMemoryFailed_fails {s : State} {x : LaneId} {cause : Byte} (hlow : 1 ≤ cause.toNat) (hhigh : cause.toNat ≤ 4)
    (hfailed : (s.lane x).log.failed = none) (hawake : (s.lane x).awake = true) (hstopped : (s.lane x).mode ≠ .stopped)
    (hquiet : Quiet s x 104) (hfinals : (s.lane x).log.finals = []) (htags : (s.lane x).log.tagsValid = true) :
    ((doRecorderMemoryFailed x cause s).lane x).log.failed = some cause.toNat ∧
      ((doRecorderMemoryFailed x cause s).lane x).coll.inFault.testBit 104 = true ∧
      (∃ r : EventRec, ((doRecorderMemoryFailed x cause s).lane x).log.finals = [r] ∧ r.event.code = 0x0061) ∧
      (¬ (cause.toNat = 4 ∧ (s.lane x).log.slots.length = 131072) →
        ((doRecorderMemoryFailed x cause s).lane x).log.slots = (s.lane x).log.slots) ∧
      (doRecorderMemoryFailed x cause s).lane x.peer = s.lane x.peer := by
  rw [doRecorderMemoryFailed, if_pos ⟨hlow, hhigh⟩]
  split
  case isTrue h =>
    obtain ⟨hlogs, hagrees, hfailed', hfinals', htags', hslots⟩ := (s.lane x).unclosed_facts
    have hown := s.upd_lane_self x LaneState.unclosed
    have hother := s.upd_lane_peer x LaneState.unclosed
    have hq : Quiet (s.upd x LaneState.unclosed) x 104 := quiet_logs (f := LaneState.unclosed) hagrees (by decide) hquiet
    generalize s.upd x LaneState.unclosed = t at hown hother hq
    obtain ⟨hcause, hfault, hfinal, hkept, hpeer⟩ := State.failRecorder_fails (s := t) (x := x) (cause := cause.toNat)
      (by rw [hown]; exact hfailed'.trans hfailed) (by rw [hown, LaneState.awake, hlogs.mode]; exact hawake)
      (by rw [hown, hlogs.mode]; exact hstopped) hq (by rw [hown]; exact hfinals'.trans hfinals)
      (by rw [hown]; exact htags'.trans htags)
    refine ⟨hcause, hfault, hfinal, fun hnot => ?_, hpeer.trans hother⟩
    rw [hkept, hown, hslots fun hfull => hnot ⟨h.1, hfull⟩]
  case isFalse h =>
    obtain ⟨hcause, hfault, hfinal, hkept, hpeer⟩ := State.failRecorder_fails (cause := cause.toNat) hfailed hawake hstopped hquiet
      hfinals htags
    exact ⟨hcause, hfault, hfinal, fun _ => hkept, hpeer⟩

/-- Settles O38: a slot is placed where it is sound, and what the recorder tells its collector writes no slot. -/
theorem recorder : Obligations.Recorder := by
  unfold Obligations.Recorder
  refine ⟨?_, ?_, ?_, ?_, ?_, ?_, ?_, ?_, ?_, ?_, ?_, ?_, ?_, ?_, ?_, ?_, ?_, ?_, ?_⟩
  · intro s x a b c later q rest hcanon hok hcan hscanned hclear hworn hqueue hroom hseq
    have hab : (a || b) = true := by simpa using hok
    have hfacts := LaneState.wrote_good (lane_regs_canon hcanon x) hcan.2.2.1 hworn hroom hseq s.keeper.onHoldUp c q rest later
    refine Leads.of_eq rfl (doRecordWrite_sound hcan hscanned hclear hworn hqueue (by rw [hab]; exact ⟨hfacts.1, hfacts.2.1⟩)) ?_
    rw [hab, if_pos rfl, State.upd_lane_self, State.upd_get_self, State.upd_get_self]
    obtain ⟨-, -, hslots, hrest, hnext, hcount, hcoll, hmode⟩ := hfacts
    exact ⟨hslots, hrest, hnext, hcount, hcoll, hmode, s.upd_lane_peer x _, s.upd_mreg x _⟩
  · intro s x c later q rest hcanon hcan hscanned hclear hworn hqueue hroom hlast hbad
    have hfacts := LaneState.wrote_bad (lane_regs_canon hcanon x) hcan.2.2.1 hworn hroom hlast hbad s.keeper.onHoldUp c q (q :: rest) later
    refine Leads.of_eq rfl (doRecordWrite_sound hcan hscanned hclear hworn hqueue ⟨hfacts.1, hfacts.2.1⟩) ?_
    rw [State.upd_lane_self, State.upd_get_self, State.upd_get_self]
    obtain ⟨-, -, hslots, hqueue', hcount, hnext⟩ := hfacts
    exact ⟨hslots, hqueue', hcount, hnext, s.upd_lane_peer x _⟩
  · intro s x later q rest hcan hscanned hclear hworn hqueue hlength h104 h105
    obtain ⟨hlength', hfour, -, h104', -, hpeer⟩ := doRecordWrite_last (closes := false) (later := later) hcan hscanned hclear hworn
      hqueue hlength (fun _ => h104) h105
    exact Leads.of_eq rfl rfl ⟨hlength', hfour rfl, h104' rfl, hpeer⟩
  · intro s x later q rest hcan hscanned hclear hworn hqueue hlength h105
    obtain ⟨hlength', -, hclosed, -, h105', hpeer⟩ := doRecordWrite_last (closes := true) (later := later) hcan hscanned hclear hworn
      hqueue hlength nofun h105
    exact Leads.of_eq rfl rfl ⟨hlength', by rw [Recorder.full, hlength']; rfl, hclosed rfl, h105', hpeer⟩
  · intro s x code hcanon hawake hstopped hfailed hqueue hlost hfull hresets
    have he : doEventLost x code s = s.upd x fun l => l.overflowed code.toNat := by
      unfold doEventLost
      dsimp only
      rw [if_neg (by simp [hawake, hstopped]), if_neg (by simp [hfailed, hfull, hresets]), if_pos hqueue]
      rfl
    obtain ⟨hcount, hcode, hlog⟩ := LaneState.overflowed_facts (lane_regs_canon hcanon x) hfailed hlost code
    refine Leads.of_eq rfl he ?_
    rw [State.upd_get_self, State.upd_get_self, State.upd_lane_self]
    exact ⟨hcount, hcode, hlog, s.upd_lane_peer x _⟩
  · intro s x code hcan
    obtain ⟨hawake, hstopped, hfailed, hfull, hresets, hqueue⟩ := hcan
    refine exec_next rfl ?_
    unfold doEventLost
    dsimp only
    rw [if_neg (by simp [hawake, hstopped]), if_neg ?_, if_neg (by omega)]
    rcases hfull with hfull | hclear
    · simp [hfailed, hfull, hresets]
    · simp [hclear, hresets]
  · intro s x cause hcanon hlow hhigh hfailed hawake hstopped hquiet hfinals htags
    obtain ⟨hcause, hfault, hfinal, hslots, hpeer⟩ := doRecorderMemoryFailed_fails hlow hhigh hfailed hawake hstopped hquiet hfinals htags
    refine Leads.of_eq rfl rfl ⟨hcause, hfault, hfinal, fun h => hslots ?_, hpeer⟩
    rintro ⟨hfour, hfull⟩
    exact h.elim (fun h => h (BitVec.eq_of_toNat_eq hfour)) (fun h => h hfull)
  · intro s x cause hfailed
    refine exec_next rfl ?_
    have hnot : ¬ (cause.toNat = 4 ∧ (s.lane x).log.failed = none ∧ (s.lane x).awake = true) := by
      rintro ⟨-, hnone, -⟩
      rw [hnone] at hfailed
      cases hfailed
    have hfails : s.failRecorder x cause.toNat = s := if_pos (by simp [hfailed])
    unfold doRecorderMemoryFailed
    rw [if_neg hnot, hfails]
    exact ite_self _
  · intro s x cause hhigh
    exact exec_next rfl (if_neg (by omega))
  · intro s x hawake
    exact exec_next rfl (if_pos hawake)
  · intro s x k hawake
    exact exec_next rfl (if_pos hawake)
  · exact fun l k j c hj hc => l.cutRewrite_copy k j c hj hc
  · intro r a b c hctl hok hb
    subst hb
    cases hc : c.ok <;> simp [Recorder.vote, hctl, hok, hc, majority]
  · intro s a x hr hshutdown hclear
    have hclearing : (s.lane x).log.clearing = false := by simp [Recorder.inClear] at hclear; exact hclear.1
    refine Leads.of_eq rfl ((State.through_of_reaches hr _).trans (State.command_runs hr (by simp [hshutdown, hclearing]) rfl)) ?_
    rw [State.answer_lane, State.upd_lane_self, State.answer_lane, State.upd_lane_peer]
    exact ⟨rfl, rfl, rfl, rfl, rfl, rfl, rfl⟩
  · intro s a x v hr hclearing
    exact exec_next rfl ((State.through_of_reaches hr _).trans (State.command_refused hr (by simp [hclearing])))
  · intro s a x v hr hshutdown hclear hv
    have hclearing : (s.lane x).log.clearing = false := by simp [Recorder.inClear] at hclear; exact hclear.1
    exact exec_next rfl ((State.through_of_reaches hr _).trans (State.command_range hr (by simp [hshutdown, hclearing]) (by simp [hv])))
  · intro s x hcanon hclearing hready hseq
    obtain ⟨hslots, hnext, hcount, hlost, hend, hfailed, hqueue⟩ :=
      LaneState.cleared_facts (lane_regs_canon hcanon x) hseq s.keeper.onHoldUp
    refine Leads.of_eq rfl (doClearDone_passes hclearing hready) ?_
    rw [State.lower_get, State.lower_get, State.lower_get, State.lower_get, State.lower_get, State.lower_get, State.lower_peer,
      State.lower_peer, State.upd_lane_peer, State.upd_get_self, State.upd_get_self, State.upd_get_self, State.lower_lane, State.lower_lane, State.upd_lane_self]
    refine ⟨hslots, hnext, hcount, hlost, hend, hfailed, hqueue, testBit_withBit_self _ _ _, ?_, rfl⟩
    exact (testBit_withBit_ne (by cases x <;> decide) _ _).trans (testBit_withBit_self _ _ _)
  · intro s a x hr htags
    obtain ⟨hvalid, hcopies⟩ := (s.lane x).tagged.record_ctl s.keeper.onHoldUp 0x0065 (s.lane x).tagged.unreconciledData
    refine Leads.of_eq rfl ((State.through_of_reaches hr _).trans ((State.command_runs hr (by simp [htags]) rfl).trans
      (doTimeTagRestore_runs s x))) ?_
    rw [State.answer_lane, State.answer_lane, State.lower_peer, State.lower_lane, State.upd_lane_self, State.upd_lane_peer]
    refine ⟨hvalid, fun c hc => ?_, testBit_withBit_self _ _ _, rfl, rfl⟩
    obtain ⟨c', hc', hok, hms, hcycles, hseq⟩ := hcopies c hc
    rw [hok, hms, hcycles, hseq, List.eq_of_mem_replicate hc']
    exact ⟨rfl, rfl, rfl, rfl⟩
  · intro s a x v hr htags
    exact exec_next rfl ((State.through_of_reaches hr _).trans (State.command_refused hr (by simp [htags])))

end Sys2Proof.Machine

namespace Sys2Proof.Machine

/-! ### Restore of defaults, and configuration images (O44) -/

/-- A fan out through a selector that names an available lane changes that lane (R473). -/
theorem State.fanOut_reached {s : State} {sel : Sel} {x : LaneId} (hsel : s.target sel = some x) (hx : s.available x = true)
    (f : LaneState → LaneState) : (s.fanOut sel f).lane x = f (s.lane x) := by
  cases sel with
  | lane y =>
    obtain rfl : y = x := Option.some.inj hsel
    exact s.upd_lane_self y f
  | acting =>
    have hreached : (s.lane x).reached = true := by
      simp only [State.available, Bool.and_eq_true] at hx
      simp only [LaneState.reached, Bool.and_eq_true]
      exact ⟨hx.1.2, hx.2⟩
    simp only [State.fanOut, State.fanOutEach, State.owes_lane]
    cases x
    · have hA : s.laneA.reached = true := hreached
      rw [if_pos hA]
      split <;> rfl
    · have hB : s.laneB.reached = true := hreached
      rw [if_pos hB]
      split <;> rfl

theorem State.fanOut_mreg (s : State) (sel : Sel) (f : LaneState → LaneState) : (s.fanOut sel f).mreg = s.mreg := by
  obtain ⟨a, b, o, h⟩ := s.fanOutEach_frame sel fun _ => f
  rw [State.fanOut, h]

theorem regWidth_conditions : regWidth 0x101002 = 8 := by decide +kernel

theorem doRestoreDefaults_marks {s : State} {a : Acc} {x : LaneId} (hr : Reaches s a 2 x) :
    doRestoreDefaults a 1 s = (s.fanOut a.sel fun l => l.put 0x101002 (withBit (l.get 0x101002) 1 true)).answer 0 :=
  State.command_runs hr rfl rfl

/-- The registers that an image which is refused changes at its lane: what counts lost events, and the reaction of
source 27. -/
def NoRefusal (k : Nat) : Prop := k ≠ 0x150300 ∧ k ≠ 0x150301 ∧ k ≠ 0x150C02 ∧ k ≠ 0x142B03

theorem State.imageDone_refuses {s : State} {x : LaneId} {o : Answer} (h0 : o.code ≠ 0) (hst : o.code ≠ abState) (img : List Byte) :
    s.imageDone x o img = (s.record x 0x0041 (imageData o.code img)).raiseLane x 27 := by
  simp only [State.imageDone, if_neg h0, if_neg hst, State.follow, decide_eq_true h0, if_true]

/-- An image that is refused at lane x is recorded there, and its source reacts (R490). -/
theorem State.imageDone_reacts {s : State} {x : LaneId} {o : Answer} (h0 : o.code ≠ 0) (hst : o.code ≠ abState)
    (hq : Quiet s x 27) (img : List Byte) : s.Reacts NoRefusal x (s.imageDone x o img) ∧
      (s.collects (.lane x) = true → ((s.imageDone x o img).lane x).coll.inFault.testBit 27 = true) := by
  have hrec := (State.Reacts.self (A := NoRefusal) (x := x) (s := s)).record (fun k hk => ⟨hk.1, hk.2.1, hk.2.2.1⟩) 0x0041
    (imageData o.code img)
  have hq' := quiet_record (by decide) hq 0x0041 (imageData o.code img)
  rw [State.imageDone_refuses h0 hst]
  refine ⟨hrec.raiseLane hq' fun k hk => ⟨hk.2.2.2, hk.1, hk.2.1, hk.2.2.1⟩, fun hcol => ?_⟩
  have hmode := hrec.lane.mode
  have hcol' : (s.record x 0x0041 (imageData o.code img)).collects (.lane x) = true := by
    simp only [State.collects, LaneState.awake, hmode] at hcol ⊢
    exact hcol
  rw [State.raiseLane_inFault hq' hcol' (by cases x <;> decide)]
  exact testBit_withBit_self _ _ _

/-- What lanes keep that refuse an image one after the other. -/
def State.Refuses (s t : State) : Prop :=
  t.sec = s.sec ∧ t.mreg = s.mreg ∧ ∀ y, (s.lane y).Reacts (t.lane y) ∧ (s.lane y).Agrees NoRefusal (t.lane y)

theorem State.Reacts.refuses {x : LaneId} {s t : State} (h : s.Reacts NoRefusal x t) : s.Refuses t := by
  refine ⟨h.only.sec, h.only.mreg, fun y => ?_⟩
  by_cases hy : y = x
  · subst hy
    exact ⟨h.lane, h.agrees.1⟩
  · rw [eq_peer_of_ne x y hy, h.only.peer]
    exact ⟨.self, .self⟩

theorem State.Refuses.trans {s t u : State} (h : s.Refuses t) (h' : t.Refuses u) : s.Refuses u :=
  ⟨h'.1.trans h.1, h'.2.1.trans h.2.1, fun y => ⟨(h.2.2 y).1.trans (h'.2.2 y).1, (h.2.2 y).2.trans (h'.2.2 y).2⟩⟩

theorem State.Refuses.quiet {s t : State} (h : s.Refuses t) {y : LaneId} (hq : Quiet s y 27) : Quiet t y 27 := by
  have hget (k : Nat) (hk : NoRefusal k) : t.get y k = s.get y k := (h.2.2 y).2 k hk
  exact ⟨(hget _ (by unfold NoRefusal; decide)).trans_le hq.1, (hget _ (by unfold NoRefusal; decide)).trans_le hq.2⟩

theorem State.Refuses.collects {s t : State} (h : s.Refuses t) {y : LaneId} (hc : s.collects (.lane y) = true) :
    t.collects (.lane y) = true := by
  have hmode := (h.2.2 y).1.mode
  simp only [State.collects, LaneState.awake, hmode] at hc ⊢
  exact hc

/-- Lanes that refuse an image have source 27 in fault. -/
theorem State.foldl_imageDone_refuses {o : LaneId → Answer} {img : List Byte} (xs : List LaneId) (hnodup : xs.Nodup)
    (ho : ∀ y ∈ xs, (o y).code ≠ 0 ∧ (o y).code ≠ abState) {s : State} (hq : ∀ y, Quiet s y 27) :
    s.Refuses (xs.foldl (fun t y => t.imageDone y (o y) img) s) ∧ ∀ y,
      (y ∈ xs → s.collects (.lane y) = true →
        ((xs.foldl (fun t y => t.imageDone y (o y) img) s).lane y).coll.inFault.testBit 27 = true) ∧
      (y ∉ xs → (xs.foldl (fun t y => t.imageDone y (o y) img) s).lane y = s.lane y) := by
  induction xs generalizing s with
  | nil => exact ⟨⟨rfl, rfl, fun y => ⟨.self, .self⟩⟩, fun y => ⟨fun h => absurd h List.not_mem_nil, fun _ => rfl⟩⟩
  | cons y ys ih =>
    obtain ⟨hy, hys⟩ := List.nodup_cons.mp hnodup
    obtain ⟨h0, hst⟩ := ho y List.mem_cons_self
    obtain ⟨hreacts, hfault⟩ := State.imageDone_reacts h0 hst (hq y) img
    have hone := hreacts.refuses
    obtain ⟨hrest, hin⟩ := ih hys (fun z hz => ho z (List.mem_cons_of_mem _ hz)) fun z => hone.quiet (hq z)
    refine ⟨hone.trans hrest, fun z => ⟨fun hz hc => ?_, fun hz => ?_⟩⟩
    · rcases List.mem_cons.mp hz with rfl | hlater
      · rw [List.foldl_cons, (hin z).2 hy]
        exact hfault hc
      · exact (hin z).1 hlater (hone.collects hc)
    · have hne : z ≠ y := fun h => hz (h ▸ List.mem_cons_self)
      rw [List.foldl_cons, (hin z).2 fun h => hz (List.mem_cons_of_mem _ h), eq_peer_of_ne y z hne]
      exact hreacts.only.peer

/-- An image that every lane it reaches refuses changes there what a refusal changes. -/
theorem State.applyImage_refuses {s : State} {x : LaneId} {xs : List LaneId} {img : List Byte} (hc : s.imageCheck x img ≠ 0)
    (hxs : xs.Nodup) (ho : ∀ y ∈ xs, (s.imageOutcome y img).ans.code ≠ 0 ∧ (s.imageOutcome y img).ans.code ≠ abState)
    (hq : ∀ y, Quiet s y 27) : (s.applyImage x xs img).ans = ⟨s.imageCheck x img, 0, []⟩ ∧ s.Refuses (s.applyImage x xs img) ∧
      ∀ y ∈ xs, s.collects (.lane y) = true → ((s.applyImage x xs img).lane y).coll.inFault.testBit 27 = true := by
  have hans : (s.imageOutcome x img).ans.code = s.imageCheck x img := by
    rw [State.imageOutcome_of_check rfl hc, State.abort_ans]
  have hnone : xs.filter (fun y => decide ((s.imageOutcome y img).ans.code = 0)) = [] :=
    List.filter_eq_nil_iff.mpr fun y hy => by simp [(ho y hy).1]
  obtain ⟨⟨hsec, hmreg, hlanes⟩, hin⟩ := State.foldl_imageDone_refuses (o := fun y => (s.imageOutcome y img).ans) (img := img) xs hxs ho hq
  simp only [State.applyImage, hnone, State.takeImage_nil, hans, if_neg hc]
  generalize xs.foldl (fun t y => t.imageDone y (s.imageOutcome y img).ans img) s = t at hsec hmreg hlanes hin
  refine ⟨rfl, ⟨hsec, hmreg, fun y => ?_⟩, fun y hy hcol => ?_⟩
  · rw [State.abort_lane]
    exact hlanes y
  · rw [State.abort_lane]
    exact (hin y).1 hy hcol

theorem LaneState.Reacts.field {l m : LaneState} (h : l.Reacts m) : m.field = l.field ∧ m.flow = l.flow := by
  obtain ⟨_, _, _, rfl⟩ := h
  exact ⟨rfl, rfl⟩

/-- A valid image's outcome at lane x: its label, and source 27 lowered there alone. -/
theorem State.imageDone_taken {s : State} {x : LaneId} {o : Answer} (ho : o.code = 0) (img : List Byte) :
    (s.imageDone x o img).sec.label = slice img 32 16 ∧ ((s.imageDone x o img).lane x).coll.inFault.testBit 27 = false ∧
      (s.imageDone x o img).lane x.peer = s.lane x.peer := by
  rw [State.imageDone_valid ho]
  refine ⟨?_, ?_, ?_⟩
  · cases x <;> rfl
  · rw [State.lower_lane]
    exact testBit_withBit_self _ _ _
  · rw [State.lower_peer, State.record, State.upd_lane_peer]
    cases x <;> rfl

/-- Lanes that take a valid image have source 27 out of fault, and the module has the image's label. -/
theorem State.foldl_imageDone_taken {o : LaneId → Answer} {img : List Byte} (xs : List LaneId) (ho : ∀ y ∈ xs, (o y).code = 0)
    (s : State) : (xs ≠ [] → (xs.foldl (fun t y => t.imageDone y (o y) img) s).sec.label = slice img 32 16) ∧
      ∀ z, z ∈ xs ∨ (s.lane z).coll.inFault.testBit 27 = false →
        ((xs.foldl (fun t y => t.imageDone y (o y) img) s).lane z).coll.inFault.testBit 27 = false := by
  induction xs generalizing s with
  | nil => exact ⟨fun h => absurd rfl h, fun z h => h.resolve_left List.not_mem_nil⟩
  | cons y ys ih =>
    obtain ⟨hlabel, hown, hpeer⟩ := State.imageDone_taken (s := s) (x := y) (ho y List.mem_cons_self) img
    obtain ⟨hlast, hin⟩ := ih (fun z hz => ho z (List.mem_cons_of_mem y hz)) (s.imageDone y (o y) img)
    constructor
    · intro _
      cases ys with
      | nil => exact hlabel
      | cons z zs => exact hlast (List.cons_ne_nil z zs)
    · intro z hz
      refine hin z ?_
      by_cases hy : z = y
      · subst hy
        exact .inr hown
      · refine hz.imp (fun h => (List.mem_cons.mp h).resolve_left hy) fun h => ?_
        rw [eq_peer_of_ne y z hy] at h ⊢
        rw [hpeer]
        exact h

/-- A selector that reaches a lane names it among those that an image reaches. -/
theorem State.mem_imageLanes {s : State} {a : Acc} {role : Nat} {x : LaneId} (hr : Reaches s a role x) : x ∈ s.imageLanes a.sel := by
  obtain ⟨hsel, havailable, -⟩ := hr
  unfold State.imageLanes
  cases hs : a.sel with
  | lane y =>
    rw [hs] at hsel
    exact List.mem_singleton.mpr (Option.some.inj hsel).symm
  | acting => exact List.mem_filter.mpr ⟨by cases x <;> decide, havailable⟩

/-- A valid image leaves its label, and source 27 out of fault at the lanes that it reaches. -/
theorem State.applyImage_taken {s : State} {x : LaneId} {xs : List LaneId} {img : List Byte}
    (hvalid : ∀ y ∈ x :: xs, (s.imageOutcome y img).ans.code = 0) (hx : x ∈ xs) :
    (s.applyImage x xs img).sec.label = slice img 32 16 ∧
      ∀ y ∈ xs, ((s.applyImage x xs img).lane y).coll.inFault.testBit 27 = false := by
  simp only [State.applyImage, if_pos (hvalid x List.mem_cons_self)]
  obtain ⟨hlabel, hlowered⟩ := State.foldl_imageDone_taken (o := fun y => (s.imageOutcome y img).ans) (img := img) xs
    (fun y hy => hvalid y (List.mem_cons_of_mem x hy))
    (s.takeImage (xs.filter fun y => decide ((s.imageOutcome y img).ans.code = 0)) img)
  refine ⟨hlabel (List.ne_nil_of_mem hx), fun y hy => ?_⟩
  rw [State.answer_lane]
  exact hlowered y (.inl hy)

theorem State.supersede_lane (s : State) (x : LaneId) (img : List Byte) (y : LaneId) : (s.supersede x img).lane y = s.lane y := by
  cases y <;> rfl

/-- Settles O44: a command at a lane that its selector reaches, and an image's outcome lane by lane. -/
theorem configuration : Obligations.Configuration := by
  unfold Obligations.Configuration
  refine ⟨?_, ?_, ?_, ?_, ?_, ?_, ?_, ?_, ?_, ?_⟩
  · intro s a x hcanon hr
    have hlane := State.fanOut_reached hr.1 hr.2.1 fun l => l.put 0x101002 (withBit (l.get 0x101002) 1 true)
    have hget (k : Nat) : ((s.fanOut a.sel fun l => l.put 0x101002 (withBit (l.get 0x101002) 1 true)).answer 0).get x k =
        ((s.lane x).put 0x101002 (withBit ((s.lane x).get 0x101002) 1 true)).get k := by
      rw [State.answer_get, State.get, hlane]
    refine Leads.of_eq rfl ((State.through_of_reaches hr _).trans (doRestoreDefaults_marks hr)) ⟨?_, rfl, fun k hk => ?_, ?_⟩
    · rw [hget, LaneState.put_get_self _ _ _ (lane_regs_canon hcanon x), regWidth_conditions, bitAt, Nat.testBit_mod_two_pow]
      exact testBit_withBit_self _ _ _
    · exact (hget k).trans (LaneState.put_get_ne _ hk _)
    · exact s.fanOut_mreg a.sel _
  · intro s a x v hr hv
    exact exec_next rfl ((State.through_of_reaches hr _).trans (State.command_range hr rfl (by simp [hv])))
  · intro s a x d hr hlength hroom
    refine exec_next rfl ((State.through_of_reaches hr _).trans ((State.command_runs hr rfl rfl).trans ?_))
    dsimp only
    rw [if_neg (by omega), if_neg (by omega)]
    rfl
  · intro s a x d hr hlength
    exact exec_next rfl ((State.through_of_reaches hr _).trans ((State.command_runs hr rfl rfl).trans (if_pos hlength)))
  · intro s a x n hr hrolling
    exact exec_next rfl ((State.through_of_reaches hr _).trans (State.command_refused hr (by simp [hrolling])))
  · intro s a x n hcanon hr hrolling hmin hmax hcheck ho hst hA hB
    obtain ⟨hans, ⟨hsec, hmreg, hlanes⟩, hfault⟩ := State.applyImage_refuses hcheck (s.imageLanes_nodup a.sel)
      (fun y hy => ⟨ho y hy, hst y hy⟩) (fun y => by cases y <;> assumption)
    have hcode : (s.applyImage x (s.imageLanes a.sel) (s.sec.staged n.toNat)).ans.code ≠ 0 := by rwa [hans]
    refine ⟨_, exec_applyConfiguration hr hrolling hmin hmax, ?_⟩
    simp only [hcode, false_and, if_false]
    refine ⟨hans, hsec, hmreg, fun y => ?_, hfault⟩
    obtain ⟨hreacts, hagrees⟩ := hlanes y
    exact ⟨hreacts.mode, hreacts.field.1, hreacts.field.2, fun k h1 h2 h3 h4 => hagrees k ⟨h1, h2, h3, h4⟩⟩
  · intro s a x n hcanon hr hrolling hmin hmax hvalid
    obtain ⟨hans, hcounter⟩ := State.applyImage_valid (.of_canon hcanon) hvalid
    obtain ⟨hlabel, hlowered⟩ := State.applyImage_taken hvalid (State.mem_imageLanes hr)
    have hwidth : numAt (s.sec.staged n.toNat) 16 4 % 2 ^ 32 = numAt (s.sec.staged n.toNat) 16 4 :=
      Nat.mod_eq_of_lt ((numAt_lt _ 16 4).trans_eq (by decide))
    refine ⟨_, exec_applyConfiguration hr hrolling hmin hmax, ?_⟩
    dsimp only
    generalize s.applyImage x (s.imageLanes a.sel) (s.sec.staged n.toNat) = t at hans hcounter hlabel hlowered
    split
    · refine ⟨hans, hlabel, fun y hy => ⟨?_, ?_⟩⟩
      · exact (State.supersede_get _ _ _ y _).trans ((State.updSec_get ..).trans ((hcounter y hy).trans hwidth.symm))
      · rw [State.supersede_lane, State.updSec_lane]
        exact hlowered y hy
    · exact ⟨hans, hlabel, fun y hy => ⟨(hcounter y hy).trans hwidth.symm, hlowered y hy⟩⟩
  · intro s x img hform
    simp [State.imageCheck, hform]
    rfl
  · intro s x img hform hkey
    simp only [State.imageCheck, hform, hkey]
    rfl
  · intro s x img hcheck
    by_contra hold
    refine absurd hcheck ?_
    unfold State.imageCheck
    extract_lets k n
    rw [if_pos (Nat.lt_of_not_le hold)]
    split_ifs <;> decide

end Sys2Proof.Machine

namespace Sys2Proof.Machine

/-! ### A write through the dictionary (O43) -/

/-- The row of the sources' levels, entries 1410h to 148Fh:01h. -/
def levelRow : Row := ⟨0x1410, 0x148f, 1, 1, .u8, .rw, 0, 2, .lane, true, true, 0, 5, 0, 0, false⟩

/-- The row of the interrupt enables, entry 5900h:04h. -/
def enableRow : Row := ⟨0x5900, 0x5900, 4, 4, .u32, .rw, 0, 1, .module, false, true, 0, 0xffffffff, 0xfffffc00, 0, false⟩

theorem lookupRow_written : (∀ n : Fin 128, lookupRow (0x1410 + n.val) 1 = some levelRow ∧ regWidth (key (0x1410 + n.val) 1) = 8) ∧
    lookupRow 0x5900 4 = some enableRow := by decide +kernel

theorem lookupRow_level {n : Nat} (hn : n < 128) : lookupRow (0x1410 + n) 1 = some levelRow := (lookupRow_written.1 ⟨n, hn⟩).1

theorem regWidth_level {n : Nat} (hn : n < 128) : regWidth (key (0x1410 + n) 1) = 8 := (lookupRow_written.1 ⟨n, hn⟩).2

/-- A code that goes before the range check stands whatever the value (R472). -/
theorem State.dictWrite_abort {s : State} {a : Acc} {index sub code : Nat} (h : ∀ v, s.typedWrite a index sub v = s.abort code)
    (hcode : beforeRange code = true) (v : Nat) : s.dictWrite a index sub v = s.abort code := by
  unfold State.dictWrite
  dsimp only
  split
  · exact h v
  · rw [h, State.outOfRange, State.abort_ans, if_pos hcode]

theorem exec_registerWrite {s : State} {a : Acc} {i : BitVec 16} {u : Byte} {v : BitVec 64} {t : State}
    (hon : a.path = .host → s.hostOn = true) (h : s.dictWrite a i.toNat u.toNat v.toNat = t) :
    exec (.registerWrite a i u v) s = .next t :=
  exec_next rfl ((State.through_of_on hon _).trans h)

/-- An entry other than the one of the firmware's chunks. -/
theorem index_ne {i : BitVec 16} (h : i ≠ 0x1104) : i.toNat ≠ 0x1104 := fun hi => h (BitVec.eq_of_toNat_eq hi)

theorem State.typedWrite_range {s : State} {a : Acc} {x : LaneId} {r : Row} {index sub v : Nat} (hrow : lookupRow index sub = some r)
    (hindex : index ≠ 0x1104) (hreach : s.reach r a.sel = some x) (hkind : r.kind = .rw) (hrole : r.role ≤ s.role a.path)
    (htype : r.ty ≠ .octets) (hsession : r.isSession = false) : s.typedWrite a index sub v = s.rwWrite a x r index sub v := by
  unfold State.typedWrite
  rw [hrow]
  dsimp only
  rw [if_neg hindex, hreach]
  dsimp only
  rw [if_neg (by rw [hkind]; decide), if_neg (by omega), if_neg (by rw [hkind]; decide), if_neg htype, hsession,
    if_neg Bool.false_ne_true]

/-- A write of an entry that no function of the model takes over: its range, then its effect. -/
theorem State.rwWrite_plain {s : State} {a : Acc} {x : LaneId} {r : Row} {index sub v : Nat} (hmay : s.mayWrite a r index sub v = true)
    (hsession : ¬ (0x3800 ≤ index ∧ index ≤ 0x380F)) (hown : s.ownWrite a index sub v = none)
    (hwritable : s.writable x index sub v = true) : s.rwWrite a x r index sub v =
      if v < r.min ∨ r.max < v ∨ v &&& r.resv ≠ 0 ∨ s.valueOk a x index sub v = false then s.abort abRange
      else (s.writeEffect a x r index sub v).answer 0 := by
  unfold State.rwWrite
  rw [if_neg (by rw [hmay]; decide), if_neg hsession, hown]
  dsimp only
  rw [hwritable, Bool.not_true, if_neg Bool.false_ne_true]

theorem State.reach_level {s : State} {a : Acc} {role : Nat} {x : LaneId} (hr : Reaches s a role x) : s.reach levelRow a.sel = some x := by
  obtain ⟨hsel, havailable, -⟩ := hr
  simp [State.reach, levelRow, Row.isSession, hsel, havailable]

theorem State.ownWrite_level (s : State) (a : Acc) {n : Nat} (hn : n < 128) (v : Nat) : s.ownWrite a (0x1410 + n) 1 v = none := by
  unfold State.ownWrite
  repeat rw [if_neg (by omega)]

theorem State.writable_level (s : State) (x : LaneId) {n : Nat} (hn : n < 128) (v : Nat) : s.writable x (0x1410 + n) 1 v = true := by
  unfold State.writable
  rw [if_neg (by omega), if_neg (by omega), if_neg (by omega)]

theorem State.valueOk_level {s : State} {a : Acc} {x : LaneId} {n v : Nat} (hn : n < 128) :
    s.valueOk a x (0x1410 + n) 1 v = s.sourceValueOk x n 1 v := by
  unfold State.valueOk
  rw [if_pos (by omega), Nat.add_sub_cancel_left]

theorem State.sourceValueOk_eq {s : State} {x : LaneId} {n : Nat} {r : Source} (hn : n < 128) (hrow : sourceRow n = some r) (v : Nat) :
    s.sourceValueOk x n 1 v = (decide (r.lo ≤ v ∧ v ≤ r.hi) && decide (v ≤ s.sourceCeiling (.lane x) n)) := by
  unfold State.sourceValueOk
  rw [hrow]
  dsimp only
  rw [if_pos rfl, if_pos hn]

/-- The Pattern's entries lie from 4408h on. -/
theorem patternKey_low {k : Nat} (hk : k < 0x440000) : patternKey k = false := by
  have hindex : k / 256 < 0x4400 := by omega
  simp only [patternKey, Bool.or_eq_false_iff, Bool.and_eq_false_iff, decide_eq_false_iff_not]
  omega

theorem State.writeEffect_level {s : State} {a : Acc} {x : LaneId} {n v : Nat} (hn : n < 128) :
    s.writeEffect a x levelRow (0x1410 + n) 1 v =
      s.peerRefuses (s.fanOut a.sel fun l => l.put (key (0x1410 + n) 1) v) a x (0x1410 + n) 1 v := by
  have hpattern : patternKey (key (0x1410 + n) 1) = false := patternKey_low (by unfold key; omega)
  unfold State.writeEffect
  rw [if_neg (by omega), if_neg (by omega), if_neg (by omega), if_neg (by omega), if_neg (by omega), hpattern,
    if_neg Bool.false_ne_true, if_neg (by omega), if_neg (by omega), if_neg (by omega), if_neg (by omega)]
  rfl

/-- A write of a source's level runs to its range check. -/
theorem State.dictWrite_level {s : State} {a : Acc} {x : LaneId} {n v : Nat} (hr : Reaches s a 2 x) (hn : n < 128) :
    s.dictWrite a (0x1410 + n) 1 v = if v < 256 then
        (if v < 0 ∨ 5 < v ∨ v &&& 0 ≠ 0 ∨ s.sourceValueOk x n 1 v = false then s.abort abRange
          else (s.writeEffect a x levelRow (0x1410 + n) 1 v).answer 0)
      else s.outOfRange (s.typedWrite a (0x1410 + n) 1 (v % 256)) := by
  have hbits : valueBits (0x1410 + n) 1 = 8 := by
    rw [valueBits, lookupRow_level hn]
    rfl
  have hmay : s.mayWrite a levelRow (0x1410 + n) 1 v = true := by
    have hrole : levelRow.role ≤ s.role a.path := hr.2.2.1
    have hkey : key (0x1410 + n) 1 ≠ 0x590001 := by
      unfold key
      omega
    have hnot : ¬ (0x4500 ≤ 0x1410 + n ∧ 0x1410 + n ≤ 0x451F ∧ True) := by omega
    simp only [State.mayWrite, Bool.and_eq_true, Bool.or_eq_true]
    exact ⟨⟨decide_eq_true hrole, .inl (decide_eq_true hkey)⟩, .inl (by rw [decide_eq_false hnot]; rfl)⟩
  rw [State.dictWrite, hbits, State.typedWrite_range (lookupRow_level hn) (by omega) (State.reach_level hr) rfl hr.2.2.1 nofun rfl,
    State.rwWrite_plain hmay (by omega) (s.ownWrite_level a hn v) (s.writable_level x hn v), State.valueOk_level hn]
  rfl

theorem toNat_levelIndex {n : Nat} (hn : n < 128) : (BitVec.ofNat 16 (0x1410 + n)).toNat = 0x1410 + n := by
  rw [BitVec.toNat_ofNat]
  omega

/-- A write of the interrupt enables, of a value in its range (R385). -/
theorem State.dictWrite_enable {s : State} {a : Acc} {v : Nat} (hr : ReachesModule s a 1) (hv : v < 1024) :
    s.dictWrite a 0x5900 4 v = (s.mput 0x590004 v).answer 0 := by
  obtain ⟨hawake, hrole, -⟩ := hr
  have hbits : valueBits 0x5900 4 = 32 := by
    rw [valueBits, lookupRow_written.2]
    rfl
  have hreach : s.reach enableRow a.sel = some (s.holder.getD .A) := by simp [State.reach, enableRow, hawake]
  have hmay : s.mayWrite a enableRow 0x5900 4 v = true := by
    simp only [State.mayWrite, show enableRow.role ≤ s.role a.path from hrole, Bool.and_eq_true]
    exact ⟨⟨decide_eq_true trivial, rfl⟩, rfl⟩
  have hreserved : v &&& 0xfffffc00 = 0 := by
    refine Nat.eq_of_testBit_eq fun i => ?_
    rw [Nat.testBit_and, Nat.zero_testBit]
    by_cases hi : i < 10
    · have hlow : ∀ i < 10, Nat.testBit 0xfffffc00 i = false := by decide
      rw [hlow i hi, Bool.and_false]
    · rw [Nat.testBit_eq_false_of_lt (hv.trans_le (Nat.pow_le_pow_right (n := 2) (by decide) (Nat.le_of_not_lt hi))), Bool.false_and]
  have hvalue : s.valueOk a (s.holder.getD .A) 0x5900 4 v = true := rfl
  have heffect : s.writeEffect a (s.holder.getD .A) enableRow 0x5900 4 v = s.mput 0x590004 v := rfl
  rw [State.dictWrite, hbits, if_pos (by omega), State.typedWrite_range lookupRow_written.2 (by decide) hreach rfl hrole nofun rfl,
    State.rwWrite_plain hmay (by decide) rfl rfl, hvalue, heffect]
  exact if_neg (by
    rintro (h | h | h | h)
    · exact absurd h (Nat.not_lt_zero v)
    · have hmax : 0xffffffff < v := h
      omega
    · exact h hreserved
    · cases h)

/-- A write that the peer takes or refuses is the named lane's own. -/
theorem State.peerRefuses_lane (s t : State) (a : Acc) (x : LaneId) (index sub v : Nat) :
    (s.peerRefuses t a x index sub v).lane x = t.lane x ∧
      ((s.peerRefuses t a x index sub v).lane x.peer = t.lane x.peer ∨
        a.sel = .acting ∧ (s.peerRefuses t a x index sub v).lane x.peer = s.lane x.peer) := by
  unfold State.peerRefuses
  dsimp only
  split
  case isTrue h => exact ⟨by cases x <;> rfl, .inr ⟨h.1, by cases x <;> rfl⟩⟩
  case isFalse => exact ⟨rfl, .inl rfl⟩

/-- Settles O43: the checks of an access come in the order of R472, and a value in its range reaches the named lanes. -/
theorem registerWrite : Obligations.RegisterWrite := by
  unfold Obligations.RegisterWrite
  refine ⟨?_, ?_, ?_, ?_, ?_, ?_, ?_⟩
  · intro s a i u v hrow hon
    refine exec_registerWrite hon (State.dictWrite_abort (fun v => ?_) (by decide) _)
    rw [State.typedWrite, hrow]
    rfl
  · intro s a i u v r hrow hindex hreach hon
    refine exec_registerWrite hon (State.dictWrite_abort (fun v => ?_) (by decide) _)
    rw [State.typedWrite, hrow]
    dsimp only
    rw [if_neg (index_ne hindex), hreach]
    rfl
  · intro s a i u v r x hrow hindex hreach hkind hrole hon
    refine exec_registerWrite hon (State.dictWrite_abort (fun v => ?_) (by decide) _)
    rw [State.typedWrite, hrow]
    dsimp only
    rw [if_neg (index_ne hindex), hreach]
    dsimp only
    rw [if_neg hkind, if_pos hrole]
    rfl
  · intro s a i u v r x hrow hindex hreach hkind hrole hon
    refine exec_registerWrite hon (State.dictWrite_abort (fun v => ?_) (by decide) _)
    rw [State.typedWrite, hrow]
    dsimp only
    rw [if_neg (index_ne hindex), hreach]
    dsimp only
    rw [if_neg (by rw [hkind]; decide), if_neg (by omega), if_pos hkind]
    rfl
  · intro s a x n r v hcanon hr hacting hn hrow hlo hhi hfive hceiling
    have hput (l : LaneState) {k : Nat} (hk : k ≠ key (0x1410 + n) 1) : (l.put (key (0x1410 + n) 1) v.toNat).get k = l.get k :=
      LaneState.put_get_ne _ hk _
    have hok : s.sourceValueOk x n 1 v.toNat = true := by
      rw [State.sourceValueOk_eq hn hrow]
      simp [hlo, hhi, hceiling]
    have he : s.dictWrite a (0x1410 + n) 1 v.toNat =
        (s.peerRefuses (s.fanOut a.sel fun l => l.put (key (0x1410 + n) 1) v.toNat) a x (0x1410 + n) 1 v.toNat).answer 0 := by
      rw [State.dictWrite_level hr hn, if_pos (by omega), if_neg (by rw [hok]; simp; omega), State.writeEffect_level hn]
    have hown := State.fanOut_reached hr.1 hr.2.1 fun l => l.put (key (0x1410 + n) 1) v.toNat
    obtain ⟨hself, hpeer⟩ := s.peerRefuses_lane (s.fanOut a.sel fun l => l.put (key (0x1410 + n) 1) v.toNat) a x (0x1410 + n) 1 v.toNat
    rw [hown] at hself
    refine ⟨_, exec_registerWrite hr.2.2.2 ((congrArg (s.dictWrite a · 1 v.toNat) (toNat_levelIndex hn)).trans he), ?_⟩
    generalize s.peerRefuses (s.fanOut a.sel fun l => l.put (key (0x1410 + n) 1) v.toNat) a x (0x1410 + n) 1 v.toNat = t
      at hself hpeer
    refine ⟨?_, rfl, fun k hk => ⟨?_, ?_⟩, fun hlane => ?_⟩
    · refine (congrArg (LaneState.get · _) hself).trans ((LaneState.put_get_self _ _ _ (lane_regs_canon hcanon x)).trans ?_)
      rw [regWidth_level hn]
      exact Nat.mod_eq_of_lt (by omega)
    · exact (congrArg (LaneState.get · k) hself).trans (hput _ hk)
    · rcases hpeer with hpeer | ⟨-, hpeer⟩
      · refine (congrArg (LaneState.get · k) hpeer).trans ?_
        rcases s.fanOut_lane a.sel (fun l => l.put (key (0x1410 + n) 1) v.toNat) x.peer with h | h
        · rw [h]
          exact hput _ hk
        · rw [h]
          rfl
      · exact congrArg (LaneState.get · k) hpeer
    · rcases hpeer with hpeer | ⟨hacts, -⟩
      · refine hpeer.trans ?_
        rw [hlane]
        exact s.upd_lane_peer x _
      · rw [hlane] at hacts
        cases hacts
  · intro s a x n v hr hn hrow hbyte hceiling
    obtain ⟨r, hrow⟩ := Option.isSome_iff_exists.mp hrow
    have hnot : s.sourceValueOk x n 1 v.toNat = false := by
      rw [State.sourceValueOk_eq hn hrow]
      simp [hceiling]
    refine exec_registerWrite hr.2.2.2 ?_
    rw [toNat_levelIndex hn]
    exact (State.dictWrite_level hr hn).trans ((if_pos hbyte).trans (if_pos (by simp [hnot])))
  · intro s a v hr hv
    exact exec_registerWrite hr.2.2 (State.dictWrite_enable hr hv)

end Sys2Proof.Machine

namespace Sys2Proof.Machine

/-! ### Flow contexts, the Wave and delivery (O23) -/

/-! #### Tables of contexts -/

/-- Two changes of one entry are one, whatever the order of the table. -/
theorem changeAt_changeAt {α : Type} (d : α) (n : Nat) (f g : α → α) (t : List (Nat × α)) :
    changeAt d n g (changeAt d n f t) = changeAt d n (fun v => g (f v)) t := by
  induction t with
  | nil => simp [changeAt]
  | cons e t ih =>
    obtain ⟨k, v⟩ := e
    by_cases hlt : n < k
    · simp [changeAt, hlt]
    · by_cases hne : n = k
      · simp [changeAt, hne]
      · simp [changeAt, hlt, hne, ih]

/-- An entry that is changed holds the change of some value, of the empty one where the table is not in order. -/
theorem lookupD_changeAt {α : Type} (d : α) (n : Nat) (f : α → α) (t : List (Nat × α)) :
    ∃ v, lookupD d n (changeAt d n f t) = f v := by
  induction t with
  | nil => exact ⟨d, by simp [changeAt, lookupD]⟩
  | cons e t ih =>
    obtain ⟨k, v⟩ := e
    by_cases hlt : n < k
    · exact ⟨d, by simp [changeAt, hlt, lookupD]⟩
    · by_cases hne : n = k
      · exact ⟨v, by simp [changeAt, hne, lookupD]⟩
      · obtain ⟨w, hw⟩ := ih
        refine ⟨w, ?_⟩
        simp only [lookupD] at hw
        simp only [changeAt, hlt, hne, if_false, lookupD]
        rw [List.find?_cons_of_neg (by simpa using Ne.symm hne)]
        exact hw

theorem LaneState.updSub_sub (l : LaneState) (n : Nat) (f : SubCtx → SubCtx) : ∃ k, (l.updSub n f).sub n = f k :=
  lookupD_changeAt SubCtx.empty n f l.flow.subs

theorem LaneState.updPub_pub (l : LaneState) (n : Nat) (f : PubCtx → PubCtx) : ∃ k, (l.updPub n f).pub n = f k :=
  lookupD_changeAt PubCtx.empty n f l.flow.pubs

/-! #### Delivery -/

/-- What a mark of staleness leaves of a context that has changed. -/
theorem LaneState.refreshStale_sub {l : LaneState} {n : Nat} {f : SubCtx → SubCtx} {subs : List (Nat × SubCtx)}
    (h : l.flow.subs = changeAt SubCtx.empty n f subs) : ∃ k stale, (l.refreshStale n).sub n = { f k with stale := stale } := by
  obtain ⟨stale, hstale⟩ : ∃ stale, (l.refreshStale n).flow.subs =
      changeAt SubCtx.empty n (fun k => { k with stale := stale }) l.flow.subs := by
    unfold LaneState.refreshStale
    dsimp only
    split
    · exact ⟨_, rfl⟩
    · exact ⟨_, rfl⟩
  obtain ⟨k, hk⟩ := lookupD_changeAt SubCtx.empty n (fun k => { f k with stale := stale }) subs
  refine ⟨k, stale, ?_⟩
  rw [LaneState.sub, hstale, h]
  exact (congrArg (lookupD SubCtx.empty n) (changeAt_changeAt _ _ _ _ _)).trans hk

theorem LaneState.putWords_flow (l : LaneState) (index sub : Nat) (bytes : List Byte) : (l.putWords index sub bytes).flow = l.flow := by
  obtain ⟨reg, hreg⟩ := LaneState.putWords_regOnly (l := l) .self index sub bytes
  rw [hreg]

theorem LaneState.gatewayCopy_flow (l : LaneState) (n : Nat) : (l.gatewayCopy n).flow = l.flow := by
  unfold LaneState.gatewayCopy
  split
  · rfl
  · refine List.foldlRecOn (motive := fun m : LaneState => m.flow = l.flow) _ _ rfl fun m hm g _ => ?_
    have hkeep : (m.keepImage (m.get (ruleKey g 8)) true).flow = m.flow := by
      unfold LaneState.keepImage
      split <;> rfl
    exact (LaneState.putWords_flow _ _ _ _).trans (hkeep.trans hm)

/-- A lane with an accepted copy in its context (R240). -/
def LaneState.delivered (l : LaneState) (n : Nat) (c : FlowCopy) (now : Nat) : LaneState :=
  (((l.updSub n (fun k => k.deliver c now l.trainTime)).inc (key (0x3000 + n) 11)).refreshStale n).gatewayCopy n

theorem LaneState.delivered_sub (l : LaneState) (n : Nat) (c : FlowCopy) (now : Nat) :
    ((l.delivered n c now).sub n).held = true ∧ ((l.delivered n c now).sub n).seq = c.seq ∧
      ((l.delivered n c now).sub n).data = c.data ∧ ((l.delivered n c now).sub n).newData = true ∧
      ((l.delivered n c now).sub n).age = 0 ∧ ((l.delivered n c now).sub n).active = c.active := by
  obtain ⟨k, stale, hk⟩ := LaneState.refreshStale_sub (n := n) (subs := l.flow.subs) (f := fun k => k.deliver c now l.trainTime)
    (l := (l.updSub n (fun k => k.deliver c now l.trainTime)).inc (key (0x3000 + n) 11)) rfl
  have hsub : (l.delivered n c now).sub n = { k.deliver c now l.trainTime with stale := stale } :=
    (congrArg (fun f : FlowState => lookupD SubCtx.empty n f.subs) (LaneState.gatewayCopy_flow _ n)).trans hk
  rw [hsub]
  exact ⟨rfl, rfl, rfl, rfl, rfl, rfl⟩

theorem State.takeCopy_accepts {s : State} {x : LaneId} {n : Nat} {c : FlowCopy} (h : ((s.lane x).sub n).accepts c = true) :
    s.takeCopy x n c = s.upd x fun l => l.delivered n c s.clock := State.upd_congr (if_pos h)

theorem State.takeCopy_older {s : State} {x : LaneId} {n : Nat} {c : FlowCopy} (hheld : ((s.lane x).sub n).held = true)
    (hany : ((s.lane x).sub n).anySeq = false) (hold : newer16 c.seq ((s.lane x).sub n).seq = false) (hactive : c.active = false) :
    s.takeCopy x n c = s.inc x (key (0x3000 + n) 12) := by
  refine State.upd_congr ?_
  dsimp only
  rw [if_neg (by simp [SubCtx.accepts, hheld, hany, hold]), if_neg (by simp [SubCtx.prefers, hactive])]

/-! #### Fill-in -/

theorem doFillIn_none {s : State} {x : LaneId} {n : Fin 1024} (h : s.asksFill x n.val = none) : doFillIn x n s = s := by
  simp only [doFillIn, h]

theorem doFillIn_full {s : State} {x : LaneId} {n : Fin 1024} {r : CopyRec} (hasks : s.asksFill x n.val = some r)
    (hturn : s.fillTurn x n.val = true) (hfull : 16384 < (s.lane x.peer).flow.fillBytes + r.data.length) :
    doFillIn x n s = s.upd x.peer fun q => (q.served n.val r).inc 0x281400 := by
  simp only [doFillIn, hasks, hturn, Bool.not_true, Bool.false_eq_true, if_false, if_pos hfull]
  cases x <;> rfl

/-- The peer with a record served, and its bytes counted in the beat (R237). -/
def LaneState.servedBytes (q : LaneState) (n : Nat) (r : CopyRec) (bytes : Nat) : LaneState :=
  { q.served n r with flow := { (q.served n r).flow with fillBytes := bytes } }

theorem doFillIn_takes {s : State} {x : LaneId} {n : Fin 1024} {r : CopyRec} (hasks : s.asksFill x n.val = some r)
    (hturn : s.fillTurn x n.val = true) (hheld : ((s.lane x).sub n.val).held = false)
    (hroom : (s.lane x.peer).flow.fillBytes + r.data.length ≤ 16384) :
    doFillIn x n s = ((s.upd x.peer fun q => q.servedBytes n.val r ((s.lane x.peer).flow.fillBytes + r.data.length)).upd x fun l =>
      ((l.delivered n.val ⟨r.seq, r.active, decide (x.peer = .B), r.uid, r.data⟩ s.clock).inc 0x281300).inc (key (0x3000 + n.val) 13)) := by
  have haccepts (t : State) (hlane : t.lane x = s.lane x) (c : FlowCopy) : t.takeCopy x n.val c = t.upd x fun l => l.delivered n.val c t.clock := by
    refine State.takeCopy_accepts ?_
    rw [hlane, SubCtx.accepts, hheld]
    rfl
  have hlane (t : State) (f : LaneState → LaneState) : (t.upd x.peer f).lane x = t.lane x := by cases x <;> rfl
  simp only [doFillIn, hasks, hturn, Bool.not_true, Bool.false_eq_true, if_false, if_neg (Nat.not_lt.mpr hroom)]
  rw [haccepts _ ((hlane _ _).trans (hlane _ _))]
  cases x <;> rfl

/-! #### Commits and the configuration of contexts -/

theorem LaneState.writeControl_commits {l : LaneState} {n : Nat} (hrole : l.ctxRole n = 1) :
    l.writeControl n 0x80000000 = l.updPub n fun k => { k with committed := true } := by
  rw [LaneState.writeControl, if_pos hrole]
  exact if_pos (by decide)

theorem doPublicationCommit_commits {s : State} {a : Acc} {x : LaneId} {n : Fin 1024} (hr : Reaches s a 1 x)
    (hrole : (s.lane x).ctxRole n.val = 1) :
    doPublicationCommit a n s = (s.fanOut a.sel fun l => l.writeControl n.val 0x80000000).answer 0 := by
  obtain ⟨hsel, havailable, hok, -⟩ := hr
  have hreserved : 0x80000000 &&& (s.lane x).controlReserved n.val = 0 := by
    rw [LaneState.controlReserved, if_pos hrole]
    decide
  unfold doPublicationCommit State.flowControl
  rw [hsel]
  dsimp only
  rw [havailable, Bool.not_true, if_neg Bool.false_ne_true, if_neg (by omega), if_neg (by rw [hreserved]; decide)]

theorem doFlowConfigWrite_writes {s : State} {a : Acc} {x : LaneId} {n : Fin 1024} {sub : Fin 9} {v : BitVec 64} (hr : Reaches s a 2 x)
    (hsub : 1 ≤ sub.val) (hctx : n.val ≠ 0 ∨ 6 ≤ sub.val) (hvalue : ctxValueOk sub.val v.toNat = true)
    (hconfig : ((s.lane x).put (key (0x3000 + n.val) sub.val) v.toNat).ctxConfigOk n.val = true) :
    doFlowConfigWrite a n sub v s = (s.writeContext a n.val sub.val v.toNat).answer 0 := by
  obtain ⟨hsel, havailable, hok, -⟩ := hr
  unfold doFlowConfigWrite State.flowConfig
  rw [hsel]
  dsimp only
  rw [havailable, Bool.not_true, if_neg Bool.false_ne_true, if_neg (by omega), if_neg (by omega), if_neg (by omega), hvalue, hconfig,
    Bool.not_true, if_neg Bool.false_ne_true, if_neg Bool.false_ne_true]

theorem doFlowConfigWrite_zero {s : State} {a : Acc} {x : LaneId} {sub : Fin 9} {v : BitVec 64} (hr : Reaches s a 2 x)
    (hsub : 1 ≤ sub.val) (hfive : sub.val ≤ 5) : doFlowConfigWrite a 0 sub v s = s.abort abRange := by
  obtain ⟨hsel, havailable, hok, -⟩ := hr
  unfold doFlowConfigWrite State.flowConfig
  rw [hsel]
  dsimp only
  rw [havailable, Bool.not_true, if_neg Bool.false_ne_true, if_neg (by omega), if_neg (by omega), if_pos ⟨rfl, hfive⟩]

/-! #### The sample point -/

/-- The registers below those of the contexts. -/
def NoContext (k : Nat) : Prop := k < 0x300000

/-- Of a lane, sampling changes the back buffers' contexts and registers of contexts. -/
def LaneState.Samples (l m : LaneState) : Prop :=
  (∃ pubs reg, m = { l with reg := reg, flow := { l.flow with pubs := pubs } }) ∧ l.Agrees NoContext m

namespace LaneState.Samples

variable {l₀ l : LaneState}

theorem self : l₀.Samples l₀ := ⟨⟨l₀.flow.pubs, l₀.reg, rfl⟩, .self⟩

theorem updPub (h : l₀.Samples l) (n : Nat) (f : PubCtx → PubCtx) : l₀.Samples (l.updPub n f) := by
  obtain ⟨⟨pubs, reg, rfl⟩, hagrees⟩ := h
  exact ⟨⟨_, reg, rfl⟩, .other hagrees rfl⟩

theorem inc (h : l₀.Samples l) {k : Nat} (hk : 0x300000 ≤ k) : l₀.Samples (l.inc k) := by
  obtain ⟨⟨pubs, reg, rfl⟩, hagrees⟩ := h
  exact ⟨⟨pubs, _, rfl⟩, .inc hagrees (Nat.not_lt.mpr hk)⟩

theorem countCopies (h : l₀.Samples l) (n : Nat) : l₀.Samples (l.countCopies n) :=
  List.foldlRecOn (motive := l₀.Samples) _ _ h fun _ hm g _ => hm.inc (by simp only [ruleKey, key]; omega)

end LaneState.Samples

theorem State.sampleContext_lane (s : State) (x : LaneId) (n size : Nat) :
    (s.lane x).Samples ((s.sampleContext x n size).lane x) ∧ (s.sampleContext x n size).lane x.peer = s.lane x.peer ∧
      (s.sampleContext x n size).uid = s.uid := by
  refine ⟨?_, s.upd_lane_peer x _, s.upd_uid x _⟩
  rw [State.sampleContext, State.upd_lane_self]
  exact .inc (.countCopies (.updPub (.updPub .self _ _) _ _) _) (by simp only [key]; omega)

theorem LaneState.Samples.trans {l m n : LaneState} (h : l.Samples m) (h' : m.Samples n) : l.Samples n := by
  obtain ⟨⟨pubs, reg, rfl⟩, hagrees⟩ := h
  obtain ⟨⟨pubs', reg', rfl⟩, hagrees'⟩ := h'
  exact ⟨⟨pubs', reg', rfl⟩, hagrees.trans hagrees'⟩

/-- The contexts that are due, sampled one after the other. -/
theorem State.foldl_sampleContext (s : State) (x : LaneId) (due : List (Nat × PubEntry)) :
    (s.lane x).Samples ((due.foldl (fun s p => s.sampleContext x p.1 p.2.size.toNat) s).lane x) ∧
      (due.foldl (fun s p => s.sampleContext x p.1 p.2.size.toNat) s).lane x.peer = s.lane x.peer ∧
      (due.foldl (fun s p => s.sampleContext x p.1 p.2.size.toNat) s).uid = s.uid :=
  List.foldlRecOn (motive := fun t : State => (s.lane x).Samples (t.lane x) ∧ t.lane x.peer = s.lane x.peer ∧ t.uid = s.uid) _ _
    ⟨.self, rfl, rfl⟩ fun t ⟨hlane, hpeer, huid⟩ p _ =>
      have h := t.sampleContext_lane x p.1 p.2.size.toNat
      ⟨hlane.trans h.1, h.2.1.trans hpeer, h.2.2.trans huid⟩

theorem LaneState.takesNext_of_idle {l : LaneState} (h : l.roll.running = false) (beat : Nat) : l.takesNext beat = false := by
  unfold LaneState.takesNext
  split
  · rw [h, Bool.false_and, Bool.false_and]
  · rfl

/-- The launch of a lane whose schedule is in force, of the samples of its contexts (R216, R231). -/
theorem State.launchOf_samples {s t : State} {x : LaneId} {d : Sched} {own : DirEntry} {beat : Nat} (hsamples : (s.lane x).Samples (t.lane x))
    (huid : t.uid = s.uid) (hidle : (s.lane x).roll.running = false) (hposition : (s.lane x).position ≠ 0)
    (hsched : (s.lane x).flow.sched = some d) (hown : d.entries.find? (fun k => decide (k.uid.toNat = s.uid)) = some own)
    (frames : List SampledFrame) : t.launchOf x beat frames = some {
      beat := beat, pos := own.pos.toNat, stamp := (s.lane x).stamp, high := highEnd own
      riseAt := beat * 1000000 + 2000 + d.lead true own.pos.toNat (s.lane x).lineRate beat
      fallAt := beat * 1000000 + 2000 + d.lead false own.pos.toNat (s.lane x).lineRate beat
      rises := decide (own.pos.toNat ≠ d.entries.length), falls := decide (own.pos.toNat ≠ 1), frames := frames } := by
  obtain ⟨⟨pubs, reg, he⟩, hagrees⟩ := hsamples
  have hroll : (t.lane x).roll = (s.lane x).roll := by rw [he]
  have hsched' : (t.lane x).flow.sched = some d := by rw [he]; exact hsched
  have hstamp : (t.lane x).sentStamp = (s.lane x).stamp := by
    have hpos : (t.lane x).position = (s.lane x).position := hagrees _ (by unfold NoContext; decide)
    rw [LaneState.sentStamp, hpos, if_neg hposition]
    exact hagrees _ (by unfold NoContext; decide)
  have hrate : (t.lane x).lineRate = (s.lane x).lineRate := hagrees _ (by unfold NoContext; decide)
  have hnumbering : (t.lane x).numberingFor x beat = some (d, (s.lane x).stamp, (s.lane x).lineRate) := by
    rw [LaneState.numberingFor, LaneState.takesNext_of_idle (by rw [hroll]; exact hidle), hsched', hstamp, hrate]
    rfl
  have hpos : d.positionOf s.uid = own.pos.toNat := by rw [Sched.positionOf, hown]; rfl
  unfold State.launchOf
  rw [hnumbering]
  dsimp only
  rw [huid, hown, hpos]

/-- A sampled frame of a context, as its publication stands. -/
def LaneState.sampledFrame (l : LaneState) (p : Nat × PubEntry) : SampledFrame :=
  ⟨p.2.number.toNat, (l.pub p.1).seq, (l.pub p.1).front.take p.2.size.toNat⟩

/-- The launch of the contexts of lane l that are due at the beat, of the lane's numbering (R216, R231). -/
def LaneState.launchAt (l : LaneState) (d : Sched) (own : DirEntry) (beat : Nat) (frames : List SampledFrame) : Launch where
  beat := beat
  pos := own.pos.toNat
  stamp := l.stamp
  high := highEnd own
  riseAt := beat * 1000000 + 2000 + d.lead true own.pos.toNat l.lineRate beat
  fallAt := beat * 1000000 + 2000 + d.lead false own.pos.toNat l.lineRate beat
  rises := decide (own.pos.toNat ≠ d.entries.length)
  falls := decide (own.pos.toNat ≠ 1)
  frames := frames

theorem doSamplePoint_launches {s : State} {x : LaneId} {d : Sched} {own : DirEntry} (hmay : (s.lane x).mayPublish = true)
    (hidle : (s.lane x).roll.running = false) (hcut : s.cutOff x (((s.lane x).trainTime + 20000) / 1000000) = false)
    (hposition : (s.lane x).position ≠ 0) (hsched : (s.lane x).flow.sched = some d)
    (hown : d.entries.find? (fun k => decide (k.uid.toNat = s.uid)) = some own)
    (hdue : (s.lane x).flow.running.filter (fun p => PubEntryDue p.2 (((s.lane x).trainTime + 20000) / 1000000)) ≠ []) :
    ∃ t : State, (s.lane x).Samples (t.lane x) ∧ t.lane x.peer = s.lane x.peer ∧ doSamplePoint x s = t.upd x fun l =>
      { l with flow := { l.flow with launches := l.flow.launches ++
        [(s.lane x).launchAt d own (((s.lane x).trainTime + 20000) / 1000000)
          (((s.lane x).flow.running.filter fun p => PubEntryDue p.2 (((s.lane x).trainTime + 20000) / 1000000)).map
            (t.lane x).sampledFrame)] } } := by
  have hpublications : s.publicationsFor x (((s.lane x).trainTime + 20000) / 1000000) = (s.lane x).flow.running := by
    unfold State.publicationsFor
    dsimp only
    rw [LaneState.takesNext_of_idle hidle, if_neg Bool.false_ne_true, if_neg hposition]
  obtain ⟨hsamples, hpeer, huid⟩ := s.foldl_sampleContext x
    ((s.lane x).flow.running.filter fun p => PubEntryDue p.2 (((s.lane x).trainTime + 20000) / 1000000))
  refine ⟨_, hsamples, hpeer, ?_⟩
  have hlaunch := State.launchOf_samples (beat := ((s.lane x).trainTime + 20000) / 1000000) hsamples huid hidle hposition hsched hown
  unfold doSamplePoint
  dsimp only
  rw [if_neg (by simp [hmay, hcut]), hpublications, hlaunch]
  dsimp only
  rw [if_neg (by simpa using hdue)]
  rfl

/-! #### Launches -/

theorem endLaunch_due {rising : Bool} {v : Launch} {rest : List Launch} (hdue : v.due rising = true) :
    endLaunch rising (v :: rest) = if v.due (!rising) then v.done rising :: rest else rest := by
  rw [endLaunch, if_pos hdue]
  cases rising <;> simp [Launch.done, Launch.due]

/-- A launch by a port that may carry it (R233). -/
def LaneState.launched (l : LaneState) (e : EndId) (frames : List (List Byte)) (time : Nat) : LaneState :=
  (l.updPort e fun p => { p with launched := frames, launchAt := time }).countPortBy e 0x2101 frames.length

theorem State.launchBy_sends {s : State} {x : LaneId} {e : EndId} (hmay : (s.lane x).mayPublish = true)
    (hup : ((s.lane x).port e).isUp = true) (hheld : ((s.lane x).port e).rateHeld = false)
    (hnew : ((s.lane x).port e).newLink = false) (v : Launch) (time : Nat) :
    s.launchBy x e v time = s.upd x fun l => l.launched e (v.frames.map (s.flowFrame x v)) time := by
  unfold State.launchBy
  dsimp only
  rw [if_neg (by simp [hmay, hup, hheld]), if_neg (by rw [hnew]; decide)]
  rfl

theorem LaneState.launched_facts (l : LaneState) (e : EndId) (frames : List (List Byte)) (time : Nat) :
    ((l.launched e frames time).port e).launched = frames ∧ ((l.launched e frames time).port e).launchAt = time ∧
      (l.launched e frames time).port e.other = l.port e.other ∧ (l.launched e frames time).flow = l.flow := by
  obtain ⟨reg, he⟩ : (l.updPort e fun p => { p with launched := frames, launchAt := time }).RegOnly (l.launched e frames time) :=
    LaneState.RegOnly.self.countPortBy e 0x2101 frames.length
  rw [he]
  cases e <;> exact ⟨rfl, rfl, rfl, rfl⟩

/-- The lane with the launch of one way ended. -/
def LaneState.endsLaunch (l : LaneState) (rising : Bool) : LaneState :=
  { l with flow := { l.flow with launches := endLaunch rising l.flow.launches } }

theorem LaneState.endsLaunch_port (l : LaneState) (rising : Bool) (e : EndId) : (l.endsLaunch rising).port e = l.port e := by
  cases e <;> rfl

theorem LaneState.endsLaunch_launches (l : LaneState) (rising : Bool) :
    (l.endsLaunch rising).flow.launches = endLaunch rising l.flow.launches := rfl

theorem doWaveLaunch_launches {s : State} {x : LaneId} {rising : Bool} {v : Launch} {rest : List Launch}
    (hlaunches : (s.lane x).flow.launches = v :: rest) (hdue : v.due rising = true) :
    doWaveLaunch x rising s = (s.launchBy x (if rising then v.high else v.high.other) v (if rising then v.riseAt else v.fallAt)).upd x
      fun l => l.endsLaunch rising := by
  unfold doWaveLaunch
  rw [hlaunches, List.find?_cons_of_pos (by exact hdue)]
  rfl

/-! #### The start of a beat -/

/-- What the start of a beat settles before it ages and aligns: time, Roll, and the beat's own counts. -/
def LaneState.SameBeat (l m : LaneState) : Prop :=
  m.time = l.time ∧ m.roll = l.roll ∧ m.flow.beat = l.flow.beat ∧ m.flow.fillBytes = l.flow.fillBytes ∧
    m.flow.fillLast = l.flow.fillLast ∧ m.flow.startsNext = l.flow.startsNext

/-- The levels of source 75. -/
def OfStation (k : Nat) : Prop := k = key (0x1410 + 75) 1 ∨ k = key (0x1410 + 75) 2

/-- The lane l keeps its beat up to m, and the levels of source 75. -/
def LaneState.Beats (l m : LaneState) : Prop := l.SameBeat m ∧ l.Agrees OfStation m

namespace LaneState.Beats

variable {l₀ l m : LaneState}

theorem self : l₀.Beats l₀ := ⟨⟨rfl, rfl, rfl, rfl, rfl, rfl⟩, .self⟩

theorem trans (h : l₀.Beats l) (h' : l.Beats m) : l₀.Beats m := by
  obtain ⟨⟨htime, hroll, hbeat, hfill, hlast, hnext⟩, hagrees⟩ := h
  obtain ⟨⟨htime', hroll', hbeat', hfill', hlast', hnext'⟩, hagrees'⟩ := h'
  exact ⟨⟨htime'.trans htime, hroll'.trans hroll, hbeat'.trans hbeat, hfill'.trans hfill, hlast'.trans hlast, hnext'.trans hnext⟩,
    hagrees.trans hagrees'⟩

/-- What leaves time, Roll, flows and registers leaves the beat. -/
theorem of_same (htime : m.time = l.time) (hroll : m.roll = l.roll) (hflow : m.flow = l.flow) (hagrees : l.Agrees OfStation m) :
    l.Beats m := by
  refine ⟨⟨htime, hroll, ?_, ?_, ?_, ?_⟩, hagrees⟩ <;> rw [hflow]

theorem put (h : l₀.Beats l) {k : Nat} (hk : 0x200000 ≤ k) (v : Nat) : l₀.Beats (l.put k v) :=
  h.trans (of_same rfl rfl rfl (.put .self (by simp only [OfStation, key]; omega) v))

theorem inc (h : l₀.Beats l) {k : Nat} (hk : 0x200000 ≤ k) : l₀.Beats (l.inc k) := h.put hk _

theorem updSub (h : l₀.Beats l) (n : Nat) (f : SubCtx → SubCtx) : l₀.Beats (l.updSub n f) :=
  h.trans ⟨⟨rfl, rfl, rfl, rfl, rfl, rfl⟩, .other .self rfl⟩

theorem updPub (h : l₀.Beats l) (n : Nat) (f : PubCtx → PubCtx) : l₀.Beats (l.updPub n f) :=
  h.trans ⟨⟨rfl, rfl, rfl, rfl, rfl, rfl⟩, .other .self rfl⟩

theorem foldl {α : Type} {f : LaneState → α → LaneState} (h : l₀.Beats l) (xs : List α) (hf : ∀ l a, l₀.Beats l → l₀.Beats (f l a)) :
    l₀.Beats (xs.foldl f l) := List.foldlRecOn (motive := l₀.Beats) _ _ h fun l hl a _ => hf l a hl

theorem ite {c : Prop} [Decidable c] (h : l₀.Beats l) (h' : l₀.Beats m) : l₀.Beats (if c then l else m) := by
  split <;> assumption

theorem refreshStale (h : l₀.Beats l) (n : Nat) : l₀.Beats (l.refreshStale n) := by
  unfold LaneState.refreshStale
  exact .ite (.inc (h.updSub n _) (by simp only [key]; omega)) (h.updSub n _)

theorem ageSubscriptions (h : l₀.Beats l) : l₀.Beats l.ageSubscriptions := h.foldl _ fun _ n hl => (hl.updSub n _).refreshStale n

theorem ageLatches (h : l₀.Beats l) : l₀.Beats l.ageLatches :=
  h.foldl _ fun _ g hl => (hl.put (by simp only [ruleKey, key]; omega) _).ite hl

theorem withNumbers (h : l₀.Beats l) (b : Bool) : l₀.Beats { l with flow := { l.flow with numbers := b } } :=
  h.trans ⟨⟨rfl, rfl, rfl, rfl, rfl, rfl⟩, .other .self rfl⟩

theorem alignSequences (h : l₀.Beats l) (peer : LaneState) : l₀.Beats (l.alignSequences peer) := by
  have hechoes : l₀.Beats (l.alignEchoes peer) := h.trans (of_same rfl rfl rfl (.other .self rfl))
  exact (hechoes.foldl _ fun _ e hl => (hl.updPub e.1 _).ite hl).withNumbers _

theorem emit (h : l₀.Beats l) (e : EndId) (f : OutFrame) : l₀.Beats (l.emit e f) := by
  obtain ⟨q, reg, he⟩ := l.emit_regOnly e f
  have hagrees : l.Agrees OfStation (l.emit e f) := fun k hk => by
    have hlow : k < 0x200000 := by
      rcases hk with rfl | rfl <;> decide
    exact l.emit_get e f (.inl (by omega)) (by cases e <;> simp only [key, endSub] <;> omega)
  refine h.trans (of_same ?_ ?_ ?_ hagrees) <;> rw [he] <;> cases e <;> rfl

theorem sendMessage (h : l₀.Beats l) (x : LaneId) (m : MsgFrame) : l₀.Beats (l.sendMessage x none 0 m) := (h.emit .e1 _).emit .e2 _

theorem reacts (h : l.Reacts m) (hagrees : l.Agrees OfStation m) : l.Beats m := by
  obtain ⟨_, _, _, rfl⟩ := h
  exact of_same rfl rfl rfl hagrees

end LaneState.Beats

theorem LaneState.Beats.quiet {s t : State} {x : LaneId} (h : (s.lane x).Beats (t.lane x)) (hq : Quiet s x 75) : Quiet t x 75 :=
  ⟨(h.2 _ (.inl rfl)).trans_le hq.1, (h.2 _ (.inr rfl)).trans_le hq.2⟩

/-- A step at lane x's registers of car-bus stations keeps its beat. -/
theorem LaneState.Beats.upd {s t : State} {x : LaneId} {f : LaneState → LaneState} (h : (s.lane x).Beats (t.lane x))
    (hf : ∀ l, (s.lane x).Beats l → (s.lane x).Beats (f l)) : (s.lane x).Beats ((t.upd x f).lane x) := by
  rw [State.upd_lane_self]
  exact hf _ h

theorem State.raiseStation_beats {s t : State} {x : LaneId} (h : (s.lane x).Beats (t.lane x)) (hq : Quiet s x 75) :
    (s.lane x).Beats ((t.raiseLane x 75).lane x) := by
  have hreacts := (State.Reacts.self (A := OfStation) (x := x) (s := t)).raiseLane (h.quiet hq)
    (by unfold OfStation; rintro k (rfl | rfl) <;> decide)
  exact h.trans (.reacts hreacts.lane hreacts.agrees.1)

/-- A minute of the stations at the start of a beat, its source quiet (R330). -/
theorem State.ageStations_beats {s t : State} {x : LaneId} (h : (s.lane x).Beats (t.lane x)) (hq : Quiet s x 75) :
    (s.lane x).Beats ((t.ageStations x).lane x) := by
  have hput {u : State} (hu : (s.lane x).Beats (u.lane x)) (k sub v : Nat) : (s.lane x).Beats ((u.put x (key (0x4480 + k) sub) v).lane x) :=
    hu.upd fun l hl => hl.put (by simp only [key]; omega) v
  have hstations : (s.lane x).Beats (((t.lane x).stations.foldl (fun s k =>
      let i := 0x4480 + k
      let s := s.put x (key i 6) (satInc 65535 (s.get x (key i 6)))
      if s.get x (key i 6) ≤ s.get x (key i 4) then s.put x (key i 5) 1
      else if s.get x (key i 5) = 2 then s
      else ((s.put x (key i 5) 2).inc x (key i 7)).raiseLane x 75) t).lane x) := by
    refine List.foldlRecOn (motive := fun u : State => (s.lane x).Beats (u.lane x)) _ _ h fun u hu k _ => ?_
    dsimp only
    split
    · exact hput (hput hu _ _ _) _ _ _
    · split
      · exact hput hu _ _ _
      · exact State.raiseStation_beats ((hput (hput hu _ _ _) _ _ _).upd fun l hl => hl.inc (by simp only [key]; omega)) hq
  unfold State.ageStations State.followStations
  split
  · exact hstations
  · refine hstations.trans ?_
    rw [State.lower_lane]
    exact .of_same rfl rfl rfl (.other .self rfl)

/-- An announcement of the sleep beat is only sent. -/
theorem State.announceSleep_beats {s : State} (x : LaneId) : (s.lane x).Beats ((s.announceSleep x).lane x) := by
  have hsend (t : State) (y : LaneId) (h : (s.lane x).Beats (t.lane x)) (f : MsgFrame) :
      (s.lane x).Beats ((t.upd y fun l => l.sendMessage y none 0 f).lane x) := by
    by_cases hy : x = y
    · subst hy
      exact h.upd fun l hl => hl.sendMessage x f
    · rw [eq_peer_of_ne y x hy, State.upd_lane_peer, ← eq_peer_of_ne y x hy]
      exact h
  have hboth (t : State) (y : LaneId) (b : Nat) (h : (s.lane x).Beats (t.lane x)) : (s.lane x).Beats
      ((if (t.lane y).ready then t.upd y fun l => l.sendMessage y none 0 (t.announcementFrame y b) else t).lane x) := by
    split
    · exact hsend t y h _
    · exact h
  unfold State.announceSleep
  split
  · exact .self
  · next b _ =>
    dsimp only
    split
    · exact .self
    · exact (hboth _ x.peer b (hboth s x b .self)).trans (.of_same (by cases x <;> rfl) (by cases x <;> rfl) (by cases x <;> rfl)
        (.other .self (by cases x <;> rfl)))

/-- The lane with its beat, before it ages and aligns. -/
def LaneState.newBeat (l : LaneState) (beat : Nat) (transition switched : Bool) : LaneState :=
  { l with
    flow := { l.flow with beat := beat, transition := b2n transition, fillBytes := 0, fillLast := none, startsNext := false }
    roll := if switched then l.roll else l.roll.ageGrace }

/-- Whether a switch comes at the beat: of a Roll, or of a schedule from before. -/
def LaneState.switchesAt (l : LaneState) (beat : Nat) : Bool :=
  l.nextSwitch.any (fun b => decide (b.1 = beat * 1000000)) || l.flow.old.any (fun o => decide (o.first = beat))

/-- The lane with its new beat, aged and aligned with its peer. -/
def LaneState.beatsWith (l peer : LaneState) (beat : Nat) (transition switched : Bool) : LaneState :=
  let m := ((l.newBeat beat transition switched).ageSubscriptions.ageLatches).ownNumbers
  if m.poss.mirrorCurrent && peer.ready then m.alignSequences peer else m

theorem LaneState.beatsWith_beats (l peer : LaneState) (beat : Nat) (transition switched : Bool) :
    (l.newBeat beat transition switched).Beats (l.beatsWith peer beat transition switched) :=
  have h := (LaneState.Beats.self (l₀ := l.newBeat beat transition switched)).ageSubscriptions.ageLatches.withNumbers _
  (h.alignSequences peer).ite h

theorem doBeatStart_beats {s : State} {x : LaneId} (hready : (s.lane x).ready = true) (hq : Quiet s x 75)
    (hcut : s.cutOff x ((s.lane x).trainTime / 1000000) = false) :
    ∃ transition, ((s.lane x).newBeat ((s.lane x).trainTime / 1000000) transition
      ((s.lane x).switchesAt ((s.lane x).trainTime / 1000000))).Beats ((doBeatStart x s).lane x) := by
  obtain ⟨transition, he⟩ : ∃ transition, doBeatStart x s = ((s.upd x fun l => l.beatsWith (s.lane x.peer) ((s.lane x).trainTime / 1000000)
      transition ((s.lane x).switchesAt ((s.lane x).trainTime / 1000000))).ageStations x).announceSleep x := by
    unfold doBeatStart
    dsimp only
    rw [if_neg (by simp [hready, hcut])]
    exact ⟨_, rfl⟩
  have hbeats := (s.lane x).beatsWith_beats (s.lane x.peer) ((s.lane x).trainTime / 1000000) transition
    ((s.lane x).switchesAt ((s.lane x).trainTime / 1000000))
  have hown := s.upd_lane_self x fun l => l.beatsWith (s.lane x.peer) ((s.lane x).trainTime / 1000000)
      transition ((s.lane x).switchesAt ((s.lane x).trainTime / 1000000))
  have hlevels : (s.lane x).Agrees OfStation ((s.upd x fun l => l.beatsWith (s.lane x.peer) ((s.lane x).trainTime / 1000000)
      transition ((s.lane x).switchesAt ((s.lane x).trainTime / 1000000))).lane x) := by
    rw [hown]
    exact .trans (.other .self rfl) hbeats.2
  refine ⟨transition, ?_⟩
  rw [he]
  generalize (s.upd x fun l => l.beatsWith (s.lane x.peer) ((s.lane x).trainTime / 1000000)
      transition ((s.lane x).switchesAt ((s.lane x).trainTime / 1000000))) = t at hown hlevels
  have hq' : Quiet t x 75 := ⟨(hlevels _ (.inl rfl)).trans_le hq.1, (hlevels _ (.inr rfl)).trans_le hq.2⟩
  exact (hown ▸ hbeats).trans ((State.ageStations_beats .self hq').trans (State.announceSleep_beats x))

/-- A lane that runs no Roll switches at a beat only where it keeps a schedule from before. -/
theorem LaneState.switchesAt_idle {l : LaneState} (hidle : l.roll.running = false) (hold : l.flow.old = none) (beat : Nat) :
    l.switchesAt beat = false := by
  have hnext : l.nextSwitch = none := by
    unfold LaneState.nextSwitch
    split
    · rfl
    · rw [hidle]
      rfl
  rw [LaneState.switchesAt, hnext, hold]
  rfl

/-- Settles O23: what a beat, a launch and a copy leave of a lane, part by part. -/
theorem flowsAndWave : Obligations.FlowsAndWave := by
  unfold Obligations.FlowsAndWave
  refine ⟨?_, ?_, ?_, ?_, ?_, ?_, ?_, ?_, ?_, ?_, ?_, ?_, ?_, ?_, ?_, ?_⟩
  · intro s a x n sub v hr hsub hctx hvalue hconfig
    exact exec_next rfl ((State.through_of_reaches hr _).trans (doFlowConfigWrite_writes hr hsub hctx hvalue hconfig))
  · intro s a x sub v hr hsub hfive
    exact exec_next rfl ((State.through_of_reaches hr _).trans (doFlowConfigWrite_zero hr hsub hfive))
  · intro s a x n hr hrole
    have hlane := (State.fanOut_reached hr.1 hr.2.1 fun l => l.writeControl n.val 0x80000000).trans
      (LaneState.writeControl_commits hrole)
    refine Leads.of_eq rfl ((State.through_of_reaches hr _).trans (doPublicationCommit_commits hr hrole)) ?_
    rw [State.answer_lane, hlane]
    refine ⟨?_, rfl, rfl, s.fanOut_mreg a.sel _, rfl⟩
    obtain ⟨k, hk⟩ := (s.lane x).updPub_pub n.val fun k => { k with committed := true }
    rw [hk]
  · intro s x d own beat hmay hidle hbeat hcut hposition hsched hown hdue
    subst hbeat
    obtain ⟨t, hsamples, hpeer, he⟩ := doSamplePoint_launches hmay hidle hcut hposition hsched hown hdue
    refine Leads.of_eq rfl he ?_
    obtain ⟨⟨pubs, reg, hlane⟩, -⟩ := hsamples
    rw [State.upd_lane_self, State.upd_lane_peer, hlane]
    exact ⟨hpeer, _, rfl, rfl, rfl, rfl, rfl, rfl, rfl, rfl, rfl, List.map_map⟩
  · intro s x hmay
    exact exec_next rfl (if_pos (by simp [hmay]))
  · intro s x hready hidle hq hcut
    obtain ⟨transition, ⟨htime, hroll, hbeat, hfill, hlast, hnext⟩, -⟩ := doBeatStart_beats hready hq hcut
    refine Leads.of_eq rfl rfl ⟨hbeat, hfill, hlast, hnext, htime, fun hold hgrace => ?_, fun hold hgrace => ?_⟩
    · rw [hroll, LaneState.newBeat, LaneState.switchesAt_idle hidle hold, if_neg Bool.false_ne_true, RollState.ageGrace,
        if_neg (by omega)]
      exact ⟨rfl, rfl⟩
    · rw [hroll, LaneState.newBeat, LaneState.switchesAt_idle hidle hold, if_neg Bool.false_ne_true, RollState.ageGrace,
        if_pos (by omega)]
  · intro s x hcut
    exact exec_next rfl (if_pos (by simp [hcut]))
  · intro s x rising v rest e hlaunches hdue he hmay hup hheld hnew
    subst he
    have hsent := State.launchBy_sends hmay hup hheld hnew v (if rising then v.riseAt else v.fallAt)
    refine Leads.of_eq rfl ((doWaveLaunch_launches hlaunches hdue).trans (by rw [hsent])) ?_
    obtain ⟨hframes, htime, hother, hflow⟩ := (s.lane x).launched_facts (if rising then v.high else v.high.other)
      (v.frames.map (s.flowFrame x v)) (if rising then v.riseAt else v.fallAt)
    rw [State.upd_lane_self, State.upd_lane_self, State.upd_lane_peer, State.upd_lane_peer, LaneState.endsLaunch_port,
      LaneState.endsLaunch_port, LaneState.endsLaunch_launches, hflow, hlaunches, endLaunch_due hdue]
    exact ⟨hframes, htime, rfl, hother, rfl⟩
  · intro s x rising hlaunches
    refine exec_next rfl ?_
    simp only [doWaveLaunch, hlaunches, List.find?_nil]
  · intro s x hready htransition
    exact exec_next rfl ((if_pos hready).trans (State.upd_congr (if_pos htransition)))
  · intro s x hready htransition
    exact exec_next rfl ((if_pos hready).trans (State.upd_congr (if_neg htransition)))
  · intro s x n c haccepts
    rw [State.takeCopy_accepts haccepts, State.upd_lane_self]
    exact (s.lane x).delivered_sub n c s.clock
  · exact fun s x n c hheld hany hold hactive => State.takeCopy_older hheld hany hold hactive
  · intro s x n r hasks hturn hfull
    exact exec_next rfl (doFillIn_full hasks hturn hfull)
  · intro s x n r hasks hturn hheld hroom
    obtain ⟨hheld', hseq, hdata, -, -, hactive⟩ := (s.lane x).delivered_sub n.val
      ⟨r.seq, r.active, decide (x.peer = .B), r.uid, r.data⟩ s.clock
    refine Leads.of_eq rfl (doFillIn_takes hasks hturn hheld hroom) ?_
    have hlane : ∀ f, (s.upd x.peer f).lane x = s.lane x := fun f => by cases x <;> rfl
    rw [State.upd_lane_self, hlane, State.upd_lane_peer, State.upd_lane_self]
    exact ⟨hheld', hseq, hdata, hactive, rfl, rfl⟩
  · exact fun s x n hnone => exec_next rfl (doFillIn_none hnone)

end Sys2Proof.Machine

namespace Sys2Proof.Machine

/-! ### A Roll from its start to its close (O19) -/

theorem regWidth_roll : regWidth 0x240100 = 16 ∧ regWidth 0x240A00 = 8 := by decide +kernel

/-- An epoch is not newer than itself. -/
theorem epochNewer_self (n : Nat) : epochNewer n n = false := by
  have hzero : (n + 65536 - n % 65536) % 65536 = 0 := by omega
  simp [epochNewer, newer16, hzero]

/-- The epoch and the code of the Roll. -/
def OfRoll (k : Nat) : Prop := k = 0x240100 ∨ k = 0x240A00

/-- What a lane sends and gathers in a Roll leaves its marks: of the Roll only what it has seen, its line list and its
sequence; the flows; the epoch and the code. -/
def LaneState.InRoll (l m : LaneState) : Prop :=
  (∃ seen lineList seq, m.roll = { l.roll with seen := seen, lineList := lineList, seq := seq }) ∧ m.flow = l.flow ∧
    l.Agrees OfRoll m

namespace LaneState.InRoll

variable {l₀ l m : LaneState}

theorem self : l₀.InRoll l₀ := ⟨⟨_, _, _, rfl⟩, rfl, .self⟩

theorem trans (h : l₀.InRoll l) (h' : l.InRoll m) : l₀.InRoll m := by
  obtain ⟨⟨_, _, _, hroll⟩, hflow, hagrees⟩ := h
  obtain ⟨⟨seen, list, seq, hroll'⟩, hflow', hagrees'⟩ := h'
  exact ⟨⟨seen, list, seq, by rw [hroll', hroll]⟩, hflow'.trans hflow, hagrees.trans hagrees'⟩

theorem emit (h : l₀.InRoll l) (e : EndId) (f : OutFrame) : l₀.InRoll (l.emit e f) := by
  obtain ⟨q, reg, he⟩ := l.emit_regOnly e f
  have hagrees : l.Agrees OfRoll (l.emit e f) := fun k hk =>
    l.emit_get e f (.inr (by unfold OfRoll at hk; omega)) (by unfold OfRoll at hk; cases e <;> simp only [key, endSub] <;> omega)
  have hroll : (l.emit e f).roll = l.roll := by rw [he]; cases e <;> rfl
  have hflow : (l.emit e f).flow = l.flow := by rw [he]; cases e <;> rfl
  exact h.trans ⟨⟨l.roll.seen, l.roll.lineList, l.roll.seq, hroll⟩, hflow, hagrees⟩

theorem nextRoll (h : l₀.InRoll l) : l₀.InRoll l.nextRoll := h.trans ⟨⟨_, _, _, rfl⟩, rfl, .other .self rfl⟩

theorem note (h : l₀.InRoll l) (f : RollFrame) : l₀.InRoll { l with roll := l.roll.note f } :=
  h.trans ⟨⟨_, _, _, rfl⟩, rfl, .other .self rfl⟩

theorem withLineList (h : l₀.InRoll l) (list : Option (List DirEntry)) : l₀.InRoll { l with roll := { l.roll with lineList := list } } :=
  h.trans ⟨⟨_, _, _, rfl⟩, rfl, .other .self rfl⟩

theorem inc (h : l₀.InRoll l) {k : Nat} (hk : ¬ OfRoll k) : l₀.InRoll (l.inc k) := h.trans ⟨⟨_, _, _, rfl⟩, rfl, .inc .self hk⟩

theorem sendRollTo (h : l₀.InRoll l) (e : EndId) (f : RollFrame) : l₀.InRoll (l.sendRollTo e f) := h.nextRoll.emit e _

theorem sendRoll (h : l₀.InRoll l) (skip : Option EndId) (f : RollFrame) : l₀.InRoll (l.sendRoll skip f) :=
  List.foldlRecOn (motive := l₀.InRoll) _ _ h.nextRoll fun m hm e _ => by
    split
    · exact hm
    · exact hm.emit e _

end LaneState.InRoll

/-- The same of a lane in a state whose other lane stays as it is. -/
def State.InRoll (x : LaneId) (s t : State) : Prop := (s.lane x).InRoll (t.lane x) ∧ t.lane x.peer = s.lane x.peer

namespace State.InRoll

variable {x : LaneId} {s t : State}

theorem self : InRoll x s s := ⟨.self, rfl⟩

theorem upd {f : LaneState → LaneState} (h : InRoll x s t) (hf : ∀ l, (s.lane x).InRoll l → (s.lane x).InRoll (f l)) :
    InRoll x s (t.upd x f) := ⟨by rw [State.upd_lane_self]; exact hf _ h.1, (t.upd_lane_peer x f).trans h.2⟩

theorem sendSet (h : InRoll x s t) (skip : Option EndId) (f : RollFrame) : InRoll x s (t.sendSet x skip f) :=
  h.upd fun _ hl => (hl.note f).sendRoll skip f

theorem inc (h : InRoll x s t) {k : Nat} (hk : ¬ OfRoll k) : InRoll x s (t.inc x k) := h.upd fun _ hl => hl.inc hk

theorem beginStreams (h : InRoll x s t) : InRoll x s (t.beginStreams x) := by
  unfold State.beginStreams
  dsimp only
  split
  · exact h.upd fun _ hl => hl.withLineList _
  · split
    · exact h.upd fun _ hl => hl.sendRollTo _ _
    · split
      · exact h.upd fun _ hl => hl.sendRollTo _ _
      · exact h

theorem relayRoll (h : InRoll x s t) (src : RollSrc) (f : RollFrame) : InRoll x s (t.relayRoll x src f) := by
  unfold State.relayRoll
  dsimp only
  split
  · exact (h.sendSet _ f).inc (by unfold OfRoll; decide)
  · exact h.sendSet _ f

theorem sendClose (h : InRoll x s t) (c : Close) : InRoll x s (t.sendClose x c) :=
  List.foldlRecOn (motive := InRoll x s) _ _ h fun _ ht _ _ => ht.sendSet none _

end State.InRoll

/-! #### The start of a Roll -/

/-- A lane as it enters a Roll: the parts of the one before are gone. -/
def LaneState.inNewRoll (l : LaneState) (epoch code origin quality : Nat) : LaneState :=
  let r := l.roll.begin code origin (l.get 0x241002) (l.get 0x241005) l.rateSettings quality (!l.port1.isUp) (!l.port2.isUp)
  let l := (l.updPort .e1 (fun p => { p with lateLink := false })).updPort .e2 (fun p => { p with lateLink := false })
  ((({ l with roll := r }.put 0x240100 epoch).put 0x240A00 code).dropSchedule).announce

/-- The lane before it enters a Roll, with the abort of one that runs counted. -/
def LaneState.abortsRoll (l : LaneState) : LaneState := if l.roll.running then l.inc 0x240900 else l

theorem State.upd_upd (s : State) (x : LaneId) (f g : LaneState → LaneState) : (s.upd x f).upd x g = s.upd x fun l => g (f l) := by
  cases x <;> rfl

theorem State.enterRoll_eq (s : State) (x : LaneId) (epoch code origin : Nat) :
    s.enterRoll x epoch code origin = s.upd x fun l => l.abortsRoll.inNewRoll epoch code origin (s.mget 0x400B00) := by
  unfold State.enterRoll
  dsimp only
  split
  case isTrue h =>
    have hmget : (s.inc x 0x240900).mget 0x400B00 = s.mget 0x400B00 := congrArg (tabGet regDefault 0x400B00) (s.upd_mreg x _)
    have haborts : (s.lane x).abortsRoll = (s.lane x).inc 0x240900 := if_pos h
    rw [hmget]
    refine (s.upd_upd x _ _).trans (State.upd_congr ?_)
    rw [haborts]
    rfl
  case isFalse h =>
    have haborts : (s.lane x).abortsRoll = s.lane x := if_neg h
    refine State.upd_congr ?_
    rw [haborts]
    rfl

theorem LaneState.abortsRoll_port (l : LaneState) : l.abortsRoll.port1 = l.port1 ∧ l.abortsRoll.port2 = l.port2 := by
  unfold LaneState.abortsRoll
  split <;> exact ⟨rfl, rfl⟩

theorem LaneState.abortsRoll_canon {l : LaneState} (h : l.RegsCanon) : l.abortsRoll.RegsCanon := by
  unfold LaneState.abortsRoll
  split
  · exact h.put _ _
  · exact h

theorem LaneState.abortsRoll_roll (l : LaneState) : l.abortsRoll.roll = l.roll := by
  unfold LaneState.abortsRoll
  split <;> rfl

/-- What a lane holds as it enters a Roll of an epoch below 65536 (R155, R163). -/
theorem LaneState.inNewRoll_facts {l : LaneState} (h : l.RegsCanon) {epoch code : Nat} (hepoch : epoch < 65536) (hcode : code < 256)
    (origin quality : Nat) :
    (l.inNewRoll epoch code origin quality).get 0x240100 = epoch ∧ (l.inNewRoll epoch code origin quality).get 0x240A00 = code ∧
      (∃ vehicle orientation settings, (l.inNewRoll epoch code origin quality).roll =
        l.roll.begin code origin vehicle orientation settings quality (!l.port1.isUp) (!l.port2.isUp)) ∧
      (l.inNewRoll epoch code origin quality).flow.next = none := by
  have hreg : LaneState.RegsCanon { (l.updPort .e1 (fun p => { p with lateLink := false })).updPort .e2 (fun p => { p with lateLink := false })
      with roll := l.roll.begin code origin (l.get 0x241002) (l.get 0x241005) l.rateSettings quality (!l.port1.isUp) (!l.port2.isUp) } := h
  refine ⟨?_, ?_, ⟨_, _, _, rfl⟩, rfl⟩
  · refine (LaneState.put_get_ne _ (by decide) _).trans ((LaneState.put_get_self _ _ _ hreg).trans ?_)
    rw [regWidth_roll.1]
    exact Nat.mod_eq_of_lt hepoch
  · refine (LaneState.put_get_self _ _ _ (LaneState.RegsCanon.put hreg _ _)).trans ?_
    rw [regWidth_roll.2]
    exact Nat.mod_eq_of_lt hcode

/-- From s to t lane x has entered a Roll, and gone on in it. -/
theorem State.enterRoll_facts {s t : State} {x : LaneId} (hcanon : Canon s) {epoch code : Nat} (hepoch : epoch < 65536)
    (hcode : code < 256) {origin : Nat} (h : State.InRoll x (s.enterRoll x epoch code origin) t) :
    t.get x 0x240100 = epoch ∧ t.get x 0x240A00 = code ∧ (t.lane x).roll.running = true ∧ (t.lane x).roll.startCode = code ∧
      (t.lane x).roll.startOrigin = origin ∧ (t.lane x).roll.trigger = none ∧ (t.lane x).roll.spaced = false ∧
      (t.lane x).roll.candidate = none ∧ (t.lane x).roll.adopted = none ∧
      (t.lane x).roll.directory = (s.lane x).roll.directory ∧ (t.lane x).roll.end1 = !(s.lane x).port1.isUp ∧
      (t.lane x).roll.end2 = !(s.lane x).port2.isUp ∧ (t.lane x).flow.next = none ∧ t.lane x.peer = s.lane x.peer := by
  rw [State.enterRoll_eq] at h
  obtain ⟨⟨⟨_, _, _, hroll⟩, hflow, hagrees⟩, hpeer⟩ := h
  rw [State.upd_lane_peer] at hpeer
  rw [State.upd_lane_self] at hroll hflow hagrees
  obtain ⟨hepoch', hcode', ⟨_, _, _, hbegin⟩, hnext⟩ := LaneState.inNewRoll_facts
    (LaneState.abortsRoll_canon (lane_regs_canon hcanon x)) hepoch hcode origin (s.mget 0x400B00)
  have hports := (s.lane x).abortsRoll_port
  rw [hroll, hbegin, hflow, hports.1, hports.2, (s.lane x).abortsRoll_roll]
  exact ⟨(hagrees _ (.inl rfl)).trans hepoch', (hagrees _ (.inr rfl)).trans hcode', rfl, rfl, rfl, rfl, rfl, rfl, rfl, rfl, rfl, rfl,
    hnext, hpeer⟩

/-! #### A frame of the Roll -/

section Frames

variable {s : State} {x : LaneId} {src : RollSrc} {ep : BitVec 16} {b : List Byte}
  (hready : (s.lane x).ready = true)
  (harrives : (match src with | .port e => ((s.lane x).port e).isUp | .peer => (s.lane x).poss.mirrorUp) = true)
  (hok : rollFrameOk (rollOf ep b) = true)

include hready harrives hok

theorem doRollFrame_newer (hnewer : epochNewer ep.toNat (s.get x 0x240100) = true) :
    doRollFrame x src ⟨ep, b⟩ s = s.joinRoll x src (rollOf ep b) := by
  unfold doRollFrame
  refine (if_neg (by cases src <;> simpa [hready] using harrives)).trans ?_
  refine (if_neg (by simp [hok])).trans ?_
  exact if_pos hnewer

theorem doRollFrame_current (hepoch : ep.toNat = s.get x 0x240100) : doRollFrame x src ⟨ep, b⟩ s = s.handleRoll x src (rollOf ep b) := by
  have hnewer : epochNewer ep.toNat (s.get x 0x240100) = false := by rw [hepoch]; exact epochNewer_self _
  unfold doRollFrame
  refine (if_neg (by cases src <;> simpa [hready] using harrives)).trans ?_
  refine (if_neg (by simp [hok])).trans ?_
  refine (if_neg (ne_true_of_eq_false hnewer)).trans ?_
  exact if_pos hepoch

end Frames

theorem doRollFrame_older {s : State} {x : LaneId} {e : EndId} {ep : BitVec 16} {b : List Byte} (hready : (s.lane x).ready = true)
    (hup : ((s.lane x).port e).isUp = true) (hok : rollFrameOk (rollOf ep b) = true)
    (hnewer : epochNewer ep.toNat (s.get x 0x240100) = false) (hother : ep.toNat ≠ s.get x 0x240100) :
    doRollFrame x (.port e) ⟨ep, b⟩ s = if (s.lane x).roll.running then
        (s.inc x 0x243102).upd x (fun l => l.sendRollTo e ((s.inc x 0x243102).startFrame x))
      else (s.inc x 0x243102).rollTrigger x 9 := by
  unfold doRollFrame
  refine (if_neg (by simp [hready, hup])).trans ?_
  refine (if_neg (by simp [hok])).trans ?_
  refine (if_neg (ne_true_of_eq_false hnewer)).trans ?_
  exact if_neg hother

/-- A frame of a set other than a Want that was handled before in the Roll is not handled again (R160). -/
theorem State.handleRoll_again {s : State} {x : LaneId} {src : RollSrc} {f : RollFrame} (hkind : rollKind f.body ≠ 3)
    (hseen : (s.lane x).roll.seen.contains (rollKind f.body, f.origin.toNat, f.index.toNat) = true) : s.handleRoll x src f = s := by
  unfold State.handleRoll
  dsimp only
  split
  next => rfl
  next => exact if_pos hseen
  next =>
    cases src with
    | port e => exact if_pos hseen
    | peer => rfl
  next _ _ hbody => exact absurd (congrArg rollKind hbody) hkind
  next => exact if_pos hseen
  next => exact if_pos hseen

/-- A start that was not handled before in the Roll goes on (R160). -/
theorem State.handleRoll_fresh {s : State} {x : LaneId} {src : RollSrc} {f : RollFrame} {c : Byte} (hbody : f.body = .start c)
    (hseen : (s.lane x).roll.seen.contains (rollKind f.body, f.origin.toNat, f.index.toNat) = false) :
    s.handleRoll x src f = s.relayRoll x src f := by
  rw [hbody] at hseen
  unfold State.handleRoll
  dsimp only
  rw [hbody]
  exact if_neg (ne_true_of_eq_false hseen)

theorem State.rollFrame_congr {s t : State} {x : LaneId} (hepoch : t.get x 0x240100 = s.get x 0x240100) (huid : t.uid = s.uid)
    (index : Nat) (last : Bool) (body : RollBody) : t.rollFrame x index last body = s.rollFrame x index last body := by
  unfold State.rollFrame
  rw [hepoch, huid]

/-- The start of a Roll is sent with the same epoch, code and origin after another entry has counted. -/
theorem State.inc_startFrame (s : State) (x : LaneId) {k : Nat} (hk : 0x240100 ≠ k) : (s.inc x k).startFrame x = s.startFrame x := by
  have hlane : (s.inc x k).lane x = (s.lane x).inc k := s.upd_lane_self x _
  have hepoch : (s.inc x k).get x 0x240100 = s.get x 0x240100 :=
    (congrArg (LaneState.get · 0x240100) hlane).trans (LaneState.inc_get_ne _ hk)
  have hroll : ((s.inc x k).lane x).roll = (s.lane x).roll := congrArg (·.roll) hlane
  unfold State.startFrame
  rw [hroll, State.rollFrame_congr hepoch (s.upd_uid x _)]

/-! #### Candidates -/

/-- Lane x keeps its Roll and its flows, and the other lane all that it has. -/
def State.KeepsRoll (x : LaneId) (s t : State) : Prop :=
  (t.lane x).roll = (s.lane x).roll ∧ (t.lane x).flow = (s.lane x).flow ∧ t.lane x.peer = s.lane x.peer

theorem State.KeepsRoll.self {x : LaneId} {s : State} : KeepsRoll x s s := ⟨rfl, rfl, rfl⟩

theorem State.KeepsRoll.upd {x : LaneId} {s t : State} {f : LaneState → LaneState} (h : KeepsRoll x s t)
    (hroll : (f (t.lane x)).roll = (t.lane x).roll) (hflow : (f (t.lane x)).flow = (t.lane x).flow) : KeepsRoll x s (t.upd x f) := by
  refine ⟨?_, ?_, (t.upd_lane_peer x f).trans h.2.2⟩
  · rw [State.upd_lane_self]
    exact hroll.trans h.1
  · rw [State.upd_lane_self]
    exact hflow.trans h.2.1

theorem LaneState.measures_keeps (l : LaneState) (uid : Nat) : (l.measures uid).roll = l.roll ∧ (l.measures uid).flow = l.flow := by
  unfold LaneState.measures
  split <;> exact ⟨rfl, rfl⟩

theorem LaneState.setMaster_keeps (l : LaneState) (uid : Nat) : (l.setMaster uid).roll = l.roll ∧ (l.setMaster uid).flow = l.flow := by
  unfold LaneState.setMaster
  split <;> exact ⟨rfl, rfl⟩

theorem State.KeepsRoll.candidateMaster {x : LaneId} {s t : State} (h : KeepsRoll x s t) (es : List DirEntry) (pos epoch : Nat) :
    KeepsRoll x s (t.candidateMaster x es pos epoch) := by
  unfold State.candidateMaster
  extract_lets l uid isMe candidate mark known other
  have hmarked : KeepsRoll x s (((t.put x 0x400200 (withBit (l.get 0x400200) 3 candidate)).upd x fun l =>
      { l with time := { l.time with mark := mark } })) := (h.upd rfl rfl).upd rfl rfl
  exact hmarked.upd (LaneState.measures_keeps _ _).1 (LaneState.measures_keeps _ _).2

/-- A candidate that is formed is the lane's, and nothing else of its Roll changes (R166 to R168). -/
theorem State.takeCandidate_forms {s : State} {x : LaneId} {c : Candidate} (h : s.formCandidate x = some c) :
    ((s.takeCandidate x).lane x).roll.candidate = some c ∧ (s.takeCandidate x).lane x.peer = s.lane x.peer := by
  have hkeeps := (State.KeepsRoll.self (x := x) (s := s.upd x fun l => { l with roll := { l.roll with candidate := some c } })).candidateMaster
    c.entries c.master ((s.upd x fun l => { l with roll := { l.roll with candidate := some c } }).get x 0x240100)
  have he : s.takeCandidate x = (s.upd x fun l => { l with roll := { l.roll with candidate := some c } }).candidateMaster x c.entries c.master
      ((s.upd x fun l => { l with roll := { l.roll with candidate := some c } }).get x 0x240100) := by
    rw [State.takeCandidate, h]
  rw [he, hkeeps.1, hkeeps.2.2, State.upd_lane_self, State.upd_lane_peer]
  exact ⟨rfl, rfl⟩

theorem State.formCandidate_single {s : State} {x : LaneId} {own : List DirEntry} (hown : (s.lane x).roll.lineList = some own)
    (hpeer : (s.lane x).roll.peerList = none) : s.formCandidate x = some (numberList s.uid true false (oneLine x false own)) := by
  rw [State.formCandidate]
  dsimp only
  rw [hown, hpeer]

theorem State.formCandidate_both {s : State} {x : LaneId} {own peer : List DirEntry} (hown : (s.lane x).roll.lineList = some own)
    (hpeer : (s.lane x).roll.peerList = some peer) : s.formCandidate x =
      some (if x = .A then numberList s.uid false (mergeLists own peer).2 (mergeLists own peer).1
        else numberList s.uid false (mergeLists peer own).2 (mergeLists peer own).1) := by
  rw [State.formCandidate]
  dsimp only
  rw [hown, hpeer]
  cases x <;> rfl

/-! #### The close -/

/-- A close that is adopted ends the schedule that was coming, and the rest of the Roll goes on (R173). -/
theorem State.adopt_facts (s : State) (x : LaneId) (c : Close) :
    ((s.adopt x c).lane x).roll = { (s.lane x).roll with adopted := some c } ∧ ((s.adopt x c).lane x).flow.next = none := by
  obtain ⟨t, ht⟩ : ∃ t, t = s.upd x fun l => { l with roll := { l.roll with adopted := some c } }.dropSchedule := ⟨_, rfl⟩
  have hadopted : (t.lane x).roll = { (s.lane x).roll with adopted := some c } ∧ (t.lane x).flow.next = none := by
    rw [ht, State.upd_lane_self]
    exact ⟨rfl, rfl⟩
  unfold State.adopt
  extract_lets r differs s₁ s₂ numbered k l s₃ s₄
  have h₁ : s₁ = t := ht.symm
  have h₂ : KeepsRoll x t s₂ := by
    change KeepsRoll x t (if differs then s₁.inc x 0x243104 else s₁)
    rw [h₁]
    split
    · exact State.KeepsRoll.self.upd rfl rfl
    · exact .self
  have h₃ : (s₃.lane x).roll = (s₂.lane x).roll ∧ (s₃.lane x).flow = (s₂.lane x).flow := by
    change ((if x = .A ∧ numbered then _ else s₂ : State).lane x).roll = _ ∧ ((if x = .A ∧ numbered then _ else s₂ : State).lane x).flow = _
    split
    · cases x <;> exact ⟨rfl, rfl⟩
    · exact ⟨rfl, rfl⟩
  have h₄ : KeepsRoll x s₃ s₄ := State.KeepsRoll.self.upd rfl rfl
  have h₅ := h₄.candidateMaster c.entries c.fields.master.toNat c.epoch
  rw [State.upd_lane_self]
  have hmaster (l : LaneState) (uid : Nat) : (if l.roll.directory.isEmpty then l.setMaster uid else l).roll = l.roll ∧
      (if l.roll.directory.isEmpty then l.setMaster uid else l).flow = l.flow := by
    split
    · exact l.setMaster_keeps uid
    · exact ⟨rfl, rfl⟩
  rw [(hmaster _ _).1, (hmaster _ _).2, h₅.1, h₅.2.1, h₃.1, h₃.2, h₂.1, h₂.2.1]
  exact hadopted

/-- The first member of a candidate adopts and sends its close, once (R172). -/
theorem doClose_closes {s : State} {x : LaneId} {limit : Bool} {c : Candidate} {d : DirEntry} {rest : List DirEntry}
    (hrunning : (s.lane x).roll.running = true) (hadopted : (s.lane x).roll.adopted = none) (hclosed : (s.lane x).roll.closed = false)
    (hcandidate : (s.lane x).roll.candidate = some c) (hentries : c.entries = d :: rest) (hfirst : d.uid.toNat = s.uid)
    (hready : limit = true ∨ (s.lane x).roll.hasWanted s.uid = true) (hoffset : s.hasOffset x (masterUid c.entries c.master) = true) :
    ∃ offered, doClose x limit s = ((s.upd x fun l => { l with roll := { l.roll with closed := true, offered := offered } }).adopt x
      ⟨s.get x 0x240100, s.uid, s.closeFieldsOf x c, c.entries⟩).sendClose x ⟨s.get x 0x240100, s.uid, s.closeFieldsOf x c, c.entries⟩ := by
  have hwanted : (limit || (s.lane x).roll.hasWanted s.uid) = true := by simpa using hready
  have hhead : (c.entries.head?.map (fun d => d.uid.toNat)).getD 0 = s.uid := by rw [hentries]; exact hfirst
  refine ⟨((⟨s.get x 0x240100, s.uid, s.closeFieldsOf x c, c.entries⟩ : Close) :: (s.lane x).roll.offered).eraseDups, ?_⟩
  unfold doClose
  dsimp only
  rw [hcandidate]
  dsimp only
  rw [if_neg (by simp [hrunning, hclosed, hhead, hwanted, hoffset])]
  have hown : ((s.upd x fun l => { l with roll := { l.roll with closed := true } }).upd x fun l =>
      { l with roll := { l.roll with offered := ((⟨s.get x 0x240100, s.uid, s.closeFieldsOf x c, c.entries⟩ : Close) ::
        l.roll.offered).eraseDups } }) = s.upd x fun l => { l with roll := { l.roll with
          closed := true, offered := ((⟨s.get x 0x240100, s.uid, s.closeFieldsOf x c, c.entries⟩ : Close) ::
            (s.lane x).roll.offered).eraseDups } } := by cases x <;> rfl
  unfold State.offerClose
  dsimp only
  rw [hown]
  have hnone : ((s.upd x fun l => { l with roll := { l.roll with closed := true, offered :=
      ((⟨s.get x 0x240100, s.uid, s.closeFieldsOf x c, c.entries⟩ : Close) :: (s.lane x).roll.offered).eraseDups } }).lane
        x).roll.adopted = none := by
    rw [State.upd_lane_self]
    exact hadopted
  rw [hnone]

/-- Settles O19: what a lane sends and gathers in a Roll leaves its epoch, its candidate and its close. -/
theorem rollFrames : Obligations.RollFrames := by
  unfold Obligations.RollFrames
  refine ⟨?_, ?_, ?_, ?_, ?_, ?_, ?_, ?_, ?_, ?_, ?_, ?_, ?_, ?_, ?_, ?_, ?_⟩
  · intro s x code hcanon htrigger hholdOff hspaced hready hcode
    have he : doRollOriginate x s = s.startRoll x ((s.get x 0x240100 + 1) % 65536) code s.uid := by
      unfold doRollOriginate
      dsimp only
      rw [htrigger]
      dsimp only
      rw [if_neg (by simp [hholdOff, hspaced, hready])]
    have hin : State.InRoll x (s.enterRoll x ((s.get x 0x240100 + 1) % 65536) code s.uid)
        (s.startRoll x ((s.get x 0x240100 + 1) % 65536) code s.uid) := (State.InRoll.self.sendSet none _).beginStreams
    exact Leads.of_eq rfl he (State.enterRoll_facts hcanon (Nat.mod_lt _ (by decide)) hcode hin)
  · intro s x code htrigger hwaits
    refine exec_next rfl ?_
    unfold doRollOriginate
    dsimp only
    rw [htrigger]
    exact if_pos (by rcases hwaits with h | h <;> simp [h])
  · intro s x e ep b c hcanon hready hup hok hbody hnewer
    have he : doRollFrame x (.port e) ⟨ep, b⟩ s = (((s.enterRoll x ep.toNat c.toNat (rollOf ep b).origin.toNat).relayRoll x (.port e)
        (rollOf ep b)).beginStreams x) := by
      refine (doRollFrame_newer (src := .port e) hready hup hok hnewer).trans ?_
      have hseen : ((s.enterRoll x ep.toNat c.toNat (rollOf ep b).origin.toNat).lane x).roll.seen = [] := by
        rw [State.enterRoll_eq, State.upd_lane_self]
        rfl
      have hfresh := State.handleRoll_fresh (src := .port e) hbody (by rw [hseen]; rfl)
      unfold State.joinRoll
      dsimp only
      rw [hbody]
      exact congrArg (State.beginStreams · x) hfresh
    have hin : State.InRoll x (s.enterRoll x ep.toNat c.toNat (rollOf ep b).origin.toNat)
        (((s.enterRoll x ep.toNat c.toNat (rollOf ep b).origin.toNat).relayRoll x (.port e) (rollOf ep b)).beginStreams x) :=
      (State.InRoll.self.relayRoll _ _).beginStreams
    obtain ⟨hepoch, -, hrunning, hcode, horigin, htrigger, -, hcandidate, hadopted, -, -, -, -, hpeer⟩ :=
      State.enterRoll_facts hcanon ep.isLt c.isLt hin
    exact Leads.of_eq rfl he ⟨hepoch, hrunning, horigin, hcode, hcandidate, hadopted, htrigger, hpeer⟩
  · intro s x e ep b hready hup hok
    refine exec_next rfl ?_
    unfold doRollFrame
    rw [if_neg (by simp [hready, hup]), if_pos (by simp [hok])]
  · intro s x e ep b hready hup hok hnewer hother hidle
    refine exec_next rfl ((doRollFrame_older hready hup hok hnewer hother).trans ?_)
    exact if_neg (by simp [hidle])
  · intro s x e ep b hcanon hready hup hok hnewer hother hrunning
    refine exec_next rfl ((doRollFrame_older hready hup hok hnewer hother).trans ?_)
    refine (if_pos hrunning).trans ?_
    rw [State.inc_startFrame s x (by decide)]
  · intro s x src ep b hready hup hok hepoch hkind hseen
    refine exec_next rfl ((doRollFrame_current hready hup hok hepoch).trans ?_)
    exact State.handleRoll_again hkind hseen
  · intro s x hrunning hlist
    exact exec_next rfl (if_pos (by simp [hrunning, hlist]))
  · intro s x own hrunning hcandidate hown hpeer
    exact Leads.of_eq rfl (if_pos (by simp [hrunning, hcandidate])) (State.takeCandidate_forms (State.formCandidate_single hown hpeer))
  · intro s x own peer hrunning hcandidate hown hpeer
    exact Leads.of_eq rfl (if_pos (by simp [hrunning, hcandidate, hpeer]))
      (State.takeCandidate_forms (State.formCandidate_both hown hpeer))
  · intro s x hcandidate hpeer hcurrent
    exact exec_next rfl (if_neg (by simp [hpeer, hcurrent]))
  · intro s x c hrunning hadopted hcandidate hentries hmissing
    have hnumbering : (s.lane x).roll.numbering = c.entries := by simp [RollState.numbering, hadopted, hcandidate]
    refine exec_next rfl ?_
    unfold doWant
    dsimp only
    rw [hnumbering, State.upd_uid, if_neg (by simp [hrunning, hentries]), if_neg (by simpa using hmissing)]
    exact congrArg _ (State.rollFrame_congr (State.upd_get_self s x _ _) (State.upd_uid s x _) _ _ _)
  · intro s x limit c d rest hrunning hadopted hclosed hcandidate hentries hfirst hready hoffset
    obtain ⟨offered, he⟩ := doClose_closes hrunning hadopted hclosed hcandidate hentries hfirst hready hoffset
    obtain ⟨hroll, hnext⟩ := State.adopt_facts (s.upd x fun l => { l with roll := { l.roll with closed := true, offered := offered } }) x
      ⟨s.get x 0x240100, s.uid, s.closeFieldsOf x c, c.entries⟩
    obtain ⟨⟨⟨_, _, _, hsent⟩, hflow, -⟩, -⟩ := State.InRoll.sendClose
      (State.InRoll.self (s := (s.upd x fun l => { l with roll := { l.roll with closed := true, offered := offered } }).adopt x
        ⟨s.get x 0x240100, s.uid, s.closeFieldsOf x c, c.entries⟩)) ⟨s.get x 0x240100, s.uid, s.closeFieldsOf x c, c.entries⟩
    rw [State.upd_lane_self] at hroll
    refine Leads.of_eq rfl he ?_
    rw [hsent, hflow, hroll]
    exact ⟨rfl, rfl, rfl, hnext, hrunning⟩
  · intro s x limit c d rest hcandidate hentries hother
    refine exec_next rfl ?_
    unfold doClose
    dsimp only
    rw [hcandidate]
    exact if_pos (by simp [hentries, hother])
  · intro s x hwanted
    refine exec_next rfl ?_
    unfold doClose
    dsimp only
    split
    · rfl
    · exact if_pos (by simp [hwanted])
  · intro s x hrunning hadopted
    exact exec_next rfl (if_pos (by simp [hrunning, hadopted]))
  · intro s x own hrunning hcandidate hown hpeer hcurrent
    exact Leads.of_eq rfl (if_pos (by simp [hrunning, hcandidate, hcurrent]))
      (State.takeCandidate_forms (State.formCandidate_single hown hpeer))

end Sys2Proof.Machine

namespace Sys2Proof.Machine

/-! ### What an answer, and the end of a session, leave (R203, R213) -/

theorem lane_eq_or_peer (x y : LaneId) : y = x ∨ y = x.peer := by cases x <;> cases y <;> decide

/-- What the traffic of messages leaves of a lane: of it only the ports' queues, registers and sessions change. -/
def LaneState.Serves (l m : LaneState) : Prop :=
  ∃ port1 port2 reg sessions, m = { l with port1 := port1, port2 := port2, reg := reg, msg := { l.msg with sessions := sessions } }

namespace LaneState.Serves

variable {l₀ l m : LaneState}

theorem self : l₀.Serves l₀ := ⟨_, _, _, _, rfl⟩

theorem trans (h : l₀.Serves l) (h' : l.Serves m) : l₀.Serves m := by
  obtain ⟨_, _, _, _, rfl⟩ := h
  obtain ⟨port1, port2, reg, sessions, rfl⟩ := h'
  exact ⟨port1, port2, reg, sessions, rfl⟩

theorem put (h : l₀.Serves l) (k v : Nat) : l₀.Serves (l.put k v) := h.trans ⟨_, _, _, _, rfl⟩

theorem updSession (h : l₀.Serves l) (n : Nat) (f : Session → Session) : l₀.Serves (l.updSession n f) := h.trans ⟨_, _, _, _, rfl⟩

theorem ite {c : Prop} [Decidable c] (h : l₀.Serves l) (h' : l₀.Serves m) : l₀.Serves (if c then l else m) := by
  split <;> assumption

theorem emit (h : l₀.Serves l) (e : EndId) (f : OutFrame) : l₀.Serves (l.emit e f) := by
  obtain ⟨_, _, he⟩ := l.emit_regOnly e f
  refine h.trans ?_
  rw [he]
  cases e <;> exact ⟨_, _, _, _, rfl⟩

theorem emitTo (h : l₀.Serves l) (position : Nat) (f : OutFrame) : l₀.Serves (l.emitTo position f) := by
  unfold LaneState.emitTo
  split
  · exact h.emit _ f
  · exact (h.emit .e1 f).emit .e2 f

theorem sendMessage (h : l₀.Serves l) (x : LaneId) (uid : Option Nat) (position : Nat) (m : MsgFrame) :
    l₀.Serves (l.sendMessage x uid position m) := by
  unfold LaneState.sendMessage
  dsimp only
  split
  · exact h.emitTo _ _
  · exact (h.emit .e1 _).emit .e2 _

end LaneState.Serves

/-- What the traffic of messages, and the host front as its sessions end, leave of the module. -/
structure State.Serves (s t : State) : Prop where
  lane : ∀ x, (s.lane x).Serves (t.lane x)
  arb : t.arb = s.arb
  keeper : t.keeper = s.keeper
  registers : s.KeepsRegisters t

theorem State.KeepsRegisters.of_eq {s t : State} (h : t.mreg = s.mreg) : s.KeepsRegisters t := by
  have hget (k : Nat) : t.mget k = s.mget k := congrArg (tabGet regDefault k) h
  exact ⟨fun k _ => hget k, fun hc hb => ⟨h ▸ hc, (congrArg (bitAt · 7) (hget _)).trans hb⟩⟩

theorem State.KeepsRegisters.trans {s t u : State} (h : s.KeepsRegisters t) (h' : t.KeepsRegisters u) : s.KeepsRegisters u :=
  ⟨fun k hk => (h'.1 k hk).trans (h.1 k hk), fun hc hb => h'.2 (h.2 hc hb).1 (h.2 hc hb).2⟩

namespace State.Serves

variable {s t u : State}

theorem self : s.Serves s := ⟨fun _ => .self, rfl, rfl, .of_eq rfl⟩

theorem trans (h : s.Serves t) (h' : t.Serves u) : s.Serves u :=
  ⟨fun x => (h.lane x).trans (h'.lane x), h'.arb.trans h.arb, h'.keeper.trans h.keeper, h.registers.trans h'.registers⟩

theorem ite {c : Prop} [Decidable c] (h : s.Serves t) (h' : s.Serves u) : s.Serves (if c then t else u) := by
  split <;> assumption

theorem foldl {α : Type} {f : State → α → State} (h : s.Serves t) (xs : List α) (hf : ∀ t a, s.Serves t → s.Serves (f t a)) :
    s.Serves (xs.foldl f t) := List.foldlRecOn (motive := s.Serves) _ _ h fun t ht a _ => hf t a ht

theorem withHost (h : s.Serves t) (front : HostState) : s.Serves { t with host := front } :=
  h.trans ⟨fun x => by cases x <;> exact .self, rfl, rfl, .of_eq rfl⟩

theorem upd {f : LaneState → LaneState} (h : s.Serves t) (x : LaneId) (hf : ∀ l : LaneState, l.Serves (f l)) : s.Serves (t.upd x f) := by
  refine h.trans ⟨fun y => ?_, by simp, by simp, .of_eq (t.upd_mreg x f)⟩
  rcases lane_eq_or_peer x y with rfl | rfl
  · rw [State.upd_lane_self]
    exact hf _
  · rw [State.upd_lane_peer]
    exact .self

theorem updBoth {f : LaneState → LaneState} (h : s.Serves t) (hf : ∀ l : LaneState, l.Serves (f l)) : s.Serves (t.updBoth f) :=
  (h.upd .A hf).upd .B hf

theorem putNode (h : s.Serves t) (k v : Nat) : s.Serves (t.putNode k v) := h.updBoth fun _ => .put .self k v

/-- A register of the host front. -/
theorem mput (h : s.Serves t) {k : Nat} (hk : 0x580000 ≤ k) (hne : k ≠ 0x590003) (v : Nat) : s.Serves (t.mput k v) :=
  h.trans ⟨fun x => by rw [State.mput_lane]; exact .self, rfl, rfl,
    (State.HostFrame.mput (x := .A) .self hk hne v).registers⟩

theorem minc (h : s.Serves t) {k : Nat} (hk : 0x580000 ≤ k) (hne : k ≠ 0x590003) : s.Serves (t.minc k) := h.mput hk hne _

theorem winMinc (h : s.Serves t) (w : Nat) {n : Nat} (hn : 3 < n ∧ n < 256) : s.Serves (t.minc (winKey w n)) :=
  h.minc (by simp only [winKey, key]; omega) (by simp only [winKey, key]; omega)

theorem mark (h : s.Serves t) (b : Nat) : s.Serves (t.mput 0x590003 (withBit (t.mget 0x590003) b true)) :=
  h.trans ⟨fun x => by rw [State.mput_lane]; exact .self, rfl, rfl, (State.HostFrame.mark (x := .A) .self).registers⟩

theorem lateError (h : s.Serves t) (path addr code : Nat) : s.Serves (t.lateError path addr code) := by
  have hmarked := (((((h.mput (k := 0x590006) (by decide) (by decide) addr).mput (k := 0x590007) (by decide) (by decide) code).mput
    (k := 0x590008) (by decide) (by decide) ((t.lane (t.holder.getD .A)).trainTime % 2 ^ 64)).mput (k := 0x590009) (by decide)
    (by decide) path).minc (k := 0x590005) (by decide) (by decide)).mark 1
  exact .ite (hmarked.winMinc _ (by decide)) hmarked

/-! #### Messages and sessions -/

theorem updSession (h : s.Serves t) (n : Nat) (f : Session → Session) : s.Serves (t.updSession n f) := by
  unfold State.updSession
  split
  · exact h.upd _ fun _ => .updSession .self n f
  · exact h.updBoth fun _ => .ite (.updSession .self n f) .self

theorem sendMsg (h : s.Serves t) (uid position : Nat) (f : MsgFrame) : s.Serves (t.sendMsg uid position f) := by
  unfold State.sendMsg
  split
  case h_1 => exact h
  case h_2 x _ =>
    have hown := h.upd x fun _ => .sendMessage .self x (some uid) position f
    exact .ite (hown.upd x.peer fun _ => .sendMessage .self x.peer (some uid) position f) hown

theorem sendAnswer (h : s.Serves t) (b : Transfer) (kind status len off : Nat) (data : List Byte) (last : Bool) :
    s.Serves (t.sendAnswer b kind status len off data last) := (h.updSession _ _).sendMsg _ _ _

theorem answerStatus (h : s.Serves t) (x : LaneId) (b : Transfer) (status : Nat) : s.Serves (t.answerStatus x b status) :=
  .ite (h.sendAnswer _ _ _ _ _ _ _) h

theorem sendCancel (h : s.Serves t) (n : Nat) : s.Serves (t.sendCancel n) := by
  unfold State.sendCancel
  split
  · exact (h.updSession n _).sendMsg _ _ _
  · exact h

/-! #### The host's windows -/

theorem updWin (h : s.Serves t) (w : Nat) (f : Win → Win) : s.Serves (t.updWin w f) := h.withHost _

theorem respond (h : s.Serves t) (status words : Nat) (data : List Nat) (code : Nat) : s.Serves (t.respond status words data code) :=
  h.withHost _

theorem queuedDone (h : s.Serves t) (path : Nat) (r : HostReq) (code : Nat) : s.Serves (t.queuedDone path r code) :=
  .ite (h.withHost _) (.lateError (h.withHost _) _ _ _)

theorem windowWords (h : s.Serves t) (w n : Nat) (data : List Byte) : s.Serves (t.windowWords w n data).2 := by
  unfold State.windowWords
  split
  · exact .ite (h.mput (by decide) (by decide) _) h
  · exact h

theorem windowRead (h : s.Serves t) (w : Nat) (r : HostReq) (data : List Byte) : s.Serves (t.windowRead w r data) :=
  .ite ((((h.windowWords w _ data).updWin w _).respond _ _ _ _).winMinc _ (by decide)) (((h.windowWords w _ data).updWin w _).respond _ _ _ _)

theorem windowDone (h : s.Serves t) (w code : Nat) (data : List Byte) : s.Serves (t.windowDone w code data) := by
  unfold State.windowDone
  dsimp only
  split
  · next r _ =>
    have hdone := h.updWin w fun v => { v with active := none, posted := false }
    exact .ite (.queuedDone (.ite (hdone.updWin w _) hdone) w r _) (.ite ((hdone.respond _ _ _ _).winMinc _ (by decide)) (.ite (hdone.windowRead w r _)
      (.ite (.respond (hdone.windowWords w _ data) _ _ _ _) (.ite ((hdone.respond _ _ _ _).winMinc _ (by decide)) (hdone.respond _ _ _ _)))))
  · split
    · exact h
    · exact .ite ((h.updWin w _).winMinc _ (by decide)) (h.updWin w _)

theorem endSession (h : s.Serves t) (n code : Nat) : s.Serves (t.endSession n code) := by
  have hput := (h.updSession n fun k => { k with state := if code = 0 then 3 else 4 }).putNode (sesKey n 12) code
  exact .ite (hput.windowDone n code _) hput

theorem cancelPrefetch (h : s.Serves t) (w : Nat) : s.Serves (t.cancelPrefetch w) := by
  unfold State.cancelPrefetch
  split
  · exact h
  · exact ((h.updWin w _).sendCancel w).updSession w _

theorem dropQueued (h : s.Serves t) (w : Nat) : s.Serves (t.dropQueued w) :=
  (h.withHost _).foldl _ fun _ _ hu => hu.lateError _ _ _

theorem dropHeld (h : s.Serves t) (w : Nat) : s.Serves (t.dropHeld w) := .ite ((h.respond _ _ _ _).winMinc _ (by decide)) h

theorem retargetWindow (h : s.Serves t) (w : Nat) : s.Serves (t.retargetWindow w) :=
  .winMinc (.mark ((((State.Serves.ite (h.endSession w _) h).cancelPrefetch w).dropQueued w).dropHeld w) 9) _ (by decide)

theorem switchWindow (h : s.Serves t) (old : List DirEntry) (w : Nat) : s.Serves (t.switchWindow old w) :=
  .ite ((h.updWin w _).retargetWindow w) (h.updWin w _)

theorem switchWindows (h : s.Serves t) (old : List DirEntry) : s.Serves (t.switchWindows old) :=
  .ite h (.mark ((h.withHost _).foldl _ fun _ w hu => hu.switchWindow old w) 8)

theorem followWindows (h : s.Serves t) : s.Serves t.followWindows := by
  unfold State.followWindows
  split
  · exact h
  · exact (h.switchWindows _).withHost _

/-- The lane that holds possession goes on holding it. -/
theorem holder (h : s.Serves t) : t.holder = s.holder := by
  have hmode (x : LaneId) : (t.lane x).mode = (s.lane x).mode := by
    obtain ⟨_, _, _, _, he⟩ := h.lane x
    rw [he]
  have hA : t.laneA.mode = s.laneA.mode := hmode .A
  have hB : t.laneB.mode = s.laneB.mode := hmode .B
  unfold State.holder
  rw [hA, hB]

end State.Serves

end Sys2Proof.Machine

namespace Sys2Proof.Machine

/-! ### Message requests at the target (O47) -/

/-- A request that the target lane takes up (R204). -/
theorem doMessageRequest_addressed {s : State} {x : LaneId} {m : MsgFrame} (hready : (s.lane x).ready = true) (hkind : m.kind = 1)
    (hsession : m.session.toNat < 128) (hok : msgOk m = true) : doMessageRequest x m s = s.addressRequest x m := by
  rw [doMessageRequest, if_neg (by simp [hready, hkind, hsession]), if_neg (by simp [hok])]

/-- A request by UID for this node is judged (R205). -/
theorem State.addressRequest_own {s : State} {x : LaneId} {m : MsgFrame} (huid : bitAt m.selection.toNat 5 = false)
    (htarget : m.target.toNat = s.uid) : s.addressRequest x m = s.judgeRequest x m := by
  rw [State.addressRequest]
  refine (if_neg (by simp [huid])).trans (if_neg (by simp [htarget]))

/-- The lane that holds possession is in possession. -/
theorem State.holder_mode {s : State} {x : LaneId} (h : s.holder = some x) : (s.lane x).mode = .possession := by
  unfold State.holder at h
  split at h
  case isTrue hA => exact Option.some.inj h ▸ hA
  case isFalse =>
    split at h
    case isTrue hB => exact Option.some.inj h ▸ hB
    case isFalse => exact absurd h (by simp)

/-- A lane that stays in possession goes on holding it where no other lane gains it (R78). -/
theorem State.Keeps.holder {s t : State} {x : LaneId} (h : State.Keeps none s t) (hholder : s.holder = some x)
    (hmode : (t.lane x).mode = .possession) : t.holder = some x := by
  have hown := State.holder_mode hholder
  cases x with
  | A => exact if_pos hmode
  | B =>
    have hsA : s.laneA.mode ≠ .possession := fun hA => absurd (hholder.symm.trans (if_pos hA)) (by simp)
    have htA : t.laneA.mode ≠ .possession := fun hA => hsA ((h.2.1.1 hA).resolve_left (by simp))
    exact (if_neg htA).trans (if_pos hmode)

/-- A request whose transaction has its session's record is answered from it, and one that is older counts (R211). -/
theorem State.judgeRequest_recorded {s : State} {x : LaneId} {m : MsgFrame} {r : AnswerRec} (hknown : knownOp m.op.toNat = true)
    (hrecord : (s.lane x).answerRec m.srcUid.toNat m.session.toNat = some r) :
    s.judgeRequest x m = if r.transaction = m.transaction.toNat then s.fromRecord x m r
      else if newer32 m.transaction.toNat r.transaction then s.newRequest x m else s.inc x 0x39F003 := by
  unfold State.judgeRequest
  refine (if_neg (by simp [Transfer.ofMsg, hknown])).trans ?_
  rw [show (s.lane x).answerRec (Transfer.ofMsg m).uid (Transfer.ofMsg m).session = some r from hrecord]
  rfl

theorem State.judgeRequest_new {s : State} {x : LaneId} {m : MsgFrame} (hknown : knownOp m.op.toNat = true)
    (hrecord : (s.lane x).answerRec m.srcUid.toNat m.session.toNat = none) : s.judgeRequest x m = s.newRequest x m := by
  unfold State.judgeRequest
  refine (if_neg (by simp [Transfer.ofMsg, hknown])).trans ?_
  rw [show (s.lane x).answerRec (Transfer.ofMsg m).uid (Transfer.ofMsg m).session = none from hrecord]

/-- A request that is whole in one frame, with no buffer or freed transaction of its session, is executed. -/
theorem State.newRequest_whole {s : State} {x : LaneId} {m : MsgFrame}
    (hbuffer : (s.lane x).buffer m.srcUid.toNat m.session.toNat = none)
    (hfreed : (s.lane x).isFreed m.srcUid.toNat m.session.toNat m.transaction.toNat = false) (hwhole : m.length.toNat ≤ m.data.length) :
    s.newRequest x m = s.execute x (Transfer.ofMsg m) m.data := by
  unfold State.newRequest
  dsimp only [Transfer.ofMsg]
  rw [hbuffer, hfreed]
  exact (if_neg (by simp)).trans (if_neg (by omega))

/-- A write of exchange memory in one frame has a length that the profile takes (R200). -/
theorem opLengthCode_write {m : MsgFrame} (hop : m.op = 4) (hkind : m.kind = 1) (hok : msgOk m = true) (hdata : m.data ≠ [])
    (hlength : m.length.toNat = m.data.length) : opLengthCode 4 m.length.toNat = 0 := by
  have hnonempty : m.data.length ≠ 0 := by simpa using hdata
  have hshort : m.data.length ≤ 1024 := by
    unfold msgOk at hok
    simp [hop, hkind, isWriteOp] at hok
    omega
  rw [opLengthCode, if_neg (by decide), if_neg (by omega), if_neg (by omega)]

theorem State.ready_of_holder {s : State} {x : LaneId} (h : s.holder = some x) : (s.lane x).ready = true :=
  LaneState.ready_of_possession (State.holder_mode h)

/-- A write never reads (R201). -/
theorem isReadOp_of_isWriteOp {op : Nat} (h : isWriteOp op = true) : isReadOp op = false := by
  simp only [isWriteOp, decide_eq_true_eq] at h
  rcases h with rfl | rfl | rfl | rfl | rfl <;> decide

theorem knownOp_of_isWriteOp {op : Nat} (h : isWriteOp op = true) : knownOp op = true := by simp [knownOp, h]

/-! #### A write of exchange memory -/

/-- Lane x after a write of exchange memory in one frame: its bytes and its record (R206, R212). -/
def LaneState.written (l : LaneState) (object : Nat) (data : List Byte) (r : AnswerRec) : LaneState :=
  (({ l with xmem := tabSetAll (fun _ => 0) object data l.xmem } : LaneState).keepRecord r).inc 0x39F001

theorem LaneState.keepRecord_answerRec (l : LaneState) (r : AnswerRec) : (l.keepRecord r).answerRec r.uid r.session = some r := by
  unfold LaneState.keepRecord LaneState.answerRec
  extract_lets others kept
  have hothers : ∀ q ∈ others, ¬ (q.uid = r.uid ∧ q.session = r.session) := fun q hq hsame =>
    absurd (List.of_mem_filter hq) (by simp [hsame])
  have hkept : ∀ q ∈ kept, ¬ (q.uid = r.uid ∧ q.session = r.session) := by
    change ∀ q ∈ (if others.length < 1024 then others else others.drop 1), _
    split
    · exact hothers
    · exact fun q hq => hothers q (List.mem_of_mem_drop hq)
  have hnone : kept.find? (fun q => decide (q.uid = r.uid ∧ q.session = r.session)) = none :=
    List.find?_eq_none.mpr fun q hq => by simpa using hkept q hq
  rw [List.find?_append, hnone]
  simp

/-- A write that reaches lane x through the acting selector. -/
theorem State.fanOut_acting {s : State} {x : LaneId} (hreached : (s.lane x).reached = true) (f : LaneState → LaneState) :
    (s.fanOut .acting f).lane x = f (s.lane x) := by
  simp only [State.fanOut, State.fanOutEach, State.owes_lane]
  cases x
  · have hA : s.laneA.reached = true := hreached
    rw [if_pos hA]
    split <;> rfl
  · have hB : s.laneB.reached = true := hreached
    rw [if_pos hB]
    split <;> rfl

theorem State.updMirrored_lane (s : State) (x : LaneId) (f : LaneState → LaneState) : (s.updMirrored x f).lane x = f (s.lane x) := by
  unfold State.updMirrored
  dsimp only
  split <;> cases x <;> rfl

section Write

variable {s : State} {x : LaneId} {t : Transfer} {data : List Byte} (hop : t.op = 4) (hwrite : t.write = true)
  (hsel : selOf t.selection = some .acting) (hlength : opLengthCode 4 t.length = 0) (hfits : xmemOk t.object data.length = true)

include hop hsel hlength hfits

theorem State.operate_write : s.operate x .remote t data = (s.writeXmem t.object data).answer 0 := by
  have hmemory : s.runMemory x .acting t data = (s.writeXmem t.object data).answer 0 := by
    unfold State.runMemory
    rw [hop]
    exact if_pos hfits
  have hrun : s.runOp x .remote t data = (s.writeXmem t.object data).answer 0 := by
    unfold State.runOp
    dsimp only
    rw [hop, hsel]
    exact (if_neg (by decide)).trans hmemory
  unfold State.operate
  dsimp only
  rw [hop, hrun, hlength]
  exact (if_pos (.inl rfl)).trans (if_neg (by decide))

/-- What the write leaves at lane x before its record: the bytes, and an answer without an abort. -/
theorem State.outcome_write (hreached : (s.lane x).reached = true) (done : Bool) :
    (s.outcome x t data done).ans = ⟨0, 0, []⟩ ∧
      (s.outcome x t data done).lane x = { s.lane x with xmem := tabSetAll (fun _ => 0) t.object data (s.lane x).xmem } := by
  have hlane : ((s.writeXmem t.object data).answer 0).lane x =
      { s.lane x with xmem := tabSetAll (fun _ => 0) t.object data (s.lane x).xmem } :=
    (State.answer_lane _ _ _).trans (State.fanOut_acting hreached _)
  have he : s.outcome x t data done = if t.write && (done || !s.mirrorsTo x) then
      { ((s.writeXmem t.object data).answer 0).setLane x.peer (s.lane x.peer) with ans := ((s.writeXmem t.object data).answer 0).ans }
      else (s.writeXmem t.object data).answer 0 := by
    unfold State.outcome
    rw [State.operate_write hop hsel hlength hfits, hsel]
    exact if_neg (by simp)
  rw [he]
  split
  · refine ⟨rfl, Eq.trans ?_ hlane⟩
    cases x <;> rfl
  · exact ⟨rfl, hlane⟩

include hwrite

/-- A write of exchange memory that the lane in possession executes (R206, R212). -/
theorem State.executeHolder_write (hreached : (s.lane x).reached = true) (hroom : (s.lane x).msg.records.length < 1024)
    (hbuffer : (s.lane x).buffer t.uid t.session = none) :
    ∃ (u : State) (time : Nat), s.executeHolder x t data = u.answerStatus x t 0 ∧
      u.lane x = (s.lane x).written t.object data ⟨t.uid, t.session, t.transaction, 0, time, t.side⟩ := by
  obtain ⟨done, hdone⟩ : ∃ done, done = (t.write &&
    ((s.lane x.peer).answerRec t.uid t.session).any (fun r => decide (r.transaction = t.transaction))) := ⟨_, rfl⟩
  obtain ⟨hans, hlane⟩ := State.outcome_write hop hsel hlength hfits hreached done
  have hbusy : s.noRoom x t = false := by simp [State.noRoom, LaneState.recordRoom, hroom, hop, isReadOp]
  refine ⟨((s.outcome x t data done).updMirrored x fun l => l.endTransfer t).recordDone x t,
    ((s.outcome x t data done).updMirrored x fun l => l.endTransfer t).clock, ?_, ?_⟩
  · unfold State.executeHolder
    rw [← hdone]
    dsimp only
    rw [hans, hbusy, hwrite, hop]
    rfl
  · have hended : LaneState.endTransfer ((s.outcome x t data done).lane x) t = (s.outcome x t data done).lane x := by
      rw [hlane]
      unfold LaneState.endTransfer
      exact if_neg fun h => by
        change ((s.lane x).buffer t.uid t.session).any (fun b => decide (b.transaction = t.transaction)) = true at h
        simp [hbuffer] at h
    unfold State.recordDone
    refine (State.upd_lane_self _ x _).trans ?_
    rw [State.updMirrored_lane, State.updMirrored_lane, hended, hlane]
    rfl

end Write

/-- Settles O47: what is not executed counts and is answered, and what is executed leaves its record. -/
theorem targetRequests : Obligations.TargetRequests := by
  unfold Obligations.TargetRequests
  refine ⟨?_, ?_, ?_, ?_, ?_, ?_⟩
  · intro s x m hready
    exact exec_next rfl (if_pos (by simp [hready]))
  · intro s x m hready hkind hsession hok huid htarget
    refine exec_next rfl ((doMessageRequest_addressed hready hkind hsession hok).trans ?_)
    rw [State.addressRequest]
    refine (if_neg (by simp [huid])).trans ((if_pos htarget).trans ?_)
    exact if_pos hready
  · intro s x m hholder hkind hsession hok hposition hstamp
    refine exec_next rfl ((doMessageRequest_addressed (State.ready_of_holder hholder) hkind hsession hok).trans ?_)
    rw [State.addressRequest]
    refine (if_pos hposition).trans ((if_neg (fun h => hstamp h.1)).trans ?_)
    exact if_pos hholder
  · intro s x m r hholder hkind hsession hok huid htarget hop hrecord htransaction
    refine exec_next rfl ((doMessageRequest_addressed (State.ready_of_holder hholder) hkind hsession hok).trans ?_)
    have hknown := knownOp_of_isWriteOp hop
    have hread := isReadOp_of_isWriteOp hop
    have hfrom : s.fromRecord x m r = (s.inc x 0x39F002).answerStatus x (Transfer.ofMsg m) r.status := by
      unfold State.fromRecord
      exact (if_neg (by simp [hholder])).trans (if_pos (by simpa [Transfer.ofMsg] using hread))
    rw [State.addressRequest_own huid htarget, State.judgeRequest_recorded hknown hrecord, if_pos htransaction, hfrom]
  · intro s x m r hready hkind hsession hok huid htarget hknown hrecord htransaction hnewer
    refine exec_next rfl ((doMessageRequest_addressed hready hkind hsession hok).trans ?_)
    rw [State.addressRequest_own huid htarget, State.judgeRequest_recorded hknown hrecord, if_neg htransaction,
      if_neg (ne_true_of_eq_false hnewer)]
  · intro s x m hcanon hholder hkind hsession hok hselection htarget hop hdata hlength hfits hrecord hroom hbuffer hfreed hreached
    have hkeeps := State.Keeps.doMessageRequest (State.Keeps.self (a := none) (s := s)) x m
    obtain ⟨u, time, he, hlane⟩ := State.executeHolder_write (s := s) (x := x) (t := Transfer.ofMsg m) (data := m.data)
      (by simp [Transfer.ofMsg, hop]) (by simp [Transfer.ofMsg, hop, isWriteOp]) (by simp [Transfer.ofMsg, hselection, selOf])
      (opLengthCode_write hop hkind hok hdata hlength) (decide_eq_true hfits) hreached hroom hbuffer
    have hdo : doMessageRequest x m s = u.answerStatus x (Transfer.ofMsg m) 0 := by
      rw [doMessageRequest_addressed (State.ready_of_holder hholder) hkind hsession hok,
        State.addressRequest_own (by simp [hselection, bitAt]) htarget, State.judgeRequest_new (by simp [hop, knownOp, isWriteOp]) hrecord,
        State.newRequest_whole hbuffer hfreed (by omega), State.execute, if_pos hholder, he]
    obtain ⟨_, _, _, _, hserved⟩ := (State.Serves.self.answerStatus (s := u) x (Transfer.ofMsg m) 0).lane x
    rw [hlane] at hserved
    rw [hdo] at hkeeps
    refine Leads.of_eq rfl hdo ⟨?_, ?_, ⟨⟨m.srcUid.toNat, m.session.toNat, m.transaction.toNat, 0, time, (Transfer.ofMsg m).side⟩, ?_, rfl, rfl⟩, hkeeps.holder hholder ?_, ?_⟩
    · rw [hserved]
      exact tabGetAll_tabSetAll _ _ (lane_canon hcanon x).2.1
    · rw [hserved]
      exact fun k hk => tabGet_tabSetAll_outside _ _ hk
    · rw [hserved]
      exact LaneState.keepRecord_answerRec
        { s.lane x with xmem := tabSetAll (fun _ => 0) m.object.toNat m.data (s.lane x).xmem }
        ⟨m.srcUid.toNat, m.session.toNat, m.transaction.toNat, 0, time, (Transfer.ofMsg m).side⟩
    · rw [hserved]
      exact State.holder_mode hholder
    · rw [hserved]
      rfl

end Sys2Proof.Machine

namespace Sys2Proof.Machine

/-! ### Grant, release, and acquisition by the interlock pair (O8) -/

/-- A lane keeps its mode, its possession and its exchange memory. -/
def LaneState.Stands (l m : LaneState) : Prop := m.mode = l.mode ∧ m.poss = l.poss ∧ m.xmem = l.xmem

namespace LaneState.Stands

variable {l m n : LaneState}

theorem self : l.Stands l := ⟨rfl, rfl, rfl⟩

theorem trans (h : l.Stands m) (h' : m.Stands n) : l.Stands n := ⟨h'.1.trans h.1, h'.2.1.trans h.2.1, h'.2.2.trans h.2.2⟩

theorem of_works (h : l.Works m) : l.Stands m := by
  obtain ⟨_, _, _, _, _, _, rfl⟩ := h
  exact .self

theorem of_serves (h : l.Serves m) : l.Stands m := by
  obtain ⟨_, _, _, _, rfl⟩ := h
  exact .self

theorem record (l : LaneState) (holdUp : Bool) (code : Nat) (data : List Byte) : l.Stands (l.record holdUp code data) := by
  obtain ⟨log, reg, he, -⟩ := l.record_frame holdUp code data
  rw [he]
  exact .self

theorem put (l : LaneState) (k v : Nat) : l.Stands (l.put k v) := .self

theorem ite {c : Prop} [Decidable c] (h : l.Stands m) (h' : l.Stands n) : l.Stands (if c then m else n) := by
  split <;> assumption

theorem renewSubscriptions (l : LaneState) : l.Stands l.renewSubscriptions := .self

theorem takePulse (l : LaneState) (level : Bool) : l.Stands (l.takePulse level) := .self

theorem renewBuffers (l : LaneState) : l.Stands l.renewBuffers :=
  List.foldlRecOn (motive := l.Stands) _ _ .self fun _ hl _ _ => .ite (hl.trans (.put _ _ _)) hl

end LaneState.Stands

/-- Both lanes stand, and arbiter, keeper and the module's registers stay. -/
structure State.Stands (s t : State) : Prop where
  lane : ∀ x, (s.lane x).Stands (t.lane x)
  arb : t.arb = s.arb
  keeper : t.keeper = s.keeper
  mreg : t.mreg = s.mreg

namespace State.Stands

variable {s t u : State}

theorem self : s.Stands s := ⟨fun _ => .self, rfl, rfl, rfl⟩

theorem trans (h : s.Stands t) (h' : t.Stands u) : s.Stands u :=
  ⟨fun x => (h.lane x).trans (h'.lane x), h'.arb.trans h.arb, h'.keeper.trans h.keeper, h'.mreg.trans h.mreg⟩

theorem ite {c : Prop} [Decidable c] (h : s.Stands t) (h' : s.Stands u) : s.Stands (if c then t else u) := by
  split <;> assumption

theorem upd (h : s.Stands t) (x : LaneId) {f : LaneState → LaneState} (hf : ∀ l : LaneState, l.Stands (f l)) : s.Stands (t.upd x f) := by
  refine h.trans ⟨fun y => ?_, by simp, by simp, t.upd_mreg x f⟩
  rcases lane_eq_or_peer x y with rfl | rfl
  · rw [State.upd_lane_self]
    exact hf _
  · rw [State.upd_lane_peer]
    exact .self

theorem putNode (h : s.Stands t) (k v : Nat) : s.Stands (t.putNode k v) := (h.upd .A fun l => .put l k v).upd .B fun l => .put l k v

theorem record (h : s.Stands t) (x : LaneId) (code : Nat) (data : List Byte) : s.Stands (t.record x code data) := h.upd x fun l => .record l _ code data

theorem abandonUpdate (h : s.Stands t) (x : LaneId) : s.Stands (t.abandonUpdate x) :=
  .ite (State.Stands.record (State.Stands.upd h x (f := fun l => { l.put 0x112000 0 with
    upd := { l.upd with image := [], erased := false, length := 0 } }) fun _ => ⟨rfl, rfl, rfl⟩) x _ _) h

theorem takeOver (h : s.Stands t) (x : LaneId) : s.Stands (t.takeOver x) := by
  unfold State.takeOver
  extract_lets p master s₁
  have h₁ : s.Stands s₁ := by
    refine h.upd x fun l => ?_
    extract_lets l₁ l₂ l₃
    have hl₁ : l.Stands l₁ := ((LaneState.Stands.renewSubscriptions l).trans (.renewBuffers _)).trans (.takePulse _ _)
    have hl₂ : l.Stands l₂ := hl₁.trans (.of_works (.withField .self _))
    have hl₃ : l.Stands l₃ := hl₂.trans (.of_works (.drivePins .self))
    exact .ite ((hl₃.trans (.put _ _ _)).trans (.put _ _ _)) hl₃
  split
  · exact h₁.upd _ fun l => .put l _ _
  · exact h₁

end State.Stands

/-! #### Taking possession -/

/-- Possession as the lane that acquires has it (R78). -/
def Poss.taken (p : Poss) (clock : Nat) : Poss :=
  { p with
    frozen := false, changing := false, limitPassed := false, acq := .idle, request := false
    upNoHolder := false, ackedAt := clock, epoch := (p.epoch + 1) % 256, hold := false
    lease := !p.interlock, pump := p.interlock }

/-- The arbiter as an acquisition leaves it. -/
def Arbiter.grants (a : Arbiter) (x : LaneId) (interlock : Bool) : Arbiter :=
  { a with
    lastHolder := some x
    holder := if interlock then a.holder else some x
    expired := false, released := false, granted := true
    planned := none
    checking := if a.planned = some x then some x else none
    mismatch := 0 }

/-- The state in which lane x has taken possession, before its registers, its record and its outputs follow. -/
def State.taking (s : State) (x : LaneId) : State :=
  { (s.upd x fun l => { l with mode := .possession, poss := l.poss.taken s.clock }).upd x.peer fun l =>
      { l with poss := { l.poss with changing := false } } with
    keeper := { s.keeper with tossPending := false, tossWindow := false, askedA := false }
    arb := s.arb.grants x (s.lane x).poss.interlock }

theorem State.acquire_stands (s : State) (x : LaneId) (cause : Nat) : ∃ u v : State, (s.taking x).Stands u ∧
    u.possessionCause.Stands v ∧ s.acquire x cause = v := by
  refine ⟨_, _, ?_, State.Stands.self.takeOver x, rfl⟩
  refine .abandonUpdate (.record (.putNode (.putNode ?_ _ _) _ _) x _ _) x
  have hwatched : (s.taking x).Stands ((s.taking x).upd x LaneState.watchOutputs) :=
    State.Stands.self.upd x fun l => .of_works (.eachPin .self fun _ n hl => hl.updPin n _)
  cases x <;> exact .ite (hwatched.putNode _ _) hwatched

/-- The bit of a change of possession is set (R426). -/
theorem State.possessionCause_bit {s : State} (h : tabCanon regDefault s.mreg = true) :
    tabCanon regDefault s.possessionCause.mreg = true ∧ bitAt (s.possessionCause.mget 0x590003) 7 = true := by
  refine ⟨tabCanon_tabSet _ _ h, ?_⟩
  have hget : s.possessionCause.mget 0x590003 = withBit (s.mget 0x590003) 7 true % 2 ^ 32 :=
    (tabGet_tabSet_self _ _ h).trans (by rw [regWidth_cause])
  rw [hget, bitAt, Nat.testBit_mod_two_pow, testBit_withBit_self]
  rfl

/-- The state in which lane x has taken possession, with its peer's resync begun where its mirror came up while no lane held
possession (R81, R98). -/
theorem State.take_lanes (s : State) (x : LaneId) :
    (((s.taking x).lane x).Stands (((s.take x).followWindows).lane x)) ∧
      (((s.take x).followWindows).lane x.peer).mode = (s.lane x.peer).mode ∧
      (((s.take x).followWindows).lane x.peer).poss.resync =
        ((s.lane x.peer).poss.resync || ((s.lane x.peer).poss.mirrorUp && (s.lane x.peer).poss.upNoHolder)) := by
  obtain ⟨u, v, hu, hv, he⟩ := s.acquire_stands x (s.acquireCause x)
  have hfollow := State.Serves.self (s := s.take x) |>.followWindows
  have htake : s.take x = v.upd x.peer fun l => { l with poss := { l.poss with
      resync := l.poss.resync || (l.poss.mirrorUp && l.poss.upNoHolder), upNoHolder := false } } := by rw [← he]; rfl
  have hown := LaneState.Stands.of_serves (hfollow.lane x)
  obtain ⟨hmode, hposs, -⟩ := LaneState.Stands.of_serves (hfollow.lane x.peer)
  obtain ⟨hmode', hposs', -⟩ := (hu.lane x.peer).trans (hv.lane x.peer)
  have hlane : (s.take x).lane x = v.lane x := by rw [htake]; cases x <;> rfl
  have hpeer : (s.taking x).lane x.peer = { s.lane x.peer with poss := { (s.lane x.peer).poss with changing := false } } := by
    cases x <;> rfl
  rw [hlane] at hown
  rw [hpeer] at hmode' hposs'
  refine ⟨((hu.lane x).trans (hv.lane x)).trans hown, hmode.trans ?_, ?_⟩
  · rw [htake, State.upd_lane_self]
    exact hmode'
  · rw [hposs, htake, State.upd_lane_self, hposs']

theorem State.take_module (s : State) (x : LaneId) :
    ((s.take x).followWindows).arb = s.arb.grants x (s.lane x).poss.interlock ∧
      ((s.take x).followWindows).keeper = { s.keeper with tossPending := false, tossWindow := false, askedA := false } ∧
      (Canon s → bitAt (((s.take x).followWindows).mget 0x590003) 7 = true) := by
  obtain ⟨u, v, hu, hv, he⟩ := s.acquire_stands x (s.acquireCause x)
  have hfollow := State.Serves.self (s := s.take x) |>.followWindows
  have htake : s.take x = v.upd x.peer fun l => { l with poss := { l.poss with
      resync := l.poss.resync || (l.poss.mirrorUp && l.poss.upNoHolder), upNoHolder := false } } := by rw [← he]; rfl
  refine ⟨hfollow.arb.trans ?_, hfollow.keeper.trans ?_, fun hcanon => ?_⟩
  · rw [htake, State.upd_arb, hv.arb]
    exact hu.arb
  · rw [htake, State.upd_keeper, hv.keeper]
    exact hu.keeper
  · have hcanonU : tabCanon regDefault u.mreg = true := by
      rw [hu.mreg]
      cases x <;> exact hcanon.1
    have hmreg : (s.take x).mreg = u.possessionCause.mreg := by rw [htake, State.upd_mreg, hv.mreg]
    obtain ⟨hc, hbit⟩ := State.possessionCause_bit hcanonU
    exact (hfollow.registers.2 (hmreg ▸ hc) ((congrArg (fun r => bitAt (tabGet regDefault 0x590003 r) 7) hmreg).trans hbit)).2

theorem State.taking_lane (s : State) (x : LaneId) :
    (s.taking x).lane x = { s.lane x with mode := .possession, poss := (s.lane x).poss.taken s.clock } := by cases x <;> rfl

/-- Settles O8: what a change of possession leaves behind it is what the host front and the windows do not reach. -/
theorem grantReleaseAndInterlock : Obligations.GrantReleaseAndInterlock := by
  unfold Obligations.GrantReleaseAndInterlock
  refine ⟨?_, ?_, ?_, ?_, ?_, ?_, ?_, ?_, ?_, ?_, ?_, ?_, ?_, ?_, ?_, ?_⟩
  · intro s x hcanon hmode
    obtain ⟨cause, hcause⟩ : ∃ cause, cause = (if s.arb.planned.isSome then 2 else if (s.lane x).poss.interlock then 4 else 1) := ⟨_, rfl⟩
    have hframe := State.release_frame hmode cause
    obtain ⟨reg, field, msg, hown⟩ := hframe.own
    obtain ⟨m, hpeer⟩ := hframe.peer
    rw [State.releasing_lane] at hown
    rw [State.releasing_peer] at hpeer
    have harb : (s.release x cause).arb = s.arb.told ((s.lane x).poss.interlock || (s.lane x).poss.arbLink) s.clock := hframe.arb
    have hcanonR : tabCanon regDefault (s.releasing x cause).mreg = true := by cases x <;> exact hcanon.1
    obtain ⟨hc, hbit⟩ := State.possessionCause_bit hcanonR
    have he : doRelease x s = s.release x cause := by rw [doRelease, hcause]
    refine Leads.of_eq rfl he ?_
    rw [hown, hpeer, harb]
    refine ⟨rfl, rfl, rfl, rfl, rfl, hcause, fun htold => ?_, fun hinterlock hlink => ?_, rfl, rfl, rfl, rfl, rfl, rfl,
      (hframe.registers.2 hc hbit).2⟩
    · have htold' : ((s.lane x).poss.interlock || (s.lane x).poss.arbLink) = true := by simpa using htold
      rw [htold']
      exact ⟨rfl, rfl⟩
    · rw [hinterlock, hlink]
      rfl
  · intro s x hmode
    exact exec_next rfl (State.release_other hmode _)
  · intro s x hcanon hgrant
    obtain ⟨⟨hmode, hposs, hxmem⟩, hpeer, hresync⟩ := s.take_lanes x
    obtain ⟨harb, hkeeper, hbit⟩ := s.take_module x
    have hinterlock : (s.lane x).poss.interlock = false := by
      simp only [State.mayGrant, Bool.and_eq_true, Bool.not_eq_true'] at hgrant
      exact hgrant.1.1.1.1.2
    rw [State.taking_lane] at hmode hposs hxmem
    rw [hinterlock] at harb
    have he : doGrant x s = (s.take x).followWindows := if_pos hgrant
    refine Leads.of_eq rfl he ⟨hmode, ?_⟩
    rw [hposs, harb, hkeeper]
    refine ⟨rfl, ?_, rfl, rfl, rfl, rfl, rfl, rfl, rfl, hpeer, hresync, hbit hcanon, hxmem⟩
    simp [Poss.taken, hinterlock]
  · intro s x hgrant
    exact exec_next rfl (if_neg (ne_true_of_eq_false hgrant))
  · intro s x hview
    simp [State.mayGrant, hview]
  · intro s x hhigh
    simp [State.mayGrant, State.eligible, State.fit, hhigh]
  · intro s x hawake hinterlock
    exact exec_next rfl (if_neg (by simp [hawake, hinterlock]))
  · intro s hinterlock heligible hhold hreading hidle hchanging
    exact exec_next rfl ((if_pos (by
      have hB : (s.lane .B) = s.laneB := rfl
      simp [State.mayAcquire, hB, hinterlock, heligible, hhold, hreading, hidle, hchanging])).trans (if_neg (by simp)))
  · intro s hchanging htoss
    exact exec_next rfl (if_neg (by simp [State.mayAcquire, hchanging, htoss]))
  · intro s x hconfirming hreading heligible hhold hchanging
    exact exec_next rfl ((if_neg (by simp [hconfirming])).trans
      (if_pos (by simp [State.mayAcquire, hreading, heligible, hhold, hchanging])))
  · intro s x hconfirming hreading
    exact exec_next rfl ((if_neg (by simp [hconfirming])).trans (if_neg (by simp [State.mayAcquire, hreading])))
  · intro s x hraised hacquire hinterlock
    obtain ⟨⟨hmode, hposs, -⟩, hpeer, -⟩ := s.take_lanes x
    rw [State.taking_lane] at hmode hposs
    have hreading : s.pairReading x = .notActing := by
      simp only [State.mayAcquire, Bool.and_eq_true, decide_eq_true_eq] at hacquire
      exact hacquire.1.2
    have he : doInterlockRecheck x s = (s.take x).followWindows := by
      unfold doInterlockRecheck
      exact (if_neg (by simp [hraised])).trans ((if_pos hreading).trans (if_pos hacquire))
    refine Leads.of_eq rfl he ⟨hmode, ?_⟩
    rw [hposs]
    refine ⟨hinterlock, ?_, rfl, hpeer⟩
    simp [Poss.taken, hinterlock]
  · intro s x hraised hreading heligible
    refine exec_next rfl ?_
    unfold doInterlockRecheck
    exact (if_neg (by simp [hraised])).trans ((if_pos hreading).trans (if_neg (by simp [State.mayAcquire, heligible])))
  · intro s hraised hreading
    refine exec_next rfl ?_
    unfold doInterlockRecheck
    exact (if_neg fun h => h.1 hraised).trans (if_neg hreading)
  · intro s hraised hreading
    refine exec_next rfl ?_
    unfold doInterlockRecheck
    exact (if_neg fun h => h.1 hraised).trans (if_neg hreading)
  · intro s x hmode hinterlock hreading
    exact exec_next rfl (if_pos ⟨hmode, hinterlock, hreading⟩)

end Sys2Proof.Machine

namespace Sys2Proof.Machine

/-! ### The mirror link and what it carries (O6) -/

/-- A lane keeps its mode, its possession but for what it was told of its peer's recorder, its sessions, records, locks and mail,
and its exchange memory. -/
def LaneState.Carries (l m : LaneState) : Prop :=
  m.mode = l.mode ∧ (∃ told, m.poss = { l.poss with peerFailTold := told }) ∧ m.msg = l.msg ∧ m.xmem = l.xmem

namespace LaneState.Carries

variable {l₀ l m : LaneState}

theorem self : l₀.Carries l₀ := ⟨rfl, ⟨_, rfl⟩, rfl, rfl⟩

theorem trans (h : l₀.Carries l) (h' : l.Carries m) : l₀.Carries m := by
  obtain ⟨hmode, ⟨_, hposs⟩, hmsg, hxmem⟩ := h
  obtain ⟨hmode', ⟨told, hposs'⟩, hmsg', hxmem'⟩ := h'
  exact ⟨hmode'.trans hmode, ⟨told, by rw [hposs', hposs]⟩, hmsg'.trans hmsg, hxmem'.trans hxmem⟩

theorem of_same (hmode : m.mode = l.mode) (hposs : m.poss = l.poss) (hmsg : m.msg = l.msg) (hxmem : m.xmem = l.xmem) : l.Carries m :=
  ⟨hmode, ⟨_, hposs⟩, hmsg, hxmem⟩

theorem ite {c : Prop} [Decidable c] (h : l₀.Carries l) (h' : l₀.Carries m) : l₀.Carries (if c then l else m) := by
  split <;> assumption

theorem foldl {α : Type} {f : LaneState → α → LaneState} (h : l₀.Carries l) (xs : List α)
    (hf : ∀ l a, l₀.Carries l → l₀.Carries (f l a)) : l₀.Carries (xs.foldl f l) :=
  List.foldlRecOn (motive := l₀.Carries) _ _ h fun l hl a _ => hf l a hl

/-! #### Registers, car bus, time, flows and the field side -/

theorem withReg (h : l₀.Carries l) (r : Regs) : l₀.Carries { l with reg := r } := h.trans (.of_same rfl rfl rfl rfl)

theorem withCan (h : l₀.Carries l) (c : CanState) : l₀.Carries { l with can := c } := h.trans (.of_same rfl rfl rfl rfl)

theorem withTime (h : l₀.Carries l) (c : TimeState) : l₀.Carries { l with time := c } := h.trans (.of_same rfl rfl rfl rfl)

theorem withFlow (h : l₀.Carries l) (c : FlowState) : l₀.Carries { l with flow := c } := h.trans (.of_same rfl rfl rfl rfl)

theorem withField (h : l₀.Carries l) (c : FieldState) : l₀.Carries { l with field := c } := h.trans (.of_same rfl rfl rfl rfl)

theorem withPlan (h : l₀.Carries l) (c : Plan) : l₀.Carries { l with plan := c } := h.trans (.of_same rfl rfl rfl rfl)

theorem withRoll (h : l₀.Carries l) (c : RollState) : l₀.Carries { l with roll := c } := h.trans (.of_same rfl rfl rfl rfl)

theorem put (h : l₀.Carries l) (k v : Nat) : l₀.Carries (l.put k v) := h.withReg _

theorem inc (h : l₀.Carries l) (k : Nat) : l₀.Carries (l.inc k) := h.put k _

theorem updPort (h : l₀.Carries l) (e : EndId) (f : Port → Port) : l₀.Carries (l.updPort e f) :=
  h.trans (by cases e <;> exact .of_same rfl rfl rfl rfl)

theorem emit (h : l₀.Carries l) (e : EndId) (f : OutFrame) : l₀.Carries (l.emit e f) := by
  obtain ⟨q, _, he⟩ := l.emit_regOnly e f
  rw [he]
  exact (h.updPort e _).withReg _

/-! #### Settings that the mirror brings -/

theorem copyEntries (h : l₀.Carries l) (peer : LaneState) (which : Nat → Bool) : l₀.Carries (l.copyEntries peer which) :=
  (h.withReg _).foldl _ fun _ _ hl => hl.put _ _

theorem takeLimits (h : l₀.Carries l) : l₀.Carries l.takeLimits := by
  unfold LaneState.takeLimits
  extract_lets due l'
  exact withPlan (h.foldl _ fun _ _ hl => hl.put _ _ : l₀.Carries l') _

theorem changeFunction (h : l₀.Carries l) (n v : Nat) : l₀.Carries (l.changeFunction n v) := by
  have haborted : l₀.Carries (l.abortLearn n) := .ite (h.put _ _) h
  exact ((((haborted.put _ _).put _ _).put _ _).takeLimits).withField _

theorem markTriple (h : l₀.Carries l) : l₀.Carries l.markTriple := .ite (h.put _ _) h

theorem takeTiming (h : l₀.Carries l) (k v : Nat) (busy : Bool) : l₀.Carries (l.takeTiming k v busy) := ((h.put k v).withCan _).markTriple

theorem pulseOff (h : l₀.Carries l) (u : Nat) (missed : Bool) : l₀.Carries (l.pulseOff u missed) :=
  ((h.put _ _).put _ _).put _ _

theorem armPulse (h : l₀.Carries l) (u : Nat) : l₀.Carries (l.armPulse u) :=
  .ite (h.pulseOff u false) (.ite (.ite (h.pulseOff u true) ((h.put _ _).put _ _)) ((h.put _ _).put _ _))

theorem rearm (h : l₀.Carries l) (u : Nat) : l₀.Carries (l.rearm u) := .ite (h.withTime _) (h.armPulse u)

theorem writeMode (h : l₀.Carries l) (u mode : Nat) : l₀.Carries (l.writeMode u mode) := .ite ((h.put _ _).rearm u) h

theorem writePulse (h : l₀.Carries l) (u sub v : Nat) : l₀.Carries (l.writePulse u sub v) := .ite ((h.put _ _).rearm u) (h.put _ _)

theorem clearStations (h : l₀.Carries l) : l₀.Carries l.clearStations := h.foldl _ fun _ _ hl => .ite hl (hl.put _ _)

theorem keepImage (h : l₀.Carries l) (t : Nat) (update : Bool) : l₀.Carries (l.keepImage t update) := .ite (h.withCan _) h

theorem shadowPut (h : l₀.Carries l) (k v : Nat) : l₀.Carries (l.shadowPut k v) := h.withCan _

theorem takeSetting (h : l₀.Carries l) (peer : LaneState) (k : Nat) : l₀.Carries (l.takeSetting peer k) := by
  have hput := h.put k (peer.get k)
  exact .ite (.ite hput (hput.shadowPut _ _)) (.ite h (.ite (h.takeTiming _ _ _) (.ite (.ite (h.writeMode _ _) (h.writePulse _ _ _))
    (.ite hput.clearStations (.ite ((h.keepImage _ _).put _ _) (.ite (h.changeFunction _ _) hput))))))

theorem takeSettings (h : l₀.Carries l) (peer : LaneState) (owed : List Nat) : l₀.Carries (l.takeSettings peer owed) :=
  (h.foldl _ fun _ k hl => hl.takeSetting peer k).withCan _

theorem refreshStale (h : l₀.Carries l) (n : Nat) : l₀.Carries (l.refreshStale n) :=
  .ite ((h.withFlow _).inc _) (h.withFlow _)

theorem resolveAll (h : l₀.Carries l) : l₀.Carries l.resolveAll :=
  h.foldl _ fun _ n hl => .ite ((hl.withFlow _).refreshStale n) (hl.withFlow _)

theorem takePeerLatches (h : l₀.Carries l) (peer : LaneState) : l₀.Carries (l.takePeerLatches peer) :=
  h.foldl _ fun _ _ hl => .ite ((hl.withCan _).put _ _) hl

theorem record (h : l₀.Carries l) (holdUp : Bool) (code : Nat) (data : List Byte) : l₀.Carries (l.record holdUp code data) := by
  obtain ⟨log, reg, he, -⟩ := l.record_frame holdUp code data
  rw [he]
  exact h.trans (.of_same rfl rfl rfl rfl)

/-! #### The Roll of the peer -/

theorem sendRollTo (h : l₀.Carries l) (e : EndId) (f : RollFrame) : l₀.Carries (l.sendRollTo e f) := (h.withRoll _).emit e _

theorem sendRoll (h : l₀.Carries l) (skip : Option EndId) (f : RollFrame) : l₀.Carries (l.sendRoll skip f) :=
  (h.withRoll _).foldl _ fun _ e hm => by
    split
    · exact hm
    · exact hm.emit e _

theorem inNewRoll (h : l₀.Carries l) (epoch code origin quality : Nat) : l₀.Carries (l.inNewRoll epoch code origin quality) :=
  h.trans (.of_same rfl rfl rfl rfl)

theorem abortsRoll (h : l₀.Carries l) : l₀.Carries l.abortsRoll := .ite (h.inc _) h

theorem measures (h : l₀.Carries l) (uid : Nat) : l₀.Carries (l.measures uid) := .ite h (h.withTime _)

theorem setMaster (h : l₀.Carries l) (uid : Nat) : l₀.Carries (l.setMaster uid) := .ite h ((h.put _ _).withTime _)

end LaneState.Carries

/-- Lane x carries on, and the arbiter is as it was. -/
def State.Carries (x : LaneId) (s t : State) : Prop := (s.lane x).Carries (t.lane x) ∧ t.arb = s.arb

namespace State.Carries

variable {x : LaneId} {s t u : State}

theorem self : Carries x s s := ⟨.self, rfl⟩

theorem ite {c : Prop} [Decidable c] (h : Carries x s t) (h' : Carries x s u) : Carries x s (if c then t else u) := by
  split <;> assumption

theorem upd (h : Carries x s t) {f : LaneState → LaneState} (hf : ∀ l, (s.lane x).Carries l → (s.lane x).Carries (f l)) :
    Carries x s (t.upd x f) := ⟨by rw [State.upd_lane_self]; exact hf _ h.1, (t.upd_arb x f).trans h.2⟩

theorem sendSet (h : Carries x s t) (skip : Option EndId) (f : RollFrame) : Carries x s (t.sendSet x skip f) :=
  h.upd fun _ hl => (hl.withRoll _).sendRoll skip f

theorem beginStreams (h : Carries x s t) : Carries x s (t.beginStreams x) :=
  .ite (h.upd fun _ hl => hl.withRoll _) (.ite (h.upd fun _ hl => hl.sendRollTo _ _) (.ite (h.upd fun _ hl => hl.sendRollTo _ _) h))

theorem startRoll (h : Carries x s t) (epoch code origin : Nat) : Carries x s (t.startRoll x epoch code origin) := by
  have hentered : Carries x s (t.enterRoll x epoch code origin) := by
    rw [State.enterRoll_eq]
    exact h.upd fun _ hl => hl.abortsRoll.inNewRoll _ _ _ _
  exact (hentered.sendSet _ _).beginStreams

theorem candidateMaster (h : Carries x s t) (es : List DirEntry) (pos epoch : Nat) : Carries x s (t.candidateMaster x es pos epoch) := by
  unfold State.candidateMaster
  extract_lets l uid isMe candidate mark known other
  exact .upd (.upd (.upd h fun _ hl => hl.put _ _) fun _ hl => hl.withTime _) fun _ hl => hl.measures _

theorem adopt (h : Carries x s t) (c : Close) : Carries x s (t.adopt x c) := by
  unfold State.adopt
  extract_lets r differs s₁ s₂ numbered k l s₃ s₄
  have h₁ : Carries x s s₁ := h.upd fun _ hl => (hl.withRoll _).withFlow _
  have h₂ : Carries x s s₂ := .ite (h₁.upd fun _ hl => hl.inc _) h₁
  have h₃ : Carries x s s₃ := by
    refine .ite ?_ h₂
    cases x
    · exact ⟨h₂.1.trans (.of_same rfl rfl rfl rfl), h₂.2⟩
    · exact h₂
  have h₄ : Carries x s s₄ := h₃.upd fun _ hl => hl.trans (.of_same rfl rfl rfl rfl)
  exact (h₄.candidateMaster _ _ _).upd fun _ hl => .ite (hl.setMaster _) hl

theorem sendClose (h : Carries x s t) (c : Close) : Carries x s (t.sendClose x c) :=
  List.foldlRecOn (motive := Carries x s) _ _ h fun _ ht _ _ => ht.sendSet none _

theorem offerClose (h : Carries x s t) (c : Close) : Carries x s (t.offerClose x c) := by
  have hnoted := h.upd (f := fun l => { l with roll := { l.roll with offered := (c :: l.roll.offered).eraseDups } }) fun _ hl => hl.withRoll _
  have hcounted : Carries x s ((t.upd x fun l => { l with roll := { l.roll with offered := (c :: l.roll.offered).eraseDups } }).inc x 0x243105) :=
    hnoted.upd fun _ hl => hl.inc _
  unfold State.offerClose
  dsimp only
  split
  · exact hnoted.adopt c
  · exact .ite hnoted (.ite (hcounted.adopt c) hcounted)

theorem offerPeerClose (h : Carries x s t) (c : Close) : Carries x s (t.offerPeerClose x c) :=
  .ite h (.ite ((h.offerClose c).sendClose c) (h.offerClose c))

theorem mirrorRoll (h : Carries x s t) : Carries x s (t.mirrorRoll x) := by
  unfold State.mirrorRoll
  extract_lets p pe s₁ s₂
  have h₁ : Carries x s s₁ := .ite (h.startRoll _ _ _) h
  refine .ite h₁ ?_
  have h₂ : Carries x s s₂ := h₁.upd fun _ hl => hl.withRoll _
  split
  · exact h₂
  · exact h₂.offerPeerClose _

theorem noteCab (h : Carries x s t) : Carries x s (t.noteCab x) := h.upd fun _ hl => hl.withField _

theorem peerRecorderFailed (h : Carries x s t) : Carries x s (t.peerRecorderFailed x) := by
  have htold (b : Bool) : ∀ l, (s.lane x).Carries l → (s.lane x).Carries { l with poss := { l.poss with peerFailTold := b } } :=
    fun l hl => hl.trans ⟨rfl, ⟨b, rfl⟩, rfl, rfl⟩
  unfold State.peerRecorderFailed
  split
  · exact h.upd (htold false)
  · exact .ite h (.upd (.upd h fun _ hl => hl.record _ _ _) (htold true))

end State.Carries

/-! #### Entries that the mirror copies -/

/-- A part of a table reads as the table where it holds a key, and as without it elsewhere. -/
theorem tabGet_filter {α : Type} {d : Nat → α} (which : Nat → Bool) (k : Nat) (t : List (Nat × α)) :
    tabGet d k (t.filter fun e => which e.1) = if which k then tabGet d k t else d k := by
  induction t with
  | nil => simp [tabGet]
  | cons e t ih =>
    obtain ⟨j, v⟩ := e
    by_cases hj : which j = true
    · rw [List.filter_cons_of_pos (p := fun e : Nat × α => which e.1) hj, tabGet, tabGet, ih]
      by_cases hjk : j = k
      · subst hjk
        simp [hj]
      · simp [hjk]
    · rw [List.filter_cons_of_neg (p := fun e : Nat × α => which e.1) hj, ih, tabGet]
      by_cases hjk : j = k
      · subst hjk
        simp [hj]
      · simp [hjk]

theorem LaneState.foldl_put_above {t : Regs} {b k : Nat} (ht : tabCanonFrom regDefault b t = true) (hk : k < b) (l : LaneState) :
    (t.foldl (fun l e => l.put e.1 e.2) l).get k = l.get k := by
  induction t generalizing b l with
  | nil => rfl
  | cons e t ih =>
    obtain ⟨j, v⟩ := e
    simp only [tabCanonFrom, Bool.and_eq_true, decide_eq_true_eq] at ht
    rw [List.foldl_cons, ih ht.2 (by omega), LaneState.put_get_ne _ (by omega)]

/-- Registers written from a canonical table over ones that read as without it. -/
theorem LaneState.foldl_put_get {t : Regs} {b k : Nat} (ht : tabCanonFrom regDefault b t = true) {l : LaneState} (hl : l.RegsCanon)
    (hk : l.get k = regDefault k % 2 ^ regWidth k) :
    (t.foldl (fun l e => l.put e.1 e.2) l).get k = tabGet regDefault k t % 2 ^ regWidth k := by
  induction t generalizing b l with
  | nil => exact hk
  | cons e t ih =>
    obtain ⟨j, v⟩ := e
    simp only [tabCanonFrom, Bool.and_eq_true, decide_eq_true_eq] at ht
    rw [List.foldl_cons, tabGet]
    split
    case isTrue hj =>
      subst hj
      rw [LaneState.foldl_put_above ht.2 (by omega), LaneState.put_get_self _ _ _ hl]
    case isFalse hj => exact ih ht.2 (hl.put _ _) ((LaneState.put_get_ne _ (Ne.symm hj) _).trans hk)

/-- An entry that the mirror copies reads at the lane as at its peer. -/
theorem LaneState.copyEntries_get {l peer : LaneState} (hl : l.RegsCanon) (hpeer : peer.RegsCanon) {which : Nat → Bool} {k : Nat}
    (hwhich : which k = true) (hdefault : regDefault k < 2 ^ regWidth k) :
    (l.copyEntries peer which).get k = peer.get k % 2 ^ regWidth k := by
  have hown : LaneState.get { l with reg := l.reg.filter fun e => !which e.1 } k = regDefault k % 2 ^ regWidth k :=
    (tabGet_filter (fun j => !which j) k l.reg).trans (by simp [hwhich, Nat.mod_eq_of_lt hdefault])
  have hcopied := LaneState.foldl_put_get (tabCanon_filter (fun e => which e.1) hpeer)
    (l := { l with reg := l.reg.filter fun e => !which e.1 }) (tabCanon_filter (fun e => !which e.1) hl) hown
  refine hcopied.trans (congrArg (· % _) ((tabGet_filter which k peer.reg).trans (if_pos hwhich)))

theorem regWidth_image : regWidth 0x510000 = 32 := by decide +kernel

/-! #### The mirror frame -/

/-- Possession as a good mirror frame leaves it (R95, R98). -/
def LaneState.hears (l : LaneState) (w : Nat) : LaneState :=
  { l with poss := { l.poss with
      peerWord := w, mirrorSeen := l.poss.mirrorSeen || l.ready
      epoch := if l.takesEpoch w then w % 256 else l.poss.epoch
      goodFrames := if l.poss.mirrorUp then 0 else min 100 (l.poss.goodFrames + 1) } }

/-- A good mirror frame: the peer's word, the hold, and what the mirror carries once it is up. -/
theorem doMirrorFrame_good {s : State} {x : LaneId} (halive : s.mirrorAlive x = true) :
    ∃ t, t = ((s.upd x fun l => l.hears (s.statusWord x.peer)).holdCheck x).tossCheck ∧
      doMirrorFrame x true s = if (t.lane x).poss.mirrorUp && (t.lane x.peer).ready then (t.mirrorCopy x).peerRecorderFailed x else t := by
  refine ⟨_, rfl, ?_⟩
  unfold doMirrorFrame
  exact (if_neg (by simp [halive])).trans (if_neg (by simp))

/-- A lane that does not hold on without its arbiter goes on as it is. -/
theorem State.holdCheck_idle {s : State} {x : LaneId} (h : (s.lane x).poss.hold = false) : s.holdCheck x = s := if_neg (by simp [h])

/-- The status word carries the arbiter's link in bit 10 (R95). -/
theorem State.statusWord_arbLink {s : State} {x : LaneId} (h : (s.lane x).poss.arbLink = true) : bitAt (s.statusWord x) 10 = true := by
  have hword (m e r i n : Nat) (hn : n < 256) (hi : i ≤ 1) (hr : r ≤ 1) :
      bitAt (m * 4096 + e * 2048 + 1 * 1024 + r * 512 + i * 256 + n) 10 = true := by
    rw [bitAt, Nat.testBit_eq_decide_div_mod_eq]
    simp only [decide_eq_true_eq]
    omega
  have hb (b : Bool) : b2n b ≤ 1 := by cases b <;> decide
  unfold State.statusWord
  extract_lets l m
  have hlink : b2n l.poss.arbLink = 1 := by rw [show l.poss.arbLink = true from h]; rfl
  rw [hlink]
  exact hword _ _ _ _ _ (Nat.mod_lt _ (by decide)) (hb _) (hb _)

/-- The status word of a lane in possession carries its mode and its epoch (R95). -/
theorem State.statusWord_possession {s : State} {x : LaneId} (h : (s.lane x).mode = .possession) :
    s.statusWord x / 4096 = 3 ∧ s.statusWord x % 256 = (s.lane x).poss.epoch % 256 := by
  have hb (b : Bool) : b2n b ≤ 1 := by cases b <;> decide
  unfold State.statusWord
  dsimp only
  rw [h]
  dsimp only
  have h₁ := hb (s.eligible x)
  have h₂ := hb (s.lane x).poss.arbLink
  have h₃ := hb (decide ((s.lane x).get 0x112000 ≠ 0))
  have h₄ := hb (s.lane x).poss.interlock
  omega

theorem State.holder_peer {s : State} {x : LaneId} (hown : (s.lane x).mode ≠ .possession) (hpeer : (s.lane x.peer).mode = .possession) :
    s.holder = some x.peer := by
  cases x
  · exact (if_neg hown).trans (if_pos hpeer)
  · exact if_pos hpeer

theorem State.mirrorRoll_idle {s : State} {x : LaneId} (h : (s.lane x.peer).roll.running = false) : s.mirrorRoll x = s := by
  unfold State.mirrorRoll
  dsimp only
  rw [h]
  exact (if_pos (by simp)).trans (if_neg (by simp))

/-- A mirror frame that brings what the peer in possession has, while no Roll runs there (R99). -/
theorem State.mirrorCopy_steady {s : State} {x : LaneId} (hholder : s.holder = some x.peer)
    (hidle : (s.lane x.peer).roll.running = false) :
    s.mirrorCopy x = ((s.upd x fun l => l.takeSteady (s.lane x.peer)).upd x fun l => l.takePeerLatches (s.lane x.peer)).noteCab x := by
  have hpeer : (s.upd x fun l => l.takeSteady (s.lane x.peer)).lane x.peer = s.lane x.peer := s.upd_lane_peer x _
  unfold State.mirrorCopy
  dsimp only
  rw [if_pos hholder, State.mirrorRoll_idle (by rw [hpeer]; exact hidle), hpeer]

/-- The mirror copies the lane in possession, and the mode and the possession of its own lane stay. -/
theorem State.mirrorCopy_mode (s : State) (x : LaneId) :
    ((s.mirrorCopy x).lane x).mode = (s.lane x).mode ∧ (∃ told, ((s.mirrorCopy x).lane x).poss = { (s.lane x).poss with peerFailTold := told }) ∧
      (s.mirrorCopy x).arb = s.arb := by
  obtain ⟨t, ht⟩ : ∃ t, t = if s.holder = some x.peer then s.upd x (fun l => l.takeSteady (s.lane x.peer)) else s := ⟨_, rfl⟩
  have hsteady : (t.lane x).mode = (s.lane x).mode ∧ (∃ told, (t.lane x).poss = { (s.lane x).poss with peerFailTold := told }) ∧
      t.arb = s.arb := by
    rw [ht]
    split
    · obtain ⟨hmode, hposs, -⟩ := (LaneState.Carries.self (l₀ := s.lane x)).copyEntries (s.lane x.peer) steadyEntry
      rw [State.upd_lane_self]
      exact ⟨hmode, hposs, s.upd_arb x _⟩
    · exact ⟨rfl, ⟨_, rfl⟩, rfl⟩
  have he : s.mirrorCopy x = ((t.mirrorRoll x).upd x fun l => l.takePeerLatches ((t.mirrorRoll x).lane x.peer)).noteCab x := by rw [ht]; rfl
  obtain ⟨⟨hmode, ⟨told, hposs⟩, -⟩, harb⟩ := ((State.Carries.self (x := x) (s := t)).mirrorRoll.upd
    (f := fun l => l.takePeerLatches ((t.mirrorRoll x).lane x.peer)) fun _ hl => hl.takePeerLatches _).noteCab
  obtain ⟨hmode', ⟨_, hposs'⟩, harb'⟩ := hsteady
  rw [he]
  exact ⟨hmode.trans hmode', ⟨told, by rw [hposs, hposs']⟩, harb.trans harb'⟩

theorem LaneState.mirroredMail_congr {l m : LaneState} (h : m.msg = l.msg) (peer : LaneState) : m.mirroredMail peer = l.mirroredMail peer := by
  unfold LaneState.mirroredMail LaneState.answerRec
  rw [h]

/-- What a lane takes from its peer in possession with each good frame (R99). -/
theorem LaneState.takeSteady_facts {l peer : LaneState} (hl : l.RegsCanon) (hpeer : peer.RegsCanon) :
    (l.takeSteady peer).msg.sessions = peer.msg.sessions ∧ (l.takeSteady peer).msg.mail = l.mirroredMail peer ∧
      (l.takeSteady peer).get 0x510000 = peer.get 0x510000 % 2 ^ 32 ∧ (l.takeSteady peer).mode = l.mode ∧
      ∃ told, (l.takeSteady peer).poss = { l.poss with peerFailTold := told } := by
  obtain ⟨hmode, hposs, hmsg, -⟩ := (LaneState.Carries.self (l₀ := l)).copyEntries peer steadyEntry
  have hget : (l.copyEntries peer steadyEntry).get 0x510000 = peer.get 0x510000 % 2 ^ regWidth 0x510000 :=
    LaneState.copyEntries_get hl hpeer (by simp [steadyEntry]) (by rw [regWidth_image]; decide)
  exact ⟨rfl, LaneState.mirroredMail_congr hmsg peer, hget.trans (by rw [regWidth_image]), hmode, hposs⟩

/-- The output image is none of the registers that the peer's latches and recorder reach. -/
theorem State.mirrored_image (s : State) (x : LaneId) (peer : LaneState) :
    s.Agrees (· = 0x510000) x (((s.upd x fun l => l.takePeerLatches peer).noteCab x).peerRecorderFailed x) := by
  have hlatches : (s.lane x).Agrees (· = 0x510000) ((s.lane x).takePeerLatches peer) :=
    .foldl .self _ fun _ g hg hl => by
      refine .ite (.put (.other hl rfl) (fun h => ?_) 0) hl
      have hsmall : g < 64 := List.mem_range.mp (List.mem_of_mem_filter hg)
      simp only [ruleKey, key] at h
      omega
  have hnoted : s.Agrees (· = 0x510000) x ((s.upd x fun l => l.takePeerLatches peer).noteCab x) :=
    (State.Agrees.self.upd hlatches).upd (.other .self rfl)
  unfold State.peerRecorderFailed
  split
  · exact hnoted.upd (.other .self rfl)
  · exact .ite hnoted ((hnoted.record (fun k hk => by omega) _ _).upd (.other .self rfl))

theorem State.withOwed_lane (s : State) (o : List (LaneId × Nat)) (y : LaneId) : ({ s with owed := o } : State).lane y = s.lane y := by
  cases y <;> rfl

theorem State.takeMissedImages_lane {s : State} (x : LaneId) (h : s.sec.missed = []) (y : LaneId) :
    (s.takeMissedImages x).lane y = s.lane y := by
  unfold State.takeMissedImages
  rw [h]
  cases y <;> rfl

theorem State.peerRecorderFailed_peer (s : State) (x : LaneId) : (s.peerRecorderFailed x).lane x.peer = s.lane x.peer := by
  unfold State.peerRecorderFailed
  split
  · exact s.upd_lane_peer x _
  · split
    · rfl
    · exact (State.upd_lane_peer _ x _).trans (s.upd_lane_peer x _)

/-- A lane as a resync leaves it: what it carries of messages and exchange memory is its peer's (R98). -/
theorem LaneState.takeWhole_facts (l peer : LaneState) (owed : List Nat) :
    ∃ told, ((l.takeWhole peer).takeSettings peer owed).poss = { l.poss with peerFailTold := told } ∧
      ((l.takeWhole peer).takeSettings peer owed).msg.sessions = peer.msg.sessions ∧
      ((l.takeWhole peer).takeSettings peer owed).msg.records = peer.msg.records ∧
      ((l.takeWhole peer).takeSettings peer owed).msg.locks = peer.msg.locks ∧
      ((l.takeWhole peer).takeSettings peer owed).msg.mail = peer.msg.mail ∧
      ((l.takeWhole peer).takeSettings peer owed).xmem = peer.xmem := by
  obtain ⟨-, ⟨_, hcopied⟩, -, -⟩ := (LaneState.Carries.self (l₀ := l)).copyEntries peer mirroredEntry
  obtain ⟨m, hm, hresolved⟩ : ∃ m : LaneState, m.resolveAll = l.takeWhole peer ∧ m.poss = (l.copyEntries peer mirroredEntry).poss ∧
      m.msg.sessions = peer.msg.sessions ∧ m.msg.records = peer.msg.records ∧ m.msg.locks = peer.msg.locks ∧
      m.msg.mail = peer.msg.mail ∧ m.xmem = peer.xmem := ⟨_, rfl, rfl, rfl, rfl, rfl, rfl, rfl⟩
  obtain ⟨hposs, hsessions, hrecords, hlocks, hmail, hxmem⟩ := hresolved
  obtain ⟨-, ⟨told, hposs'⟩, hmsg, hxmem'⟩ := ((LaneState.Carries.self (l₀ := m)).resolveAll).takeSettings peer owed
  rw [hm] at hposs' hmsg hxmem'
  rw [hposs', hmsg, hxmem', hposs, hcopied]
  exact ⟨told, rfl, hsessions, hrecords, hlocks, hmail, hxmem⟩

theorem State.mirrorCopyAll_lanes {s : State} {x : LaneId} (hholder : s.holder = some x.peer) (hmissed : s.sec.missed = []) :
    (∃ owed, (s.mirrorCopyAll x).lane x = ((s.lane x).takeWhole (s.lane x.peer)).takeSettings (s.lane x.peer) owed) ∧
      (s.mirrorCopyAll x).lane x.peer = s.lane x.peer := by
  unfold State.mirrorCopyAll
  rw [if_pos hholder]
  extract_lets owed t
  have hsec : t.sec.missed = [] := (congrArg Security.missed (s.upd_sec x _)).trans hmissed
  obtain ⟨u, hu⟩ : ∃ u, u = { t with owed := t.owed.filter fun e => decide (e.1 ≠ x) } := ⟨_, rfl⟩
  have hmissed' : u.sec.missed = [] := by rw [hu]; exact hsec
  have hlane (y : LaneId) : u.lane y = t.lane y := by rw [hu, State.withOwed_lane]
  rw [← hu, State.takeMissedImages_lane x hmissed', State.takeMissedImages_lane x hmissed', hlane, hlane]
  exact ⟨⟨owed, s.upd_lane_self x _⟩, s.upd_lane_peer x _⟩

/-- Settles O6: what follows what the mirror brings leaves it. -/
theorem mirror : Obligations.Mirror := by
  unfold Obligations.Mirror
  refine ⟨?_, ?_, ?_, ?_, ?_, ?_, ?_, ?_, ?_⟩
  · intro s x halive
    refine exec_next rfl ?_
    unfold doMirrorFrame
    exact (if_neg (by simp [halive])).trans (if_pos rfl)
  · intro s x halive hup hhold hgood
    obtain ⟨t, ht, he⟩ := doMirrorFrame_good halive
    have hlane : (s.upd x fun l => l.hears (s.statusWord x.peer)).lane x = (s.lane x).hears (s.statusWord x.peer) := s.upd_lane_self x _
    rw [State.holdCheck_idle (by rw [hlane]; exact hhold)] at ht
    have hdown : (t.lane x).poss.mirrorUp = false := by
      rw [ht, State.tossCheck_lane, hlane]
      exact hup
    refine exec_next rfl (he.trans ((if_neg (by simp [hdown])).trans (ht.trans (congrArg State.tossCheck (State.upd_congr ?_)))))
    unfold LaneState.hears
    rw [hup, if_neg (by decide : ¬ (false = true)), Nat.min_eq_right (by omega)]
  · intro s x halive hhold hmode hlink
    obtain ⟨t, ht, he⟩ := doMirrorFrame_good halive
    obtain ⟨u, hu⟩ : ∃ u, u = s.upd x fun l => l.hears (s.statusWord x.peer) := ⟨_, rfl⟩
    have hlane : u.lane x = (s.lane x).hears (s.statusWord x.peer) := by rw [hu, State.upd_lane_self]
    have hclock : u.clock = s.clock := by rw [hu, State.upd_clock]
    have hreleases : u.holdCheck x = u.release x 3 := if_pos (by
      rw [hlane]
      simp [LaneState.hears, hhold, State.statusWord_arbLink hlink])
    have hframe := State.release_frame (s := u) (x := x) (by rw [hlane]; exact hmode) 3
    obtain ⟨_, _, _, hown⟩ := hframe.own
    rw [State.releasing_lane] at hown
    have harb : (u.release x 3).arb.changeAt = u.clock := congrArg Arbiter.changeAt hframe.arb
    have hreleased : (t.lane x).mode = .releasing ∧ (t.lane x).poss.releaseCause = 3 ∧ t.arb.changeAt = s.clock := by
      rw [ht, ← hu, hreleases, State.tossCheck_lane, hown]
      exact ⟨rfl, rfl, harb.trans hclock⟩
    obtain ⟨hmode', hcause, hchange⟩ := hreleased
    refine Leads.of_eq rfl he ?_
    split
    · obtain ⟨⟨hm, ⟨_, hp⟩, -⟩, ha⟩ := (State.Carries.self (x := x) (s := t.mirrorCopy x)).peerRecorderFailed
      obtain ⟨hm', ⟨_, hp'⟩, ha'⟩ := t.mirrorCopy_mode x
      rw [hm, hm', hp, hp', ha, ha']
      exact ⟨hmode', hcause, hchange⟩
    · exact ⟨hmode', hcause, hchange⟩
  · intro s x halive hup hgood
    exact exec_next rfl (if_neg (by simp [halive, hup, hgood]))
  · intro s x hgood
    exact exec_next rfl (if_pos (by simp [hgood]))
  · intro s x hawake hup hhold
    refine exec_next rfl ?_
    unfold doMirrorLost
    refine (if_neg (by simp [hawake, hup])).trans (congrArg (State.raiseLane · x 96) (if_neg ?_))
    rw [State.upd_lane_self]
    simp [hhold]
  · exact fun s x => exec_next rfl rfl
  · intro s x hcanon halive hup hhold hmode hpeer hidle
    obtain ⟨t, ht, he⟩ := doMirrorFrame_good halive
    have hlane : (s.upd x fun l => l.hears (s.statusWord x.peer)).lane x = (s.lane x).hears (s.statusWord x.peer) := s.upd_lane_self x _
    rw [State.holdCheck_idle (by rw [hlane]; exact hhold)] at ht
    have htlane : t.lane x = (s.lane x).hears (s.statusWord x.peer) := by rw [ht, State.tossCheck_lane, hlane]
    have htpeer : t.lane x.peer = s.lane x.peer := by rw [ht, State.tossCheck_lane, State.upd_lane_peer]
    have htcanon : (t.lane x).RegsCanon := by rw [htlane]; exact lane_regs_canon hcanon x
    have hcarries : (if (t.lane x).poss.mirrorUp && (t.lane x.peer).ready then (t.mirrorCopy x).peerRecorderFailed x else t) =
        (t.mirrorCopy x).peerRecorderFailed x := if_pos (by
      rw [htlane, htpeer, LaneState.ready_of_possession hpeer]
      simpa [LaneState.hears] using hup)
    have hholder : t.holder = some x.peer := State.holder_peer (by rw [htlane]; simp [LaneState.hears, hmode]) (by rw [htpeer]; exact hpeer)
    rw [hcarries, State.mirrorCopy_steady hholder (by rw [htpeer]; exact hidle), htpeer] at he
    obtain ⟨hsessions, hmail, himage, hsteady, ⟨_, hposs⟩⟩ := LaneState.takeSteady_facts htcanon (lane_regs_canon hcanon x.peer)
    obtain ⟨u, hu⟩ : ∃ u, u = t.upd x fun l => l.takeSteady (s.lane x.peer) := ⟨_, rfl⟩
    have hulane : u.lane x = (t.lane x).takeSteady (s.lane x.peer) := by rw [hu, State.upd_lane_self]
    have hupeer : u.lane x.peer = s.lane x.peer := by rw [hu, State.upd_lane_peer, htpeer]
    obtain ⟨⟨hmode', ⟨_, hposs'⟩, hmsg, -⟩, -⟩ := ((State.Carries.self (x := x) (s := u)).upd
      (f := fun l => l.takePeerLatches (s.lane x.peer)) fun _ hl => hl.takePeerLatches _).noteCab.peerRecorderFailed
    have hagrees := u.mirrored_image x (s.lane x.peer)
    obtain ⟨hword, hepoch⟩ := State.statusWord_possession hpeer
    have htakes : (s.lane x).takesEpoch (s.statusWord x.peer) = true := by simp [LaneState.takesEpoch, hmode, hword]
    rw [← hu] at he
    refine Leads.of_eq rfl he ⟨?_, ?_, (hagrees.get rfl).trans ?_, ?_, ?_, ?_, ?_⟩
    · rw [hmsg, hulane, hsessions]
    · rw [hmsg, hulane, hmail, LaneState.mirroredMail_congr (congrArg LaneState.msg htlane)]
      rfl
    · exact (congrArg (LaneState.get · 0x510000) hulane).trans himage
    · rw [hposs', hulane, hposs, htlane]
      exact (if_pos htakes).trans hepoch
    · rw [hposs', hulane, hposs, htlane]
      exact hword
    · rw [hmode', hulane, hsteady, htlane]
      exact hmode
    · rw [hagrees.2, hupeer]
      exact hpeer
  · intro s x halive hup hresync hmode hpeer hmissed
    have he : doResyncComplete x s = ((s.upd x fun l => { l with poss := { l.poss with resync := false } }).mirrorCopyAll x).peerRecorderFailed x :=
      if_pos (by simp [hup, hresync, halive])
    obtain ⟨u, hu⟩ : ∃ u, u = s.upd x fun l => { l with poss := { l.poss with resync := false } } := ⟨_, rfl⟩
    have hlane : u.lane x = { s.lane x with poss := { (s.lane x).poss with resync := false } } := by rw [hu, State.upd_lane_self]
    have hulane : u.lane x.peer = s.lane x.peer := by rw [hu, State.upd_lane_peer]
    have hmissed' : u.sec.missed = [] := by rw [hu, State.upd_sec, hmissed]
    have hholder : u.holder = some x.peer := State.holder_peer (by rw [hlane]; simp [hmode]) (by rw [hulane]; exact hpeer)
    obtain ⟨hwhole, hpeer'⟩ := State.mirrorCopyAll_lanes hholder hmissed'
    obtain ⟨⟨-, ⟨_, hposs⟩, hmsg, hxmem⟩, -⟩ := (State.Carries.self (x := x) (s := u.mirrorCopyAll x)).peerRecorderFailed
    obtain ⟨owed, hown⟩ := hwhole
    obtain ⟨_, hposs', hsessions, hrecords, hlocks, hmail, hmem⟩ := (u.lane x).takeWhole_facts (u.lane x.peer) owed
    rw [← hown] at hposs' hsessions hrecords hlocks hmail hmem
    rw [← hu] at he
    refine Leads.of_eq rfl he ⟨?_, ?_, ?_, ?_, ?_, ?_, ?_⟩
    · rw [hposs, hposs', hlane]
    · rw [hmsg, hsessions, hulane]
    · rw [hmsg, hrecords, hulane]
    · rw [hmsg, hlocks, hulane]
    · rw [hmsg, hmail, hulane]
    · rw [hxmem, hmem, hulane]
    · rw [State.peerRecorderFailed_peer, hpeer', hulane]

end Sys2Proof.Machine

namespace Sys2Proof.Machine

/-! ### Insertion, presence and withdrawal of the module (O1) -/

theorem regWidth_slot : regWidth 0x100800 = 8 ∧ restoredModule 0x120000 = false := by decide +kernel

/-! #### The slot code -/

theorem slotCodeOf_same {reads : List (BitVec 4)} {v : BitVec 4} (hlength : reads.length = 8) (hsame : ∀ r ∈ reads, r = v) :
    slotCodeOf reads = v.toNat := by
  cases reads with
  | nil => exact absurd hlength (by simp)
  | cons r rs =>
    have hr : r = v := hsame r (by simp)
    have hrs : rs.all (fun q => q = r) = true := List.all_eq_true.mpr fun q hq => by simp [hr, hsame q (by simp [hq])]
    rw [slotCodeOf, if_pos ⟨by simpa using hlength, hrs⟩, hr]

theorem slotCodeOf_differs {reads : List (BitVec 4)} {r q : BitVec 4} (hr : r ∈ reads) (hq : q ∈ reads) (hne : r ≠ q) :
    slotCodeOf reads = 0xFF := by
  cases reads with
  | nil => exact absurd hr (by simp)
  | cons p ps =>
    rw [slotCodeOf]
    refine if_neg fun h => hne ?_
    have hsame (a : BitVec 4) (ha : a ∈ p :: ps) : a = p := by
      rcases List.mem_cons.mp ha with rfl | hmem
      · rfl
      · simpa using List.all_eq_true.mp h.2 a hmem
    rw [hsame r hr, hsame q hq]

theorem slotCodeOf_length {reads : List (BitVec 4)} (hlength : reads.length ≠ 8) : slotCodeOf reads = 0xFF := by
  cases reads with
  | nil => rfl
  | cons r rs => exact if_neg fun h => hlength (by simpa using h.1)

theorem slotCodeOf_lt (reads : List (BitVec 4)) : slotCodeOf reads < 256 := by
  unfold slotCodeOf
  split
  · decide
  · split
    · omega
    · decide

/-! #### The recorder of a lane that goes off -/

/-- A lane whose recorder has no event waiting. -/
def LaneState.NoEvents (l : LaneState) : Prop := l.log.queue = []

namespace LaneState.NoEvents

variable {l : LaneState}

theorem foldl {α : Type} {f : LaneState → α → LaneState} (h : l.NoEvents) (xs : List α) (hf : ∀ l a, l.NoEvents → (f l a).NoEvents) :
    (xs.foldl f l).NoEvents := List.foldlRecOn (motive := LaneState.NoEvents) _ _ h fun l hl a _ => hf l a hl

theorem ite {c : Prop} [Decidable c] {m : LaneState} (h : l.NoEvents) (h' : m.NoEvents) : (if c then l else m).NoEvents := by
  split <;> assumption

theorem put (h : l.NoEvents) (k v : Nat) : (l.put k v).NoEvents := h

theorem lose (h : l.NoEvents) (code : Nat) : (l.lose code).NoEvents := .ite h h

theorem passWorn (h : l.NoEvents) : LaneState.NoEvents { l with log := l.log.passWorn } :=
  List.foldlRecOn (motive := fun r : Recorder => r.queue = []) _ _ h fun r hr _ _ => by
    split <;> exact hr

theorem withSlots (h : l.NoEvents) (xs : List Slot) : LaneState.NoEvents { l with log := { l.log with slots := xs } } := h

theorem place (h : l.NoEvents) (holdUp : Bool) (q : Queued) : (l.place holdUp q).NoEvents :=
  put (put (withSlots h.passWorn _) _ _) _ _

theorem placeFinal (h : l.NoEvents) (holdUp : Bool) (q : Queued) : (l.placeFinal holdUp q).NoEvents := .ite (h.lose _) h

theorem failRecorder (h : l.NoEvents) (holdUp : Bool) (cause slot : Nat) : (l.failRecorder holdUp cause slot).NoEvents :=
  have hfinal (q : Queued) := placeFinal (l := { l with log := { l.log with failed := some cause } }) h holdUp q
  .ite (hfinal _) ((hfinal _).placeFinal _ _)

theorem badSlot (h : l.NoEvents) : l.badSlot.NoEvents := h

theorem closeFullLog (h : l.NoEvents) (holdUp closes : Bool) : (l.closeFullLog holdUp closes).NoEvents :=
  .ite (.ite (.failRecorder (.put h.passWorn _ _) _ _ _) (.ite (h.place _ _) (h.badSlot.failRecorder _ _ _))) h

theorem writeRecord (h : l.NoEvents) (holdUp ok closes : Bool) (q : Queued) : (l.writeRecord holdUp ok closes q).NoEvents :=
  have hclosed := (badSlot h.passWorn).closeFullLog holdUp closes
  .ite (.failRecorder (.put h.passWorn _ _) _ _ _) (.ite ((h.place _ _).closeFullLog _ _)
    (.ite hclosed (.ite (hclosed.failRecorder _ _ _) (.ite (hclosed.failRecorder _ _ _) hclosed))))

theorem withOutcomes (h : l.NoEvents) (xs : List Bool) : LaneState.NoEvents { l with log := { l.log with outcomes := xs } } := h

theorem flushOne (h : l.NoEvents) (holdUp : Bool) (q : Queued) : (l.flushOne holdUp q).NoEvents := by
  have hfirst (ok : Bool) := (h.withOutcomes (l.log.outcomes.drop 1)).writeRecord holdUp ok true q
  exact .ite (h.lose _) (.ite (hfirst _) (.ite ((hfirst _).lose _)
    (.ite (((hfirst _).withOutcomes _).writeRecord _ _ _ _) ((((hfirst _).withOutcomes _).writeRecord _ _ _ _).lose _))))

theorem flushQueue (l : LaneState) (holdUp : Bool) : (l.flushQueue holdUp).NoEvents :=
  foldl (l := { l with log := { l.log with queue := [] } }) rfl _ fun _ q hl => hl.flushOne holdUp q

theorem takeLimits (h : l.NoEvents) : l.takeLimits.NoEvents := by
  unfold LaneState.takeLimits
  extract_lets due l'
  exact (h.foldl _ fun _ _ hl => hl.put _ _ : l'.NoEvents)

theorem changeFunction (h : l.NoEvents) (n v : Nat) : (l.changeFunction n v).NoEvents := by
  have haborted : (l.abortLearn n).NoEvents := .ite h h
  exact takeLimits (put (put (put haborted _ _) _ _) _ _)

theorem countLinkLost (h : l.NoEvents) (e : EndId) : (l.countLinkLost e).NoEvents := .ite h h

theorem withCan (h : l.NoEvents) (c : CanState) : LaneState.NoEvents { l with can := c } := h

theorem carBusStart (h : l.NoEvents) : l.carBusStart.NoEvents := by
  have heach : (l.eachTx fun l t => (l.setPending t false).setCollisions t 0).NoEvents := h.foldl _ fun _ _ hl => put (put hl _ _) _ _
  have hmarked : (l.eachTx fun l t => (l.setPending t false).setCollisions t 0).markTriple.NoEvents := .ite (put heach _ _) heach
  exact withCan hmarked _

theorem startIncrement (h : l.NoEvents) : l.startIncrement.NoEvents := put h _ _

theorem keepActivation (h : l.NoEvents) (old : LaneState) : (l.keepActivation old).NoEvents := .ite (put h _ _) h

theorem keepField (h : l.NoEvents) (old : LaneState) : (l.keepField old).NoEvents := by
  have hfield (f : FieldState) : LaneState.NoEvents { l with field := f } := h
  have hkept := (hfield (if old.field.powered then { old.field with linkUp := false, barred := false }
    else { FieldState.reset with powered := true })).foldl (old.reg.filter fun e => fieldRegister e.1)
    (f := fun l e => l.put e.1 e.2) fun _ _ hl => hl.put _ _
  have hpins := hkept.foldl (List.range 24) (f := fun l n =>
      let l := l.setPinBit n 6 false
      if l.pinFunction n = old.pinFunction n then l else l.changeFunction n (l.pinFunction n)) fun l n hl =>
    .ite (put hl _ _) ((put hl _ _).changeFunction n _)
  exact hpins.carBusStart

theorem restart (l : LaneState) (holdUp : Bool) (mode : Mode) : (l.restart holdUp mode).NoEvents := by
  unfold LaneState.restart
  extract_lets closed
  have hclosed : closed.NoEvents := ((flushQueue l holdUp).countLinkLost .e1).countLinkLost .e2
  clear_value closed
  have hkept (m : LaneState) (hm : m.NoEvents) : (((m.keepField closed).keepActivation closed).startIncrement).NoEvents :=
    startIncrement (keepActivation (keepField hm closed) closed)
  exact hkept _ hclosed

theorem fieldUnpowered (h : l.NoEvents) : l.fieldUnpowered.NoEvents :=
  takeLimits (l := { l with reg := l.reg.filter (fun e => !fieldRegister e.1 && e.1 / 256 ≠ 0x4030), field := .reset }) h

end LaneState.NoEvents

/-! #### A lane that goes off -/

/-- A lane that goes off: its mode, and where it was awake a field side without power and no event waiting. -/
def LaneState.GoesOff (l m : LaneState) (mode : Mode) : Prop :=
  m.mode = mode ∧ (l.awake = true → m.field = FieldState.reset ∧ m.NoEvents)

theorem LaneState.fieldUnpowered_field (l : LaneState) : l.fieldUnpowered.field = FieldState.reset ∧ l.fieldUnpowered.mode = l.mode := by
  have hlimits (m : LaneState) : m.takeLimits.field = m.field ∧ m.takeLimits.mode = m.mode := by
    unfold LaneState.takeLimits
    extract_lets due l'
    have hl' : l'.field = m.field ∧ l'.mode = m.mode :=
      List.foldlRecOn (motive := fun l : LaneState => l.field = m.field ∧ l.mode = m.mode) _ _ ⟨rfl, rfl⟩ fun _ hl _ _ => hl
    exact hl'
  exact hlimits _

/-- A lane that is awake goes off (R56, R64): its queue written or lost, its field side without power. -/
def LaneState.off (l : LaneState) (holdUp : Bool) (mode : Mode) : LaneState :=
  let r := (((l.flushQueue holdUp).rewriteControl).restart holdUp mode).fieldUnpowered
  if mode = .asleep then r else { r with port1 := .reset, port2 := .reset }

theorem LaneState.off_facts (l : LaneState) (holdUp : Bool) (mode : Mode) :
    (l.off holdUp mode).mode = mode ∧ (l.off holdUp mode).field = FieldState.reset ∧ (l.off holdUp mode).NoEvents := by
  obtain ⟨hfield, hmode⟩ := (((l.flushQueue holdUp).rewriteControl).restart holdUp mode).fieldUnpowered_field
  have hevents := (NoEvents.restart ((l.flushQueue holdUp).rewriteControl) holdUp mode).fieldUnpowered
  have hrestart := (((l.flushQueue holdUp).rewriteControl).restart_mode holdUp mode).1
  obtain ⟨r, hr⟩ : ∃ r, r = (((l.flushQueue holdUp).rewriteControl).restart holdUp mode).fieldUnpowered := ⟨_, rfl⟩
  rw [← hr] at hfield hmode hevents
  rw [LaneState.off, ← hr]
  have hports (a b : Port) : LaneState.NoEvents { r with port1 := a, port2 := b } := hevents
  by_cases hasleep : mode = .asleep
  · rw [if_pos hasleep]
    exact ⟨hmode.trans hrestart, hfield, hevents⟩
  · rw [if_neg hasleep]
    exact ⟨hmode.trans hrestart, hfield, hports _ _⟩

theorem State.laneOff_lanes (s : State) (x : LaneId) (mode : Mode) (code : Nat) (data : List Byte) :
    (s.lane x).GoesOff ((s.laneOff x mode code data).lane x) mode ∧ (s.laneOff x mode code data).lane x.peer = s.lane x.peer := by
  unfold State.laneOff
  split
  case isTrue h =>
    have he : ((((s.record x code data).takeDefaults x).upd x fun l => l.off s.keeper.onHoldUp mode).tossCheck.lane x) =
        (((s.record x code data).takeDefaults x).lane x).off s.keeper.onHoldUp mode :=
      (State.tossCheck_lane _ x).trans (State.upd_lane_self _ x _)
    have hpeer : ((((s.record x code data).takeDefaults x).upd x fun l => l.off s.keeper.onHoldUp mode).tossCheck.lane x.peer) =
        s.lane x.peer :=
      (State.tossCheck_lane _ x.peer).trans ((State.upd_lane_peer _ x _).trans ((State.takeDefaults_lane _ x x.peer).trans
        (s.upd_lane_peer x _)))
    obtain ⟨hmode, hfield, hevents⟩ := (((s.record x code data).takeDefaults x).lane x).off_facts s.keeper.onHoldUp mode
    rw [← he] at hmode hfield hevents
    exact ⟨⟨hmode, fun _ => ⟨hfield, hevents⟩⟩, hpeer⟩
  case isFalse h => exact ⟨⟨by rw [State.upd_lane_self], fun hawake => absurd hawake h⟩, s.upd_lane_peer x _⟩

/-- What of the module a lane that goes off, or releases, leaves: supply, keys and the voltage shown. -/
structure State.LeavesModule (s t : State) : Prop where
  supply : t.keeper.supplyGood = s.keeper.supplyGood
  roleKeys : t.sec.roleKeys = s.sec.roleKeys
  cfgKeys : t.sec.cfgKeys = s.sec.cfgKeys
  fwKeys : t.sec.fwKeys = s.sec.fwKeys
  voltage : t.mget 0x120000 = s.mget 0x120000

namespace State.LeavesModule

variable {s t u : State}

theorem self : s.LeavesModule s := ⟨rfl, rfl, rfl, rfl, rfl⟩

theorem trans (h : s.LeavesModule t) (h' : t.LeavesModule u) : s.LeavesModule u :=
  ⟨h'.supply.trans h.supply, h'.roleKeys.trans h.roleKeys, h'.cfgKeys.trans h.cfgKeys, h'.fwKeys.trans h.fwKeys,
    h'.voltage.trans h.voltage⟩

theorem upd (h : s.LeavesModule t) (x : LaneId) (f : LaneState → LaneState) : s.LeavesModule (t.upd x f) :=
  h.trans (by cases x <;> exact ⟨rfl, rfl, rfl, rfl, rfl⟩)

theorem ite {c : Prop} [Decidable c] (h : s.LeavesModule t) (h' : s.LeavesModule u) : s.LeavesModule (if c then t else u) := by
  split <;> assumption

theorem tossCheck (h : s.LeavesModule t) : s.LeavesModule t.tossCheck := h.trans ⟨rfl, rfl, rfl, rfl, rfl⟩

theorem takeDefaults (h : s.LeavesModule t) (x : LaneId) : s.LeavesModule (t.takeDefaults x) := by
  have hfiltered : s.LeavesModule { t with mreg := t.mreg.filter fun e => !restoredModule e.1 } :=
    h.trans ⟨rfl, rfl, rfl, rfl, (tabGet_filter (fun k => !restoredModule k) 0x120000 t.mreg).trans (if_pos (by
      rw [regWidth_slot.2]
      rfl))⟩
  exact .ite (List.foldlRecOn (motive := s.LeavesModule) _ _ hfiltered fun _ hu _ _ => hu.trans ⟨rfl, rfl, rfl, rfl, rfl⟩) h

theorem laneOff (h : s.LeavesModule t) (x : LaneId) (mode : Mode) (code : Nat) (data : List Byte) :
    s.LeavesModule (t.laneOff x mode code data) := .ite (((h.upd x _).takeDefaults x).upd x _).tossCheck (h.upd x _)

theorem release (h : s.LeavesModule t) (x : LaneId) (cause : Nat) : s.LeavesModule (t.release x cause) := by
  by_cases hmode : (t.lane x).mode = .possession
  · have hframe := State.release_frame hmode cause
    obtain ⟨hrole, hcfg, hfw⟩ := hframe.keys
    refine h.trans ⟨(congrArg Keeper.supplyGood hframe.keeper).trans ?_, hrole.trans ?_, hcfg.trans ?_, hfw.trans ?_,
      (hframe.registers.1 0x120000 (by decide)).trans ?_⟩
    · cases x <;> rfl
    · cases x <;> rfl
    · cases x <;> rfl
    · cases x <;> rfl
    · refine (State.mput_mget_ne _ (by decide) _).trans ?_
      cases x <;> rfl
  · rw [State.release_other hmode]
    exact h

end State.LeavesModule

/-- A release leaves each lane awake that was. -/
theorem State.release_awake (s : State) (x : LaneId) (cause : Nat) (y : LaneId) :
    (s.lane y).awake = true → ((s.release x cause).lane y).awake = true := by
  intro hawake
  by_cases hmode : (s.lane x).mode = .possession
  · have hframe := State.release_frame hmode cause
    obtain ⟨_, _, _, hown⟩ := hframe.own
    obtain ⟨_, hpeer⟩ := hframe.peer
    rw [State.releasing_lane] at hown
    rw [State.releasing_peer] at hpeer
    rcases lane_eq_or_peer x y with rfl | rfl
    · rw [hown]
      rfl
    · rw [hpeer]
      exact hawake
  · rw [State.release_other hmode]
    exact hawake

theorem State.lanesOff_facts (s : State) (mode : Mode) (code : Nat) (dataA dataB : List Byte) :
    s.LeavesModule (s.lanesOff mode code dataA dataB) ∧
      ∀ x, (s.lane x).GoesOff ((s.lanesOff mode code dataA dataB).lane x) mode := by
  obtain ⟨t, ht⟩ : ∃ t, t = (s.release .A 0).release .B 0 := ⟨_, rfl⟩
  have hawake (x : LaneId) (h : (s.lane x).awake = true) : (t.lane x).awake = true := by
    rw [ht]
    exact State.release_awake _ .B 0 x (s.release_awake .A 0 x h)
  have he : s.lanesOff mode code dataA dataB = (t.laneOff .A mode code dataA).laneOff .B mode code dataB := by rw [ht]; rfl
  obtain ⟨⟨hmodeA, hoffA⟩, hpeerA⟩ := t.laneOff_lanes .A mode code dataA
  obtain ⟨⟨hmodeB, hoffB⟩, hpeerB⟩ := (t.laneOff .A mode code dataA).laneOff_lanes .B mode code dataB
  rw [he]
  refine ⟨?_, fun x => ?_⟩
  · rw [ht]
    exact (((State.LeavesModule.self.release .A 0).release .B 0).laneOff .A _ _ _).laneOff .B _ _ _
  · cases x with
    | A =>
      have hA := hpeerB
      exact ⟨(congrArg (·.mode) hA).trans hmodeA, fun h => by
        obtain ⟨hfield, hevents⟩ := hoffA (hawake .A h)
        exact ⟨(congrArg (·.field) hA).trans hfield, (congrArg (fun l : LaneState => l.log.queue) hA).trans hevents⟩⟩
    | B => exact ⟨hmodeB, fun h => hoffB ((congrArg (·.awake) hpeerA).trans (hawake .B h))⟩

/-- The state after a withdrawal, and its keeper with and without a supply (R18). -/
def State.withdrawn (s : State) : State :=
  if s.keeper.supplyGood then { s with keeper := { s.keeper.ended .unmated with mated := false, withdrawn := true } }
  else { s with keeper := s.keeper.lost }

theorem State.withdrawn_facts (s : State) : s.withdrawn.keeper.mated = false ∧ s.withdrawn.keeper.withdrawn = s.keeper.supplyGood ∧
    s.withdrawn.keeper.phase = (if s.keeper.supplyGood then .unmated else .off) := by
  unfold State.withdrawn
  cases s.keeper.supplyGood <;> exact ⟨rfl, rfl, rfl⟩

/-- A withdrawal changes no more than the keeper after lanes and host front went off. -/
theorem State.withdrawn_eq (s : State) : ∃ k, s.withdrawn = { s with keeper := k } := by
  unfold State.withdrawn
  split <;> exact ⟨_, rfl⟩

theorem doWithdrawalConfirmed_eq {s : State} (hopen : s.keeper.presClosed = false) (hmated : s.keeper.mated = true) :
    doWithdrawalConfirmed s = ((s.lanesOff .unpowered 0x0003 (withdrawalData s .A) (withdrawalData s .B)).hostDark
      (keptWithdrawn (s.lanesOff .unpowered 0x0003 (withdrawalData s .A) (withdrawalData s .B)).keeper.supplyGood)).withdrawn :=
  if_neg (by simp [hopen, hmated])

theorem State.hostDark_lane (s : State) (keep : Nat → Bool) (x : LaneId) :
    (s.hostDark keep).lane x = { s.lane x with time := { (s.lane x).time with pulseHeld := false } } := by cases x <;> rfl

/-- What the module keeps of its registers as the host front goes dark. -/
theorem State.hostDark_mget (s : State) {keep : Nat → Bool} {k : Nat} :
    (s.hostDark keep).mget k = if keep k then tabGet regDefault k (tabSet regDefault 0x590002 0 s.mreg) else regDefault k :=
  tabGet_filter keep k _

/-! #### Mating -/

/-- The module as it is mated, with its slot code read (R8, R9). -/
def State.slotRead (s : State) (reads : List (BitVec 4)) : State :=
  let s := (s.mput 0x100800 (slotCodeOf reads)).mput 0x100900 (s.laneA.log.opNs / 1000000)
  { s with keeper := { s.keeper with lampTest := true } }

theorem State.slotRead_code {s : State} (h : tabCanon regDefault s.mreg = true) (reads : List (BitVec 4)) :
    (∀ v : BitVec 4, reads.length = 8 → (∀ r ∈ reads, r = v) → (s.slotRead reads).mget 0x100800 = v.toNat) ∧
      (∀ r ∈ reads, ∀ q ∈ reads, r ≠ q → (s.slotRead reads).mget 0x100800 = 0xFF) ∧
      (reads.length ≠ 8 → (s.slotRead reads).mget 0x100800 = 0xFF) := by
  have hcode : (s.slotRead reads).mget 0x100800 = slotCodeOf reads := by
    refine (State.mput_mget_ne (s.mput 0x100800 (slotCodeOf reads)) (by decide : (0x100800 : Nat) ≠ 0x100900) _).trans ?_
    refine (tabGet_tabSet_self _ _ h).trans ?_
    rw [regWidth_slot.1]
    exact Nat.mod_eq_of_lt (slotCodeOf_lt reads)
  rw [hcode]
  exact ⟨fun _ => slotCodeOf_same, fun _ hr _ hq => slotCodeOf_differs hr hq, slotCodeOf_length⟩

theorem State.powerWhenReady_uncharged {s : State} (h : s.keeper.charged = false) : s.powerWhenReady = s := if_neg (by simp [h])

theorem State.startUp_standby {s : State} (h : s.mget 0x120200 = 1) (temp : Int) :
    s.startUp temp = { s.startTrigger.mput 0x123000 0x0100 with keeper := s.keeper.ended .standby } :=
  if_pos ((State.mput_mget_ne s.startTrigger (by decide) _).trans h)

theorem State.startUp_cold {s : State} (h : s.mget 0x120200 ≠ 1) (temp : Int) :
    s.startUp temp = { s.startTrigger.mput 0x123000 0x0100 with
      keeper := { s.keeper.ended (coldPhase s.variant2 temp) with knockDue := true, charged := s.keeper.charged } } :=
  if_neg fun h' => h ((State.mput_mget_ne s.startTrigger (by decide) _).symm.trans h')

theorem doMated_eq {s : State} {reads : List (BitVec 4)} {temp : Int} (hclosed : s.keeper.presClosed = true)
    (hmated : s.keeper.mated = false) (hwithdrawn : s.keeper.withdrawn = false) (hphase : s.keeper.phase ≠ .off) :
    doMated reads temp s = ((if s.keeper.phase = .unmated then
        State.startUp { s with keeper := { s.keeper with mated := true } } temp
      else { s with keeper := { s.keeper with mated := true } }).slotRead reads).powerWhenReady :=
  if_neg (by simp [hclosed, hmated, hwithdrawn, hphase])

/-- Settles O1: the keeper's part of each command, and what a withdrawal leaves of lanes and module. -/
theorem insertionAndWithdrawal : Obligations.InsertionAndWithdrawal := by
  unfold Obligations.InsertionAndWithdrawal
  refine ⟨?_, ?_, ?_, ?_, ?_, ?_, ?_⟩
  · exact fun s => exec_next rfl rfl
  · intro s hmated
    refine exec_next rfl ?_
    unfold doPresSOpen
    simp [hmated]
  · intro s hmated hoff hawake
    refine exec_next rfl ?_
    unfold doPresSOpen
    simp [hmated, hoff, hawake]
  · intro s reads temp hcanon hclosed hmated hwithdrawn hphase hcharged
    have he := doMated_eq (reads := reads) (temp := temp) hclosed hmated hwithdrawn (by simp [hphase])
    rw [if_pos hphase] at he
    have hcode (t : State) (ht : t.mreg = tabSet regDefault 0x123000 (0x0100 % 2 ^ regWidth 0x123000) s.mreg) :=
      State.slotRead_code (s := t) (ht ▸ tabCanon_tabSet _ _ hcanon.1) reads
    by_cases hauto : s.mget 0x120200 = 1
    · rw [State.startUp_standby (s := { s with keeper := { s.keeper with mated := true } }) hauto] at he
      refine Leads.of_eq rfl (he.trans (State.powerWhenReady_uncharged rfl)) ?_
      exact ⟨rfl, rfl, fun h => absurd hauto h, fun _ => rfl, (hcode _ rfl).1, (hcode _ rfl).2.1, (hcode _ rfl).2.2, rfl⟩
    · rw [State.startUp_cold (s := { s with keeper := { s.keeper with mated := true } }) hauto] at he
      refine Leads.of_eq rfl (he.trans (State.powerWhenReady_uncharged hcharged)) ?_
      exact ⟨rfl, rfl, fun _ => ⟨rfl, rfl⟩, fun h => absurd h hauto, (hcode _ rfl).1, (hcode _ rfl).2.1, (hcode _ rfl).2.2, rfl⟩
  · intro s reads temp hcanon hclosed hmated hwithdrawn hphase hcharged
    have he := doMated_eq (reads := reads) (temp := temp) hclosed hmated hwithdrawn (by simp [hphase])
    rw [if_neg (by simp [hphase])] at he
    exact Leads.of_eq rfl (he.trans (State.powerWhenReady_uncharged hcharged)) ⟨rfl, (State.slotRead_code (s := { s with keeper := { s.keeper with mated := true } }) hcanon.1 reads).1, rfl⟩
  · intro s hwithdrawn hclosed
    exact exec_next rfl (if_pos (by simp [hwithdrawn, hclosed]))
  · intro s hopen hmated
    obtain ⟨u, hu⟩ : ∃ u, u = s.lanesOff .unpowered 0x0003 (withdrawalData s .A) (withdrawalData s .B) := ⟨_, rfl⟩
    obtain ⟨hleaves, hoff⟩ := s.lanesOff_facts .unpowered 0x0003 (withdrawalData s .A) (withdrawalData s .B)
    rw [← hu] at hleaves
    have hlane (x : LaneId) : (s.lane x).GoesOff ((u.hostDark (keptWithdrawn u.keeper.supplyGood)).lane x) .unpowered := by
      rw [State.hostDark_lane, hu]
      exact hoff x
    have he := doWithdrawalConfirmed_eq hopen hmated
    rw [← hu] at he
    have hsec : (u.hostDark (keptWithdrawn u.keeper.supplyGood)).sec.roleKeys = s.sec.roleKeys ∧
        (u.hostDark (keptWithdrawn u.keeper.supplyGood)).sec.cfgKeys = s.sec.cfgKeys ∧
        (u.hostDark (keptWithdrawn u.keeper.supplyGood)).sec.fwKeys = s.sec.fwKeys := ⟨hleaves.roleKeys, hleaves.cfgKeys, hleaves.fwKeys⟩
    have hsupply' : (u.hostDark (keptWithdrawn u.keeper.supplyGood)).keeper.supplyGood = s.keeper.supplyGood := hleaves.supply
    have hget (j : Nat) := u.hostDark_mget (keep := keptWithdrawn u.keeper.supplyGood) (k := j)
    obtain ⟨v, hv⟩ : ∃ v, v = u.hostDark (keptWithdrawn u.keeper.supplyGood) := ⟨_, rfl⟩
    have hfront : v.arb = Arbiter.reset ∧ v.host = HostState.reset ∧ v.coll = Collector.empty ∧ v.sec.hostRole = none ∧
        v.sec.challenge = none := by
      rw [hv]
      exact ⟨rfl, rfl, rfl, rfl, rfl⟩
    rw [← hv] at hlane he hsec hget hsupply'
    obtain ⟨hmated', hwithdrawn, hphase⟩ := v.withdrawn_facts
    rw [hsupply'] at hwithdrawn hphase
    obtain ⟨harb, hhost, hcoll, hrole, hchallenge⟩ := hfront
    obtain ⟨hroles, hcfg, hfw⟩ := hsec
    have hA : v.laneA.mode = .unpowered := (hlane .A).1
    have hB : v.laneB.mode = .unpowered := (hlane .B).1
    obtain ⟨k, hk⟩ := v.withdrawn_eq
    rw [hk] at hmated' hwithdrawn hphase he
    refine Leads.of_eq rfl he ⟨hmated', hwithdrawn, hphase, hA, hB, ?_, harb, hhost, hcoll, hrole, hchallenge, hroles, hcfg, hfw, ?_,
      fun j hkept hj => (hget j).trans (if_neg ?_), fun hsupply => (hget 0x120000).trans ((if_pos ?_).trans ?_)⟩
    · exact (if_neg (by simp [hA])).trans (if_neg (by simp [hB]))
    · intro x hawake
      cases x
      · exact (hlane .A).2 hawake
      · exact (hlane .B).2 hawake
    · rw [keptWithdrawn, hkept, hleaves.supply]
      rcases hj with hj | hj <;> simp [hj]
    · simp [keptWithdrawn, hleaves.supply, hsupply]
    · exact (tabGet_tabSet_ne (by decide) _ _).trans hleaves.voltage

end Sys2Proof.Machine
